-- ==== Sys2Proof/Word.lean ====
section
/-! DEFINITION. The words of the ZW4: bytes and 64-bit words (R3). -/

namespace Sys2Proof

/-- A byte. -/
abbrev Byte := BitVec 8

/-- A word is 8 bytes (R3). -/
abbrev Word := BitVec 64

end Sys2Proof
end

