-- ==== Sys2Proof/Syntax.lean ====
section
/-! DEFINITION. The commands of the block: one constructor of `Instr` for each row of spec/opcode_table.json, and the types of their operands. -/

namespace Sys2Proof

/-- The 256 bytes of a block, byte k in bits [8k+7:8k] (R3, little-endian).  A 32-byte sector lies in the low 256 bits. -/
abbrev Block := BitVec 2048

/-! ## The names of the package's parts (R3, R15 to R18) -/

/-- Hub H0 to H3. -/
abbrev Hub := Fin 4
/-- Compute die C0 to C3. -/
abbrev Cdie := Fin 4
/-- A die by its TARGET bit (R32): 0 to 3 hubs, 4 to 7 compute dies, 8 the service die. -/
abbrev DieNo := Fin 9
/-- A pseudo-channel of a hub (R16). -/
abbrev Pc := Fin 96
/-- A channel of a hub: pseudo-channels 2n and 2n + 1 (R16). -/
abbrev Chan := Fin 48
/-- A stack of a hub. -/
abbrev StackNo := Fin 3
/-- A door of a hub (R128). -/
abbrev DoorNo := Fin 9
/-- A louvre slot of a door (R132). -/
abbrev SlotNo := Fin 16
/-- A bank; per-bank tables are sized for 48 (R27). -/
abbrev Bank := Fin 48
/-- A casement. -/
abbrev Casement := Fin 32
/-- A pane (R37). -/
abbrev PaneNo := Fin 64
/-- A PCIe function: 0 the physical function, 1 to 31 virtual functions (R377). -/
abbrev FnNo := Fin 32

/-- A matrix core, die.cluster.core (R3, R17). -/
structure CoreId where
  die : Cdie
  cluster : Fin 100
  core : Fin 64
  deriving DecidableEq, Repr

/-- The five engine types of R309, in the order of their type codes. -/
inductive Engine where
  | matrix | move | page | ring | hub
  deriving DecidableEq, Repr

/-- A queue: engine type, the number of the engine and the index within it (R309, R310). -/
structure QueueId where
  engine : Engine
  inst : Fin 4
  idx : Fin 32
  deriving DecidableEq, Repr

/-- The request classes of R10. -/
inductive ReqClass where
  | urgent | normal | bulk | collective | maint
  deriving DecidableEq, Repr

/-- The completion status codes of R11. -/
inductive Status where
  | done | uncorrectable | poisonRead | poisonMerge | fenced | fetchTrap | timeout
  | stallGrantExceeded | casementReset | denied | pageAbsentTimeout | badCommand
  | badAlignment | thermalClosed | halted
  deriving DecidableEq, Repr

/-! ## Accesses of the PCIe host (R378) -/

inductive Bar where
  | bar0 | bar2 | bar4
  deriving DecidableEq, Repr

/-- One access: the BAR, the function, the offset in the BAR and the width in bytes. -/
structure Access where
  bar : Bar
  fn : FnNo
  off : Nat
  width : Nat
  deriving DecidableEq, Repr

/-! ## Messages of the Aksal interface (R391, R392) -/

/-- A request of a compute die: the header fields of R391 and the payload of R392.
`mask` has bit n set when byte n is written. -/
structure AkReq where
  mtype : Nat
  cls : Nat
  cas : Nat
  srcTag : Nat
  tag : Nat
  masked : Bool
  pool : Nat
  block : Nat
  uc : Bool
  addr : Nat
  mask : BitVec 256
  lpage : Nat
  data : Block
  deriving DecidableEq, Repr

/-- A response to a compute die (R391). -/
structure AkRsp where
  mtype : Nat
  status : Status
  srcTag : Nat
  tag : Nat
  poison : Nat
  pkind : Nat
  data : Block
  deriving DecidableEq, Repr

/-! ## Packets of the Trowiry fabric (R364) -/

structure Packet where
  dest : Nat
  src : Nat
  mclass : Nat
  vc : Bool
  flow : Bool
  cas : Nat
  cls : Nat
  flits : Nat
  tag : Nat
  addr : Nat
  set : Nat
  status : Nat
  step : Nat
  data : Block
  deriving DecidableEq, Repr

/-! ## What the board, the stacks and the flash present -/

/-- The straps of R69, sampled when PKG_RST_N rises. -/
structure Straps where
  boot : Fin 4
  slew : Fin 4
  i3cAddr : Fin 4
  deriving DecidableEq, Repr

/-- What one stack answers at identification (R27, R263).  `softLeft`, `hardLeft` and `laneLeft` are the spares of every bank and pseudo-channel. -/
structure StackId where
  bankCode : Fin 4
  dies : Nat
  capacityGib : Nat
  maxRate : Nat
  vendor : Nat
  softLeft : Nat
  hardLeft : Nat
  laneLeft : Nat
  pgmMs : Nat
  deriving DecidableEq, Repr

/-- What the steps of R228 find on one lane: the first and last passing delay codes and reference codes of its step (of step 3 on a data lane);
on a data lane, the same of step 4 (`w`), and the bit errors of step 5 at the centre and at 4 codes to either side. -/
structure LaneEye where
  lane : Nat
  delayLo : Nat
  delayHi : Nat
  vrefLo : Nat
  vrefHi : Nat
  wLo : Nat := 0
  wHi : Nat := 0
  wvLo : Nat := 0
  wvHi : Nat := 0
  margin : Nat := 0
  deriving DecidableEq, Repr

/-- What training finds on one pseudo-channel: the first pass and, where lanes are repaired, the repetition (R228, R229). -/
structure PcTraining where
  hub : Hub
  pc : Pc
  eyes : List LaneEye
  again : List LaneEye
  deriving DecidableEq, Repr

/-- What a retrain pause measures on a data lane: the way its read and its write delay have to move (R235). -/
structure LaneMove where
  lane : Nat
  read : Int
  write : Int
  deriving DecidableEq, Repr

/-- The result of one retrain pause of a pseudo-channel: the lanes' moves, and whether a lane showed an error at its centre trim (R235, R236). -/
structure PauseRes where
  hub : Hub
  pc : Pc
  moves : List LaneMove
  err : Bool
  deriving DecidableEq, Repr

/-- The directions of the sash ring. -/
inductive RingDir where
  | up | down
  deriving DecidableEq, Repr

/-- A flit that a hub sends on the sash ring: its direction, and whether it arrived good (R21). -/
structure RingFlit where
  dir : RingDir
  good : Bool
  deriving DecidableEq, Repr

/-- What phase 17 finds: the first pauses, steps 3 and 4 of training where one failed, and the second pauses (R231). -/
structure ExitResults where
  first : List PauseRes
  found : List PcTraining
  second : List PauseRes
  deriving DecidableEq, Repr

/-- The moves that the pause of one pseudo-channel in step 8 of a hinge finds (R213, R235). -/
structure PauseMoves where
  hub : Hub
  pc : Pc
  moves : List LaneMove
  deriving DecidableEq, Repr

/-- What the compare helper finds: bit errors by lane, and the lanes' eyes where an engine trains (R226, R228). -/
structure CompareRes where
  errs : List (Nat × Nat)
  eyes : List LaneEye
  deriving DecidableEq, Repr

/-- A parity alert of a channel, and the CCLK that it lasts (R240). -/
structure ChanAlert where
  chan : Chan
  cclk : Nat
  deriving DecidableEq, Repr

/-- A burst as it comes back from the stack differs from what was stored by an error pattern on the 36 lanes: (symbol, 8 bits over the beats), R244. -/
abbrev BurstError := List (Nat × Byte)

/-! ## The commands -/

/-- The commands of the block, one for each row of spec/opcode_table.json, in the table's order.
A row that is an event carries what its source presents; a row that is an instruction of a matrix core carries the core, whose instruction cache and pointer give the instruction word (R306);
a row that is a command of an engine carries the queue, whose fetched entry gives the words (R317). -/
inductive Instr where
  -- access to registers
  | registerWrite (a : Access) (v : Word)
  | halfRead (a : Access)
  -- the sash ring
  | ringForward (h : Hub) (dir : RingDir)
  | ringFlitRetry (h : Hub) (f : RingFlit)
  | ringLinkDown (h : Hub)
  -- the structure image
  | imageLoad (src : List Byte)
  | imgGo
  | targetReady (h : Hub)
  | commitTick
  | imgAbort
  | quiesce (panes : Word)
  | quiesced (n : PaneNo)
  | advance
  -- supply
  | busSample (deciVolt : Nat)
  | pf1
  | pf1Clear
  | pf2
  | pfN (lowNs : Nat)
  | brownout
  | surgeWarning
  | writeDrainEnd (h : Hub) (p : Pc)
  | keepReq
  | slewEstimate (deciAmp : Nat)
  | vaonPowerUp
  | kaPg
  | kaPgLoss
  | pwrGood
  -- clocks
  | pllLock (d : DieNo)
  | refLoss (silentNs : Nat)
  | refReturn
  | timeExchange
  | timePacket (pkt : Packet)
  -- resets and bring-up
  | pkgRstN (high : Bool) (straps : Straps)
  | warmRstN (high : Bool)
  | perstN (high : Bool)
  | warm (v : BitVec 32)
  | cold (v : BitVec 32)
  | coldBringup
  | firstStage (container : List Byte)
  | pcieReadiness
  | hubFirmware (container : List Byte)
  | ringLinkUp (fails : List Hub)
  | stackIdentification (found : List (Hub × StackNo × StackId))
  | relock
  | softRepairs (refused : List (Hub × Nat))
  | training (found : List PcTraining)
  | memoryClear
  | aksalLinkUp
  | computeRelease (fails : List Cdie)
  | enginesSet
  | ready
  | warmBringup
  | configurationCrcCheck (fails : List Hub)
  | selfRefreshExitCheck (latched : List (Hub × Word)) (r : ExitResults)
  | enginesRestored
  | bootWatchdog
  | recovGo
  | casementReset (v : BitVec 32)
  | caseSelfRst (fn : FnNo)
  | casementResetComplete (c : Casement)
  -- windows and layouts
  | svcWinBase (c : Casement) (v : Word)
  | layoutSwitch
  -- doors
  | doorArrival (h : Hub) (d : DoorNo) (latch : Nat)
  | doorAdmit (h : Hub) (p : Pc)
  | louvreWindow (h : Hub) (d : DoorNo) (k : SlotNo)
  | darbPrio (h : Hub) (n : PaneNo) (v : Word)
  | doorMask (h : Hub) (d : DoorNo)
  | doorUnmask (h : Hub) (d : DoorNo)
  -- the pseudo-channel
  | slotGrant (h : Hub) (p : Pc)
  | ageCeiling (h : Hub) (p : Pc)
  | waitStep (h : Hub) (p : Pc) (b : Bank)
  | transomMergeWindow (h : Hub) (p : Pc) (b : Bank)
  | readReturn (h : Hub) (p : Pc) (errs : List BurstError)
  | merge (h : Hub) (p : Pc) (errs : List BurstError)
  | pcDebugHalt (h : Hub) (p : Pc)
  | halted (h : Hub) (p : Pc)
  | haltClear (h : Hub) (p : Pc)
  | pcDebugCmd (h : Hub) (p : Pc) (v : Word)
  -- refresh
  | due (h : Hub) (p : Pc) (b : Bank)
  | refPb (h : Hub) (p : Pc)
  | emergencyRefresh (h : Hub) (p : Pc)
  | refAb (h : Hub) (p : Pc)
  | srEntry (h : Hub) (p : Pc)
  | srExit (h : Hub) (p : Pc)
  | actTableClear (h : Hub) (p : Pc)
  | neighbourRefresh (h : Hub) (p : Pc) (b : Bank)
  -- hinges and power states
  | hingeRequest (target : Fin 8)
  | hingeStart
  | switchTick
  | hingeRelease (moves : List PauseMoves) (failing : List (Hub × Pc))
  | clusterGate (d : Cdie) (k : Fin 100)
  | clusterUngate (d : Cdie) (k : Fin 100)
  | powerStateRequest (v : BitVec 32)
  -- training
  | trnStart (h : Hub) (p : Pc)
  | compareDone (h : Hub) (p : Pc) (r : CompareRes)
  | retrainDue (h : Hub) (p : Pc)
  | retrainPause (h : Hub) (p : Pc)
  | retrainPauseEnd (h : Hub) (p : Pc) (moves : List LaneMove) (centreErr : Bool)
  | parityAlert (h : Hub) (a : ChanAlert)
  | replay (h : Hub) (p : Pc)
  | replayEnd (h : Hub) (p : Pc)
  -- stored-data protection
  | bucketLeak (h : Hub)
  -- the 1500 port
  | portOperation (h : Hub) (st : StackNo)
  | programStep (h : Hub) (st : StackNo)
  | directAccess (h : Hub) (shiftedIn : List Byte)
  -- heat
  | temperatureReadout (h : Hub) (st : StackNo) (celsius : Int)
  | dieReading (d : DieNo) (sensors : List Int)
  | closureAnnouncement (d : DieNo) (h : Hub) (st : StackNo)
  | stale (h : Hub) (st : StackNo)
  | throttle (d : Cdie) (level : Fin 8)
  | thermTripN (d : DieNo)
  -- matrix core instructions
  | coreNop (k : CoreId)
  | coreEnd (k : CoreId)
  | coreLoop (k : CoreId)
  | setag (k : CoreId)
  | setsb (k : CoreId)
  | waits (k : CoreId)
  | coreSync (k : CoreId)
  | trace (k : CoreId)
  | movt (k : CoreId)
  | zero (k : CoreId)
  | fill (k : CoreId)
  | trn (k : CoreId)
  | sget (k : CoreId)
  | sput (k : CoreId)
  | sgets (k : CoreId)
  | sputs (k : CoreId)
  | mma (k : CoreId)
  | mma8 (k : CoreId)
  | add (k : CoreId)
  | sub (k : CoreId)
  | mul (k : CoreId)
  | fma (k : CoreId)
  | max (k : CoreId)
  | min (k : CoreId)
  | abs (k : CoreId)
  | cmp (k : CoreId)
  | sel (k : CoreId)
  | lut (k : CoreId)
  | rcp (k : CoreId)
  | rsq (k : CoreId)
  | rsum (k : CoreId)
  | rmax (k : CoreId)
  | rowop (k : CoreId)
  | scl (k : CoreId)
  | cvt (k : CoreId)
  | unpk (k : CoreId)
  | cvti (k : CoreId)
  | iadd (k : CoreId)
  | streamArrival (k : CoreId)
  | kernelComplete (d : Cdie) (q : Fin 32)
  | clusterClear (d : Cdie) (k : Fin 100)
  | tableFetch (d : Cdie) (k : Fin 100)
  -- queues
  | queueDb (q : QueueId) (tail : BitVec 16)
  | queueCplDb (q : QueueId) (head : BitVec 16)
  | commandFetch (q : QueueId)
  | completionRecord (q : QueueId)
  | engineNop (q : QueueId)
  | wait (q : QueueId)
  | signal (q : QueueId)
  | syncCnt (c : Casement) (n : Fin 16) (v : Word)
  | dispatch (q : QueueId)
  | copy (q : QueueId)
  | moveFill (q : QueueId)
  | enable (q : QueueId)
  | restart (q : QueueId)
  | watchdog (q : QueueId)
  -- pages and expanders
  | poolInit (q : QueueId)
  | alloc (q : QueueId)
  | free (q : QueueId)
  | spill (q : QueueId)
  | prefetch (q : QueueId)
  | fetchDone (h : Hub) (pt : Nat) (lpage : Nat) (blocks : List Block)
  | prefetchWindow (h : Hub) (pt : Nat) (lpage : Nat)
  | transportError (h : Hub) (pt : Nat) (lpage : Nat)
  | ptInval (q : QueueId)
  | expLoad (q : QueueId)
  | expBind (q : QueueId)
  | expRelease (q : QueueId)
  | tileDone (d : Cdie) (e : Fin 8)
  -- collectives
  | allReduce (q : QueueId)
  | reduceScatter (q : QueueId)
  | allGather (q : QueueId)
  | broadcast (q : QueueId)
  | rotate (q : QueueId)
  | shardPut (q : QueueId)
  | barrier (q : QueueId)
  | collectiveDeadline (q : QueueId)
  -- HUB commands
  | fenceAdd (q : QueueId)
  | fenceDel (q : QueueId)
  | scrub (q : QueueId)
  | repair (q : QueueId)
  | retrain (q : QueueId)
  | march (q : QueueId)
  | release (q : QueueId)
  | hinge (q : QueueId)
  | caseReset (q : QueueId)
  -- the fabric
  | portTraining (h : Hub) (j : Fin 4) (lanes8 : Bool)
  | linkFail (h : Hub) (j : Fin 4) (silentUs : Nat)
  | trainingRetry (h : Hub) (j : Fin 4)
  | route (h : Hub) (pkt : Packet)
  | rdreq (h : Hub) (j : Fin 4) (pkt : Packet)
  | wrreq (h : Hub) (j : Fin 4) (pkt : Packet)
  | rdrsp (h : Hub) (pkt : Packet)
  | wrack (h : Hub) (pkt : Packet)
  | coll (h : Hub) (pkt : Packet)
  | collReady (h : Hub) (pkt : Packet)
  | stall (h : Hub) (pkt : Packet)
  -- the host
  | bar2Read (fn : FnNo) (off : Nat) (len : Nat)
  | bar2Write (fn : FnNo) (off : Nat) (data : List Byte)
  | configurationRequest (fn : FnNo) (off : Nat) (write : Option (BitVec 32))
  | flr (fn : FnNo)
  | hostReadError (q : QueueId)
  -- Aksal
  | rdBlk (d : Cdie) (m : AkReq)
  | rdSec (d : Cdie) (m : AkReq)
  | wrBlk (d : Cdie) (m : AkReq)
  | wrSec (d : Cdie) (m : AkReq)
  | pgRd (d : Cdie) (m : AkReq)
  | rdRsp (d : Cdie) (m : AkRsp)
  | wrRsp (d : Cdie) (m : AkRsp)
  | flitError (d : Cdie) (h2c : Bool) (slice : Fin 16) (crcBad : Bool) (seq : Fin 64)
  | nak (d : Cdie) (h2c : Bool) (slice : Fin 16) (seq : Fin 64)
  | nakResend (d : Cdie) (h2c : Bool) (slice : Fin 16)
  | aksalDown (d : Cdie)
  | cdRstN (d : Cdie) (high : Bool)
  | cdPwrOk (d : Cdie) (high : Bool)
  | hbRstN (d : Cdie) (high : Bool)
  | hbPwrOk (d : Cdie) (high : Bool)
  | trainingState (d : Cdie) (dieToggled : Bool) (spares : List (Fin 24 × List Nat))
  | stateTimeout (d : Cdie)
  -- counters, sampling, trace
  | counterRead (a : Access)
  | freeze (d : Fin 8)
  | thaw (d : Fin 8)
  | fnCntCfg (fn : FnNo) (slot : Fin 64) (v : BitVec 32)
  | sampleRecord (h : Hub)
  | traceRecord (h : Hub)
  | trcCtrl (h : Hub) (v : BitVec 32)
  -- rows added after the first
  | registerRead (a : Access)
  | pwrGoodLoss
  | hostReadCompletion (q : QueueId) (data : Block)
  | trowiryFlitRetry (h : Hub) (j : Fin 4) (ok : Bool)
  | msixUnmask (fn : FnNo) (vec : Fin 64)
  deriving DecidableEq, Repr

end Sys2Proof
end

