-- ==== Sys2Proof/Machine/Crypto.lean ====
section
/-! DEFINITION. The checks of a signed image: CRC-32C, SHA-384 (FIPS 180-4) and ECDSA on P-384 (FIPS 186), as R29, R32, R40 and R41 name them. -/

namespace Sys2Proof.Machine

/-! ## CRC-32C -/

/-- One bit of the reflected CRC with polynomial 0x82F63B78. -/
def crcBit (c : Nat) : Nat := if c % 2 = 1 then (c / 2) ^^^ 0x82F63B78 else c / 2

def crcByte (c : Nat) (b : Byte) : Nat := crcBit (crcBit (crcBit (crcBit (crcBit (crcBit (crcBit (crcBit (c ^^^ b.toNat))))))))

/-- CRC-32C of bytes. -/
def crc32c (l : List Byte) : Nat := l.foldl crcByte 0xFFFFFFFF ^^^ 0xFFFFFFFF

/-! ## SHA-384 -/

/-- Bits n-1 to 0 of the root of a number: each is set where the power of the root so far does not pass the number. -/
def rootFrom (e v : Nat) : Nat → Nat → Nat
  | 0, r => r
  | n + 1, r => rootFrom e v n (if (r + 2 ^ n) ^ e ≤ v then r + 2 ^ n else r)

/-- The first 64 bits of the fraction of the e-th root of p (FIPS 180-4: the words that SHA-384 starts from come of roots of primes). -/
def rootFraction (e p : Nat) : BitVec 64 := BitVec.ofNat 64 (rootFrom e (p * 2 ^ (64 * e)) 70 0)

/-- The primes below n. -/
def primesBelow (n : Nat) : List Nat := (List.range n).filter fun p => decide (2 ≤ p) && (List.range p).all fun d => decide (d < 2) || p % d != 0

/-- A constant for each of the 80 rounds: cube roots of the first 80 primes. -/
def shaConstants : List (BitVec 64) := (primesBelow 410).map (rootFraction 3)

/-- The eight words before the first block: square roots of the ninth to the sixteenth prime. -/
def shaStart : List (BitVec 64) := ((primesBelow 54).drop 8).map (rootFraction 2)

/-- The sum of a word's rotations. -/
def rotations (l : List Nat) (x : BitVec 64) : BitVec 64 := l.foldl (fun y n => y ^^^ x.rotateRight n) 0

/-- One round, its constant and its schedule word added already: the words move down by one, and two of them take what the others mix. -/
def shaRound (v : List (BitVec 64)) (x : BitVec 64) : List (BitVec 64) :=
  let word := fun n => v.getD n 0
  let t := x + word 7 + rotations [14, 18, 41] (word 4) + (word 6 ^^^ (word 4 &&& (word 5 ^^^ word 6)))
  let u := rotations [28, 34, 39] (word 0) + ((word 0 &&& (word 1 ||| word 2)) ||| (word 1 &&& word 2))
  (t + u) :: v.take 3 ++ (word 3 + t) :: (v.drop 4).take 3

/-- The rounds of a block; `w` holds the next 16 words of the schedule. -/
def shaRounds (v w : List (BitVec 64)) : List (BitVec 64) → List (BitVec 64)
  | [] => v
  | k :: rest =>
    let late := w.getD 14 0
    let early := w.getD 1 0
    let next := w.headD 0 + w.getD 9 0 + (rotations [1, 8] early ^^^ early >>> 7) + (rotations [19, 61] late ^^^ late >>> 6)
    shaRounds (shaRound v (k + w.headD 0)) (w.drop 1 ++ [next]) rest

/-- The number that bytes spell, the first the most significant. -/
def bigEndian (l : List Byte) : Nat := l.foldl (fun n b => 256 * n + b.toNat) 0

/-- n bytes of a number, the most significant first. -/
def toBytes : Nat → Nat → List Byte
  | 0, _ => []
  | n + 1, x => toBytes n (x / 256) ++ [BitVec.ofNat 8 x]

/-- The words of n blocks of 128 bytes mixed into `v`, block after block. -/
def shaBlocks (v : List (BitVec 64)) (l : List Byte) : Nat → List (BitVec 64)
  | 0 => v
  | n + 1 =>
    let words := (List.range 16).map fun k => BitVec.ofNat 64 (bigEndian ((l.drop (8 * k)).take 8))
    shaBlocks (List.zipWith (· + ·) v (shaRounds v words shaConstants)) (l.drop 128) n

/-- A message with a one bit, zeros and its length in bits, to whole blocks. -/
def shaPadded (l : List Byte) : List Byte :=
  l ++ 0x80 :: List.replicate ((239 - l.length % 128) % 128) 0 ++ toBytes 16 (8 * l.length)

/-- SHA-384 of a message, as a number of 384 bits. -/
def sha384 (l : List Byte) : Nat :=
  ((shaBlocks shaStart (shaPadded l) (l.length / 128 + if l.length % 128 < 112 then 1 else 2)).take 6).foldl (fun n w => n * 2 ^ 64 + w.toNat) 0

/-! ## ECDSA on P-384 -/

/-- The field's prime. -/
def p384 : Nat := 0xFFFFFFFFFFFFFFFFFFFFFFFFFFFFFFFFFFFFFFFFFFFFFFFFFFFFFFFFFFFFFFFEFFFFFFFF0000000000000000FFFFFFFF

/-- The order of the base point. -/
def p384n : Nat := 0xFFFFFFFFFFFFFFFFFFFFFFFFFFFFFFFFFFFFFFFFFFFFFFFFC7634D81F4372DDF581A0DB248B0A77AECEC196ACCC52973

/-- The coefficient b; a is −3. -/
def p384b : Nat := 0xB3312FA7E23EE7E4988E056BE3F82D19181D9C6EFE8141120314088F5013875AC656398D8A2ED19D2A85C8EDD3EC2AEF

/-- The base point. -/
def p384gx : Nat := 0xAA87CA22BE8B05378EB1C71EF320AD746E1D3B628BA79B9859F741E082542A385502F25DBF55296C3A545E3872760AB7

/-- Its y. -/
def p384gy : Nat := 0x3617DE4A96262C6F5D9E98BF9292DC29F8F41DBD289A147CE9DA3113B5F0B8C00A60B1CE1D7E819D7A431D7C90EA0E5F

/-- x^e mod m by squaring, over the low n bits of e. -/
def powMod (m : Nat) : Nat → Nat → Nat → Nat
  | 0, _, _ => 1
  | n + 1, x, e =>
    let t := powMod m n (x * x % m) (e / 2)
    if e % 2 = 1 then x * t % m else t

/-- The inverse modulo a prime below 2^384. -/
def invMod (m x : Nat) : Nat := powMod m 384 (x % m) (m - 2)

/-- A point in Jacobian coordinates; z = 0 is the point at infinity. -/
structure EcPoint where
  x : Nat
  y : Nat
  z : Nat
  deriving DecidableEq, Repr

def subP (a b : Nat) : Nat := (a + p384 - b % p384) % p384

def ecDouble (q : EcPoint) : EcPoint :=
  let zz := q.z * q.z % p384
  let yy := q.y * q.y % p384
  let s := 4 * q.x * yy % p384
  let m := 3 * (subP q.x zz) * ((q.x + zz) % p384) % p384
  let x := subP (m * m % p384) (2 * s)
  { x := x, y := subP (m * subP s x % p384) (8 * yy * yy), z := 2 * q.y * q.z % p384 }

def ecAdd (q r : EcPoint) : EcPoint :=
  if q.z = 0 then r else if r.z = 0 then q
  else
    let z1 := q.z * q.z % p384
    let z2 := r.z * r.z % p384
    let u1 := q.x * z2 % p384
    let u2 := r.x * z1 % p384
    let s1 := q.y * z2 * r.z % p384
    let s2 := r.y * z1 * q.z % p384
    if u1 = u2 then (if s1 = s2 then ecDouble q else { x := 1, y := 1, z := 0 })
    else
      let h := subP u2 u1
      let i := subP s2 s1
      let hh := h * h % p384
      let hhh := h * hh % p384
      let v := u1 * hh % p384
      let x := subP (subP (i * i % p384) hhh) (2 * v)
      { x := x, y := subP (i * subP v x % p384) (s1 * hhh), z := h * q.z * r.z % p384 }

/-- k times a point, over the low n bits of k. -/
def ecMul : Nat → Nat → EcPoint → EcPoint
  | 0, _, _ => { x := 1, y := 1, z := 0 }
  | n + 1, k, q =>
    let t := ecMul n (k / 2) (ecDouble q)
    if k % 2 = 1 then ecAdd q t else t

/-- A pair lies on the curve. -/
def onCurve (x y : Nat) : Bool :=
  decide (x < p384) && decide (y < p384) && y * y % p384 == (x * x * x + (p384 - 3) * x + p384b) % p384

/-- The signature (r, s) of a message verifies under a public key. -/
def ecdsaVerify (x y r s : Nat) (msg : List Byte) : Bool :=
  if onCurve x y && decide (0 < r) && decide (r < p384n) && decide (0 < s) && decide (s < p384n) then
    let w := invMod p384n s
    let q := ecAdd (ecMul 384 (sha384 msg * w % p384n) { x := p384gx, y := p384gy, z := 1 }) (ecMul 384 (r * w % p384n) { x := x, y := y, z := 1 })
    let zi := invMod p384 q.z
    q.z != 0 && q.x * zi * zi % p384 % p384n == r
  else false

end Sys2Proof.Machine
end

