-- ==== Sys2Proof/Config.lean ====
section
/-! DEFINITION. What is fixed for the machine: clock ratios, codes, and the FREE VALUES, constants without a body of which nothing can be proved (log entry 10). -/

namespace Sys2Proof.Config

/-! ## Free values -/

/-- Which of the fp32 numbers within 1 ulp of 1 / x RCP gives (R299): 0 the one below, 1 the nearest, 2 the one above. -/
opaque rcpChoice : BitVec 32 → Fin 3
/-- The same for RSQ (R299). -/
opaque rsqChoice : BitVec 32 → Fin 3
/-- RCP of a zero: no exact result is stated (R296, R299). -/
opaque rcpOfZero : BitVec 32 → BitVec 32
/-- RSQ of a zero or of a negative number: no exact result is stated (R296, R299). -/
opaque rsqUndefined : BitVec 32 → BitVec 32
/-- The pair number of a LUT whose (x - lo) × scale is not a finite number (R299). -/
opaque lutIndex : BitVec 32 → BitVec 32 → BitVec 32 → Fin 64
/-- A sum or product of the tile unit or of an array that has no exact result: opposite infinities, or an infinity multiplied by zero (R298, R299). -/
opaque noResult : BitVec 32 → BitVec 32 → BitVec 32
/-- An element of an expanded tile whose sum has no exact result (R350), by the draw and the element. -/
opaque noTile : Nat → Nat → BitVec 16
/-- A sum of two int32 elements outside the format, in a collective (R367 states no result). -/
opaque intSum : BitVec 32 → BitVec 32 → BitVec 32
/-- MAX and MIN of two zeros of different sign: which of them results (R296). -/
opaque zeroPick : BitVec 32 → BitVec 32 → Bool
/-- The value of an average or a reading that the spec leaves open at the n-th draw of the model's counter. -/
opaque freeWord : Nat → Word
/-- The value a read of a powered-down or unwritten on-chip window returns at the n-th draw. -/
opaque freeBlock : Nat → Block

/-- Whether a stack takes a repair that is loaded into it, at the n-th draw (R271: a stack may refuse). -/
opaque repairTaken : Nat → Bool

/-- Whether a record just blown reads back as it was blown, at the n-th draw (R265: a read-back may find it bad). -/
opaque fuseTakes : Nat → Bool
/-- What a record blown badly reads as. -/
opaque fuseBad : Nat → Word

/-- How a trace record of a type lays its payload items out in words 2 and 3: R420 names the items and gives no bits. -/
opaque tracePayload : Nat → List Nat → BitVec 128

/-! ## Codes of R10 and R11 -/

def classOf (n : Nat) : Option ReqClass :=
  match n with
  | 0 => some .urgent
  | 1 => some .normal
  | 2 => some .bulk
  | 3 => some .collective
  | 4 => some .maint
  | _ => none

def classCode : ReqClass → Nat
  | .urgent => 0
  | .normal => 1
  | .bulk => 2
  | .collective => 3
  | .maint => 4

/-- The status byte of R11. -/
def statusCode : Status → Nat
  | .done => 0x00
  | .uncorrectable => 0x10
  | .poisonRead => 0x11
  | .poisonMerge => 0x12
  | .fenced => 0x13
  | .fetchTrap => 0x20
  | .timeout => 0x30
  | .stallGrantExceeded => 0x31
  | .casementReset => 0x40
  | .denied => 0x41
  | .pageAbsentTimeout => 0x50
  | .badCommand => 0x60
  | .badAlignment => 0x61
  | .thermalClosed => 0x70
  | .halted => 0x7F

/-- The place of a status in the order of R13; the first that applies is reported. -/
def statusRank : Status → Nat
  | .badCommand => 0
  | .badAlignment => 1
  | .denied => 2
  | .casementReset => 3
  | .halted => 4
  | .thermalClosed => 5
  | .stallGrantExceeded => 6
  | .timeout => 7
  | .pageAbsentTimeout => 8
  | .fenced => 9
  | .fetchTrap => 10
  | .uncorrectable => 11
  | .poisonRead => 12
  | .poisonMerge => 13
  | .done => 14

/-- The one of two conditions that R13 reports. -/
def worse (a b : Status) : Status := if statusRank a ≤ statusRank b then a else b

/-! ## Clocks (R76, R77) -/

/-- The root PLL's multiplier M at a hinge point (R76): ROOT is M × 100 MHz, so M cycles a TIME64 tick. -/
def rootMult (hp : Nat) : Nat :=
  match hp with
  | 0 => 64
  | 1 => 56
  | 2 => 48
  | 3 => 40
  | _ => 20

/-- The KCLK divider k at a hinge point (R77). -/
def kDiv (hp : Nat) : Nat :=
  match hp with
  | 0 => 6
  | 1 => 5
  | 2 => 5
  | _ => 4

/-- CCLK cycles in one TIME64 tick: CCLK is ROOT / 4 (R77). -/
def cclkPerTick (hp : Nat) : Nat := rootMult hp / 4

/-- Pin rate in units of 0.1 Gb/s: ROOT Gb/s (R77, R185). -/
def pinRate (hp : Nat) : Nat := rootMult hp

/-- Door buffer entries (R128). -/
def doorEntries (d : Nat) : Nat :=
  match d with
  | 0 => 512
  | 5 => 128
  | 7 => 128
  | 8 => 8
  | _ => 256

/-- TIME64 ticks in a microsecond, a millisecond and a second (R82: one tick is 10 ns). -/
def usTicks (n : Nat) : Nat := 100 * n
def msTicks (n : Nat) : Nat := 100000 * n
def secTicks (n : Nat) : Nat := 100000000 * n

/-- The last entry of a sparse list of 2^48 addresses (R113). -/
def addrLimit : Nat := 2 ^ 48

end Sys2Proof.Config
end

