-- ==== Sys2Proof/Machine/CfgTypes.lean ====
section
/-! DEFINITION. The frames of the structure image (R36) as data: what the loader reads from a payload. -/

namespace Sys2Proof.Machine

/-- HINGE (R207). -/
structure HingeCfg where
  enabled : Nat
  boot : Nat
  dwellMs : Nat
  deriving DecidableEq, Repr

/-- One entry of a PINS frame (R441). -/
structure PinEntry where
  row : Nat
  col : Nat
  func : Nat
  attr : Nat
  deriving DecidableEq, Repr

/-- One insertion of a command entry (R182). -/
structure InsertCfg where
  source : Nat
  width : Nat
  start : Nat
  lsb : Nat
  deriving DecidableEq, Repr

/-- A command entry of a profile (R182). -/
structure CmdEntry where
  code : Nat
  column : Bool
  words : Nat
  tclass : Nat
  effect : Nat
  pattern : BitVec 64
  inserts : List InsertCfg
  deriving DecidableEq, Repr

/-- STACK_PROFILE (R181).  `mr` pairs a mode-register address with its values for HP0 to HP4. -/
structure ProfileCfg where
  index : Nat
  vendors : List Nat
  bankMask : Nat
  rowLog2 : Nat
  rateMin : Nat
  rateMax : Nat
  banksPerGroup : Nat
  parity : Bool
  rfm : Bool
  mr : List (Nat × List Nat)
  cmds : List CmdEntry
  deriving DecidableEq, Repr

/-- A constraint entry of a timing set (R177). -/
structure TimingRule where
  cfrom : Nat
  cto : Nat
  scope : Nat
  window : Bool
  value : Nat
  limit : Nat
  deriving DecidableEq, Repr

/-- TIMING_SET (R177). -/
structure TimingCfg where
  profile : Nat
  hinge : Nat
  rl : Nat
  wl : Nat
  parLat : Nat
  rules : List TimingRule
  deriving DecidableEq, Repr

/-- A step entry (R173). -/
inductive Step where
  | fin
  | row (cmd addr : Nat)
  | col (cmd : Nat) (autoInc : Bool) (addr sel : Nat)
  | wait (count : Nat)
  | loop (target count : Nat)
  | event (e : Nat)
  deriving DecidableEq, Repr

/-- STEP_TABLE (R175): `dispatch` has 48 entries, 3 × operation + state. -/
structure StepTableCfg where
  profile : Nat
  dispatch : List Nat
  steps : List Step
  deriving DecidableEq, Repr

/-- REFRESH (R202). -/
structure RefreshCfg where
  windowMs : Nat
  refs : Nat
  postponeMax : Nat
  srIdleUs : Nat
  deriving DecidableEq, Repr

/-- DISTURB (R203). -/
structure DisturbCfg where
  threshold : Nat
  method : Nat
  radius : Nat
  deriving DecidableEq, Repr

/-- ADJACENCY (R204): `rules` pairs COND with MASK. -/
structure AdjacencyCfg where
  profile : Nat
  rowBits : Nat
  subLog2 : Nat
  perm : List Nat
  rules : List (Nat × Nat)
  deriving DecidableEq, Repr

/-- ECC (R253). -/
structure EccCfg where
  capacity : Nat
  leakMs : Nat
  deriving DecidableEq, Repr

/-- The action of a tier (R281). -/
structure ThermAction where
  genShare : Nat
  collShare : Nat
  throttle : Nat
  hingeCap : Nat
  deriving DecidableEq, Repr

/-- THERMAL (R281): entries E1 to E3; actions for WARM, HOT, CRITICAL. -/
structure ThermalCfg where
  avgMs : Nat
  hyst : Nat
  dieEntry : List Nat
  stackEntry : List Nat
  actions : List ThermAction
  deriving DecidableEq, Repr

/-- A pane definition (R37).  MODES bits are `guarded`, `bucket` and `allBank`. -/
structure PaneDef where
  id : Nat
  order : Nat
  granLog2 : Nat
  guarded : Bool
  bucket : Bool
  allBank : Bool
  cas : Nat
  group : Option Nat
  pcCount : Nat
  base : Nat
  size : Nat
  mask : BitVec 384
  rowFirst : Nat
  rowCount : Nat
  deriving DecidableEq, Repr

/-- LAYOUT_SET (R39). -/
structure LayoutSetCfg where
  group : Nat
  set : Nat
  active : Bool
  entries : List PaneDef
  deriving DecidableEq, Repr

/-- One door of a DOOR_MAP frame (R442): `srcMap` gives each casement's source group. -/
structure DoorCfg where
  enable : Bool
  firm : Bool
  urgentCred : Nat
  maintCred : Nat
  srcValid : BitVec 32
  srcMap : List Nat
  deriving DecidableEq, Repr

/-- One slot of a LOUVRE frame (R443). -/
structure LouvreSlotCfg where
  group : Nat
  cas : Nat
  valid : Bool
  window : Nat
  budget : Nat
  urgent : Nat
  deriving DecidableEq, Repr

/-- LOUVRE (R443). -/
structure LouvreCfg where
  door : Nat
  slots : List LouvreSlotCfg
  deriving DecidableEq, Repr

/-- ARBITER (R444): `prio` has 64 entries of 36 bits. -/
structure ArbiterCfg where
  latchLimit : Nat
  ageCeil : Nat
  prio : List Nat
  deriving DecidableEq, Repr

/-- CASEMENT (R311). -/
structure CasementCfg where
  cas : Nat
  fn : Nat
  msixBlock : Nat
  panes : Word
  clusters : List (Nat × Nat)
  counterPerm : BitVec 64
  queues : List Nat
  pools : List Nat
  louvres : List Nat
  deriving DecidableEq, Repr

/-- ROUTE (R360). -/
structure RouteCfg where
  nodeId : Nat
  dimBits : List Nat
  dimSize : List Nat
  timeRef : Nat
  dirMask : List (BitVec 32)
  portMap : List Nat
  accept : BitVec 32
  deriving DecidableEq, Repr

/-- The body of a frame (R36). -/
inductive FrameBody where
  | hinge (c : HingeCfg)
  | pins (c : List PinEntry)
  | profile (c : ProfileCfg)
  | timing (c : TimingCfg)
  | steps (c : StepTableCfg)
  | refresh (c : RefreshCfg)
  | disturb (c : DisturbCfg)
  | adjacency (c : AdjacencyCfg)
  | ecc (c : EccCfg)
  | thermal (c : ThermalCfg)
  | pane (c : PaneDef)
  | layoutSet (c : LayoutSetCfg)
  | doorMap (c : List DoorCfg)
  | louvre (c : LouvreCfg)
  | arbiter (c : ArbiterCfg)
  | casement (c : CasementCfg)
  | route (c : RouteCfg)
  | note
  deriving DecidableEq, Repr

/-- A frame: its TARGET (R32) and its body. -/
structure Frame where
  target : BitVec 32
  body : FrameBody
  deriving DecidableEq, Repr

/-- A running configuration: its frames, its identifiers (R29) and the active set of each group. -/
structure RunCfg where
  id : Word
  rollback : Nat
  frames : List Frame
  activeSets : List (Nat × Nat)
  deriving DecidableEq, Repr

end Sys2Proof.Machine
end

