-- ==== Sys2Proof/Machine/Tab.lean ====
section
/-! DEFINITION. Sparse tables: what an unlisted key holds is a default; entries stand in rising key order and none equals the default. -/

namespace Sys2Proof.Machine

/-- A sparse table: pairs of a key and a value. -/
abbrev Tab (α : Type) := List (Nat × α)

/-- The value listed for a key, if any. -/
def Tab.find {α : Type} : Tab α → Nat → Option α
  | [], _ => none
  | (k, v) :: t, key => if k = key then some v else Tab.find t key

/-- The value of a key: the listed one, or the default. -/
def Tab.get {α : Type} (d : α) (t : Tab α) (key : Nat) : α := (t.find key).getD d

/-- The table without a key. -/
def Tab.erase {α : Type} : Tab α → Nat → Tab α
  | [], _ => []
  | (k, v) :: t, key => if k = key then Tab.erase t key else (k, v) :: Tab.erase t key

/-- Place an entry before the first entry of a greater key. -/
def Tab.insert {α : Type} : Tab α → Nat → α → Tab α
  | [], key, x => [(key, x)]
  | (k, v) :: t, key, x => if key < k then (key, x) :: (k, v) :: t else (k, v) :: Tab.insert t key x

/-- Set the value of a key; the default is not listed. -/
def Tab.put {α : Type} [DecidableEq α] (d : α) (t : Tab α) (key : Nat) (x : α) : Tab α :=
  if x = d then t.erase key else (t.erase key).insert key x

end Sys2Proof.Machine
end

