-- ==== Sys2Proof/Machine/MemTypes.lean ====
section
/-! DEFINITION. Types of the memory path: requests, doors, arbiters, pseudo-channel controllers (chapters 06 to 14). -/

namespace Sys2Proof.Machine

/-! ## Requests -/

/-- Who waits for the end of a request (R149): what the requester needs to recognise it. -/
inductive Origin where
  /-- A request of compute die `d` over Aksal, with its source tag and tag (R391). -/
  | aksal (d srcTag tag : Nat)
  /-- Block or sector `part` of the command of queue `q` at ring index `idx` (R319). -/
  | cmd (q : QueueId) (idx part : Nat)
  /-- Part of BAR2 access number `no` of a function (R380). -/
  | host (fn no part : Nat)
  /-- A fabric request received at port `j` of hub `h` from node `node` with tag `tag` (R365). -/
  | fabric (h j node tag : Nat)
  /-- A block of a page copy for logical page `lpage` of the page table at `pt` (R343, R344). -/
  | page (h pt lpage part : Nat)
  /-- A block of the sample ring or of the trace ring of hub `h` (R418, R421). -/
  | records (h : Nat)
  /-- A request of the debug door (R128). -/
  | debug (h : Nat)
  deriving DecidableEq, Repr

/-- A request after decoding (R148): its place (R118) travels with it (chapter 06). -/
structure Req where
  /-- The model's own number of the request. -/
  id : Nat
  org : Origin
  cls : ReqClass
  cas : Nat
  /-- The source tag of R149. -/
  stag : Nat
  addr : Nat
  pane : Nat
  guarded : Bool
  /-- The pane's correctable-error policy is bucket (R37). -/
  bucket : Bool
  /-- The hub where the request was decoded. -/
  home : Nat
  hub : Nat
  pc : Nat
  bank : Nat
  row : Nat
  col : Nat
  write : Bool
  /-- A 32-byte request of the transom path (R159). -/
  sector : Bool
  /-- Byte mask of a write. -/
  mask : BitVec 256
  data : Block
  /-- Sectors to be written as the poison word (R254). -/
  poison : BitVec 8
  /-- Transfer tag of a BULK transfer (R138). -/
  xfer : Nat
  /-- Length of the latch that begins with this block; 0 for an ordinary request (R142). -/
  latch : Nat
  /-- The request was sent on an URGENT credit (R391, R396). -/
  uc : Bool
  /-- CCLK, plus 1, in which it entered the ring port it stands in (R169). -/
  hopAt : Nat := 0
  deriving DecidableEq, Repr

/-! ## Doors (chapter 07) -/

/-- A request in a door buffer with its source group (R132). -/
structure DoorEnt where
  r : Req
  grp : Option Nat
  /-- Arrival: TIME64 tick and CCLK (R417). -/
  arrT : Nat
  arrC : Nat
  deriving DecidableEq, Repr

/-- A progress record (R139): the blocks of the run already admitted. -/
structure RunRecord where
  pc : Nat
  xfer : Nat
  row : Nat
  bank : Nat
  grp : Option Nat
  count : Nat
  deriving DecidableEq, Repr

structure DoorSt where
  /-- Requests sent on a credit that have not arrived yet. -/
  transit : List Req
  /-- The door buffer in arrival order (R131). -/
  buf : List DoorEnt
  masked : Bool
  records : List RunRecord
  /-- Releases made in the CCLK `servedAt`, the pseudo-channel last served before that CCLK, and the last in rotation that it served since (R137). -/
  rotFrom : Nat
  lastPc : Nat
  servedAt : Nat
  served : Nat
  /-- Requests that left the buffer in a CCLK: their credits count from the next one on (R169). -/
  popped : List (Nat × ReqClass)
  /-- CCLK, plus 1, in which DOOR_HOLD_CNT last counted. -/
  holdAt : Nat
  deriving DecidableEq, Repr

def DoorSt.reset : DoorSt :=
  { transit := [], buf := [], masked := true, records := [], rotFrom := 95, lastPc := 95, servedAt := 0, served := 0, popped := [], holdAt := 0 }

/-- A louvre slot (R133, R282): what is left of its remainders in 32-byte units. -/
structure LouvreSt where
  gen : Nat
  urg : Nat
  coll : Nat
  /-- First CCLK of the window in progress and its length, 0 before the first window (R88). -/
  start : Nat
  len : Nat
  /-- General units given at the start of the window (R67). -/
  top : Nat
  deriving DecidableEq, Repr

def LouvreSt.reset : LouvreSt := { gen := 0, urg := 0, coll := 0, start := 0, len := 0, top := 0 }

/-- What holds a pseudo-channel at the door arbiter (R136, R138, R142): a latch with the numbers of its blocks still to be admitted. -/
inductive Hold where
  | none
  | run (door : Nat) (rec : RunRecord)
  | latch (door : Nat) (grp : Option Nat) (cas : Nat) (blocks : List Nat)
  deriving DecidableEq, Repr

structure ArbSt where
  hold : Hold
  /-- Door last admitted, for rotation. -/
  last : Nat
  /-- CCLK in which the pseudo-channel was last evaluated, plus 1 (R136: once in every CCLK). -/
  evalAt : Nat
  /-- DARB_PRIO values from before a write, with its CCLK (R144): pane, value and CCLK.  They rule in that CCLK, and until a latch that held the pseudo-channel ends. -/
  prioOld : List (Nat × Nat × Nat)
  deriving DecidableEq, Repr

def ArbSt.reset : ArbSt := { hold := .none, last := 0, evalAt := 0, prioOld := [] }

/-! ## Pseudo-channel controllers (chapters 08 to 12) -/

/-- Which entries a queued request took (R135). -/
inductive Reserve where
  | shared | urgent | maint
  deriving DecidableEq, Repr

/-- A queue entry (R148).  Sector sets have bit n for sector n of the request. -/
structure QEnt where
  r : Req
  door : Nat
  arrT : Nat
  arrC : Nat
  /-- CCLK, plus 1, of the first command issued for the request. -/
  firstC : Nat
  /-- Admission CCLK. -/
  adm : Nat
  res : Reserve
  /-- The age has reached the ceiling (R155). -/
  aged : Bool
  /-- Transom group: the id of the request that opened it (R160). -/
  grp : Option Nat
  /-- Sectors whose column read has issued. -/
  rdIssued : BitVec 8
  /-- Sectors whose read data has been checked and merged (R162). -/
  merged : BitVec 8
  /-- Sectors found uncorrectable or poisoned at the merge (R255). -/
  bad : BitVec 8
  /-- Sectors whose column write has issued. -/
  wrIssued : BitVec 8
  /-- The operation of the request has run to its END step. -/
  ended : Bool
  /-- The data of a casement that was reset is discarded (R151). -/
  drop : Bool
  /-- Marks of the sample tag (R416): the sampling number. -/
  tag : Option Nat
  deriving DecidableEq, Repr

/-- A transom group (R160). -/
structure TGroup where
  /-- The request that opened it. -/
  id : Nat
  bank : Nat
  row : Nat
  start : Nat
  rankable : Bool
  /-- Its first member has been chosen: the group keeps the bank until each has issued (R160). -/
  begun : Bool := false
  deriving DecidableEq, Repr

/-- A step pointer (R170). -/
structure Ptr where
  op : Nat
  step : Nat
  /-- The request it serves, for operations 0 to 4. -/
  req : Nat
  /-- Bank and row of the operation. -/
  bank : Nat
  row : Nat
  /-- Passes done of the loop in progress. -/
  pass : Nat
  /-- Column offset in sectors (AUTO_INC). -/
  sec : Nat
  /-- A WAIT step holds the pointer until this CCLK. -/
  waitTo : Nat
  /-- An emergency refresh (R191). -/
  emerg : Bool
  /-- Mode-register writes that operation 12 has issued (R179). -/
  mr : Nat := 0
  deriving DecidableEq, Repr

structure BankSt where
  row : Option Nat
  ptr : Option Ptr
  /-- The request whose read-modify-write latches the bank (R163). -/
  latch : Option Nat
  /-- A sequence set aside by an emergency refresh, with the row to reopen (R163). -/
  saved : Option (Ptr × Option Nat)
  debt : Nat
  /-- Dues raised since the anchor, the anchor tick (none: the schedule's start) and the tick of the last due (R188). -/
  dueK : Nat
  dueFrom : Option Nat
  dueLast : Option Nat
  /-- Activation-counting table, 32 entries: row and count (R198). -/
  acts : List (Option (Nat × Nat))
  /-- Rows whose neighbour refresh is pending, in order (R200). -/
  nbr : List Nat
  /-- Neighbours of the first pending row still to be activated (R201). -/
  nbrLeft : Option (List Nat)
  deriving DecidableEq, Repr

def BankSt.reset : BankSt :=
  { row := none, ptr := none, latch := none, saved := none, debt := 0, dueK := 0, dueFrom := none, dueLast := none,
    acts := List.replicate 32 none, nbr := [], nbrLeft := none }

/-- A command that has issued, as R178 looks back on it. -/
structure Issued where
  at_ : Nat
  tclass : Nat
  bank : Option Nat
  deriving DecidableEq, Repr

/-- A column read whose data has not passed the ECC unit. -/
structure Burst where
  req : Nat
  sec : Nat
  /-- Members of the transom group that share the column command (R160). -/
  also : List Nat
  /-- The 36 bytes as they lay in the stack when the command issued. -/
  data : BitVec 256
  chk : BitVec 32
  /-- CCLK in which its last beat has arrived. -/
  ready : Nat
  deriving DecidableEq, Repr

/-- One command of the retry buffer (R239): when it issued, its words, which command, by which operation and for whom. -/
structure RetryEnt where
  at_ : Nat
  words : BitVec 44
  code : Nat
  op : Nat
  /-- A RAW debug command: it changes no bank state (R186). -/
  raw : Bool
  bank : Option Nat
  row : Nat
  col : Nat
  req : Nat
  sec : Nat
  /-- Members of the group that share a column read (R160). -/
  also : List Nat
  data : BitVec 256
  poison : Bool
  deriving DecidableEq, Repr

/-- The procedure of R240 while it runs. -/
structure ReplaySt where
  start : Nat
  /-- 0 step 1 of R240, 1 the close of step 3, 2 steps 4 and 5. -/
  phase : Nat
  /-- The rows that step 4 restores, those still to reopen, and the commands still to reissue. -/
  rows : List (Nat × Nat)
  restore : List (Nat × Nat)
  held : List RetryEnt
  /-- CCLK at which the alert ends. -/
  alertTo : Nat := 0
  /-- Step 1 is over. -/
  ready : Bool := false
  deriving DecidableEq, Repr

/-- Self-refresh of a pseudo-channel. -/
inductive SrState where
  | awake | entering | inSr | exiting
  deriving DecidableEq, Repr

/-- A training or pattern step in progress (R225, R226). -/
structure TrnRun where
  step : Nat
  start : Nat
  /-- PC_TRN_COUNT, PC_TRN_PAT and PC_TRN_SEED as START found them (R226). -/
  bursts : Nat := 0
  kind : Nat := 0
  invert : Bool := false
  seed : Nat := 0
  deriving DecidableEq, Repr

structure PcSt where
  queue : List QEnt
  groups : List TGroup
  /-- Entries freed in a CCLK, which an admission of that CCLK cannot take (R150): the CCLK, the reserve and whether transom. -/
  freed : List (Nat × Reserve × Bool)
  banks : Tab BankSt
  wide : Option Ptr
  /-- Pseudo-channel-wide operations that follow (R194, R211, R235). -/
  wideNext : List Nat
  hist : List Issued
  /-- CCLK until which a second word occupies the slot (R180). -/
  rowBusy : Nat
  colBusy : Nat
  flight : List Burst
  highWater : Nat
  /-- Hinge point of the active timing set (R179). -/
  tset : Nat
  lastCode : Nat
  holder : Nat
  /-- CCLK of the last grant, plus 1. -/
  grantAt : Nat
  halt : Bool
  halted : Bool
  dbg : Option Word
  dbgOps : Word
  retry : List RetryEnt
  /-- Rows open before the oldest command of the retry buffer (R239): bank and row. -/
  retryOpen : List (Nat × Nat)
  replay : Option ReplaySt
  /-- Refresh: mode, schedule start tick, ticks of the last clear, idle timer (R188, R193, R199). -/
  allBank : Bool
  refStart : Option Nat
  clearLast : Option Nat
  idleFrom : Nat
  sr : SrState
  srAuto : Bool
  /-- CCLK of the self-refresh entry command (R179). -/
  srAt : Nat
  /-- Its tick (R420). -/
  srTick : Nat
  wideDueK : Nat
  wideDueFrom : Option Nat
  wideDueLast : Option Nat
  /-- Bank of the last refresh, and the last neighbour row (R173). -/
  refBank : Nat
  nbrAt : Nat × Nat
  /-- CCLK, plus 1, in which PC_REPLAY_DEPTH.STALLS last counted. -/
  stallAt : Nat
  /-- Retraining (R233 to R237): tick of the last pause, pause in progress from, failures, halted. -/
  trnRun : Option TrnRun
  /-- A pattern run started within a RETRAIN command (R226). -/
  trnGen : Option TrnRun
  /-- Tick from which the next pause is counted, and whether it is the first after training or an exit (R233). -/
  pauseLast : Nat
  pauseFirst : Bool
  pauseFrom : Option Nat
  pauseLen : Nat
  /-- Interval counted for the next pause (R88), and the CCLK from which a pause's bursts run. -/
  pauseIntv : Nat
  burstAt : Option Nat
  pauseDue : Bool
  pauseRetryAt : Option Nat
  pauseFails : Nat
  /-- Tick of the last self-refresh exit (R428). -/
  exitAt : Nat
  /-- SR_EXIT, MR_WRITE and pause of a hinge still to run at the next admission (R211). -/
  deferred : Bool
  trnHalted : Bool
  /-- The stack has opened again and this pseudo-channel's retrain pause has not run (R284). -/
  reopen : Bool
  /-- The drain of R63 or R91 on this pseudo-channel has ended. -/
  drained : Bool
  deriving DecidableEq, Repr

def PcSt.reset : PcSt :=
  { queue := [], groups := [], freed := [], banks := [], wide := none, wideNext := [], hist := [], rowBusy := 0, colBusy := 0, flight := [], highWater := 0,
    tset := 0, lastCode := 0, holder := 0, grantAt := 0, halt := false, halted := false, dbg := none, dbgOps := 0, retry := [],
    retryOpen := [], replay := none, allBank := false, refStart := none, clearLast := none,
    idleFrom := 0, sr := .awake, srAuto := false, srAt := 0, srTick := 0, wideDueK := 0, wideDueFrom := none, wideDueLast := none,
    refBank := 0, nbrAt := (0, 0), stallAt := 0, trnRun := none, trnGen := none, pauseLast := 0, pauseFirst := true, pauseFrom := none, pauseLen := 0, pauseIntv := 100, burstAt := none, pauseDue := false,
    pauseRetryAt := none, pauseFails := 0, exitAt := 0, deferred := false, trnHalted := false, reopen := false, drained := false }

/-! ## Hub logs and heat (chapters 13 and 15) -/

/-- An entry of the hub error log (R250). -/
structure LogEnt where
  kind : Nat
  pc : Nat
  bank : Nat
  row : Nat
  col : Nat
  symbol : Nat
  bits : Nat
  count : Nat
  cas : Nat
  pane : Option Nat
  time : Nat
  deriving DecidableEq, Repr

/-- A trim record (R227) with the values training set: a lane's delay, and beside it the write delay of a data lane (R228, R235). -/
structure TrimRec where
  delay : Nat
  vref : Nat
  valid : Bool
  trained : Nat
  wdelay : Nat := 0
  wtrained : Nat := 0
  deriving DecidableEq, Repr

def TrimRec.reset : TrimRec := { delay := 0, vref := 0, valid := false, trained := 0 }

/-- A temperature source (R276 to R279): last reading, average, tier and the tick of the last reading. -/
structure ThermSt where
  reading : Int
  avg : Rat
  tier : Nat
  at_ : Option Nat
  stale : Bool
  deriving DecidableEq, Repr

/-- Before its first reading a source is stale and so at HOT (R279). -/
def ThermSt.reset : ThermSt := { reading := 0, avg := 0, tier := 2, at_ := none, stale := true }

/-- The hinge sequencer (R208 to R216). -/
structure HingeSt where
  step : Nat
  /-- Hinge point before the running hinge. -/
  was : Nat
  target : Nat
  pend : Option Nat
  /-- HINGE commands that complete with the pending and with the running hinge (R330). -/
  waiters : List QueueId
  runners : List QueueId
  startAt : Nat
  /-- Tick of the last completion. -/
  doneAt : Option Nat
  switchAt : Option Nat
  /-- CCLK at step 5, from which cycle timers hold (R216). -/
  holdFrom : Nat
  /-- KCLK at which the clocks last stopped (R417). -/
  kHold : Option Nat
  /-- Power state a change is moving to (R219). -/
  pwrTo : Option Nat
  deriving DecidableEq, Repr

def HingeSt.reset : HingeSt := { step := 0, was := 4, target := 0, pend := none, waiters := [], runners := [], startAt := 0, doneAt := none, switchAt := none, holdFrom := 0, kHold := none, pwrTo := none }

/-- A sample record being made (R417): of a request, with its stamps in CCLK, or of an instruction (`kind` 1).
For an instruction `addr` is word 2 of the record, `cls` the reason it stalled, `arrC` the KCLK from which it waited, `admC` its issue and `lastC` when its result was usable. -/
structure SampleRec where
  kind : Nat
  seq : Nat
  cas : Nat
  cls : Nat
  door : Nat
  pc : Nat
  hp : Nat
  hinge : Bool
  status : Nat
  addr : Nat
  arrT : Nat
  arrC : Nat
  admC : Nat
  firstC : Nat
  lastC : Nat
  respC : Nat
  done : Bool
  deriving DecidableEq, Repr

/-- The sampler of a hub, or of a compute die (R416). -/
structure SamplerSt where
  /-- On a compute die, the cluster whose turn it is. -/
  turn : Nat
  lfsr : Nat
  left : Nat
  seq : Nat
  recs : List SampleRec
  deriving DecidableEq, Repr

def SamplerSt.reset : SamplerSt := { turn := 0, lfsr := 0, left := 0, seq := 0, recs := [] }

/-- A trace record (R420): the payload's items in the table's order. -/
structure TraceRec where
  time : Nat
  typ : Nat
  die : Nat
  cas : Nat
  unit : Nat
  payload : List Nat
  deriving DecidableEq, Repr

/-- A hub's trace unit (R419 to R421): its FIFO, the FIFO of its compute die, records lost at each since the last one kept, the sequence. -/
structure TracerSt where
  fifo : List TraceRec
  dieFifo : List TraceRec
  lost : Nat
  dieLost : Nat
  seq : Nat
  deriving DecidableEq, Repr

def TracerSt.reset : TracerSt := { fifo := [], dieFifo := [], lost := 0, dieLost := 0, seq := 0 }

/-- The end of a request on its way back to the requester (R20): its status, its data and the marks of its poisoned sectors, with the kind of each (1 a sector found as the poison word). -/
structure Answer where
  r : Req
  st : Status
  data : Block
  poison : BitVec 8
  pkind : BitVec 8
  deriving DecidableEq, Repr

/-- A sash ring link, between hub i and hub i + 1 (R21): up, and the failed retries of the flit in hand, in the ascending and in the descending direction. -/
structure LinkSt where
  up : Bool
  failed : Bool
  streak : Nat
  streakBack : Nat
  deriving DecidableEq, Repr

def LinkSt.reset : LinkSt := { up := false, failed := false, streak := 0, streakBack := 0 }

end Sys2Proof.Machine
end

