-- ==== Sys2Proof/Machine/EngineTypes.lean ====
section
/-! DEFINITION. Types of the board side, the engines, the cores, the links and the host (chapters 02 to 05 and 11 to 22). -/

namespace Sys2Proof.Machine

/-! ## Board, supply and bring-up (chapters 03 to 05) -/

/-- Levels of the board's inputs and what the package drives (R69). -/
structure BoardSt where
  kaPg : Bool
  pwrGood : Bool
  pkgRst : Bool
  warmRst : Bool
  perst : Bool
  /-- REFCLK present, and the tick from which it is (R81, R93). -/
  refAt : Option Nat
  straps : Straps
  /-- THERM_TRIP_N is asserted (R71). -/
  trip : Bool
  /-- Tick of the last rise of WARM_RST_N or PERST_N (R91). -/
  riseAt : Nat
  deriving DecidableEq, Repr

/-- The supply supervisor (R61, R63).  A filter that runs holds its start tick and the length it started with (R88). -/
structure SupplySt where
  pf1Filt : Option (Nat × Nat)
  pf2Filt : Option (Nat × Nat)
  recovAt : Option Nat
  surgeAt : Option Nat
  pf1At : Option Nat
  /-- CAUSE that the next start records (R105). -/
  cause : Nat
  keep : Bool
  /-- Tick at which the drain of R63 or R91 began. -/
  drainFrom : Option Nat
  /-- PWR_GOOD rose again after the main rails were removed (R93). -/
  railsBack : Bool
  /-- Tick at which the last pseudo-channel entered self-refresh in the drain. -/
  drainedAt : Option Nat
  /-- The estimate of R67 in 0.1 A and what the activity asks for. -/
  estimate : Nat
  wanted : Nat
  deriving DecidableEq, Repr

/-- Where the package stands between starts (R90 to R93, R109). -/
inductive Stage where
  /-- A cold reset is in force; cold bring-up may begin. -/
  | cold
  | bringUp
  | running
  /-- A drain of R63 or R91 runs or has run; the next start is warm. -/
  | drained
  /-- PF2 or a warm reset came before the memory clear: the next start is cold (R92). -/
  | coldNext
  /-- Bring-up stopped (R109). -/
  | stopped
  deriving DecidableEq, Repr

structure BootSt where
  stage : Stage
  /-- Flash slot in use (R97). -/
  slot : Nat
  /-- The memory clear of this cold start has completed (R92). -/
  cleared : Bool
  /-- Bring-up watchdog: start tick and length in ticks (R110). -/
  wdog : Option (Nat × Nat)
  /-- The start in hand is warm. -/
  warm : Bool
  /-- The container in the recovery buffer has been verified (R108). -/
  fwOk : Bool
  deriving DecidableEq, Repr

/-! ## Image staging (R53 to R55, R126, R257) -/

/-- What a commit tick will change. -/
inductive Change where
  /-- A partial image: the resulting configuration, its affected panes and the casements concerned (R51). -/
  | image (cfg : RunCfg) (panes : Word) (cass : BitVec 32) (doors : List (Nat × Nat))
  | layout (group set : Nat)
  | fenceAdd (q : QueueId) (idx base len : Nat)
  | fenceDel (q : QueueId) (idx base len : Nat)
  deriving DecidableEq, Repr

structure Staged where
  change : Change
  /-- Hubs that have reported ready. -/
  ready : List Nat
  /-- The commit tick, once set. -/
  tick : Option Nat
  deriving DecidableEq, Repr

/-! ## The 1500 ports (R261, R262, R271) -/

/-- A repair sequence in a port: the command, its operands and the port operations still to run. -/
structure RepairSt where
  q : QueueId
  idx : Nat
  pc : Nat
  bank : Nat
  row : Nat
  lane : Nat
  kind : Nat
  persist : Bool
  /-- Operations left before the program step, and after it. -/
  left : Nat
  deriving DecidableEq, Repr

structure PortSt where
  /-- HUB_1500_STATUS.OWNER. -/
  owner : Nat
  program : Bool
  programAt : Nat
  repair : Option RepairSt
  /-- A direct access waits for the port: the data that the stack will shift in. -/
  direct : Option (List Byte)
  deriving DecidableEq, Repr

def PortSt.reset : PortSt := { owner := 0, program := false, programAt := 0, repair := none, direct := none }

/-! ## Queues (chapter 17) -/

/-- A fetched command entry (R317) and what has become of it. -/
structure Cmd where
  /-- Ring index. -/
  idx : Nat
  words : BitVec 512
  /-- The entry could not be read (R320). -/
  unread : Bool
  started : Bool
  startAt : Nat
  wdog : Nat
  /-- Status with which it has ended. -/
  ended : Option Status
  progress : Nat
  detail : Nat
  /-- Next unit to issue, units outstanding, units finished out of order. -/
  next : Nat
  flight : Nat
  early : List Nat
  /-- Status it ends with once nothing is outstanding. -/
  fault : Option Status
  /-- The prefetch window it started with, in TIME64 ticks (R88, R344). -/
  window : Nat := 0
  deriving DecidableEq, Repr

/-- A queue (R313 to R315); HEAD, CPL_TAIL, PHASE, STOPPED and CAUSE stand in its registers. -/
structure QSt where
  tail : Nat
  cplHead : Nat
  cmds : List Cmd
  /-- Host reads outstanding, in order: ring index and unit (R327). -/
  hostRd : List (Nat × Nat)
  /-- The queue is halted under R329. -/
  halt : Bool
  /-- CCLK of the last doorbell, plus 1; it is acted on from the next (R314). -/
  dbAt : Nat := 0
  deriving DecidableEq, Repr

def QSt.reset : QSt := { tail := 0, cplHead := 0, cmds := [], hostRd := [], halt := false }

/-- A RING command in progress (R366 to R371): its COLL_ID; the step in hand and its blocks done, sent and received (a BARRIER counts tokens); the steps of ROTATE that COLL_READY has named, and how many steps the engine has made ready; its deadline D, D's upper limit, whether D was extended, and the highest tier received for it. -/
structure CollSt where
  q : QueueId
  idx : Nat
  coll : Nat
  sent : Nat
  sentBlk : Nat
  recv : Nat
  recvBlk : Nat
  ready : List Nat
  readyTo : Nat
  deadline : Nat
  limit : Nat
  extended : Bool
  tier : Nat
  deriving DecidableEq, Repr

/-- A kept stall notice (R370): the hub whose engine keeps it, its arrival and the packet. -/
structure Notice where
  hub : Nat
  at_ : Nat
  pkt : Packet
  deriving DecidableEq, Repr

/-! ## Cores (chapter 16) -/

/-- A slot's contents and its poison bits (R304). -/
structure Slot where
  data : Block
  poison : BitVec 8
  deriving DecidableEq, Repr

def Slot.reset : Slot := { data := 0, poison := 0 }

/-- An active loop: its body and its counter (R292). -/
structure LoopSt where
  first : Nat
  last : Nat
  count : Nat
  i : Nat
  deriving DecidableEq, Repr

/-- A stream of a core (R302): what it asks and, once it has arrived, its data and marks. -/
structure StreamSt where
  tag : Nat
  write : Bool
  sector : Bool
  /-- Slot key it fills, and the sector within the slot. -/
  slot : Nat
  sec : Nat
  /-- The request it sends, and the poison marks of the sectors it writes (R304). -/
  msg : AkReq
  marks : BitVec 8
  /-- It has left the core (a seventeenth waits). -/
  sent : Bool
  arrived : Option (Block × BitVec 8)
  /-- Index of its instruction (R303). -/
  ip : Nat := 0
  deriving DecidableEq, Repr

structure CoreSt where
  ip : Nat
  loops : List LoopSt
  /-- AG1 to AG7: base and four strides each, key 5 × (k − 1) + field. -/
  ag : Tab Int
  sb : Tab Nat
  args : List Nat
  /-- Slots of the local store (key s), feeder A (256 + s) and feeder B (512 + s). -/
  slots : Tab Slot
  icache : List (BitVec 64)
  streams : List StreamSt
  ended : Bool
  /-- The core waits at a SYNC. -/
  atSync : Bool
  /-- Number of SYNCs passed. -/
  syncs : Nat
  stall : Nat
  /-- KCLK, plus 1, in which the core last issued. -/
  issueAt : Nat
  /-- KCLK since which the instruction in hand is stalled, plus 1. -/
  stallFrom : Nat
  /-- KCLK, plus 1, in which each array accepted its last MMA; KCLK at which the tile unit and the mover may accept again. -/
  arrA : Nat
  arrB : Nat
  tile : Nat
  mover : Nat
  /-- Slots that await a write, with the KCLK at which it is done. -/
  busy : List (Nat × Nat)
  /-- Slot of each array's previous MMA. -/
  accA : Option Nat
  accB : Option Nat
  cnt0 : Nat
  cnt1 : Nat
  deriving DecidableEq, Repr

def CoreSt.reset : CoreSt :=
  { ip := 0, loops := [], ag := [], sb := [], args := [], slots := [], icache := [], streams := [], ended := false,
    atSync := false, syncs := 0, stall := 0, issueAt := 0, stallFrom := 0, arrA := 0, arrB := 0, tile := 0, mover := 0, busy := [],
    accA := none, accB := none, cnt0 := 0, cnt1 := 0 }

/-- A cluster: its kernel by queue index and ring index, the casement of its last kernel, gating, the clear of R308. -/
structure ClusterSt where
  kernel : Option (Nat × Nat)
  lastCas : Option Nat
  gated : Bool
  /-- KCLK from which it may run after ungating or clearing. -/
  runAt : Nat
  cleared : Bool
  loaded : Bool
  fifo : List TraceRec
  /-- Records lost at its FIFO since the last one kept. -/
  lost : Nat
  deriving DecidableEq, Repr

def ClusterSt.reset : ClusterSt := { kernel := none, lastCas := none, gated := false, runAt := 0, cleared := false, loaded := false, fifo := [], lost := 0 }

/-- A running kernel (R303 to R305, R325). -/
structure KernelSt where
  die : Nat
  q : Nat
  idx : Nat
  cas : Nat
  table : Nat
  count : Nat
  argAt : Nat
  perCore : Nat
  first : Nat
  clusters : Nat
  /-- It stops with this status. -/
  stop : Option Status
  /-- An uncorrectable sector, or a poisoned one, was delivered. -/
  sawBad : Bool
  sawPoison : Bool
  deriving DecidableEq, Repr

/-! ## Pools and expanders (chapter 18) -/

/-- A held allocation (R342): the queue and ring index, or a demand fetch of a page, with its class; its door. -/
structure Held where
  cmd : Option (QueueId × Nat)
  cls : Nat
  pt : Nat
  lpage : Nat
  door : Nat
  /-- CCLK of its arrival. -/
  at_ : Nat := 0
  deriving DecidableEq, Repr

structure PoolSt where
  init : Bool
  broken : Bool
  base : Nat
  /-- PAGE_BYTES / 256. -/
  blocks : Nat
  pages : Nat
  reserve : Nat
  spillKind : Nat
  spillNode : Nat
  spillBase : Nat
  spillSlots : Nat
  /-- The free stacks: what was pushed back, and the first index never handed out. -/
  freed : List Nat
  fresh : Nat
  slotFreed : List Nat
  slotFresh : Nat
  held : List Held
  deriving DecidableEq, Repr

def PoolSt.reset : PoolSt :=
  { init := false, broken := false, base := 0, blocks := 0, pages := 0, reserve := 0, spillKind := 0, spillNode := 0,
    spillBase := 0, spillSlots := 0, freed := [], fresh := 0, slotFreed := [], slotFresh := 0, held := [] }

/-- A page copy from or to the slower tier (R343, R344): its serving hub and pool, its page table entry, the page and slot it joins, the command it belongs to (none for a demand fetch), the fabric tag, the blocks still to be acknowledged and those that have arrived. -/
structure CopySt where
  hub : Nat
  cas : Nat
  pool : Nat
  pt : Nat
  lpage : Nat
  page : Nat
  slot : Nat
  fetch : Bool
  cmd : Option (QueueId × Nat)
  cls : Nat
  tag : Nat
  left : Nat
  got : Tab Block
  deriving DecidableEq, Repr

/-- A page-indirect read that waits for a fetch (R353). -/
structure PgWait where
  die : Nat
  msg : AkReq
  at_ : Nat
  /-- The window it waits for, in TIME64 ticks, as it stood when the wait began (R88). -/
  len : Nat := 0
  deriving DecidableEq, Repr

/-- A bound slot of an expander (R349). -/
structure BindSt where
  pt : Nat
  pool : Nat
  len : Nat
  qbase : Nat
  deriving DecidableEq, Repr

/-- A tile request at an expander. -/
structure TileReq where
  rank : Nat
  tag : Nat
  addr : Nat
  cls : Nat
  cas : Nat
  deriving DecidableEq, Repr

/-- A block of latents that has arrived: its number in the page, its data, its poison marks and their kinds. -/
structure LatBlock where
  no : Nat
  data : Block
  marks : BitVec 8
  pkind : BitVec 8
  deriving DecidableEq, Repr

/-- Latents of a page in staging (R352): page table, logical page, the number of its fetch, blocks in the page and those that have arrived. -/
structure StagedPage where
  pt : Nat
  lpage : Nat
  gen : Nat
  need : Nat
  got : List LatBlock
  deriving DecidableEq, Repr

structure ExpSt where
  owner : Option Nat
  rank : Nat
  latType : Nat
  wType : Nat
  heads : Nat
  headDim : Nat
  causal : Bool
  dshift : Nat
  maskValue : BitVec 32
  window : Nat
  hasBias : Bool
  /-- Weights and bias as loaded: non-zero bytes by offset from WEIGHTS and from BIAS. -/
  weights : Tab Byte
  bias : Tab Byte
  binds : Tab (Option BindSt)
  reqs : List TileReq
  /-- At most two pages, the less recently used first. -/
  staged : List StagedPage
  gen : Nat
  /-- FCLK at which the tile in hand is formed, plus 1; 0 before it is begun. -/
  doneAt : Nat
  deriving DecidableEq, Repr

def ExpSt.reset : ExpSt :=
  { owner := none, rank := 0, latType := 0, wType := 0, heads := 0, headDim := 0, causal := false, dshift := 0,
    maskValue := 0, window := 0, hasBias := false, weights := [], bias := [], binds := [], reqs := [], staged := [], gen := 0, doneAt := 0 }

/-- A line of the page-table cache (R340): its address, its four entries and whether it was poisoned. -/
structure PtLine where
  addr : Nat
  data : BitVec 256
  bad : Bool
  deriving DecidableEq, Repr

/-! ## Links (chapters 19 and 21) -/

/-- A Trowiry port (R359): up, eight lanes wide, a training attempt runs, the failed retries of one flit, the tick of the next attempt. -/
structure TrwSt where
  up : Bool
  half : Bool
  trying : Bool
  streak : Nat
  retryAt : Nat
  deriving DecidableEq, Repr

def TrwSt.reset : TrwSt := { up := false, half := false, trying := true, streak := 0, retryAt := 0 }

/-- The receiving side of an Aksal slice (R398): the SEQ it waits for, when it sent its NAK, the failed replays of that flit. -/
structure SliceSt where
  want : Option Nat
  nakAt : Nat
  streak : Nat
  /-- What the ICLK count exceeds the transmitter's SEQ by, modulo 64. -/
  base : Nat
  deriving DecidableEq, Repr

def SliceSt.reset : SliceSt := { want := none, nakAt := 0, streak := 0, base := 0 }

/-- An Aksal link (R400 to R405): 0 reset, 1 to 5 training, 6 ACTIVE, 7 down. -/
structure AksSt where
  state : Nat
  cdPwr : Bool
  cdRst : Bool
  hbPwr : Bool
  hbRst : Bool
  /-- In the state in hand the die has toggled CD_TRN, and the hub's own receivers have passed. -/
  dieOk : Bool
  hubOk : Bool
  stateAt : Nat
  hbTrn : Bool
  /-- Requests on the wires to the hub, and responses on the wires to the die. -/
  tx : List AkReq
  rx : List AkRsp
  level : Nat
  hubLevel : Nat
  levelAt : Nat
  deriving DecidableEq, Repr

def AksSt.reset : AksSt :=
  { state := 0, cdPwr := true, cdRst := true, hbPwr := true, hbRst := true, dieOk := false, hubOk := false, stateAt := 0, hbTrn := false,
    tx := [], rx := [], level := 0, hubLevel := 0, levelAt := 0 }

/-! ## The host (chapter 20) -/

/-- A function's configuration state (R375 to R377). -/
structure FnSt where
  bme : Bool
  mse : Bool
  d3 : Bool
  msixEn : Bool
  fmask : Bool
  vfEnable : Bool
  /-- BAR registers as the host wrote them. -/
  bars : List (BitVec 32)
  /-- AER: Poisoned TLP Egress recorded (R382). -/
  aerPoison : Bool
  /-- Number of the next BAR2 access. -/
  next : Nat
  deriving DecidableEq, Repr

def FnSt.reset : FnSt :=
  { bme := false, mse := false, d3 := false, msixEn := false, fmask := false, vfEnable := false,
    bars := [0, 0, 0, 0, 0, 0], aerPoison := false, next := 0 }

/-- An entry of the MSI-X table (R384); masked at reset, as PCI Express defines. -/
structure MsixSt where
  addr : Word
  data : BitVec 32
  masked : Bool
  pend : Bool
  deriving DecidableEq, Repr

def MsixSt.reset : MsixSt := { addr := 0, data := 0, masked := true, pend := false }

/-- A posted BAR2 write that the doors have not taken in yet (R380, R386): its function, number, device address and bytes. -/
structure HostWr where
  fn : Nat
  no : Nat
  addr : Nat
  data : List Byte
  deriving DecidableEq, Repr

/-- A BAR2 read in progress (R380): its place, its parts' bytes as they arrive. -/
structure HostRd where
  fn : Nat
  no : Nat
  addr : Nat
  len : Nat
  /-- Parts to send once earlier writes are admitted. -/
  waiting : Bool
  left : Nat
  got : List (Nat × Block × Bool × Bool)
  deriving DecidableEq, Repr

end Sys2Proof.Machine
end

