-- ==== Sys2Proof/Machine/Regs.lean ====
section
/-! DEFINITION. The registers of BAR0 and of the function pages, and their fields, by the names of the register tables of spec/ (chapters 01 to 24). -/

namespace Sys2Proof.Machine

/-- Every register of the register index (chapter 24). -/
inductive Reg where
  | SVC_FAMILY_ID | SVC_PKG_SCALE | HUB_STACK_GEOM | HUB_IDENT | IMG_STATUS | IMG_CTRL
  | IMG_ID | IMG_PART_BASE | IMG_PART_LEN | IMG_ROLLBACK | IMG_QUIESCE | IMG_QUIESCED
  | SVC_BUS_VOLT | SVC_PF_CFG | SVC_PF_STATUS | SVC_SLEW_LIMIT | SVC_TIME64 | SVC_TIME_SYNC
  | SVC_CLK_STATUS | HUB_TIME64 | SVC_BOOT_STATUS | SVC_BOOT_SEL | SVC_BOOT_WDOG | SVC_RST_CTRL
  | SVC_CASE_RST | SVC_CASE_RST_BUSY | SVC_RECOV_GO | SVC_FW_ROLLBACK | PANE_CFG | PANE_BASE
  | PANE_SIZE | PANE_ROWS | PANE_PC_MASK | PANE_GROUP_SETS | HUB_DECODE_ERR | HUB_DECODE_CNT
  | IMG_LAYOUT_CTRL | IMG_LAYOUT_ACTIVE | SVC_WIN_BASE | DOOR_CFG | DOOR_STATUS | DOOR_SRC_VALID
  | DOOR_SRC_MAP | DOOR_PREEMPT_CNT | DOOR_HOLD_CNT | LVR_SLOT_CFG | LVR_SLOT_WINDOW | LVR_BUDGET
  | LVR_URGENT | LVR_SLOT_STATE | DARB_PRIO | DARB_LATCH | DARB_STATUS | DARB_PC_STATE
  | PC_QUEUE_STATUS | PC_AGE_CEIL | PC_TRANSOM | PC_CSA_STATE | PC_RMW | PC_DEBUG
  | PC_DEBUG_CMD | PC_SCHED_CNT | PC_BANK_STATE | HUB_PROFILE_SEL | PC_SEQ_STATUS | PC_SEQ_CNT
  | HUB_REF_WINDOW | HUB_REF_CFG | HUB_DISTURB | PC_REF_STATUS | PC_SR_IDLE | PC_REF_DEBT
  | PC_REF_CNT | PC_NBR_CNT | PC_ACT_SEL | PC_ACT_READ | SVC_HINGE_CTRL | SVC_HINGE_STATUS
  | SVC_HINGE_DWELL | SVC_HINGE_TIME | SVC_PWR_CTRL | SVC_PWR_STATUS | SVC_PWR_CAP | CMP_GATE_CFG
  | CMP_GATE_STATUS | PC_TRN_CTRL | PC_TRN_PAT | PC_TRN_SEED | PC_TRN_COUNT | PC_TRN_ERR_MAP
  | PC_TRN_ERR_CNT | PC_TRN_SEL | PC_TRN_TRIM | PC_RETRAIN | PC_RETRAIN_STATUS | PC_REPLAY
  | PC_REPLAY_BOUND | PC_REPLAY_DEPTH | ECC_BUCKET | ECC_INT_STATUS | ECC_INT_ENABLE | ECC_LOG_STATUS
  | ECC_FENCE_HIT | ECC_FENCE_CNT | ECC_BUCKET_OVF | ECC_BUCKET_LEVEL | ECC_LOG_LOC | ECC_LOG_INFO
  | ECC_CNT | ECC_FENCE_BASE | ECC_FENCE_LEN | ECC_XLATE | HUB_1500_STATUS | HUB_1500_DIRECT_CTRL
  | HUB_FUSE_STATUS | HUB_FUSE_SEL | HUB_FUSE_DATA | HUB_SPARE_SEL | HUB_SPARE_READ | HUB_1500_BUF
  | THM_AVG | THM_STALE | THM_ENTRY | THM_DIE_ENTRY | THM_ACTION | THM_STACK
  | THM_HUB | THM_INT_STATUS | THM_INT_ENABLE | THM_CLOSED_CNT | CMP_THM_STATUS | SVC_THM_STATUS
  | CMP_CORE_SEL | CMP_CORE_STATE | CMP_CORE_FAULT | CMP_SRAM_PAGE | CMP_SRAM_WIN | QUEUE_DB
  | QUEUE_CPL_DB | QUEUE_BASE | QUEUE_CPL_BASE | QUEUE_SIZE | QUEUE_CTRL | QUEUE_STATUS
  | QUEUE_STATE | QUEUE_WDOG | QUEUE_INFO | SYNC_CNT | PAGE_PREFETCH_WIN | PAGE_POOL_SEL
  | PAGE_POOL_FREE | PAGE_POOL_STATE | PAGE_PTC_CNT | PAGE_FETCH_CNT | CMP_EXP_STATE | CMP_EXP_SLOTS_HI
  | CMP_EXP_CNT | TRW_PORT_CTRL | TRW_PORT_STATUS | TRW_PORT_RETRY | TRW_NODE_ID | TRW_LINK_FAIL
  | TRW_UNROUTABLE | RING_COLL_TIMEOUT | RING_STALL_GRANT | RING_STALL_CNT | RING_COLL_STATE | FN_INFO
  | FN_CTRL | FN_WIN_BASE | FN_RESET | FN_EVENT_STATUS | FN_EVENT_ENABLE | AKS_STATUS
  | AKS_CREDIT | AKS_REPLAY | AKS_CRC_ERR | AKS_REPAIR | CNT_CFG | CNT_OWNER
  | CNT_VALUE | CNT_CTRL | CNT_FREEZE_AT | CNT_READ_TIME | SMP_CTRL | SMP_PERIOD
  | SMP_SEED | SMP_BASE | SMP_PTR | SMP_RP | SMP_STATUS | TRC_CTRL
  | TRC_BASE | TRC_PTR | TRC_RP | TRC_STATUS | CMP_CCNT_CFG | CMP_CCNT_READ
  | FN_CNT_CFG | FN_CNT_VALUE | FN_CCNT_SEL | FN_CCNT_READ | SVC_ACC_ERR | HUB_INT_STATUS
  | HUB_IMG_STATUS | SVC_PF_TIMES | HUB_INT_ENABLE | CMP_SMP_CTRL | CMP_SMP_PERIOD | CMP_SMP_SEED
  | SVC_RECOV_BUF
  deriving DecidableEq, Repr

/-- Every named field of every register, REGISTER_FIELD. -/
inductive Fld where
  | SVC_FAMILY_ID_MEMBER | SVC_FAMILY_ID_STEPPING | SVC_FAMILY_ID_HUB_MASK | SVC_FAMILY_ID_CDIE_MASK | SVC_FAMILY_ID_STACK_MASK
  | SVC_PKG_SCALE_PC_COUNT | SVC_PKG_SCALE_CLUSTERS_PER_DIE | SVC_PKG_SCALE_TROWIRY_PORTS | SVC_PKG_SCALE_RING_HOPS_MAX | SVC_PKG_SCALE_CASEMENTS
  | HUB_STACK_GEOM_PRESENT | HUB_STACK_GEOM_BANKS | HUB_STACK_GEOM_DIES | HUB_STACK_GEOM_CAPACITY_GIB | HUB_STACK_GEOM_MAX_RATE
  | HUB_STACK_GEOM_VENDOR_CODE | HUB_STACK_GEOM_TRAINED | HUB_IDENT_HUB_NUM | HUB_IDENT_STACKS | HUB_IDENT_RING_UP
  | IMG_STATUS_STATE | IMG_STATUS_KIND | IMG_STATUS_ERROR | IMG_STATUS_FRAME_IDX | IMG_STATUS_SLOT
  | IMG_STATUS_HUB | IMG_CTRL_GO | IMG_CTRL_ABORT | IMG_CTRL_BUSY | IMG_ID_ID
  | IMG_PART_BASE_ADDR | IMG_PART_LEN_LEN | IMG_ROLLBACK_FUSED | IMG_ROLLBACK_ADVANCE | IMG_QUIESCE_PANES
  | IMG_QUIESCED_PANES | SVC_BUS_VOLT_VOLTS | SVC_BUS_VOLT_MIN | SVC_BUS_VOLT_MIN_CLR | SVC_PF_CFG_PF1_LEVEL
  | SVC_PF_CFG_PF1_FILT | SVC_PF_CFG_PF2_LEVEL | SVC_PF_CFG_PF2_FILT | SVC_PF_STATUS_PF1 | SVC_PF_STATUS_PF2
  | SVC_PF_STATUS_KEEP | SVC_PF_STATUS_PF1_SEEN | SVC_PF_STATUS_PF2_SEEN | SVC_PF_STATUS_BROWNOUT | SVC_PF_STATUS_OV_SEEN
  | SVC_PF_STATUS_PFN_SEEN | SVC_PF_STATUS_LOST | SVC_PF_STATUS_DRAIN_US | SVC_SLEW_LIMIT_RATE | SVC_SLEW_LIMIT_EST_A
  | SVC_TIME64_TICKS | SVC_TIME_SYNC_PERIOD_US | SVC_TIME_SYNC_ALIGNED | SVC_TIME_SYNC_DRIFT | SVC_TIME_SYNC_OFFSET
  | SVC_CLK_STATUS_HP | SVC_CLK_STATUS_KDIV | SVC_CLK_STATUS_PLL_LOCK | SVC_CLK_STATUS_REF_LOSS | SVC_CLK_STATUS_REF_OK
  | HUB_TIME64_TICKS | SVC_BOOT_STATUS_PHASE | SVC_BOOT_STATUS_KIND | SVC_BOOT_STATUS_ERROR | SVC_BOOT_STATUS_UNIT
  | SVC_BOOT_STATUS_FALLBACK | SVC_BOOT_STATUS_ATTEMPT | SVC_BOOT_STATUS_CAUSE | SVC_BOOT_SEL_PREFER | SVC_BOOT_WDOG_SECONDS
  | SVC_RST_CTRL_WARM | SVC_RST_CTRL_COLD | SVC_RST_CTRL_KEY | SVC_CASE_RST_CASEMENTS | SVC_CASE_RST_BUSY_CASEMENTS
  | SVC_RECOV_GO_GO | SVC_FW_ROLLBACK_FUSED | PANE_CFG_ORDER | PANE_CFG_GRANULE_LOG2 | PANE_CFG_MODES
  | PANE_CFG_CASEMENT | PANE_CFG_GROUP | PANE_CFG_GROUPED | PANE_CFG_VALID | PANE_CFG_PC_COUNT
  | PANE_BASE_BASE | PANE_SIZE_SIZE | PANE_ROWS_ROW_FIRST | PANE_ROWS_ROW_COUNT | PANE_PC_MASK_MASK
  | PANE_GROUP_SETS_PRESENT | PANE_GROUP_SETS_OVERLAP | HUB_DECODE_ERR_ADDR | HUB_DECODE_ERR_CASEMENT | HUB_DECODE_ERR_DOOR
  | HUB_DECODE_ERR_REASON | HUB_DECODE_ERR_VALID | HUB_DECODE_CNT_COUNT | IMG_LAYOUT_CTRL_GROUP | IMG_LAYOUT_CTRL_SET
  | IMG_LAYOUT_CTRL_GO | IMG_LAYOUT_CTRL_BUSY | IMG_LAYOUT_CTRL_ERROR | IMG_LAYOUT_ACTIVE_SETS | SVC_WIN_BASE_BASE
  | DOOR_CFG_ENABLE | DOOR_CFG_MODE | DOOR_CFG_URGENT_CRED | DOOR_CFG_MAINT_CRED | DOOR_CFG_ENTRIES
  | DOOR_STATUS_MASKED | DOOR_STATUS_FREE | DOOR_STATUS_RECORDS | DOOR_SRC_VALID_CASEMENTS | DOOR_SRC_MAP_GROUPS
  | DOOR_PREEMPT_CNT_COUNT | DOOR_HOLD_CNT_COUNT | LVR_SLOT_CFG_SRC_GROUP | LVR_SLOT_CFG_CASEMENT | LVR_SLOT_CFG_VALID
  | LVR_SLOT_WINDOW_CYCLES | LVR_BUDGET_UNITS | LVR_URGENT_UNITS | LVR_SLOT_STATE_REMAIN | LVR_SLOT_STATE_HELD
  | LVR_SLOT_STATE_URG_REMAIN | DARB_PRIO_DOOR_PRIO | DARB_LATCH_LIMIT | DARB_STATUS_LATCH_SPLIT | DARB_STATUS_RECORDS_FULL
  | DARB_PC_STATE_HOLDER | DARB_PC_STATE_KIND | DARB_PC_STATE_LEFT | DARB_PC_STATE_LAST | PC_QUEUE_STATUS_DEPTH
  | PC_QUEUE_STATUS_TRANSOM | PC_QUEUE_STATUS_URGENT | PC_QUEUE_STATUS_MAINT | PC_QUEUE_STATUS_HIGH_WATER | PC_AGE_CEIL_CYCLES
  | PC_TRANSOM_MERGE | PC_TRANSOM_LIMIT | PC_CSA_STATE_HOLDER | PC_CSA_STATE_REPLAY | PC_CSA_STATE_LATCHES
  | PC_RMW_MAX_CCLK | PC_RMW_PREEMPTED | PC_DEBUG_HALT | PC_DEBUG_HALTED | PC_DEBUG_CMD_PENDING
  | PC_DEBUG_CMD_CMD | PC_SCHED_CNT_AGED | PC_SCHED_CNT_MERGED | PC_BANK_STATE_OPEN | PC_BANK_STATE_ROW
  | PC_BANK_STATE_QUEUED | PC_BANK_STATE_MATCHED | PC_BANK_STATE_LATCHED | HUB_PROFILE_SEL_STACK0 | HUB_PROFILE_SEL_STACK1
  | HUB_PROFILE_SEL_STACK2 | HUB_PROFILE_SEL_SETS | PC_SEQ_STATUS_TSET | PC_SEQ_STATUS_PROFILE | PC_SEQ_STATUS_ACTIVE
  | PC_SEQ_STATUS_LAST_CODE | PC_SEQ_CNT_ACTS | HUB_REF_WINDOW_MS | HUB_REF_WINDOW_EFF_MS | HUB_REF_WINDOW_REFS
  | HUB_REF_CFG_LIMIT | HUB_REF_CFG_HOT | HUB_REF_CFG_STALE | HUB_DISTURB_THRESHOLD | HUB_DISTURB_METHOD
  | HUB_DISTURB_RADIUS | PC_REF_STATUS_MODE | PC_REF_STATUS_IN_SR | PC_REF_STATUS_MAX_DEBT | PC_REF_STATUS_OVERDUE
  | PC_REF_STATUS_NBR_PENDING | PC_SR_IDLE_US | PC_REF_DEBT_DEBT | PC_REF_CNT_REFS | PC_REF_CNT_EMERG
  | PC_NBR_CNT_NBR | PC_NBR_CNT_SR_ENTRIES | PC_ACT_SEL_BANK | PC_ACT_SEL_ENTRY | PC_ACT_READ_ROW
  | PC_ACT_READ_COUNT | SVC_HINGE_CTRL_TARGET | SVC_HINGE_CTRL_GO | SVC_HINGE_STATUS_STEP | SVC_HINGE_STATUS_PENDING
  | SVC_HINGE_STATUS_PEND_HP | SVC_HINGE_STATUS_CAP | SVC_HINGE_STATUS_CLAMPED | SVC_HINGE_STATUS_ERROR | SVC_HINGE_STATUS_COUNT
  | SVC_HINGE_DWELL_MS | SVC_HINGE_DWELL_ENABLED | SVC_HINGE_DWELL_BOOT | SVC_HINGE_TIME_LAST_NS | SVC_PWR_CTRL_STATE
  | SVC_PWR_CTRL_RESUME_HP | SVC_PWR_CTRL_GO | SVC_PWR_STATUS_STATE | SVC_PWR_STATUS_BUSY | SVC_PWR_STATUS_ERROR
  | SVC_PWR_CAP_CMP_OFF | CMP_GATE_CFG_ENABLE | CMP_GATE_STATUS_GATED | PC_TRN_CTRL_STEP | PC_TRN_CTRL_START
  | PC_TRN_CTRL_BUSY | PC_TRN_CTRL_ERROR | PC_TRN_PAT_KIND | PC_TRN_PAT_INVERT | PC_TRN_SEED_SEED
  | PC_TRN_COUNT_BURSTS | PC_TRN_ERR_MAP_LANES | PC_TRN_ERR_CNT_COUNT | PC_TRN_SEL_LANE | PC_TRN_SEL_HP
  | PC_TRN_TRIM_DELAY | PC_TRN_TRIM_VREF | PC_TRN_TRIM_VALID | PC_TRN_TRIM_DRIFT | PC_RETRAIN_PAUSE
  | PC_RETRAIN_INTV_MS | PC_RETRAIN_STATUS_CLIPPED | PC_RETRAIN_STATUS_LAST_FAIL | PC_RETRAIN_STATUS_HALTED | PC_RETRAIN_STATUS_COUNT
  | PC_REPLAY_COUNT | PC_REPLAY_STREAK | PC_REPLAY_LAST_CCLK | PC_REPLAY_BOUND_CCLK | PC_REPLAY_DEPTH_HELD
  | PC_REPLAY_DEPTH_STALLS | ECC_BUCKET_CAPACITY | ECC_BUCKET_LEAK_MS | ECC_INT_STATUS_UE | ECC_INT_STATUS_POISON
  | ECC_INT_STATUS_BUCKET | ECC_INT_STATUS_LOG_DROP | ECC_INT_STATUS_FENCE_HIT | ECC_INT_ENABLE_ENABLE | ECC_LOG_STATUS_USED
  | ECC_LOG_STATUS_DROPPED | ECC_FENCE_HIT_ADDR | ECC_FENCE_HIT_CASEMENT | ECC_FENCE_HIT_VALID | ECC_FENCE_CNT_COUNT
  | ECC_BUCKET_OVF_PCS | ECC_BUCKET_LEVEL_LEVELS | ECC_LOG_LOC_PC | ECC_LOG_LOC_BANK | ECC_LOG_LOC_ROW
  | ECC_LOG_LOC_COL | ECC_LOG_LOC_SYMBOL | ECC_LOG_LOC_KIND | ECC_LOG_LOC_COUNT | ECC_LOG_LOC_CASEMENT
  | ECC_LOG_LOC_VALID | ECC_LOG_INFO_TIME | ECC_LOG_INFO_PANE | ECC_LOG_INFO_IN_PANE | ECC_LOG_INFO_BITS
  | ECC_CNT_CE | ECC_CNT_UE | ECC_FENCE_BASE_BASE | ECC_FENCE_BASE_VALID | ECC_FENCE_LEN_LEN
  | ECC_XLATE_ENTRY | ECC_XLATE_PANE | ECC_XLATE_ADDR | ECC_XLATE_VALID | HUB_1500_STATUS_OWNER
  | HUB_1500_STATUS_PROGRAM | HUB_1500_STATUS_ERROR | HUB_1500_STATUS_AGE_MS | HUB_1500_DIRECT_CTRL_STACK | HUB_1500_DIRECT_CTRL_WIR
  | HUB_1500_DIRECT_CTRL_LEN | HUB_1500_DIRECT_CTRL_GO | HUB_FUSE_STATUS_NEXT | HUB_FUSE_STATUS_BAD | HUB_FUSE_STATUS_FULL
  | HUB_FUSE_STATUS_MAP_FULL | HUB_FUSE_SEL_INDEX | HUB_FUSE_DATA_RECORD | HUB_SPARE_SEL_STACK | HUB_SPARE_SEL_PC
  | HUB_SPARE_SEL_BANK | HUB_SPARE_READ_SOFT_LEFT | HUB_SPARE_READ_HARD_LEFT | HUB_SPARE_READ_LANE_LEFT | HUB_SPARE_READ_PGM_MS
  | HUB_1500_BUF_DATA | THM_AVG_PERIOD_MS | THM_AVG_HYST | THM_STALE_MS | THM_ENTRY_STACK_E1
  | THM_ENTRY_STACK_E2 | THM_ENTRY_STACK_E3 | THM_DIE_ENTRY_E1 | THM_DIE_ENTRY_E2 | THM_DIE_ENTRY_E3
  | THM_ACTION_GEN_SHARE | THM_ACTION_COLL_SHARE | THM_ACTION_THROTTLE | THM_ACTION_HINGE_CAP | THM_STACK_READING
  | THM_STACK_AVG | THM_STACK_TIER | THM_STACK_STALE | THM_STACK_CLOSED | THM_HUB_DIE_TEMP
  | THM_HUB_DIE_TIER | THM_HUB_HUB_TIER | THM_HUB_THROTTLE_OUT | THM_HUB_SENSOR_FAULT | THM_INT_STATUS_TIER_UP
  | THM_INT_STATUS_TIER_DOWN | THM_INT_STATUS_CRITICAL | THM_INT_STATUS_STALE | THM_INT_STATUS_SENSOR | THM_INT_ENABLE_ENABLE
  | THM_CLOSED_CNT_COUNT | CMP_THM_STATUS_TEMP | CMP_THM_STATUS_TIER | CMP_THM_STATUS_LEVEL | CMP_THM_STATUS_HUB_LEVEL
  | SVC_THM_STATUS_PKG_TIER | SVC_THM_STATUS_SVC_TIER | SVC_THM_STATUS_TRIP | SVC_THM_STATUS_TRIP_SRC | SVC_THM_STATUS_TRIP_STACK
  | CMP_CORE_SEL_CLUSTER | CMP_CORE_SEL_CORE | CMP_CORE_STATE_IP | CMP_CORE_STATE_DEPTH | CMP_CORE_STATE_STALL
  | CMP_CORE_STATE_RUNNING | CMP_CORE_STATE_ENDED | CMP_CORE_STATE_STREAMS | CMP_CORE_FAULT_STATUS | CMP_CORE_FAULT_IP
  | CMP_CORE_FAULT_CLUSTER | CMP_CORE_FAULT_CORE | CMP_CORE_FAULT_VALID | CMP_SRAM_PAGE_PAGE | CMP_SRAM_WIN_DATA
  | QUEUE_DB_TAIL | QUEUE_CPL_DB_HEAD | QUEUE_BASE_ADDR | QUEUE_CPL_BASE_ADDR | QUEUE_SIZE_CMD_LOG2
  | QUEUE_SIZE_CPL_LOG2 | QUEUE_CTRL_ENABLE | QUEUE_CTRL_RESTART | QUEUE_CTRL_STOP_ON_ERROR | QUEUE_CTRL_AUTO_RESUME
  | QUEUE_CTRL_ERR_INTR | QUEUE_CTRL_VECTOR | QUEUE_STATUS_HEAD | QUEUE_STATUS_CPL_TAIL | QUEUE_STATE_STOPPED
  | QUEUE_STATE_PHASE | QUEUE_STATE_DB_ERR | QUEUE_STATE_CAUSE | QUEUE_STATE_RUNNING | QUEUE_WDOG_SECONDS
  | QUEUE_INFO_ID | QUEUE_INFO_CASEMENT | QUEUE_INFO_INDEX | QUEUE_INFO_VALID | SYNC_CNT_VALUE
  | PAGE_PREFETCH_WIN_US | PAGE_POOL_SEL_CASEMENT | PAGE_POOL_SEL_POOL | PAGE_POOL_FREE_PAGES | PAGE_POOL_STATE_INIT
  | PAGE_POOL_STATE_BROKEN | PAGE_POOL_STATE_HELD | PAGE_PTC_CNT_HITS | PAGE_PTC_CNT_MISSES | PAGE_FETCH_CNT_DEMAND
  | PAGE_FETCH_CNT_TIMEOUTS | CMP_EXP_STATE_OWNER | CMP_EXP_STATE_LOADED | CMP_EXP_STATE_QUEUED | CMP_EXP_STATE_SLOTS
  | CMP_EXP_SLOTS_HI_SLOTS | CMP_EXP_CNT_TILES | TRW_PORT_CTRL_ENABLE | TRW_PORT_CTRL_PRESET | TRW_PORT_STATUS_UP
  | TRW_PORT_STATUS_WIDTH | TRW_PORT_STATUS_DIR | TRW_PORT_STATUS_FAILS | TRW_PORT_RETRY_COUNT | TRW_NODE_ID_NODE
  | TRW_LINK_FAIL_US | TRW_UNROUTABLE_COUNT | RING_COLL_TIMEOUT_MS | RING_STALL_GRANT_MS | RING_STALL_CNT_SENT
  | RING_STALL_CNT_RECEIVED | RING_COLL_STATE_STEP | RING_COLL_STATE_TIER | RING_COLL_STATE_EXTENDED | FN_INFO_CASEMENT
  | FN_INFO_VALID | FN_INFO_READY | FN_CTRL_HOST_CLASS | FN_WIN_BASE_BASE | FN_RESET_CASE_SELF_RST
  | FN_RESET_BUSY | FN_EVENT_STATUS_READY | FN_EVENT_STATUS_RESET_DONE | FN_EVENT_STATUS_PF1 | FN_EVENT_STATUS_HINGE
  | FN_EVENT_STATUS_THERMAL | FN_EVENT_STATUS_REFUSED | FN_EVENT_ENABLE_ENABLE | AKS_STATUS_STATE | AKS_STATUS_CD_PWR_OK
  | AKS_STATUS_CD_RST_N | AKS_STATUS_FAIL_STATE | AKS_STATUS_FAIL_SLICE | AKS_CREDIT_GEN | AKS_CREDIT_URG
  | AKS_REPLAY_COUNT | AKS_REPLAY_STREAK | AKS_CRC_ERR_COUNT | AKS_REPAIR_SPARES | CNT_CFG_EVENT
  | CNT_CFG_UNIT | CNT_CFG_SUB | CNT_CFG_SUB_EN | CNT_CFG_CASEMENT | CNT_CFG_CAS_EN
  | CNT_CFG_ENABLE | CNT_CFG_OVF | CNT_OWNER_CASEMENT | CNT_OWNER_HELD | CNT_VALUE_VALUE
  | CNT_CTRL_FROZEN | CNT_CTRL_THAW | CNT_FREEZE_AT_TICK | CNT_READ_TIME_TICK | SMP_CTRL_ENABLE
  | SMP_CTRL_CASEMENT | SMP_CTRL_SIZE_LOG2 | SMP_PERIOD_PERIOD | SMP_PERIOD_JITTER | SMP_SEED_SEED
  | SMP_BASE_ADDR | SMP_PTR_WP | SMP_RP_RP | SMP_STATUS_DROPPED | TRC_CTRL_ENABLE
  | TRC_CTRL_CASEMENT | TRC_CTRL_CMDS | TRC_CTRL_SIZE_LOG2 | TRC_BASE_ADDR | TRC_PTR_WP
  | TRC_RP_RP | TRC_STATUS_BAD_BUF | TRC_STATUS_LOST | CMP_CCNT_CFG_EVENT0 | CMP_CCNT_CFG_EVENT1
  | CMP_CCNT_READ_CNT0 | CMP_CCNT_READ_CNT1 | FN_CNT_CFG_EVENT | FN_CNT_CFG_UNIT | FN_CNT_CFG_SUB
  | FN_CNT_CFG_SUB_EN | FN_CNT_CFG_CASEMENT | FN_CNT_CFG_CAS_EN | FN_CNT_CFG_ENABLE | FN_CNT_CFG_ALLOC_ERR
  | FN_CNT_CFG_BANK | FN_CNT_VALUE_VALUE | FN_CCNT_SEL_RANK | FN_CCNT_READ_CNT0 | FN_CCNT_READ_CNT1
  | SVC_ACC_ERR_OFFSET | SVC_ACC_ERR_BAR | SVC_ACC_ERR_FUNCTION | SVC_ACC_ERR_WRITE | SVC_ACC_ERR_WIDTH
  | SVC_ACC_ERR_REASON | SVC_ACC_ERR_COUNT | SVC_ACC_ERR_VALID | HUB_INT_STATUS_RING_LINK_DOWN | HUB_INT_STATUS_PC_HALT
  | HUB_INT_STATUS_AKSAL_DOWN | HUB_INT_STATUS_ECC | HUB_INT_STATUS_THM | HUB_IMG_STATUS_STATE | HUB_IMG_STATUS_ERROR
  | HUB_IMG_STATUS_FRAME_IDX | SVC_PF_TIMES_BROWNOUT_MS | SVC_PF_TIMES_DRAIN_US | HUB_INT_ENABLE_ENABLE | CMP_SMP_CTRL_ENABLE
  | CMP_SMP_CTRL_CASEMENT | CMP_SMP_PERIOD_PERIOD | CMP_SMP_PERIOD_JITTER | CMP_SMP_SEED_SEED | SVC_RECOV_BUF_DATA
  deriving DecidableEq, Repr

/-- The access codes of R6; `cnt` is an RW1C count, cleared by writing its all-ones value. -/
inductive Acc where
  | rw | ro | w1c | cnt | wo | img
  deriving DecidableEq, Repr

/-- One row of a register's field table: bits [lo + width - 1 : lo], its access code and the range a write must lie in. -/
structure FieldRow where
  f : Fld
  lo : Nat
  width : Nat
  acc : Acc
  min : Nat
  max : Nat
  deriving DecidableEq, Repr

/-- The windows of R431, and the function page of R378. -/
inductive Win where
  | svc | hub | die | fn
  deriving DecidableEq, Repr

/-- One row of the register index: the register, its window, its base offset in the window, its strides (how many, bytes apart) and what is added to the die's number in the field's key
(engines share the QUEUE_ names, dies share the CNT_ and AKS_ names with the hubs). -/
structure RegRow where
  reg : Reg
  win : Win
  base : Nat
  strides : List (Nat × Nat)
  dOff : Nat
  deriving DecidableEq, Repr

/-- A register of the package: its name, the number in its fields' keys, and its indices. -/
structure RegAt where
  reg : Reg
  d : Nat
  i : Nat
  j : Nat
  deriving DecidableEq, Repr

end Sys2Proof.Machine
end

