-- ==== Sys2Proof/Machine/RegTable.lean ====
section
/-! DEFINITION. The register tables of spec/, row by row: where each register lies (R431), its fields, their access codes (R6), ranges and Reset values (R8). -/

namespace Sys2Proof.Machine

/-- The fields of a register, from the table of its chapter. -/
def fieldsOf : Reg → List FieldRow
  | .SVC_FAMILY_ID => [⟨.SVC_FAMILY_ID_MEMBER, 0, 4, .img, 0, 15⟩,
      ⟨.SVC_FAMILY_ID_STEPPING, 4, 4, .img, 0, 15⟩,
      ⟨.SVC_FAMILY_ID_HUB_MASK, 8, 4, .img, 0, 15⟩,
      ⟨.SVC_FAMILY_ID_CDIE_MASK, 12, 4, .img, 0, 15⟩,
      ⟨.SVC_FAMILY_ID_STACK_MASK, 16, 12, .img, 0, 4095⟩]
  | .SVC_PKG_SCALE => [⟨.SVC_PKG_SCALE_PC_COUNT, 0, 9, .img, 0, 511⟩,
      ⟨.SVC_PKG_SCALE_CLUSTERS_PER_DIE, 9, 7, .img, 0, 127⟩,
      ⟨.SVC_PKG_SCALE_TROWIRY_PORTS, 16, 5, .img, 0, 31⟩,
      ⟨.SVC_PKG_SCALE_RING_HOPS_MAX, 21, 2, .img, 0, 3⟩,
      ⟨.SVC_PKG_SCALE_CASEMENTS, 23, 6, .img, 0, 63⟩]
  | .HUB_STACK_GEOM => [⟨.HUB_STACK_GEOM_PRESENT, 0, 1, .ro, 0, 1⟩,
      ⟨.HUB_STACK_GEOM_BANKS, 1, 2, .ro, 0, 3⟩,
      ⟨.HUB_STACK_GEOM_DIES, 3, 4, .ro, 0, 15⟩,
      ⟨.HUB_STACK_GEOM_CAPACITY_GIB, 7, 8, .ro, 0, 255⟩,
      ⟨.HUB_STACK_GEOM_MAX_RATE, 15, 8, .ro, 0, 255⟩,
      ⟨.HUB_STACK_GEOM_VENDOR_CODE, 23, 8, .ro, 0, 255⟩,
      ⟨.HUB_STACK_GEOM_TRAINED, 31, 1, .ro, 0, 1⟩]
  | .HUB_IDENT => [⟨.HUB_IDENT_HUB_NUM, 0, 2, .img, 0, 3⟩,
      ⟨.HUB_IDENT_STACKS, 2, 2, .ro, 0, 3⟩,
      ⟨.HUB_IDENT_RING_UP, 4, 2, .ro, 0, 3⟩]
  | .IMG_STATUS => [⟨.IMG_STATUS_STATE, 0, 3, .ro, 0, 7⟩,
      ⟨.IMG_STATUS_KIND, 3, 1, .ro, 0, 1⟩,
      ⟨.IMG_STATUS_ERROR, 4, 8, .ro, 0, 255⟩,
      ⟨.IMG_STATUS_FRAME_IDX, 12, 16, .ro, 0, 65535⟩,
      ⟨.IMG_STATUS_SLOT, 28, 1, .ro, 0, 1⟩,
      ⟨.IMG_STATUS_HUB, 29, 2, .ro, 0, 3⟩]
  | .IMG_CTRL => [⟨.IMG_CTRL_GO, 0, 1, .wo, 0, 1⟩,
      ⟨.IMG_CTRL_ABORT, 1, 1, .wo, 0, 1⟩,
      ⟨.IMG_CTRL_BUSY, 8, 1, .ro, 0, 1⟩]
  | .IMG_ID => [⟨.IMG_ID_ID, 0, 64, .ro, 0, 18446744073709551615⟩]
  | .IMG_PART_BASE => [⟨.IMG_PART_BASE_ADDR, 0, 48, .rw, 0, 281474976710655⟩]
  | .IMG_PART_LEN => [⟨.IMG_PART_LEN_LEN, 0, 21, .rw, 264, 1048576⟩]
  | .IMG_ROLLBACK => [⟨.IMG_ROLLBACK_FUSED, 0, 7, .ro, 0, 127⟩,
      ⟨.IMG_ROLLBACK_ADVANCE, 31, 1, .wo, 0, 1⟩]
  | .IMG_QUIESCE => [⟨.IMG_QUIESCE_PANES, 0, 64, .rw, 0, 18446744073709551615⟩]
  | .IMG_QUIESCED => [⟨.IMG_QUIESCED_PANES, 0, 64, .ro, 0, 18446744073709551615⟩]
  | .SVC_BUS_VOLT => [⟨.SVC_BUS_VOLT_VOLTS, 0, 10, .ro, 0, 1023⟩,
      ⟨.SVC_BUS_VOLT_MIN, 16, 10, .ro, 0, 1023⟩,
      ⟨.SVC_BUS_VOLT_MIN_CLR, 31, 1, .wo, 0, 1⟩]
  | .SVC_PF_CFG => [⟨.SVC_PF_CFG_PF1_LEVEL, 0, 9, .rw, 400, 460⟩,
      ⟨.SVC_PF_CFG_PF1_FILT, 9, 7, .rw, 5, 100⟩,
      ⟨.SVC_PF_CFG_PF2_LEVEL, 16, 9, .rw, 360, 400⟩,
      ⟨.SVC_PF_CFG_PF2_FILT, 25, 4, .rw, 1, 10⟩]
  | .SVC_PF_STATUS => [⟨.SVC_PF_STATUS_PF1, 0, 1, .ro, 0, 1⟩,
      ⟨.SVC_PF_STATUS_PF2, 1, 1, .ro, 0, 1⟩,
      ⟨.SVC_PF_STATUS_KEEP, 2, 1, .ro, 0, 1⟩,
      ⟨.SVC_PF_STATUS_PF1_SEEN, 8, 1, .w1c, 0, 1⟩,
      ⟨.SVC_PF_STATUS_PF2_SEEN, 9, 1, .w1c, 0, 1⟩,
      ⟨.SVC_PF_STATUS_BROWNOUT, 10, 1, .w1c, 0, 1⟩,
      ⟨.SVC_PF_STATUS_OV_SEEN, 11, 1, .w1c, 0, 1⟩,
      ⟨.SVC_PF_STATUS_PFN_SEEN, 12, 1, .w1c, 0, 1⟩,
      ⟨.SVC_PF_STATUS_LOST, 13, 1, .w1c, 0, 1⟩,
      ⟨.SVC_PF_STATUS_DRAIN_US, 16, 8, .ro, 0, 255⟩]
  | .SVC_SLEW_LIMIT => [⟨.SVC_SLEW_LIMIT_RATE, 0, 6, .rw, 1, 40⟩,
      ⟨.SVC_SLEW_LIMIT_EST_A, 16, 10, .ro, 0, 1023⟩]
  | .SVC_TIME64 => [⟨.SVC_TIME64_TICKS, 0, 64, .ro, 0, 18446744073709551615⟩]
  | .SVC_TIME_SYNC => [⟨.SVC_TIME_SYNC_PERIOD_US, 0, 14, .rw, 100, 10000⟩,
      ⟨.SVC_TIME_SYNC_ALIGNED, 16, 1, .ro, 0, 1⟩,
      ⟨.SVC_TIME_SYNC_DRIFT, 17, 1, .w1c, 0, 1⟩,
      ⟨.SVC_TIME_SYNC_OFFSET, 24, 8, .ro, 0, 255⟩]
  | .SVC_CLK_STATUS => [⟨.SVC_CLK_STATUS_HP, 0, 3, .ro, 0, 7⟩,
      ⟨.SVC_CLK_STATUS_KDIV, 3, 3, .ro, 0, 7⟩,
      ⟨.SVC_CLK_STATUS_PLL_LOCK, 6, 9, .ro, 0, 511⟩,
      ⟨.SVC_CLK_STATUS_REF_LOSS, 16, 1, .w1c, 0, 1⟩,
      ⟨.SVC_CLK_STATUS_REF_OK, 17, 1, .ro, 0, 1⟩]
  | .HUB_TIME64 => [⟨.HUB_TIME64_TICKS, 0, 64, .ro, 0, 18446744073709551615⟩]
  | .SVC_BOOT_STATUS => [⟨.SVC_BOOT_STATUS_PHASE, 0, 5, .ro, 0, 31⟩,
      ⟨.SVC_BOOT_STATUS_KIND, 5, 2, .ro, 0, 3⟩,
      ⟨.SVC_BOOT_STATUS_ERROR, 7, 8, .ro, 0, 255⟩,
      ⟨.SVC_BOOT_STATUS_UNIT, 15, 9, .ro, 0, 511⟩,
      ⟨.SVC_BOOT_STATUS_FALLBACK, 24, 1, .ro, 0, 1⟩,
      ⟨.SVC_BOOT_STATUS_ATTEMPT, 25, 2, .ro, 0, 3⟩,
      ⟨.SVC_BOOT_STATUS_CAUSE, 27, 5, .ro, 0, 31⟩]
  | .SVC_BOOT_SEL => [⟨.SVC_BOOT_SEL_PREFER, 0, 1, .rw, 0, 1⟩]
  | .SVC_BOOT_WDOG => [⟨.SVC_BOOT_WDOG_SECONDS, 0, 6, .rw, 2, 60⟩]
  | .SVC_RST_CTRL => [⟨.SVC_RST_CTRL_WARM, 0, 1, .wo, 0, 1⟩,
      ⟨.SVC_RST_CTRL_COLD, 1, 1, .wo, 0, 1⟩,
      ⟨.SVC_RST_CTRL_KEY, 16, 16, .wo, 0, 65535⟩]
  | .SVC_CASE_RST => [⟨.SVC_CASE_RST_CASEMENTS, 0, 32, .wo, 0, 4294967295⟩]
  | .SVC_CASE_RST_BUSY => [⟨.SVC_CASE_RST_BUSY_CASEMENTS, 0, 32, .ro, 0, 4294967295⟩]
  | .SVC_RECOV_GO => [⟨.SVC_RECOV_GO_GO, 0, 1, .wo, 0, 1⟩]
  | .SVC_FW_ROLLBACK => [⟨.SVC_FW_ROLLBACK_FUSED, 0, 7, .ro, 0, 127⟩]
  | .PANE_CFG => [⟨.PANE_CFG_ORDER, 0, 2, .img, 0, 3⟩,
      ⟨.PANE_CFG_GRANULE_LOG2, 2, 4, .img, 0, 15⟩,
      ⟨.PANE_CFG_MODES, 6, 3, .img, 0, 7⟩,
      ⟨.PANE_CFG_CASEMENT, 9, 5, .img, 0, 31⟩,
      ⟨.PANE_CFG_GROUP, 14, 4, .img, 0, 15⟩,
      ⟨.PANE_CFG_GROUPED, 18, 1, .img, 0, 1⟩,
      ⟨.PANE_CFG_VALID, 19, 1, .img, 0, 1⟩,
      ⟨.PANE_CFG_PC_COUNT, 20, 9, .img, 0, 511⟩]
  | .PANE_BASE => [⟨.PANE_BASE_BASE, 0, 48, .img, 0, 281474976710655⟩]
  | .PANE_SIZE => [⟨.PANE_SIZE_SIZE, 0, 48, .img, 0, 281474976710655⟩]
  | .PANE_ROWS => [⟨.PANE_ROWS_ROW_FIRST, 0, 18, .img, 0, 262143⟩,
      ⟨.PANE_ROWS_ROW_COUNT, 32, 18, .img, 0, 262143⟩]
  | .PANE_PC_MASK => [⟨.PANE_PC_MASK_MASK, 0, 64, .img, 0, 18446744073709551615⟩]
  | .PANE_GROUP_SETS => [⟨.PANE_GROUP_SETS_PRESENT, 0, 4, .img, 0, 15⟩,
      ⟨.PANE_GROUP_SETS_OVERLAP, 4, 4, .ro, 0, 15⟩]
  | .HUB_DECODE_ERR => [⟨.HUB_DECODE_ERR_ADDR, 0, 48, .ro, 0, 281474976710655⟩,
      ⟨.HUB_DECODE_ERR_CASEMENT, 48, 5, .ro, 0, 31⟩,
      ⟨.HUB_DECODE_ERR_DOOR, 53, 4, .ro, 0, 15⟩,
      ⟨.HUB_DECODE_ERR_REASON, 57, 3, .ro, 0, 7⟩,
      ⟨.HUB_DECODE_ERR_VALID, 63, 1, .w1c, 0, 1⟩]
  | .HUB_DECODE_CNT => [⟨.HUB_DECODE_CNT_COUNT, 0, 32, .cnt, 0, 4294967295⟩]
  | .IMG_LAYOUT_CTRL => [⟨.IMG_LAYOUT_CTRL_GROUP, 0, 4, .rw, 0, 15⟩,
      ⟨.IMG_LAYOUT_CTRL_SET, 4, 2, .rw, 0, 3⟩,
      ⟨.IMG_LAYOUT_CTRL_GO, 8, 1, .wo, 0, 1⟩,
      ⟨.IMG_LAYOUT_CTRL_BUSY, 9, 1, .ro, 0, 1⟩,
      ⟨.IMG_LAYOUT_CTRL_ERROR, 16, 8, .ro, 0, 255⟩]
  | .IMG_LAYOUT_ACTIVE => [⟨.IMG_LAYOUT_ACTIVE_SETS, 0, 32, .ro, 0, 4294967295⟩]
  | .SVC_WIN_BASE => [⟨.SVC_WIN_BASE_BASE, 21, 27, .rw, 0, 134217727⟩]
  | .DOOR_CFG => [⟨.DOOR_CFG_ENABLE, 0, 1, .img, 0, 1⟩,
      ⟨.DOOR_CFG_MODE, 1, 1, .img, 0, 1⟩,
      ⟨.DOOR_CFG_URGENT_CRED, 2, 7, .img, 0, 127⟩,
      ⟨.DOOR_CFG_MAINT_CRED, 9, 4, .img, 0, 15⟩,
      ⟨.DOOR_CFG_ENTRIES, 13, 10, .ro, 0, 1023⟩]
  | .DOOR_STATUS => [⟨.DOOR_STATUS_MASKED, 0, 1, .ro, 0, 1⟩,
      ⟨.DOOR_STATUS_FREE, 1, 10, .ro, 0, 1023⟩,
      ⟨.DOOR_STATUS_RECORDS, 11, 5, .ro, 0, 31⟩]
  | .DOOR_SRC_VALID => [⟨.DOOR_SRC_VALID_CASEMENTS, 0, 32, .img, 0, 4294967295⟩]
  | .DOOR_SRC_MAP => [⟨.DOOR_SRC_MAP_GROUPS, 0, 32, .img, 0, 4294967295⟩]
  | .DOOR_PREEMPT_CNT => [⟨.DOOR_PREEMPT_CNT_COUNT, 0, 32, .cnt, 0, 4294967295⟩]
  | .DOOR_HOLD_CNT => [⟨.DOOR_HOLD_CNT_COUNT, 0, 32, .cnt, 0, 4294967295⟩]
  | .LVR_SLOT_CFG => [⟨.LVR_SLOT_CFG_SRC_GROUP, 0, 4, .img, 0, 15⟩,
      ⟨.LVR_SLOT_CFG_CASEMENT, 4, 5, .img, 0, 31⟩,
      ⟨.LVR_SLOT_CFG_VALID, 9, 1, .img, 0, 1⟩]
  | .LVR_SLOT_WINDOW => [⟨.LVR_SLOT_WINDOW_CYCLES, 0, 21, .rw, 64, 1600000⟩]
  | .LVR_BUDGET => [⟨.LVR_BUDGET_UNITS, 0, 24, .rw, 8, 16777215⟩]
  | .LVR_URGENT => [⟨.LVR_URGENT_UNITS, 0, 24, .rw, 0, 16777215⟩]
  | .LVR_SLOT_STATE => [⟨.LVR_SLOT_STATE_REMAIN, 0, 24, .ro, 0, 16777215⟩,
      ⟨.LVR_SLOT_STATE_HELD, 24, 1, .ro, 0, 1⟩,
      ⟨.LVR_SLOT_STATE_URG_REMAIN, 25, 7, .ro, 0, 127⟩]
  | .DARB_PRIO => [⟨.DARB_PRIO_DOOR_PRIO, 0, 36, .rw, 0, 68719476735⟩]
  | .DARB_LATCH => [⟨.DARB_LATCH_LIMIT, 0, 7, .img, 0, 127⟩]
  | .DARB_STATUS => [⟨.DARB_STATUS_LATCH_SPLIT, 0, 1, .w1c, 0, 1⟩,
      ⟨.DARB_STATUS_RECORDS_FULL, 1, 1, .w1c, 0, 1⟩]
  | .DARB_PC_STATE => [⟨.DARB_PC_STATE_HOLDER, 0, 4, .ro, 0, 15⟩,
      ⟨.DARB_PC_STATE_KIND, 4, 2, .ro, 0, 3⟩,
      ⟨.DARB_PC_STATE_LEFT, 6, 7, .ro, 0, 127⟩,
      ⟨.DARB_PC_STATE_LAST, 13, 4, .ro, 0, 15⟩]
  | .PC_QUEUE_STATUS => [⟨.PC_QUEUE_STATUS_DEPTH, 0, 8, .ro, 0, 255⟩,
      ⟨.PC_QUEUE_STATUS_TRANSOM, 8, 6, .ro, 0, 63⟩,
      ⟨.PC_QUEUE_STATUS_URGENT, 14, 3, .ro, 0, 7⟩,
      ⟨.PC_QUEUE_STATUS_MAINT, 17, 2, .ro, 0, 3⟩,
      ⟨.PC_QUEUE_STATUS_HIGH_WATER, 19, 8, .ro, 0, 255⟩]
  | .PC_AGE_CEIL => [⟨.PC_AGE_CEIL_CYCLES, 0, 13, .rw, 64, 4096⟩]
  | .PC_TRANSOM => [⟨.PC_TRANSOM_MERGE, 0, 5, .ro, 0, 31⟩,
      ⟨.PC_TRANSOM_LIMIT, 5, 6, .ro, 0, 63⟩]
  | .PC_CSA_STATE => [⟨.PC_CSA_STATE_HOLDER, 0, 3, .ro, 0, 7⟩,
      ⟨.PC_CSA_STATE_REPLAY, 3, 1, .ro, 0, 1⟩,
      ⟨.PC_CSA_STATE_LATCHES, 4, 6, .ro, 0, 63⟩]
  | .PC_RMW => [⟨.PC_RMW_MAX_CCLK, 0, 10, .ro, 0, 1023⟩,
      ⟨.PC_RMW_PREEMPTED, 16, 1, .w1c, 0, 1⟩]
  | .PC_DEBUG => [⟨.PC_DEBUG_HALT, 0, 1, .rw, 0, 1⟩,
      ⟨.PC_DEBUG_HALTED, 1, 1, .ro, 0, 1⟩,
      ⟨.PC_DEBUG_CMD_PENDING, 2, 1, .ro, 0, 1⟩]
  | .PC_DEBUG_CMD => [⟨.PC_DEBUG_CMD_CMD, 0, 64, .wo, 0, 18446744073709551615⟩]
  | .PC_SCHED_CNT => [⟨.PC_SCHED_CNT_AGED, 0, 16, .cnt, 0, 65535⟩,
      ⟨.PC_SCHED_CNT_MERGED, 16, 16, .cnt, 0, 65535⟩]
  | .PC_BANK_STATE => [⟨.PC_BANK_STATE_OPEN, 0, 1, .ro, 0, 1⟩,
      ⟨.PC_BANK_STATE_ROW, 1, 18, .ro, 0, 262143⟩,
      ⟨.PC_BANK_STATE_QUEUED, 19, 8, .ro, 0, 255⟩,
      ⟨.PC_BANK_STATE_MATCHED, 27, 1, .ro, 0, 1⟩,
      ⟨.PC_BANK_STATE_LATCHED, 28, 1, .ro, 0, 1⟩]
  | .HUB_PROFILE_SEL => [⟨.HUB_PROFILE_SEL_STACK0, 0, 2, .img, 0, 3⟩,
      ⟨.HUB_PROFILE_SEL_STACK1, 2, 2, .img, 0, 3⟩,
      ⟨.HUB_PROFILE_SEL_STACK2, 4, 2, .img, 0, 3⟩,
      ⟨.HUB_PROFILE_SEL_SETS, 8, 5, .img, 0, 31⟩]
  | .PC_SEQ_STATUS => [⟨.PC_SEQ_STATUS_TSET, 0, 3, .ro, 0, 7⟩,
      ⟨.PC_SEQ_STATUS_PROFILE, 3, 2, .ro, 0, 3⟩,
      ⟨.PC_SEQ_STATUS_ACTIVE, 5, 6, .ro, 0, 63⟩,
      ⟨.PC_SEQ_STATUS_LAST_CODE, 11, 5, .ro, 0, 31⟩]
  | .PC_SEQ_CNT => [⟨.PC_SEQ_CNT_ACTS, 0, 32, .cnt, 0, 4294967295⟩]
  | .HUB_REF_WINDOW => [⟨.HUB_REF_WINDOW_MS, 0, 7, .img, 0, 127⟩,
      ⟨.HUB_REF_WINDOW_EFF_MS, 8, 7, .ro, 0, 127⟩,
      ⟨.HUB_REF_WINDOW_REFS, 16, 16, .img, 0, 65535⟩]
  | .HUB_REF_CFG => [⟨.HUB_REF_CFG_LIMIT, 0, 4, .img, 0, 15⟩,
      ⟨.HUB_REF_CFG_HOT, 4, 3, .ro, 0, 7⟩,
      ⟨.HUB_REF_CFG_STALE, 8, 3, .ro, 0, 7⟩]
  | .HUB_DISTURB => [⟨.HUB_DISTURB_THRESHOLD, 0, 14, .img, 0, 16383⟩,
      ⟨.HUB_DISTURB_METHOD, 16, 1, .img, 0, 1⟩,
      ⟨.HUB_DISTURB_RADIUS, 17, 3, .img, 0, 7⟩]
  | .PC_REF_STATUS => [⟨.PC_REF_STATUS_MODE, 0, 1, .img, 0, 1⟩,
      ⟨.PC_REF_STATUS_IN_SR, 1, 1, .ro, 0, 1⟩,
      ⟨.PC_REF_STATUS_MAX_DEBT, 2, 4, .ro, 0, 15⟩,
      ⟨.PC_REF_STATUS_OVERDUE, 8, 1, .w1c, 0, 1⟩,
      ⟨.PC_REF_STATUS_NBR_PENDING, 9, 1, .ro, 0, 1⟩]
  | .PC_SR_IDLE => [⟨.PC_SR_IDLE_US, 0, 24, .img, 0, 16777215⟩]
  | .PC_REF_DEBT => [⟨.PC_REF_DEBT_DEBT, 0, 32, .ro, 0, 4294967295⟩]
  | .PC_REF_CNT => [⟨.PC_REF_CNT_REFS, 0, 16, .cnt, 0, 65535⟩,
      ⟨.PC_REF_CNT_EMERG, 16, 16, .cnt, 0, 65535⟩]
  | .PC_NBR_CNT => [⟨.PC_NBR_CNT_NBR, 0, 16, .cnt, 0, 65535⟩,
      ⟨.PC_NBR_CNT_SR_ENTRIES, 16, 16, .cnt, 0, 65535⟩]
  | .PC_ACT_SEL => [⟨.PC_ACT_SEL_BANK, 0, 6, .rw, 0, 47⟩,
      ⟨.PC_ACT_SEL_ENTRY, 6, 5, .rw, 0, 31⟩]
  | .PC_ACT_READ => [⟨.PC_ACT_READ_ROW, 0, 18, .ro, 0, 262143⟩,
      ⟨.PC_ACT_READ_COUNT, 18, 14, .ro, 0, 16383⟩]
  | .SVC_HINGE_CTRL => [⟨.SVC_HINGE_CTRL_TARGET, 0, 3, .rw, 0, 4⟩,
      ⟨.SVC_HINGE_CTRL_GO, 8, 1, .wo, 0, 1⟩]
  | .SVC_HINGE_STATUS => [⟨.SVC_HINGE_STATUS_STEP, 0, 4, .ro, 0, 15⟩,
      ⟨.SVC_HINGE_STATUS_PENDING, 4, 1, .ro, 0, 1⟩,
      ⟨.SVC_HINGE_STATUS_PEND_HP, 5, 3, .ro, 0, 7⟩,
      ⟨.SVC_HINGE_STATUS_CAP, 8, 3, .ro, 0, 7⟩,
      ⟨.SVC_HINGE_STATUS_CLAMPED, 11, 1, .w1c, 0, 1⟩,
      ⟨.SVC_HINGE_STATUS_ERROR, 12, 2, .ro, 0, 3⟩,
      ⟨.SVC_HINGE_STATUS_COUNT, 16, 16, .ro, 0, 65535⟩]
  | .SVC_HINGE_DWELL => [⟨.SVC_HINGE_DWELL_MS, 0, 14, .img, 0, 16383⟩,
      ⟨.SVC_HINGE_DWELL_ENABLED, 16, 5, .img, 0, 31⟩,
      ⟨.SVC_HINGE_DWELL_BOOT, 21, 3, .img, 0, 7⟩]
  | .SVC_HINGE_TIME => [⟨.SVC_HINGE_TIME_LAST_NS, 0, 20, .ro, 0, 1048575⟩]
  | .SVC_PWR_CTRL => [⟨.SVC_PWR_CTRL_STATE, 0, 2, .rw, 0, 2⟩,
      ⟨.SVC_PWR_CTRL_RESUME_HP, 2, 3, .rw, 0, 4⟩,
      ⟨.SVC_PWR_CTRL_GO, 8, 1, .wo, 0, 1⟩]
  | .SVC_PWR_STATUS => [⟨.SVC_PWR_STATUS_STATE, 0, 2, .ro, 0, 3⟩,
      ⟨.SVC_PWR_STATUS_BUSY, 2, 1, .ro, 0, 1⟩,
      ⟨.SVC_PWR_STATUS_ERROR, 4, 2, .ro, 0, 3⟩]
  | .SVC_PWR_CAP => [⟨.SVC_PWR_CAP_CMP_OFF, 0, 1, .rw, 0, 1⟩]
  | .CMP_GATE_CFG => [⟨.CMP_GATE_CFG_ENABLE, 0, 1, .rw, 0, 1⟩]
  | .CMP_GATE_STATUS => [⟨.CMP_GATE_STATUS_GATED, 0, 32, .ro, 0, 4294967295⟩]
  | .PC_TRN_CTRL => [⟨.PC_TRN_CTRL_STEP, 0, 3, .rw, 0, 5⟩,
      ⟨.PC_TRN_CTRL_START, 3, 1, .wo, 0, 1⟩,
      ⟨.PC_TRN_CTRL_BUSY, 4, 1, .ro, 0, 1⟩,
      ⟨.PC_TRN_CTRL_ERROR, 5, 1, .w1c, 0, 1⟩]
  | .PC_TRN_PAT => [⟨.PC_TRN_PAT_KIND, 0, 3, .rw, 0, 6⟩,
      ⟨.PC_TRN_PAT_INVERT, 3, 1, .rw, 0, 1⟩]
  | .PC_TRN_SEED => [⟨.PC_TRN_SEED_SEED, 0, 64, .rw, 0, 18446744073709551615⟩]
  | .PC_TRN_COUNT => [⟨.PC_TRN_COUNT_BURSTS, 0, 16, .rw, 1, 65535⟩]
  | .PC_TRN_ERR_MAP => [⟨.PC_TRN_ERR_MAP_LANES, 0, 58, .w1c, 0, 288230376151711743⟩]
  | .PC_TRN_ERR_CNT => [⟨.PC_TRN_ERR_CNT_COUNT, 0, 32, .cnt, 0, 4294967295⟩]
  | .PC_TRN_SEL => [⟨.PC_TRN_SEL_LANE, 0, 6, .rw, 0, 57⟩,
      ⟨.PC_TRN_SEL_HP, 8, 3, .rw, 0, 4⟩]
  | .PC_TRN_TRIM => [⟨.PC_TRN_TRIM_DELAY, 0, 7, .rw, 0, 127⟩,
      ⟨.PC_TRN_TRIM_VREF, 8, 7, .rw, 0, 127⟩,
      ⟨.PC_TRN_TRIM_VALID, 15, 1, .ro, 0, 1⟩,
      ⟨.PC_TRN_TRIM_DRIFT, 16, 8, .ro, 0, 255⟩]
  | .PC_RETRAIN => [⟨.PC_RETRAIN_PAUSE, 0, 7, .rw, 10, 100⟩,
      ⟨.PC_RETRAIN_INTV_MS, 16, 10, .rw, 10, 1000⟩]
  | .PC_RETRAIN_STATUS => [⟨.PC_RETRAIN_STATUS_CLIPPED, 0, 1, .w1c, 0, 1⟩,
      ⟨.PC_RETRAIN_STATUS_LAST_FAIL, 1, 1, .w1c, 0, 1⟩,
      ⟨.PC_RETRAIN_STATUS_HALTED, 2, 1, .ro, 0, 1⟩,
      ⟨.PC_RETRAIN_STATUS_COUNT, 16, 16, .ro, 0, 65535⟩]
  | .PC_REPLAY => [⟨.PC_REPLAY_COUNT, 0, 16, .cnt, 0, 65535⟩,
      ⟨.PC_REPLAY_STREAK, 16, 3, .ro, 0, 7⟩,
      ⟨.PC_REPLAY_LAST_CCLK, 20, 12, .ro, 0, 4095⟩]
  | .PC_REPLAY_BOUND => [⟨.PC_REPLAY_BOUND_CCLK, 0, 12, .ro, 0, 4095⟩]
  | .PC_REPLAY_DEPTH => [⟨.PC_REPLAY_DEPTH_HELD, 0, 7, .ro, 0, 127⟩,
      ⟨.PC_REPLAY_DEPTH_STALLS, 16, 16, .cnt, 0, 65535⟩]
  | .ECC_BUCKET => [⟨.ECC_BUCKET_CAPACITY, 0, 8, .img, 0, 255⟩,
      ⟨.ECC_BUCKET_LEAK_MS, 8, 16, .img, 0, 65535⟩]
  | .ECC_INT_STATUS => [⟨.ECC_INT_STATUS_UE, 0, 1, .w1c, 0, 1⟩,
      ⟨.ECC_INT_STATUS_POISON, 1, 1, .w1c, 0, 1⟩,
      ⟨.ECC_INT_STATUS_BUCKET, 2, 1, .w1c, 0, 1⟩,
      ⟨.ECC_INT_STATUS_LOG_DROP, 3, 1, .w1c, 0, 1⟩,
      ⟨.ECC_INT_STATUS_FENCE_HIT, 4, 1, .w1c, 0, 1⟩]
  | .ECC_INT_ENABLE => [⟨.ECC_INT_ENABLE_ENABLE, 0, 5, .rw, 0, 31⟩]
  | .ECC_LOG_STATUS => [⟨.ECC_LOG_STATUS_USED, 0, 6, .ro, 0, 63⟩,
      ⟨.ECC_LOG_STATUS_DROPPED, 16, 16, .cnt, 0, 65535⟩]
  | .ECC_FENCE_HIT => [⟨.ECC_FENCE_HIT_ADDR, 0, 48, .ro, 0, 281474976710655⟩,
      ⟨.ECC_FENCE_HIT_CASEMENT, 48, 5, .ro, 0, 31⟩,
      ⟨.ECC_FENCE_HIT_VALID, 63, 1, .w1c, 0, 1⟩]
  | .ECC_FENCE_CNT => [⟨.ECC_FENCE_CNT_COUNT, 0, 32, .cnt, 0, 4294967295⟩]
  | .ECC_BUCKET_OVF => [⟨.ECC_BUCKET_OVF_PCS, 0, 32, .w1c, 0, 4294967295⟩]
  | .ECC_BUCKET_LEVEL => [⟨.ECC_BUCKET_LEVEL_LEVELS, 0, 32, .ro, 0, 4294967295⟩]
  | .ECC_LOG_LOC => [⟨.ECC_LOG_LOC_PC, 0, 7, .ro, 0, 127⟩,
      ⟨.ECC_LOG_LOC_BANK, 7, 6, .ro, 0, 63⟩,
      ⟨.ECC_LOG_LOC_ROW, 13, 18, .ro, 0, 262143⟩,
      ⟨.ECC_LOG_LOC_COL, 31, 7, .ro, 0, 127⟩,
      ⟨.ECC_LOG_LOC_SYMBOL, 38, 6, .ro, 0, 63⟩,
      ⟨.ECC_LOG_LOC_KIND, 44, 4, .ro, 0, 15⟩,
      ⟨.ECC_LOG_LOC_COUNT, 48, 8, .ro, 0, 255⟩,
      ⟨.ECC_LOG_LOC_CASEMENT, 56, 5, .ro, 0, 31⟩,
      ⟨.ECC_LOG_LOC_VALID, 63, 1, .w1c, 0, 1⟩]
  | .ECC_LOG_INFO => [⟨.ECC_LOG_INFO_TIME, 0, 48, .ro, 0, 281474976710655⟩,
      ⟨.ECC_LOG_INFO_PANE, 48, 6, .ro, 0, 63⟩,
      ⟨.ECC_LOG_INFO_IN_PANE, 54, 1, .ro, 0, 1⟩,
      ⟨.ECC_LOG_INFO_BITS, 55, 4, .ro, 0, 15⟩]
  | .ECC_CNT => [⟨.ECC_CNT_CE, 0, 16, .cnt, 0, 65535⟩,
      ⟨.ECC_CNT_UE, 16, 16, .cnt, 0, 65535⟩]
  | .ECC_FENCE_BASE => [⟨.ECC_FENCE_BASE_BASE, 8, 40, .ro, 0, 1099511627775⟩,
      ⟨.ECC_FENCE_BASE_VALID, 63, 1, .ro, 0, 1⟩]
  | .ECC_FENCE_LEN => [⟨.ECC_FENCE_LEN_LEN, 0, 36, .ro, 0, 68719476735⟩]
  | .ECC_XLATE => [⟨.ECC_XLATE_ENTRY, 0, 5, .rw, 0, 31⟩,
      ⟨.ECC_XLATE_PANE, 5, 6, .rw, 0, 63⟩,
      ⟨.ECC_XLATE_ADDR, 12, 48, .ro, 0, 281474976710655⟩,
      ⟨.ECC_XLATE_VALID, 60, 1, .ro, 0, 1⟩]
  | .HUB_1500_STATUS => [⟨.HUB_1500_STATUS_OWNER, 0, 3, .ro, 0, 7⟩,
      ⟨.HUB_1500_STATUS_PROGRAM, 3, 1, .ro, 0, 1⟩,
      ⟨.HUB_1500_STATUS_ERROR, 4, 1, .w1c, 0, 1⟩,
      ⟨.HUB_1500_STATUS_AGE_MS, 8, 8, .ro, 0, 255⟩]
  | .HUB_1500_DIRECT_CTRL => [⟨.HUB_1500_DIRECT_CTRL_STACK, 0, 2, .rw, 0, 2⟩,
      ⟨.HUB_1500_DIRECT_CTRL_WIR, 4, 8, .rw, 0, 255⟩,
      ⟨.HUB_1500_DIRECT_CTRL_LEN, 16, 13, .rw, 1, 4096⟩,
      ⟨.HUB_1500_DIRECT_CTRL_GO, 31, 1, .wo, 0, 1⟩]
  | .HUB_FUSE_STATUS => [⟨.HUB_FUSE_STATUS_NEXT, 0, 11, .ro, 0, 2047⟩,
      ⟨.HUB_FUSE_STATUS_BAD, 11, 10, .ro, 0, 1023⟩,
      ⟨.HUB_FUSE_STATUS_FULL, 21, 1, .ro, 0, 1⟩,
      ⟨.HUB_FUSE_STATUS_MAP_FULL, 22, 1, .w1c, 0, 1⟩]
  | .HUB_FUSE_SEL => [⟨.HUB_FUSE_SEL_INDEX, 0, 10, .rw, 0, 1023⟩]
  | .HUB_FUSE_DATA => [⟨.HUB_FUSE_DATA_RECORD, 0, 64, .ro, 0, 18446744073709551615⟩]
  | .HUB_SPARE_SEL => [⟨.HUB_SPARE_SEL_STACK, 0, 2, .rw, 0, 2⟩,
      ⟨.HUB_SPARE_SEL_PC, 2, 5, .rw, 0, 31⟩,
      ⟨.HUB_SPARE_SEL_BANK, 7, 6, .rw, 0, 47⟩]
  | .HUB_SPARE_READ => [⟨.HUB_SPARE_READ_SOFT_LEFT, 0, 4, .ro, 0, 15⟩,
      ⟨.HUB_SPARE_READ_HARD_LEFT, 4, 4, .ro, 0, 15⟩,
      ⟨.HUB_SPARE_READ_LANE_LEFT, 8, 4, .ro, 0, 15⟩,
      ⟨.HUB_SPARE_READ_PGM_MS, 12, 11, .ro, 0, 2047⟩]
  | .HUB_1500_BUF => [⟨.HUB_1500_BUF_DATA, 0, 32, .rw, 0, 4294967295⟩]
  | .THM_AVG => [⟨.THM_AVG_PERIOD_MS, 0, 12, .img, 0, 4095⟩,
      ⟨.THM_AVG_HYST, 12, 4, .img, 0, 15⟩]
  | .THM_STALE => [⟨.THM_STALE_MS, 0, 4, .ro, 0, 15⟩]
  | .THM_ENTRY => [⟨.THM_ENTRY_STACK_E1, 0, 8, .img, 0, 255⟩,
      ⟨.THM_ENTRY_STACK_E2, 8, 8, .img, 0, 255⟩,
      ⟨.THM_ENTRY_STACK_E3, 16, 8, .img, 0, 255⟩]
  | .THM_DIE_ENTRY => [⟨.THM_DIE_ENTRY_E1, 0, 8, .img, 0, 255⟩,
      ⟨.THM_DIE_ENTRY_E2, 8, 8, .img, 0, 255⟩,
      ⟨.THM_DIE_ENTRY_E3, 16, 8, .img, 0, 255⟩]
  | .THM_ACTION => [⟨.THM_ACTION_GEN_SHARE, 0, 5, .img, 0, 31⟩,
      ⟨.THM_ACTION_COLL_SHARE, 5, 5, .img, 0, 31⟩,
      ⟨.THM_ACTION_THROTTLE, 10, 3, .img, 0, 7⟩,
      ⟨.THM_ACTION_HINGE_CAP, 13, 3, .img, 0, 7⟩]
  | .THM_STACK => [⟨.THM_STACK_READING, 0, 8, .ro, 0, 255⟩,
      ⟨.THM_STACK_AVG, 8, 8, .ro, 0, 255⟩,
      ⟨.THM_STACK_TIER, 16, 2, .ro, 0, 3⟩,
      ⟨.THM_STACK_STALE, 18, 1, .ro, 0, 1⟩,
      ⟨.THM_STACK_CLOSED, 19, 1, .ro, 0, 1⟩]
  | .THM_HUB => [⟨.THM_HUB_DIE_TEMP, 0, 8, .ro, 0, 255⟩,
      ⟨.THM_HUB_DIE_TIER, 8, 2, .ro, 0, 3⟩,
      ⟨.THM_HUB_HUB_TIER, 10, 2, .ro, 0, 3⟩,
      ⟨.THM_HUB_THROTTLE_OUT, 12, 3, .ro, 0, 7⟩,
      ⟨.THM_HUB_SENSOR_FAULT, 16, 4, .w1c, 0, 15⟩]
  | .THM_INT_STATUS => [⟨.THM_INT_STATUS_TIER_UP, 0, 1, .w1c, 0, 1⟩,
      ⟨.THM_INT_STATUS_TIER_DOWN, 1, 1, .w1c, 0, 1⟩,
      ⟨.THM_INT_STATUS_CRITICAL, 2, 1, .w1c, 0, 1⟩,
      ⟨.THM_INT_STATUS_STALE, 3, 1, .w1c, 0, 1⟩,
      ⟨.THM_INT_STATUS_SENSOR, 4, 1, .w1c, 0, 1⟩]
  | .THM_INT_ENABLE => [⟨.THM_INT_ENABLE_ENABLE, 0, 5, .rw, 0, 31⟩]
  | .THM_CLOSED_CNT => [⟨.THM_CLOSED_CNT_COUNT, 0, 32, .cnt, 0, 4294967295⟩]
  | .CMP_THM_STATUS => [⟨.CMP_THM_STATUS_TEMP, 0, 8, .ro, 0, 255⟩,
      ⟨.CMP_THM_STATUS_TIER, 8, 2, .ro, 0, 3⟩,
      ⟨.CMP_THM_STATUS_LEVEL, 10, 3, .ro, 0, 7⟩,
      ⟨.CMP_THM_STATUS_HUB_LEVEL, 13, 3, .ro, 0, 7⟩]
  | .SVC_THM_STATUS => [⟨.SVC_THM_STATUS_PKG_TIER, 0, 2, .ro, 0, 3⟩,
      ⟨.SVC_THM_STATUS_SVC_TIER, 2, 2, .ro, 0, 3⟩,
      ⟨.SVC_THM_STATUS_TRIP, 4, 1, .w1c, 0, 1⟩,
      ⟨.SVC_THM_STATUS_TRIP_SRC, 5, 9, .w1c, 0, 511⟩,
      ⟨.SVC_THM_STATUS_TRIP_STACK, 14, 12, .w1c, 0, 4095⟩]
  | .CMP_CORE_SEL => [⟨.CMP_CORE_SEL_CLUSTER, 0, 7, .rw, 0, 99⟩,
      ⟨.CMP_CORE_SEL_CORE, 7, 6, .rw, 0, 63⟩]
  | .CMP_CORE_STATE => [⟨.CMP_CORE_STATE_IP, 0, 9, .ro, 0, 511⟩,
      ⟨.CMP_CORE_STATE_DEPTH, 9, 3, .ro, 0, 7⟩,
      ⟨.CMP_CORE_STATE_STALL, 12, 4, .ro, 0, 15⟩,
      ⟨.CMP_CORE_STATE_RUNNING, 16, 1, .ro, 0, 1⟩,
      ⟨.CMP_CORE_STATE_ENDED, 17, 1, .ro, 0, 1⟩,
      ⟨.CMP_CORE_STATE_STREAMS, 18, 5, .ro, 0, 31⟩]
  | .CMP_CORE_FAULT => [⟨.CMP_CORE_FAULT_STATUS, 0, 8, .ro, 0, 255⟩,
      ⟨.CMP_CORE_FAULT_IP, 8, 9, .ro, 0, 511⟩,
      ⟨.CMP_CORE_FAULT_CLUSTER, 17, 7, .ro, 0, 127⟩,
      ⟨.CMP_CORE_FAULT_CORE, 24, 6, .ro, 0, 63⟩,
      ⟨.CMP_CORE_FAULT_VALID, 31, 1, .w1c, 0, 1⟩]
  | .CMP_SRAM_PAGE => [⟨.CMP_SRAM_PAGE_PAGE, 0, 5, .rw, 0, 20⟩]
  | .CMP_SRAM_WIN => [⟨.CMP_SRAM_WIN_DATA, 0, 32, .rw, 0, 4294967295⟩]
  | .QUEUE_DB => [⟨.QUEUE_DB_TAIL, 0, 16, .wo, 0, 65535⟩]
  | .QUEUE_CPL_DB => [⟨.QUEUE_CPL_DB_HEAD, 0, 16, .wo, 0, 65535⟩]
  | .QUEUE_BASE => [⟨.QUEUE_BASE_ADDR, 6, 42, .rw, 0, 4398046511103⟩]
  | .QUEUE_CPL_BASE => [⟨.QUEUE_CPL_BASE_ADDR, 4, 44, .rw, 0, 17592186044415⟩]
  | .QUEUE_SIZE => [⟨.QUEUE_SIZE_CMD_LOG2, 0, 5, .rw, 4, 16⟩,
      ⟨.QUEUE_SIZE_CPL_LOG2, 8, 5, .rw, 4, 16⟩]
  | .QUEUE_CTRL => [⟨.QUEUE_CTRL_ENABLE, 0, 1, .rw, 0, 1⟩,
      ⟨.QUEUE_CTRL_RESTART, 1, 1, .wo, 0, 1⟩,
      ⟨.QUEUE_CTRL_STOP_ON_ERROR, 2, 1, .rw, 0, 1⟩,
      ⟨.QUEUE_CTRL_AUTO_RESUME, 3, 1, .rw, 0, 1⟩,
      ⟨.QUEUE_CTRL_ERR_INTR, 4, 1, .rw, 0, 1⟩,
      ⟨.QUEUE_CTRL_VECTOR, 8, 6, .rw, 1, 63⟩]
  | .QUEUE_STATUS => [⟨.QUEUE_STATUS_HEAD, 0, 16, .ro, 0, 65535⟩,
      ⟨.QUEUE_STATUS_CPL_TAIL, 16, 16, .ro, 0, 65535⟩]
  | .QUEUE_STATE => [⟨.QUEUE_STATE_STOPPED, 0, 1, .ro, 0, 1⟩,
      ⟨.QUEUE_STATE_PHASE, 1, 1, .ro, 0, 1⟩,
      ⟨.QUEUE_STATE_DB_ERR, 2, 1, .w1c, 0, 1⟩,
      ⟨.QUEUE_STATE_CAUSE, 8, 8, .ro, 0, 255⟩,
      ⟨.QUEUE_STATE_RUNNING, 16, 8, .ro, 0, 255⟩]
  | .QUEUE_WDOG => [⟨.QUEUE_WDOG_SECONDS, 0, 10, .rw, 1, 600⟩]
  | .QUEUE_INFO => [⟨.QUEUE_INFO_ID, 0, 16, .img, 0, 65535⟩,
      ⟨.QUEUE_INFO_CASEMENT, 16, 5, .img, 0, 31⟩,
      ⟨.QUEUE_INFO_INDEX, 21, 5, .img, 0, 31⟩,
      ⟨.QUEUE_INFO_VALID, 26, 1, .img, 0, 1⟩]
  | .SYNC_CNT => [⟨.SYNC_CNT_VALUE, 0, 64, .rw, 0, 18446744073709551615⟩]
  | .PAGE_PREFETCH_WIN => [⟨.PAGE_PREFETCH_WIN_US, 0, 20, .rw, 10, 1000000⟩]
  | .PAGE_POOL_SEL => [⟨.PAGE_POOL_SEL_CASEMENT, 0, 5, .rw, 0, 31⟩,
      ⟨.PAGE_POOL_SEL_POOL, 8, 4, .rw, 0, 15⟩]
  | .PAGE_POOL_FREE => [⟨.PAGE_POOL_FREE_PAGES, 0, 32, .ro, 0, 4294967295⟩]
  | .PAGE_POOL_STATE => [⟨.PAGE_POOL_STATE_INIT, 0, 1, .ro, 0, 1⟩,
      ⟨.PAGE_POOL_STATE_BROKEN, 1, 1, .ro, 0, 1⟩,
      ⟨.PAGE_POOL_STATE_HELD, 8, 8, .ro, 0, 255⟩]
  | .PAGE_PTC_CNT => [⟨.PAGE_PTC_CNT_HITS, 0, 16, .cnt, 0, 65535⟩,
      ⟨.PAGE_PTC_CNT_MISSES, 16, 16, .cnt, 0, 65535⟩]
  | .PAGE_FETCH_CNT => [⟨.PAGE_FETCH_CNT_DEMAND, 0, 16, .cnt, 0, 65535⟩,
      ⟨.PAGE_FETCH_CNT_TIMEOUTS, 16, 16, .cnt, 0, 65535⟩]
  | .CMP_EXP_STATE => [⟨.CMP_EXP_STATE_OWNER, 0, 5, .ro, 0, 31⟩,
      ⟨.CMP_EXP_STATE_LOADED, 5, 1, .ro, 0, 1⟩,
      ⟨.CMP_EXP_STATE_QUEUED, 6, 6, .ro, 0, 63⟩,
      ⟨.CMP_EXP_STATE_SLOTS, 12, 20, .ro, 0, 1048575⟩]
  | .CMP_EXP_SLOTS_HI => [⟨.CMP_EXP_SLOTS_HI_SLOTS, 0, 12, .ro, 0, 4095⟩]
  | .CMP_EXP_CNT => [⟨.CMP_EXP_CNT_TILES, 0, 32, .cnt, 0, 4294967295⟩]
  | .TRW_PORT_CTRL => [⟨.TRW_PORT_CTRL_ENABLE, 0, 1, .rw, 0, 1⟩,
      ⟨.TRW_PORT_CTRL_PRESET, 1, 3, .rw, 0, 7⟩]
  | .TRW_PORT_STATUS => [⟨.TRW_PORT_STATUS_UP, 0, 1, .ro, 0, 1⟩,
      ⟨.TRW_PORT_STATUS_WIDTH, 1, 1, .ro, 0, 1⟩,
      ⟨.TRW_PORT_STATUS_DIR, 4, 4, .img, 0, 15⟩,
      ⟨.TRW_PORT_STATUS_FAILS, 8, 16, .cnt, 0, 65535⟩]
  | .TRW_PORT_RETRY => [⟨.TRW_PORT_RETRY_COUNT, 0, 32, .cnt, 0, 4294967295⟩]
  | .TRW_NODE_ID => [⟨.TRW_NODE_ID_NODE, 0, 17, .img, 0, 131071⟩]
  | .TRW_LINK_FAIL => [⟨.TRW_LINK_FAIL_US, 0, 4, .ro, 0, 15⟩]
  | .TRW_UNROUTABLE => [⟨.TRW_UNROUTABLE_COUNT, 0, 32, .cnt, 0, 4294967295⟩]
  | .RING_COLL_TIMEOUT => [⟨.RING_COLL_TIMEOUT_MS, 0, 20, .rw, 10, 600000⟩]
  | .RING_STALL_GRANT => [⟨.RING_STALL_GRANT_MS, 0, 16, .rw, 1, 60000⟩]
  | .RING_STALL_CNT => [⟨.RING_STALL_CNT_SENT, 0, 16, .cnt, 0, 65535⟩,
      ⟨.RING_STALL_CNT_RECEIVED, 16, 16, .cnt, 0, 65535⟩]
  | .RING_COLL_STATE => [⟨.RING_COLL_STATE_STEP, 0, 18, .ro, 0, 262143⟩,
      ⟨.RING_COLL_STATE_TIER, 18, 2, .ro, 0, 3⟩,
      ⟨.RING_COLL_STATE_EXTENDED, 20, 1, .ro, 0, 1⟩]
  | .FN_INFO => [⟨.FN_INFO_CASEMENT, 0, 5, .img, 0, 31⟩,
      ⟨.FN_INFO_VALID, 5, 1, .img, 0, 1⟩,
      ⟨.FN_INFO_READY, 6, 1, .ro, 0, 1⟩]
  | .FN_CTRL => [⟨.FN_CTRL_HOST_CLASS, 0, 2, .rw, 0, 2⟩]
  | .FN_WIN_BASE => [⟨.FN_WIN_BASE_BASE, 21, 27, .rw, 0, 134217727⟩]
  | .FN_RESET => [⟨.FN_RESET_CASE_SELF_RST, 0, 1, .wo, 0, 1⟩,
      ⟨.FN_RESET_BUSY, 1, 1, .ro, 0, 1⟩]
  | .FN_EVENT_STATUS => [⟨.FN_EVENT_STATUS_READY, 0, 1, .w1c, 0, 1⟩,
      ⟨.FN_EVENT_STATUS_RESET_DONE, 1, 1, .w1c, 0, 1⟩,
      ⟨.FN_EVENT_STATUS_PF1, 2, 1, .w1c, 0, 1⟩,
      ⟨.FN_EVENT_STATUS_HINGE, 3, 1, .w1c, 0, 1⟩,
      ⟨.FN_EVENT_STATUS_THERMAL, 4, 1, .w1c, 0, 1⟩,
      ⟨.FN_EVENT_STATUS_REFUSED, 5, 1, .w1c, 0, 1⟩]
  | .FN_EVENT_ENABLE => [⟨.FN_EVENT_ENABLE_ENABLE, 0, 6, .rw, 0, 63⟩]
  | .AKS_STATUS => [⟨.AKS_STATUS_STATE, 0, 3, .ro, 0, 7⟩,
      ⟨.AKS_STATUS_CD_PWR_OK, 3, 1, .ro, 0, 1⟩,
      ⟨.AKS_STATUS_CD_RST_N, 4, 1, .ro, 0, 1⟩,
      ⟨.AKS_STATUS_FAIL_STATE, 8, 3, .ro, 0, 7⟩,
      ⟨.AKS_STATUS_FAIL_SLICE, 11, 5, .ro, 0, 31⟩]
  | .AKS_CREDIT => [⟨.AKS_CREDIT_GEN, 0, 10, .ro, 0, 1023⟩,
      ⟨.AKS_CREDIT_URG, 16, 7, .ro, 0, 127⟩]
  | .AKS_REPLAY => [⟨.AKS_REPLAY_COUNT, 0, 16, .cnt, 0, 65535⟩,
      ⟨.AKS_REPLAY_STREAK, 16, 4, .ro, 0, 15⟩]
  | .AKS_CRC_ERR => [⟨.AKS_CRC_ERR_COUNT, 0, 32, .cnt, 0, 4294967295⟩]
  | .AKS_REPAIR => [⟨.AKS_REPAIR_SPARES, 0, 36, .ro, 0, 68719476735⟩]
  | .CNT_CFG => [⟨.CNT_CFG_EVENT, 0, 8, .rw, 0, 255⟩,
      ⟨.CNT_CFG_UNIT, 8, 7, .rw, 0, 127⟩,
      ⟨.CNT_CFG_SUB, 16, 4, .rw, 0, 15⟩,
      ⟨.CNT_CFG_SUB_EN, 20, 1, .rw, 0, 1⟩,
      ⟨.CNT_CFG_CASEMENT, 21, 5, .rw, 0, 31⟩,
      ⟨.CNT_CFG_CAS_EN, 26, 1, .rw, 0, 1⟩,
      ⟨.CNT_CFG_ENABLE, 27, 1, .rw, 0, 1⟩,
      ⟨.CNT_CFG_OVF, 28, 1, .w1c, 0, 1⟩]
  | .CNT_OWNER => [⟨.CNT_OWNER_CASEMENT, 0, 5, .ro, 0, 31⟩,
      ⟨.CNT_OWNER_HELD, 5, 1, .ro, 0, 1⟩]
  | .CNT_VALUE => [⟨.CNT_VALUE_VALUE, 0, 48, .rw, 0, 281474976710655⟩]
  | .CNT_CTRL => [⟨.CNT_CTRL_FROZEN, 0, 1, .ro, 0, 1⟩,
      ⟨.CNT_CTRL_THAW, 1, 1, .wo, 0, 1⟩]
  | .CNT_FREEZE_AT => [⟨.CNT_FREEZE_AT_TICK, 0, 64, .rw, 0, 18446744073709551615⟩]
  | .CNT_READ_TIME => [⟨.CNT_READ_TIME_TICK, 0, 64, .ro, 0, 18446744073709551615⟩]
  | .SMP_CTRL => [⟨.SMP_CTRL_ENABLE, 0, 1, .rw, 0, 1⟩,
      ⟨.SMP_CTRL_CASEMENT, 1, 5, .rw, 0, 31⟩,
      ⟨.SMP_CTRL_SIZE_LOG2, 8, 5, .rw, 6, 20⟩]
  | .SMP_PERIOD => [⟨.SMP_PERIOD_PERIOD, 0, 16, .rw, 16, 65535⟩,
      ⟨.SMP_PERIOD_JITTER, 16, 16, .rw, 0, 65535⟩]
  | .SMP_SEED => [⟨.SMP_SEED_SEED, 0, 16, .rw, 1, 65535⟩]
  | .SMP_BASE => [⟨.SMP_BASE_ADDR, 5, 43, .rw, 0, 8796093022207⟩]
  | .SMP_PTR => [⟨.SMP_PTR_WP, 0, 20, .ro, 0, 1048575⟩]
  | .SMP_RP => [⟨.SMP_RP_RP, 0, 20, .rw, 0, 1048575⟩]
  | .SMP_STATUS => [⟨.SMP_STATUS_DROPPED, 0, 32, .cnt, 0, 4294967295⟩]
  | .TRC_CTRL => [⟨.TRC_CTRL_ENABLE, 0, 1, .rw, 0, 1⟩,
      ⟨.TRC_CTRL_CASEMENT, 1, 5, .rw, 0, 31⟩,
      ⟨.TRC_CTRL_CMDS, 6, 1, .rw, 0, 1⟩,
      ⟨.TRC_CTRL_SIZE_LOG2, 8, 5, .rw, 6, 24⟩]
  | .TRC_BASE => [⟨.TRC_BASE_ADDR, 8, 40, .rw, 0, 1099511627775⟩]
  | .TRC_PTR => [⟨.TRC_PTR_WP, 0, 24, .ro, 0, 16777215⟩]
  | .TRC_RP => [⟨.TRC_RP_RP, 0, 24, .rw, 0, 16777215⟩]
  | .TRC_STATUS => [⟨.TRC_STATUS_BAD_BUF, 0, 1, .w1c, 0, 1⟩,
      ⟨.TRC_STATUS_LOST, 8, 24, .ro, 0, 16777215⟩]
  | .CMP_CCNT_CFG => [⟨.CMP_CCNT_CFG_EVENT0, 0, 8, .rw, 0, 255⟩,
      ⟨.CMP_CCNT_CFG_EVENT1, 8, 8, .rw, 0, 255⟩]
  | .CMP_CCNT_READ => [⟨.CMP_CCNT_READ_CNT0, 0, 32, .ro, 0, 4294967295⟩,
      ⟨.CMP_CCNT_READ_CNT1, 32, 32, .ro, 0, 4294967295⟩]
  | .FN_CNT_CFG => [⟨.FN_CNT_CFG_EVENT, 0, 8, .rw, 0, 255⟩,
      ⟨.FN_CNT_CFG_UNIT, 8, 7, .rw, 0, 127⟩,
      ⟨.FN_CNT_CFG_SUB, 16, 4, .rw, 0, 15⟩,
      ⟨.FN_CNT_CFG_SUB_EN, 20, 1, .rw, 0, 1⟩,
      ⟨.FN_CNT_CFG_CASEMENT, 21, 5, .rw, 0, 31⟩,
      ⟨.FN_CNT_CFG_CAS_EN, 26, 1, .rw, 0, 1⟩,
      ⟨.FN_CNT_CFG_ENABLE, 27, 1, .rw, 0, 1⟩,
      ⟨.FN_CNT_CFG_ALLOC_ERR, 28, 1, .rw, 0, 1⟩,
      ⟨.FN_CNT_CFG_BANK, 29, 3, .rw, 0, 7⟩]
  | .FN_CNT_VALUE => [⟨.FN_CNT_VALUE_VALUE, 0, 48, .ro, 0, 281474976710655⟩]
  | .FN_CCNT_SEL => [⟨.FN_CCNT_SEL_RANK, 0, 15, .rw, 0, 32767⟩]
  | .FN_CCNT_READ => [⟨.FN_CCNT_READ_CNT0, 0, 32, .ro, 0, 4294967295⟩,
      ⟨.FN_CCNT_READ_CNT1, 32, 32, .ro, 0, 4294967295⟩]
  | .SVC_ACC_ERR => [⟨.SVC_ACC_ERR_OFFSET, 0, 36, .ro, 0, 68719476735⟩,
      ⟨.SVC_ACC_ERR_BAR, 36, 2, .ro, 0, 3⟩,
      ⟨.SVC_ACC_ERR_FUNCTION, 38, 5, .ro, 0, 31⟩,
      ⟨.SVC_ACC_ERR_WRITE, 43, 1, .ro, 0, 1⟩,
      ⟨.SVC_ACC_ERR_WIDTH, 44, 2, .ro, 0, 3⟩,
      ⟨.SVC_ACC_ERR_REASON, 46, 2, .ro, 0, 3⟩,
      ⟨.SVC_ACC_ERR_COUNT, 48, 15, .ro, 0, 32767⟩,
      ⟨.SVC_ACC_ERR_VALID, 63, 1, .w1c, 0, 1⟩]
  | .HUB_INT_STATUS => [⟨.HUB_INT_STATUS_RING_LINK_DOWN, 0, 1, .w1c, 0, 1⟩,
      ⟨.HUB_INT_STATUS_PC_HALT, 1, 1, .w1c, 0, 1⟩,
      ⟨.HUB_INT_STATUS_AKSAL_DOWN, 2, 1, .w1c, 0, 1⟩,
      ⟨.HUB_INT_STATUS_ECC, 3, 1, .ro, 0, 1⟩,
      ⟨.HUB_INT_STATUS_THM, 4, 1, .ro, 0, 1⟩]
  | .HUB_IMG_STATUS => [⟨.HUB_IMG_STATUS_STATE, 0, 3, .ro, 0, 7⟩,
      ⟨.HUB_IMG_STATUS_ERROR, 4, 8, .ro, 0, 255⟩,
      ⟨.HUB_IMG_STATUS_FRAME_IDX, 12, 16, .ro, 0, 65535⟩]
  | .SVC_PF_TIMES => [⟨.SVC_PF_TIMES_BROWNOUT_MS, 0, 8, .ro, 0, 255⟩,
      ⟨.SVC_PF_TIMES_DRAIN_US, 8, 8, .ro, 0, 255⟩]
  | .HUB_INT_ENABLE => [⟨.HUB_INT_ENABLE_ENABLE, 0, 5, .rw, 0, 31⟩]
  | .CMP_SMP_CTRL => [⟨.CMP_SMP_CTRL_ENABLE, 0, 1, .rw, 0, 1⟩,
      ⟨.CMP_SMP_CTRL_CASEMENT, 1, 5, .rw, 0, 31⟩]
  | .CMP_SMP_PERIOD => [⟨.CMP_SMP_PERIOD_PERIOD, 0, 16, .rw, 16, 65535⟩,
      ⟨.CMP_SMP_PERIOD_JITTER, 16, 16, .rw, 0, 65535⟩]
  | .CMP_SMP_SEED => [⟨.CMP_SMP_SEED_SEED, 0, 16, .rw, 1, 65535⟩]
  | .SVC_RECOV_BUF => [⟨.SVC_RECOV_BUF_DATA, 0, 32, .rw, 0, 4294967295⟩]

/-- The registers whose tables state 64 bits (R4). -/
def isWide : Reg → Bool
  | .IMG_ID => true
  | .IMG_PART_BASE => true
  | .IMG_QUIESCE => true
  | .IMG_QUIESCED => true
  | .SVC_TIME64 => true
  | .HUB_TIME64 => true
  | .PANE_BASE => true
  | .PANE_SIZE => true
  | .PANE_ROWS => true
  | .PANE_PC_MASK => true
  | .HUB_DECODE_ERR => true
  | .SVC_WIN_BASE => true
  | .DARB_PRIO => true
  | .PC_DEBUG_CMD => true
  | .PC_TRN_SEED => true
  | .PC_TRN_ERR_MAP => true
  | .ECC_FENCE_HIT => true
  | .ECC_LOG_LOC => true
  | .ECC_LOG_INFO => true
  | .ECC_FENCE_BASE => true
  | .ECC_FENCE_LEN => true
  | .ECC_XLATE => true
  | .HUB_FUSE_DATA => true
  | .QUEUE_BASE => true
  | .QUEUE_CPL_BASE => true
  | .SYNC_CNT => true
  | .FN_WIN_BASE => true
  | .AKS_REPAIR => true
  | .CNT_VALUE => true
  | .CNT_FREEZE_AT => true
  | .CNT_READ_TIME => true
  | .SMP_BASE => true
  | .TRC_BASE => true
  | .CMP_CCNT_READ => true
  | .FN_CNT_VALUE => true
  | .FN_CCNT_READ => true
  | .SVC_ACC_ERR => true
  | _ => false

/-- The Reset column of the tables, where it is not 0 (R8). -/
def resetOf : Fld → Nat
  | .SVC_BUS_VOLT_MIN => 1023
  | .SVC_PF_CFG_PF1_LEVEL => 420
  | .SVC_PF_CFG_PF1_FILT => 20
  | .SVC_PF_CFG_PF2_LEVEL => 380
  | .SVC_PF_CFG_PF2_FILT => 2
  | .SVC_SLEW_LIMIT_RATE => 2
  | .SVC_TIME_SYNC_PERIOD_US => 1000
  | .SVC_BOOT_WDOG_SECONDS => 10
  | .DOOR_STATUS_MASKED => 1
  | .PC_TRANSOM_MERGE => 16
  | .PC_TRANSOM_LIMIT => 32
  | .CMP_GATE_CFG_ENABLE => 1
  | .PC_RETRAIN_PAUSE => 60
  | .PC_RETRAIN_INTV_MS => 100
  | .THM_STALE_MS => 10
  | .QUEUE_SIZE_CMD_LOG2 => 4
  | .QUEUE_SIZE_CPL_LOG2 => 4
  | .QUEUE_CTRL_STOP_ON_ERROR => 1
  | .QUEUE_CTRL_ERR_INTR => 1
  | .QUEUE_CTRL_VECTOR => 1
  | .QUEUE_WDOG_SECONDS => 30
  | .PAGE_PREFETCH_WIN_US => 2000
  | .TRW_PORT_CTRL_ENABLE => 1
  | .TRW_PORT_CTRL_PRESET => 3
  | .TRW_LINK_FAIL_US => 10
  | .RING_COLL_TIMEOUT_MS => 10000
  | .RING_STALL_GRANT_MS => 1000
  | .FN_CTRL_HOST_CLASS => 1
  | .CNT_CFG_UNIT => 127
  | .SMP_CTRL_SIZE_LOG2 => 8
  | .SMP_PERIOD_PERIOD => 4096
  | .SMP_PERIOD_JITTER => 255
  | .SMP_SEED_SEED => 44257
  | .TRC_CTRL_SIZE_LOG2 => 10
  | .SVC_PF_TIMES_BROWNOUT_MS => 10
  | .SVC_PF_TIMES_DRAIN_US => 40
  | .CMP_SMP_PERIOD_PERIOD => 4096
  | .CMP_SMP_PERIOD_JITTER => 255
  | .CMP_SMP_SEED_SEED => 44257
  | _ => 0

/-- Registers of the service die (R431), part 1. -/
def svcRows1 : List RegRow := [
  ⟨.SVC_FAMILY_ID, .svc, 0x100, [], 0⟩,
  ⟨.SVC_PKG_SCALE, .svc, 0x104, [], 0⟩,
  ⟨.IMG_STATUS, .svc, 0x1000, [], 0⟩,
  ⟨.IMG_CTRL, .svc, 0x1004, [], 0⟩,
  ⟨.IMG_ID, .svc, 0x1008, [], 0⟩,
  ⟨.IMG_PART_BASE, .svc, 0x1010, [], 0⟩,
  ⟨.IMG_PART_LEN, .svc, 0x1018, [], 0⟩,
  ⟨.IMG_ROLLBACK, .svc, 0x101c, [], 0⟩,
  ⟨.IMG_QUIESCE, .svc, 0x1020, [], 0⟩,
  ⟨.IMG_QUIESCED, .svc, 0x1028, [], 0⟩,
  ⟨.SVC_BUS_VOLT, .svc, 0x2000, [], 0⟩,
  ⟨.SVC_PF_CFG, .svc, 0x2004, [], 0⟩,
  ⟨.SVC_PF_STATUS, .svc, 0x2008, [], 0⟩,
  ⟨.SVC_SLEW_LIMIT, .svc, 0x200c, [], 0⟩,
  ⟨.SVC_TIME64, .svc, 0x3000, [], 0⟩,
  ⟨.SVC_TIME_SYNC, .svc, 0x3008, [], 0⟩,
  ⟨.SVC_CLK_STATUS, .svc, 0x3010, [], 0⟩,
  ⟨.SVC_BOOT_STATUS, .svc, 0x4000, [], 0⟩,
  ⟨.SVC_BOOT_SEL, .svc, 0x4004, [], 0⟩,
  ⟨.SVC_BOOT_WDOG, .svc, 0x4008, [], 0⟩,
  ⟨.SVC_RST_CTRL, .svc, 0x400c, [], 0⟩,
  ⟨.SVC_CASE_RST, .svc, 0x4010, [], 0⟩,
  ⟨.SVC_CASE_RST_BUSY, .svc, 0x4014, [], 0⟩,
  ⟨.SVC_RECOV_GO, .svc, 0x4018, [], 0⟩,
  ⟨.SVC_FW_ROLLBACK, .svc, 0x401c, [], 0⟩,
  ⟨.IMG_LAYOUT_CTRL, .svc, 0x1030, [], 0⟩,
  ⟨.IMG_LAYOUT_ACTIVE, .svc, 0x1034, [], 0⟩,
  ⟨.SVC_WIN_BASE, .svc, 0x5000, [(32, 0x8)], 0⟩,
  ⟨.SVC_HINGE_CTRL, .svc, 0x3020, [], 0⟩,
  ⟨.SVC_HINGE_STATUS, .svc, 0x3024, [], 0⟩,
  ⟨.SVC_HINGE_DWELL, .svc, 0x3028, [], 0⟩,
  ⟨.SVC_HINGE_TIME, .svc, 0x302c, [], 0⟩,
  ⟨.SVC_PWR_CTRL, .svc, 0x3030, [], 0⟩,
  ⟨.SVC_PWR_STATUS, .svc, 0x3034, [], 0⟩,
  ⟨.SVC_PWR_CAP, .svc, 0x3038, [], 0⟩,
  ⟨.SVC_THM_STATUS, .svc, 0x6000, [], 0⟩,
  ⟨.SYNC_CNT, .svc, 0x7000, [(32, 0x80), (16, 0x8)], 0⟩,
  ⟨.SVC_ACC_ERR, .svc, 0x108, [], 0⟩,
  ⟨.SVC_PF_TIMES, .svc, 0x2010, [], 0⟩,
  ⟨.SVC_RECOV_BUF, .svc, 0x800000, [(262144, 0x4)], 0⟩]

/-- Every register of the service die (R431). -/
def svcRows : List RegRow := svcRows1

/-- Registers of a hub (R431), part 1. -/
def hubRows1 : List RegRow := [
  ⟨.HUB_STACK_GEOM, .hub, 0x200000, [(3, 0x4)], 0⟩,
  ⟨.HUB_IDENT, .hub, 0x200010, [], 0⟩,
  ⟨.HUB_TIME64, .hub, 0x200030, [], 0⟩,
  ⟨.PANE_CFG, .hub, 0x30000, [(64, 0x40)], 0⟩,
  ⟨.PANE_BASE, .hub, 0x30008, [(64, 0x40)], 0⟩,
  ⟨.PANE_SIZE, .hub, 0x30010, [(64, 0x40)], 0⟩,
  ⟨.PANE_ROWS, .hub, 0x30018, [(64, 0x40)], 0⟩,
  ⟨.PANE_PC_MASK, .hub, 0x32000, [(64, 0x40), (6, 0x8)], 0⟩,
  ⟨.PANE_GROUP_SETS, .hub, 0x31010, [(16, 0x4)], 0⟩,
  ⟨.HUB_DECODE_ERR, .hub, 0x31000, [], 0⟩,
  ⟨.HUB_DECODE_CNT, .hub, 0x31008, [], 0⟩,
  ⟨.DOOR_CFG, .hub, 0x0, [(9, 0x100)], 0⟩,
  ⟨.DOOR_STATUS, .hub, 0x4, [(9, 0x100)], 0⟩,
  ⟨.DOOR_SRC_VALID, .hub, 0x8, [(9, 0x100)], 0⟩,
  ⟨.DOOR_SRC_MAP, .hub, 0x10, [(9, 0x100), (4, 0x4)], 0⟩,
  ⟨.DOOR_PREEMPT_CNT, .hub, 0x20, [(9, 0x100)], 0⟩,
  ⟨.DOOR_HOLD_CNT, .hub, 0x24, [(9, 0x100)], 0⟩,
  ⟨.LVR_SLOT_CFG, .hub, 0x10000, [(9, 0x400), (16, 0x40)], 0⟩,
  ⟨.LVR_SLOT_WINDOW, .hub, 0x10004, [(9, 0x400), (16, 0x40)], 0⟩,
  ⟨.LVR_BUDGET, .hub, 0x10008, [(9, 0x400), (16, 0x40)], 0⟩,
  ⟨.LVR_URGENT, .hub, 0x1000c, [(9, 0x400), (16, 0x40)], 0⟩,
  ⟨.LVR_SLOT_STATE, .hub, 0x10010, [(9, 0x400), (16, 0x40)], 0⟩,
  ⟨.DARB_PRIO, .hub, 0x20000, [(64, 0x8)], 0⟩,
  ⟨.DARB_LATCH, .hub, 0x20400, [], 0⟩,
  ⟨.DARB_STATUS, .hub, 0x20404, [], 0⟩,
  ⟨.DARB_PC_STATE, .hub, 0x21000, [(96, 0x4)], 0⟩,
  ⟨.PC_QUEUE_STATUS, .hub, 0x100000, [(96, 0x1000)], 0⟩,
  ⟨.PC_AGE_CEIL, .hub, 0x100004, [(96, 0x1000)], 0⟩,
  ⟨.PC_TRANSOM, .hub, 0x100008, [(96, 0x1000)], 0⟩,
  ⟨.PC_CSA_STATE, .hub, 0x10000c, [(96, 0x1000)], 0⟩,
  ⟨.PC_RMW, .hub, 0x100010, [(96, 0x1000)], 0⟩,
  ⟨.PC_DEBUG, .hub, 0x100014, [(96, 0x1000)], 0⟩,
  ⟨.PC_DEBUG_CMD, .hub, 0x100018, [(96, 0x1000)], 0⟩,
  ⟨.PC_SCHED_CNT, .hub, 0x100020, [(96, 0x1000)], 0⟩,
  ⟨.PC_BANK_STATE, .hub, 0x100040, [(96, 0x1000), (48, 0x4)], 0⟩,
  ⟨.HUB_PROFILE_SEL, .hub, 0x200040, [], 0⟩,
  ⟨.PC_SEQ_STATUS, .hub, 0x100100, [(96, 0x1000)], 0⟩,
  ⟨.PC_SEQ_CNT, .hub, 0x100104, [(96, 0x1000)], 0⟩,
  ⟨.HUB_REF_WINDOW, .hub, 0x200050, [], 0⟩,
  ⟨.HUB_REF_CFG, .hub, 0x200054, [], 0⟩]

/-- Registers of a hub (R431), part 2. -/
def hubRows2 : List RegRow := [
  ⟨.HUB_DISTURB, .hub, 0x200058, [], 0⟩,
  ⟨.PC_REF_STATUS, .hub, 0x100200, [(96, 0x1000)], 0⟩,
  ⟨.PC_SR_IDLE, .hub, 0x100204, [(96, 0x1000)], 0⟩,
  ⟨.PC_REF_DEBT, .hub, 0x100240, [(96, 0x1000), (6, 0x4)], 0⟩,
  ⟨.PC_REF_CNT, .hub, 0x100220, [(96, 0x1000)], 0⟩,
  ⟨.PC_NBR_CNT, .hub, 0x100224, [(96, 0x1000)], 0⟩,
  ⟨.PC_ACT_SEL, .hub, 0x100228, [(96, 0x1000)], 0⟩,
  ⟨.PC_ACT_READ, .hub, 0x10022c, [(96, 0x1000)], 0⟩,
  ⟨.PC_TRN_CTRL, .hub, 0x100300, [(96, 0x1000)], 0⟩,
  ⟨.PC_TRN_PAT, .hub, 0x100304, [(96, 0x1000)], 0⟩,
  ⟨.PC_TRN_SEED, .hub, 0x100308, [(96, 0x1000)], 0⟩,
  ⟨.PC_TRN_COUNT, .hub, 0x100310, [(96, 0x1000)], 0⟩,
  ⟨.PC_TRN_ERR_MAP, .hub, 0x100318, [(96, 0x1000)], 0⟩,
  ⟨.PC_TRN_ERR_CNT, .hub, 0x100320, [(96, 0x1000)], 0⟩,
  ⟨.PC_TRN_SEL, .hub, 0x100324, [(96, 0x1000)], 0⟩,
  ⟨.PC_TRN_TRIM, .hub, 0x100328, [(96, 0x1000)], 0⟩,
  ⟨.PC_RETRAIN, .hub, 0x100330, [(96, 0x1000)], 0⟩,
  ⟨.PC_RETRAIN_STATUS, .hub, 0x100334, [(96, 0x1000)], 0⟩,
  ⟨.PC_REPLAY, .hub, 0x100340, [(96, 0x1000)], 0⟩,
  ⟨.PC_REPLAY_BOUND, .hub, 0x100344, [(96, 0x1000)], 0⟩,
  ⟨.PC_REPLAY_DEPTH, .hub, 0x100348, [(96, 0x1000)], 0⟩,
  ⟨.ECC_BUCKET, .hub, 0x80000, [], 0⟩,
  ⟨.ECC_INT_STATUS, .hub, 0x80004, [], 0⟩,
  ⟨.ECC_INT_ENABLE, .hub, 0x80008, [], 0⟩,
  ⟨.ECC_LOG_STATUS, .hub, 0x8000c, [], 0⟩,
  ⟨.ECC_FENCE_HIT, .hub, 0x80010, [], 0⟩,
  ⟨.ECC_FENCE_CNT, .hub, 0x80018, [], 0⟩,
  ⟨.ECC_BUCKET_OVF, .hub, 0x80020, [(3, 0x4)], 0⟩,
  ⟨.ECC_BUCKET_LEVEL, .hub, 0x80040, [(24, 0x4)], 0⟩,
  ⟨.ECC_LOG_LOC, .hub, 0x80100, [(32, 0x10)], 0⟩,
  ⟨.ECC_LOG_INFO, .hub, 0x80108, [(32, 0x10)], 0⟩,
  ⟨.ECC_CNT, .hub, 0x80400, [(96, 0x4)], 0⟩,
  ⟨.ECC_FENCE_BASE, .hub, 0x80600, [(64, 0x10)], 0⟩,
  ⟨.ECC_FENCE_LEN, .hub, 0x80608, [(64, 0x10)], 0⟩,
  ⟨.ECC_XLATE, .hub, 0x80a00, [], 0⟩,
  ⟨.HUB_1500_STATUS, .hub, 0x200100, [(3, 0x4)], 0⟩,
  ⟨.HUB_1500_DIRECT_CTRL, .hub, 0x200110, [], 0⟩,
  ⟨.HUB_FUSE_STATUS, .hub, 0x200120, [], 0⟩,
  ⟨.HUB_FUSE_SEL, .hub, 0x200124, [], 0⟩,
  ⟨.HUB_FUSE_DATA, .hub, 0x200128, [], 0⟩]

/-- Registers of a hub (R431), part 3. -/
def hubRows3 : List RegRow := [
  ⟨.HUB_SPARE_SEL, .hub, 0x200130, [], 0⟩,
  ⟨.HUB_SPARE_READ, .hub, 0x200134, [], 0⟩,
  ⟨.HUB_1500_BUF, .hub, 0x200400, [(128, 0x4)], 0⟩,
  ⟨.THM_AVG, .hub, 0x90000, [], 0⟩,
  ⟨.THM_STALE, .hub, 0x90004, [], 0⟩,
  ⟨.THM_ENTRY, .hub, 0x90008, [], 0⟩,
  ⟨.THM_DIE_ENTRY, .hub, 0x9000c, [], 0⟩,
  ⟨.THM_ACTION, .hub, 0x90010, [(3, 0x4)], 0⟩,
  ⟨.THM_STACK, .hub, 0x90020, [(3, 0x4)], 0⟩,
  ⟨.THM_HUB, .hub, 0x90030, [], 0⟩,
  ⟨.THM_INT_STATUS, .hub, 0x90034, [], 0⟩,
  ⟨.THM_INT_ENABLE, .hub, 0x90038, [], 0⟩,
  ⟨.THM_CLOSED_CNT, .hub, 0x90040, [], 0⟩,
  ⟨.QUEUE_DB, .hub, 0xd0000, [(16, 0x40)], 4⟩,
  ⟨.QUEUE_DB, .hub, 0xc0000, [(32, 0x40)], 8⟩,
  ⟨.QUEUE_DB, .hub, 0xe0000, [(16, 0x40)], 12⟩,
  ⟨.QUEUE_DB, .hub, 0xf0000, [(8, 0x40)], 16⟩,
  ⟨.QUEUE_CPL_DB, .hub, 0xd0004, [(16, 0x40)], 4⟩,
  ⟨.QUEUE_CPL_DB, .hub, 0xc0004, [(32, 0x40)], 8⟩,
  ⟨.QUEUE_CPL_DB, .hub, 0xe0004, [(16, 0x40)], 12⟩,
  ⟨.QUEUE_CPL_DB, .hub, 0xf0004, [(8, 0x40)], 16⟩,
  ⟨.QUEUE_BASE, .hub, 0xd0008, [(16, 0x40)], 4⟩,
  ⟨.QUEUE_BASE, .hub, 0xc0008, [(32, 0x40)], 8⟩,
  ⟨.QUEUE_BASE, .hub, 0xe0008, [(16, 0x40)], 12⟩,
  ⟨.QUEUE_BASE, .hub, 0xf0008, [(8, 0x40)], 16⟩,
  ⟨.QUEUE_CPL_BASE, .hub, 0xd0010, [(16, 0x40)], 4⟩,
  ⟨.QUEUE_CPL_BASE, .hub, 0xc0010, [(32, 0x40)], 8⟩,
  ⟨.QUEUE_CPL_BASE, .hub, 0xe0010, [(16, 0x40)], 12⟩,
  ⟨.QUEUE_CPL_BASE, .hub, 0xf0010, [(8, 0x40)], 16⟩,
  ⟨.QUEUE_SIZE, .hub, 0xd0018, [(16, 0x40)], 4⟩,
  ⟨.QUEUE_SIZE, .hub, 0xc0018, [(32, 0x40)], 8⟩,
  ⟨.QUEUE_SIZE, .hub, 0xe0018, [(16, 0x40)], 12⟩,
  ⟨.QUEUE_SIZE, .hub, 0xf0018, [(8, 0x40)], 16⟩,
  ⟨.QUEUE_CTRL, .hub, 0xd001c, [(16, 0x40)], 4⟩,
  ⟨.QUEUE_CTRL, .hub, 0xc001c, [(32, 0x40)], 8⟩,
  ⟨.QUEUE_CTRL, .hub, 0xe001c, [(16, 0x40)], 12⟩,
  ⟨.QUEUE_CTRL, .hub, 0xf001c, [(8, 0x40)], 16⟩,
  ⟨.QUEUE_STATUS, .hub, 0xd0020, [(16, 0x40)], 4⟩,
  ⟨.QUEUE_STATUS, .hub, 0xc0020, [(32, 0x40)], 8⟩,
  ⟨.QUEUE_STATUS, .hub, 0xe0020, [(16, 0x40)], 12⟩]

/-- Registers of a hub (R431), part 4. -/
def hubRows4 : List RegRow := [
  ⟨.QUEUE_STATUS, .hub, 0xf0020, [(8, 0x40)], 16⟩,
  ⟨.QUEUE_STATE, .hub, 0xd0024, [(16, 0x40)], 4⟩,
  ⟨.QUEUE_STATE, .hub, 0xc0024, [(32, 0x40)], 8⟩,
  ⟨.QUEUE_STATE, .hub, 0xe0024, [(16, 0x40)], 12⟩,
  ⟨.QUEUE_STATE, .hub, 0xf0024, [(8, 0x40)], 16⟩,
  ⟨.QUEUE_WDOG, .hub, 0xd0028, [(16, 0x40)], 4⟩,
  ⟨.QUEUE_WDOG, .hub, 0xc0028, [(32, 0x40)], 8⟩,
  ⟨.QUEUE_WDOG, .hub, 0xe0028, [(16, 0x40)], 12⟩,
  ⟨.QUEUE_WDOG, .hub, 0xf0028, [(8, 0x40)], 16⟩,
  ⟨.QUEUE_INFO, .hub, 0xd002c, [(16, 0x40)], 4⟩,
  ⟨.QUEUE_INFO, .hub, 0xc002c, [(32, 0x40)], 8⟩,
  ⟨.QUEUE_INFO, .hub, 0xe002c, [(16, 0x40)], 12⟩,
  ⟨.QUEUE_INFO, .hub, 0xf002c, [(8, 0x40)], 16⟩,
  ⟨.PAGE_PREFETCH_WIN, .hub, 0xc1000, [], 0⟩,
  ⟨.PAGE_POOL_SEL, .hub, 0xc1004, [], 0⟩,
  ⟨.PAGE_POOL_FREE, .hub, 0xc1008, [], 0⟩,
  ⟨.PAGE_POOL_STATE, .hub, 0xc100c, [], 0⟩,
  ⟨.PAGE_PTC_CNT, .hub, 0xc1010, [], 0⟩,
  ⟨.PAGE_FETCH_CNT, .hub, 0xc1014, [], 0⟩,
  ⟨.TRW_PORT_CTRL, .hub, 0x200800, [(4, 0x20)], 0⟩,
  ⟨.TRW_PORT_STATUS, .hub, 0x200804, [(4, 0x20)], 0⟩,
  ⟨.TRW_PORT_RETRY, .hub, 0x200808, [(4, 0x20)], 0⟩,
  ⟨.TRW_NODE_ID, .hub, 0x200900, [], 0⟩,
  ⟨.TRW_LINK_FAIL, .hub, 0x200904, [], 0⟩,
  ⟨.TRW_UNROUTABLE, .hub, 0x200908, [], 0⟩,
  ⟨.RING_COLL_TIMEOUT, .hub, 0xe1000, [], 0⟩,
  ⟨.RING_STALL_GRANT, .hub, 0xe1004, [], 0⟩,
  ⟨.RING_STALL_CNT, .hub, 0xe1008, [], 0⟩,
  ⟨.RING_COLL_STATE, .hub, 0xe1010, [(16, 0x4)], 0⟩,
  ⟨.AKS_STATUS, .hub, 0x200a00, [], 0⟩,
  ⟨.AKS_CREDIT, .hub, 0x200a04, [], 0⟩,
  ⟨.AKS_REPLAY, .hub, 0x200a08, [], 0⟩,
  ⟨.AKS_CRC_ERR, .hub, 0x200a0c, [], 0⟩,
  ⟨.AKS_REPAIR, .hub, 0x200a40, [(8, 0x8)], 0⟩,
  ⟨.CNT_CFG, .hub, 0xa0000, [(32, 0x10)], 0⟩,
  ⟨.CNT_OWNER, .hub, 0xa0004, [(32, 0x10)], 0⟩,
  ⟨.CNT_VALUE, .hub, 0xa0008, [(32, 0x10)], 0⟩,
  ⟨.CNT_CTRL, .hub, 0xa0400, [], 0⟩,
  ⟨.CNT_FREEZE_AT, .hub, 0xa0408, [], 0⟩,
  ⟨.CNT_READ_TIME, .hub, 0xa0410, [], 0⟩]

/-- Registers of a hub (R431), part 5. -/
def hubRows5 : List RegRow := [
  ⟨.SMP_CTRL, .hub, 0xa1000, [], 0⟩,
  ⟨.SMP_PERIOD, .hub, 0xa1004, [], 0⟩,
  ⟨.SMP_SEED, .hub, 0xa1008, [], 0⟩,
  ⟨.SMP_BASE, .hub, 0xa1010, [], 0⟩,
  ⟨.SMP_PTR, .hub, 0xa1018, [], 0⟩,
  ⟨.SMP_RP, .hub, 0xa101c, [], 0⟩,
  ⟨.SMP_STATUS, .hub, 0xa1020, [], 0⟩,
  ⟨.TRC_CTRL, .hub, 0xb0000, [], 0⟩,
  ⟨.TRC_BASE, .hub, 0xb0008, [], 0⟩,
  ⟨.TRC_PTR, .hub, 0xb0010, [], 0⟩,
  ⟨.TRC_RP, .hub, 0xb0014, [], 0⟩,
  ⟨.TRC_STATUS, .hub, 0xb0018, [], 0⟩,
  ⟨.HUB_INT_STATUS, .hub, 0x200060, [], 0⟩,
  ⟨.HUB_IMG_STATUS, .hub, 0x200020, [], 0⟩,
  ⟨.HUB_INT_ENABLE, .hub, 0x200064, [], 0⟩]

/-- Every register of a hub (R431). -/
def hubRows : List RegRow := hubRows1 ++ hubRows2 ++ hubRows3 ++ hubRows4 ++ hubRows5

/-- Registers of a compute die (R431), part 1. -/
def dieRows1 : List RegRow := [
  ⟨.CMP_GATE_CFG, .die, 0x10000, [], 0⟩,
  ⟨.CMP_GATE_STATUS, .die, 0x10010, [(4, 0x4)], 0⟩,
  ⟨.CMP_THM_STATUS, .die, 0x10100, [], 0⟩,
  ⟨.CMP_CORE_SEL, .die, 0x20000, [], 0⟩,
  ⟨.CMP_CORE_STATE, .die, 0x20004, [], 0⟩,
  ⟨.CMP_CORE_FAULT, .die, 0x20008, [], 0⟩,
  ⟨.CMP_SRAM_PAGE, .die, 0x2000c, [], 0⟩,
  ⟨.CMP_SRAM_WIN, .die, 0x21000, [(1024, 0x4)], 0⟩,
  ⟨.QUEUE_DB, .die, 0x30000, [(32, 0x40)], 0⟩,
  ⟨.QUEUE_CPL_DB, .die, 0x30004, [(32, 0x40)], 0⟩,
  ⟨.QUEUE_BASE, .die, 0x30008, [(32, 0x40)], 0⟩,
  ⟨.QUEUE_CPL_BASE, .die, 0x30010, [(32, 0x40)], 0⟩,
  ⟨.QUEUE_SIZE, .die, 0x30018, [(32, 0x40)], 0⟩,
  ⟨.QUEUE_CTRL, .die, 0x3001c, [(32, 0x40)], 0⟩,
  ⟨.QUEUE_STATUS, .die, 0x30020, [(32, 0x40)], 0⟩,
  ⟨.QUEUE_STATE, .die, 0x30024, [(32, 0x40)], 0⟩,
  ⟨.QUEUE_WDOG, .die, 0x30028, [(32, 0x40)], 0⟩,
  ⟨.QUEUE_INFO, .die, 0x3002c, [(32, 0x40)], 0⟩,
  ⟨.CMP_EXP_STATE, .die, 0x40000, [(8, 0x10)], 0⟩,
  ⟨.CMP_EXP_SLOTS_HI, .die, 0x40004, [(8, 0x10)], 0⟩,
  ⟨.CMP_EXP_CNT, .die, 0x40008, [(8, 0x10)], 0⟩,
  ⟨.AKS_STATUS, .die, 0x50000, [], 4⟩,
  ⟨.AKS_CREDIT, .die, 0x50004, [], 4⟩,
  ⟨.AKS_REPLAY, .die, 0x50008, [], 4⟩,
  ⟨.AKS_CRC_ERR, .die, 0x5000c, [], 4⟩,
  ⟨.AKS_REPAIR, .die, 0x50040, [(16, 0x8)], 4⟩,
  ⟨.CNT_CFG, .die, 0x60000, [(32, 0x10)], 4⟩,
  ⟨.CNT_OWNER, .die, 0x60004, [(32, 0x10)], 4⟩,
  ⟨.CNT_VALUE, .die, 0x60008, [(32, 0x10)], 4⟩,
  ⟨.CNT_CTRL, .die, 0x60400, [], 4⟩,
  ⟨.CNT_FREEZE_AT, .die, 0x60408, [], 4⟩,
  ⟨.CNT_READ_TIME, .die, 0x60410, [], 4⟩,
  ⟨.CMP_CCNT_CFG, .die, 0x61000, [], 0⟩,
  ⟨.CMP_CCNT_READ, .die, 0x61008, [], 0⟩,
  ⟨.CMP_SMP_CTRL, .die, 0x62000, [], 0⟩,
  ⟨.CMP_SMP_PERIOD, .die, 0x62004, [], 0⟩,
  ⟨.CMP_SMP_SEED, .die, 0x62008, [], 0⟩]

/-- Every register of a compute die (R431). -/
def dieRows : List RegRow := dieRows1

/-- Registers of a function page (R431), part 1. -/
def fnRows1 : List RegRow := [
  ⟨.FN_INFO, .fn, 0x0, [], 0⟩,
  ⟨.FN_CTRL, .fn, 0x4, [], 0⟩,
  ⟨.FN_WIN_BASE, .fn, 0x8, [], 0⟩,
  ⟨.FN_RESET, .fn, 0x10, [], 0⟩,
  ⟨.FN_EVENT_STATUS, .fn, 0x14, [], 0⟩,
  ⟨.FN_EVENT_ENABLE, .fn, 0x18, [], 0⟩,
  ⟨.FN_CNT_CFG, .fn, 0x1000, [(64, 0x10)], 0⟩,
  ⟨.FN_CNT_VALUE, .fn, 0x1008, [(64, 0x10)], 0⟩,
  ⟨.FN_CCNT_SEL, .fn, 0x1400, [], 0⟩,
  ⟨.FN_CCNT_READ, .fn, 0x1408, [], 0⟩]

/-- Every register of a function page (R431). -/
def fnRows : List RegRow := fnRows1

end Sys2Proof.Machine
end

