-- ==== Sys2Proof/Machine/State.lean ====
section
/-! DEFINITION. The machine's state: everything the spec gives the package, as plain data, and the state after reset. -/

namespace Sys2Proof.Machine

/-- The key of a stored register field: the die, hub or function and two indices in the register's array. -/
structure FKey where
  f : Fld
  d : Nat
  i : Nat
  j : Nat
  deriving DecidableEq, Repr

/-- What the block has sent outside (log entry 11). -/
inductive Out where
  | regRead (a : Access) (v : Word)
  /-- A stack command on the row or column bus of a pseudo-channel (R180, R183): its words' bits. -/
  | stackCmd (h p : Nat) (column : Bool) (bits : BitVec 44)
  /-- An MSI-X message of a function's vector (R384). -/
  | msix (fn vec : Nat) (addr : Word) (data : BitVec 32)
  /-- The completion of a BAR2 read: its bytes, and EP (R381, R382). -/
  | hostData (fn no : Nat) (bytes : List Byte) (ep : Bool)
  /-- Unsupported Request. -/
  | hostUr (fn : Nat)
  /-- The answer of a configuration request; none is CRS (R100). -/
  | config (fn : Nat) (v : Option (BitVec 32))
  /-- An engine's access to host memory (R327). -/
  | hostRead (q : QueueId) (addr : Nat)
  | hostWrite (q : QueueId) (addr : Nat) (data : Block)
  /-- A page copy's access to host memory by the PAGE engine of hub h (R343, R344). -/
  | pageRead (h addr : Nat)
  | pageWrite (h addr : Nat) (data : Block)
  /-- An answer to a compute die (R393). -/
  | aksal (d : Nat) (m : AkRsp)
  /-- A NAK for a slice (R398), and a replay from a SEQ. -/
  | nak (d : Nat) (h2c : Bool) (slice seq : Nat)
  | replay (d : Nat) (h2c : Bool) (slice seq : Nat)
  /-- A packet leaves port t = 4h + j (R361). -/
  | packet (t : Nat) (p : Packet)
  /-- The phase step of R404 and a training step of R402. -/
  | hbTrn (d state : Nat)
  /-- PMBus commands for VDD_CMP and VDD_CSR (R219). -/
  | rails (on : Bool)
  /-- The service die reads a component of the boot flash: its address and the size limit (R94). -/
  | flashRead (addr limit : Nat)
  /-- Bits shifted out through a 1500 port (R275). -/
  | shift (h st : Nat) (bits : List Byte)
  deriving DecidableEq, Repr

/-- Clocks and TIME64 (chapter 04).  The phases count CCLK quarters of ROOT toward the next edge (R77, R78). -/
structure Clk where
  t64 : Nat
  cclk : Nat
  kclk : Nat
  fclk : Nat
  kPhase : Nat
  fPhase : Nat
  tPhase : Nat
  hp : Nat
  /-- CCLK runs on the hubs. -/
  run : Bool
  /-- Ticks of correction still to make (R84) and the tick of the last one. -/
  steer : Int
  steerAt : Option Nat
  /-- What the step at fabric join has added to TIME64 (R84, R111); t64 counts the ticks that timers count. -/
  stepped : Int := 0
  deriving DecidableEq, Repr

/-- What is fused (R24, R41 to R43, R95): identity, rollback counts, and the key hashes of the service die and of each hub with the revoked slots. -/
structure Fuses where
  member : Nat
  stepping : Nat
  hubMask : Nat
  cdieMask : Nat
  stackMask : Nat
  imgRollback : Nat
  fwRollback : Nat
  /-- Verifier v: 0 the service die, 1 + h hub h; key slots 0 to 3. -/
  keys : List (List Nat)
  revoked : List (List Bool)
  deriving DecidableEq, Repr

/-- The register fields: those that are stored, and what hardware has set or counted in RW1C fields in the CCLK in progress (R9), with the tick and the CCLK of it. -/
structure RegFile where
  vals : List (FKey × Nat)
  fresh : List (FKey × Nat)
  at_ : Nat × Nat
  deriving DecidableEq, Repr

def RegFile.reset : RegFile := { vals := [], fresh := [], at_ := (0, 0) }

structure State where
  clk : Clk
  fuse : Fuses
  regs : RegFile
  /-- The registers whose high half is latched, with the value it was taken from (R4). -/
  half : List (RegAt × Nat)
  cfg : Option RunCfg
  /-- What waits for a commit tick (R54, R126, R257). -/
  staged : List Staged
  board : BoardSt
  supply : SupplySt
  boot : BootSt
  /-- The recovery buffer (R108). -/
  recov : List Byte
  doors : Tab DoorSt
  louvres : Tab LouvreSt
  arbs : Tab ArbSt
  pcs : Tab PcSt
  links : Tab LinkSt
  ring : Tab (List Req)
  mem : List Host.Cell
  geom : Tab (Option StackId)
  /-- Outstanding requests of each pane and of each casement (R52, R106). -/
  outPane : Tab Nat
  outCas : Tab Nat
  nextId : Nat
  closed : Tab Bool
  fences : Tab (Nat × Nat)
  logs : Tab (Option LogEnt)
  levels : Tab Nat
  leakAt : Tab Nat
  /-- Trim records (R227): of pseudo-channel 96 h + p, and in it of 5 lane + hinge point. -/
  trims : Tab (Tab TrimRec)
  /-- The records in effect on the lanes, keyed the same way (R227). -/
  lanes : Tab (Tab TrimRec)
  therm : Tab ThermSt
  hinge : HingeSt
  samplers : Tab SamplerSt
  tracers : Tab TracerSt
  ports : Tab PortSt
  /-- The hub fuse maps (R264): key 1024 h + index. -/
  fuseMap : Tab Word
  /-- Spares used up since identification: key by kind, pseudo-channel and bank. -/
  spareUsed : Tab Nat
  /-- Where an engine's rotation over its queues goes on, by engine (R326, R330). -/
  turns : Tab Nat
  /-- Direct-access buffers, key 512 h + byte (R275). -/
  shiftBuf : Tab Byte
  queues : Tab QSt
  colls : List CollSt
  notices : List Notice
  /-- COLL_IDs of RING commands that ended before they were complete: what arrives for them is discarded (R369). -/
  deadColls : List Nat
  cores : Tab CoreSt
  clusters : Tab ClusterSt
  kernels : List KernelSt
  pools : Tab PoolSt
  copies : List CopySt
  pgWaits : List PgWait
  ptc : Tab (List PtLine)
  expanders : Tab ExpSt
  trw : Tab TrwSt
  /-- Packets that wait for routing at a hub, and packets delivered here (R361). -/
  fabTx : List (Nat × Packet)
  fabRx : List (Nat × Packet)
  /-- Time exchange: the tick of the last request, and the ticks from it to the next, as PERIOD_US stood then (R88, R372). -/
  timeAsk : Option (Nat × Nat)
  joined : Bool
  aks : Tab AksSt
  slices : Tab SliceSt
  fns : Tab FnSt
  msix : Tab MsixSt
  hostRds : List HostRd
  hostWrs : List HostWr
  /-- BAR4 accesses held through a hinge, and reads held by PF1 (R386), with the value written. -/
  heldRegs : List (Access × Option Word)
  /-- The counter that a slot of a function holds: key 64 fn + slot, value 32 bank + counter (R414). -/
  slots : Tab (Option Nat)
  /-- Banks that wait for the tick of CNT_FREEZE_AT (R412). -/
  freezeArm : Tab Bool
  /-- Casements being reset (R106), with whether a function asked. -/
  resetting : Tab Bool
  /-- HUB commands CASE_RESET that wait for a reset (R330). -/
  caseWait : List (QueueId × Nat × Nat)
  answers : List Answer
  pf1 : Bool
  pf2 : Bool
  out : List Out
  /-- The model's counter of free values drawn (log entry 10). -/
  free : Nat
  pending : List Instr
  deriving DecidableEq, Repr

/-- Reasons the machine could stop with.  Every command of the block has an effect or is ignored, so no meaning raises one (safe). -/
inductive Fault where
  deriving DecidableEq, Repr

/-- Reasons a command could be refused for. -/
inductive Refusal where
  /-- Kept for an arm of `exec` whose command has no meaning yet; every arm has one, so nothing raises it.  Safe, since the machine would stop. -/
  | notModelled (mnemonic : String)
  deriving DecidableEq, Repr

/-- The fuses of a fully populated ZW4 with nothing else blown (log entry 6). -/
def Fuses.reset : Fuses :=
  { member := 4, stepping := 0, hubMask := 15, cdieMask := 15, stackMask := 4095, imgRollback := 0, fwRollback := 0,
    keys := List.replicate 5 [0, 0, 0, 0], revoked := List.replicate 5 [false, false, false, false] }

/-- The machine right after reset: VAON_SVC has powered up, a cold reset is in force and the board holds PKG_RST_N low (R90, R82; log entries 7 and 8).
Every register field reads its Reset value, since none is listed. -/
def State.reset : State :=
  { clk := { t64 := 0, cclk := 0, kclk := 0, fclk := 0, kPhase := 0, fPhase := 0, tPhase := 0, hp := 4, run := false, steer := 0, steerAt := none },
    fuse := Fuses.reset, regs := RegFile.reset, half := [], cfg := none, staged := [],
    board := { kaPg := false, pwrGood := false, pkgRst := false, warmRst := true, perst := true, refAt := some 0,
               straps := { boot := 0, slew := 0, i3cAddr := 0 }, trip := false, riseAt := 0 },
    supply := { pf1Filt := none, pf2Filt := none, recovAt := none, surgeAt := none, pf1At := none, cause := 0, keep := false,
                drainFrom := none, railsBack := false, drainedAt := none, estimate := 0, wanted := 0 },
    boot := { stage := .cold, slot := 0, cleared := false, wdog := none, warm := false, fwOk := false },
    recov := [], doors := [], louvres := [], arbs := [], pcs := [], links := [], ring := [], mem := [], geom := [], outPane := [], outCas := [],
    nextId := 0, closed := [], fences := [], logs := [], levels := [], leakAt := [], trims := [], lanes := [], therm := [], hinge := HingeSt.reset,
    samplers := [], tracers := [], ports := [], fuseMap := [], spareUsed := [], turns := [], shiftBuf := [], queues := [], colls := [],
    notices := [], deadColls := [], cores := [], clusters := [], kernels := [], pools := [], copies := [], pgWaits := [], ptc := [], expanders := [],
    trw := [], fabTx := [], fabRx := [], timeAsk := none, joined := false, aks := [], slices := [], fns := [], msix := [], hostRds := [], hostWrs := [], heldRegs := [],
    slots := [], freezeArm := [], resetting := [], caseWait := [], answers := [], pf1 := false, pf2 := false, out := [], free := 0, pending := [] }

end Sys2Proof.Machine
end

