-- ==== Sys2Proof/Machine/Ops.lean ====
section
/-! DEFINITION. The named operations over registers, memory and the parts of the package that every family shares. -/

namespace Sys2Proof.Machine

/-! ## Register fields -/

/-- The stored value of a register field; what nothing has written is its Reset value (R8). -/
def regFind : List (FKey × Nat) → FKey → Nat
  | [], k => resetOf k.f
  | (k', v) :: t, k => if k' = k then v else regFind t k

/-- The stored fields without one key. -/
def regErase : List (FKey × Nat) → FKey → List (FKey × Nat)
  | [], _ => []
  | (k', v) :: t, k => if k' = k then regErase t k else (k', v) :: regErase t k

def State.rd (s : State) (f : Fld) (d i j : Nat) : Nat := regFind s.regs.vals ⟨f, d, i, j⟩

def State.wr (s : State) (f : Fld) (d i j v : Nat) : State :=
  { s with regs := { s.regs with vals := (⟨f, d, i, j⟩, v) :: regErase s.regs.vals ⟨f, d, i, j⟩ } }

/-- The stored fields whose keys have a property; the others read their Reset values again. -/
def RegFile.keep (r : RegFile) (p : FKey → Bool) : RegFile := { r with vals := r.vals.filter fun x => p x.1, fresh := r.fresh.filter fun x => p x.1 }

/-- The CCLK in progress; where CCLK stands, the tick (log entry 1). -/
def State.moment (s : State) : Nat × Nat := (s.clk.t64, s.clk.cclk)

/-- What hardware has set or counted in RW1C fields in the CCLK in progress. -/
def State.freshNow (s : State) : List (FKey × Nat) := if s.regs.at_ = s.moment then s.regs.fresh else []

/-- Hardware sets bits n of an RW1C field, or counts n events into one, in this CCLK (R9). -/
def State.note (s : State) (f : Fld) (d i j n : Nat) : State :=
  { s with regs := { s.regs with fresh := (⟨f, d, i, j⟩, n) :: s.freshNow, at_ := s.moment } }

/-- The bits of a field that hardware has set in this CCLK. -/
def State.freshBits (s : State) (f : Fld) (d i j : Nat) : Nat :=
  s.freshNow.foldl (fun a x => if x.1 = ⟨f, d, i, j⟩ then a ||| x.2 else a) 0

/-- The events that hardware has counted into a field in this CCLK. -/
def State.freshCount (s : State) (f : Fld) (d i j : Nat) : Nat :=
  s.freshNow.foldl (fun a x => if x.1 = ⟨f, d, i, j⟩ then a + x.2 else a) 0

/-- A host write sets a sync counter; SIGNALs of the same CCLK add to what it wrote (R324). -/
def State.syncSet (s : State) (c k v : Nat) : State :=
  s.wr .SYNC_CNT_VALUE c k 0 ((v + s.freshCount .SYNC_CNT_VALUE c k 0) % 2 ^ 64)

/-- A count field rises by n and saturates at its greatest value (R6, R9). -/
def State.count (s : State) (f : Fld) (top d i j n : Nat) : State :=
  (s.wr f d i j (Nat.min top (s.rd f d i j + n))).note f d i j n

/-- A field of one bit, as a truth value. -/
def State.bit (s : State) (f : Fld) (d i j : Nat) : Bool := s.rd f d i j != 0

/-- Hardware sets bits n of a field. -/
def State.orBits (s : State) (f : Fld) (d i j n : Nat) : State := (s.wr f d i j (s.rd f d i j ||| n)).note f d i j n

/-- Hardware sets bit b of a field. -/
def State.setBit (s : State) (f : Fld) (d i j b : Nat) : State := s.orBits f d i j (2 ^ b)

/-- Hardware sets an RW1C field of one bit. -/
def State.flag (s : State) (f : Fld) (d i j : Nat) : State := (s.wr f d i j 1).note f d i j 1

/-- Clear bit b of a field. -/
def State.clearBit (s : State) (f : Fld) (d i j b : Nat) : State :=
  s.wr f d i j (if (s.rd f d i j).testBit b then s.rd f d i j - 2 ^ b else s.rd f d i j)

def top8 : Nat := 255
def top16 : Nat := 65535
def top32 : Nat := 4294967295

/-- The two's complement of an integer in w bits (OFFSET, DRIFT and temperature fields). -/
def toTwos (w : Nat) (x : Int) : Nat := (x % (2 ^ w : Int)).toNat

/-! ## What the block sends outside -/

def State.emit (s : State) (o : Out) : State := { s with out := s.out ++ [o] }

/-! ## Clocks -/

/-- TIME64, as every die's copy shows it (R83: within a tick; the model's copies are equal). -/
def State.now (s : State) : Nat := s.clk.t64

/-- TIME64 as it reads: a step at fabric join moves it and no timer (R84, R87). -/
def State.time64 (s : State) : Nat := ((s.clk.t64 : Int) + s.clk.stepped).toNat

/-- The CCLK count. -/
def State.cyc (s : State) : Nat := s.clk.cclk

/-! ## The package (R15 to R17, R24) -/

def State.hubIn (s : State) (h : Nat) : Bool := s.fuse.hubMask.testBit h
def State.cdieIn (s : State) (c : Nat) : Bool := s.fuse.cdieMask.testBit c
def State.stackIn (s : State) (h st : Nat) : Bool := s.fuse.stackMask.testBit (3 * h + st)

/-- The stack a pseudo-channel belongs to (R16). -/
def stackOf (p : Nat) : Nat := p / 32
/-- The channel of a pseudo-channel, counted over the hub (R16). -/
def chanOf (p : Nat) : Nat := p / 2

def allHubs : List Nat := [0, 1, 2, 3]
def allDies : List Nat := [0, 1, 2, 3]
def State.hubs (s : State) : List Nat := allHubs.filter s.hubIn
def State.cdies (s : State) : List Nat := allDies.filter s.cdieIn

/-- Whether pseudo-channel h:p has a stack. -/
def State.pcIn (s : State) (h p : Nat) : Bool := s.hubIn h && s.stackIn h (stackOf p)

/-- Every populated pseudo-channel of a hub, in number order. -/
def State.pcsOf (s : State) (h : Nat) : List Nat := (List.range 96).filter (s.pcIn h)

/-- Every populated pseudo-channel of the package. -/
def State.allPcs (s : State) : List (Nat × Nat) :=
  s.hubs.flatMap fun h => (s.pcsOf h).map fun p => (h, p)

/-- The lowest-numbered present hub (R113). -/
def State.firstHub (s : State) : Nat := s.hubs.headD 0

/-! ## The running configuration (R36) -/

def State.frames (s : State) : List Frame := (s.cfg.map (·.frames)).getD []

/-- The first frame that names die number `d` (R32) and has the wanted body. -/
def State.frameFor {α : Type} (s : State) (d : Nat) (pick : FrameBody → Option α) : Option α :=
  s.frames.findSome? fun f => if f.target.getLsbD d then pick f.body else none

/-- Every frame that names die number `d` and has the wanted body, in file order. -/
def State.framesFor {α : Type} (s : State) (d : Nat) (pick : FrameBody → Option α) : List α :=
  s.frames.filterMap fun f => if f.target.getLsbD d then pick f.body else none

def FrameBody.asHinge : FrameBody → Option HingeCfg | .hinge c => some c | _ => none
def FrameBody.asProfile : FrameBody → Option ProfileCfg | .profile c => some c | _ => none
def FrameBody.asTiming : FrameBody → Option TimingCfg | .timing c => some c | _ => none
def FrameBody.asSteps : FrameBody → Option StepTableCfg | .steps c => some c | _ => none
def FrameBody.asRefresh : FrameBody → Option RefreshCfg | .refresh c => some c | _ => none
def FrameBody.asDisturb : FrameBody → Option DisturbCfg | .disturb c => some c | _ => none
def FrameBody.asAdjacency : FrameBody → Option AdjacencyCfg | .adjacency c => some c | _ => none
def FrameBody.asEcc : FrameBody → Option EccCfg | .ecc c => some c | _ => none
def FrameBody.asThermal : FrameBody → Option ThermalCfg | .thermal c => some c | _ => none
def FrameBody.asPane : FrameBody → Option PaneDef | .pane c => some c | _ => none
def FrameBody.asLayout : FrameBody → Option LayoutSetCfg | .layoutSet c => some c | _ => none
def FrameBody.asDoorMap : FrameBody → Option (List DoorCfg) | .doorMap c => some c | _ => none
def FrameBody.asLouvre : FrameBody → Option LouvreCfg | .louvre c => some c | _ => none
def FrameBody.asArbiter : FrameBody → Option ArbiterCfg | .arbiter c => some c | _ => none
def FrameBody.asCasement : FrameBody → Option CasementCfg | .casement c => some c | _ => none
def FrameBody.asRoute : FrameBody → Option RouteCfg | .route c => some c | _ => none
def FrameBody.asPins : FrameBody → Option (List PinEntry) | .pins c => some c | _ => none

def framesAs {α : Type} (fs : List Frame) (pick : FrameBody → Option α) : List α :=
  fs.filterMap fun f => pick f.body

def State.hingeCfg (s : State) : Option HingeCfg := (framesAs s.frames FrameBody.asHinge).head?
def State.layouts (s : State) : List LayoutSetCfg := framesAs s.frames FrameBody.asLayout
def State.casements (s : State) : List CasementCfg := framesAs s.frames FrameBody.asCasement
def State.casementCfg (s : State) (c : Nat) : Option CasementCfg := s.casements.find? fun x => x.cas = c
def State.routeCfg (s : State) : Option RouteCfg := (framesAs s.frames FrameBody.asRoute).head?
def State.refreshCfg (s : State) (h : Nat) : Option RefreshCfg := s.frameFor h FrameBody.asRefresh
def State.disturbCfg (s : State) (h : Nat) : Option DisturbCfg := s.frameFor h FrameBody.asDisturb
def State.thermalCfg (s : State) (die : Nat) : Option ThermalCfg := s.frameFor die FrameBody.asThermal
/-- CAPACITY and LEAK_MS; 16 and 1,000 where the image has no ECC frame (R440). -/
def State.eccCfg (s : State) (h : Nat) : EccCfg := (s.frameFor h FrameBody.asEcc).getD ⟨16, 1000⟩

/-- The active set of a layout group. -/
def State.activeSet (s : State) (g : Nat) : Nat :=
  (((s.cfg.map (·.activeSets)).getD []).find? fun x => x.1 = g).map (·.2) |>.getD 0

/-- The layout set with a group and set number. -/
def layoutIn (ls : List LayoutSetCfg) (g st : Nat) : Option LayoutSetCfg :=
  ls.find? fun l => l.group = g && l.set = st

/-- The pane definitions in force: the panes outside any group and the entries of each group's active set (chapter 06). -/
def State.panes (s : State) : List PaneDef :=
  framesAs s.frames FrameBody.asPane ++
  (s.layouts.filter fun l => s.activeSet l.group = l.set).flatMap (·.entries)

def State.paneDef (s : State) (n : Nat) : Option PaneDef := s.panes.find? fun x => x.id = n

/-- What a stack answered at identification (R27), if it was identified. -/
def State.stackId (s : State) (h st : Nat) : Option StackId := Tab.get none s.geom (3 * h + st)

/-- Banks per pseudo-channel (R27). -/
def State.banksOf (s : State) (h p : Nat) : Nat :=
  match s.stackId h (stackOf p) with
  | some x => 16 * (x.bankCode.val + 1)
  | none => 48

/-- Whether a profile accepts a stack (R46). -/
def profileAccepts (c : ProfileCfg) (x : StackId) : Bool :=
  c.vendors.contains x.vendor && c.bankMask.testBit x.bankCode.val &&
    decide (c.rateMin ≤ x.maxRate) && decide (x.maxRate ≤ c.rateMax)

/-- The profile of a stack: the first in file order that accepts it (R46). -/
def State.profileOf (s : State) (h p : Nat) : Option ProfileCfg :=
  match s.stackId h (stackOf p) with
  | some x => (s.framesFor h FrameBody.asProfile).find? fun c => profileAccepts c x
  | none => none

def State.timingOf (s : State) (h p hp : Nat) : Option TimingCfg :=
  match s.profileOf h p with
  | some c => (s.framesFor h FrameBody.asTiming).find? fun t => t.profile = c.index && t.hinge = hp
  | none => none

def State.stepsOf (s : State) (h p : Nat) : Option StepTableCfg :=
  match s.profileOf h p with
  | some c => (s.framesFor h FrameBody.asSteps).find? fun t => t.profile = c.index
  | none => none

def State.adjacencyOf (s : State) (h p : Nat) : Option AdjacencyCfg :=
  match s.profileOf h p with
  | some c => (s.framesFor h FrameBody.asAdjacency).find? fun t => t.profile = c.index
  | none => none

/-- Row size C of a pseudo-channel's profile in bytes (R181). -/
def State.rowBytes (s : State) (h p : Nat) : Nat := 2 ^ ((s.profileOf h p).map (·.rowLog2) |>.getD 10)

/-- Rows of a bank: the pseudo-channel's capacity over B × C (R120). -/
def State.rowsOf (s : State) (h p : Nat) : Nat :=
  let cap := ((s.stackId h (stackOf p)).map (·.capacityGib) |>.getD 24) * 2 ^ 30 / 32
  cap / (s.banksOf h p * s.rowBytes h p)

/-! ## Parts of the memory path -/

def pcKey (h p : Nat) : Nat := h * 96 + p
def doorKey (h d : Nat) : Nat := h * 9 + d
def slotKey (h d k : Nat) : Nat := (h * 9 + d) * 16 + k

def State.pc (s : State) (h p : Nat) : PcSt := Tab.get PcSt.reset s.pcs (pcKey h p)
def State.setPc (s : State) (h p : Nat) (x : PcSt) : State := { s with pcs := Tab.put PcSt.reset s.pcs (pcKey h p) x }
def State.door (s : State) (h d : Nat) : DoorSt := Tab.get DoorSt.reset s.doors (doorKey h d)
def State.setDoor (s : State) (h d : Nat) (x : DoorSt) : State := { s with doors := Tab.put DoorSt.reset s.doors (doorKey h d) x }
def State.arb (s : State) (h p : Nat) : ArbSt := Tab.get ArbSt.reset s.arbs (pcKey h p)
def State.setArb (s : State) (h p : Nat) (x : ArbSt) : State := { s with arbs := Tab.put ArbSt.reset s.arbs (pcKey h p) x }
def State.lvr (s : State) (h d k : Nat) : LouvreSt := Tab.get LouvreSt.reset s.louvres (slotKey h d k)
def State.setLvr (s : State) (h d k : Nat) (x : LouvreSt) : State := { s with louvres := Tab.put LouvreSt.reset s.louvres (slotKey h d k) x }
def State.link (s : State) (i : Nat) : LinkSt := Tab.get LinkSt.reset s.links i
def State.setLink (s : State) (i : Nat) (x : LinkSt) : State := { s with links := Tab.put LinkSt.reset s.links i x }

def PcSt.bank (x : PcSt) (b : Nat) : BankSt := Tab.get BankSt.reset x.banks b
def PcSt.setBank (x : PcSt) (b : Nat) (y : BankSt) : PcSt := { x with banks := Tab.put BankSt.reset x.banks b y }

/-- Every pseudo-channel of a hub changed by one function. -/
def State.mapPcs (s : State) (h : Nat) (f : PcSt → PcSt) : State :=
  (s.pcsOf h).foldl (fun t p => t.setPc h p (f (t.pc h p))) s

/-! ## Stack contents (R118, R244) -/

/-- The first of the 64 byte keys of a sector: 32 data bytes at 0, four check bytes at 32. -/
def sectorKey (h p bank row col : Nat) : Nat :=
  ((((h * 96 + p) * 64 + bank) * 2 ^ 18 + row) * 128 + col) * 64

/-- What a byte that nothing has written reads as (log entry 9). -/
def unwritten : Byte := 0

def memRead (m : List Host.Cell) (a : Nat) : Byte := Tab.get unwritten m a
def memWrite (m : List Host.Cell) (a : Nat) (v : Byte) : List Host.Cell := Tab.put unwritten m a v

/-- The n bytes from a key, little-endian (R3). -/
def memReadN (m : List Host.Cell) (a : Nat) : Nat → Nat
  | 0 => 0
  | n + 1 => (memRead m a).toNat + 256 * memReadN m (a + 1) n

def memWriteN (m : List Host.Cell) (a v : Nat) : Nat → List Host.Cell
  | 0 => m
  | n + 1 => memWrite (memWriteN m (a + 1) (v / 256) n) a (BitVec.ofNat 8 v)

/-- Keys in rising order. -/
def keysRise : List Host.Cell → Bool
  | [] => true
  | [_] => true
  | (a, _) :: (b, y) :: t => decide (a < b) && keysRise ((b, y) :: t)

/-- The canonical form of memory: keys strictly rising, no entry equal to what an unlisted byte reads as. -/
abbrev Memory.wf (m : List Host.Cell) : Prop :=
  keysRise m = true ∧ (m.all fun c => c.2 != unwritten) = true

/-! ## Requests in hand -/

/-- A decoded request enters the hubs: it takes a number and counts in its pane and its casement (R52, R106). -/
def State.beginReq (s : State) (r : Req) : State × Req :=
  let r' := { r with id := s.nextId }
  ({ s with nextId := s.nextId + 1,
            outPane := Tab.put 0 s.outPane r.pane (Tab.get 0 s.outPane r.pane + 1),
            outCas := Tab.put 0 s.outCas r.cas (Tab.get 0 s.outCas r.cas + 1) }, r')

/-- A request has ended. -/
def State.endReq (s : State) (r : Req) : State :=
  { s with outPane := Tab.put 0 s.outPane r.pane (Tab.get 0 s.outPane r.pane - 1),
           outCas := Tab.put 0 s.outCas r.cas (Tab.get 0 s.outCas r.cas - 1) }

/-- The links a request of hub g to pseudo-channel p of hub h crosses (R19); link i joins hubs i and i + 1. -/
def ringRoute (g h p : Nat) : List Nat :=
  match (h + 4 - g) % 4 with
  | 0 => []
  | 1 => [g]
  | 3 => [h]
  | _ => if p % 2 = 0 then [g, (g + 1) % 4] else [(g + 3) % 4, (g + 2) % 4]

/-- Whether every link of a request's route is in service (R19, R21). -/
def State.routeUp (s : State) (r : Req) : Bool := (ringRoute r.home r.hub r.pc).all fun i => !(s.link i).failed

/-- A request ends: its answer sets out for the requester (R20).  A remote answer whose way back crosses a failed ring link ends with HALTED (R21). -/
def State.finish (s : State) (r : Req) (st : Status) (data : Block) (poison pkind : BitVec 8) : State :=
  let a : Answer := if s.routeUp r then { r := r, st := st, data := data, poison := poison, pkind := pkind }
    else { r := r, st := .halted, data := 0, poison := 0, pkind := 0 }
  { s.endReq r with answers := s.answers ++ [a] }

/-- A request that ends without data. -/
def State.finishBare (s : State) (r : Req) (st : Status) : State := s.finish r st 0 0 0

/-! ## Heat (R279, R280) -/

/-- Sources: stack 3h + s, then die number d at 12 + d. -/
def State.src (s : State) (k : Nat) : ThermSt := Tab.get ThermSt.reset s.therm k
def State.setSrc (s : State) (k : Nat) (x : ThermSt) : State := { s with therm := Tab.put ThermSt.reset s.therm k x }
def State.stackTier (s : State) (h st : Nat) : Nat := Nat.max (s.src (3 * h + st)).tier (s.src (12 + h)).tier
/-- The hub's tier: the highest effective tier of its populated stacks; its die's where it has none. -/
def State.hubTier (s : State) (h : Nat) : Nat :=
  match [0, 1, 2].filter (s.stackIn h) with
  | [] => (s.src (12 + h)).tier
  | l => l.foldl (fun a st => Nat.max a (s.stackTier h st)) 0

/-- The action of a tier of a die (R281); none at tier 0. -/
def State.tierAction (s : State) (die tier : Nat) : ThermAction :=
  if tier = 0 then ⟨16, 0, 0, 0⟩
  else ((s.thermalCfg die).bind fun c => c.actions[tier - 1]?).getD ⟨16, 0, 0, 0⟩

/-- The drain of R63 or R91 is in force: doors refuse new requests and writes alone go on. -/
def State.draining (s : State) : Bool := s.pf2 || s.boot.stage == .drained

/-! ## The load slew limiter (R67, R68) -/

/-- Whatever drops the load without limit (R68): PF1, PF2, a trip, a reset, or a die at CRITICAL. -/
def State.dropsLoad (s : State) : Bool :=
  s.pf1 || s.draining || s.board.trip || (s.hubs.any fun h => s.hubTier h == 3) || (s.cdies.any fun d => (s.src (16 + d)).tier == 3) || (s.src 20).tier == 3

/-- The limiter delays a rise: the activity asks for more than the estimate has reached.  R68 lifts no limit from rises. -/
def State.riseHeld (s : State) : Bool := decide (s.supply.estimate < s.supply.wanted)

/-- The limiter delays a fall. -/
def State.fallHeld (s : State) : Bool := !s.dropsLoad && decide (s.supply.wanted < s.supply.estimate)

/-- The next number of the free values' counter (log entry 10). -/
def State.drawn (s : State) : State := { s with free := s.free + 1 }

end Sys2Proof.Machine
end

