-- ==== Sys2Proof/Machine/Flags.lean ====
section
/-! DEFINITION. Counters, trace records and summary bits: what every event leaves behind beside its effect (chapter 22, R434). -/

namespace Sys2Proof.Machine

/-! ## Counter banks (R408, R409) -/

/-- The bank of a die, hubs 0 to 3 and compute dies 4 to 7, is frozen, or its freeze tick has come (R412). -/
def State.frozen (s : State) (bank : Nat) : Bool :=
  s.rd .CNT_CTRL_FROZEN bank 0 0 == 1 || (Tab.get false s.freezeArm bank && decide (s.rd .CNT_FREEZE_AT_TICK bank 0 0 ≤ s.time64))

/-- Whether counter k of a bank selects an event with these filter values (R409). -/
def State.counts (s : State) (bank k ev : Nat) (unit : Option Nat) (subs : List Nat) (cas : Option Nat) : Bool :=
  s.rd .CNT_CFG_ENABLE bank k 0 == 1 && s.rd .CNT_CFG_EVENT bank k 0 == ev &&
  (s.rd .CNT_CFG_UNIT bank k 0 == 0x7F || unit == some (s.rd .CNT_CFG_UNIT bank k 0)) &&
  (s.rd .CNT_CFG_SUB_EN bank k 0 == 0 || subs.contains (s.rd .CNT_CFG_SUB bank k 0)) &&
  (s.rd .CNT_CFG_CAS_EN bank k 0 == 0 || cas == some (s.rd .CNT_CFG_CASEMENT bank k 0))

/-- A 48-bit counter rises by n, wraps and sets OVF (R408). -/
def State.counterUp (s : State) (bank k n : Nat) : State :=
  let v := s.rd .CNT_VALUE_VALUE bank k 0 + n
  let t := s.wr .CNT_VALUE_VALUE bank k 0 (v % 2 ^ 48)
  if 2 ^ 48 ≤ v then t.flag .CNT_CFG_OVF bank k 0 else t

/-- n events of one code happen on a die. -/
def State.tally (s : State) (bank ev : Nat) (unit : Option Nat) (subs : List Nat) (cas : Option Nat) (n : Nat) : State :=
  if s.frozen bank then s
  else (List.range 32).foldl (fun t k => if s.counts bank k ev unit subs cas then t.counterUp bank k n else t) s

/-! ## Trace (R419 to R423) -/

def State.tracer (s : State) (h : Nat) : TracerSt := Tab.get TracerSt.reset s.tracers h
def State.setTracer (s : State) (h : Nat) (x : TracerSt) : State := { s with tracers := Tab.put TracerSt.reset s.tracers h x }

/-- A unit of a casement other than 0 keeps only records of its own (R421). -/
def State.traceKeeps (s : State) (h cas : Nat) : Bool :=
  s.rd .TRC_CTRL_ENABLE h 0 0 == 1 && (s.rd .TRC_CTRL_CASEMENT h 0 0 == 0 || s.rd .TRC_CTRL_CASEMENT h 0 0 == cas)

/-- The OVERRUN record of a FIFO: 0 a cluster's, 1 a compute die's, 2 a hub's (R420). -/
def overrun (time die unit lost place : Nat) : TraceRec :=
  { time := time, typ := 0x08, die := die, cas := 0, unit := unit, payload := [lost, place] }

/-- A record reaches a FIFO of `cap` records: one that does not fit is lost, and the next that fits follows an OVERRUN record (R421). -/
def fifoPush (cap place : Nat) (fifo : List TraceRec) (lost : Nat) (r : TraceRec) : List TraceRec × Nat :=
  if lost = 0 then (if fifo.length < cap then (fifo ++ [r], 0) else (fifo, 1))
  else if fifo.length + 1 < cap then (fifo ++ [overrun r.time r.die 0 lost place, r], 0)
  else (fifo, lost + 1)

def State.pushTrace (s : State) (h : Nat) (r : TraceRec) : State :=
  if s.traceKeeps h r.cas then
    let x := s.tracer h
    let f := fifoPush 4096 2 x.fifo x.lost r
    let t := s.setTracer h { x with fifo := f.1, lost := f.2 }
    if f.2 = 0 then t else t.count .TRC_STATUS_LOST 16777215 h 0 0 1
  else s

/-- A trace record of hub h. -/
def State.traceHub (s : State) (h typ cas unit : Nat) (payload : List Nat) : State :=
  s.pushTrace h { time := s.time64, typ := typ, die := h, cas := cas, unit := unit, payload := payload }

/-- Records reach the FIFO of compute die d (R419). -/
def State.pushDie (s : State) (d : Nat) (r : TraceRec) : State :=
  let x := s.tracer d
  let f := fifoPush 1024 1 x.dieFifo x.dieLost r
  let t := s.setTracer d { x with dieFifo := f.1, dieLost := f.2 }
  if f.2 = 0 then t else t.count .TRC_STATUS_LOST 16777215 d 0 0 1

/-- A trace record of compute die d goes to its die's FIFO, which forwards to the home hub (R419). -/
def State.traceDie (s : State) (d typ cas unit : Nat) (payload : List Nat) : State :=
  if s.traceKeeps d cas then s.pushDie d { time := s.time64, typ := typ, die := 4 + d, cas := cas, unit := unit, payload := payload } else s

end Sys2Proof.Machine
end

