-- ==== Sys2Proof/Machine/Ecc.lean ====
section
/-! DEFINITION. Stored-data protection: the check code, the poison word, the error log and the buckets (R244 to R256). -/

namespace Sys2Proof.Machine

/-! ## The field of R245 -/

/-- Multiply by α = 0x02 modulo x^8 + x^4 + x^3 + x^2 + 1. -/
def gfDouble (a : Nat) : Nat := if a < 128 then 2 * a else (2 * a) ^^^ 0x11D

/-- a × b: b's bits from the lowest, n of them. -/
def gfMulN : Nat → Nat → Nat → Nat
  | 0, _, _ => 0
  | n + 1, a, b => (if b % 2 = 1 then a else 0) ^^^ gfMulN n (gfDouble a) (b / 2)

def gfMul (a b : Nat) : Nat := gfMulN 8 a b

/-- α^n. -/
def gfPow : Nat → Nat
  | 0 => 1
  | n + 1 => gfDouble (gfPow n)

/-- The coefficients of g(x) below x^4, lowest first (R245). -/
def genPoly : Nat × Nat × Nat × Nat :=
  let a := gfPow 1
  let b := gfPow 2
  let c := gfPow 3
  -- (x + 1)(x + a) = x^2 + p x + q
  let p := 1 ^^^ a
  let q := a
  -- (x + b)(x + c) = x^2 + u x + v
  let u := b ^^^ c
  let v := gfMul b c
  (gfMul q v, gfMul p v ^^^ gfMul q u, v ^^^ q ^^^ gfMul p u, p ^^^ u)

/-! ## Symbols (R244) -/

/-- The value of symbol j, from its bit at each beat. -/
def dataSymbolN (data : BitVec 256) (j : Nat) : Nat → Nat
  | 0 => 0
  | t + 1 => (if data.getLsbD (8 * (4 * t + j / 8) + j % 8) then 2 ^ t else 0) + dataSymbolN data j t

def dataSymbol (data : BitVec 256) (j : Nat) : Nat := dataSymbolN data j 8

/-- The data whose symbol j takes the error value e: the bits of e spread over the beats. -/
def spreadSymbol (j e : Nat) : Nat → Nat
  | 0 => 0
  | t + 1 => (if e.testBit t then 2 ^ (8 * (4 * t + j / 8) + j % 8) else 0) + spreadSymbol j e t

def xorSymbol (data : BitVec 256) (j e : Nat) : BitVec 256 := data ^^^ BitVec.ofNat 256 (spreadSymbol j e 8)

/-- The four check symbols of a remainder register, p_0 in the low byte. -/
structure Check where
  p0 : Nat
  p1 : Nat
  p2 : Nat
  p3 : Nat
  deriving DecidableEq, Repr

/-- One data symbol enters the division by g(x), highest first. -/
def checkStep (c : Check) (d : Nat) : Check :=
  let f := d ^^^ c.p3
  let (g0, g1, g2, g3) := genPoly
  { p0 := gfMul f g0, p1 := c.p0 ^^^ gfMul f g1, p2 := c.p1 ^^^ gfMul f g2, p3 := c.p2 ^^^ gfMul f g3 }

/-- Divide the symbols n - 1 down to 0. -/
def checkN (data : BitVec 256) : Nat → Check → Check
  | 0, c => c
  | n + 1, c => checkN data n (checkStep c (dataSymbol data n))

/-- The check code of a sector (R245), p_i in bits [8i+7:8i]. -/
def checkOf (data : BitVec 256) : BitVec 32 :=
  let c := checkN data 32 ⟨0, 0, 0, 0⟩
  BitVec.ofNat 32 (c.p0 + 256 * c.p1 + 65536 * c.p2 + 16777216 * c.p3)

/-- Code position m of a received word: check symbols below 4, data symbols above (R244). -/
def codeSymbol (data : BitVec 256) (chk : BitVec 32) (m : Nat) : Nat :=
  if m < 4 then (chk.toNat / 256 ^ m) % 256 else dataSymbol data (m - 4)

/-- S_k = c(α^k), the positions n - 1 down to 0. -/
def syndromeN (data : BitVec 256) (chk : BitVec 32) (a : Nat) : Nat → Nat → Nat
  | 0, acc => acc
  | n + 1, acc => syndromeN data chk a n (gfMul acc a ^^^ codeSymbol data chk n)

def syndrome (data : BitVec 256) (chk : BitVec 32) (k : Nat) : Nat := syndromeN data chk (gfPow k) 36 0

/-- The check field of the poison word (R248); its data field is 0. -/
def poisonCheck : BitVec 32 := 0xFFFFFFFF

/-- The outcomes of R247. -/
inductive SectorOutcome where
  | clean
  | poison
  /-- Correctable: the symbol corrected and how many of its bits. -/
  | fixed (symbol bits : Nat)
  | bad
  deriving DecidableEq, Repr

def popCountN : Nat → Nat → Nat
  | 0, _ => 0
  | n + 1, x => x % 2 + popCountN n (x / 2)

/-- The symbol at a code position (R244). -/
def symbolAt (m : Nat) : Nat := if m < 4 then 32 + m else m - 4

/-- The position whose single error explains the syndromes, searched from n - 1 down. -/
def findPosition (s0 s1 s2 s3 : Nat) : Nat → Option Nat
  | 0 => none
  | n + 1 =>
    if s1 = gfMul s0 (gfPow n) ∧ s2 = gfMul s0 (gfPow (2 * n)) ∧ s3 = gfMul s0 (gfPow (3 * n)) then some n
    else findPosition s0 s1 s2 s3 n

/-- Decode a received word (R247): the outcome and the data delivered. -/
def decodeSector (data : BitVec 256) (chk : BitVec 32) : SectorOutcome × BitVec 256 :=
  let s0 := syndrome data chk 0
  let s1 := syndrome data chk 1
  let s2 := syndrome data chk 2
  let s3 := syndrome data chk 3
  if s0 = 0 ∧ s1 = 0 ∧ s2 = 0 ∧ s3 = 0 then (.clean, data)
  else if s0 = syndrome 0 poisonCheck 0 ∧ s1 = syndrome 0 poisonCheck 1 ∧ s2 = syndrome 0 poisonCheck 2 ∧
      s3 = syndrome 0 poisonCheck 3 then (.poison, 0)
  else if s0 = 0 then (.bad, 0)
  else match findPosition s0 s1 s2 s3 36 with
    | some m => (.fixed (symbolAt m) (popCountN 8 s0), if m < 4 then data else xorSymbol data (m - 4) s0)
    | none => (.bad, 0)

/-! ## Sectors in the stack -/

def State.storedData (s : State) (key : Nat) : BitVec 256 := BitVec.ofNat 256 (memReadN s.mem key 32)
def State.storedCheck (s : State) (key : Nat) : BitVec 32 := BitVec.ofNat 32 (memReadN s.mem (key + 32) 4)

/-- Write a 36-byte codeword. -/
def State.storeWord (s : State) (key : Nat) (data : BitVec 256) (chk : BitVec 32) : State :=
  { s with mem := memWriteN (memWriteN s.mem key data.toNat 32) (key + 32) chk.toNat 4 }

/-- Write a sector with a fresh code (R256). -/
def State.storeSector (s : State) (key : Nat) (data : BitVec 256) : State := s.storeWord key data (checkOf data)

/-- Write the poison word (R248). -/
def State.storePoison (s : State) (key : Nat) : State := s.storeWord key 0 poisonCheck

/-- The error pattern of a burst on a received word: data lanes, then check lanes (R244). -/
def disturb (e : BurstError) (w : BitVec 256 × BitVec 32) : BitVec 256 × BitVec 32 :=
  e.foldl (fun a x =>
    if x.1 < 32 then (xorSymbol a.1 x.1 x.2.toNat, a.2)
    else if x.1 < 36 then (a.1, a.2 ^^^ BitVec.ofNat 32 (x.2.toNat * 256 ^ (x.1 - 32)))
    else a) w

/-- What a burst read from a sector's place decodes to. -/
def State.readSector (s : State) (key : Nat) (e : BurstError) : SectorOutcome × BitVec 256 :=
  let w := disturb e (s.storedData key, s.storedCheck key)
  decodeSector w.1 w.2

/-- Sector n of a block. -/
def sectorOf (data : Block) (n : Nat) : BitVec 256 := BitVec.ofNat 256 (data.toNat / 2 ^ (256 * n))
/-- Bytes n × 32 to n × 32 + 31 of a byte mask. -/
def sectorMask (mask : BitVec 256) (n : Nat) : BitVec 32 := BitVec.ofNat 32 (mask.toNat / 2 ^ (32 * n))

/-- The new bytes merged over the old ones (R255), byte by byte. -/
def mergeBytes (old new : BitVec 256) (m : BitVec 32) : Nat → BitVec 256
  | 0 => 0
  | n + 1 =>
    let b := if m.getLsbD n then (new.toNat / 256 ^ n) % 256 else (old.toNat / 256 ^ n) % 256
    mergeBytes old new m n ||| BitVec.ofNat 256 (b * 256 ^ n)

def mergeSector (old new : BitVec 256) (m : BitVec 32) : BitVec 256 := mergeBytes old new m 32

/-! ## The hub error log (R250, R251) -/

def logCe : Nat := 1
def logCeMerge : Nat := 2
def logUe : Nat := 3
def logPoisonRead : Nat := 4
def logPoisonMerge : Nat := 5
def logLostWrite : Nat := 6
def logRefOverdue : Nat := 7
def logRetrainFail : Nat := 8
def logRepairMissing : Nat := 9

def softKind (k : Nat) : Bool := k = 1 || k = 2

def State.logAt (s : State) (h e : Nat) : Option LogEnt := Tab.get none s.logs (h * 32 + e)
def State.setLog (s : State) (h e : Nat) (x : Option LogEnt) : State := { s with logs := Tab.put none s.logs (h * 32 + e) x }

/-- Whether two events have the same KIND and place. -/
def sameEvent (a b : LogEnt) : Bool :=
  a.kind = b.kind && a.pc = b.pc && a.bank = b.bank && a.row = b.row && a.col = b.col

/-- The soft entry that R251 replaces: lowest COUNT, then oldest TIME, then lowest index. -/
def State.softest (s : State) (h : Nat) : Option (Nat × LogEnt) :=
  (List.range 32).foldl (fun best e =>
    match s.logAt h e with
    | some x =>
      if softKind x.kind then
        match best with
        | some (_, y) => if x.count < y.count || (x.count = y.count && decide (x.time < y.time)) then some (e, x) else best
        | none => some (e, x)
      else best
    | none => best) none

/-- An event is entered at index e: the trace records it (R420). -/
def State.logPut (s : State) (h e : Nat) (x : LogEnt) : State :=
  ((s.setLog h e (some x)).note .ECC_LOG_LOC_VALID h e 0 1).traceHub h 0x0C x.cas x.pc [x.kind, e]

/-- No entry can take an event: it is dropped (R251). -/
def State.logDrop (s : State) (h : Nat) : State :=
  (s.count .ECC_LOG_STATUS_DROPPED top16 h 0 0 1).flag .ECC_INT_STATUS_LOG_DROP h 0 0

/-- An event enters the log of hub h, or is dropped (R251). -/
def State.logEvent (s : State) (h : Nat) (ev : LogEnt) : State :=
  let ev := { ev with count := 1, time := s.time64 % 2 ^ 48 }
  match (List.range 32).find? fun e => match s.logAt h e with | some x => sameEvent x ev | none => false with
  | some e =>
    match s.logAt h e with
    | some x => s.logPut h e { x with count := Nat.min 255 (x.count + 1), time := ev.time }
    | none => s
  | none =>
    match (List.range 32).find? fun e => (s.logAt h e).isNone with
    | some e => s.logPut h e ev
    | none =>
      match s.softest h with
      | some (e, x) =>
        if softKind ev.kind && decide (1 < x.count) then s.logDrop h else s.logPut h e ev
      | none => s.logDrop h

/-- The log entry of an event at a sector of a request. -/
def eventAt (kind : Nat) (r : Req) (n symbol bits : Nat) : LogEnt :=
  { kind := kind, pc := r.pc, bank := r.bank, row := r.row, col := r.col + n, symbol := symbol, bits := bits, count := 1,
    cas := r.cas, pane := some r.pane, time := 0 }

/-- The log entry of an event of a pseudo-channel with no request. -/
def eventOfPc (kind p bank row : Nat) : LogEnt :=
  { kind := kind, pc := p, bank := bank, row := row, col := 0, symbol := 63, bits := 0, count := 1, cas := 0, pane := none, time := 0 }

/-! ## Counters and buckets (R249, R252) -/

def State.level (s : State) (h p : Nat) : Nat := Tab.get 0 s.levels (pcKey h p)

/-- A correctable sector raises the bucket; at capacity it overflows (R252). -/
def State.bucketUp (s : State) (h p : Nat) (policy : Bool) : State :=
  if s.level h p < (s.eccCfg h).capacity then
    { s with levels := Tab.put 0 s.levels (pcKey h p) (s.level h p + 1) }
  else
    let t := s.setBit .ECC_BUCKET_OVF_PCS h (p / 32) 0 (p % 32)
    if policy then t.flag .ECC_INT_STATUS_BUCKET h 0 0 else t

/-- A read sector's outcome is counted, logged and signalled (R249, R250, R252, R254). -/
def State.noteRead (s : State) (r : Req) (n : Nat) (o : SectorOutcome) : State :=
  match o with
  | .clean => s
  | .fixed sym bits =>
    (((s.count .ECC_CNT_CE top16 r.hub r.pc 0 1).tally r.hub 0x0E (some r.pc) [0] (some r.cas) 1).logEvent r.hub (eventAt logCe r n sym bits)).bucketUp r.hub r.pc r.bucket
  | .bad =>
    (((s.count .ECC_CNT_UE top16 r.hub r.pc 0 1).tally r.hub 0x0E (some r.pc) [1] (some r.cas) 1).logEvent r.hub (eventAt logUe r n 63 0)).flag .ECC_INT_STATUS_UE r.hub 0 0
  | .poison =>
    (((s.count .ECC_CNT_UE top16 r.hub r.pc 0 1).tally r.hub 0x0E (some r.pc) [1] (some r.cas) 1).logEvent r.hub (eventAt logPoisonRead r n 63 0)).flag .ECC_INT_STATUS_POISON r.hub 0 0

/-- The same for a sector that a read-modify-write reads (R250, R255). -/
def State.noteMerge (s : State) (r : Req) (n : Nat) (o : SectorOutcome) : State :=
  match o with
  | .clean => s
  | .fixed sym bits =>
    (((s.count .ECC_CNT_CE top16 r.hub r.pc 0 1).tally r.hub 0x0E (some r.pc) [0] (some r.cas) 1).logEvent r.hub (eventAt logCeMerge r n sym bits)).bucketUp r.hub r.pc r.bucket
  | .bad =>
    (((s.count .ECC_CNT_UE top16 r.hub r.pc 0 1).tally r.hub 0x0E (some r.pc) [1] (some r.cas) 1).logEvent r.hub (eventAt logPoisonMerge r n 63 0)).flag .ECC_INT_STATUS_UE r.hub 0 0
  | .poison =>
    (((s.count .ECC_CNT_UE top16 r.hub r.pc 0 1).tally r.hub 0x0E (some r.pc) [1] (some r.cas) 1).logEvent r.hub (eventAt logPoisonMerge r n 63 0)).flag .ECC_INT_STATUS_POISON r.hub 0 0

/-- The leak timer of hub h expires: every non-zero level falls by one (R252). -/
def State.leak (s : State) (h : Nat) : State :=
  { s with levels := (List.range 96).foldl (fun l p => Tab.put 0 l (pcKey h p) (Tab.get 0 l (pcKey h p) - 1)) s.levels }

/-- BUCKET_LEAK: where the timer of LEAK_MS has expired, the levels fall and it runs again. -/
def State.leakDue (s : State) (h : Nat) : State :=
  let n := Tab.get 0 s.leakAt h + Config.msTicks (s.eccCfg h).leakMs
  if s.hubIn h ∧ n ≤ s.now then { s.leak h with leakAt := Tab.put 0 s.leakAt h n } else s

end Sys2Proof.Machine
end

