-- ==== Sys2Proof/Machine/Operands.lean ====
section
/-! DEFINITION. From a device physical address to a pane, a pseudo-channel, a bank, a row and a column, and the six checks at decode (chapter 06). -/

namespace Sys2Proof.Machine

/-! ## Digits (R116 to R119) -/

/-- The set bits of a PC_MASK ranked by the key 4p + h (R117): the pseudo-channels h:p in rank order. -/
def rankedPcs (mask : BitVec 384) : List (Nat × Nat) :=
  (List.range 96).flatMap fun p => allHubs.filterMap fun h => if mask.getLsbD (96 * h + p) then some (h, p) else none

/-- The number of trailing zero bits, at most n. -/
def trailingZeros : Nat → Nat → Nat
  | 0, _ => 0
  | n + 1, x => if x % 2 = 0 then 1 + trailingZeros n (x / 2) else 0

/-- The place of a byte within the package (R118). -/
structure Place where
  hub : Nat
  pc : Nat
  bank : Nat
  row : Nat
  col : Nat
  deriving DecidableEq, Repr

/-- The digits of a pane offset (R116): rank i, column-high digit, bank digit b, pane-relative row r. -/
structure Digits where
  i : Nat
  ch : Nat
  b : Nat
  r : Nat
  deriving DecidableEq, Repr

/-- m of chapter 06: banks covered by a granule. -/
def granBanks (gb c : Nat) : Nat := if gb ≤ c then 1 else gb / c

/-- Radix of CH; 1 where the digit is absent. -/
def chRadix (gb c : Nat) : Nat := if gb ≤ c then c / gb else 1

/-- The digits of X for an ORDER (R116), before any fold.  n, banks, c: N, B and C. -/
def digitsOf (order gb n banks c x : Nat) : Digits :=
  let bm := banks / granBanks gb c
  let k := chRadix gb c
  match order with
  | 1 => { b := x % bm, i := x / bm % n, ch := x / bm / n % k, r := x / bm / n / k }
  | 2 =>
    { b := x / 8 % bm, i := x / 8 / bm % n, ch := x / 8 / bm / n % k, r := 8 * (x / 8 / bm / n / k) + x % 8 }
  | _ => { i := x % n, ch := x / n % k, b := x / n / k % bm, r := x / n / k / bm }

/-- Replace the low `a` bits of v by their XOR with f (R119). -/
def foldLow (a v f : Nat) : Nat := v / 2 ^ a * 2 ^ a + (v % 2 ^ a ^^^ f % 2 ^ a)

/-- Where offset `o` of a pane lies (R116 to R119), before ROW_FIRST is added. -/
def locate (order gb n banks c o : Nat) : Digits × Nat :=
  let w := o % gb
  let d := digitsOf order gb n banks c (o / gb)
  let bank := if gb ≤ c then d.b else w / c + granBanks gb c * d.b
  let byte := if gb ≤ c then d.ch * gb + w else w % c
  if order = 3 then
    let f := d.r ^^^ (d.r / 256)
    let ab := trailingZeros 8 banks
    let ap := trailingZeros 10 n
    ({ d with b := foldLow ab bank f, i := foldLow ap d.i (f / 2 ^ ab) }, byte)
  else ({ d with b := bank }, byte)

/-- Banks and row bytes of a pane's stacks: those of its first pseudo-channel (R48 makes them agree). -/
def State.paneGeom (s : State) (p : PaneDef) : Nat × Nat :=
  match rankedPcs p.mask with
  | (h, c) :: _ => (s.banksOf h c, s.rowBytes h c)
  | [] => (48, 1024)

/-- The place of the byte at a device physical address in a pane (R116 to R119). -/
def State.placeIn (s : State) (p : PaneDef) (addr : Nat) : Place :=
  let g := s.paneGeom p
  let d := locate p.order (2 ^ p.granLog2) p.pcCount g.1 g.2 (addr - p.base)
  let hp := (rankedPcs p.mask).getD d.1.i (0, 0)
  { hub := hp.1, pc := hp.2, bank := d.1.b, row := p.rowFirst + d.1.r, col := d.2 / 32 }

/-- The panes whose range holds an address; none holds one at or above 2^48 (R122). -/
def State.panesAt (s : State) (addr : Nat) : List PaneDef :=
  if 2 ^ 48 ≤ addr then [] else s.panes.filter fun p => decide (p.base ≤ addr) && decide (addr < p.base + p.size)

/-- The hub that owns an address; the lowest-numbered present hub for an address in no pane (R113). -/
def State.owningHub (s : State) (addr : Nat) : Nat :=
  match s.panesAt addr with
  | [p] => (s.placeIn p addr).hub
  | _ => s.firstHub

/-! ## The checks of R113 -/

/-- Why decode refuses a request: the check that fails. -/
inductive DecodeRefusal where
  | noPane | quiesced | notOwner | override | closed | fenced
  deriving DecidableEq, Repr

/-- The status of a refused engine command (R113). -/
def DecodeRefusal.status : DecodeRefusal → Status
  | .closed => .thermalClosed
  | .fenced => .fenced
  | _ => .denied

/-- HUB_DECODE_ERR.REASON. -/
def DecodeRefusal.reason : DecodeRefusal → Nat
  | .noPane => 1
  | .quiesced => 2
  | .notOwner => 3
  | .override => 4
  | _ => 0

/-- A stack's closure as die number `d` knows it (R283). -/
def State.knowsClosed (s : State) (d h st : Nat) : Bool := Tab.get false s.closed (d * 12 + 3 * h + st)

/-- Bytes of a request. -/
def Req.bytes (r : Req) : Nat := if r.sector then 32 else 256

/-- Whether any byte of [a, a + n) lies in a fence entry (R258). -/
def State.fenced (s : State) (a n : Nat) : Bool :=
  s.fences.any fun e => decide (e.2.1 < a + n) && decide (a < e.2.1 + e.2.2)

/-- OVERLAP of set st of group g (R125): a pane entry of the set shares a pseudo-channel row with an entry of the active set. -/
def rowsMeet (a b : PaneDef) : Bool :=
  (a.mask &&& b.mask) != 0 && decide (a.rowFirst < b.rowFirst + b.rowCount) && decide (b.rowFirst < a.rowFirst + a.rowCount)

def State.overlap (s : State) (g st : Nat) : Bool :=
  if s.activeSet g = st then false
  else match layoutIn s.layouts g st, layoutIn s.layouts g (s.activeSet g) with
    | some x, some y => x.entries.any fun a => y.entries.any fun b => rowsMeet a b
    | _, _ => false

/-- The pane entry by which a request decodes: the definition in force, or the override's (R124). -/
def State.overrideDef (s : State) (p : PaneDef) (st : Nat) : Option PaneDef :=
  match p.group with
  | none => none
  | some g =>
    if s.activeSet g = st || s.overlap g st then none
    else (layoutIn s.layouts g st).bind fun l => l.entries.find? fun e => e.id = p.id

/-- What a requester presents at decode: the request with its place still open, the layout-set override, and whether its engine may carry one (R124). -/
structure Offer where
  r : Req
  ovr : Option Nat
  ovrMay : Bool
  deriving DecidableEq, Repr

/-- MAINT requests of the HUB engine and of the management core reach every pane (R115). -/
def Req.maint (r : Req) : Bool := r.cls == .maint

/-- The checks of R113 in order at hub h: the first that fails, or the request with its place. -/
def State.decode (s : State) (h : Nat) (o : Offer) : DecodeRefusal ⊕ Req :=
  match s.panesAt o.r.addr with
  | [p] =>
    if (s.rd .IMG_QUIESCE_PANES 0 0 0).testBit p.id then .inl .quiesced
    else if !o.r.maint && o.r.cas != p.cas then .inl .notOwner
    else
      match (match o.ovr with
        | none => some p
        | some st => if o.ovrMay then s.overrideDef p st else none) with
      | none => .inl .override
      | some e =>
        let pl := s.placeIn e o.r.addr
        if s.knowsClosed h pl.hub (stackOf pl.pc) then .inl .closed
        else if !o.r.maint && s.fenced o.r.addr o.r.bytes then .inl .fenced
        else .inr { o.r with pane := p.id, guarded := e.guarded, bucket := e.bucket, home := h,
                             hub := pl.hub, pc := pl.pc, bank := pl.bank, row := pl.row, col := pl.col }
  | _ => .inl .noPane

/-- A refusal is recorded at the hub that made it (R114, R258, R283). -/
def State.recordRefusal (s : State) (h door : Nat) (r : Req) (x : DecodeRefusal) : State :=
  let s := s.tally h 0x10 none [] (some r.cas) 1
  match x with
  | .closed => s.count .THM_CLOSED_CNT_COUNT top32 h 0 0 1
  | .fenced =>
    let t := (s.count .ECC_FENCE_CNT_COUNT top32 h 0 0 1).flag .ECC_INT_STATUS_FENCE_HIT h 0 0
    if t.bit .ECC_FENCE_HIT_VALID h 0 0 then t
    else ((t.wr .ECC_FENCE_HIT_ADDR h 0 0 r.addr).wr .ECC_FENCE_HIT_CASEMENT h 0 0 r.cas).flag .ECC_FENCE_HIT_VALID h 0 0
  | _ =>
    let t := s.count .HUB_DECODE_CNT_COUNT top32 h 0 0 1
    if t.bit .HUB_DECODE_ERR_VALID h 0 0 then t
    else
      ((((t.wr .HUB_DECODE_ERR_ADDR h 0 0 (r.addr % 2 ^ 48)).wr .HUB_DECODE_ERR_CASEMENT h 0 0 r.cas).wr
        .HUB_DECODE_ERR_DOOR h 0 0 door).wr .HUB_DECODE_ERR_REASON h 0 0 x.reason).flag .HUB_DECODE_ERR_VALID h 0 0

/-! ## Pins (R441) -/

/-- Whether the PINS frame leaves ball row.column its function. -/
def State.pinLive (s : State) (row col : Nat) : Bool :=
  match (s.frameFor 8 FrameBody.asPins).bind fun l => l.find? fun e => e.row = row && e.col = col with
  | some e => e.func != 0
  | none => true

/-- Both PMBus balls keep their function: CMP_OFF can be enabled (R220). -/
def State.pmbusLive (s : State) : Bool := s.pinLive 64 20 && s.pinLive 64 21

/-! ## Source groups (R132) -/

/-- The source group of a casement at a door: its DOOR_SRC_MAP entry where DOOR_SRC_VALID counts it. -/
def State.sourceGroup (s : State) (h d : Nat) (r : Req) : Option Nat :=
  if r.maint then none
  else match (s.frameFor h FrameBody.asDoorMap).bind fun l => l[d]? with
    | some c => if c.srcValid.getLsbD r.cas then some (c.srcMap.getD r.cas 0) else none
    | none => none

/-- The louvre slot of a door that carries a source group (R132). -/
def State.slotOf (s : State) (h d g : Nat) : Option Nat :=
  (List.range 16).find? fun k =>
    (s.rd .LVR_SLOT_CFG_VALID h d k == 1) && (s.rd .LVR_SLOT_CFG_SRC_GROUP h d k == g)

/-- DOOR_CFG.MODE (R139, R141). -/
def State.doorFirm (s : State) (h d : Nat) : Bool :=
  match (s.frameFor h FrameBody.asDoorMap).bind fun l => l[d]? with
  | some c => c.firm
  | none => false

def State.doorCfg (s : State) (h d : Nat) : Option DoorCfg :=
  (s.frameFor h FrameBody.asDoorMap).bind fun l => l[d]?

end Sys2Proof.Machine
end

