-- ==== Sys2Proof/Machine/Doors.lean ====
section
/-! DEFINITION. The sash ring, the doors, the louvres and the door arbiter (chapter 07; R18 to R21). -/

namespace Sys2Proof.Machine

/-! ## Credits (R129) -/

/-- Entries of a door in use: its buffer and what has been sent to it on a credit. -/
def DoorSt.inUse (x : DoorSt) : List Req := x.transit ++ x.buf.map (·.r)

/-- Classes of the entries that count against a door's credits: what is in use, what left in this very CCLK (R169), and what the ring carries on a credit of the door (R424). -/
def State.ringBound (s : State) (h d : Nat) : List Req :=
  if d = 0 ∨ 3 < d then []
  else s.ring.flatMap fun x => x.2.filter fun r => r.hub == h && (r.home + 4 - h) % 4 == d && r.home != x.1 / 2

def State.creditUse (s : State) (h d : Nat) : List ReqClass :=
  (s.door h d).inUse.map (·.cls) ++ ((s.door h d).popped.filter fun x => x.1 == s.cyc).map (·.2) ++ (s.ringBound h d).map (·.cls)

def countCls (l : List ReqClass) (c : ReqClass) : Nat := (l.filter fun x => x == c).length

/-- Whether a door holds a credit that a request of a class may take: reserved entries serve their class, the rest is shared (R129).  A masked door offers none (R145). -/
def State.doorRoom (s : State) (h d : Nat) (c : ReqClass) : Bool :=
  let cfg := s.doorCfg h d
  let u := (cfg.map (·.urgentCred)).getD 0
  let m := (cfg.map (·.maintCred)).getD 0
  let l := s.creditUse h d
  let nu := countCls l .urgent + (if c = .urgent then 1 else 0)
  let nm := countCls l .maint + (if c = .maint then 1 else 0)
  let no := l.length - countCls l .urgent - countCls l .maint + (if c = .urgent ∨ c = .maint then 0 else 1)
  !(s.door h d).masked && decide (no + (nu - u) + (nm - m) + u + m ≤ Config.doorEntries d)

/-- Requests leave a door's buffer in CCLK `now`: their credits return (R129, R169). -/
def DoorSt.release (x : DoorSt) (now : Nat) (gone : Req → Bool) : DoorSt :=
  { x with buf := x.buf.filter (fun e => !gone e.r),
           popped := (x.popped.filter fun y => y.1 == now) ++ ((x.buf.filter fun e => gone e.r).map fun e => (now, e.r.cls)) }

/-- Send a request to a door on a credit. -/
def State.sendDoor (s : State) (h d : Nat) (r : Req) : State :=
  let x := s.door h d
  s.setDoor h d { x with transit := x.transit ++ [r] }

/-! ## The ring (R18 to R21) -/

/-- The direction of a request's first hop: 0 ascending, 1 descending (R19). -/
def ringDirOf (g h p : Nat) : Nat :=
  match (h + 4 - g) % 4 with
  | 1 => 0
  | 3 => 1
  | _ => p % 2

/-- The door of a ring arrival (R18). -/
def ringDoor (g h : Nat) : Nat := (g + 4 - h) % 4

def ringKey (h dir : Nat) : Nat := 2 * h + dir
def State.ringAt (s : State) (h dir : Nat) : List Req := Tab.get [] s.ring (ringKey h dir)
def State.setRing (s : State) (h dir : Nat) (l : List Req) : State := { s with ring := Tab.put [] s.ring (ringKey h dir) l }

/-- The link a port of hub h faces, and the hub on its other side. -/
def portLink (h dir : Nat) : Nat := if dir = 0 then h else (h + 3) % 4
def portPeer (h dir : Nat) : Nat := if dir = 0 then (h + 1) % 4 else (h + 3) % 4

/-- A decoded request leaves decode at its home hub: to its door, or to the ring port (chapter 07).
Requests of D0 for another hub wait in D0; those of the hub's own engines go to the ring port. -/
def State.dispatchReq (s : State) (door : Nat) (r : Req) : State :=
  if r.hub = r.home ∨ door = 0 then s.sendDoor r.home door r
  else
    let dir := ringDirOf r.home r.hub r.pc
    s.setRing r.home dir (s.ringAt r.home dir ++ [r])

/-- Requests that D0 holds for another hub, by the port they leave through (chapter 07). -/
def State.doorWaiters (s : State) (h dir : Nat) : List DoorEnt :=
  (s.door h 0).buf.filter fun e => e.r.hub != h && ringDirOf e.r.home e.r.hub e.r.pc == dir

/-- A request that has not left its home hub may go once the ring door it is bound for has a credit (R129, R424). -/
def State.ringCredit (s : State) (r : Req) : Bool := s.doorRoom r.hub (ringDoor r.home r.hub) r.cls

/-- What a ring port of hub h may send on now: forwarded requests, which hold their credit, the hub's own, and those of D0, whose reads stay at PF1 (R19, R134; R169). -/
def State.portWaiters (s : State) (h dir : Nat) : List Req :=
  ((s.ringAt h dir).filter fun r => r.hopAt != s.cyc + 1 && (r.home != h || s.ringCredit r)) ++
  ((s.doorWaiters h dir).filter fun e => e.arrC != s.cyc && (!(s.pf1 || s.draining) || e.r.write) && s.ringCredit e.r).map (·.r)

/-- Everything that stands at a port. -/
def State.portAll (s : State) (h dir : Nat) : List Req := s.ringAt h dir ++ (s.doorWaiters h dir).map (·.r)

/-- URGENT before the others; within a class in order (R19, R427). -/
def firstUrgent (l : List Req) : Option Req :=
  match l.find? fun r => r.cls == .urgent with
  | some r => some r
  | none => l.head?

/-- Take a request out of a ring port or of D0. -/
def State.takePort (s : State) (h dir : Nat) (r : Req) : State :=
  let t := s.setRing h dir ((s.ringAt h dir).filter fun x => x.id != r.id)
  t.setDoor h 0 ((t.door h 0).release s.cyc fun x => x.id == r.id)

/-- One hop over the ring (R19); the arrival door's credit is already held.  During a hinge the ports inject nothing new, and forwarded flits go on (R210 step 1). -/
def State.ringHop (s : State) (h dir : Nat) : State :=
  let l := (s.portWaiters h dir).filter fun r => s.hinge.step == 0 || r.home != h
  match firstUrgent l with
  | none => s
  | some r =>
    let k := s.link (portLink h dir)
    if k.failed then (s.takePort h dir r).finishBare r .halted
    else if !k.up then s
    else
      let n := portPeer h dir
      let t := (s.takePort h dir r).tally h 0x11 none [dir] none 1
      if r.hub = n then t.sendDoor n (ringDoor r.home n) { r with hopAt := 0 }
      else t.setRing n dir (t.ringAt n dir ++ [{ r with hopAt := s.cyc + 1 }])

/-- Successive failed retries of one flit after one more try: a good copy ends the streak (R21). -/
def streakAfter (n : Nat) (ok : Bool) : Nat := if ok then 0 else Nat.min 16 (n + 1)

/-- A flit that hub h sends from its port of a direction is retried (R21); each direction of a link counts its own flit. -/
def State.linkRetry (s : State) (h dir : Nat) (ok : Bool) : State :=
  let i := portLink h dir
  let k := s.link i
  if !k.up then s
  else if dir = 0 then s.setLink i { k with streak := streakAfter k.streak ok }
  else s.setLink i { k with streakBack := streakAfter k.streakBack ok }

/-- Requests at a ring port whose route crosses link i. -/
def usesLink (i : Nat) (r : Req) : Bool := (ringRoute r.home r.hub r.pc).contains i

/-- Every ring port and every D0 gives up the requests routed over link i; they end with HALTED (R21). -/
def State.dropLinkUsers (s : State) (i : Nat) : State :=
  allHubs.foldl (fun t h =>
    [0, 1].foldl (fun t dir =>
      ((t.portAll h dir).filter (usesLink i)).foldl (fun t r => (t.takePort h dir r).finishBare r .halted) t) t) s

/-- Link i is marked down by both hubs (R21); it returns only after a cold reset. -/
def State.failLink (s : State) (i : Nat) : State :=
  let t := s.setLink i { s.link i with up := false, failed := true }
  let t := (t.flag .HUB_INT_STATUS_RING_LINK_DOWN i 0 0).flag .HUB_INT_STATUS_RING_LINK_DOWN ((i + 1) % 4) 0 0
  t.dropLinkUsers i

/-- Step 7 of a hinge, in the tick of the switch: the phase step of a link may fail (R212). -/
def State.atPhaseStep (s : State) : Bool := s.hinge.step == 8 && s.hinge.switchAt == some s.now

/-- RING_LINK_DOWN: 16 retries of one flit in succession have failed (R21), or the link's phase step (R212). -/
def State.linkDown (s : State) (i : Nat) : State :=
  let k := s.link i
  if k.up && (decide (16 ≤ k.streak) || decide (16 ≤ k.streakBack) || s.atPhaseStep) then s.failLink i else s

/-! ## Arrival at a door (R129, R131) -/

/-- The first request in transit enters the door buffer.  A masked door accepts nothing (R145), and at PF2 only writes that were already on the wires of Aksal or the ring still arrive (R63, R146, R407); a request for a stack closed meanwhile is refused (R283). -/
def State.doorArrival (s : State) (h d latch : Nat) : State :=
  let x := s.door h d
  match x.transit with
  | [] => s
  | r :: rest =>
    if x.masked || (s.draining && (!r.write || decide (4 ≤ d))) || !s.clk.run then s
    else
      let t := s.setDoor h d { x with transit := rest }
      if s.knowsClosed h r.hub (stackOf r.pc) then
        (t.count .THM_CLOSED_CNT_COUNT top32 h 0 0 1).finishBare r .thermalClosed
      else
        let e : DoorEnt := { r := { r with latch := latch }, grp := if r.hub = h then s.sourceGroup h d r else none,
                             arrT := s.time64, arrC := s.cyc }
        t.setDoor h d { x with transit := rest, buf := x.buf ++ [e] }

/-! ## Louvres (R132 to R134, R282) -/

def Hold.isLatch : Hold → Bool
  | .latch _ _ _ _ => true
  | _ => false

/-- The blocks of a latch still to be admitted. -/
def Hold.blocks : Hold → List Nat
  | .latch _ _ _ l => l
  | _ => []

/-- A door serves pseudo-channel p in CCLK `now` (R137). -/
def DoorSt.serve (x : DoorSt) (now p : Nat) : DoorSt :=
  if x.servedAt = now then
    { x with served := x.served + 1, lastPc := if (x.lastPc + 95 - x.rotFrom) % 96 < (p + 95 - x.rotFrom) % 96 then p else x.lastPc }
  else { x with rotFrom := x.lastPc, lastPc := p, servedAt := now, served := 1 }

/-- Units of 32 bytes that a request charges (R133). -/
def Req.units (r : Req) : Nat := if r.sector then 1 else 8

/-- Whether a slot's remainders cover a request (R133, R282). -/
def LouvreSt.covers (l : LouvreSt) (r : Req) : Bool :=
  match r.cls with
  | .urgent => decide (r.units ≤ l.urg + l.gen)
  | .collective => decide (r.units ≤ l.coll + l.gen)
  | _ => decide (r.units ≤ l.gen)

/-- Charge a request; a remainder's least value is 0. -/
def LouvreSt.charge (l : LouvreSt) (r : Req) : LouvreSt :=
  match r.cls with
  | .urgent => { l with urg := l.urg - r.units, gen := l.gen - (r.units - l.urg) }
  | .collective => { l with coll := l.coll - r.units, gen := l.gen - (r.units - l.coll) }
  | _ => { l with gen := l.gen - r.units }

/-- The slot that regulates a buffered request, if any. -/
def State.regulator (s : State) (h d : Nat) (e : DoorEnt) : Option Nat := e.grp.bind (s.slotOf h d)

/-- A request passes its louvre; at PF2 none holds the draining writes (R146). -/
def State.louvrePasses (s : State) (h d : Nat) (e : DoorEnt) : Bool :=
  match s.regulator h d e with
  | some k => s.draining || (s.lvr h d k).covers e.r
  | none => true

def State.louvreCharge (s : State) (h d : Nat) (e : DoorEnt) : State :=
  match s.regulator h d e with
  | some k => s.setLvr h d k ((s.lvr h d k).charge e.r)
  | none => s

/-- A window of slot k begins: the remainders of the hub's tier (R133, R282); a rise that the slew limiter delays gives no more than the window before (R67). -/
def State.louvreWindow (s : State) (h d k : Nat) : State :=
  let l := s.lvr h d k
  if (s.rd .LVR_SLOT_CFG_VALID h d k == 1) && decide (l.start + l.len ≤ s.cyc) && s.clk.run && decide (s.hinge.step < 5) then
    let a := s.tierAction h (s.hubTier h)
    let b := s.rd .LVR_BUDGET_UNITS h d k
    let tier := s.hubTier h
    let full := if tier = 0 then b else b * a.genShare / 16
    let gen := if l.len != 0 && s.riseHeld then Nat.min full l.top else full
    s.setLvr h d k
      { gen := gen, top := gen,
        coll := if tier = 0 then 0 else b * a.collShare / 16,
        urg := s.rd .LVR_URGENT_UNITS h d k,
        start := if l.len = 0 then s.cyc else l.start + l.len,
        len := s.rd .LVR_SLOT_WINDOW_CYCLES h d k }
  else s

/-! ## The door arbiter (R135 to R144) -/

/-- Entries of a reserve counted as they stand at the start of the CCLK (R150). -/
def PcSt.held (x : PcSt) (now : Nat) (v : Reserve) : Nat :=
  (x.queue.filter fun e => e.res == v).length + (x.freed.filter fun f => decide (now ≤ f.1) && f.2.1 == v).length

/-- Entries in use, counted alike. -/
def PcSt.depth (x : PcSt) (now : Nat) : Nat := x.queue.length + (x.freed.filter fun f => decide (now ≤ f.1)).length

/-- Transom entries, counted alike (R159). -/
def PcSt.heldTransom (x : PcSt) (now : Nat) : Nat :=
  (x.queue.filter fun e => e.r.sector).length + (x.freed.filter fun f => decide (now ≤ f.1) && f.2.2).length

/-- The reserve a request would take in a queue, by R135. -/
def PcSt.room (x : PcSt) (now : Nat) (r : Req) : Option Reserve :=
  let n (v : Reserve) := x.held now v
  if r.sector && decide (32 ≤ x.heldTransom now) then none
  else if n .shared < 122 then some .shared
  else if r.cls = .urgent && decide (n .urgent < 4) then some .urgent
  else if r.cls = .maint && decide (n .maint < 2) then some .maint
  else none

/-- The entries of a door for pseudo-channel p in arrival order. -/
def State.listFor (s : State) (h d p : Nat) : List DoorEnt :=
  (s.door h d).buf.filter fun e => e.r.hub == h && e.r.pc == p

/-- The source-group lists' heads (R131): an entry with no earlier entry of its group. -/
def groupHeadsN : List (Option Nat) → List DoorEnt → List DoorEnt
  | _, [] => []
  | seen, e :: t => if seen.contains e.grp then groupHeadsN seen t else e :: groupHeadsN (e.grp :: seen) t

def groupHeads (l : List DoorEnt) : List DoorEnt := groupHeadsN [] l

/-- Every block of a latch is in the buffer (R142). -/
def latchReady (l : List DoorEnt) (e : DoorEnt) : Bool :=
  e.r.latch ≤ 1 || decide (e.r.latch ≤ (l.filter fun x => x.grp == e.grp).length)

/-- What may enter now, louvres apart: no read at PF1 (R134), MAINT only where halted (R237), nothing before the pause of R284. -/
def State.mayEnter (s : State) (h p : Nat) (r : Req) : Bool :=
  (!(s.pf1 || s.draining) || r.write) && (!(s.pc h p).trnHalted || r.cls == .maint) && !(s.pc h p).reopen

/-- An entry that arrived in this CCLK leaves its buffer from the next one on (R169). -/
def State.settledEnt (s : State) (e : DoorEnt) : Bool := e.arrC != s.cyc

/-- The candidate of door d for pseudo-channel p: the oldest head that the louvre passes (R131). -/
def State.candidate (s : State) (h p d : Nat) : Option DoorEnt :=
  let l := s.listFor h d p
  (groupHeads l).find? fun e => s.settledEnt e && s.mayEnter h p e.r && latchReady l e && s.louvrePasses h d e

/-- DARB_PRIO of a pane at a door, as pseudo-channel p judges it (R144). -/
def State.prioOf (s : State) (h p d : Nat) (r : Req) : Nat :=
  let v := match (s.arb h p).prioOld.find? fun x => x.1 = r.pane ∧ (x.2.2 = s.cyc ∨ (s.arb h p).hold.isLatch) with
    | some x => x.2.1
    | none => s.rd .DARB_PRIO_DOOR_PRIO h r.pane 0
  v / 16 ^ d % 16

/-- Rules 3 and 4 of R136: a beats b. -/
def State.beats (s : State) (h p : Nat) (a b : Nat × DoorEnt) : Bool :=
  let ua := a.2.r.cls == .urgent
  let ub := b.2.r.cls == .urgent
  if ua != ub then ua else decide (s.prioOf h p b.1 b.2.r < s.prioOf h p a.1 a.2.r)

/-- Distance of a door from the one last admitted, in rotation order (R136 rule 6). -/
def rotation (last d : Nat) : Nat := (d + 8 - last) % 9

/-- Rules 3 to 6 of R136 among the candidates. -/
def State.winner (s : State) (h p : Nat) (cs : List (Nat × DoorEnt)) : Option (Nat × DoorEnt) :=
  let best := cs.filter fun a => cs.all fun b => !s.beats h p b a
  let one := ((s.pc h p).held s.cyc .shared == 121)
  if one then best.head?
  else best.foldl (fun w a =>
    match w with
    | none => some a
    | some b => if rotation (s.arb h p).last a.1 < rotation (s.arb h p).last b.1 then some a else some b) none

def State.candidates (s : State) (h p : Nat) : List (Nat × DoorEnt) :=
  (List.range 9).filterMap fun d => (s.candidate h p d).map fun e => (d, e)

/-- The next block of a run: the head of its list with the same transfer tag and row (R138). -/
def State.runNext (s : State) (h p d : Nat) (run : RunRecord) : Option DoorEnt :=
  match (s.listFor h d p).find? fun e => e.grp == run.grp with
  | some e =>
    if e.r.cls == .bulk && e.r.xfer == run.xfer && e.r.row == run.row && e.r.bank == run.bank && e.r.latch == 0 && s.settledEnt e then some e else none
  | none => none

/-- A run's next block is held: by its louvre, at PF1, by a halt, or until a reopened stack's pause (R62, R133, R237, R284). -/
def State.runHeld (s : State) (h p d : Nat) (e : DoorEnt) : Bool := !(s.mayEnter h p e.r && s.louvrePasses h d e)

def sameRun (a b : RunRecord) : Bool := a.pc == b.pc && a.xfer == b.xfer && a.row == b.row && a.bank == b.bank && a.grp == b.grp

/-- A run ends: its progress record is freed (R140). -/
def State.endRun (s : State) (h p d : Nat) (run : RunRecord) : State :=
  let x := s.door h d
  (s.setDoor h d { x with records := x.records.filter fun y => !sameRun y run }).setArb h p { s.arb h p with hold := .none }

/-- A run is preempted (R139): its progress is recorded. -/
def State.preempt (s : State) (h p d : Nat) (run : RunRecord) : State :=
  let x := s.door h d
  let t := s.setDoor h d { x with records := (x.records.filter fun y => !sameRun y run) ++ [run] }
  ((t.count .DOOR_PREEMPT_CNT_COUNT top32 h d 0 1).tally h 0x08 none [d] none 1).setArb h p { s.arb h p with hold := .none }

/-- Latch limit of the hub (R142); 64 with no ARBITER frame in force. -/
def State.latchLimit (s : State) (h : Nat) : Nat :=
  ((s.frameFor h FrameBody.asArbiter).map (·.latchLimit)).getD 64

/-- What holds the pseudo-channel after block e of door d is admitted (R138, R142). -/
def State.holdAfter (s : State) (h p d : Nat) (e : DoorEnt) : Hold :=
  match (s.arb h p).hold with
  | .latch d' g c l => if l.tail.isEmpty then .none else .latch d' g c l.tail
  | .run _ run => if 32 ≤ run.count + 1 then .none else .run d { run with count := run.count + 1 }
  | .none =>
    if 1 < e.r.latch then
      let l := ((((s.listFor h d p).filter fun y => y.grp == e.grp).take (Nat.min e.r.latch (s.latchLimit h))).map fun y => y.r.id).tail
      if l.isEmpty then .none else .latch d e.grp e.r.cas l
    else if e.r.cls = .bulk then
      let new : RunRecord := { pc := p, xfer := e.r.xfer, row := e.r.row, bank := e.r.bank, grp := e.grp, count := 0 }
      let run := ((s.door h d).records.find? fun y => sameRun y new).getD new
      if 32 ≤ run.count + 1 then .none else .run d { run with count := run.count + 1 }
    else .none

/-- The progress record of a run that reaches its 32-block limit is freed (R138, R140). -/
def State.freeDoneRun (s : State) (h p d : Nat) (e : DoorEnt) (after : Hold) : State :=
  if e.r.cls = .bulk ∧ after = .none then
    let key : RunRecord := { pc := p, xfer := e.r.xfer, row := e.r.row, bank := e.r.bank, grp := e.grp, count := 0 }
    let x := s.door h d
    s.setDoor h d { x with records := x.records.filter fun y => !sameRun y key }
  else s

/-- The row open in the bank of a request. -/
def PcSt.openRow (x : PcSt) (b : Nat) : Option Nat := (x.bank b).row

/-- A transom read to a closed row joins or opens a group (R160). -/
def PcSt.groupFor (x : PcSt) (r : Req) (now : Nat) : Option Nat × List TGroup :=
  if !r.sector || r.write || x.openRow r.bank == some r.row then (none, x.groups)
  else
    match x.groups.find? fun g => g.bank == r.bank && g.row == r.row && decide (now ≤ g.start + 16) with
    | some g =>
      let n := (x.queue.filter fun e => e.grp == some g.id).length + 1
      (some g.id, x.groups.map fun y => if y.id = g.id then { y with rankable := y.rankable || decide (8 ≤ n) || r.cls == .urgent } else y)
    | none =>
      (some r.id, x.groups ++ [{ id := r.id, bank := r.bank, row := r.row, start := now, rankable := r.cls == .urgent }])

/-- An older request orders a new one behind it, so that it joins no group (R152, R154, R161). -/
def heldFor (d : Nat) (x : PcSt) (r : Req) : Bool :=
  x.queue.any fun o => o.r.bank == r.bank &&
    ((o.door == d && o.r.stag == r.stag) || (r.guarded && o.r.guarded && !o.ended &&
      ((x.queue.any fun a => a.r.guarded && a.r.bank == r.bank && a.r.row == r.row) ||
       x.queue.any fun a => a.r.guarded && a.r.bank == r.bank && (x.queue.filter fun c => c.r.guarded && c.r.bank == r.bank && c.r.row == a.r.row).length ≥ 2)))

/-- A request enters a pseudo-channel queue (R148). -/
def State.enqueue (s : State) (h p d : Nat) (e : DoorEnt) (v : Reserve) (tag : Option Nat) : State :=
  let x := s.pc h p
  let g := if heldFor d x e.r then (none, x.groups) else x.groupFor e.r s.cyc
  let q : QEnt := { r := e.r, door := d, arrT := e.arrT, arrC := e.arrC, firstC := 0, adm := s.cyc, res := v, aged := false,
                    grp := g.1, rdIssued := 0, merged := 0, bad := 0, wrIssued := 0, ended := false, drop := false, tag := tag }
  s.setPc h p { x with queue := x.queue ++ [q], groups := g.2, idleFrom := s.now,
                       highWater := Nat.max x.highWater (x.depth (s.cyc + 1) + 1) }

/-- The sample tag of an admitted request (R416): every interval's last request under the filter is tagged. -/
def lfsrNext (x : Nat) : Nat :=
  (x * 2) % 65536 + (((x / 32768) + (x / 8192) + (x / 4096) + (x / 1024)) % 2)

def State.sampleTag (s : State) (h : Nat) (e : DoorEnt) (d : Nat) : State × Option Nat :=
  let x := Tab.get SamplerSt.reset s.samplers h
  let cas := s.rd .SMP_CTRL_CASEMENT h 0 0
  if s.rd .SMP_CTRL_ENABLE h 0 0 = 1 ∧ cas = e.r.cas then
    if x.left ≤ 1 then
      let l := lfsrNext x.lfsr
      let run : SampleRec := { kind := 0, seq := x.seq % 65536, cas := e.r.cas, cls := Config.classCode e.r.cls, door := d, pc := e.r.pc,
                               hp := s.clk.hp, hinge := false, status := 0, addr := e.r.addr, arrT := e.arrT, arrC := e.arrC,
                               admC := s.cyc, firstC := 0, lastC := 0, respC := 0, done := false }
      let y := { x with lfsr := l, left := s.rd .SMP_PERIOD_PERIOD h 0 0 + (l &&& s.rd .SMP_PERIOD_JITTER h 0 0),
                        seq := x.seq + 1, recs := x.recs ++ [run] }
      ({ s with samplers := Tab.put SamplerSt.reset s.samplers h y }, some (x.seq % 65536))
    else
      ({ s with samplers := Tab.put SamplerSt.reset s.samplers h { x with left := x.left - 1 } }, none)
  else (s, none)

/-- Admit entry e of door d: charge, credit, queue entry, hold and rotation (R129, R133, R136, R137). -/
def State.admitOne (s : State) (h p d : Nat) (e : DoorEnt) (v : Reserve) : State :=
  let after := s.holdAfter h p d e
  let split := decide (s.latchLimit h < e.r.latch) && (s.arb h p).hold == .none
  let t := s.louvreCharge h d e
  let x := t.door h d
  let t := t.setDoor h d ((x.release s.cyc fun r => r.id == e.r.id).serve s.cyc p)
  let t := t.freeDoneRun h p d e after
  let (t, tag) := t.sampleTag h e d
  let t := t.enqueue h p d e v tag
  let t := (t.tally h 0x02 (some p) [d] (some e.r.cas) 1).tally h 0x03 (some p) [d] (some e.r.cas) e.r.units
  let t := if 1 < e.r.latch && (s.arb h p).hold == .none then t.tally h 0x09 none [d] (some e.r.cas) 1 else t
  let t := if split then t.flag .DARB_STATUS_LATCH_SPLIT h 0 0 else t
  let old := if after.isLatch then (s.arb h p).prioOld else (s.arb h p).prioOld.filter fun x => x.2.2 == s.cyc && !(s.arb h p).hold.isLatch
  t.setArb h p { hold := after, last := d, evalAt := s.cyc + 1, prioOld := old }

/-- A run goes on with its block e: no rival of another door beats it, the door is firm, or its records are full (R139 to R141). -/
def State.runRivals (s : State) (h p d : Nat) (e : DoorEnt) : Bool :=
  (s.candidates h p).any fun c => c.1 != d && s.beats h p c (d, e)

/-- What a pseudo-channel would admit in this CCLK (R136, R138 to R143). -/
def State.choice (s : State) (h p : Nat) : Option (Nat × DoorEnt) :=
  match (s.arb h p).hold with
  | .latch d _ _ l => ((s.listFor h d p).find? fun e => l.head? == some e.r.id && s.mayEnter h p e.r).map fun e => (d, e)
  | .run d run =>
    match s.runNext h p d run with
    | none => s.winner h p (s.candidates h p)
    | some e =>
      if s.runHeld h p d e then s.winner h p (s.candidates h p)
      else if s.doorFirm h d || !s.runRivals h p d e || decide (16 ≤ (s.door h d).records.length) then some (d, e)
      else s.winner h p (s.candidates h p)
  | .none => s.winner h p (s.candidates h p)

/-- A pseudo-channel's turn at a door: its distance from the one last served before this CCLK (R137). -/
def DoorSt.turn (x : DoorSt) (now p : Nat) : Nat := (p + 95 - (if x.servedAt = now then x.rotFrom else x.lastPc)) % 96

/-- Pseudo-channels that choose door d in this CCLK, have not been evaluated in it, and come before p in its rotation (R137). -/
def State.turnsBefore (s : State) (h d p : Nat) : List Nat :=
  let x := s.door h d
  (s.pcsOf h).filter fun p' => p' != p && decide (x.turn s.cyc p' < x.turn s.cyc p) && (s.arb h p').evalAt != s.cyc + 1 &&
    !(s.listFor h d p').isEmpty &&
    (match s.choice h p' with
     | some (d', e) => d' == d && ((s.pc h p').room s.cyc e.r).isSome
     | none => false)

/-- A door serves at most 8 pseudo-channels in one CCLK, in rotation (R137); where fewer than 8 others have a request in its buffer none waits. -/
def State.doorCanServe (s : State) (h d p : Nat) : Bool :=
  let x := s.door h d
  let n := if x.servedAt = s.cyc then x.served else 0
  decide (n + (s.pcsOf h).countP (fun p' => p' != p && !(s.listFor h d p').isEmpty) < 8) || decide (n + (s.turnsBefore h d p).length < 8)

/-- Admit the winner if an entry it may take is free and its door can serve (R130, R136, R137, R159). -/
def State.tryAdmit (s : State) (h p : Nat) (w : Nat × DoorEnt) : State :=
  match (s.pc h p).room s.cyc w.2.r with
  | some v => if s.doorCanServe h w.1 p then s.admitOne h p w.1 w.2 v else s
  | none => s

/-- Heads of door d for pseudo-channel p that a louvre holds; none holds the blocks of a latch after its first (R133, R142). -/
def State.louvreHeld (s : State) (h p d : Nat) : List DoorEnt :=
  let inLatch := (s.arb h p).hold.blocks
  (groupHeads (s.listFor h d p)).filter fun e => s.mayEnter h p e.r && !s.louvrePasses h d e && !inLatch.contains e.r.id

/-- LVR_SLOT_STATE.HELD: slot k of door d holds a request. -/
def State.slotHeld (s : State) (h d k : Nat) : Bool :=
  (s.pcsOf h).any fun p => (s.louvreHeld h p d).any fun e => s.regulator h d e == some k

/-- Louvre holds seen at an evaluation count in DOOR_HOLD_CNT, once in a CCLK (R133). -/
def State.noteHeld (s : State) (h p d : Nat) : State :=
  match s.louvreHeld h p d with
  | [] => s
  | e :: _ =>
    if (s.door h d).holdAt = s.cyc + 1 then s
    else ((s.count .DOOR_HOLD_CNT_COUNT top32 h d 0 1).tally h 0x07 none [d] (some e.r.cas) 1).setDoor h d { s.door h d with holdAt := s.cyc + 1 }

/-- Rules 3 to 6 of R136. -/
def State.contest (s : State) (h p : Nat) : State :=
  match s.winner h p (s.candidates h p) with
  | some w => s.tryAdmit h p w
  | none => s

/-- While a run's next block is held, rules 3 to 6 serve the others; the run keeps its count, in a progress record where another run or latch takes its place (R138 names no such end; log entry 51). -/
def State.contestBeside (s : State) (h p d : Nat) (run : RunRecord) : State :=
  let t := (s.setArb h p { s.arb h p with hold := .none }).contest h p
  match (t.arb h p).hold with
  | .none => t.setArb h p { t.arb h p with hold := .run d run }
  | _ =>
    let x := t.door h d
    let l := x.records.filter fun y => !sameRun y run
    if l.length < 16 then t.setDoor h d { x with records := l ++ [run] } else t

/-- One evaluation of the arbiter for pseudo-channel p (R136, R138 to R143). -/
def State.evaluate (s : State) (h p : Nat) : State :=
  match (s.arb h p).hold with
  | .latch _ _ _ _ =>
    match s.choice h p with
    | some w => s.tryAdmit h p w
    | none => s
  | .run d run =>
    match s.runNext h p d run with
    | none => (s.endRun h p d run).contest h p
    | some e =>
      if s.runHeld h p d e then s.contestBeside h p d run
      else if s.doorFirm h d || !s.runRivals h p d e then s.tryAdmit h p (d, e)
      else if 16 ≤ (s.door h d).records.length then (s.tryAdmit h p (d, e)).flag .DARB_STATUS_RECORDS_FULL h 0 0
      else (s.preempt h p d run).contest h p
  | .none => s.contest h p

/-- During the hold and the drain of a hinge only a latch or run in progress goes on (R143, R210, R224). -/
def State.evaluateHeld (s : State) (h p : Nat) : State :=
  match (s.arb h p).hold with
  | .latch _ _ _ _ => s.evaluate h p
  | .run d run =>
    match s.runNext h p d run with
    | none => s.endRun h p d run
    | some e => if s.runHeld h p d e then s else s.tryAdmit h p (d, e)
  | .none => s

/-- The arbiter evaluates a pseudo-channel once in every CCLK; during a hinge it admits nothing new (R136, R210). -/
def State.admitNext (s : State) (h p : Nat) : State :=
  if (s.arb h p).evalAt = s.cyc + 1 ∨ s.clk.run = false ∨ 2 < s.hinge.step ∨ s.pcIn h p = false then s
  else
    let t := (List.range 9).foldl (fun t d => t.noteHeld h p d) s
    let t := if s.hinge.step = 0 then t.evaluate h p else t.evaluateHeld h p
    t.setArb h p { t.arb h p with evalAt := s.cyc + 1 }

/-- A pseudo-channel keeps a pane's old priority for the rest of this CCLK, and until a latch that holds it ends (R144). -/
def ArbSt.keepPrio (a : ArbSt) (now n old : Nat) : ArbSt :=
  let live := a.prioOld.filter fun x => a.hold.isLatch || x.2.2 == now
  { a with prioOld := if live.any fun x => x.1 = n then live else live ++ [(n, old, now)] }

/-- A DARB_PRIO write (R144): it applies from the evaluation after this CCLK on, and after the latch where one holds the pseudo-channel. -/
def State.writePrio (s : State) (h n v : Nat) : State :=
  let old := s.rd .DARB_PRIO_DOOR_PRIO h n 0
  (s.pcsOf h).foldl (fun t p => t.setArb h p ((t.arb h p).keepPrio s.cyc n old)) (s.wr .DARB_PRIO_DOOR_PRIO h n 0 (v % 2 ^ 36))

/-! ## Masking, power-fail, casement reset and closure (R145 to R147, R283) -/

def State.maskDoor (s : State) (h d : Nat) : State := s.setDoor h d { s.door h d with masked := true }
def State.unmaskDoor (s : State) (h d : Nat) : State := s.setDoor h d { s.door h d with masked := false }

/-- The requests of a door that a rule removes; their credits return and they end with a status (R129). -/
def State.dropDoor (s : State) (h d : Nat) (gone : Req → Bool) (st : Status) : State :=
  let x := s.door h d
  let gl := x.inUse.filter gone
  let y : DoorSt := { x.release s.cyc gone with
    transit := x.transit.filter (fun r => !gone r)
    records := x.records.filter (fun z => !(gl.any (fun r => r.xfer == z.xfer && r.pc == z.pc && r.cls == .bulk))) }
  let t := s.setDoor h d y
  gl.foldl (fun t r => t.finishBare r st) t

/-- The latch of a pseudo-channel ends at the first of its blocks that is gone (R143, R146, R147). -/
def State.endDeadLatch (s : State) (h p : Nat) : State :=
  match (s.arb h p).hold with
  | .latch d _ _ l =>
    if l.all fun n => (s.listFor h d p).any fun e => e.r.id == n then s
    else s.setArb h p { s.arb h p with hold := .none, prioOld := [] }
  | _ => s

/-- Requests sent to a door that have not arrived are discarded (R146). -/
def State.dropTransit (s : State) (h d : Nat) (st : Status) : State :=
  let x := s.door h d
  x.transit.foldl (fun t r => t.finishBare r st) (s.setDoor h d { x with transit := [] })

/-- The same over a whole hub. -/
def State.dropDoors (s : State) (h : Nat) (gone : Req → Bool) (st : Status) : State :=
  let t := (List.range 9).foldl (fun t d => t.dropDoor h d gone st) s
  (t.pcsOf h).foldl (fun t p => t.endDeadLatch h p) t

/-- Requests waiting at the ring ports of a hub that a rule removes. -/
def State.dropRing (s : State) (h : Nat) (gone : Req → Bool) (st : Status) : State :=
  [0, 1].foldl (fun t dir =>
    let l := (t.ringAt h dir).filter gone
    l.foldl (fun t r => t.finishBare r st) (t.setRing h dir ((t.ringAt h dir).filter fun r => !gone r))) s

end Sys2Proof.Machine
end

