-- ==== Sys2Proof/Machine/Sequencer.lean ====
section
/-! DEFINITION. The pseudo-channel controller: eligibility, the scheduler, the command-slot arbiter, the sequencer and its timing (chapters 08 and 09). -/

namespace Sys2Proof.Machine

/-! ## Commands and their encoding (R182, R183) -/

/-- What a command names: its operands. -/
structure CmdArgs where
  bank : Nat
  row : Nat
  col : Nat
  mrAddr : Nat
  mrData : Nat
  deriving DecidableEq, Repr

def ProfileCfg.cmd (c : ProfileCfg) (code : Nat) : Option CmdEntry := c.cmds.find? fun e => e.code = code

/-- The command of lowest code with an EFFECT (used where the spec names a command by what it does). -/
def ProfileCfg.cmdByEffect (c : ProfileCfg) (eff : Nat) : Option CmdEntry :=
  (c.cmds.filter fun e => e.effect = eff).foldl (fun b e =>
    match b with
    | none => some e
    | some x => if e.code < x.code then some e else b) none

/-- A command names a bank when an insertion has SOURCE 1 (R178). -/
def CmdEntry.namesBank (e : CmdEntry) : Bool := e.inserts.any fun i => i.source = 1

/-- The value of an insertion's source (R182). -/
def sourceValue (a : CmdArgs) (p : Nat) (src : Nat) : Nat :=
  match src with
  | 1 => a.bank
  | 2 => a.row
  | 3 => a.col
  | 4 => p % 2
  | 5 => a.mrAddr
  | 6 => a.mrData
  | _ => 0

/-- Place w bits of v at bit `at_` of a pattern. -/
def placeBits (pat : BitVec 64) (at_ w v : Nat) : BitVec 64 :=
  (pat &&& ~~~ (BitVec.ofNat 64 ((2 ^ w - 1) * 2 ^ at_))) ||| BitVec.ofNat 64 (v % 2 ^ w * 2 ^ at_)

/-- Even parity of every other bit of the word that holds bit `at_` (R183). -/
def wordParity (pat : BitVec 64) (at_ : Nat) : Nat :=
  let w := at_ / 22
  ((List.range 22).filter fun k => 22 * w + k != at_ && pat.getLsbD (22 * w + k)).length % 2

/-- The parity pin's bits in both words (R182). -/
def parityPins : BitVec 44 := BitVec.ofNat 44 (3 * 2 ^ 20 + 3 * 2 ^ 42)

/-- The words of a command (R183): PATTERN, then the insertions in order; without parity its pin stays 0. -/
def encodeCmd (parity : Bool) (e : CmdEntry) (base : BitVec 64) (raw : Bool) (a : CmdArgs) (p : Nat) : BitVec 44 :=
  (e.inserts.foldl (fun pat i =>
    if i.source = 0 then pat
    else if i.source = 7 then placeBits pat i.start 1 (if parity then wordParity pat i.start else 0)
    else if raw then pat
    else placeBits pat i.start i.width (sourceValue a p i.source / 2 ^ i.lsb)) base).truncate 44 &&& (if parity then BitVec.allOnes 44 else ~~~parityPins)

/-- CCLK as cycle timers count it: they hold from step 5 of a hinge to step 9 (R216). -/
def State.timerCyc (s : State) : Nat := if 5 ≤ s.hinge.step then s.hinge.holdFrom else s.cyc

/-! ## Refresh schedule and self-refresh exit (R188, R196) -/

/-- The schedule restarts (R188): no due has been raised, debts as given. -/
def PcSt.restartDues (x : PcSt) (now : Nat) : PcSt :=
  { x with refStart := some now, clearLast := none, wideDueK := 0, wideDueFrom := none, wideDueLast := none,
           banks := x.banks.map fun b => (b.1, { b.2 with dueK := 0, dueFrom := none, dueLast := none }) }

/-- A self-refresh exit completes (R196): debts 0, schedule restarted, tables cleared, idle timer restarted (R193), and the pauses' interval anew (R233). -/
def PcSt.leaveSr (x : PcSt) (now intv : Nat) : PcSt :=
  let y := x.restartDues now
  { y with sr := .awake, srAuto := false, idleFrom := now, pauseLast := now, pauseFirst := true, pauseDue := false, pauseRetryAt := none, pauseIntv := intv,
           exitAt := now, banks := y.banks.map fun b => (b.1, { b.2 with debt := 0, acts := List.replicate 32 none }) }

/-- The longest that a read-modify-write of one sector holds its bank (R164; log entry 105): from its read to its write, the data's arrival and check or the timing set's spacing from one to the other. -/
def rmwHold (f : ProfileCfg) (ts : TimingCfg) : Nat :=
  match f.cmdByEffect 4, f.cmdByEffect 5 with
  | some r, some w =>
    let gap := ts.rules.foldl (fun m x => if !x.window && x.cfrom == r.tclass && x.cto == w.tclass && (x.scope == 0 || x.scope == 1 || x.scope == 3) then Nat.max m x.value else m) 0
    Nat.min 1023 (Nat.max gap ((ts.rl + 1) / 2 + 5))
  | _, _ => 0

/-! ## Legality (R178) -/

/-- Bank groups (R177). -/
def sameGroup (bpg : Nat) (a b : Option Nat) : Bool :=
  match a, b with
  | some x, some y => x / bpg = y / bpg
  | _, _ => true

def sameBank (a b : Option Nat) : Bool :=
  match a, b with
  | some x, some y => x = y
  | _, _ => true

def otherGroup (bpg : Nat) (a b : Option Nat) : Bool :=
  match a, b with
  | some x, some y => x / bpg != y / bpg
  | _, _ => false

/-- Whether a command of pseudo-channel q, issued at `i.at_`, counts as earlier than one of pseudo-channel p in CCLK t:
in one CCLK only that of pseudo-channel 0 of the channel, for pseudo-channel 1 (R178). -/
def isEarlier (q p : Nat) (i : Issued) (t : Nat) : Bool :=
  decide (i.at_ < t) || (i.at_ == t && q + 1 == p && q % 2 == 0)

/-- The earlier commands in an entry's scope. -/
def State.inScope (s : State) (h p bpg : Nat) (scope : Nat) (bank : Option Nat) : List Issued :=
  let t := s.cyc
  let own := (s.pc h p).hist.filter fun i => isEarlier p p i t
  let of (q : Nat) := (s.pc h q).hist.filter fun i => isEarlier q p i t
  match scope with
  | 0 => own.filter fun i => sameBank i.bank bank
  | 1 => own.filter fun i => sameGroup bpg i.bank bank
  | 2 => own.filter fun i => otherGroup bpg i.bank bank
  | 3 => own
  | 4 => of (if p % 2 = 0 then p + 1 else p - 1)
  | _ => ((List.range 32).map fun k => stackOf p * 32 + k).flatMap of

/-- One constraint entry holds for a command of class c. -/
def State.ruleHolds (s : State) (h p bpg c : Nat) (bank : Option Nat) (r : TimingRule) : Bool :=
  if r.cto != c then true
  else
    let l := (s.inScope h p bpg r.scope bank).filter fun i => i.tclass == r.cfrom
    if r.window then decide ((l.filter fun i => decide (s.cyc < i.at_ + r.value)).length < r.limit)
    else l.all fun i => decide (i.at_ + r.value ≤ s.cyc)

/-- Pseudo-channel 0 of a channel has its words first in a CCLK (R180): once pseudo-channel 1 has issued, its turn in that CCLK is over (R178; log entry 105). -/
def State.turnOver (s : State) (h p : Nat) : Bool := p % 2 == 0 && (s.pc h (p + 1)).hist.any fun i => i.at_ == s.cyc

/-- A command is legal in the present CCLK (R178); without a timing set none is. -/
def State.legal (s : State) (h p c : Nat) (bank : Option Nat) : Bool :=
  !s.turnOver h p &&
  match s.profileOf h p, s.timingOf h p (s.pc h p).tset with
  | some f, some ts => ts.rules.all fun r => s.ruleHolds h p f.banksPerGroup c bank r
  | _, _ => false

/-- A slot is free of a second word (R180). -/
def PcSt.slotFree (x : PcSt) (now : Nat) (column : Bool) : Bool :=
  if column then decide (x.colBusy ≤ now) else decide (x.rowBusy ≤ now)

/-! ## Operations of requests (R171 to R173) -/

/-- Sector n of a request is written in part. -/
def Req.partly (r : Req) (n : Nat) : Bool :=
  let m := sectorMask r.mask n
  m != 0 && m != BitVec.allOnes 32 && !r.poison.getLsbD n

/-- Sector n of a request has a byte written. -/
def Req.touched (r : Req) (n : Nat) : Bool := sectorMask r.mask n != 0 || r.poison.getLsbD n

def Req.sectors (r : Req) : List Nat := if r.sector then [0] else List.range 8

/-- The operation of a request (R171). -/
def Req.operation (r : Req) : Nat :=
  if !r.write then (if r.sector then 2 else 0)
  else if r.sectors.any r.partly then 4
  else if r.sector then 3 else 1

/-- Bank state: 0 hit, 1 closed, 2 conflict (R172). -/
def BankSt.stateFor (b : BankSt) (row : Option Nat) : Nat :=
  match b.row with
  | none => 1
  | some x => if row = some x then 0 else 2

def StepTableCfg.entry (t : StepTableCfg) (op st : Nat) : Option Nat :=
  match t.dispatch[3 * op + st]? with
  | some 0xFFFF => none
  | x => x

/-! ## Ranking (R152 to R157, R160, R161) -/

/-- An older request of the same source to the same bank is still queued (R152). -/
def heldBySource (older : List QEnt) (e : QEnt) : Bool :=
  older.any fun o => o.door == e.door && o.r.stag == e.r.stag && o.r.bank == e.r.bank

/-- A bank is matched while two queued requests of guarded panes share a row (R154). -/
def PcSt.matched (x : PcSt) (b : Nat) : Bool :=
  let l := x.queue.filter fun e => e.r.bank == b && e.r.guarded
  l.any fun e => (l.filter fun o => o.r.row == e.r.row).length ≥ 2

/-- Eligibility of an entry behind older ones: the order of its source in every pane (R152, R153), and in a guarded pane the order of admission on a matched bank (R154). -/
def PcSt.eligible (x : PcSt) (older : List QEnt) (e : QEnt) : Bool :=
  !heldBySource older e && !(e.r.guarded && x.matched e.r.bank && older.any fun o => o.r.guarded && o.r.bank == e.r.bank && !o.ended)

/-- The entries with their older ones. -/
def withOlder : List QEnt → List QEnt → List (List QEnt × QEnt)
  | _, [] => []
  | seen, e :: t => (seen, e) :: withOlder (seen ++ [e]) t

/-- Marks that time brings: aged entries (R155), groups that become rankable, and members that an ordering rule makes ineligible, which leave (R160, R161). -/
def PcSt.refreshMarks (x : PcSt) (now ceil : Nat) : PcSt :=
  let gs := x.groups.map fun g =>
    { g with rankable := g.rankable || decide (g.start + 16 ≤ now) || x.openRow g.bank == some g.row }
  let q := (withOlder [] x.queue).map fun oe =>
    let e := { oe.2 with aged := decide (oe.2.adm + ceil ≤ now) }
    match e.grp with
    | none => e
    | some g =>
      if (gs.any fun y => y.id == g) && x.eligible oe.1 oe.2 then e else { e with grp := none }
  { x with queue := q, groups := gs.filter fun g => q.any fun e => e.grp == some g.id }

/-- PC_AGE_CEIL; the default of 512 CCLK before an image sets it (R89). -/
def State.ageCeil (s : State) (h p : Nat) : Nat :=
  let v := s.rd .PC_AGE_CEIL_CYCLES h p 0
  if v = 0 then 512 else v

def PcSt.groupOf (x : PcSt) (e : QEnt) : List QEnt :=
  match e.grp with
  | none => [e]
  | some g => x.queue.filter fun y => y.grp == some g

/-- The rank of an entry (R155); a group with an URGENT member ranks as URGENT.  Age has no effect on a matched bank (R154). -/
def PcSt.rank (x : PcSt) (e : QEnt) : Nat :=
  let l := x.groupOf e
  if l.any fun y => y.r.cls == .urgent then 1
  else if !x.matched e.r.bank && l.any fun y => y.aged then 2
  else if x.openRow e.r.bank == some e.r.row then 3
  else 4

/-- Admission CCLK by which an entry is old: its group's oldest member's (R155). -/
def PcSt.ageKey (x : PcSt) (e : QEnt) : Nat :=
  match x.groupOf e with
  | y :: _ => y.adm
  | [] => e.adm

/-- Entries that may be loaded: admitted in an earlier CCLK (R148), not begun, eligible, and not in a group whose merge window is open. -/
def PcSt.ready (x : PcSt) (now : Nat) : List QEnt :=
  ((withOlder [] x.queue).filter fun oe =>
    let e := oe.2
    decide (e.adm < now) && !e.ended && e.rdIssued == 0 && e.wrIssued == 0 && x.eligible oe.1 e &&
    (match e.grp with
     | none => true
     | some g => x.groups.any fun y => y.id == g && y.rankable)).map (·.2)

/-- Insert by rank, then age, then order of admission. -/
def insertRanked (x : PcSt) (e : QEnt) : List QEnt → List QEnt
  | [] => [e]
  | y :: t =>
    if x.rank e < x.rank y || (x.rank e == x.rank y && decide (x.ageKey e < x.ageKey y)) then e :: y :: t
    else y :: insertRanked x e t

def PcSt.ranked (x : PcSt) (now : Nat) : List QEnt := (x.ready now).foldl (fun l e => insertRanked x e l) []

/-! ## Step pointers (R170, R173) -/

/-- What a step pointer waits to issue: the command, its operands and what the issue does. -/
structure Wanted where
  e : CmdEntry
  args : CmdArgs
  deriving DecidableEq, Repr

def PcSt.entry (x : PcSt) (id : Nat) : Option QEnt := x.queue.find? fun e => e.r.id = id

/-- A COL pass that SECTOR_SEL skips (R173). -/
def passSkipped (x : PcSt) (q : Ptr) (sel : Nat) : Bool :=
  match x.entry q.req with
  | none => false
  | some e =>
    match sel with
    | 1 => !e.r.partly q.sec || (e.r.sector && q.sec != 0)
    | 2 => !e.r.touched q.sec || (e.r.sector && q.sec != 0)
    | _ => e.r.sector && q.sec != 0

/-- The MERGE event's condition: every partly covered sector is checked and merged. -/
def mergeDone (x : PcSt) (q : Ptr) : Bool :=
  match x.entry q.req with
  | none => true
  | some e => e.r.sectors.all fun n => !e.r.partly n || e.merged.getLsbD n

/-- Walk past the steps that take no CCLK (R170): the pointer at the step it stops at, and the events it passed.
`none` for the pointer at an END step.  A WAIT step that the pointer reaches counts from CCLK `now`. -/
def walk (tbl : List Step) (x : PcSt) (now : Nat) : Nat → Ptr → List Nat → Option Ptr × List Nat
  | 0, q, ev => (some q, ev)
  | fuel + 1, q, ev =>
    if now < q.waitTo then (some q, ev)
    else match tbl[q.step]? with
      | none => (none, ev)
      | some .fin => (none, ev)
      | some (.row _ _) => (some q, ev)
      | some (.col _ inc _ sel) =>
        if passSkipped x q sel then walk tbl x now fuel { q with step := q.step + 1, sec := if inc then q.sec + 1 else q.sec } ev
        else (some q, ev)
      | some (.wait n) =>
        if q.waitTo = 0 then (some { q with waitTo := now + n }, ev)
        else walk tbl x now fuel { q with step := q.step + 1, waitTo := 0 } ev
      | some (.loop target n) =>
        if q.pass + 1 < n then walk tbl x now fuel { q with step := target, pass := q.pass + 1 } ev
        else walk tbl x now fuel { q with step := q.step + 1, pass := 0, sec := 0 } ev
      | some (.event 1) => if mergeDone x q then walk tbl x now fuel { q with step := q.step + 1 } ev else (some q, ev)
      | some (.event e) => walk tbl x now fuel { q with step := q.step + 1 } (ev ++ [e])

/-- The longest walk: every pass of every body of a 256-step table with one loop at a time. -/
def walkFuel : Nat := 1050000

/-- Step pointer operations beyond R171: the reopening of R163 issues one activate. -/
def opReopen : Nat := 16

/-- The command a pointer waits to issue (R173). -/
def State.wanted (s : State) (h p : Nat) (q : Ptr) : Option Wanted :=
  match s.profileOf h p, s.stepsOf h p with
  | some f, some tbl =>
    if q.op = opReopen then (f.cmdByEffect 1).map fun e => ⟨e, ⟨q.bank, q.row, 0, 0, 0⟩⟩
    else if s.cyc < q.waitTo then none
    else
      let mk (c addr : Nat) : Option Wanted :=
        (f.cmd c).map fun e =>
          let x := s.pc h p
          let col := match x.entry q.req with | some y => y.r.col + q.sec | none => 0
          let d := x.dbgOps.toNat
          let m := if q.op = 12 then f.mr.getD q.mr (0, []) else (0, [])
          let v := m.2.getD s.clk.hp 0
          let a : CmdArgs :=
            match addr with
            | 1 => ⟨if q.op = 5 then q.bank else x.refBank, 0, 0, m.1, v⟩
            | 2 => if q.op = 7 ∨ q.op = 8 then ⟨q.bank, q.row, 0, m.1, v⟩ else ⟨x.nbrAt.1, x.nbrAt.2, 0, m.1, v⟩
            | 3 => ⟨0, 0, 0, m.1, v⟩
            | 4 => ⟨d / 2 ^ 6 % 64, d / 2 ^ 19 % 2 ^ 18, d / 2 ^ 12 % 128, 0, d / 2 ^ 37 % 256⟩
            | _ => ⟨q.bank, q.row, col, m.1, v⟩
          ⟨e, a⟩
      match tbl.steps[q.step]? with
      | some (.row c a) => mk c a
      | some (.col c _ a _) => mk c a
      | _ => none
  | _, _ => none

/-! ## What a command does (R172, R182, R198, R239) -/

/-- Update a bank's activation table for a row: the new table and whether the row reached the threshold (R198, R200). -/
def bumpAct (thr row : Nat) (t : List (Option (Nat × Nat))) : List (Option (Nat × Nat)) × Bool :=
  match t.findIdx? fun e => match e with | some x => x.1 = row | none => false with
  | some i =>
    let c := ((t[i]?.join).map (·.2)).getD 0 + 1
    if thr ≤ c then (t.set i none, true) else (t.set i (some (row, c)), false)
  | none =>
    match t.findIdx? fun e => e.isNone with
    | some i => if thr ≤ 1 then (t, true) else (t.set i (some (row, 1)), false)
    | none =>
      let low := t.foldl (fun m e => match e with | some x => Nat.min m x.2 | none => m) 16383
      match t.findIdx? fun e => match e with | some x => x.2 = low | none => false with
      | some i => if thr ≤ low + 1 then (t.set i none, true) else (t.set i (some (row, low + 1)), false)
      | none => (t, false)

/-- An activate that R198 counts. -/
def State.countAct (s : State) (h p b row : Nat) : State :=
  match s.disturbCfg h with
  | none => s
  | some d =>
    let x := s.pc h p
    let y := x.bank b
    let r := bumpAct d.threshold row y.acts
    s.setPc h p (x.setBank b { y with acts := r.1, nbr := if r.2 && decide (y.nbr.length < 32) then y.nbr ++ [row] else y.nbr })

/-- Every bank's row of a pseudo-channel closes. -/
def PcSt.closeAll (x : PcSt) : PcSt :=
  { x with banks := x.banks.map fun b => (b.1, { b.2 with row := none }) }

/-- Retry buffer contents still within PAR_LAT (R239), and the rows open before the oldest of them. -/
def State.retryTrim (s : State) (h p : Nat) : State :=
  match s.profileOf h p, s.timingOf h p (s.pc h p).tset with
  | some f, some ts =>
    let x := s.pc h p
    let gone := x.retry.filter fun e => decide (2 * (s.cyc - e.at_) ≥ ts.parLat)
    let rows := gone.foldl (fun (l : List (Nat × Nat)) e =>
      match f.cmd e.code with
      | some c =>
        match (if e.raw then 0 else c.effect), e.bank with
        | 1, some b => (l.filter fun y => y.1 != b) ++ [(b, e.row)]
        | 2, some b => l.filter fun y => y.1 != b
        | 3, _ => []
        | _, _ => l
      | none => l) x.retryOpen
    if gone.isEmpty then s
    else s.setPc h p { x with retry := x.retry.filter (fun e => decide (2 * (s.cyc - e.at_) < ts.parLat)), retryOpen := rows }
  | _, _ => s

/-- How a command came to be issued: it decides what is counted (R186, R193, R198, R241). -/
inductive Issuer where
  | emergency | debug | refresh | retrain | scheduler | replay
  deriving DecidableEq, Repr

/-- Sector n of an entry's write lands in the stack. -/
def State.writeSectorOf (s : State) (e : QEnt) (n : Nat) : State :=
  let key := sectorKey e.r.hub e.r.pc e.r.bank e.r.row (e.r.col + n)
  if e.bad.getLsbD n || e.r.poison.getLsbD n then s.storePoison key
  else s.storeSector key (sectorOf e.r.data n)

def PcSt.setEntry (x : PcSt) (e : QEnt) : PcSt :=
  { x with queue := x.queue.map fun y => if y.r.id = e.r.id then e else y }

/-- Members of a group that share the column read of one of them (R160). -/
def PcSt.mates (x : PcSt) (e : QEnt) : List QEnt :=
  if e.r.sector then (x.groupOf e).filter fun y => y.r.id != e.r.id && y.r.col == e.r.col && !y.r.write && y.rdIssued == 0 else []

/-- A column read of sector n for an entry: its burst sets out, shared by its group's members (R160). -/
def State.issueRead (s : State) (h p : Nat) (e : QEnt) (n : Nat) (rl : Nat) : State :=
  let x := s.pc h p
  let key := sectorKey h p e.r.bank e.r.row (e.r.col + n)
  let mates := x.mates e
  let b : Burst := { req := e.r.id, sec := n, also := mates.map (·.r.id), data := s.storedData key, chk := s.storedCheck key,
                     ready := s.cyc + (rl + 1) / 2 + 4 }
  let x := x.setEntry { e with rdIssued := e.rdIssued ||| BitVec.ofNat 8 (2 ^ n) }
  let x := mates.foldl (fun x y => x.setEntry { y with rdIssued := 1, ended := true }) x
  let t := s.setPc h p { x with flight := x.flight ++ [b] }
  if mates.isEmpty then t
  else (t.count .PC_SCHED_CNT_MERGED top16 h p 0 mates.length).tally h 0x0F (some p) [] none mates.length

/-- The words that a command drives (R183). -/
def State.cmdWords (s : State) (h p : Nat) (w : Wanted) : BitVec 44 :=
  encodeCmd (((s.profileOf h p).map (·.parity)).getD false) w.e w.e.pattern false w.args p

/-- A command takes its slot: history, retry buffer, and the words on the bus (R178, R180, R239). -/
def State.drive (s : State) (h p : Nat) (e : CmdEntry) (r : RetryEnt) : State :=
  let x := s.pc h p
  let busy := s.cyc + e.words
  (s.setPc h p { x with hist := { at_ := s.cyc, tclass := e.tclass, bank := r.bank } :: x.hist,
                        rowBusy := if e.column then x.rowBusy else busy, colBusy := if e.column then busy else x.colBusy,
                        lastCode := e.code, retry := x.retry ++ [r] }).emit (.stackCmd h p e.column r.words)

/-- A command issues: slot, history, retry buffer, EFFECT (R172, R178, R180, R182, R239); a RAW one has no effect on a bank (R186). -/
def State.issue (s : State) (h p : Nat) (w : Wanted) (who : Issuer) (q : Option Ptr) (raw : Bool := false) : State :=
  let x := s.pc h p
  let bank := if w.e.namesBank then some w.args.bank else none
  let ent := q.bind fun q => x.entry q.req
  let sec := (q.map (·.sec)).getD 0
  let rl := ((s.timingOf h p x.tset).map (·.rl)).getD 0
  let r : RetryEnt := { at_ := s.cyc, words := s.cmdWords h p w, code := w.e.code, op := (q.map (·.op)).getD 0, raw := raw,
                        bank := bank, row := w.args.row, col := w.args.col,
                        req := (ent.map fun e => e.r.id).getD 0, sec := sec,
                        also := if w.e.effect = 4 then ((ent.map x.mates).getD []).map fun e => e.r.id else [],
                        data := (ent.map fun e => sectorOf e.r.data sec).getD 0,
                        poison := (ent.map fun e => e.bad.getLsbD sec || e.r.poison.getLsbD sec).getD false }
  let x := { x with idleFrom := if who = .scheduler ∨ who = .debug then s.now else x.idleFrom }
  let x := match ent with
    | some e => x.setEntry { (x.entry e.r.id).getD e with firstC := if e.firstC = 0 then s.cyc + 1 else e.firstC }
    | none => x
  let t := (s.setPc h p x).drive h p w.e r
  let ent := ent.bind fun e => (t.pc h p).entry e.r.id
  match (if raw then 0 else w.e.effect) with
  | 1 =>
    let t := (t.count .PC_SEQ_CNT_ACTS top32 h p 0 1).tally h 0x05 (some p) [] none 1
    match bank with
    | some b =>
      let y := (t.pc h p).bank b
      let t := t.setPc h p ((t.pc h p).setBank b { y with row := some w.args.row })
      if (q.map (·.op)) = some 8 then t else t.countAct h p b w.args.row
    | none => t
  | 2 =>
    match bank with
    | some b => t.setPc h p ((t.pc h p).setBank b { (t.pc h p).bank b with row := none })
    | none => t
  | 3 => t.setPc h p (t.pc h p).closeAll
  | 4 =>
    match ent with
    | some e => t.issueRead h p e sec rl
    | none => t
  | 5 =>
    match ent with
    | some e => (t.writeSectorOf e sec).setPc h p ((t.pc h p).setEntry { e with wrIssued := e.wrIssued ||| BitVec.ofNat 8 (2 ^ sec) })
    | none => t
  | 6 =>
    let t := (t.count .PC_NBR_CNT_SR_ENTRIES top16 h p 0 1)
    t.setPc h p { t.pc h p with sr := .inSr, srAt := s.cyc, srTick := s.now }
  | 7 => t.setPc h p (if who = .debug then (t.pc h p).leaveSr s.now (s.rd .PC_RETRAIN_INTV_MS h p 0) else { t.pc h p with sr := .exiting })
  | 8 => (t.count .PC_REF_CNT_REFS top16 h p 0 1).tally h 0x0A (some p) (if who = .emergency then [0, 1] else [0]) none 1
  | 9 => (t.count .PC_REF_CNT_REFS top16 h p 0 1).tally h 0x0A (some p) (if who = .emergency then [0, 1] else [0]) none 1
  | _ => t

/-! ## Moving pointers -/

/-- A queued request leaves its entry: a read-modify-write's is free in the CCLK in which its write issues, every other in the next (R150). -/
def State.freeEntry (s : State) (h p : Nat) (e : QEnt) : State :=
  let x := s.pc h p
  let at_ := if e.r.write && e.r.operation == 4 then s.cyc else s.cyc + 1
  s.setPc h p { x with queue := x.queue.filter (fun y => y.r.id != e.r.id),
                       freed := (at_, e.res, e.r.sector) :: x.freed.filter fun f => decide (s.cyc ≤ f.1) }

/-- A tagged request's record takes its last stamps (R417). -/
def State.sampleDone (s : State) (e : QEnt) (st : Status) : State :=
  match e.tag with
  | none => s
  | some n =>
    let x := Tab.get SamplerSt.reset s.samplers e.r.hub
    let mark (r : SampleRec) : SampleRec :=
      if r.seq = n ∧ r.done = false then
        { r with firstC := e.firstC - 1, lastC := s.cyc, respC := s.cyc, status := Config.statusCode st, done := true, hinge := s.hinge.doneAt.any (fun t => decide (r.arrT < t)) }
      else r
    { s with samplers := Tab.put SamplerSt.reset s.samplers e.r.hub { x with recs := x.recs.map mark } }

/-- A request's operation reaches END: a write is complete and leaves (R150, R255). -/
def State.endRequest (s : State) (h p id : Nat) : State :=
  match (s.pc h p).entry id with
  | none => s
  | some e =>
    let x := (s.pc h p)
    let b := x.bank e.r.bank
    let s := s.setPc h p (x.setBank e.r.bank { b with latch := if b.latch = some id then none else b.latch })
    if e.r.write then
      let st := if e.drop then .casementReset else if e.bad != 0 then .poisonMerge else .done
      ((s.freeEntry h p e).sampleDone e st).finishBare e.r st
    else s.setPc h p ((s.pc h p).setEntry { e with ended := true })

/-- REF_DONE (R189): the debt of the refreshed bank, or of every bank, falls by one. -/
def State.refDone (s : State) (h p : Nat) (q : Ptr) : State :=
  let x := s.pc h p
  if q.op = 6 then
    s.setPc h p { x with banks := (x.banks.map fun b => (b.1, { b.2 with debt := b.2.debt - 1 })) }
  else s.setPc h p (x.setBank q.bank { x.bank q.bank with debt := (x.bank q.bank).debt - 1 })

/-- Cause of a stay in self-refresh (R420): 0 idle, 1 hinge, 2 power-fail, 3 warm reset. -/
def State.srCause (s : State) (h p : Nat) : Nat :=
  if (s.pc h p).srAuto then 0 else if s.pf2 then 2 else if s.hinge.step != 0 then 1 else 3

/-- An EVENT step (R173). -/
def State.event (s : State) (h p : Nat) (q : Ptr) (e : Nat) : State :=
  match e with
  | 2 => s.refDone h p q
  | 3 => s.traceHub h 0x04 0 p [s.srCause h p]
  | 4 => s.traceHub h 0x05 0 p [s.now - (s.pc h p).srTick]
  | _ => s

def State.events (s : State) (h p : Nat) (q : Ptr) (l : List Nat) : State := l.foldl (fun t e => t.event h p q e) s

/-- A neighbour refresh operation ends: the next neighbour, or the next pending row (R200, R201). -/
def State.nbrDone (s : State) (h p b : Nat) : State :=
  let x := s.pc h p
  let y := x.bank b
  match y.nbrLeft with
  | some (_ :: r :: rest) => s.setPc h p (x.setBank b { y with nbrLeft := some (r :: rest) })
  | _ =>
    ((s.setPc h p (x.setBank b { y with nbr := y.nbr.tail, nbrLeft := none })).count .PC_NBR_CNT_NBR top16 h p 0 1).tally h 0x0A (some p) [0, 2] none 1

/-- A sequence set aside goes on: a row that has been closed is reopened first (R163), by the emergency requester where that set it aside. -/
def BankSt.resume (y : BankSt) (b : Nat) (emerg : Bool) : BankSt :=
  match y.saved with
  | some (q, some row) =>
    if y.row = some row then { y with ptr := some q, saved := none }
    else { y with ptr := some { op := opReopen, step := 0, req := q.req, bank := b, row := row, pass := 0, sec := 0, waitTo := 0, emerg := emerg } }
  | some (q, none) => { y with ptr := some q, saved := none }
  | none => { y with ptr := none }

/-- Every sequence set aside goes on. -/
def PcSt.resumeAll (x : PcSt) (emerg : Bool) : PcSt :=
  { x with banks := x.banks.map fun b => if b.2.saved.isSome && b.2.ptr.isNone then (b.1, b.2.resume b.1 emerg) else b }

/-- A bank's sequence is set aside for a command of the refresh logic or a pause: a request's goes on afterwards (R163), a neighbour operation begins anew. -/
def BankSt.setAside (y : BankSt) : BankSt :=
  match y.ptr with
  | some q => if q.op ≤ 4 ∧ y.saved = none then { y with saved := some (q, y.row), ptr := none } else { y with ptr := none }
  | none => y

/-- A pointer's END step releases it (R170): what its operation leaves behind. -/
def State.endOp (s : State) (h p : Nat) (q : Ptr) : State :=
  let x := s.pc h p
  if q.op ≤ 4 then (s.setPc h p (x.setBank q.bank { x.bank q.bank with ptr := none })).endRequest h p q.req
  else if q.op = 5 then
    let y := x.bank q.bank
    s.setPc h p (x.setBank q.bank (y.resume q.bank q.emerg))
  else if q.op = 6 then s.setPc h p ({ x with wide := none }.resumeAll q.emerg)
  else if q.op = 7 ∨ q.op = 8 then
    let t := (s.setPc h p (x.setBank q.bank { x.bank q.bank with ptr := none })).nbrDone h p q.bank
    let y := (t.pc h p).bank q.bank
    if y.nbr.isEmpty then t.setPc h p ((t.pc h p).setBank q.bank (y.resume q.bank false)) else t
  else if q.op = 10 then
    let y := { x with wide := none }.leaveSr s.now (s.rd .PC_RETRAIN_INTV_MS h p 0)
    s.setPc h p { y with wideNext := if x.deferred then [12] else y.wideNext, pauseDue := x.deferred, deferred := false }
  else if q.op = 13 then s.setPc h p { x with wide := none, burstAt := some s.cyc }
  else if q.op = 14 then s.setPc h p ({ x with wide := none, burstAt := none }.resumeAll false)
  else s.setPc h p { x with wide := none }

/-- Put a pointer back in its place: the pseudo-channel-wide one, or its bank's (R170). -/
def PcSt.setPtr (x : PcSt) (q : Ptr) : PcSt :=
  if (6 ≤ q.op ∧ q.op ≠ 7 ∧ q.op ≠ 8 ∧ q.op ≠ opReopen) then { x with wide := some q }
  else x.setBank q.bank { x.bank q.bank with ptr := some q }

/-- Advance a pointer over its free steps (R170), as of CCLK `now`. -/
def State.advanceAt (s : State) (h p : Nat) (q : Ptr) (now : Nat) : State :=
  if q.op = opReopen then s
  else match s.stepsOf h p with
    | none => s
    | some tbl =>
      match walk tbl.steps (s.pc h p) now walkFuel q [] with
      | (some q', ev) => (s.setPc h p ((s.pc h p).setPtr q')).events h p q' ev
      | (none, ev) => (s.events h p q ev).endOp h p q

def State.advance (s : State) (h p : Nat) (q : Ptr) : State := s.advanceAt h p q s.cyc

/-- The pointers in use, bank by bank, then the wide one. -/
def PcSt.ptrs (x : PcSt) : List Ptr := (x.banks.filterMap fun b => b.2.ptr) ++ x.wide.toList

def State.advanceAll (s : State) (h p : Nat) : State := (s.pc h p).ptrs.foldl (fun t q => t.advance h p q) s

/-- After its command has issued a pointer moves past the step (R173). -/
def stepPast (tbl : List Step) (q : Ptr) : Ptr :=
  match tbl[q.step]? with
  | some (.col _ inc _ _) => { q with step := q.step + 1, sec := if inc then q.sec + 1 else q.sec }
  | _ => { q with step := q.step + 1 }

/-- A granted pointer issues its command and moves on; a WAIT step behind the command holds it for COUNT CCLK after this one (R170). -/
def State.issuePtr (s : State) (h p : Nat) (q : Ptr) (w : Wanted) (who : Issuer) : State :=
  let t := s.issue h p w who (some q)
  let x := t.pc h p
  if q.op = opReopen then
    let y := x.bank q.bank
    t.setPc h p (x.setBank q.bank { y with ptr := y.saved.map (·.1), saved := none })
  else
    let x := if q.op = 4 ∧ w.e.effect = 4 then x.setBank q.bank { x.bank q.bank with latch := some q.req } else x
    match t.stepsOf h p with
    | some tbl =>
      let q' := stepPast tbl.steps q
      let q' := if q.op = 12 ∧ w.e.effect = 10 then { q' with mr := q.mr + 1 } else q'
      (t.setPc h p (x.setPtr q')).advanceAt h p q' (s.cyc + 1)
    | none => t

/-! ## The scheduler loads a pointer (R155 to R158, R170) -/

/-- Whether rank-2 or higher requests keep their bank from younger ones (R157): the banks of requests passed over. -/
def PcSt.blocks (x : PcSt) (e : QEnt) : Bool := x.rank e ≤ 2

def newPtr (op step req bank row : Nat) (emerg : Bool) : Ptr :=
  { op := op, step := step, req := req, bank := bank, row := row, pass := 0, sec := 0, waitTo := 0, emerg := emerg }

/-- A group that has begun keeps its bank from every other request until each member has issued: they share one activate (R160). -/
def PcSt.groupKeeps (x : PcSt) (e : QEnt) : Bool :=
  x.groups.any fun g => g.bank == e.r.bank && g.begun && e.grp != some g.id && x.queue.any fun y => y.grp == some g.id && !y.ended && y.rdIssued == 0

/-- The pointer a request would take, if its bank's is free and no latch, group or activate barred by a neighbour refresh stands in the way (R160, R163, R166, R200). -/
def State.ptrFor (s : State) (h p : Nat) (e : QEnt) : Option Ptr :=
  let x := s.pc h p
  let b := x.bank e.r.bank
  if b.ptr.isSome || b.latch.isSome || b.saved.isSome || x.wide.isSome || x.groupKeeps e then none
  else
    let st := b.stateFor (some e.r.row)
    if st == 1 && !b.nbr.isEmpty then none
    else (s.stepsOf h p).bind fun t => (t.entry e.r.operation st).map fun i => newPtr e.r.operation i e.r.id e.r.bank e.r.row false

/-- The first request of the ranking whose next command is legal (R155); a request of rank 1 or 2 that cannot go keeps its bank (R157). -/
def State.pick (s : State) (h p : Nat) : List QEnt → List Nat → Option (QEnt × Ptr)
  | [], _ => none
  | e :: t, banks =>
    let x := s.pc h p
    let next := if x.blocks e then e.r.bank :: banks else banks
    if banks.contains e.r.bank then s.pick h p t next
    else match s.ptrFor h p e with
      | none => s.pick h p t next
      | some q =>
        match s.stepsOf h p with
        | none => none
        | some tbl =>
          match walk tbl.steps x s.cyc walkFuel q [] with
          | (some q', _) =>
            match s.wanted h p q' with
            | some w =>
              if x.slotFree s.cyc w.e.column && s.legal h p w.e.tclass (if w.e.namesBank then some w.args.bank else none)
              then some (e, q) else s.pick h p t next
            | none => s.pick h p t next
          | (none, _) => s.pick h p t next

/-- Scheduling stops outside normal service (R167, R168, R200, R235, R237). -/
def PcSt.schedules (x : PcSt) : Bool :=
  !x.halt && x.replay.isNone && x.pauseFrom.isNone && x.sr == .awake && !x.trnHalted && x.wide.isNone

/-- One choice of the scheduler in a CCLK (R155). -/
def State.schedule (s : State) (h p : Nat) : State :=
  let x := s.pc h p
  if x.schedules then
    match s.pick h p (x.ranked s.cyc) [] with
    | none => s
    | some (e, q) =>
      let t := s.setPc h p { x.setPtr q with groups := x.groups.map fun g => if e.grp = some g.id then { g with begun := true } else g }
      let t := t.tally h 0x04 (some p) [x.rank e] (some e.r.cas) 1
      let t := if x.rank e = 2 then t.count .PC_SCHED_CNT_AGED top16 h p 0 1 else t
      t.advance h p q
  else s

/-! ## The command-slot arbiter (R165 to R168) -/

/-- The order of a pointer's requester in R165. -/
def PcSt.order (x : PcSt) (q : Ptr) : Nat :=
  if q.emerg then 1
  else if q.op = 7 ∨ q.op = 8 then 3
  else if q.op = 5 ∨ q.op = 6 ∨ q.op = 9 ∨ q.op = 10 then 4
  else if q.op = 11 ∨ q.op = 12 ∨ q.op = 13 ∨ q.op = 14 then 5
  else match x.entry q.req with
    | some e => if e.r.cls = .urgent then 6 else 7
    | none => 7

def holderCode (order : Nat) : Nat :=
  match order with
  | 1 => 1
  | 2 => 2
  | 3 => 3
  | 4 => 3
  | 5 => 4
  | 6 => 5
  | 7 => 6
  | _ => 7

def issuerOf (order : Nat) : Issuer :=
  match order with
  | 1 => .emergency
  | 3 => .refresh
  | 4 => .refresh
  | 5 => .retrain
  | 6 => .scheduler
  | 7 => .scheduler
  | _ => .debug

/-- A pseudo-channel-wide pointer. -/
def Ptr.isWide (q : Ptr) : Bool := decide (6 ≤ q.op) && q.op != 7 && q.op != 8 && q.op != opReopen

/-- Step 1 of a replay is over: the alert has ended, and PAR_LAT has passed since the first word of the last command (R240). -/
def State.replayWaited (s : State) (h p : Nat) (r : ReplaySt) : Bool :=
  r.ready || (decide (r.alertTo ≤ s.cyc) && match s.timingOf h p (s.pc h p).tset with
    | some ts => decide (ts.parLat ≤ 2 * (s.cyc - (((s.pc h p).hist.head?.map (·.at_)).getD 0)))
    | none => false)

def portKey (h st : Nat) : Nat := 3 * h + st
def State.port (s : State) (h st : Nat) : PortSt := Tab.get PortSt.reset s.ports (portKey h st)

/-- A bank of a pseudo-channel is under a hard repair's program step: only refresh issues to it (R272). -/
def State.programs (s : State) (h p b : Nat) : Bool :=
  let x := s.port h (stackOf p)
  x.program && x.repair.any fun r => r.pc == p && r.bank == b

/-- Whether the state of the pseudo-channel lets a requester issue (R167, R168, R200, R210, R214, R235, R237): in a replay the emergency requester at its step 2; in a debug halt it, a hinge's own commands and a pause that had begun. -/
def State.mayIssue (s : State) (h p : Nat) (q : Ptr) (w : Wanted) : Bool :=
  let x := s.pc h p
  let o := x.order q
  (x.replay.all fun r => o == 1 && r.phase == 0 && s.replayWaited h p r) &&
  (!x.halt || o == 1 || (q.isWide && s.hinge.step != 0) || x.pauseFrom.isSome) && (x.pauseFrom.isNone || o == 5) &&
  (!x.trnHalted || o ≤ 5) && !(o ≥ 6 && w.e.effect == 1 && !(x.bank q.bank).nbr.isEmpty) &&
  (o == 1 || q.isWide || q.op == 5 || !s.programs h p q.bank) &&
  ((x.bank q.bank).latch.isNone || o ≤ 1 || (x.bank q.bank).latch == some q.req || 11 ≤ q.op)

/-- A pointer whose command may take a slot now. -/
def State.grantable (s : State) (h p : Nat) (column : Bool) (q : Ptr) : Option (Ptr × Wanted) :=
  match s.wanted h p q with
  | some w =>
    if w.e.column == column && (s.pc h p).slotFree s.cyc column && s.mayIssue h p q w &&
      s.legal h p w.e.tclass (if w.e.namesBank then some w.args.bank else none) then some (q, w) else none
  | none => none

/-- Debug's turn (R165 to R167, R186): halted it comes second, otherwise last. -/
def State.debugWanted (s : State) (h p : Nat) : Option (Wanted × Bool) :=
  let x := s.pc h p
  match x.dbg, s.profileOf h p with
  | some v, some f =>
    let n := v.toNat
    (f.cmd (n % 32)).map fun e =>
      if v.getLsbD 5 then
        ({ e := { e with pattern := BitVec.ofNat 64 (n / 2 ^ 6 % 2 ^ 44), inserts := e.inserts.filter fun i => i.source = 7 },
           args := ⟨0, 0, 0, 0, 0⟩ }, true)
      else ({ e := e, args := ⟨n / 2 ^ 6 % 64, n / 2 ^ 19 % 2 ^ 18, n / 2 ^ 12 % 128, 0, n / 2 ^ 37 % 256⟩ }, false)
  | _, _ => none

/-- The debug command issues (R186): a RAW one changes no bank state. -/
def State.issueDebug (s : State) (h p : Nat) (w : Wanted) (raw : Bool) : State :=
  let t := s.issue h p w .debug none raw
  let t := if raw ∧ w.e.effect = 1 then t.count .PC_SEQ_CNT_ACTS top32 h p 0 1 else t
  t.setPc h p { t.pc h p with dbg := none, holder := if w.e.column then (t.pc h p).holder else if (t.pc h p).halt then 2 else 7 }

/-- A command of requester 7 that a latch or a pending neighbour refresh bars (R163, R166, R200); one that names no bank meets every latch. -/
def PcSt.debugBarred (x : PcSt) (e : CmdEntry) (bank : Option Nat) : Bool :=
  match bank with
  | some b => (x.bank b).latch.isSome || (e.effect == 1 && !(x.bank b).nbr.isEmpty)
  | none => x.banks.any fun b => b.2.latch.isSome

def State.debugMay (s : State) (h p : Nat) (column : Bool) : Option (Wanted × Bool) :=
  let x := s.pc h p
  match s.debugWanted h p with
  | some (w, raw) =>
    let bank := if w.e.namesBank then some w.args.bank else none
    if w.e.column == column && x.slotFree s.cyc column && s.legal h p w.e.tclass bank && x.replay.isNone && x.pauseFrom.isNone &&
      !x.trnHalted && decide (s.hinge.step < 3) && (x.halt || !x.debugBarred w.e bank) &&
      (!s.knowsClosed h h (stackOf p) || !x.queue.isEmpty) && bank.all (fun b => !s.programs h p b) then some (w, raw) else none
  | none => none

/-- The best of the grantable pointers by R165: lowest order, then the scheduler's rank and age, then bank order. -/
def PcSt.better (x : PcSt) (a b : Ptr) : Bool :=
  let ra := match x.entry a.req with | some e => x.rank e * 2 ^ 70 + x.ageKey e | none => 0
  let rb := match x.entry b.req with | some e => x.rank e * 2 ^ 70 + x.ageKey e | none => 0
  decide (x.order a < x.order b) || (x.order a == x.order b && decide (ra < rb))

/-- Grant one slot (R165). -/
def State.grantSlot (s : State) (h p : Nat) (column : Bool) (used : List Ptr) : State × List Ptr :=
  let x := s.pc h p
  let l := (x.ptrs.filter fun q => !(used.any fun u => u.bank == q.bank && u.op == q.op && u.req == q.req)).filterMap (s.grantable h p column)
  let best := l.foldl (fun b g => match b with | none => some g | some c => if x.better g.1 c.1 then some g else b) (none : Option (Ptr × Wanted))
  match best, s.debugMay h p column with
  | some (q, w), d =>
    if x.order q != 1 && x.halt && d.isSome && s.hinge.step == 0 && x.pauseFrom.isNone then
      match d with
      | some (dw, raw) => (s.issueDebug h p dw raw, used)
      | none => (s, used)
    else
      let t := s.issuePtr h p q w (issuerOf (x.order q))
      (if column then t else t.setPc h p { t.pc h p with holder := holderCode (x.order q) }, q :: used)
  | none, some (dw, raw) => (s.issueDebug h p dw raw, used)
  | none, none => (s, used)

/-- R239: with 64 commands held nothing issues, and the CCLK is counted. -/
def State.retryFull (s : State) (h p : Nat) : Bool := decide (64 ≤ (s.pc h p).retry.length)

/-! ## Self-refresh entry and pauses go on by themselves (R194, R235) -/

/-- The largest bank debt. -/
def PcSt.maxDebt (x : PcSt) : Nat := x.banks.foldl (fun m b => Nat.max m b.2.debt) 0

def PcSt.anyOpen (x : PcSt) : Bool := x.banks.any fun b => b.2.row.isSome

/-- Load a pseudo-channel-wide operation. -/
def State.loadWide (s : State) (h p op : Nat) (emerg : Bool) : State :=
  match (s.stepsOf h p).bind fun t => t.entry op 0 with
  | some i =>
    let q := newPtr op i 0 0 0 emerg
    (s.setPc h p { s.pc h p with wide := some q }).advance h p q
  | none => s

/-- A pseudo-channel-wide operation run from its pointer to its END step as one event (log entry 106): what its steps issue, in order. -/
def State.runPtr (s : State) (h p : Nat) (tbl : List Step) : Nat → Ptr → State
  | 0, _ => s
  | n + 1, q =>
    match walk tbl (s.pc h p) s.cyc walkFuel q [] with
    | (none, ev) => (s.events h p q ev).endOp h p q
    | (some r, ev) =>
      let t := s.events h p r ev
      match t.wanted h p { r with waitTo := 0 } with
      | some w => (t.issue h p w .refresh (some r)).runPtr h p tbl n { stepPast tbl r with mr := if r.op = 12 ∧ w.e.effect = 10 then r.mr + 1 else r.mr }
      | none => t.runPtr h p tbl n { r with step := r.step + 1, waitTo := 0 }

/-- The most commands an operation run at once issues: every pass of a body of its 256-step table (R173). -/
def runFuel : Nat := 65536

/-- A step of bring-up runs a pseudo-channel-wide operation to its end. -/
def State.runWide (s : State) (h p op : Nat) : State :=
  match s.stepsOf h p with
  | some t =>
    match t.entry op 0 with
    | some i => s.runPtr h p t.steps runFuel (newPtr op i 0 0 0 false)
    | none => s
  | none => s

def State.runWides (s : State) (h p : Nat) (ops : List Nat) : State := ops.foldl (fun t op => t.runWide h p op) s

/-- CCLK that the 32 bursts of a pause take, 2 each (R235; log entry 105). -/
def pauseBursts : Nat := 64

/-- The bursts between RETRAIN_ENTRY and RETRAIN_EXIT have run. -/
def PcSt.burstsOver (x : PcSt) (now : Nat) : Bool := x.burstAt.all fun b => decide (b + pauseBursts ≤ now)

/-- The next pseudo-channel-wide operation of a sequence begins. -/
def State.wideProgress (s : State) (h p : Nat) : State :=
  let x := s.pc h p
  match x.wide, x.wideNext with
  | none, op :: rest =>
    if x.banks.all (fun b => b.2.ptr.isNone) && x.replay.isNone && (op != 14 || x.burstsOver s.cyc) then
      (s.setPc h p { x with wideNext := rest }).loadWide h p op false else s
  | _, _ => s

/-- An entry into self-refresh that has begun: pending neighbour refreshes come first (R200); then close the rows, pay the debt, then SR_ENTRY (R194). -/
def State.srProgress (s : State) (h p : Nat) : State :=
  let x := s.pc h p
  if x.sr = .entering ∧ x.wide = none ∧ x.wideNext = [] ∧ x.replay = none ∧ x.banks.all (fun b => b.2.ptr.isNone && b.2.nbr.isEmpty) then
    if x.anyOpen then s.loadWide h p 11 false
    else if 0 < x.maxDebt then s.loadWide h p 6 false
    else s.loadWide h p 9 false
  else s

/-! ## Single events of the controller -/

/-- Marks of age are judged against the present ceiling (R155). -/
def State.ageMarks (s : State) (h p : Nat) : State :=
  s.setPc h p ((s.pc h p).refreshMarks s.timerCyc (s.ageCeil h p))

/-- The WAIT step of a bank's pointer has run its COUNT (R173). -/
def State.waitDone (s : State) (h p b : Nat) : State :=
  match ((s.pc h p).bank b).ptr with
  | some q => if q.waitTo ≠ 0 ∧ q.waitTo ≤ s.cyc then s.advance h p q else s
  | none => s

/-- The merge window of a bank's groups ends (R160). -/
def State.mergeWindow (s : State) (h p b : Nat) : State :=
  let x := s.pc h p
  s.setPc h p { x with groups := x.groups.map fun g => if g.bank = b ∧ g.start + 16 ≤ s.timerCyc then { g with rankable := true } else g }

/-! ## Returned reads (R150, R247 to R255) -/

/-- The first burst at the head of which a whole read stands ready: its request. -/
def State.readReady (s : State) (h p : Nat) : Option QEnt :=
  let x := s.pc h p
  x.queue.find? fun e => !e.r.write && x.flight.any (fun b => b.req == e.r.id) &&
    (e.r.sectors.all fun n => x.flight.any fun b => b.req == e.r.id && b.sec == n && decide (b.ready ≤ s.cyc))

/-- Decode the bursts of a read in sector order with the error patterns of the stack's answer. -/
def decodeBursts (bs : List Burst) (errs : List BurstError) : List (Nat × SectorOutcome × BitVec 256) :=
  (bs.zipIdx).map fun b => (b.1.sec, decodeSector (disturb (errs.getD b.2 []) (b.1.data, b.1.chk)).1 (disturb (errs.getD b.2 []) (b.1.data, b.1.chk)).2)

/-- The status of a read from its sectors (R13, R254). -/
def readStatus (l : List (Nat × SectorOutcome × BitVec 256)) : Status :=
  if l.any fun x => x.2.1 == .bad then .uncorrectable
  else if l.any fun x => x.2.1 == .poison then .poisonRead
  else .done

def gatherData (l : List (Nat × SectorOutcome × BitVec 256)) : Block :=
  l.foldl (fun d x => d ||| BitVec.ofNat 2048 (x.2.2.toNat * 2 ^ (256 * x.1))) 0

def gatherMarks (l : List (Nat × SectorOutcome × BitVec 256)) (f : SectorOutcome → Bool) : BitVec 8 :=
  l.foldl (fun d x => if f x.2.1 then d ||| BitVec.ofNat 8 (2 ^ x.1) else d) 0

/-- A read leaves the queue with its answer; the data of a casement that was reset is discarded (R151). -/
def State.answerRead (s : State) (h p : Nat) (e : QEnt) (l : List (Nat × SectorOutcome × BitVec 256)) : State :=
  let st := if e.drop then .casementReset else readStatus l
  let t := ((s.freeEntry h p e).sampleDone e st)
  if e.drop then t.finishBare e.r st
  else t.finish e.r st (gatherData l) (gatherMarks l fun o => o == .bad || o == .poison) (gatherMarks l fun o => o == .poison)

/-- A sweep rewrites each correctable sector with a fresh code, unless it was written meanwhile (R260). -/
def State.rewrite (s : State) (r : Req) (b : Burst) (x : Nat × SectorOutcome × BitVec 256) : State :=
  let key := sectorKey r.hub r.pc r.bank r.row (r.col + x.1)
  match x.2.1 with
  | .fixed _ _ => if s.storedData key = b.data ∧ s.storedCheck key = b.chk then s.storeSector key x.2.2 else s
  | _ => s

/-- READ_RETURN: the bursts of the first complete read pass the ECC unit (R247). `sweep` tells a SCRUB's reads. -/
def State.readReturn (s : State) (h p : Nat) (errs : List BurstError) (sweep : Req → Bool) : State :=
  match s.readReady h p with
  | none => s
  | some e =>
    let x := s.pc h p
    let bs := e.r.sectors.filterMap fun n => x.flight.find? fun b => b.req == e.r.id && b.sec == n
    let l := decodeBursts bs errs
    let t := s.setPc h p { x with flight := x.flight.filter fun b => b.req != e.r.id }
    let t := l.foldl (fun t y => t.noteRead e.r y.1 y.2.1) t
    let t := if sweep e.r then (bs.zip l).foldl (fun t z => t.rewrite e.r z.1 z.2) t else t
    let mates := (bs.flatMap (·.also)).filterMap fun id => x.entry id
    let t := t.answerRead h p e l
    mates.foldl (fun t m => t.answerRead h p m l) t

/-- The first read-modify-write whose sector reads are complete (R162). -/
def State.mergeReady (s : State) (h p : Nat) : Option QEnt :=
  let x := s.pc h p
  x.queue.find? fun e => e.r.write && x.flight.any (fun b => b.req == e.r.id) &&
    ((x.flight.filter fun b => b.req == e.r.id).all fun b => decide (b.ready ≤ s.cyc))

/-- One sector of a read-modify-write is checked and merged, or marked for the poison word (R255). -/
def mergeOne (e : QEnt) (x : Nat × SectorOutcome × BitVec 256) : QEnt :=
  let bit := BitVec.ofNat 8 (2 ^ x.1)
  match x.2.1 with
  | .bad => { e with merged := e.merged ||| bit, bad := e.bad ||| bit }
  | .poison => { e with merged := e.merged ||| bit, bad := e.bad ||| bit }
  | _ =>
    let m := mergeSector x.2.2 (sectorOf e.r.data x.1) (sectorMask e.r.mask x.1)
    let d := (e.r.data &&& ~~~ (BitVec.ofNat 2048 ((2 ^ 256 - 1) * 2 ^ (256 * x.1)))) ||| BitVec.ofNat 2048 (m.toNat * 2 ^ (256 * x.1))
    { e with merged := e.merged ||| bit, r := { e.r with data := d } }

/-- MERGE (R255): the sectors read are decoded, noted and merged; the sequence's write passes go on. -/
def State.merge (s : State) (h p : Nat) (errs : List BurstError) : State :=
  match s.mergeReady h p with
  | none => s
  | some e =>
    let x := s.pc h p
    let bs := x.flight.filter fun b => b.req == e.r.id
    let l := decodeBursts bs errs
    let e' := l.foldl mergeOne e
    let t := l.foldl (fun t y => t.noteMerge e.r y.1 y.2.1) s
    t.setPc h p { (t.pc h p).setEntry e' with flight := x.flight.filter fun b => b.req != e.r.id }

/-! ## Debug (R167, R186) -/

/-- HALTED (R167): the halt is complete once no issued read is on its way. -/
def State.debugHalted (s : State) (h p : Nat) : State :=
  let x := s.pc h p
  if x.halt ∧ x.flight = [] then s.setPc h p { x with halted := true } else s

/-- A PC_DEBUG_CMD write is accepted, or discarded for the reason given (R186). -/
def State.debugCmdCheck (s : State) (h p : Nat) (v : Word) : Option Nat :=
  if (s.pc h p).dbg.isSome then some 3
  else match (s.profileOf h p).bind fun f => f.cmd (v.toNat % 32) with
    | none => some 2
    | some _ => if !v.getLsbD 5 && decide (s.banksOf h p ≤ v.toNat / 2 ^ 6 % 64) then some 2 else none

def State.debugCmd (s : State) (h p : Nat) (v : Word) : State :=
  s.setPc h p { s.pc h p with dbg := some v, dbgOps := v }

end Sys2Proof.Machine
end

