-- ==== Sys2Proof/Machine/Refresh.lean ====
section
/-! DEFINITION. Refresh, self-refresh, row disturbance and command replay (chapters 10 and 12). -/

namespace Sys2Proof.Machine

/-! ## Dues (R188, R189, R197) -/

/-- A stack refreshed at double rate: hot, or its reading stale (R197). -/
def State.doubleRate (s : State) (h st : Nat) : Bool :=
  (s.rd .HUB_REF_CFG_HOT h 0 0 ||| s.rd .HUB_REF_CFG_STALE h 0 0).testBit st

/-- T in ticks (R188, R197). -/
def State.window (s : State) (h p : Nat) : Nat :=
  ((s.refreshCfg h).map (·.windowMs)).getD 32 * (if s.doubleRate h (stackOf p) then 50000 else 100000)

def State.refs (s : State) (h : Nat) : Nat := ((s.refreshCfg h).map (·.refs)).getD 8192
def State.postponeMax (s : State) (h : Nat) : Nat := ((s.refreshCfg h).map (·.postponeMax)).getD 8

/-- The tick of the n-th due to come of bank b (n from 1), per-bank mode (R188). -/
def State.dueTick (s : State) (h p b n : Nat) : Option Nat :=
  let x := s.pc h p
  let y := x.bank b
  let bs := s.banksOf h p
  match y.dueFrom with
  | some f => some (f + (y.dueK + n) * s.window h p / s.refs h)
  | none => x.refStart.map fun st => st + ((y.dueK + n) * bs + b) * s.window h p / (s.refs h * bs)

/-- The same for the pseudo-channel in all-bank mode. -/
def State.wideDueTick (s : State) (h p n : Nat) : Option Nat :=
  let x := s.pc h p
  match x.wideDueFrom with
  | some f => some (f + (x.wideDueK + n) * s.window h p / s.refs h)
  | none => x.refStart.map fun st => st + (x.wideDueK + n) * s.window h p / s.refs h

/-- T is about to change: later dues are counted from the last due raised (R188), later clears from the last clear (R199). -/
def PcSt.reanchor (x : PcSt) : PcSt :=
  { x with wideDueFrom := match x.wideDueLast with | some l => some l | none => x.wideDueFrom,
           wideDueK := if x.wideDueLast.isSome then 0 else x.wideDueK,
           banks := x.banks.map fun b =>
             (b.1, match b.2.dueLast with | some l => { b.2 with dueFrom := some l, dueK := 0 } | none => b.2) }

/-- The tick from which the next clear counts (R199). -/
def PcSt.clearFrom (x : PcSt) : Option Nat := match x.clearLast with | some c => some c | none => x.refStart

/-- Every bank's table is cleared, as of a tick (R199). -/
def PcSt.clearActs (x : PcSt) (at_ : Nat) : PcSt :=
  { x with clearLast := some at_, banks := x.banks.map fun b => (b.1, { b.2 with acts := List.replicate 32 none }) }

/-- T has changed: dues and clears are placed anew, and a clear whose tick has passed happens at once (R188, R199). -/
def State.newRate (s : State) (h p : Nat) : State :=
  let x := (s.pc h p).reanchor
  s.setPc h p (match x.clearFrom with
    | some c => if c + s.window h p ≤ s.now && x.sr != .inSr then x.clearActs s.now else x
    | none => x)

/-- Set the hot and stale marks of a stack; a change of rate places later dues anew (R188, R197). -/
def State.setRate (s : State) (h st : Nat) (hot stale : Bool) : State :=
  let put (t : State) (f : Fld) (v : Bool) : State := if v then (t.clearBit f h 0 0 st).setBit f h 0 0 st else t.clearBit f h 0 0 st
  let t := put (put s .HUB_REF_CFG_HOT hot) .HUB_REF_CFG_STALE stale
  if t.doubleRate h st = s.doubleRate h st then t
  else ((s.pcsOf h).filter fun p => stackOf p == st).foldl (fun t p => t.newRate h p) t

/-- A debt rises by one; at POSTPONE_MAX it stays (R189). -/
def BankSt.owe (b : BankSt) (top : Nat) : BankSt := { b with debt := Nat.min top (b.debt + 1) }

/-- OVERDUE is set and the log takes a REF_OVERDUE entry; bank 0x3F stands for every bank (R189). -/
def State.overdue (s : State) (h p b : Nat) : State :=
  (s.flag .PC_REF_STATUS_OVERDUE h p 0).logEvent h (eventOfPc logRefOverdue p b 0)

/-- A due of one bank, or of every bank in all-bank mode (R188, R189). -/
def State.due (s : State) (h p b : Nat) : State :=
  let x := s.pc h p
  let top := s.postponeMax h
  if x.sr = .inSr ∨ x.sr = .exiting ∨ s.pcIn h p = false then s
  else if x.allBank then
    match s.wideDueTick h p 1 with
    | some t =>
      if t ≤ s.now then
        let full := decide (top ≤ x.maxDebt)
        let y := (List.range (s.banksOf h p)).foldl (fun y b => y.setBank b ((y.bank b).owe top)) x
        let u := s.setPc h p { y with wideDueK := x.wideDueK + 1, wideDueLast := some t }
        if full then u.overdue h p 0x3F else u
      else s
    | none => s
  else if b < s.banksOf h p then
    match s.dueTick h p b 1 with
    | some t =>
      if t ≤ s.now then
        let y := x.bank b
        let u := s.setPc h p (x.setBank b { y.owe top with dueK := y.dueK + 1, dueLast := some t })
        if top ≤ y.debt then u.overdue h p b else u
      else s
    | none => s
  else s

/-! ## Pauses against dues (R234) -/

/-- Dues of bank b within the next len ticks, at most n of them. -/
def State.duesWithin (s : State) (h p b len : Nat) : Nat → Nat
  | 0 => 0
  | n + 1 =>
    let t := if (s.pc h p).allBank then s.wideDueTick h p (n + 1) else s.dueTick h p b (n + 1)
    match t with
    | some v => if v ≤ s.now + len then n + 1 else s.duesWithin h p b len n
    | none => 0

/-- No debt will reach POSTPONE_MAX before a pause of len ticks ends, with debts as given (R234). -/
def State.debtsAllow (s : State) (h p len : Nat) (zero : Bool) : Bool :=
  (List.range (s.banksOf h p)).all fun b =>
    decide ((if zero then 0 else ((s.pc h p).bank b).debt) + s.duesWithin h p b len 16 < s.postponeMax h)

/-- The longest length up to n ticks that zero debts would allow. -/
def State.longestPause (s : State) (h p : Nat) : Nat → Nat
  | 0 => 0
  | n + 1 => if s.debtsAllow h p (n + 1) true then n + 1 else s.longestPause h p n

def State.pauseTicks (s : State) (h p : Nat) : Nat := s.rd .PC_RETRAIN_PAUSE h p 0

/-- The length a pause would have now (R234). -/
def State.pauseFor (s : State) (h p : Nat) : Nat := s.longestPause h p (s.pauseTicks h p)

/-- A pause that is due may begin as far as debts go. -/
def State.pauseOpen (s : State) (h p : Nat) : Bool :=
  let n := s.pauseFor h p
  n != 0 && s.debtsAllow h p n false

/-! ## Refreshes (R190 to R192) -/

/-- A bank is idle: no queued request, no latch, no pointer (R190). -/
def PcSt.idle (x : PcSt) (b : Nat) : Bool :=
  !(x.queue.any fun e => e.r.bank == b) && (x.bank b).latch.isNone && (x.bank b).ptr.isNone && (x.bank b).saved.isNone

/-- The bank of highest debt, lowest number first, among those a test passes (R190). -/
def worstBank (x : PcSt) (n : Nat) (ok : Nat → Bool) : Option Nat :=
  (List.range n).foldl (fun best b =>
    if ok b && decide (1 ≤ (x.bank b).debt) then
      match best with
      | none => some b
      | some c => if (x.bank c).debt < (x.bank b).debt then some b else best
    else best) none

/-- Load a bank's refresh (R190, R191); the sequence in its way is set aside. -/
def State.loadRefresh (s : State) (h p b : Nat) (emerg : Bool) : State :=
  let x := s.pc h p
  let y := x.bank b
  match (s.stepsOf h p).bind fun t => t.entry 5 (if y.row.isSome then 2 else 1) with
  | some i =>
    let q := newPtr 5 i 0 b 0 emerg
    (s.setPc h p { x.setBank b { y.setAside with ptr := some q } with refBank := b }).advance h p q
  | none => s

/-- A neighbour refresh is pending in some bank: within requester 3 it comes first (R200). -/
def PcSt.nbrPending (x : PcSt) : Bool := x.banks.any fun b => !b.2.nbr.isEmpty

/-- The pointer serves a request, and so may be set aside for a command of the refresh logic. -/
def BankSt.yields (y : BankSt) : Bool := y.latch.isNone && y.saved.isNone && y.ptr.all fun q => q.op ≤ 4

/-- The pseudo-channel can take a command of the refresh logic. -/
def PcSt.refreshes (x : PcSt) : Bool := x.sr == .awake && x.replay.isNone && x.pauseFrom.isNone && x.wide.isNone

/-- REF_PB (R190); while a due pause waits for debts, the bank of highest debt, idle or not (R234). -/
def State.refPb (s : State) (h p : Nat) : State :=
  let x := s.pc h p
  if x.allBank || !x.refreshes || !s.pcIn h p || x.nbrPending || s.hinge.step != 0 then s
  else
    let forced := x.pauseDue && !s.pauseOpen h p
    match worstBank x (s.banksOf h p) fun b => forced || x.idle b with
    | some b => if x.idle b || (x.bank b).yields then s.loadRefresh h p b false else s
    | none => s

/-- An emergency refresh is under way. -/
def PcSt.emergRuns (x : PcSt) : Bool := x.ptrs.any fun q => q.emerg

/-- The lowest bank whose debt equals POSTPONE_MAX (R191). -/
def State.emergBank (s : State) (h p : Nat) : Option Nat :=
  (List.range (s.banksOf h p)).find? fun b => ((s.pc h p).bank b).debt == s.postponeMax h

/-- In a replay an emergency refresh is granted at step 2 alone, once step 1 is over (R168, R240). -/
def State.emergOpen (s : State) (h p : Nat) : Bool :=
  (s.pc h p).replay.all fun r => r.phase == 0 && s.replayWaited h p r

/-- Step 1 of a replay is over and stays so while emergency refreshes issue (R240). -/
def PcSt.pastWait (x : PcSt) : PcSt := { x with replay := x.replay.map fun r => { r with ready := true } }

/-- The emergency requester takes bank b's refresh: one that is loaded for it becomes the emergency one. -/
def State.emergPb (s : State) (h p b : Nat) : State :=
  let x := s.pc h p
  match (x.bank b).ptr with
  | some q =>
    if q.op = 5 then s.setPc h p (x.setBank b { x.bank b with ptr := some { q with emerg := true } }) else s.loadRefresh h p b true
  | none => s.loadRefresh h p b true

/-- The same for REF_AB; every bank's sequence is set aside (R163). -/
def State.emergAb (s : State) (h p : Nat) : State :=
  let x := s.pc h p
  match x.wide with
  | some q => s.setPc h p { x with wide := some { q with emerg := true } }
  | none => (s.setPc h p { x with banks := x.banks.map fun z => (z.1, z.2.setAside) }).loadWide h p 6 true

/-- An emergency refresh (R191): of the lowest bank at POSTPONE_MAX, one at a time, or REF_AB. -/
def State.emergency (s : State) (h p : Nat) : State :=
  let x := s.pc h p
  if !(x.sr == .awake || x.sr == .entering) || x.pauseFrom.isSome || !s.pcIn h p || x.emergRuns || !s.emergOpen h p ||
      x.wide.any (fun q => q.op != 6) then s
  else
    match s.emergBank h p with
    | none => s
    | some b =>
      let latched := if x.allBank then x.banks.any fun y => y.2.latch.isSome else (x.bank b).latch.isSome
      let t := s.setPc h p x.pastWait
      let t := t.count .PC_REF_CNT_EMERG top16 h p 0 1
      let t := if latched then t.flag .PC_RMW_PREEMPTED h p 0 else t
      if x.allBank || x.wide.isSome then t.emergAb h p else t.emergPb h p b

/-- REF_AB (R192): debt owed and the queue empty, or a due pause waiting for debts (R234); it waits for latches (R166). -/
def State.refAb (s : State) (h p : Nat) : State :=
  let x := s.pc h p
  if x.allBank && x.refreshes && s.pcIn h p && decide (1 ≤ x.maxDebt) && (x.queue.isEmpty || (x.pauseDue && !s.pauseOpen h p)) &&
      s.hinge.step == 0 && x.banks.all (fun b => b.2.yields && b.2.nbr.isEmpty) then
    (s.setPc h p { x with banks := x.banks.map fun z => (z.1, z.2.setAside) }).loadWide h p 6 false
  else s

/-! ## Self-refresh (R193 to R196) -/

/-- Self-refresh entry by any path (R194): debt is paid, then SR_ENTRY. -/
def State.enterSr (s : State) (h p : Nat) (auto : Bool) : State :=
  let x := s.pc h p
  if x.sr = .awake then s.setPc h p { x with sr := .entering, srAuto := auto } else s

/-- SR_ENTRY (R193): the idle timer has run and the debt is 0. -/
def State.autoSr (s : State) (h p : Nat) : State :=
  let x := s.pc h p
  if x.allBank && x.refreshes && s.pcIn h p && x.queue.isEmpty && x.maxDebt == 0 && !x.nbrPending && s.hinge.step == 0 &&
      decide (x.idleFrom + Config.usTicks ((s.refreshCfg h).map (·.srIdleUs) |>.getD 0) ≤ s.now) && s.clk.run then
    s.enterSr h p true
  else s

/-- Begin SR_EXIT (R196). -/
def State.exitSr (s : State) (h p : Nat) : State :=
  let x := s.pc h p
  if x.sr = .inSr ∧ x.wide = none then s.loadWide h p 10 false else s

/-- SR_EXIT (R196): a request has been admitted to a pseudo-channel in auto self-refresh. -/
def State.autoExit (s : State) (h p : Nat) : State :=
  let x := s.pc h p
  if x.srAuto ∧ x.queue ≠ [] ∧ s.clk.run then s.exitSr h p else s

/-- ACT_TABLE_CLEAR (R199): the next multiple of T after the last clear has come. -/
def State.clearTables (s : State) (h p : Nat) : State :=
  let x := s.pc h p
  match x.clearFrom with
  | some c => if c + s.window h p ≤ s.now then s.setPc h p (x.clearActs (c + s.window h p)) else s
  | none => s

/-! ## Neighbours (R201, R205, R206) -/

def bitOf (x n : Nat) : Nat := x / 2 ^ n % 2

/-- Apply one rule of a descriptor (R205). -/
def adjRule (q : Nat) (r : Nat × Nat) : Nat := if bitOf q r.1 = 1 then q ^^^ r.2 else q

/-- The physical position of a logical row (R205). -/
def AdjacencyCfg.position (a : AdjacencyCfg) (row : Nat) : Nat :=
  let q := (List.range a.rowBits).foldl (fun v j => v + bitOf row (a.perm.getD j j) * 2 ^ j) 0
  a.rules.foldl adjRule q

/-- The logical row at a physical position: the rules in reverse order, then the inverse permutation (R205). -/
def AdjacencyCfg.rowAt (a : AdjacencyCfg) (pos : Nat) : Nat :=
  let q := a.rules.reverse.foldl adjRule pos
  (List.range a.rowBits).foldl (fun v j => v + bitOf q j * 2 ^ a.perm.getD j j) 0

/-- The neighbour at a position, unless R206 skips it. -/
def AdjacencyCfg.neighbour (a : AdjacencyCfg) (p rows : Nat) (pos : Int) : Option Nat :=
  if pos < 0 then none
  else
    let q := pos.toNat
    if 2 ^ a.rowBits ≤ q then none
    else if a.subLog2 ≠ 0 ∧ q / 2 ^ a.subLog2 ≠ p / 2 ^ a.subLog2 then none
    else
      let r := a.rowAt q
      if rows ≤ r then none else some r

/-- The neighbours of a row in the order of R201: -1, +1, -2, +2 and so on. -/
def AdjacencyCfg.neighbours (a : AdjacencyCfg) (row rows radius : Nat) : List Nat :=
  let p := a.position row
  (List.range radius).flatMap fun (d : Nat) =>
    (a.neighbour p rows ((p : Int) - (d + 1))).toList ++ (a.neighbour p rows ((p : Int) + (d + 1))).toList

/-- The pseudo-channel can take a neighbour refresh: it comes before a self-refresh entry too (R200). -/
def PcSt.mitigates (x : PcSt) : Bool := (x.sr == .awake || x.sr == .entering) && x.replay.isNone && x.pauseFrom.isNone && x.wide.isNone

/-- A neighbour refresh meets a sequence it waits for: any but one whose next command is an activate, which R200 holds until the refresh is over. -/
def State.nbrMet (s : State) (h p b : Nat) : Bool :=
  let y := (s.pc h p).bank b
  y.latch.isSome || y.ptr.any fun q => !((q.op == opReopen && !q.emerg) || (decide (q.op ≤ 4) && (s.wanted h p q).any fun w => w.e.effect == 1))

/-- The next operation of a pending neighbour refresh (R200, R201). -/
def State.neighbourRefresh (s : State) (h p b : Nat) : State :=
  let x := s.pc h p
  let y := x.bank b
  match y.nbr, s.disturbCfg h with
  | row :: _, some d =>
    if !x.mitigates || s.nbrMet h p b then s
    else
      let st := if y.row.isSome then 2 else 1
      let load (op r : Nat) (t : State) : State :=
        match (t.stepsOf h p).bind fun tb => tb.entry op st with
        | some i =>
          let q := newPtr op i 0 b r false
          (t.setPc h p { (t.pc h p).setBank b { ((t.pc h p).bank b).setAside with ptr := some q } with nbrAt := (b, r) }).advance h p q
        | none => t
      if d.method = 0 then load 7 row s
      else match y.nbrLeft with
        | some (r :: _) => load 8 r s
        | _ =>
          let l := ((s.adjacencyOf h p).map fun a => a.neighbours row (s.rowsOf h p) d.radius).getD []
          match l with
          | [] => s.nbrDone h p b
          | r :: _ => load 8 r (s.setPc h p (x.setBank b { y with nbrLeft := some l }))
  | _, _ => s

/-! ## Halting a pseudo-channel (R237) -/

def State.haltPc (s : State) (h p : Nat) : State :=
  (s.setPc h p { s.pc h p with trnHalted := true }).flag .HUB_INT_STATUS_PC_HALT h 0 0

/-! ## Replay (R240 to R243) -/

/-- Bank order (R240). -/
def insertBank (b : Nat × Nat) : List (Nat × Nat) → List (Nat × Nat)
  | [] => [b]
  | c :: t => if b.1 ≤ c.1 then b :: c :: t else c :: insertBank b t

def byBank (l : List (Nat × Nat)) : List (Nat × Nat) := l.foldr insertBank []

/-- The replay that an alert of `len` CCLK starts: the commands held, the rows open before the oldest of them, and the buffer empty for what issues from now on (R240, R241). -/
def PcSt.beginReplay (x : PcSt) (start now len : Nat) (rows : List (Nat × Nat)) (held : List RetryEnt) : PcSt :=
  { x with retry := [], retryOpen := [],
           flight := x.flight.filter fun b => !(held.any fun y => y.req == b.req && y.sec == b.sec),
           replay := some { start := start, phase := 0, rows := byBank rows, restore := byBank rows, held := held, alertTo := now + len } }

/-- An alert ends a pause, which is due again at once; the sequences it set aside go on after the replay (R243). -/
def PcSt.cutPause (x : PcSt) : PcSt :=
  if x.pauseFrom.isNone then x
  else
    let own (op : Nat) : Bool := op == 11 || op == 13 || op == 14
    { x with pauseFrom := none, pauseDue := true, burstAt := none, wideNext := x.wideNext.filter (fun op => !own op),
             wide := if x.wide.any (fun q : Ptr => own q.op) then none else x.wide }.resumeAll false

/-- What an alert does to one pseudo-channel: it stops and waits to replay; a replay in progress starts over (R240, R242, R243). -/
def State.alert (s : State) (h p len : Nat) : State :=
  let s := s.retryTrim h p
  let x := (s.pc h p).cutPause
  match x.replay with
  | none => (s.setPc h p (x.beginReplay s.cyc s.cyc len x.retryOpen x.retry)).wr .PC_REPLAY_STREAK h p 0 0
  | some r =>
    let y := if r.phase = 2 ∧ r.restore = [] then x.beginReplay r.start s.cyc len x.retryOpen (x.retry ++ r.held)
      else x.beginReplay r.start s.cyc len r.rows r.held
    (s.setPc h p y).wr .PC_REPLAY_STREAK h p 0 (Nat.min 7 (s.rd .PC_REPLAY_STREAK h p 0 + 1))

/-- Four replays in succession have each been ended by an alert (R242). -/
def State.replaysFail (s : State) (h p : Nat) : Bool := decide (4 ≤ s.rd .PC_REPLAY_STREAK h p 0)

/-- A pseudo-channel is halted in its replay (R242). -/
def State.haltReplay (s : State) (h p : Nat) : State := (s.setPc h p { s.pc h p with replay := none }).haltPc h p

/-- PARITY_ALERT of `len` CCLK: both pseudo-channels of the channel stop (R240); after the fourth replay ended so, both are halted (R242). -/
def State.parityAlert (s : State) (h n len : Nat) : State :=
  if ((s.profileOf h (2 * n)).map (·.parity)).getD false then
    let t := (s.alert h (2 * n) len).alert h (2 * n + 1) len
    if t.replaysFail h (2 * n) || t.replaysFail h (2 * n + 1) then (t.haltReplay h (2 * n)).haltReplay h (2 * n + 1) else t
  else s

/-- Step 3 of R240: PRE_ALL, once step 1 is over and no emergency refresh is due or under way. -/
def State.replayClose (s : State) (h p : Nat) (r : ReplaySt) : State :=
  let x := s.pc h p
  match (s.profileOf h p).bind fun f => f.cmdByEffect 3 with
  | some e =>
    if s.replayWaited h p r && (s.emergBank h p).isNone && !x.emergRuns && x.slotFree s.cyc e.column && s.legal h p e.tclass none then
      let t := s.issue h p ⟨e, ⟨0, 0, 0, 0, 0⟩⟩ .replay none
      t.setPc h p { t.pc h p with replay := some { r with phase := 2, ready := true } }
    else s
  | none => s

/-- Step 4 of R240: the next row is restored. -/
def State.replayRestore (s : State) (h p b row : Nat) (rest : List (Nat × Nat)) (r : ReplaySt) : State :=
  let x := s.pc h p
  match (s.profileOf h p).bind fun f => f.cmdByEffect 1 with
  | some e =>
    if x.slotFree s.cyc e.column && s.legal h p e.tclass (some b) then
      let t := s.issue h p ⟨e, ⟨b, row, 0, 0, 0⟩⟩ .replay none
      t.setPc h p { t.pc h p with replay := some { r with restore := rest } }
    else s
  | none => s

/-- A held command issues again with its own words (R241): an activate is counted as R198 counts it, a read delivers its data anew, a write carries its held data, and a refresh lowers no debt. -/
def State.reissue (s : State) (h p : Nat) (e : CmdEntry) (y : RetryEnt) : State :=
  let t := s.drive h p e { y with at_ := s.cyc }
  let x := t.pc h p
  let b := y.bank.getD 0
  let key := sectorKey h p b ((x.bank b).row.getD y.row) y.col
  match (if y.raw then 0 else e.effect) with
  | 1 =>
    let t := (t.count .PC_SEQ_CNT_ACTS top32 h p 0 1).tally h 0x05 (some p) [] none 1
    let t := t.setPc h p ((t.pc h p).setBank b { (t.pc h p).bank b with row := some y.row })
    if y.op = 8 then t else t.countAct h p b y.row
  | 2 => t.setPc h p (x.setBank b { x.bank b with row := none })
  | 3 => t.setPc h p x.closeAll
  | 4 =>
    if (x.entry y.req).isSome then
      let rl := ((t.timingOf h p x.tset).map (·.rl)).getD 0
      t.setPc h p { x with flight := x.flight ++ [{ req := y.req, sec := y.sec, also := y.also, data := t.storedData key, chk := t.storedCheck key,
                                                    ready := t.cyc + (rl + 1) / 2 + 4 }] }
    else t
  | 5 => if y.poison then t.storePoison key else t.storeSector key y.data
  | 8 => (t.count .PC_REF_CNT_REFS top16 h p 0 1).tally h 0x0A (some p) [0] none 1
  | 9 => (t.count .PC_REF_CNT_REFS top16 h p 0 1).tally h 0x0A (some p) [0] none 1
  | _ => t

/-- Step 5 of R240: the oldest held command, at the first CCLK that R178 allows. -/
def State.replayNext (s : State) (h p : Nat) (y : RetryEnt) (rest : List RetryEnt) (r : ReplaySt) : State :=
  let x := s.pc h p
  match (s.profileOf h p).bind fun f => f.cmd y.code with
  | some e =>
    if x.slotFree s.cyc e.column && s.legal h p e.tclass y.bank then
      let t := s.reissue h p e y
      t.setPc h p { t.pc h p with replay := some { r with held := rest } }
    else s
  | none => s.setPc h p { x with replay := some { r with held := rest } }

/-- A CCLK in which 64 held commands keep the pseudo-channel from issuing is counted once (R239). -/
def State.retryStall (s : State) (h p : Nat) : State :=
  let x := s.pc h p
  if x.stallAt = s.cyc + 1 then s else (s.setPc h p { x with stallAt := s.cyc + 1 }).count .PC_REPLAY_DEPTH_STALLS top16 h p 0 1

/-- REPLAY (R240): the procedure goes one command on. -/
def State.replayStep (s : State) (h p : Nat) : State :=
  let s := s.retryTrim h p
  match (s.pc h p).replay with
  | none => s
  | some r =>
    if s.retryFull h p then s.retryStall h p
    else if r.phase = 0 then s.replayClose h p r
    else match r.restore, r.held with
      | (b, row) :: rest, _ => s.replayRestore h p b row rest r
      | [], y :: rest => s.replayNext h p y rest r
      | [], [] => s

/-- REPLAY_END (R242): every held command has been reissued. -/
def State.replayEnd (s : State) (h p : Nat) : State :=
  let x := s.pc h p
  match x.replay with
  | some r =>
    if r.phase = 2 ∧ r.restore = [] ∧ r.held = [] then
      let n := s.cyc - r.start
      ((((s.setPc h p { x with replay := none }).count .PC_REPLAY_COUNT top16 h p 0 1).wr .PC_REPLAY_STREAK h p 0 0).wr
        .PC_REPLAY_LAST_CCLK h p 0 (Nat.min 4095 n)).traceHub h 0x0B 0 p [n] |>.tally h 0x0D (some p) [] none 1
    else s
  | none => s

/-- The largest spacing from a command of one class to one of another, another bank's as R178 scopes it. -/
def TimingCfg.gap (ts : TimingCfg) (a b : Nat) (sameBank : Bool) : Nat :=
  ts.rules.foldl (fun m x => if x.cfrom == a && x.cto == b && decide (x.scope < 4) && (sameBank || x.scope != 0)
    then Nat.max m (if x.window then (x.value + x.limit - 1) / Nat.max 1 x.limit else x.value) else m) 0

/-- PC_REPLAY_BOUND.CCLK (R242; log entry 105): the alert and PAR_LAT, PRE_ALL to the first activate, 48 restored and 64 reissued activates, and the last column command. -/
def State.replayBound (s : State) (h p : Nat) : Nat :=
  match s.profileOf h p, s.timingOf h p (s.pc h p).tset with
  | some f, some ts =>
    match f.cmdByEffect 3, f.cmdByEffect 1 with
    | some c, some a =>
      let col := [4, 5].foldl (fun m e => Nat.max m (((f.cmdByEffect e).map fun x => ts.gap a.tclass x.tclass true).getD 0)) 0
      Nat.min 4095 (ts.parLat + ts.gap c.tclass a.tclass true + 112 * ts.gap a.tclass a.tclass false + col)
    | _, _ => 0
  | _, _ => 0

/-! ## Pauses wait (R234) -/

/-- Whether a stack is closed on its own hub (R283). -/
def State.stackClosed (s : State) (h st : Nat) : Bool := s.knowsClosed h h st

/-- Requester 4 of R165 asks for a pause: due, debts allow it, and nothing defers it (R234, R283, R428). -/
def State.pauseWanted (s : State) (h p : Nat) : Bool :=
  let x := s.pc h p
  x.pauseDue && s.hinge.step == 0 && !s.stackClosed h (stackOf p) && !x.trnHalted && s.pauseOpen h p &&
    !(x.queue.any (fun e => e.r.cls == .urgent) && x.exitAt != 0 && decide (s.now < x.exitAt + 1000))

/-! ## One CCLK of the slots -/

/-- One CCLK of a pseudo-channel's slots (R155, R165, R170, R239). -/
def State.slotGrant (s : State) (h p : Nat) : State :=
  let x := s.pc h p
  if x.grantAt = s.cyc + 1 ∨ s.clk.run = false ∨ s.pcIn h p = false then s
  else
    let s := s.setPc h p { x.refreshMarks s.timerCyc (s.ageCeil h p) with grantAt := s.cyc + 1 }
    let s := (((s.retryTrim h p).wideProgress h p).srProgress h p).advanceAll h p
    if s.retryFull h p then s.retryStall h p
    else
      let s := if s.pauseWanted h p then s else s.schedule h p
      let r := s.grantSlot h p false []
      if r.1.retryFull h p then r.1 else (r.1.grantSlot h p true r.2).1

end Sys2Proof.Machine
end

