-- ==== Sys2Proof/Machine/Training.lean ====
section
/-! DEFINITION. Trims, training, retrain pauses and the pattern generator (chapter 12). -/

namespace Sys2Proof.Machine

/-! ## Trim records (R227, R230) -/

def trimKey (lane hp : Nat) : Nat := 5 * lane + hp
def State.trim (s : State) (h p lane hp : Nat) : TrimRec := Tab.get TrimRec.reset (Tab.get [] s.trims (96 * h + p)) (trimKey lane hp)
def State.setTrim (s : State) (h p lane hp : Nat) (x : TrimRec) : State :=
  { s with trims := Tab.put [] s.trims (96 * h + p) (Tab.put TrimRec.reset (Tab.get [] s.trims (96 * h + p)) (trimKey lane hp) x) }

/-- The record in effect on a lane, of the timing set of hinge point hp. -/
def State.laneTrim (s : State) (h p lane hp : Nat) : TrimRec := Tab.get TrimRec.reset (Tab.get [] s.lanes (96 * h + p)) (trimKey lane hp)

/-- The records of a hinge point take effect on a pseudo-channel's lanes (R227). -/
def State.useTrims (s : State) (h p hp : Nat) : State :=
  { s with lanes := Tab.put [] s.lanes (96 * h + p) ((Tab.get [] s.trims (96 * h + p)).filter fun x => x.1 % 5 == hp) }

/-- Training or a pattern run is under way on a pseudo-channel, or PC_DEBUG.HALTED is 1: a record of the active set takes effect at once (R227). -/
def State.trimsAtOnce (s : State) (h p : Nat) : Bool :=
  s.rd .SVC_BOOT_STATUS_PHASE 0 0 0 == 10 || s.rd .SVC_BOOT_STATUS_PHASE 0 0 0 == 17 || (s.pc h p).halted || (s.pc h p).trnRun.isSome || (s.pc h p).trnGen.isSome

/-- A record is written, and where it may takes effect at once (R227). -/
def State.writeTrimRec (s : State) (h p lane hp : Nat) (x : TrimRec) : State :=
  let t := s.setTrim h p lane hp x
  if hp = (s.pc h p).tset ∧ s.trimsAtOnce h p then t.useTrims h p hp else t

/-- round(delay × rate_n / rate_b), half up, clipped to 127 (R230). -/
def scaleDelay (d n b : Nat) : Nat := Nat.min 127 ((2 * d * Config.pinRate n + Config.pinRate b) / (2 * Config.pinRate b))

/-- The records of every other enabled hinge point are filled from those of b (R230). -/
def State.scaleTrims (s : State) (h p b : Nat) : State :=
  let on := (s.hingeCfg.map (·.enabled)).getD 0
  (List.range 5).foldl (fun t n =>
    if n = b ∨ on.testBit n = false then t
    else (List.range 58).foldl (fun t lane =>
      let x := t.trim h p lane b
      if x.valid then
        let d := scaleDelay x.delay n b
        let w := scaleDelay x.wdelay n b
        t.setTrim h p lane n { delay := d, vref := x.vref, valid := true, trained := d, wdelay := w, wtrained := w }
      else t) t) s

/-! ## Training (R225, R228, R229) -/

/-- Lanes that a pseudo-channel trains (R225). -/
def trainedLanes (p : Nat) : List Nat := (List.range 58).filter fun l => !(p % 2 = 1 && decide (36 ≤ l) && decide (l < 56))

/-- Codes from the first to the last that passes. -/
def eyeWidth (lo hi : Nat) : Nat := hi + 1 - lo

/-- The criteria of steps 1 to 3 of R228, each for its lanes. -/
def eyeRead (e : LaneEye) : Bool :=
  if e.lane < 36 ∨ e.lane = 57 then decide (23 ≤ eyeWidth e.delayLo e.delayHi) && decide (8 ≤ eyeWidth e.vrefLo e.vrefHi)
  else if e.lane < 56 then decide (26 ≤ eyeWidth e.delayLo e.delayHi)
  else decide (1 ≤ eyeWidth e.delayLo e.delayHi)

/-- The criterion of step 4, on data lanes. -/
def eyeWrite (e : LaneEye) : Bool := decide (36 ≤ e.lane) || (decide (20 ≤ eyeWidth e.wLo e.wHi) && decide (8 ≤ eyeWidth e.wvLo e.wvHi))

/-- The criterion of step 5, on data lanes. -/
def eyeMargin (e : LaneEye) : Bool := decide (36 ≤ e.lane) || e.margin == 0

/-- The lanes of a list whose result is missing or does not pass. -/
def laneFails (ok : LaneEye → Bool) (eyes : List LaneEye) (lanes : List Nat) : List Nat :=
  lanes.filter fun l => !(eyes.any fun e => e.lane == l && ok e)

/-- The lanes of step 3: the data lanes and the read strobe. -/
def repeatedLanes : List Nat := List.range 36 ++ [57]

/-- Steps 1 to 4, and 1 to 5, as one criterion. -/
def eyeRetrains (e : LaneEye) : Bool := eyeRead e && eyeWrite e
def eyePasses (e : LaneEye) : Bool := eyeRetrains e && eyeMargin e

/-- The record that a lane's result gives: the centres of its eyes and of its reference window (R228). -/
def trimOf (e : LaneEye) : TrimRec :=
  let d := (e.delayLo + e.delayHi) / 2
  let w := if e.lane < 36 then (e.wLo + e.wHi) / 2 else 0
  { delay := d, vref := (e.vrefLo + e.vrefHi) / 2, valid := true, trained := d, wdelay := w, wtrained := w }

/-- The lanes that pass a criterion take their trims at the hinge point in force (R228). -/
def State.trimLanes (s : State) (h p : Nat) (ok : LaneEye → Bool) (eyes : List LaneEye) (lanes : List Nat) : State :=
  let b := s.clk.hp
  let t := lanes.foldl (fun t l =>
    match eyes.find? fun e => e.lane == l && ok e with
    | some e => t.setTrim h p l b (trimOf e)
    | none => t) s
  t.useTrims h p b

/-- The interval of PC_RETRAIN that a count to the next pause starts with (R88). -/
def State.pauseIntv (s : State) (h p : Nat) : Nat := s.rd .PC_RETRAIN_INTV_MS h p 0

/-- Training ends: the first pause is counted from now (R233). -/
def PcSt.trainEnds (x : PcSt) (now intv : Nat) : PcSt :=
  { x with pauseLast := now, pauseFirst := true, pauseRetryAt := none, pauseDue := false, pauseFails := 0, pauseIntv := intv }

/-- Bring-up's training ends: the refresh schedule starts too, and the idle timer restarts (R188, R193). -/
def PcSt.afterTraining (x : PcSt) (now intv : Nat) : PcSt :=
  { (x.restartDues now).trainEnds now intv with idleFrom := now }

/-! ## Pauses (R233, R235, R236) -/

/-- A delay moves by at most one code toward the centre of its eye (R235). -/
def moveDelay (d : Nat) (by_ : Int) : Nat := Int.toNat (min 127 (max 0 ((d : Int) + (if by_ < 0 then -1 else if 0 < by_ then 1 else 0))))

/-- One pause's moves on the records of the hinge point in force, one for each data lane (R235). -/
def State.moveTrims (s : State) (h p : Nat) (moves : List LaneMove) : State :=
  let t := (List.range 36).foldl (fun t lane =>
    match moves.find? fun m => m.lane == lane with
    | some m =>
      let x := t.trim h p lane s.clk.hp
      t.setTrim h p lane s.clk.hp { x with delay := moveDelay x.delay m.read, wdelay := moveDelay x.wdelay m.write }
    | none => t) s
  t.useTrims h p s.clk.hp

/-- Two codes are more than 8 apart. -/
def farFrom (a b : Nat) : Bool := decide (b + 8 < a) || decide (a + 8 < b)

/-- Some delay has moved more than 8 codes from its trained value (R236). -/
def State.drifted (s : State) (h p : Nat) : Bool :=
  (List.range 36).any fun lane =>
    let x := s.trim h p lane s.clk.hp
    x.valid && (farFrom x.delay x.trained || farFrom x.wdelay x.wtrained)

/-- The tick at which the next periodic pause is due (R233, R236). -/
def State.pauseTick (s : State) (h p : Nat) : Nat :=
  let x := s.pc h p
  let intv := Config.msTicks x.pauseIntv
  match x.pauseRetryAt with
  | some t => t
  | none => if x.pauseFirst then x.pauseLast + intv * p / 96 else x.pauseLast + intv

/-- RETRAIN_DUE (R233): not in self-refresh; the schedule begins with training. -/
def State.retrainDue (s : State) (h p : Nat) : State :=
  let x := s.pc h p
  if x.sr = .awake ∧ x.refStart ≠ none ∧ x.trnHalted = false ∧ s.pauseTick h p ≤ s.now then s.setPc h p { x with pauseDue := true } else s

/-- RETRAIN_PAUSE (R234, R235): a due pause begins once latches, debts and what comes before requester 4 allow; requests' sequences are set aside.
Deferred on a closed stack (R283), in a debug halt (R167), and for up to 10 µs after an exit while an URGENT request waits (R428). -/
def State.retrainPause (s : State) (h p : Nat) : State :=
  let x := s.pc h p
  if s.pauseWanted h p && x.refreshes && !x.halt && !x.nbrPending && x.banks.all (fun b => b.2.yields) then
    let n := s.pauseFor h p
    let t := if n < s.pauseTicks h p then s.flag .PC_RETRAIN_STATUS_CLIPPED h p 0 else s
    t.setPc h p { x with pauseDue := false, pauseFrom := some s.now, pauseLen := n, wideNext := x.wideNext ++ [11, 13, 14],
                         banks := x.banks.map fun b => (b.1, b.2.setAside) }
  else s

/-- A pause has run: its moves, its count, and whether it failed (R235, R236). -/
def State.pauseRun (s : State) (h p : Nat) (moves : List LaneMove) (err : Bool) : State × Bool :=
  let t := (s.moveTrims h p moves).tally h 0x0C (some p) [] none 1
  let t := t.count .PC_RETRAIN_STATUS_COUNT top16 h p 0 1
  (t, err || t.drifted h p)

/-- A failed pause is marked and logged (R236). -/
def State.pauseFailed (s : State) (h p : Nat) : State :=
  (s.flag .PC_RETRAIN_STATUS_LAST_FAIL h p 0).logEvent h (eventOfPc logRetrainFail p 0 0)

/-- A pause has ended: moves, judgement and the next due (R235, R236).  `atOnce` halts on the first failure (R213). -/
def State.pauseResult (s : State) (h p start : Nat) (moves : List LaneMove) (err atOnce : Bool) : State :=
  let r := s.pauseRun h p moves err
  let t := r.1
  let x := t.pc h p
  let x := { x with pauseFrom := none, pauseLast := start, pauseFirst := false, pauseRetryAt := none, pauseDue := false, reopen := false, pauseIntv := t.pauseIntv h p }
  if r.2 then
    let t := (t.setPc h p { x with pauseRetryAt := some (start + Config.msTicks 1), pauseFails := x.pauseFails + 1 }).pauseFailed h p
    if atOnce ∨ 2 ≤ x.pauseFails + 1 then t.haltPc h p else t
  else t.setPc h p { x with pauseFails := 0 }

/-- RETRAIN_PAUSE_END (R235, R236): the pause has had its length, and RETRAIN_EXIT has run. -/
def State.retrainPauseEnd (s : State) (h p : Nat) (moves : List LaneMove) (err : Bool) : State :=
  let x := s.pc h p
  match x.pauseFrom with
  | some st => if st + x.pauseLen ≤ s.now ∧ x.wide = none ∧ x.wideNext = [] then s.pauseResult h p st moves err false else s
  | none => s

/-- The result of a pseudo-channel's pause among those a row carries; one that is not listed has neither moves nor an error. -/
def pauseOf (l : List PauseRes) (h p : Nat) : List LaneMove × Bool :=
  match l.find? fun x => x.hub.val == h && x.pc.val == p with
  | some x => (x.moves, x.err)
  | none => ([], false)

/-! ## The pattern generator (R225, R226) -/

/-- START (R226): ignored with ERROR unless one of the three conditions holds. -/
def State.trnAllowed (s : State) (h p phase : Nat) : Bool :=
  phase = 10 || phase = 17 || (s.pc h p).halted || (s.pc h p).trnRun.isSome

/-- The generator starts with what the helper's registers hold. -/
def State.trnStart (s : State) (h p phase : Nat) : State :=
  if s.trnAllowed h p phase then
    let r : TrnRun := { step := s.rd .PC_TRN_CTRL_STEP h p 0, start := s.cyc, bursts := s.rd .PC_TRN_COUNT_BURSTS h p 0,
                        kind := s.rd .PC_TRN_PAT_KIND h p 0, invert := s.rd .PC_TRN_PAT_INVERT h p 0 == 1, seed := s.rd .PC_TRN_SEED_SEED h p 0 }
    (s.setPc h p { s.pc h p with trnGen := some r }).wr .PC_TRN_CTRL_BUSY h p 0 1
  else s.flag .PC_TRN_CTRL_ERROR h p 0

/-- Bit errors that the compare helper adds: each lane with errors is marked; a burst has 8 beats, and lanes 36 to 55 exist on pseudo-channel 0 only (R225, R226). -/
def State.noteErrors (s : State) (h p : Nat) (top : Option Nat) (errs : List (Nat × Nat)) : State :=
  let l := errs.filter fun e => (trainedLanes p).contains e.1 && e.2 != 0
  l.foldl (fun t e => (t.setBit .PC_TRN_ERR_MAP_LANES h p 0 e.1).count
    .PC_TRN_ERR_CNT_COUNT top32 h p 0 (match top with | some n => Nat.min n e.2 | none => e.2)) s

/-- COMPARE_DONE (R226): the last burst of a pattern run has been compared. -/
def State.compareDone (s : State) (h p : Nat) (errs : List (Nat × Nat)) : State :=
  match (s.pc h p).trnGen with
  | some r =>
    let t := s.noteErrors h p (some (8 * r.bursts)) errs
    (t.setPc h p { t.pc h p with trnGen := none }).wr .PC_TRN_CTRL_BUSY h p 0 (if (s.pc h p).trnRun.isSome then 1 else 0)
  | none => s

/-- COMPARE_DONE of an engine's training: its last burst has been compared. -/
def State.engineCompared (s : State) (h p : Nat) (errs : List (Nat × Nat)) : State :=
  let t := s.noteErrors h p none errs
  (t.setPc h p { t.pc h p with trnRun := none }).wr .PC_TRN_CTRL_BUSY h p 0 0

end Sys2Proof.Machine
end

