-- ==== Sys2Proof/Machine/Signals.lean ====
section
/-! DEFINITION. Signals to the host and the board: MSI-X messages, function events, ALERT_N; and the operations on queues that every engine shares (R331, R333, R384, R434). -/

namespace Sys2Proof.Machine

/-! ## Functions and their vectors (R377, R384) -/

def State.fnSt (s : State) (f : Nat) : FnSt := Tab.get FnSt.reset s.fns f
def State.setFn (s : State) (f : Nat) (x : FnSt) : State := { s with fns := Tab.put FnSt.reset s.fns f x }

/-- The casement of a function: the one whose CASEMENT frame names it; the physical function is casement 0 (R377). -/
def State.casOfFn (s : State) (f : Nat) : Option Nat :=
  if f = 0 then some 0 else (s.casements.find? fun c => c.fn = f).map (·.cas)

/-- The function of a casement. -/
def State.fnOfCas (s : State) (c : Nat) : Option Nat :=
  if c = 0 then some 0 else (s.casementCfg c).map (·.fn)

/-- Whether a function's requests have bus mastering (R327, R383). -/
def State.busMaster (s : State) (c : Nat) : Bool :=
  match s.fnOfCas c with
  | some f => (s.fnSt f).bme
  | none => false

/-- A function's entry of the package's MSI-X table (R384). -/
def State.msixKey (s : State) (f vec : Nat) : Option Nat :=
  (s.casOfFn f).bind fun c => (s.casementCfg c).map fun x => 64 * x.msixBlock + vec

def State.msixAt (s : State) (k : Nat) : MsixSt := Tab.get MsixSt.reset s.msix k
def State.setMsix (s : State) (k : Nat) (x : MsixSt) : State := { s with msix := Tab.put MsixSt.reset s.msix k x }

/-- Signal vector `vec` of function f: a message where nothing masks it, a pending bit otherwise (R333, R384).
With MSI-X disabled nothing is sent and no bit is set (log entry 30). -/
def State.signal (s : State) (f vec : Nat) : State :=
  match s.msixKey f vec with
  | none => s
  | some k =>
    let x := s.fnSt f
    let e := s.msixAt k
    if !x.msixEn then s
    else if e.masked || x.fmask || !x.bme then s.setMsix k { e with pend := true }
    else s.emit (.msix f vec e.addr e.data)

/-- The events of FN_EVENT_STATUS, in bit order. -/
inductive FnEvent where
  | ready | resetDone | pf1 | hinge | thermal | refused
  deriving DecidableEq, Repr

def FnEvent.fld : FnEvent → Fld
  | .ready => .FN_EVENT_STATUS_READY
  | .resetDone => .FN_EVENT_STATUS_RESET_DONE
  | .pf1 => .FN_EVENT_STATUS_PF1
  | .hinge => .FN_EVENT_STATUS_HINGE
  | .thermal => .FN_EVENT_STATUS_THERMAL
  | .refused => .FN_EVENT_STATUS_REFUSED

def FnEvent.bit : FnEvent → Nat
  | .ready => 0
  | .resetDone => 1
  | .pf1 => 2
  | .hinge => 3
  | .thermal => 4
  | .refused => 5

/-- A bit of FN_EVENT_STATUS is set; it signals vector 0 where it is enabled (R384). -/
def State.fnEvent (s : State) (f : Nat) (e : FnEvent) : State :=
  let t := s.flag e.fld f 0 0
  if (s.rd .FN_EVENT_ENABLE_ENABLE f 0 0).testBit e.bit then t.signal f 0 else t

/-- Functions a CASEMENT frame names, and the physical function. -/
def State.liveFns (s : State) : List Nat := 0 :: (s.casements.filter fun c => c.fn != 0).map (·.fn)

def State.fnEventAll (s : State) (e : FnEvent) : State := s.liveFns.foldl (fun t f => t.fnEvent f e) s

/-! ## ALERT_N (R61, R85, R109, R434) -/

/-- HUB_INT_STATUS.ECC and .THM (R434). -/
def State.eccInt (s : State) (h : Nat) : Bool :=
  let en := s.rd .ECC_INT_ENABLE_ENABLE h 0 0
  let b := [Fld.ECC_INT_STATUS_UE, .ECC_INT_STATUS_POISON, .ECC_INT_STATUS_BUCKET, .ECC_INT_STATUS_LOG_DROP, .ECC_INT_STATUS_FENCE_HIT]
  (b.zip (List.range 5)).any fun x => s.bit x.1 h 0 0 && en.testBit x.2

def State.thmInt (s : State) (h : Nat) : Bool :=
  let en := s.rd .THM_INT_ENABLE_ENABLE h 0 0
  let b := [Fld.THM_INT_STATUS_TIER_UP, .THM_INT_STATUS_TIER_DOWN, .THM_INT_STATUS_CRITICAL, .THM_INT_STATUS_STALE, .THM_INT_STATUS_SENSOR]
  (b.zip (List.range 5)).any fun x => s.bit x.1 h 0 0 && en.testBit x.2

def State.hubAlert (s : State) (h : Nat) : Bool :=
  let en := s.rd .HUB_INT_ENABLE_ENABLE h 0 0
  (s.bit .HUB_INT_STATUS_RING_LINK_DOWN h 0 0 && en.testBit 0) || (s.bit .HUB_INT_STATUS_PC_HALT h 0 0 && en.testBit 1) ||
  (s.bit .HUB_INT_STATUS_AKSAL_DOWN h 0 0 && en.testBit 2) || (s.eccInt h && en.testBit 3) || (s.thmInt h && en.testBit 4)

/-- The static address of the I3C and I2C target, while both of its balls keep their function (R70, R385, R441). -/
def State.i3cTarget (s : State) : Option Nat := if s.pinLive 65 20 && s.pinLive 65 21 then some (0x50 + s.board.straps.i3cAddr.val) else none

/-- Whether the service die's JTAG pins scan the boundary and the identification (R275). -/
def State.jtagOpen (s : State) : Bool := s.boot.stage == .stopped || s.board.straps.boot == 3

/-- ALERT_N is asserted: for as long as one of its causes holds (log entry 31). -/
def State.alertN (s : State) : Bool :=
  s.pinLive 62 23 && (s.bit .SVC_PF_STATUS_OV_SEEN 0 0 0 || s.bit .SVC_TIME_SYNC_DRIFT 0 0 0 ||
    s.boot.stage == .stopped || s.hubs.any s.hubAlert)

/-! ## Queues (R309, R310, R331) -/

def engCode : Engine → Nat
  | .matrix => 0
  | .move => 1
  | .page => 2
  | .ring => 3
  | .hub => 4

/-- The key of a queue's registers: engine and the engine's number. -/
def qd (q : QueueId) : Nat := 4 * engCode q.engine + q.inst.val

def queuesPer : Engine → Nat
  | .matrix => 32
  | .move => 16
  | .page => 32
  | .ring => 16
  | .hub => 8

/-- The 16-bit queue identifier (R310). -/
def queueCode (q : QueueId) : Nat := engCode q.engine * 8192 + q.inst.val * 2048 + q.idx.val

def queueKey (q : QueueId) : Nat := queueCode q
def State.queue (s : State) (q : QueueId) : QSt := Tab.get QSt.reset s.queues (queueKey q)
def State.setQueue (s : State) (q : QueueId) (x : QSt) : State := { s with queues := Tab.put QSt.reset s.queues (queueKey q) x }
def State.qrd (s : State) (q : QueueId) (f : Fld) : Nat := s.rd f (qd q) q.idx.val 0
def State.qwr (s : State) (q : QueueId) (f : Fld) (v : Nat) : State := s.wr f (qd q) q.idx.val 0 v

/-- The casement that a queue belongs to, and its index k there (R311). -/
def State.ownerOf (s : State) (q : QueueId) : Option (Nat × Nat) :=
  s.casements.findSome? fun c => ((c.queues.zip (List.range 32)).find? fun x => x.1 = queueCode q).map fun x => (c.cas, x.2)

def State.casOf (s : State) (q : QueueId) : Nat := ((s.ownerOf q).map (·.1)).getD 0

/-- Whether the queue's die or hub is present and its index exists. -/
def State.queueIn (s : State) (q : QueueId) : Bool :=
  (if q.engine = .matrix then s.cdieIn q.inst.val else s.hubIn q.inst.val) && decide (q.idx.val < queuesPer q.engine)

def Cmd.word (c : Cmd) (n : Nat) : Nat := c.words.toNat / 2 ^ (64 * n) % 2 ^ 64
/-- Bits [lo + w - 1 : lo] of word n of the entry. -/
def Cmd.fld (c : Cmd) (n lo w : Nat) : Nat := c.word n / 2 ^ lo % 2 ^ w
def Cmd.opcode (c : Cmd) : Nat := c.fld 0 0 8
def Cmd.cls (c : Cmd) : Nat := c.fld 0 12 3

def QSt.cmd (x : QSt) (idx : Nat) : Option Cmd := x.cmds.find? fun c => c.idx = idx
def QSt.setCmd (x : QSt) (c : Cmd) : QSt := { x with cmds := x.cmds.map fun y => if y.idx = c.idx then c else y }
def State.cmd (s : State) (q : QueueId) (idx : Nat) : Option Cmd := (s.queue q).cmd idx
def State.setCmd (s : State) (q : QueueId) (c : Cmd) : State := s.setQueue q ((s.queue q).setCmd c)

/-- A vector of the queue's casement is signalled (R333). -/
def State.signalQueue (s : State) (q : QueueId) : State :=
  match s.fnOfCas (s.casOf q) with
  | some f => s.signal f (s.qrd q .QUEUE_CTRL_VECTOR)
  | none => s

/-- A queue stops with a cause (R331); under a casement reset nothing is signalled (R334). -/
def State.stopQueue (s : State) (q : QueueId) (st : Status) : State :=
  let t := (s.qwr q .QUEUE_STATE_STOPPED 1).qwr q .QUEUE_STATE_CAUSE (Config.statusCode st)
  if s.qrd q .QUEUE_CTRL_ERR_INTR = 1 ∧ Tab.get false s.resetting (s.casOf q) = false then t.signalQueue q else t

/-- A command ends with a status (R322); its queue stops where R331 says so. -/
def State.endCmd (s : State) (q : QueueId) (idx : Nat) (st : Status) : State :=
  match s.cmd q idx with
  | none => s
  | some c =>
    if c.ended.isSome then s
    else
      let t := s.setCmd q { c with ended := some st, flight := 0 }
      let t := if q.engine != .matrix && t.rd .TRC_CTRL_CMDS q.inst.val 0 0 == 1 then
          t.traceHub q.inst.val 0x03 (s.casOf q) 0 [queueCode q, c.fld 0 32 16, Config.statusCode st] else t
      if st != .done && s.qrd q .QUEUE_CTRL_STOP_ON_ERROR == 1 && s.qrd q .QUEUE_STATE_STOPPED == 0 then t.stopQueue q st else t

/-- End a command and give its record's DETAIL. -/
def State.endCmdWith (s : State) (q : QueueId) (idx : Nat) (st : Status) (detail : Nat) : State :=
  match s.cmd q idx with
  | none => s
  | some c => (s.setCmd q { c with detail := detail }).endCmd q idx st

/-- Every queue that exists in the package. -/
def enginesAll : List Engine := [.matrix, .move, .page, .ring, .hub]

def State.allQueues (s : State) : List QueueId :=
  enginesAll.flatMap fun e => allHubs.flatMap fun i =>
    ((List.range (queuesPer e)).filterMap fun k =>
      let q : QueueId := { engine := e, inst := Fin.ofNat 4 i, idx := Fin.ofNat 32 k }
      if s.queueIn q then some q else none)

/-- The queues of a casement. -/
def State.queuesOfCas (s : State) (c : Nat) : List QueueId := s.allQueues.filter fun q => (s.ownerOf q).map (·.1) == some c

/-! ## Traffic made in one step (log entry 32) -/

/-- What a request admitted now would read of a sector: what is stored, with the bytes of every queued write that has not issued over it (R322). -/
def State.pendingOver (s : State) (h p bank row col : Nat) (old : BitVec 256) : BitVec 256 :=
  (s.pc h p).queue.foldl (fun d e =>
    let n := col - e.r.col
    if e.r.write && e.r.bank == bank && e.r.row == row && decide (e.r.col ≤ col) && decide (n < 8) && !(e.wrIssued.getLsbD n) then
      if e.r.poison.getLsbD n then d
      else mergeSector d (sectorOf e.r.data n) (sectorMask e.r.mask n)
    else d) old

/-- One sector of a place as a request sees it: the outcome of its check and its data. -/
def State.peekSector (s : State) (pl : Place) : SectorOutcome × BitVec 256 :=
  let x := s.readSector (sectorKey pl.hub pl.pc pl.bank pl.row pl.col) []
  (x.1, s.pendingOver pl.hub pl.pc pl.bank pl.row pl.col x.2)

/-- A write made at once takes its place after the queued writes of its sector: they no longer cover its bytes. -/
def State.coverPending (s : State) (pl : Place) (m : BitVec 32) : State :=
  let x := s.pc pl.hub pl.pc
  let hit (e : QEnt) : Bool := e.r.write && e.r.bank == pl.bank && e.r.row == pl.row && decide (e.r.col ≤ pl.col) &&
    decide (pl.col - e.r.col < 8) && !(e.wrIssued.getLsbD (pl.col - e.r.col))
  let cover (e : QEnt) : QEnt :=
    let k := pl.col - e.r.col
    let mask := e.r.mask &&& ~~~(BitVec.ofNat 256 (m.toNat * 2 ^ (32 * k)))
    let pz := if m = BitVec.allOnes 32 then e.r.poison &&& ~~~(BitVec.ofNat 8 (2 ^ k)) else e.r.poison
    { e with r := { e.r with mask := mask, poison := pz } }
  let q := x.queue.map (fun e => if hit e then cover e else e)
  if x.queue.any hit then s.setPc pl.hub pl.pc { x with queue := q } else s

/-- Write bytes of a sector at once (R255, R256): the outcome is POISON_MERGE where a partial write meets bad data. -/
def State.pokeSector (s : State) (pl : Place) (data : BitVec 256) (m : BitVec 32) : State × Status :=
  let key := sectorKey pl.hub pl.pc pl.bank pl.row pl.col
  if m = BitVec.allOnes 32 then ((s.coverPending pl m).storeSector key data, .done)
  else
    match s.peekSector pl with
    | (.bad, _) => ((s.coverPending pl (BitVec.allOnes 32)).storePoison key, .poisonMerge)
    | (.poison, _) => ((s.coverPending pl (BitVec.allOnes 32)).storePoison key, .poisonMerge)
    | (_, old) => ((s.coverPending pl m).storeSector key (mergeSector old data m), .done)

/-- A plain request of a casement at an address, to be decoded. -/
def plainReq (org : Origin) (cls : ReqClass) (cas stag addr : Nat) (write : Bool) : Req :=
  { id := 0, org := org, cls := cls, cas := cas, stag := stag, addr := addr, pane := 0, guarded := false, bucket := false,
    home := 0, hub := 0, pc := 0, bank := 0, row := 0, col := 0, write := write, sector := true, mask := 0, data := 0,
    poison := 0, xfer := 0, latch := 0, uc := false }

/-- How an engine reaches memory: the hub and door that its requests enter by (R113, R128, R309), their class, casement and layout-set override. -/
structure Via where
  hub : Nat
  door : Nat
  cls : ReqClass
  cas : Nat
  ovr : Option Nat
  deriving DecidableEq, Repr

/-- The door of a queue's engine (R309). -/
def engineDoor : Engine → Nat
  | .matrix => 0
  | .move => 6
  | .page => 7
  | .ring => 4
  | .hub => 5

/-- The way of a queue's fetches and records: NORMAL requests of its casement (R313). -/
def State.queueVia (s : State) (q : QueueId) : Via :=
  { hub := q.inst.val, door := engineDoor q.engine, cls := .normal, cas := s.casOf q, ovr := none }

/-- The way of a RING collective (R366): COLLECTIVE, with the override that its destination may carry. -/
def State.ringVia (s : State) (q : QueueId) (ovr : Option Nat) : Via :=
  { hub := q.inst.val, door := 4, cls := .collective, cas := s.casOf q, ovr := ovr }

/-- The way of the PAGE engine of hub h. -/
def pageVia (h : Nat) (cls : ReqClass) (cas : Nat) : Via := { hub := h, door := 7, cls := cls, cas := cas, ovr := none }

def Via.req (v : Via) (addr : Nat) (write : Bool) : Req := plainReq (.debug 0) v.cls v.cas 0 addr write

/-- Decode an access that is made in one step, at the hub where it enters (R113). -/
def State.reach (s : State) (v : Via) (addr : Nat) : DecodeRefusal ⊕ Req := s.decode v.hub { r := v.req addr false, ovr := v.ovr, ovrMay := true }

/-- The louvre slot that regulates an access: one of its own hub's at the door it enters by (R132). -/
def State.viaSlot (s : State) (v : Via) (r : Req) : Option Nat :=
  if r.hub = v.hub then (s.sourceGroup v.hub v.door r).bind (s.slotOf v.hub v.door) else none

/-- Whether an engine's next access may pass its door now: the door is not masked (R145), no read passes at PF1 (R134), none in a hinge (R215), and the louvre covers a block (R133). -/
def State.viaOpen (s : State) (v : Via) (addr : Nat) (write : Bool) : Bool :=
  !(s.door v.hub v.door).masked && (write || !(s.pf1 || s.draining)) && s.clk.run && s.hinge.step == 0 &&
    match s.reach v addr with
    | .inl _ => true
    | .inr r => (s.viaSlot v r).all fun k => (s.lvr v.hub v.door k).covers { r with sector := false }

/-- An access made at once passes its door: its bytes are charged and counted; `first` where a request begins with this sector. -/
def State.pass (s : State) (v : Via) (r : Req) (first : Bool) : State :=
  let d := if r.hub = v.hub then v.door else ringDoor v.hub r.hub
  let t := match s.viaSlot v r with
    | some k => s.setLvr v.hub v.door k ((s.lvr v.hub v.door k).charge r)
    | none => s
  (if first then t.tally r.hub 0x02 (some r.pc) [d] (some r.cas) 1 else t).tally r.hub 0x03 (some r.pc) [d] (some r.cas) 1

def Req.place (r : Req) : Place := { hub := r.hub, pc := r.pc, bank := r.bank, row := r.row, col := r.col }

/-- Read one 32-byte sector at once: its data, or why not (R13, R254).  A refusal is recorded once for a request. -/
def State.fetchSector (s : State) (v : Via) (addr : Nat) (first : Bool) : State × Status × BitVec 256 :=
  match s.reach v addr with
  | .inl x => (if first then s.recordRefusal v.hub v.door (v.req addr false) x else s, x.status, 0)
  | .inr r =>
    let s := s.pass v r first
    let v := s.peekSector r.place
    let t := s.noteRead r 0 v.1
    match v.1 with
    | .bad => (t, .uncorrectable, 0)
    | .poison => (t, .poisonRead, 0)
    | _ => (t, .done, v.2)

/-- Write one sector's bytes at once. -/
def State.storeBytes (s : State) (v : Via) (addr : Nat) (data : BitVec 256) (m : BitVec 32) (bad first : Bool) : State × Status :=
  match s.reach v addr with
  | .inl x => (if first then s.recordRefusal v.hub v.door (v.req addr true) x else s, x.status)
  | .inr r =>
    let s := s.pass v r first
    if bad then ((s.coverPending r.place (BitVec.allOnes 32)).storePoison (sectorKey r.hub r.pc r.bank r.row r.col), .done)
    else
      let v := s.peekSector r.place
      let t := if m = BitVec.allOnes 32 then s else s.noteMerge r 0 v.1
      t.pokeSector r.place data m

/-- Read n more sectors from an address: the data of each, the worst status (R13), and which were bad (true: uncorrectable).  A new request begins with the first and at every block boundary. -/
def State.fetchMore (s : State) (v : Via) : Nat → Nat → Bool → State × Status × List (BitVec 256 × Option Bool)
  | 0, _, _ => (s, .done, [])
  | n + 1, addr, first =>
    let a := s.fetchSector v addr first
    let b := a.1.fetchMore v n (addr + 32) ((addr + 32) % 256 == 0)
    let mark := match a.2.1 with
      | .uncorrectable => some true
      | .poisonRead => some false
      | _ => none
    (b.1, Config.worse a.2.1 b.2.1, (a.2.2, mark) :: b.2.2)

/-- Read n sectors from an address. -/
def State.fetchSectors (s : State) (v : Via) (n addr : Nat) : State × Status × List (BitVec 256 × Option Bool) := s.fetchMore v n addr true

/-- A block from its sectors. -/
def joinSectors : List (BitVec 256 × Option Bool) → Nat → Nat
  | [], _ => 0
  | x :: t, n => x.1.toNat * 2 ^ (256 * n) + joinSectors t (n + 1)

def marksOf : List (BitVec 256 × Option Bool) → Nat → Nat
  | [], _ => 0
  | x :: t, n => (if x.2.isSome then 2 ^ n else 0) + marksOf t (n + 1)

/-- Read one block at once: its status, its data and the marks of its bad sectors. -/
def State.fetchBlock (s : State) (v : Via) (addr : Nat) : State × Status × Block × BitVec 8 :=
  let a := s.fetchSectors v 8 addr
  (a.1, a.2.1, BitVec.ofNat 2048 (joinSectors a.2.2 0), BitVec.ofNat 8 (marksOf a.2.2 0))

/-- Whether a status is a refusal of R113, R258 or R283. -/
def refusal (st : Status) : Bool := st == .denied || st == .fenced || st == .thermalClosed

/-- Write one block at once, sector by sector; a refusal ends it. -/
def State.storeBlockN (s : State) (v : Via) (addr : Nat) (data : Block) (marks : BitVec 8) : Nat → State × Status
  | 0 => (s, .done)
  | n + 1 =>
    let a := s.storeBlockN v addr data marks n
    let b := a.1.storeBytes v (addr + 32 * n) (sectorOf data n) (BitVec.allOnes 32) (marks.getLsbD n) (n == 0)
    (b.1, Config.worse a.2 b.2)

def State.storeBlock (s : State) (v : Via) (addr : Nat) (data : Block) (marks : BitVec 8) : State × Status :=
  s.storeBlockN v addr data marks 8

end Sys2Proof.Machine
end

