-- ==== Sys2Proof/Machine/Payloads.lean ====
section
/-! DEFINITION. The frame payloads of the structure image: what each holds, and the checks that one payload can fail on its own (R36 to R39, R173 to R183, R202 to R207, R253, R281, R311, R337, R360, R413, R439 to R444). -/

namespace Sys2Proof.Machine

/-- The n bytes at an offset, little-endian (R3); bytes past the end read as 0. -/
def leN : Nat → List Byte → Nat
  | 0, _ => 0
  | n + 1, l => (l.headD 0).toNat + 256 * leN n l.tail

def u (l : List Byte) (o n : Nat) : Nat := leN n (l.drop o)

/-- Every byte of [o, o + n) is 0. -/
def zeros (l : List Byte) (o n : Nat) : Bool := u l o n == 0

def inRange (lo hi x : Nat) : Bool := decide (lo ≤ x) && decide (x ≤ hi)

/-- Error codes of R56. -/
def errMagic : Nat := 0x01
def errHdrCrc : Nat := 0x02
def errFormat : Nat := 0x03
def errLength : Nat := 0x04
def errMember : Nat := 0x05
def errRollback : Nat := 0x06
def errSigKey : Nat := 0x07
def errSigFail : Nat := 0x08
def errKind : Nat := 0x09
def errFrameCrc : Nat := 0x10
def errFrameOrder : Nat := 0x11
def errFrameType : Nat := 0x12
def errFrameTarget : Nat := 0x13
def errFrameLength : Nat := 0x14
def errFrameCount : Nat := 0x15
def errField : Nat := 0x16
def errUnmatched : Nat := 0x17
def errConflict : Nat := 0x20
def errNotQuiesced : Nat := 0x30
def errBase : Nat := 0x31
def errPartialType : Nat := 0x32
def errAborted : Nat := 0x33
def errDisagree : Nat := 0x34

/-- A payload read, or the code that ends the load. -/
abbrev Read := Nat ⊕ FrameBody

/-- The body where the length and the fields are right. -/
def readAs (len : Bool) (ok : Bool) (b : FrameBody) : Read :=
  if !len then .inl errFrameLength else if !ok then .inl errField else .inr b

/-! ## HINGE, PINS, NOTE (R207, R441) -/

def readHinge (l : List Byte) : Read :=
  let c : HingeCfg := { enabled := u l 0 1, boot := u l 1 1, dwellMs := u l 2 2 }
  readAs (l.length == 8) (decide (c.enabled < 32) && decide (c.boot ≤ 4) && inRange 1 10000 c.dwellMs && zeros l 4 4) (.hinge c)

/-- The function code of a configurable ball (R441). -/
def pinFunc (row col : Nat) : Option Nat :=
  match row, col with
  | 62, 23 => some 1
  | 64, 20 => some 2
  | 64, 21 => some 3
  | 64, 22 => some 4
  | 65, 20 => some 5
  | 65, 21 => some 6
  | _, _ => none

def readPin (l : List Byte) (k : Nat) : PinEntry :=
  { row := u l (4 + 4 * k) 1, col := u l (5 + 4 * k) 1, func := u l (6 + 4 * k) 1, attr := u l (7 + 4 * k) 1 }

def pinOk (e : PinEntry) : Bool :=
  (match pinFunc e.row e.col with | some f => e.func == 0 || e.func == f | none => false) && decide (e.attr % 4 ≠ 3) && decide (e.attr < 8)

/-- A PINS payload; a frame for a hub carries no entry. -/
def readPins (l : List Byte) (hub : Bool) : Read :=
  let n := u l 0 2
  let es := (List.range (Nat.min n 6)).map (readPin l)
  readAs (decide (6 < n) || l.length == 4 + 4 * n) (decide (n ≤ 6) && zeros l 2 2 && es.all pinOk && (!hub || n == 0)) (.pins es)

/-! ## STACK_PROFILE (R181 to R183) -/

def readInsert (l : List Byte) (o : Nat) : InsertCfg :=
  let w := u l o 4
  { source := w % 16, width := w / 16 % 16 + 1, start := w / 256 % 64, lsb := w / 2 ^ 14 % 64 }

/-- An insertion's words and pins: bit 22 w + 2 k + e; the column bus has pins 0 to 7 and parity pin 10. -/
def bitPin (b : Nat) : Nat := b % 22 / 2

/-- An insertion stays within bit 43 and the pins of its bus (R183). -/
def insertOk (col : Bool) (raw : Nat) (i : InsertCfg) : Bool :=
  i.source == 0 || (decide (i.source ≤ 7) && decide (raw < 2 ^ 20) &&
    (let w := if i.source = 7 then 1 else i.width
     decide (i.start + w ≤ 44) &&
     (List.range w).all fun k => !col || decide (bitPin (i.start + k) < 8) || bitPin (i.start + k) == 10))

def readCmd (l : List Byte) (o : Nat) : CmdEntry :=
  { code := u l o 1, column := u l (o + 1) 1 == 1, words := u l (o + 2) 1, tclass := u l (o + 3) 1, effect := u l (o + 4) 1,
    pattern := BitVec.ofNat 64 (u l (o + 8) 8),
    inserts := (List.range 8).filterMap fun k =>
      let i := readInsert l (o + 16 + 4 * k)
      if i.source = 0 then none else some i }

def cmdOk (l : List Byte) (o : Nat) : Bool :=
  let e := readCmd l o
  decide (e.code < 32) && decide (u l (o + 1) 1 ≤ 1) && inRange 1 2 e.words && decide (e.tclass < 16) && decide (e.effect ≤ 10) &&
  zeros l (o + 5) 3 && decide (e.pattern.toNat < 2 ^ 44) &&
  (List.range 8).all fun k =>
    let raw := u l (o + 16 + 4 * k) 4
    decide (raw < 2 ^ 20) && insertOk e.column raw (readInsert l (o + 16 + 4 * k))

def readMr (l : List Byte) (o : Nat) : Nat × List Nat := (u l o 1, (List.range 5).map fun k => u l (o + 1 + k) 1)

/-- A STACK_PROFILE payload; `pos` says whether an index is its place among the profiles of every hub that the frame names. -/
def readProfile (l : List Byte) (pos : Nat → Bool) : Read :=
  let vn := u l 1 1
  let mn := u l 0x10 1
  let cn := u l 0x11 1
  let co := 24 + 8 * mn
  let c : ProfileCfg := {
    index := u l 0 1, vendors := (List.range (Nat.min vn 8)).map fun k => u l (8 + k) 1, bankMask := u l 2 1,
    rowLog2 := u l 3 1, rateMin := u l 4 1, rateMax := u l 5 1, banksPerGroup := u l 6 1, parity := u l 7 1 % 2 == 1,
    rfm := u l 7 1 / 2 % 2 == 1, mr := (List.range (Nat.min mn 32)).map fun k => readMr l (24 + 8 * k),
    cmds := (List.range (Nat.min cn 32)).map fun k => readCmd l (co + 48 * k) }
  readAs (l.length == 24 + 8 * mn + 48 * cn)
    (decide (c.index ≤ 3) && pos c.index && inRange 1 8 vn && inRange 1 7 c.bankMask && inRange 9 12 c.rowLog2 && inRange 40 64 c.rateMin &&
     inRange c.rateMin 64 c.rateMax && (c.banksPerGroup == 2 || c.banksPerGroup == 4 || c.banksPerGroup == 8) && decide (u l 7 1 < 4) &&
     ((List.range 8).all fun k => decide (k < vn) || u l (8 + k) 1 == 0) && decide (mn ≤ 32) && inRange 1 32 cn && zeros l 0x12 6 &&
     ((List.range mn).all fun k => zeros l (24 + 8 * k + 6) 2) && ((List.range cn).all fun k => cmdOk l (co + 48 * k)) &&
     decide ((c.cmds.map (·.code)).Nodup)) (.profile c)

/-! ## TIMING_SET (R177) -/

def readRule (l : List Byte) (o : Nat) : TimingRule :=
  { cfrom := u l o 1, cto := u l (o + 1) 1, scope := u l (o + 2) 1, window := u l (o + 3) 1 == 1, value := u l (o + 4) 2, limit := u l (o + 6) 1 }

def ruleOk (l : List Byte) (o : Nat) : Bool :=
  let r := readRule l o
  decide (r.cfrom < 16) && decide (r.cto < 16) && decide (r.scope ≤ 5) && decide (u l (o + 3) 1 ≤ 1) && decide (1 ≤ r.value) &&
  (if r.window then r.cto == r.cfrom && inRange 1 8 r.limit else r.limit == 0) && zeros l (o + 7) 1

/-- A TIMING_SET payload; `parity` says whether a profile of that index has PARITY_EN at 1 on a hub that the frame names (R238). -/
def readTiming (l : List Byte) (parity : Nat → Bool) : Read :=
  let n := u l 2 1
  let c : TimingCfg := { profile := u l 0 1, hinge := u l 1 1, rl := u l 4 2, wl := u l 6 2, parLat := u l 8 2,
                         rules := (List.range n).map fun k => readRule l (16 + 8 * k) }
  readAs (l.length == 16 + 8 * n)
    (decide (c.profile ≤ 3) && decide (c.hinge ≤ 4) && inRange 1 64 n && zeros l 3 1 && inRange 8 255 c.rl && inRange 2 255 c.wl &&
     inRange 8 511 c.parLat && (!(parity c.profile) || decide (c.parLat ≤ c.rl)) && zeros l 10 6 && (List.range n).all fun k => ruleOk l (16 + 8 * k)) (.timing c)

/-! ## STEP_TABLE (R173 to R176, R189) -/

def bitsOf (x lo w : Nat) : Nat := x / 2 ^ lo % 2 ^ w

/-- A step entry, or none where a reserved field or code is used. -/
def readStep (x : Nat) : Option Step :=
  let cmd := bitsOf x 4 5
  let addr := bitsOf x 10 4
  let sel := bitsOf x 14 2
  let cnt := bitsOf x 16 12
  if bitsOf x 40 24 ≠ 0 then none
  else match x % 16 with
    | 0 => some .fin
    | 1 => if addr ≤ 4 then some (.row cmd addr) else none
    | 2 => if addr ≤ 4 ∧ sel ≠ 3 then some (.col cmd (bitsOf x 9 1 == 1) addr sel) else none
    | 3 => if 1 ≤ cnt then some (.wait cnt) else none
    | 4 => if 1 ≤ cnt then some (.loop (bitsOf x 28 8) cnt) else none
    | 5 => if inRange 1 4 (bitsOf x 36 4) then some (.event (bitsOf x 36 4)) else none
    | _ => none

def Step.isLoop : Step → Bool | .loop _ _ => true | _ => false
def Step.isFin : Step → Bool | .fin => true | _ => false
def Step.isRefDone : Step → Bool | .event e => e == 2 | _ => false

/-- LOOP steps name earlier bodies without LOOP or END (R174). -/
def loopsOk (l : List Step) : Bool :=
  (l.zip (List.range l.length)).all fun x =>
    match x.1 with
    | .loop t _ => decide (t < x.2) && ((l.take x.2).drop t).all fun y => !y.isLoop && !y.isFin
    | _ => true

/-- From an entry the walk reaches an END (R176). -/
def reachesEnd (l : List Step) (e : Nat) : Bool := (l.drop e).any Step.isFin

def countRef (l : List Step) : Nat := (l.filter Step.isRefDone).length

/-- REF_DONE steps executed by the walk from an entry (R189): `i` is the index of the next step. -/
def refDones (tbl : List Step) : List Step → Nat → Nat
  | [], _ => 0
  | x :: t, i =>
    match x with
    | .fin => 0
    | .loop b n => (n - 1) * countRef ((tbl.take i).drop b) + refDones tbl t (i + 1)
    | .event e => (if e = 2 then 1 else 0) + refDones tbl t (i + 1)
    | _ => refDones tbl t (i + 1)

/-- Whether R171 gives an operation a bank-state column. -/
def stateFor (op st : Nat) : Bool :=
  if op ≤ 4 then true else if op = 5 ∨ op = 7 ∨ op = 8 then st != 0 else if op = 15 then false else st == 0

/-- One dispatch entry is right for its place. -/
def dispatchOk (steps : List Step) (rfm : Bool) (k e : Nat) : Bool :=
  let op := k / 3
  let need := stateFor op (k % 3)
  if e = 0xFFFF then !need || (op == 7 && !rfm)
  else need && decide (e < steps.length) && reachesEnd steps e &&
    (refDones steps (steps.drop e) e == (if op = 5 ∨ op = 6 then 1 else 0))

def allSome {α : Type} : List (Option α) → Option (List α)
  | [] => some []
  | none :: _ => none
  | some x :: t => (allSome t).map fun r => x :: r

/-- A STEP_TABLE payload; `profs` are the profiles that the hubs named by the frame give its index: the RFM flag of any of them asks for operation 7, and none may give a step's command the other bus. -/
def readSteps (l : List Byte) (profs : Nat → List ProfileCfg) : Read :=
  let n := u l 2 2
  let steps := allSome ((List.range n).map fun k => readStep (u l (0x68 + 8 * k) 8))
  let disp := (List.range 48).map fun k => u l (8 + 2 * k) 2
  let ps := profs (u l 0 1)
  let onBus (col : Bool) (code : Nat) : Bool := ps.all fun c => c.cmds.all fun e => e.code != code || e.column == col
  match steps with
  | none => readAs (l.length == 104 + 8 * n) false .note
  | some st =>
    readAs (l.length == 104 + 8 * n)
      (decide (u l 0 1 ≤ 3) && zeros l 1 1 && zeros l 4 4 && inRange 1 256 n && loopsOk st &&
       (st.all fun x =>
         match x with
         | .row c _ => onBus false c
         | .col c _ _ _ => onBus true c
         | _ => true) &&
       (disp.zip (List.range 48)).all fun x => dispatchOk st (ps.any (·.rfm)) x.2 x.1)
      (.steps { profile := u l 0 1, dispatch := disp, steps := st })

/-! ## REFRESH, DISTURB, ADJACENCY, ECC, THERMAL (R202 to R205, R253, R281) -/

def readRefresh (l : List Byte) : Read :=
  let c : RefreshCfg := { windowMs := u l 0 2, refs := u l 2 2, postponeMax := u l 4 1, srIdleUs := u l 8 4 }
  readAs (l.length == 16)
    (inRange 16 64 c.windowMs && inRange 1024 16384 c.refs && inRange 1 8 c.postponeMax && zeros l 5 3 && inRange 1 10000000 c.srIdleUs && zeros l 12 4)
    (.refresh c)

def readDisturb (l : List Byte) : Read :=
  let c : DisturbCfg := { threshold := u l 0 2, method := u l 2 1, radius := u l 3 1 }
  readAs (l.length == 8)
    (inRange 64 16383 c.threshold && ((c.method == 0 && c.radius == 0) || (c.method == 1 && inRange 1 4 c.radius)) && zeros l 4 4) (.disturb c)

def readAdjacency (l : List Byte) : Read :=
  let rb := u l 1 1
  let n := u l 3 1
  let c : AdjacencyCfg := { profile := u l 0 1, rowBits := rb, subLog2 := u l 2 1, perm := (List.range rb).map fun k => u l (8 + k) 1,
                            rules := (List.range n).map fun k => (u l (0x20 + 8 * k) 1, u l (0x24 + 8 * k) 4) }
  readAs (l.length == 32 + 8 * n)
    (decide (c.profile ≤ 3) && inRange 14 18 rb && (c.subLog2 == 0 || inRange 6 rb c.subLog2) && decide (n ≤ 8) && zeros l 4 4 &&
     decide c.perm.Nodup && (c.perm.all fun j => decide (j < rb)) && ((List.range 18).all fun k => decide (k < rb) || u l (8 + k) 1 == 0) &&
     zeros l 0x1A 6 && ((List.range n).all fun k => zeros l (0x21 + 8 * k) 3) &&
     c.rules.all fun r => decide (r.1 < rb) && decide (r.2 < 2 ^ rb) && !(r.2.testBit r.1)) (.adjacency c)

def readEcc (l : List Byte) : Read :=
  let c : EccCfg := { capacity := u l 0 1, leakMs := u l 4 4 }
  readAs (l.length == 8) (decide (1 ≤ c.capacity) && zeros l 1 3 && inRange 1 60000 c.leakMs) (.ecc c)

def rising (l : List Nat) : Bool :=
  match l with
  | [a, b, c] => decide (a < b) && decide (b < c)
  | _ => false

/-- A THERMAL payload; `hubs` and `dies` say whether its TARGET names a hub or a compute die. -/
def readThermal (l : List Byte) (hubs dies : Bool) : Read :=
  let act (t : Nat) : ThermAction := { genShare := u l (12 + 4 * t) 1, collShare := u l (13 + 4 * t) 1, throttle := u l (14 + 4 * t) 1, hingeCap := u l (15 + 4 * t) 1 }
  let c : ThermalCfg := { avgMs := u l 0 2, hyst := u l 2 1, dieEntry := (List.range 3).map fun k => u l (4 + k) 1,
                          stackEntry := (List.range 3).map fun k => u l (8 + k) 1, actions := [act 0, act 1, act 2] }
  readAs (l.length == 24)
    (inRange 1 4000 c.avgMs && inRange 1 15 c.hyst && zeros l 3 1 && zeros l 7 1 && zeros l 11 1 && rising c.dieEntry &&
     (c.dieEntry.all (inRange 40 120)) &&
     (if hubs then rising c.stackEntry && c.stackEntry.all (inRange 40 100) else c.stackEntry.all (· == 0)) &&
     (c.actions.all fun a => decide (a.genShare + a.collShare ≤ 16) && decide (a.throttle ≤ 7) && decide (a.hingeCap ≤ 4) &&
       (hubs || (a.genShare == 0 && a.collShare == 0)) && (hubs || dies || a.throttle == 0)) &&
     (act 2).genShare == 0 && (act 2).collShare == 0 && (!dies || (act 2).throttle == 7)) (.thermal c)

/-! ## PANE and LAYOUT_SET (R37 to R39) -/

def readPaneDef (l : List Byte) (o : Nat) : PaneDef :=
  let m := u l (o + 3) 1
  let g := u l (o + 5) 1
  { id := u l o 1, order := u l (o + 1) 1, granLog2 := u l (o + 2) 1, guarded := m % 2 == 1, bucket := m / 2 % 2 == 1, allBank := m / 4 % 2 == 1,
    cas := u l (o + 4) 1, group := if g = 0xFF then none else some g, pcCount := u l (o + 6) 2, base := u l (o + 8) 8, size := u l (o + 0x10) 8,
    mask := BitVec.ofNat 384 (u l (o + 0x18) 48), rowFirst := u l (o + 0x48) 4, rowCount := u l (o + 0x4C) 4 }

def mib2 : Nat := 2 * 1024 * 1024

/-- The ranges of R37 and the part of R120 that needs no stack, which does not bind a deletion: a frame of a partial image with SIZE 0. -/
def paneOk (l : List Byte) (o : Nat) (part : Bool) : Bool :=
  let p := readPaneDef l o
  decide (p.id < 64) && decide (p.order ≤ 3) && inRange 8 13 p.granLog2 && decide (u l (o + 3) 1 < 8) && decide (p.cas < 32) &&
  (p.group.all fun g => decide (g < 16)) && inRange 1 384 p.pcCount && decide (p.base < 2 ^ 48) && p.base % mib2 == 0 && p.size % mib2 == 0 &&
  ((part && p.size == 0) || (decide (1 ≤ p.rowCount) && (p.order != 2 || p.rowCount % 8 == 0)))

def readPane (l : List Byte) (part : Bool) : Read :=
  let p := readPaneDef l 0
  readAs (l.length == 80) (paneOk l 0 part && p.group.isNone) (.pane p)

def readLayout (l : List Byte) (part : Bool) : Read :=
  let n := u l 4 2
  let g := u l 0 1
  let es := (List.range (Nat.min n 64)).map fun k => readPaneDef l (8 + 80 * k)
  if !(inRange 1 64 n) || decide (1 < u l 2 1) then .inl errField
  else
    readAs (l.length == 8 + 80 * n)
      (decide (g < 16) && decide (u l 1 1 ≤ 3) && zeros l 3 1 && zeros l 6 2 && (!part || u l 2 1 == 0) &&
       ((List.range n).all fun k => paneOk l (8 + 80 * k) false) && es.all fun p => p.group == some g)
      (.layoutSet { group := g, set := u l 1 1, active := u l 2 1 == 1, entries := es })

/-! ## DOOR_MAP, LOUVRE, ARBITER (R442 to R444) -/

def readDoor (l : List Byte) (d : Nat) : DoorCfg :=
  let o := 24 * d
  { enable := u l o 1 % 2 == 1, firm := u l o 1 / 2 % 2 == 1, urgentCred := u l (o + 1) 1, maintCred := u l (o + 2) 1,
    srcValid := BitVec.ofNat 32 (u l (o + 4) 4), srcMap := (List.range 32).map fun c => u l (o + 8) 16 / 16 ^ c % 16 }

/-- Doors in use on a hub of a member (R24). -/
def doorUsed (member h d : Nat) : Bool :=
  if 4 ≤ d then true
  else match member with
    | 0 => false
    | 1 => d == 0
    | 2 => d == 0 || (h == 0 && d == 1) || (h == 1 && d == 3)
    | _ => true

def doorEntryOk (member : Nat) (hubs : List Nat) (l : List Byte) (d : Nat) : Bool :=
  let o := 24 * d
  let c := readDoor l d
  decide (u l o 1 < 4) && decide (c.urgentCred ≤ 64) && decide (c.maintCred ≤ 15) && (d != 0 || c.maintCred == 0) && zeros l (o + 3) 1 &&
  decide (c.urgentCred + c.maintCred < Config.doorEntries d) && ((hubs.all fun h => doorUsed member h d) || zeros l o 24)

def readDoorMap (member : Nat) (hubs : List Nat) (l : List Byte) : Read :=
  readAs (l.length == 216) ((List.range 9).all (doorEntryOk member hubs l)) (.doorMap ((List.range 9).map (readDoor l)))

def readLouvreSlot (l : List Byte) (k : Nat) : LouvreSlotCfg :=
  let o := 8 + 16 * k
  { group := u l o 1, cas := u l (o + 1) 1, valid := u l (o + 2) 1 == 1, window := u l (o + 4) 4, budget := u l (o + 8) 4, urgent := u l (o + 12) 4 }

def louvreSlotOk (l : List Byte) (k : Nat) : Bool :=
  let o := 8 + 16 * k
  let c := readLouvreSlot l k
  decide (u l (o + 2) 1 ≤ 1) && zeros l (o + 3) 1 &&
  (if c.valid then decide (c.group < 16) && decide (c.cas < 32) && inRange 64 1600000 c.window && inRange 8 16777215 c.budget && decide (c.urgent ≤ 16777215)
   else zeros l o 16)

def readLouvre (member : Nat) (hubs : List Nat) (l : List Byte) : Read :=
  let d := u l 0 1
  readAs (l.length == 264) (decide (d ≤ 8) && (hubs.all fun h => doorUsed member h d) && zeros l 1 7 && (List.range 16).all (louvreSlotOk l) &&
    decide ((((List.range 16).map (readLouvreSlot l)).filter (·.valid)).map (·.group)).Nodup)
    (.louvre { door := d, slots := (List.range 16).map (readLouvreSlot l) })

def readArbiter (l : List Byte) : Read :=
  let c : ArbiterCfg := { latchLimit := u l 0 1, ageCeil := u l 2 2, prio := (List.range 64).map fun k => u l (8 + 8 * k) 8 }
  readAs (l.length == 520)
    (inRange 1 64 c.latchLimit && u l 1 1 == 16 && (c.ageCeil == 0 || inRange 64 4096 c.ageCeil) && zeros l 4 4 && c.prio.all fun v => decide (v < 2 ^ 36))
    (.arbiter c)

/-! ## CASEMENT and ROUTE (R311, R337, R360, R413) -/

/-- A queue identifier that names a queue of the package's engines (R309, R310), or none. -/
def queueCodeOk (n : Nat) : Bool :=
  let e := n / 8192
  decide (e ≤ 4) && n / 64 % 32 == 0 &&
  decide (n % 64 < (match e with | 0 => 32 | 1 => 16 | 2 => 32 | 3 => 16 | _ => 8))

def readCasement (s : State) (l : List Byte) : Read :=
  let qn := u l 3 1
  let ln := u l 4 1
  let pn := u l 5 1
  let qs := (List.range 32).map fun k => u l (0x20 + 2 * k) 2
  let lv := (List.range (Nat.min ln 64)).map fun k => u l (0x70 + 2 * k) 2
  let cl := (List.range 4).map fun c => (u l (0x10 + 2 * c) 1, u l (0x11 + 2 * c) 1)
  let c : CasementCfg := { cas := u l 0 1, fn := u l 1 1, msixBlock := u l 2 1, panes := BitVec.ofNat 64 (u l 8 8), clusters := cl,
                           counterPerm := BitVec.ofNat 64 (u l 0x18 8), queues := qs.take (Nat.min qn 32),
                           pools := (List.range (Nat.min pn 16)).map fun k => u l (0x60 + k) 1, louvres := lv }
  readAs (l.length == 112 + 4 * ((ln + 1) / 2))
    (decide (c.cas < 32) && decide (c.fn < 32) && decide (c.msixBlock < 32) && decide (qn ≤ 32) && decide (ln ≤ 64) && decide (pn ≤ 16) && zeros l 6 2 &&
     (c.cas != 0 || c.fn == 0) &&
     ((List.range 4).all fun d => let x := cl.getD d (0, 0); decide (x.1 ≤ 99) && decide (x.2 ≤ 100) && decide (x.1 + x.2 ≤ 100) && (s.cdieIn d || (x.1 == 0 && x.2 == 0))) &&
     decide (u l 0x19 1 ≤ 16) && decide (u l 0x1A 1 ≤ 16) && decide (u l 0x1B 1 < 16) && zeros l 0x1C 4 &&
     (c.queues.all queueCodeOk) && ((qs.drop qn).all (· == 0xFFFF)) &&
     ((List.range 16).all fun k => decide (k < pn) || u l (0x60 + k) 1 == 0) && (c.pools.all fun p => s.hubIn (p / 64)) &&
     (lv.all fun x => decide (x < 1024) && decide (x / 4 % 16 ≤ 8) && s.hubIn (x % 4)) && (ln % 2 == 0 || zeros l (0x70 + 2 * ln) 2))
    (.casement c)

def readRoute (l : List Byte) : Read :=
  let bits := (List.range 4).map fun d => u l (4 + d) 1
  let sizes := (List.range 4).map fun d => u l (8 + d) 1 + 1
  let c : RouteCfg := { nodeId := u l 0 4, dimBits := bits, dimSize := sizes, timeRef := u l 0xC 4,
                        dirMask := (List.range 4).map fun d => BitVec.ofNat 32 (u l (0x10 + 4 * d) 4),
                        portMap := (List.range 16).map fun t => u l (0x20 + t) 1, accept := BitVec.ofNat 32 (u l 0x30 4) }
  readAs (l.length == 64)
    (decide (c.nodeId < 2 ^ 17) && decide (c.timeRef < 2 ^ 17) && (bits.all fun b => decide (b ≤ 5)) && decide (bits.foldl (· + ·) 0 ≤ 17) &&
     ((bits.zip sizes).all fun x => decide (x.2 ≤ 2 ^ x.1)) && (c.portMap.all fun p => decide (p < 8) || p == 0xFF) && zeros l 0x34 12) (.route c)

end Sys2Proof.Machine
end

