-- ==== Sys2Proof/Machine/Image.lean ====
section
/-! DEFINITION. Loading a structure image: header, signature, frames, conflicts; partial images, layout switches and the commit tick (chapter 02; R113 to R127, R257). -/

namespace Sys2Proof.Machine

/-! ## Header (R29 to R31) -/

/-- Why a load ends: the code of R56, the frame's index and the hub concerned. -/
structure LoadErr where
  code : Nat
  frame : Nat
  hub : Nat
  deriving DecidableEq, Repr

def noFrame : Nat := 0xFFFF
def loadErr (c : Nat) : LoadErr := { code := c, frame := noFrame, hub := 0 }
def frameErr (c k : Nat) : LoadErr := { code := c, frame := k, hub := 0 }

/-- The header checks of R30 in order; `kind` is the kind that the path loads.  A ROLLBACK above 64 is out of its range (R439). -/
def State.headerCheck (s : State) (l : List Byte) (kind : Nat) : Option Nat :=
  let len := u l 8 4
  let sig := u l 0x30 4
  if l.length < 64 then some errLength
  else if u l 0 4 ≠ 0x4D49534B then some errMagic
  else if u l 0x38 4 ≠ crc32c (l.take 0x38) then some errHdrCrc
  else if u l 4 1 ≠ 1 ∨ u l 6 2 ≠ 0x40 ∨ zeros l 0x16 2 = false ∨ zeros l 0x34 4 = false ∨ zeros l 0x3C 4 = false ∨
      u l 0x18 8 = 0 ∨ (u l 0x15 1 = 0 ∧ u l 0x20 8 ≠ 0) then some errFormat
  else if u l 0x15 1 ≠ kind then some errKind
  else if (if kind = 0 then 0x1000000 else 0x100000) < len ∨ l.length < len ∨ sig % 8 ≠ 0 ∨ sig < 0x50 ∨ len ≠ sig + 200 then some errLength
  else if u l 0xE 1 ≠ s.fuse.member ∨ u l 0x10 1 ≠ s.fuse.hubMask ∨ u l 0x11 1 ≠ s.fuse.cdieMask ∨ u l 0x12 2 ≠ s.fuse.stackMask ∨
      s.fuse.stepping < u l 0xF 1 then some errMember
  else if u l 0x14 1 < s.fuse.imgRollback then some errRollback
  else if 64 < u l 0x14 1 then some errField
  else none

/-! ## Signature (R40, R41) -/

/-- Verifier v (0 the service die, 1 + h hub h) judges a signature block over a message. -/
def State.sigCheck (s : State) (v : Nat) (blk msg : List Byte) : Option Nat :=
  let slot := u blk 4 1
  let key := (blk.drop 8).take 96
  if bigEndian (blk.take 4) ≠ 0x4B495347 then some errMagic
  else if zeros blk 5 3 = false then some errFormat
  else if 3 < slot then some errSigKey
  else if sha384 key ≠ (s.fuse.keys.getD v []).getD slot 0 ∨ (s.fuse.revoked.getD v []).getD slot false = true then some errSigKey
  else if ecdsaVerify (bigEndian (key.take 48)) (bigEndian (key.drop 48)) (bigEndian ((blk.drop 0x68).take 48)) (bigEndian ((blk.drop 0x98).take 48)) msg then none
  else some errSigFail

/-! ## Frames (R32 to R36) -/

/-- A frame read from a file with its index and TYPE. -/
structure RawFrame where
  idx : Nat
  typ : Nat
  frame : Frame
  deriving DecidableEq, Repr

def frameTypes : List Nat :=
  [0x0100, 0x0110, 0x0200, 0x0210, 0x0220, 0x0300, 0x0310, 0x0320, 0x0330, 0x0400, 0x0500, 0x0510, 0x0600, 0x0610, 0x0620, 0x0700, 0x0800, 0xFF00]

/-- Types a partial image may carry (R36). -/
def partialTypes : List Nat := [0x0500, 0x0510, 0x0610, 0x0700, 0xFF00]

def State.hubBits (s : State) : Nat := s.fuse.hubMask
def State.dieBits (s : State) : Nat := s.fuse.hubMask + 16 * s.fuse.cdieMask + 256

def subBits (a b : Nat) : Bool := a &&& b == a

/-- Whether TARGET is right for a TYPE (R35, R36, R441). -/
def State.targetOk (s : State) (typ t : Nat) : Bool :=
  match typ with
  | 0xFF00 => t == 0
  | 0x0100 => t == s.dieBits
  | 0x0700 => t == s.dieBits
  | 0x0110 => t == 256 || (allHubs.any fun h => s.hubIn h && t == 2 ^ h)
  | 0x0400 => t != 0 && subBits t s.dieBits
  | 0x0500 => t == s.hubBits
  | 0x0510 => t == s.hubBits
  | _ => t != 0 && subBits t s.hubBits

/-- The profiles that the frames read so far give a hub, in file order: a profile's index is its place among them (R181). -/
def hubProfiles (done : List RawFrame) (h : Nat) : List ProfileCfg :=
  done.filterMap fun r => if r.frame.target.getLsbD h then r.frame.body.asProfile else none

/-- The body of a payload by TYPE; `done` are the frames before it. -/
def State.readPayload (s : State) (typ t : Nat) (part : Bool) (done : List RawFrame) (l : List Byte) : Read :=
  let hubs := allHubs.filter (t.testBit ·)
  match typ with
  | 0x0100 => readHinge l
  | 0x0110 => readPins l (t != 256)
  | 0x0200 => readProfile l fun n => hubs.all fun h => (hubProfiles done h).length == n
  | 0x0210 => readTiming l fun n => hubs.any fun h => ((hubProfiles done h)[n]?).any (·.parity)
  | 0x0220 => readSteps l fun n => hubs.filterMap fun h => (hubProfiles done h)[n]?
  | 0x0300 => readRefresh l
  | 0x0310 => readDisturb l
  | 0x0320 => readAdjacency l
  | 0x0330 => readEcc l
  | 0x0400 => readThermal l (t % 16 != 0) (t / 16 % 16 != 0)
  | 0x0500 => readPane l part
  | 0x0510 => readLayout l part
  | 0x0600 => readDoorMap s.fuse.member hubs l
  | 0x0610 => readLouvre s.fuse.member hubs l
  | 0x0620 => readArbiter l
  | 0x0700 => readCasement s l
  | 0x0800 => readRoute l
  | _ => .inr .note

/-- Frames of a body that name a die. -/
def countFor {α : Type} (l : List RawFrame) (d : Nat) (pick : FrameBody → Option α) (same : α → Bool) : Nat :=
  (l.filter fun r => r.frame.target.getLsbD d && (pick r.frame.body).any same).length

/-- At most n frames of one kind for each die of a frame's TARGET. -/
def within {α : Type} (l : List RawFrame) (r : RawFrame) (pick : FrameBody → Option α) (same : α → Bool) (n : Nat) : Bool :=
  (List.range 9).all fun d => !(r.frame.target.getLsbD d) || decide (countFor l d pick same ≤ n)

/-- The panes that a list of frames defines: those of the PANE frames, and the panes of layout sets, each once however many sets it appears in. -/
def paneTotal (l : List RawFrame) : Nat :=
  (l.filterMap fun x => x.frame.body.asPane).length +
    (l.flatMap fun x => ((x.frame.body.asLayout).map fun c => c.entries.map (·.id)).getD []).eraseDups.length

/-- The count limits of R36, judged with the frame just read in the list. -/
def countOk (l : List RawFrame) (r : RawFrame) : Bool :=
  match r.frame.body with
  | .hinge _ => decide (countFor l 8 FrameBody.asHinge (fun _ => true) ≤ 1)
  | .pins _ => within l r FrameBody.asPins (fun _ => true) 1
  | .profile _ => within l r FrameBody.asProfile (fun _ => true) 4
  | .timing c =>
    ((l.findSome? fun x => x.frame.body.asHinge).all fun x => x.enabled.testBit c.hinge) &&
    within l r FrameBody.asTiming (fun x => x.profile == c.profile && x.hinge == c.hinge) 1
  | .steps c => within l r FrameBody.asSteps (fun x => x.profile == c.profile) 1
  | .refresh _ => within l r FrameBody.asRefresh (fun _ => true) 1
  | .disturb _ => within l r FrameBody.asDisturb (fun _ => true) 1
  | .adjacency c => within l r FrameBody.asAdjacency (fun x => x.profile == c.profile) 1
  | .ecc _ => within l r FrameBody.asEcc (fun _ => true) 1
  | .thermal _ => within l r FrameBody.asThermal (fun _ => true) 1
  | .pane _ => decide (paneTotal l ≤ 64)
  | .layoutSet c => decide (paneTotal l ≤ 64) && decide ((l.filterMap fun x => (x.frame.body.asLayout).filter fun y => y.group == c.group).length ≤ 4)
  | .doorMap _ => within l r FrameBody.asDoorMap (fun _ => true) 1
  | .louvre c => within l r FrameBody.asLouvre (fun x => x.door == c.door) 1
  | .arbiter _ => within l r FrameBody.asArbiter (fun _ => true) 1
  | .casement _ => decide ((l.filterMap fun x => x.frame.body.asCasement).length ≤ 32)
  | .route _ => within l r FrameBody.asRoute (fun _ => true) 1
  | .note => true

/-- Read and check the frame at an offset of the part before SIG_OFFSET.  DESIGN CHOICE (log entry 46): the spec gives the checks of one frame no order; here it is bounds, CRC, TYPE and VERSION, PARTIAL_TYPE, the order of TYPEs, FLAGS, TARGET, LENGTH and padding, payload, counts. -/
def State.readFrame (s : State) (l : List Byte) (off k : Nat) (part : Bool) (done : List RawFrame) (prev : Nat) : LoadErr ⊕ RawFrame :=
  let sig := l.length
  let typ := u l off 2
  let len := u l (off + 4) 4
  let t := u l (off + 8) 4
  let pay := (l.drop (off + 16)).take len
  if sig < off + 16 ∨ sig < off + 16 + len then .inl (frameErr errFrameLength k)
  else if u l (off + 12) 4 ≠ crc32c ((l.drop off).take 12 ++ pay) then .inl (frameErr errFrameCrc k)
  else if frameTypes.contains typ = false ∨ u l (off + 2) 1 ≠ 1 then .inl (frameErr errFrameType k)
  else if part ∧ partialTypes.contains typ = false then .inl (frameErr errPartialType k)
  else if typ ≠ 0xFF00 ∧ typ < prev then .inl (frameErr errFrameOrder k)
  else if 1 < u l (off + 3) 1 then .inl (frameErr errField k)
  else if s.targetOk typ t = false then .inl (frameErr errFrameTarget k)
  else if len % 4 ≠ 0 ∨ (len % 8 ≠ 0 ∧ zeros l (off + 16 + len) 4 = false) then .inl (frameErr errFrameLength k)
  else match s.readPayload typ t part done pay with
    | .inl c => .inl (frameErr c k)
    | .inr b =>
      let r : RawFrame := { idx := k, typ := typ, frame := { target := BitVec.ofNat 32 t, body := b } }
      if countOk (done ++ [r]) r then .inr r else .inl (frameErr errFrameCount k)

/-- Read frames until one has LAST set (R33). -/
def State.readFrames (s : State) (l : List Byte) (part : Bool) (count : Nat) : Nat → Nat → Nat → Nat → List RawFrame → LoadErr ⊕ List RawFrame
  | 0, _, k, _, _ => .inl (frameErr errFrameLength k)
  | fuel + 1, off, k, prev, done =>
    match s.readFrame l off k part done prev with
    | .inl e => .inl e
    | .inr r =>
      let next := off + 16 + (u l (off + 4) 4 + 7) / 8 * 8
      if u l (off + 3) 1 = 1 then
        if next < l.length then .inl (frameErr errFrameOrder k)
        else if k + 1 ≠ count then .inl (loadErr errFrameOrder)
        else .inr (done ++ [r])
      else s.readFrames l part count fuel next (k + 1) (if r.typ = 0xFF00 then prev else r.typ) (done ++ [r])

/-! ## What a full image must carry (R440) -/

def hasFor {α : Type} (l : List Frame) (d : Nat) (pick : FrameBody → Option α) (p : α → Bool) : Bool :=
  l.any fun f => f.target.getLsbD d && (pick f.body).any p

def State.complete (s : State) (l : List Frame) : Bool :=
  let profiles (h : Nat) := l.filterMap fun f => if f.target.getLsbD h then f.body.asProfile else none
  (l.any fun f => (f.body.asHinge).isSome) &&
  (s.hubs.all fun h =>
    !(profiles h).isEmpty && ((profiles h).all fun c => hasFor l h FrameBody.asSteps fun x => x.profile == c.index) &&
    hasFor l h FrameBody.asRefresh (fun _ => true) && hasFor l h FrameBody.asDisturb (fun _ => true) &&
    hasFor l h FrameBody.asDoorMap (fun _ => true) && hasFor l h FrameBody.asArbiter (fun _ => true) &&
    (!(hasFor l h FrameBody.asDisturb fun x => x.method == 1) || (profiles h).all fun c => hasFor l h FrameBody.asAdjacency fun x => x.profile == c.index)) &&
  ((List.range 9).all fun d => !(s.dieBits.testBit d) || hasFor l d FrameBody.asThermal (fun _ => true)) &&
  (l.any fun f => (f.body.asCasement).any fun c => c.cas == 0)

/-! ## Static conflicts (R48)

Every frame carries its rank: 0 for a frame of the running configuration, its index plus 1 for one of the file.  A conflict's rank is that of the frame that completes it. -/

abbrev Ranked := List (Nat × Frame)

/-- A pane definition with its rank and its group's set. -/
structure PaneAt where
  rank : Nat
  gs : Option (Nat × Nat)
  p : PaneDef
  deriving DecidableEq, Repr

def panesOf (l : Ranked) : List PaneAt :=
  l.flatMap fun x =>
    match x.2.body with
    | .pane p => [{ rank := x.1, gs := none, p := p }]
    | .layoutSet c => c.entries.map fun p => { rank := x.1, gs := some (c.group, c.set), p := p }
    | _ => []

def casementsOf (l : Ranked) : List (Nat × CasementCfg) := l.filterMap fun x => (x.2.body.asCasement).map fun c => (x.1, c)
def layoutsOf (l : Ranked) : List (Nat × LayoutSetCfg) := l.filterMap fun x => (x.2.body.asLayout).map fun c => (x.1, c)

/-- Ordered pairs of different members. -/
def pairs {α : Type} : List α → List (α × α)
  | [] => []
  | a :: t => (t.map fun b => (a, b)) ++ pairs t

def popCount (m : BitVec 384) : Nat := popCountN 384 m.toNat

/-- Two definitions that can be active together. -/
def together (a b : PaneAt) : Bool :=
  match a.gs, b.gs with
  | some x, some y => x.1 != y.1 || x.2 == y.2
  | _, _ => true

def rangesMeet (a b : PaneDef) : Bool := decide (a.base < b.base + b.size) && decide (b.base < a.base + a.size)

/-- Pane conflicts that one or two definitions make. -/
def State.paneConflicts (s : State) (l : Ranked) : List Nat :=
  let ps := panesOf l
  (ps.filterMap fun a =>
    if popCount a.p.mask ≠ a.p.pcCount ∨ (rankedPcs a.p.mask).any (fun q => !s.pcIn q.1 q.2) then some a.rank else none) ++
  (pairs ps).filterMap fun x =>
    let a := x.1
    let b := x.2
    let bad :=
      (together a b && rowsMeet a.p b.p) || (a.p.id != b.p.id && rangesMeet a.p b.p) ||
      (a.p.id == b.p.id &&
        match a.gs, b.gs with
        | some g, some k => g.1 != k.1 || g.2 == k.2 || a.p.cas != b.p.cas || a.p.base != b.p.base || a.p.size != b.p.size
        | _, _ => true)
    if bad then some (Nat.max a.rank b.rank) else none

/-- Ownership conflicts; `gone` gives the rank of the frame that deleted a pane. -/
def ownerConflicts (l : Ranked) (gone : Nat → Nat) : List Nat :=
  let ps := panesOf l
  let cs := casementsOf l
  (ps.filterMap fun a => if cs.any fun c => c.2.cas == a.p.cas then none else some a.rank) ++
  cs.flatMap fun c =>
    ((List.range 64).filterMap fun n =>
      if c.2.panes.getLsbD n then
        match ps.find? fun a => a.p.id == n with
        | some a => if a.p.cas = c.2.cas then none else some (Nat.max a.rank c.1)
        | none => some (Nat.max c.1 (gone n))
      else none) ++
    c.2.pools.filterMap fun q =>
      match ps.find? fun a => a.p.id == q % 64 with
      | some a => if a.p.cas = c.2.cas then none else some (Nat.max a.rank c.1)
      | none => some (Nat.max c.1 (gone (q % 64)))

/-- Group conflicts: of a full image by its ACTIVE flags, of a partial one by the running active sets. -/
def groupConflicts (l : Ranked) (active : Option (List (Nat × Nat))) : List Nat :=
  let ls := layoutsOf l
  ((List.range 16).filterMap fun g =>
    let mine := ls.filter fun x => x.2.group == g
    match mine.getLast? with
    | none => none
    | some z =>
      match active with
      | some a => if a.any fun y => y.1 == g then none else some z.1
      | none =>
        match mine.filter fun x => x.2.active with
        | [] => some z.1
        | [_] => none
        | _ :: y :: _ => some y.1) ++
  (pairs ls).filterMap fun x => if x.1.2.group = x.2.2.group ∧ x.1.2.set = x.2.2.set then some (Nat.max x.1.1 x.2.1) else none

/-- The number of a louvre slot as CASEMENT frames list it. -/
def slotCode (h d k : Nat) : Nat := h + 4 * d + 64 * k

/-- The LOUVRE frame of a door of hub h. -/
def louvreOf (l : Ranked) (h d : Nat) : Option (Nat × LouvreCfg) :=
  l.findSome? fun x => if x.2.target.getLsbD h then ((x.2.body.asLouvre).filter fun c => c.door == d).map fun c => (x.1, c) else none

/-- Slots and casements that disagree, and casements that share what may not be shared. -/
def sharingConflicts (l : Ranked) : List Nat :=
  let cs := casementsOf l
  let slots := allHubs.flatMap fun h => (List.range 9).flatMap fun d =>
    match louvreOf l h d with
    | some x => (x.2.slots.zip (List.range 16)).filterMap fun y => if y.1.valid then some (x.1, slotCode h d y.2, y.1.cas) else none
    | none => []
  (slots.filterMap fun x =>
    match cs.find? fun c => c.2.cas == x.2.2 with
    | some c => if c.2.louvres.contains x.2.1 then none else some (Nat.max x.1 c.1)
    | none => some x.1) ++
  (cs.flatMap fun c => c.2.louvres.filterMap fun y =>
    if slots.any fun x => x.2.1 == y && x.2.2 == c.2.cas then none
    else some (Nat.max c.1 (((louvreOf l (y % 4) (y / 4 % 16)).map (·.1)).getD 0))) ++
  (pairs cs).filterMap fun x =>
    let a := x.1.2
    let b := x.2.2
    if a.cas = b.cas ∨ a.fn = b.fn ∨ a.msixBlock = b.msixBlock ∨ (a.louvres.any fun y => b.louvres.contains y) ∨ (a.queues.any fun y => b.queues.contains y)
    then some (Nat.max x.1.1 x.2.1) else none

/-- Source groups without a slot, pins, hinge points, step tables, RFM. -/
def State.hubConflicts (s : State) (l : Ranked) : List Nat :=
  let profiles (h : Nat) := l.filterMap fun x => if x.2.target.getLsbD h then (x.2.body.asProfile).map fun c => (x.1, c) else none
  let hinge := (l.findSome? fun x => (x.2.body.asHinge).map fun c => (x.1, c))
  (s.hubs.flatMap fun h =>
    (l.flatMap fun x =>
      if x.2.target.getLsbD h then
        match x.2.body with
        | .doorMap ds => (ds.zip (List.range 9)).flatMap fun y =>
            (List.range 32).filterMap fun c =>
              if y.1.srcValid.getLsbD c then
                match louvreOf l h y.2 with
                | some z => if z.2.slots.any fun t => t.valid && t.group == y.1.srcMap.getD c 0 then none else some (Nat.max x.1 z.1)
                | none => some x.1
              else none
        | .steps t =>
          match (profiles h).find? fun c => c.2.index == t.profile with
          | none => [x.1]
          | some c =>
            let known (n : Nat) := c.2.cmds.any fun e => e.code == n
            if t.steps.all fun st => match st with | .row n _ => known n | .col n _ _ _ => known n | _ => true then [] else [x.1]
        | .disturb d => if d.method = 0 then (profiles h).filterMap fun c => if c.2.rfm then none else some (Nat.max x.1 c.1) else []
        | .profile c =>
          match hinge with
          | some g => (List.range 5).filterMap fun n =>
              if g.2.enabled.testBit n && !(hasFor (l.map (·.2)) h FrameBody.asTiming fun t => t.profile == c.index && t.hinge == n) then some (Nat.max g.1 x.1) else none
          | none => []
        | _ => []
      else [])) ++
  (match hinge with
   | some g => if g.2.enabled.testBit g.2.boot then [] else [g.1]
   | none => []) ++
  l.flatMap fun x =>
    match x.2.body with
    | .pins es => if decide ((es.map fun e => (e.row, e.col)).Nodup) then [] else [x.1]
    | _ => []

/-- Two frames of one partial image that replace the same object. -/
def sameObject (a b : FrameBody) : Bool :=
  match a, b with
  | .pane p, .pane q => p.id == q.id
  | .layoutSet c, .layoutSet d => c.group == d.group && c.set == d.set
  | .casement c, .casement d => c.cas == d.cas
  | _, _ => false

/-! ## Checks against the identified stacks (R46, R120, R121) -/

def lowest (l : List Nat) : Option Nat := l.foldl (fun b x => match b with | none => some x | some y => some (Nat.min x y)) none

/-- A rank as FRAME_IDX. -/
def rankIdx (r : Nat) : Nat := if r = 0 then noFrame else r - 1

/-- The hubs with a populated, identified stack that no profile accepts. -/
def State.unmatchedHubs (s : State) : List Nat :=
  s.hubs.filter fun h => [0, 1, 2].any fun st => s.stackIn h st && (s.stackId h st).isSome && (s.profileOf h (32 * st)).isNone

/-- The hubs that find STACK_UNMATCHED with the frames given: each hub matches its own stacks (R46). -/
def State.unmatchedWith (s : State) (fs : List Frame) : List Nat :=
  ({ s with cfg := some { id := 0, rollback := 0, frames := fs, activeSets := [] } } : State).unmatchedHubs

/-- R120, for a definition: rows within the bank. -/
def State.rowsFit (s : State) (p : PaneDef) : Bool :=
  (rankedPcs p.mask).all fun q => decide (p.rowFirst + p.rowCount ≤ s.rowsOf q.1 q.2)

def State.stacksAgree (s : State) (p : PaneDef) : Bool :=
  match rankedPcs p.mask with
  | [] => true
  | a :: t => t.all fun b => s.banksOf a.1 a.2 == s.banksOf b.1 b.2 && s.profileOf a.1 a.2 == s.profileOf b.1 b.2

/-- N × B × ROW_COUNT × C (R121). -/
def State.capacityOf (s : State) (p : PaneDef) : Nat :=
  let g := s.paneGeom p
  p.pcCount * g.1 * p.rowCount * g.2

/-- The checks that follow the last frame (R440, R48, R46, R120, R360), over ranked frames in the state that would run them.  DESIGN CHOICE (log entry 46): the spec orders R440 and R48 after the last frame and no further; here the order is R440, the conflicts of the image, STACK_UNMATCHED, R120, R360, the conflicts with the identified stacks. -/
def State.finalCheck (s : State) (l : Ranked) (full : Bool) (own : List RawFrame) (gone : Nat → Nat) (active : List (Nat × Nat)) : Option LoadErr :=
  let fs := l.map (·.2)
  if full ∧ s.complete fs = false then some (loadErr errFrameCount)
  else
    let dup := (pairs own).filterMap fun x => if !full && sameObject x.1.frame.body x.2.frame.body then some (x.2.idx + 1) else none
    let c1 := dup ++ s.paneConflicts l ++ ownerConflicts l gone ++ groupConflicts l (if full then none else some active) ++ sharingConflicts l ++ s.hubConflicts l
    match lowest c1 with
    | some r => some (frameErr errConflict (rankIdx r))
    | none =>
      let n : State := { s with cfg := some { id := 0, rollback := 0, frames := fs, activeSets := active } }
      let routes := fs.filterMap fun f => f.body.asRoute
      if !n.unmatchedHubs.isEmpty then some (loadErr errUnmatched)
      else match lowest ((panesOf l).filterMap fun a => if n.rowsFit a.p then none else some a.rank) with
        | some r => some (frameErr errField (rankIdx r))
        | none =>
          if (match routes with | [] => false | x :: t => !(t.all (· == x)) || !(s.hubs.all fun h => hasFor fs h FrameBody.asRoute fun _ => true)) then some (loadErr errField)
          else match lowest ((panesOf l).filterMap fun a => if n.stacksAgree a.p && a.p.size == n.capacityOf a.p then none else some a.rank) with
            | some r => some (frameErr errConflict (rankIdx r))
            | none => none

/-! ## Outcomes (R44, R56) -/

/-- HUB_IMG_STATUS of a hub. -/
def State.hubImage (s : State) (h state code frame : Nat) : State :=
  ((s.wr .HUB_IMG_STATUS_STATE h 0 0 state).wr .HUB_IMG_STATUS_ERROR h 0 0 code).wr .HUB_IMG_STATUS_FRAME_IDX h 0 0 frame

/-- STATE and KIND alone: ERROR, FRAME_IDX and HUB speak of the last rejected image, so no later load clears them. -/
def State.imageState (s : State) (state kind : Nat) : State := (s.wr .IMG_STATUS_STATE 0 0 0 state).wr .IMG_STATUS_KIND 0 0 0 kind

def State.imageStatus (s : State) (state kind code frame hub : Nat) : State :=
  ((((s.wr .IMG_STATUS_STATE 0 0 0 state).wr .IMG_STATUS_KIND 0 0 0 kind).wr .IMG_STATUS_ERROR 0 0 0 code).wr .IMG_STATUS_FRAME_IDX 0 0 0 frame).wr .IMG_STATUS_HUB 0 0 0 hub

/-- The same error on several hubs. -/
def LoadErr.on (e : LoadErr) (hubs : List Nat) : List (Nat × Nat) := hubs.map fun h => (h, e.code)

/-- A load ends with an error; every hub that found one records its own code (R44). -/
def State.rejectImage (s : State) (kind : Nat) (e : LoadErr) (found : List (Nat × Nat)) : State :=
  let t := (s.imageStatus 4 kind e.code e.frame e.hub).wr .IMG_CTRL_BUSY 0 0 0 0
  found.foldl (fun t x => t.hubImage x.1 4 x.2 e.frame) t

/-- The verdicts of the service die and of each hub on the signature of an image (R41, R42): the error of the load, and each hub that fails with its own code.  Where several hubs disagree, IMG_STATUS.HUB names the lowest-numbered (DESIGN CHOICE, log entry 46). -/
def State.verifyAll (s : State) (l : List Byte) : Option (LoadErr × List (Nat × Nat)) :=
  let sig := u l 0x30 4
  let blk := (l.drop sig).take 200
  let msg := l.take sig
  let bad := s.hubs.filterMap fun h => (s.sigCheck (1 + h) blk msg).map fun c => (h, c)
  match s.sigCheck 0 blk msg with
  | some c => some (loadErr c, bad)
  | none =>
    match bad with
    | x :: _ => some ({ code := errDisagree, frame := noFrame, hub := x.1 }, bad)
    | [] => none

/-- The header, the signature and the frames of an image, or the error and the hubs that found one. -/
def State.parseImage (s : State) (l : List Byte) (kind : Nat) : (LoadErr × List (Nat × Nat)) ⊕ List RawFrame :=
  match s.headerCheck l kind with
  | some c => .inl (loadErr c, (loadErr c).on s.hubs)
  | none =>
    match s.verifyAll l with
    | some e => .inl e
    | none =>
      if kind = 1 ∧ (u l 0x20 8 ≠ s.rd .IMG_ID_ID 0 0 0 ∨ s.cfg = none) then .inl (loadErr errBase, (loadErr errBase).on s.hubs)
      else match s.readFrames (l.take (u l 0x30 4)) (kind == 1) (u l 0xC 2) (u l 0x30 4 / 16 + 1) 0x40 0 0 [] with
        | .inl e => .inl (e, e.on s.hubs)
        | .inr fs => .inr fs

/-! ## What an image loads into registers -/

/-- The slots of a door (R443). -/
def State.loadSlots (s : State) (h d : Nat) (c : Option LouvreCfg) : State :=
  (List.range 16).foldl (fun t k =>
    let x := (c.bind fun y => y.slots[k]?).getD { group := 0, cas := 0, valid := false, window := 0, budget := 0, urgent := 0 }
    let t := (((((t.wr .LVR_SLOT_CFG_SRC_GROUP h d k x.group).wr .LVR_SLOT_CFG_CASEMENT h d k x.cas).wr .LVR_SLOT_CFG_VALID h d k (if x.valid then 1 else 0)).wr
      .LVR_SLOT_WINDOW_CYCLES h d k x.window).wr .LVR_BUDGET_UNITS h d k x.budget).wr .LVR_URGENT_UNITS h d k x.urgent
    t.setLvr h d k LouvreSt.reset) s

/-- The LOUVRE frame in force at a door. -/
def State.louvreFrame (s : State) (h d : Nat) : Option LouvreCfg := (s.framesFor h FrameBody.asLouvre).find? fun c => c.door = d

/-- The ARBITER frame's fields (R444). -/
def State.loadArbiter (s : State) (h : Nat) : State :=
  match s.frameFor h FrameBody.asArbiter with
  | none => s
  | some c =>
    let t := (List.range 64).foldl (fun t n => t.wr .DARB_PRIO_DOOR_PRIO h n 0 (c.prio.getD n 0)) s
    (s.pcsOf h).foldl (fun t p => t.wr .PC_AGE_CEIL_CYCLES h p 0 (if c.ageCeil = 0 then 512 else c.ageCeil)) t

/-- Every field that the configuration loads and software may write (R105). -/
def State.loadFields (s : State) : State :=
  let t := s.hubs.foldl (fun t h => (List.range 9).foldl (fun t d => t.loadSlots h d (t.louvreFrame h d)) (t.loadArbiter h)) s
  t.wr .SVC_PWR_CTRL_RESUME_HP 0 0 0 ((s.hingeCfg.map (·.boot)).getD 0)

/-! ## Refresh modes (R187) -/

/-- Whether a pseudo-channel runs in all-bank mode. -/
def State.wantsAllBank (s : State) (h p : Nat) : Bool :=
  let l := (framesAs s.frames FrameBody.asPane ++ s.layouts.flatMap (·.entries)).filter fun d => d.mask.getLsbD (96 * h + p)
  !l.isEmpty && l.all (·.allBank)

/-- The mode is fixed; where it changes the schedule restarts, and all-bank mode takes the largest debt for every bank. -/
def State.setMode (s : State) (h p : Nat) : State :=
  let x := s.pc h p
  let m := s.wantsAllBank h p
  if x.allBank = m then s
  else
    let x := if x.refStart.isSome then x.restartDues s.now else x
    let top := x.maxDebt
    let y := if m && top != 0 then (List.range (s.banksOf h p)).foldl (fun y b => y.setBank b { y.bank b with debt := top }) x else x
    s.setPc h p { y with allBank := m }

def State.setModes (s : State) : State := s.allPcs.foldl (fun t q => t.setMode q.1 q.2) s

/-! ## A full image (R45) -/

/-- Load a full image from a slot's bytes or a named buffer; an image that fails changes nothing but its status. -/
def State.loadFull (s : State) (l : List Byte) : State × Bool :=
  let l := l.take 0x1000000
  match s.parseImage l 0 with
  | .inl e => (s.rejectImage 0 e.1 e.2, false)
  | .inr fs =>
    let act := (fs.filterMap fun r => (r.frame.body.asLayout).filter (·.active)).map fun c => (c.group, c.set)
    let ranked : Ranked := fs.map fun r => (r.idx + 1, r.frame)
    match s.finalCheck ranked true fs (fun _ => 0) act with
    | some e => (s.rejectImage 0 e (e.on (if e.code = errUnmatched then s.unmatchedWith (fs.map (·.frame)) else s.hubs)), false)
    | none =>
      let c : RunCfg := { id := BitVec.ofNat 64 (u l 0x18 8), rollback := u l 0x14 1, frames := fs.map (·.frame), activeSets := act }
      let t := (({ s with cfg := some c } : State).imageState 3 0).wr .IMG_ID_ID 0 0 0 (u l 0x18 8)
      let t := s.hubs.foldl (fun t h => t.wr .HUB_IMG_STATUS_STATE h 0 0 3) t
      (t.loadFields.setModes, true)

/-! ## Partial images (R49 to R55) -/

/-- The running frames without the objects that a frame replaces (R50). -/
def replaced (f : Frame) (l : Ranked) : Ranked :=
  match f.body with
  | .pane p => l.filter fun x => !((x.2.body.asPane).any fun q => q.id == p.id)
  | .layoutSet c => l.filter fun x => !((x.2.body.asLayout).any fun d => d.group == c.group && d.set == c.set)
  | .casement c => l.filter fun x => !((x.2.body.asCasement).any fun d => d.cas == c.cas)
  | .louvre c => (l.map fun x => if (x.2.body.asLouvre).any fun d => d.door == c.door then (x.1, { x.2 with target := x.2.target &&& ~~~f.target }) else x).filter
      fun x => (x.2.body.asLouvre).isNone || x.2.target != 0
  | _ => l

/-- One frame of a partial image amends the ranked configuration; a pane of SIZE 0 goes. -/
def amend (l : Ranked) (r : RawFrame) : Ranked :=
  match r.frame.body with
  | .note => l
  | .pane p => if p.size = 0 then replaced r.frame l else replaced r.frame l ++ [(r.idx + 1, r.frame)]
  | _ => replaced r.frame l ++ [(r.idx + 1, r.frame)]

/-- A deletion that names no pane, or a pane of a group (R50). -/
def badDeletion (run : Ranked) (r : RawFrame) : Bool :=
  match r.frame.body with
  | .pane p => p.size == 0 && !(run.any fun x => (x.2.body.asPane).any fun q => q.id == p.id)
  | _ => false

def setBits (l : List Nat) : Nat := l.foldl (fun m n => m ||| 2 ^ n) 0

/-- Casements that hold a slot at a door of the frame's hubs. -/
def slotHolders (l : Ranked) (f : Frame) (c : LouvreCfg) : List Nat :=
  allHubs.flatMap fun h => if f.target.getLsbD h then
      match louvreOf l h c.door with
      | some x => (x.2.slots.filter (·.valid)).map (·.cas)
      | none => []
    else []

/-- Affected panes of a partial image (R51): named, or owned by a casement named or holding a slot, before or after. -/
def affectedPanes (run new : Ranked) (own : List RawFrame) : List Nat :=
  let owned (l : Ranked) (c : Nat) : List Nat := ((panesOf l).filter fun a => a.p.cas == c).map fun a => a.p.id
  own.flatMap fun r =>
    match r.frame.body with
    | .pane p => [p.id]
    | .layoutSet c => c.entries.map (·.id)
    | .casement c => owned run c.cas ++ owned new c.cas
    | .louvre c => (slotHolders run r.frame c ++ slotHolders new r.frame c).flatMap fun n => owned run n ++ owned new n
    | _ => []

/-- Casements concerned (R51). -/
def concerned (run new : Ranked) (own : List RawFrame) : List Nat :=
  let ps := affectedPanes run new own
  (((panesOf run ++ panesOf new).filter fun a => ps.contains a.p.id).map fun a => a.p.cas) ++
  own.flatMap fun r =>
    match r.frame.body with
    | .casement c => [c.cas]
    | .louvre c => slotHolders run r.frame c ++ slotHolders new r.frame c
    | _ => []

/-- A staged partial image: the configuration after it, its panes and casements, the louvre doors it replaces. -/
def State.amended (s : State) (l : List Byte) (own : List RawFrame) : LoadErr ⊕ (Change × List Nat) :=
  let run : Ranked := s.frames.map fun f => (0, f)
  let new := own.foldl amend run
  let act := (s.cfg.map (·.activeSets)).getD []
  match own.find? (badDeletion run) with
  | some r => .inl (frameErr errConflict r.idx)
  | none =>
    let gone (n : Nat) : Nat := ((own.find? fun r => (r.frame.body.asPane).any fun p => p.id == n).map fun r => r.idx + 1).getD 0
    match s.finalCheck new false own gone act with
    | some e => .inl e
    | none =>
      let c : RunCfg := { id := BitVec.ofNat 64 (u l 0x18 8), rollback := (s.cfg.map (·.rollback)).getD 0, frames := new.map (·.2), activeSets := act }
      let doors := own.flatMap fun r =>
        match r.frame.body with
        | .louvre x => (allHubs.filter fun h => r.frame.target.getLsbD h).map fun h => (h, x.door)
        | _ => []
      let hubs := s.hubs.filter fun h => own.any fun r => r.frame.target.getLsbD h
      .inr (.image c (BitVec.ofNat 64 (setBits (affectedPanes run new own))) (BitVec.ofNat 32 (setBits (concerned run new own))) doors, hubs)

/-- The bytes of a partial image, read without traffic (log entry 32); a sector outside every pane reads as zeros. -/
def State.imageBytes (s : State) : Nat → Nat → List Byte
  | 0, _ => []
  | n + 1, addr =>
    let d : BitVec 256 := match s.panesAt addr with
      | [p] => (s.peekSector (s.placeIn p addr)).2
      | _ => 0
    (List.range 32).map (fun k => BitVec.ofNat 8 (d.toNat / 256 ^ k)) ++ s.imageBytes n (addr + 32)

/-- The partial image at IMG_PART_BASE of length IMG_PART_LEN. -/
def State.partialBytes (s : State) : List Byte :=
  let a := s.rd .IMG_PART_BASE_ADDR 0 0 0
  let n := s.rd .IMG_PART_LEN_LEN 0 0 0
  ((s.imageBytes ((a % 32 + n + 31) / 32) (a - a % 32)).drop (a % 32)).take n

/-- Panes of a set that are not quiesced. -/
def State.quiescedAll (s : State) (panes : Nat) : Bool := subBits panes (s.rd .IMG_QUIESCED_PANES 0 0 0)

def Staged.isLayout (x : Staged) : Bool := match x.change with | .layout _ _ => true | _ => false
def Staged.isImage (x : Staged) : Bool := match x.change with | .image _ _ _ _ => true | _ => false

/-- Set the commit tick of a staged change, a partial image's, a layout switch's (R126) or a fence change's (R257), once every hub has reported (R54). -/
def State.setTicks (s : State) : State :=
  { s with staged := s.staged.map fun x =>
      if x.tick.isNone && s.hubs.all (fun h => x.ready.contains h) then { x with tick := some (s.now + 200) } else x }

/-- Stage a change that every hub must report ready. -/
def State.stage (s : State) (c : Change) : State := { s with staged := s.staged ++ [{ change := c, ready := [], tick := none }] }

/-- Start the partial image at IMG_PART_BASE (R53): its checks, then staging.  Hubs that no frame names need not report. -/
def State.beginPartial (s : State) : State :=
  let l := s.partialBytes
  match s.parseImage l 1 with
  | .inl e => s.rejectImage 1 e.1 e.2
  | .inr own =>
    match s.amended l own with
    | .inl e => s.rejectImage 1 e (e.on s.hubs)
    | .inr (c, hubs) =>
      match c with
      | .image _ panes _ _ =>
        if s.quiescedAll panes.toNat then
          let t := hubs.foldl (fun t h => t.wr .HUB_IMG_STATUS_STATE h 0 0 5) ((s.imageState 5 1).wr .IMG_CTRL_BUSY 0 0 0 1)
          ({ t with staged := t.staged ++ [{ change := c, ready := s.hubs.filter fun h => !hubs.contains h, tick := none }] } : State).setTicks
        else s.rejectImage 1 (loadErr errNotQuiesced) []
      | _ => s

/-! ## Layout switches (R126, R127) -/

def State.endLayout (s : State) (code : Nat) : State :=
  (({ s with staged := s.staged.filter fun x => !x.isLayout } : State).wr .IMG_LAYOUT_CTRL_BUSY 0 0 0 0).wr .IMG_LAYOUT_CTRL_ERROR 0 0 0 code

/-- Panes of a group's active set and of another set. -/
def State.switchPanes (s : State) (g st : Nat) : Nat :=
  setBits (((s.layouts.filter fun l => l.group == g && (l.set == st || l.set == s.activeSet g)).flatMap (·.entries)).map (·.id))

/-- A layout switch starts, with GROUP and SET as the register holds them now; a switch to the set in force ends at once, before quiescence is judged (log entry 47). -/
def State.beginLayout (s : State) : State :=
  let g := s.rd .IMG_LAYOUT_CTRL_GROUP 0 0 0
  let st := s.rd .IMG_LAYOUT_CTRL_SET 0 0 0
  if (layoutIn s.layouts g st).isNone then s.endLayout errField
  else if s.activeSet g = st then s.endLayout 0
  else if s.quiescedAll (s.switchPanes g st) = false then s.endLayout errNotQuiesced
  else
    ((s.wr .IMG_LAYOUT_CTRL_BUSY 0 0 0 1).wr .IMG_LAYOUT_CTRL_ERROR 0 0 0 0).stage (.layout g st)

/-- Each of the two waits while the other runs (R127). -/
def State.imagesStaged (s : State) : Bool := s.staged.any Staged.isImage
def State.layoutsStaged (s : State) : Bool := s.staged.any Staged.isLayout

/-- Whichever was held starts when the other has ended (R127). -/
def State.startHeld (s : State) : State :=
  let t := if s.rd .IMG_LAYOUT_CTRL_BUSY 0 0 0 == 1 && !s.layoutsStaged && !s.imagesStaged then s.beginLayout else s
  if t.rd .IMG_CTRL_BUSY 0 0 0 == 1 && !t.layoutsStaged && !t.imagesStaged then t.beginPartial else t

/-- IMG_CTRL.GO (R53, R127); none where it is discarded. -/
def State.startImage (s : State) : State :=
  if s.layoutsStaged then s.wr .IMG_CTRL_BUSY 0 0 0 1
  else s.beginPartial.startHeld

/-- IMG_LAYOUT_CTRL.GO (R126, R127). -/
def State.startLayout (s : State) : State :=
  if s.imagesStaged then s.wr .IMG_LAYOUT_CTRL_BUSY 0 0 0 1
  else s.beginLayout.startHeld

/-! ## Ends before the commit tick (R55, R127) -/

/-- The staged partial image ends with an error; the old configuration stays.  No hub found an error of its own, so HUB_IMG_STATUS stays as staging left it (DESIGN CHOICE, log entry 47). -/
def State.endImage (s : State) (code : Nat) : State :=
  if s.imagesStaged || s.rd .IMG_CTRL_BUSY 0 0 0 == 1 then
    (({ s with staged := s.staged.filter fun x => !x.isImage } : State).rejectImage 1 (loadErr code) []).startHeld
  else s

def State.abortLayout (s : State) (code : Nat) : State :=
  if s.layoutsStaged || s.rd .IMG_LAYOUT_CTRL_BUSY 0 0 0 == 1 then (s.endLayout code).startHeld else s

/-- PF1, PF2, CRITICAL, IMG_CTRL.ABORT (R55, R127): whatever is staged or held but fences ends with ABORTED. -/
def State.abortStaged (s : State) : State := (s.endImage errAborted).abortLayout errAborted

/-- A casement reset aborts what concerns the casement (R55, R127): a staged switch where the casement owns a pane of any set of the group (DESIGN CHOICE, log entry 47). -/
def State.abortFor (s : State) (c : Nat) : State :=
  let img := s.staged.any fun x => match x.change with | .image _ _ cs _ => cs.getLsbD c | _ => false
  let lay := s.staged.any fun x => match x.change with
    | .layout g _ => (s.layouts.filter fun l => l.group == g).any fun l => l.entries.any fun p => p.cas == c
    | _ => false
  let t := if img then s.endImage errAborted else s
  if lay then t.abortLayout errAborted else t

/-- IMG_QUIESCE was written: an affected pane's bit that is 0 ends what needs it (R55, R127). -/
def State.quiesceLost (s : State) : State :=
  let q := s.rd .IMG_QUIESCE_PANES 0 0 0
  let img := s.staged.any fun x => match x.change with | .image _ ps _ _ => !(subBits ps.toNat q) | _ => false
  let lay := s.staged.any fun x => match x.change with | .layout g st => !(subBits (s.switchPanes g st) q) | _ => false
  let t := if img then s.endImage errNotQuiesced else s
  if lay then t.abortLayout errNotQuiesced else t

/-! ## Quiescence (R52) -/

/-- IMG_QUIESCE takes a value; a cleared bit clears its IMG_QUIESCED bit. -/
def State.quiesce (s : State) (v : Nat) : State :=
  ((s.wr .IMG_QUIESCE_PANES 0 0 0 v).wr .IMG_QUIESCED_PANES 0 0 0 (s.rd .IMG_QUIESCED_PANES 0 0 0 &&& v)).quiesceLost

/-- A quiesced pane's outstanding count is 0. -/
def State.quiesced (s : State) (n : Nat) : State :=
  if (s.rd .IMG_QUIESCE_PANES 0 0 0).testBit n && Tab.get 0 s.outPane n == 0 then
    s.wr .IMG_QUIESCED_PANES 0 0 0 (s.rd .IMG_QUIESCED_PANES 0 0 0 ||| 2 ^ n)
  else s

/-! ## The commit tick (R54, R257) -/

/-- Add or remove one fence entry. -/
def fenceRemove (l : Tab (Nat × Nat)) (base len : Nat) : Tab (Nat × Nat) :=
  match l.find? fun e => e.2 = (base, len) with
  | some e => l.filter fun x => x.1 != e.1
  | none => l

def fenceKey (l : Tab (Nat × Nat)) : Option Nat := (List.range 64).find? fun k => !(l.any fun e => e.1 == k)

def State.fenceApply (s : State) (base len : Nat) : State :=
  match fenceKey s.fences with
  | some k => { s with fences := Tab.put (0, 0) s.fences k (base, len) }
  | none => s

/-- A hub reports every change that it holds staged ready (R54). -/
def State.targetReady (s : State) (h : Nat) : State :=
  let report (x : Staged) : Staged := if x.tick.isNone && !x.ready.contains h then { x with ready := x.ready ++ [h] } else x
  ({ s with staged := s.staged.map report } : State).setTicks

/-- Every die switches to a partial image's configuration. -/
def State.commitImage (s : State) (c : RunCfg) (doors : List (Nat × Nat)) : State :=
  let t := (({ s with cfg := some c } : State).imageState 3 1).wr .IMG_CTRL_BUSY 0 0 0 0
  let t := t.wr .IMG_ID_ID 0 0 0 c.id.toNat
  let t := t.hubs.foldl (fun t h => if t.rd .HUB_IMG_STATUS_STATE h 0 0 = 5 then t.wr .HUB_IMG_STATUS_STATE h 0 0 3 else t) t
  (doors.foldl (fun t d => t.loadSlots d.1 d.2 (t.louvreFrame d.1 d.2)) t).setModes

/-- A staged change takes effect; FENCE commands complete. -/
def State.commitOne (s : State) (x : Staged) : State :=
  match x.change with
  | .image c _ _ doors => s.commitImage c doors
  | .layout g st =>
    let c := s.cfg.map fun c => { c with activeSets := (c.activeSets.filter fun y => y.1 != g) ++ [(g, st)] }
    ((({ s with cfg := c } : State).wr .IMG_LAYOUT_CTRL_BUSY 0 0 0 0).wr .IMG_LAYOUT_CTRL_ERROR 0 0 0 0)
  | .fenceAdd q i base len => (s.fenceApply base len).endCmd q i .done
  | .fenceDel q i base len => ({ s with fences := fenceRemove s.fences base len } : State).endCmd q i .done

def Staged.due (x : Staged) (now : Nat) : Bool := match x.tick with | some t => decide (t ≤ now) | none => false

/-- COMMIT_TICK: every change whose tick has come takes effect, unless a hinge is in progress (R54, R55). -/
def State.commit (s : State) : State :=
  if s.hinge.step ≠ 0 then s
  else
    let l := s.staged.filter fun x => x.due s.now
    if l.isEmpty then s
    else (l.foldl State.commitOne { s with staged := s.staged.filter fun x => !x.due s.now }).startHeld

/-- IMG_ROLLBACK.ADVANCE: the rollback fuses rise to the running full image's ROLLBACK, never falling (R43). -/
def State.advanceFuses (s : State) : State :=
  match s.cfg with
  | some c => { s with fuse := { s.fuse with imgRollback := Nat.max s.fuse.imgRollback c.rollback } }
  | none => s

/-- After a hinge, ticks that came during it move to 200 ticks later (R55). -/
def State.moveTicks (s : State) : State :=
  { s with staged := s.staged.map fun x => if x.due s.now then { x with tick := some (s.now + 200) } else x }

end Sys2Proof.Machine
end

