-- ==== Sys2Proof/Machine/Power.lean ====
section
/-! DEFINITION. Hinges and package power states (chapter 11). -/

namespace Sys2Proof.Machine

/-! ## Asking for a hinge (R208, R209) -/

def State.hpEnabled (s : State) (n : Nat) : Bool := decide (n ≤ 4) && s.hingeCfg.any fun c => c.enabled.testBit n

/-- A target as CAP lets it through: one below CAP is carried out to CAP (R209). -/
def State.clampHp (s : State) (t : Nat) : Nat := Nat.max t (s.rd .SVC_HINGE_STATUS_CAP 0 0 0)

def State.hingeError (s : State) (e : Nat) : State := s.wr .SVC_HINGE_STATUS_ERROR 0 0 0 e

/-- What becomes of a hinge request (R208). -/
inductive HingeVerdict where
  | refused | atOnce | pending
  deriving DecidableEq, Repr

def State.hingeVerdict (s : State) (t : Nat) : HingeVerdict :=
  if !s.hpEnabled t then .refused
  else if s.hinge.step = 0 ∧ t = s.clk.hp then .atOnce
  else .pending

def State.hingeRequest (s : State) (t : Nat) : State :=
  match s.hingeVerdict t with
  | .refused => s.hingeError 1
  | .atOnce => s.hingeError 0
  | .pending => ({ s with hinge := { s.hinge with pend := some t } } : State).hingeError 0

def State.critical (s : State) : Bool := s.hubs.any fun h => s.hubTier h == 3

/-- Whether the pending request may start (R208, R209). -/
def State.hingeMayStart (s : State) : Bool :=
  match s.hinge.pend with
  | none => false
  | some t =>
    s.hinge.step == 0 && !s.pf1 && !s.pf2 && !s.board.trip && s.boot.stage == .running && (!s.critical || s.clampHp t == 4) &&
    (match s.hinge.doneAt with
     | some d => decide (d + Config.msTicks ((s.hingeCfg.map (·.dwellMs)).getD 0) ≤ s.now)
     | none => true)

/-- The HINGE commands of a list complete (R330). -/
def State.endHinges (s : State) (l : List QueueId) (st : Status) : State :=
  l.foldl (fun t q => match (t.queue q).cmds.find? fun c => c.started && c.ended.isNone && c.opcode == 0x67 with
    | some c => t.endCmd q c.idx st
    | none => t) s

/-! ## The sequence (R210 to R216) -/

/-- A halted pseudo-channel's loaded requests stay in its queue, to be served anew (R214). -/
def PcSt.unload (x : PcSt) : PcSt :=
  let begun (e : QEnt) : Bool := x.banks.any fun b => (b.2.ptr.any fun q => q.op ≤ 4 && q.req == e.r.id) || b.2.latch == some e.r.id || (b.2.saved.any fun q => q.1.req == e.r.id)
  let back (e : QEnt) : QEnt := if begun e && !e.ended then { e with rdIssued := 0, merged := 0, bad := 0, wrIssued := 0 } else e
  { x with queue := x.queue.map back, banks := x.banks.map fun b => (b.1, { b.2 with ptr := none, latch := none, saved := none }) }

/-- Step 1 is done: every flit on the ring has landed. -/
def State.ringClear (s : State) : Bool :=
  allHubs.all fun h => [0, 1].all fun dir => (s.ringAt h dir).all fun r => r.home == h

/-- Step 2 is done on a pseudo-channel. -/
def State.drainedPc (s : State) (h p : Nat) : Bool :=
  let x := s.pc h p
  x.flight.isEmpty && x.replay.isNone && x.pauseFrom.isNone && x.wide.isNone && x.wideNext.isEmpty && x.sr != .exiting &&
  !x.emergRuns && (x.sr != .awake || (s.emergBank h p).isNone) &&
  (x.halt || x.trnHalted || (x.queue.isEmpty && (s.arb h p).hold == .none && x.banks.all fun b => b.2.ptr.isNone && b.2.latch.isNone && b.2.saved.isNone))

/-- The longest spacing VALUE of the active set has passed since the entry command (R179). -/
def State.spacingDone (s : State) (h p : Nat) : Bool :=
  let x := s.pc h p
  match s.timingOf h p x.tset with
  | some t => decide (x.srAt + (t.rules.foldl (fun m r => if r.window then m else Nat.max m r.value) 0) ≤ s.cyc)
  | none => true

def State.setHinge (s : State) (f : HingeSt → HingeSt) : State := { s with hinge := f s.hinge }

/-- Step 3 begins on a pseudo-channel. -/
def State.hingeEnter (s : State) (h p : Nat) : State :=
  let x := s.pc h p
  let t := if x.halt || x.trnHalted then s.setPc h p x.unload else s
  t.enterSr h p false

/-- A hinge in steps 1 to 4 goes on as soon as its step is complete on every die; after step 4 the clocks stop and the switch tick is set. -/
def State.hingeProgress (s : State) : State :=
  match s.hinge.step with
  | 1 => if s.ringClear then s.setHinge fun x => { x with step := 2 } else s
  | 2 => if s.allPcs.all fun q => s.drainedPc q.1 q.2 then (s.allPcs.foldl (fun t q => t.hingeEnter q.1 q.2) s).setHinge fun x => { x with step := 3 } else s
  | 3 => if s.allPcs.all fun q => (s.pc q.1 q.2).sr == .inSr then s.setHinge fun x => { x with step := 4 } else s
  | 4 =>
    if s.allPcs.all fun q => s.spacingDone q.1 q.2 then
      ({ s with clk := { s.clk with run := false } } : State).setHinge fun x => { x with step := 6, switchAt := some (s.now + 20), holdFrom := s.cyc, kHold := some s.clk.kclk }
    else s
  | _ => s

/-- Up to four steps that are complete at once. -/
def State.hingeRun (s : State) : State := s.hingeProgress.hingeProgress.hingeProgress.hingeProgress

/-- A pending hinge starts (R208 to R210). -/
def State.hingeStart (s : State) : State :=
  match s.hinge.pend with
  | none => s
  | some t =>
    if s.hingeMayStart then
      let g := s.clampHp t
      let u := if g = t then s else s.flag .SVC_HINGE_STATUS_CLAMPED 0 0 0
      if s.hpEnabled g = false then ((u.setHinge fun x => { x with pend := none, waiters := [] }).hingeError 1).endHinges s.hinge.waiters .denied
      else if g = s.clk.hp then ((u.setHinge fun x => { x with pend := none, waiters := [] }).hingeError 0).endHinges s.hinge.waiters .done
      else
        (u.setHinge fun x => { x with pend := none, waiters := [], runners := x.waiters, was := s.clk.hp, target := g, startAt := s.now, step := 1 }).hingeRun
    else s

/-- Steps 6 and 7 on a pseudo-channel: the new timing set and its trims; step 8 begins, or waits for an admission (R211, R213, R227). -/
def State.switchPc (s : State) (h p : Nat) : State :=
  let x := s.pc h p
  let y := { x with tset := s.hinge.target, hist := [] }
  let s := s.useTrims h p s.hinge.target
  if x.srAuto then s.setPc h p { y with deferred := true }
  else (s.setPc h p { y with wideNext := [12, 11, 13, 14], pauseDue := false }).exitSr h p

/-- SWITCH_TICK: every root PLL takes its new multiplier; clocks run for step 8. -/
def State.switchTick (s : State) : State :=
  match s.hinge.switchAt with
  | some t =>
    if s.hinge.step = 6 ∧ t ≤ s.now then
      let u : State := { s with clk := { s.clk with hp := s.hinge.target, run := true, kPhase := 0, fPhase := 0, tPhase := 0 } }
      (s.allPcs.foldl (fun v q => v.switchPc q.1 q.2) u).setHinge fun x => { x with step := 8, switchAt := some s.now }
    else s
  | none => s

/-- Step 8 is done on a pseudo-channel. -/
def State.exitedPc (s : State) (h p : Nat) : Bool :=
  let x := s.pc h p
  (x.srAuto && x.sr == .inSr) || (x.sr == .awake && x.wide.isNone && x.wideNext.isEmpty)

/-- Cycle timers held from step 5 to step 9 go on where they stood (R216). -/
def State.shiftTimers (s : State) (n : Nat) : State :=
  let pcs := s.pcs.map fun x => (x.1, { x.2 with
    queue := x.2.queue.map (fun e => { e with adm := e.adm + n }),
    groups := x.2.groups.map (fun g => { g with start := g.start + n }),
    banks := x.2.banks.map (fun b => (b.1, { b.2 with ptr := b.2.ptr.map fun q => if q.waitTo = 0 then q else { q with waitTo := q.waitTo + n } })) })
  let lv := s.louvres.map fun x => (x.1, if x.2.len = 0 then x.2 else { x.2 with start := x.2.start + n })
  { s with pcs := pcs, louvres := lv, slices := s.slices.map fun x => (x.1, { x.2 with nakAt := x.2.nakAt + n }) }

/-- The pause of step 8 on a pseudo-channel: its moves and its result (R213, R214). -/
def State.hingePause (s : State) (h p : Nat) (l : List PauseRes) : State :=
  if (s.pc h p).srAuto then s else s.pauseResult h p s.now (pauseOf l h p).1 (pauseOf l h p).2 true

/-- HINGE_RELEASE, links apart: step 9 (R210, R213 to R216, R222). -/
def State.hingeRelease (s : State) (pauses : List PauseRes) : State :=
  if s.hinge.step = 8 ∧ s.allPcs.all (fun q => s.exitedPc q.1 q.2) then
    let n := s.now - s.hinge.startAt
    let t := s.allPcs.foldl (fun t q => t.hingePause q.1 q.2 pauses) s
    let t := t.shiftTimers (s.cyc - s.hinge.holdFrom)
    let t := t.setHinge fun x => { x with step := 0, doneAt := some s.now, runners := [], switchAt := none }
    let t := ((t.count .SVC_HINGE_STATUS_COUNT top16 0 0 0 1).wr .SVC_HINGE_TIME_LAST_NS 0 0 0 (Nat.min 1048575 n)).hingeError 0
    let t := t.hubs.foldl (fun t h => t.traceHub h 0x06 0 0 [s.hinge.was, s.clk.hp, n, 0]) t
    let t := (t.endHinges s.hinge.runners .done).fnEventAll .hinge
    let t := if t.hinge.pend = some s.clk.hp then (t.setHinge fun x => { x with pend := none, waiters := [] }).endHinges t.hinge.waiters .done else t
    t.moveTicks
  else s

/-- A pseudo-channel that is in self-refresh when its hinge is abandoned stays there (R223). -/
def PcSt.stayAsleep (x : PcSt) : PcSt := if x.sr = .inSr then { x with wide := none, wideNext := [] } else x

/-- PF2, a trip, a lost reference or a reset abandons a hinge and clears a pending request (R223). -/
def State.abandonHinge (s : State) : State :=
  let t := (s.setHinge fun x => { x with step := 0, pend := none, waiters := [], runners := [], switchAt := none }).endHinges (s.hinge.runners ++ s.hinge.waiters) .halted
  if s.hinge.step = 0 then t
  else t.hubs.foldl (fun t h => (t.mapPcs h PcSt.stayAsleep).traceHub h 0x06 0 0 [s.clk.hp, s.hinge.target, s.now - s.hinge.startAt, 1]) (t.hingeError 2)

/-- SVC_HINGE_STATUS.STEP (R210): steps 5, 7 and 9 show in the tick in which the clocks stop, are switched and run again (log entry 96). -/
def State.hingeShown (s : State) : Nat :=
  let x := s.hinge
  if x.step = 6 ∧ x.switchAt = some (s.now + 20) then 5
  else if s.atPhaseStep then 7
  else if x.step = 0 ∧ x.doneAt = some s.now then 9
  else x.step

/-! ## Package power states (R219 to R221) -/

def State.cluster (s : State) (d k : Nat) : ClusterSt := Tab.get ClusterSt.reset s.clusters (100 * d + k)
def State.setCluster (s : State) (d k : Nat) (x : ClusterSt) : State := { s with clusters := Tab.put ClusterSt.reset s.clusters (100 * d + k) x }
def State.aksal (s : State) (d : Nat) : AksSt := Tab.get AksSt.reset s.aks d
def State.setAksal (s : State) (d : Nat) (x : AksSt) : State := { s with aks := Tab.put AksSt.reset s.aks d x }

def State.allGated (s : State) : Bool := s.cdies.all fun d => (List.range 100).all fun k => (s.cluster d k).gated

/-- Every MATRIX queue is disabled. -/
def State.matrixOff (s : State) : Bool := s.cdies.all fun d => (List.range 32).all fun k => s.rd .QUEUE_CTRL_ENABLE d k 0 == 0

def State.pwrDone (s : State) (st err : Nat) : State :=
  (((s.setHinge fun x => { x with pwrTo := none }).wr .SVC_PWR_STATUS_STATE 0 0 0 st).wr .SVC_PWR_STATUS_ERROR 0 0 0 err).wr .SVC_PWR_STATUS_BUSY 0 0 0 0

/-- CMP_OFF: the compute rails go off, and CD_PWR_OK falls on every die, which masks its D0. -/
def State.compOff (s : State) : State :=
  s.cdies.foldl (fun t d => (t.setAksal d { t.aksal d with cdPwr := false, cdRst := false, state := 0 }).maskDoor d 0) (s.emit (.rails false))

/-- Move on toward the hinge point of a power state: requested once, and refused where it is not enabled. -/
def State.pwrHinge (s : State) (hp st : Nat) : State :=
  if s.hinge.step ≠ 0 ∨ s.hinge.pend ≠ none then s
  else if s.clk.hp = hp then s.pwrDone st 0
  else if s.hpEnabled hp = false then s.pwrDone (s.rd .SVC_PWR_STATUS_STATE 0 0 0) 1
  else if s.clampHp hp = s.clk.hp then (s.flag .SVC_HINGE_STATUS_CLAMPED 0 0 0).pwrDone st 0
  else s.hingeRequest hp

/-- A change of power state goes on as far as it can. -/
def State.pwrProgress (s : State) : State :=
  let now := s.rd .SVC_PWR_STATUS_STATE 0 0 0
  match s.hinge.pwrTo with
  | some 0 => if now = 2 then s else s.pwrHinge (s.rd .SVC_PWR_CTRL_RESUME_HP 0 0 0) 0
  | some 1 => if s.allGated then s.pwrHinge 4 1 else s
  | some 2 =>
    if now = 1 then (if s.matrixOff then s.compOff.pwrDone 2 0 else s)
    else if s.allGated ∧ s.clk.hp = 4 ∧ s.hinge.step = 0 ∧ s.matrixOff then s.compOff.pwrDone 2 0
    else if s.allGated ∧ s.clk.hp ≠ 4 then s.pwrHinge 4 1
    else s
  | _ => s

/-- SVC_PWR_CTRL.GO (R219, R220); from CMP_OFF the only way out is to ACTIVE. -/
def State.pwrRequest (s : State) (st : Nat) : State :=
  let now := s.rd .SVC_PWR_STATUS_STATE 0 0 0
  if (st = 1 ∨ st = 2) ∧ (s.hpEnabled 4 = false ∨ (now = 2 ∧ st = 1)) then s.pwrDone now 1
  else if st = 2 ∧ (s.rd .SVC_PWR_CAP_CMP_OFF 0 0 0 = 0 ∨ s.pmbusLive = false) then s.pwrDone now 1
  else if st = now then s.pwrDone now 0
  else
    let t := ((s.setHinge fun x => { x with pwrTo := some st }).wr .SVC_PWR_STATUS_BUSY 0 0 0 1).wr .SVC_PWR_STATUS_ERROR 0 0 0 0
    (if st = 0 ∧ now = 2 then t.emit (.rails true) else t).pwrProgress

end Sys2Proof.Machine
end

