-- ==== Sys2Proof/Machine/Heat.lean ====
section
/-! DEFINITION. The 1500 ports, the hub fuse map and repairs (chapter 14); temperature sources, shutter tiers and closures (chapter 15). -/

namespace Sys2Proof.Machine

/-! ## The hub fuse map (R264 to R266) -/

def State.fuseRec (s : State) (h k : Nat) : Word := Tab.get 0 s.fuseMap (1024 * h + k)

/-- 0xFF XOR the exclusive-or of bytes 0 to 6. -/
def fuseCheck (v : Nat) : Nat := (List.range 7).foldl (fun c k => c ^^^ (v / 256 ^ k % 256)) 0xFF

def fuseType (v : Word) : Nat := v.toNat % 16

/-- A record is valid when its TYPE is 1 to 4 and its CHECK matches (R265). -/
def fuseValid (v : Word) : Bool := inRange 1 4 (fuseType v) && fuseCheck v.toNat == v.toNat / 2 ^ 56

/-- A record of the fuse map (R264). -/
structure FuseRec where
  typ : Nat
  stack : Nat
  pc : Nat
  bank : Nat
  row : Nat
  lane : Nat
  deriving DecidableEq, Repr

def fuseWord (r : FuseRec) : Word :=
  let v := r.typ + r.stack * 2 ^ 4 + r.pc * 2 ^ 6 + r.bank * 2 ^ 11 + r.row * 2 ^ 17 + r.lane * 2 ^ 35
  BitVec.ofNat 64 (v + fuseCheck v * 2 ^ 56)

def fuseFields (v : Word) : FuseRec :=
  let n := v.toNat
  { typ := bitsOf n 0 4, stack := bitsOf n 4 2, pc := bitsOf n 6 5, bank := bitsOf n 11 6, row := bitsOf n 17 18, lane := bitsOf n 35 6 }

/-- Record k is in force: valid SOFT_ROW or LANE with no later valid REVOKE that names it. -/
def State.inForce (s : State) (h k : Nat) : Bool :=
  let v := s.fuseRec h k
  fuseValid v && (fuseType v == 1 || fuseType v == 3) &&
  !(s.fuseMap.any fun x => x.1 / 1024 == h && decide (k < x.1 % 1024) && fuseValid x.2 && fuseType x.2 == 4 && bitsOf x.2.toNat 41 10 == k)

/-- Indexes of the records in force, in order. -/
def State.recordsInForce (s : State) (h : Nat) : List Nat := ((s.fuseMap.filter fun x => x.1 / 1024 == h).map fun x => x.1 % 1024).filter (s.inForce h)

def State.fuseNext (s : State) (h : Nat) : Nat := ((List.range 1024).find? fun k => s.fuseRec h k == 0).getD 1024
def State.fuseBad (s : State) (h : Nat) : Nat := (s.fuseMap.filter fun x => x.1 / 1024 == h && x.2 != 0 && !fuseValid x.2).length
def State.fuseFull (s : State) (h : Nat) : Bool := decide (1021 < (s.fuseMap.filter fun x => x.1 / 1024 == h && x.2 != 0).length)

/-- What a word blown now reads back as: itself, or where the array takes it badly its own value (free values, R265). -/
def State.blownAs (s : State) (v : Word) : Word := if Config.fuseTakes s.free then v else Config.fuseBad s.free

/-- Blow a word into the next free record. -/
def State.blowOnce (s : State) (h : Nat) (v : Word) : State :=
  { s.drawn with fuseMap := Tab.put 0 s.fuseMap (1024 * h + s.fuseNext h) (s.blownAs v) }

/-- Blow a word into the next free record and read it back; a bad one is blown again into the next free record, n times at most (R265). -/
def State.blowTries (s : State) (h : Nat) (v : Word) : Nat → State
  | 0 => s.blowOnce h v
  | n + 1 => if fuseValid (s.blownAs v) then s.blowOnce h v else (s.blowOnce h v).blowTries h v n

/-- Blow a record, unless the map is full (R265, R266). -/
def State.blow (s : State) (h : Nat) (r : FuseRec) : State :=
  if s.fuseFull h then s.flag .HUB_FUSE_STATUS_MAP_FULL h 0 0 else s.blowTries h (fuseWord r) 2

/-! ## Spares (R263) -/

/-- Kinds of repair: 1 SOFT_ROW, 2 HARD_ROW, 3 LANE, as in TYPE. -/
def spareKey (h p b kind : Nat) : Nat := ((h * 96 + p) * 64 + (if kind = 3 then 0 else b)) * 4 + kind

def State.sparesLeft (s : State) (h p b kind : Nat) : Nat :=
  match s.stackId h (stackOf p) with
  | some x => (match kind with | 1 => x.softLeft | 2 => x.hardLeft | _ => x.laneLeft) - Tab.get 0 s.spareUsed (spareKey h p b kind)
  | none => 0

def State.useSpare (s : State) (h p b kind : Nat) : State :=
  { s with spareUsed := Tab.put 0 s.spareUsed (spareKey h p b kind) (Tab.get 0 s.spareUsed (spareKey h p b kind) + 1) }

/-! ## The 1500 port (R261, R262, R271 to R275) -/

def State.setPort (s : State) (h st : Nat) (x : PortSt) : State := { s with ports := Tab.put PortSt.reset s.ports (portKey h st) x }

/-- A temperature readout is due: 20 µs since the last (R276). -/
def State.readoutDue (s : State) (h st : Nat) : Bool :=
  match (s.src (3 * h + st)).at_ with
  | some t => decide (t + Config.usTicks 20 ≤ s.now)
  | none => true

/-- The bytes of the direct-access buffer. -/
def State.shiftBytes (s : State) (h : Nat) : List Byte := (List.range 512).map fun k => Tab.get 0 s.shiftBuf (512 * h + k)

/-- Shift LEN bits of the buffer through a stack's port: what was in it goes out, what comes in replaces it. -/
def State.shiftThrough (s : State) (h st : Nat) (inp : List Byte) : State :=
  let n := s.rd .HUB_1500_DIRECT_CTRL_LEN h 0 0
  let old := leN 512 (s.shiftBytes h)
  let v := old / 2 ^ n * 2 ^ n + leN 512 inp % 2 ^ n
  let t := s.emit (.shift h st (s.shiftBytes h))
  (List.range 512).foldl (fun t k => ({ t with shiftBuf := Tab.put 0 t.shiftBuf (512 * h + k) (BitVec.ofNat 8 (v / 256 ^ k)) } : State)) t

def repairOwner (kind : Nat) : Nat := kind + 2

/-- The next user of the port (R262).  A repair gives way to a readout that is due between its operations; no operation begins during a hinge. -/
def State.portNext (s : State) (h st : Nat) (gap : Bool) : State :=
  let x := s.port h st
  let own (n : Nat) : State := s.setPort h st { x with owner := n }
  if s.hinge.step ≠ 0 then own 0
  else match x.repair with
    | some r => if gap && s.readoutDue h st then own 1 else own (repairOwner r.kind)
    | none =>
      if s.readoutDue h st then own 1
      else match x.direct with
        | some inp => (s.setPort h st { x with owner := 6, direct := none }).shiftThrough h st inp
        | none => own 0

/-- Operations of a repair before its program step or its end: entry, address load and exit of a row; load and readback of a lane. -/
def repairOps (kind : Nat) : Nat := if kind = 1 then 3 else 2

/-- Write the poison word to every sector of a row (R271). -/
def State.poisonRow (s : State) (h p b row : Nat) : State :=
  (List.range (s.rowBytes h p / 32)).foldl (fun t c => t.storePoison (sectorKey h p b row c)) s

/-- A repair's port operations and its checks have passed: what the hub records, and the end of the command. -/
def State.repairDone (s : State) (r : RepairSt) : State :=
  let h := r.q.inst.val
  let t := if r.kind = 3 then s else s.poisonRow h r.pc r.bank r.row
  let t := t.useSpare h r.pc r.bank r.kind
  let rec_ : FuseRec := { typ := r.kind, stack := stackOf r.pc, pc := r.pc % 32, bank := if r.kind = 3 then 0 else r.bank,
                          row := if r.kind = 3 then 0 else r.row, lane := if r.kind = 3 then r.lane else 0 }
  let t := if r.kind = 2 || r.persist then t.blow h rec_ else t
  t.endCmd r.q r.idx .done

/-- A refused repair or a failed training step (R271). -/
def State.repairFailed (s : State) (r : RepairSt) : State := (s.haltPc r.q.inst.val r.pc).endCmd r.q r.idx .halted

/-- Engine-run training begins on a pseudo-channel; COMPARE_DONE ends it (R226, R232). -/
def State.engineTraining (s : State) (h p : Nat) : State :=
  (s.setPc h p { s.pc h p with trnRun := some { step := 0, start := s.cyc } }).wr .PC_TRN_CTRL_BUSY h p 0 1

/-- The last operation of a repair is over: the stack has taken it or refused it (a free value). -/
def State.repairLast (s : State) (h st : Nat) (r : RepairSt) : State :=
  let t := s.drawn
  if Config.repairTaken s.free then
    if r.kind = 3 then (t.setPort h st { t.port h st with repair := some { r with left := 0 } }).engineTraining h r.pc
    else (t.setPort h st { t.port h st with repair := none }).repairDone r
  else (t.setPort h st { t.port h st with repair := none }).repairFailed r

/-- PORT_OPERATION: the operation in hand completes, and the port goes to its next user (R261, R262). -/
def State.portOperation (s : State) (h st : Nat) : State :=
  let x := s.port h st
  if x.program ∨ s.hinge.step ≠ 0 then s
  else match x.owner with
    | 6 => s.portNext h st false
    | 0 => s.portNext h st false
    | 1 => s
    | _ =>
      match x.repair with
      | none => s.portNext h st false
      | some r =>
        if (s.pc h r.pc).anyOpen ∨ r.left = 0 then s
        else if r.kind = 2 ∧ r.left = 2 then
          s.setPort h st { x with program := true, programAt := s.now, repair := some { r with left := 1 } }
        else if 1 < r.left then (s.setPort h st { x with repair := some { r with left := r.left - 1 } }).portNext h st true
        else (s.repairLast h st r).portNext h st true

/-- PROGRAM_STEP: PGM_MS has passed since the program step began (R261, R272). -/
def State.programStep (s : State) (h st : Nat) : State :=
  let x := s.port h st
  let ms := ((s.stackId h st).map (·.pgmMs)).getD 0
  if x.program ∧ x.programAt + Config.msTicks ms ≤ s.now then (s.setPort h st { x with program := false }).portNext h st true else s

/-- Every pseudo-channel of a stack is halted. -/
def State.stackHalted (s : State) (h st : Nat) : Bool :=
  (List.range 32).all fun k => let x := s.pc h (32 * st + k); x.trnHalted || x.halted

/-- HUB_1500_DIRECT_CTRL.GO (R275). -/
def State.directAccess (s : State) (h : Nat) (inp : List Byte) : State :=
  let st := s.rd .HUB_1500_DIRECT_CTRL_STACK h 0 0
  if decide (st < 3) && s.stackIn h st && s.stackHalted h st then
    let t := s.setPort h st { s.port h st with direct := some inp }
    if (t.port h st).owner = 0 then t.portNext h st false else t
  else s.flag .HUB_1500_STATUS_ERROR h st 0

/-- PF2, a trip and the resets end a repair (R273); its command ends when warm bring-up restores the queues. -/
def State.cutRepairs (s : State) : State :=
  s.ports.foldl (fun t x =>
    match x.2.repair with
    | some r => ({ t with ports := Tab.put PortSt.reset t.ports x.1 PortSt.reset } : State).endCmd r.q r.idx .halted
    | none => { t with ports := Tab.put PortSt.reset t.ports x.1 PortSt.reset }) s

/-! ## Tiers (R276 to R281) -/

/-- The value for tier t of a source. -/
def tierValue (t : Nat) (avg : Rat) (x : Int) : Rat := if t = 3 then (x : Rat) else avg

/-- The tier at a reading (R278). -/
def tierAt (e : List Nat) (hyst old : Nat) (avg : Rat) (x : Int) : Nat :=
  (([3, 2, 1].find? fun t =>
    let v := tierValue t avg x
    let en : Int := (e.getD (t - 1) 0 : Nat)
    decide (((en : Int) : Rat) ≤ v) || (decide (t ≤ old) && decide (((en - hyst : Int) : Rat) ≤ v)))).getD 0

/-- A reading reaches a source (R277, R278): with no THERMAL frame in force the tier stays. -/
def ThermSt.read (y : ThermSt) (c : Option (List Nat × Nat × Nat)) (x : Int) (now : Nat) : ThermSt :=
  let ms := (c.map fun z => z.2.2).getD 1
  let avg : Rat := match y.at_ with
    | none => (x : Rat)
    | some t => y.avg + ((x : Rat) - y.avg) * min 1 (((now - t : Nat) : Rat) / ((Config.msTicks ms : Nat) : Rat))
  { reading := x, avg := avg, at_ := some now, stale := false,
    tier := match c with
      | some z => tierAt z.1 z.2.1 y.tier avg x
      | none => y.tier }

def State.stackEntries (s : State) (h : Nat) : Option (List Nat × Nat × Nat) := (s.thermalCfg h).map fun c => (c.stackEntry, c.hyst, c.avgMs)
def State.dieEntries (s : State) (d : Nat) : Option (List Nat × Nat × Nat) := (s.thermalCfg d).map fun c => (c.dieEntry, c.hyst, c.avgMs)

/-- A die's present tier for the hinge cap (R280, R287). -/
def State.dieTier (s : State) (d : Nat) : Nat := if d < 4 then s.hubTier d else (s.src (12 + d)).tier

def State.dies (s : State) : List Nat := s.hubs ++ (s.cdies.map (4 + ·)) ++ [8]

def State.pkgTier (s : State) : Nat := s.hubs.foldl (fun m h => Nat.max m (s.hubTier h)) 0

/-- CAP of R287. -/
def State.capNow (s : State) : Nat := s.dies.foldl (fun m d => Nat.max m (s.tierAction d (s.dieTier d)).hingeCap) 0

/-! ## Closure (R283, R284) -/

/-- Requests that a latch in progress still has to take (R143). -/
def State.latchKeeps (s : State) (h st : Nat) : List Nat :=
  ((s.pcsOf h).filter fun p => stackOf p == st).flatMap fun p => (s.arb h p).hold.blocks

/-- Count the refusals of a closure on hub h. -/
def State.closedCount (s : State) (h n : Nat) : State := s.count .THM_CLOSED_CNT_COUNT top32 h 0 0 n

/-- Requests for a stack that wait at doors or on the ring end with THERMAL_CLOSED. -/
def State.closeStack (s : State) (h st : Nat) : State :=
  let keep := s.latchKeeps h st
  let gone (r : Req) : Bool := r.hub == h && stackOf r.pc == st && !keep.contains r.id
  let n := (allHubs.map fun g =>
    ((List.range 9).map fun d => ((s.door g d).inUse.filter gone).length).foldl (· + ·) 0 + ([0, 1].map fun dir => ((s.ringAt g dir).filter gone).length).foldl (· + ·) 0).foldl (· + ·) 0
  let t := allHubs.foldl (fun t g => (t.dropDoors g gone .thermalClosed).dropRing g gone .thermalClosed) (s.closedCount h n)
  { t with closed := Tab.put false t.closed (h * 12 + 3 * h + st) true }

/-- A stack opens: each pseudo-channel runs a retrain pause before its doors let anything through. -/
def State.openStack (s : State) (h st : Nat) : State :=
  let t : State := { s with closed := Tab.put false s.closed (h * 12 + 3 * h + st) false }
  ((t.pcsOf h).filter fun p => stackOf p == st).foldl (fun t p =>
    let x := t.pc h p
    if x.trnHalted then t else (t.setPc h p { x with pauseDue := true, reopen := true }).exitSr h p) t

/-- CLOSURE_ANNOUNCEMENT: die d learns what the stack's hub announced. -/
def State.announce (s : State) (d h st : Nat) : State :=
  { s with closed := Tab.put false s.closed (d * 12 + 3 * h + st) (s.knowsClosed h h st) }

/-! ## What a change of tier brings (R283, R287) -/

/-- THM_INT_STATUS, the trace and the closures of hub h between two states of its sources. -/
def State.tierEvents (s old : State) (h : Nat) : State :=
  let srcs := [12 + h, 3 * h, 3 * h + 1, 3 * h + 2]
  let t := srcs.foldl (fun t k =>
    let a := (old.src k).tier
    let b := (s.src k).tier
    if a = b then t
    else
      let t := t.traceHub h 0x09 0 0 [k, a, b]
      if a < b then (if b = 3 then t.flag .THM_INT_STATUS_CRITICAL h 0 0 else t).flag .THM_INT_STATUS_TIER_UP h 0 0
      else if (old.src k).at_.isNone then t else t.flag .THM_INT_STATUS_TIER_DOWN h 0 0) s
  ([0, 1, 2].filter (s.stackIn h)).foldl (fun t st =>
    if old.stackTier h st < 3 ∧ s.stackTier h st = 3 then t.closeStack h st
    else if old.stackTier h st = 3 ∧ s.stackTier h st < 3 then t.openStack h st
    else t) t

/-- CAP follows the tiers; a rise above the present hinge point requests a hinge once the package runs. -/
def State.capFollow (s : State) : State :=
  let c := s.capNow
  let old := s.rd .SVC_HINGE_STATUS_CAP 0 0 0
  let t := s.wr .SVC_HINGE_STATUS_CAP 0 0 0 c
  if old < c ∧ s.clk.hp < c ∧ s.boot.stage = .running then t.hingeRequest c else t

/-- After the sources have changed: events, closures, CAP, an abort at CRITICAL (R55), FN_EVENT_STATUS.THERMAL. -/
def State.heatChanged (s old : State) : State :=
  let t := s.hubs.foldl (fun t h => t.tierEvents old h) s
  let t := t.capFollow
  let t := if t.hubs.any fun h => decide (old.hubTier h < 3) && decide (t.hubTier h = 3) then t.abortStaged else t
  if decide (old.pkgTier < t.pkgTier) && decide (2 ≤ t.pkgTier) then t.fnEventAll .thermal else t

/-! ## Readings -/

/-- A readout gives way; the refresh rate follows the reading (R197): above 85 °C hot, at or below 82 °C not. -/
def State.readStack (s : State) (h st : Nat) (x : Int) : State :=
  let y := s.src (3 * h + st)
  let wasHot := (s.rd .HUB_REF_CFG_HOT h 0 0).testBit st
  let hot := decide (85 < x) || (wasHot && decide (82 < x))
  let t := s.setSrc (3 * h + st) (y.read (s.stackEntries h) x s.now)
  (t.setRate h st hot false).heatChanged s

/-- TEMPERATURE_READOUT: the readout in hand completes and frees the port. -/
def State.temperatureReadout (s : State) (h st : Nat) (x : Int) : State :=
  let y := s.port h st
  if y.program ∨ 1 < y.owner ∨ s.hinge.step ≠ 0 ∨ s.stackIn h st = false ∨ s.hubIn h = false then s
  else (s.readStack h st x).portNext h st false

/-- Sensors of a die that are ignored (R276). -/
def badSensor (x : Int) : Bool := decide (x < -40) || decide (150 < x)

def sensorsOf (d : Nat) : Nat := if d < 4 then 4 else if d < 8 then 16 else 2

/-- The age limit of a stale source: at HOT or above until a fresh reading (R279). -/
def ThermSt.goStale (y : ThermSt) : ThermSt := { y with stale := true, tier := Nat.max 2 y.tier }

/-- DIE_READING (R276): the highest sensor that counts. -/
def State.dieReading (s : State) (d : Nat) (l : List Int) : State :=
  let l := l.take (sensorsOf d)
  let bad := ((l.zip (List.range 16)).filter fun x => badSensor x.1).map (·.2)
  let ok := l.filter fun x => !badSensor x
  let t := if d < 4 && !bad.isEmpty then
      (bad.foldl (fun t n => t.setBit .THM_HUB_SENSOR_FAULT d 0 0 n) s).flag .THM_INT_STATUS_SENSOR d 0 0 else s
  let y := s.src (12 + d)
  match ok with
  | [] => (t.setSrc (12 + d) y.goStale).heatChanged s
  | x :: r => (t.setSrc (12 + d) (y.read (s.dieEntries d) (r.foldl max x) s.now)).heatChanged s

/-- A stack's reading is older than THM_STALE.MS, or there is none (R274, R279). -/
def State.tooOld (s : State) (h st : Nat) : Bool :=
  match (s.src (3 * h + st)).at_ with
  | some t => decide (t + Config.msTicks 10 < s.now)
  | none => true

/-- STALE: the refresh rate doubles and the tier is held at HOT (R197, R274, R279). -/
def State.goStale (s : State) (h st : Nat) : State :=
  if s.stackIn h st && s.hubIn h && s.tooOld h st then
    let t := (s.setSrc (3 * h + st) (s.src (3 * h + st)).goStale).flag .THM_INT_STATUS_STALE h 0 0
    (t.setRate h st ((s.rd .HUB_REF_CFG_HOT h 0 0).testBit st) true).heatChanged s
  else s

/-! ## The compute throttle (R285, R286) -/

/-- The level that hub h drives to its compute die. -/
def State.throttleOut (s : State) (h : Nat) : Nat := (s.tierAction h (s.hubTier h)).throttle

/-- The level in force on a compute die. -/
def State.throttleLevel (s : State) (d : Nat) : Nat := (s.aksal d).level

/-- The level a compute die goes to: the higher of the one it receives and the action of its own tier (R285). -/
def State.throttleWanted (s : State) (d level : Nat) : Nat := Nat.max level (s.tierAction (4 + d) (s.src (16 + d)).tier).throttle

/-- A rise to a level waits for the slew limiter, unless CRITICAL causes it (R67, R68, R285). -/
def State.throttleHeld (s : State) (d level : Nat) : Bool :=
  decide ((s.aksal d).level < level) && s.fallHeld && decide (s.hubTier d < 3) && decide ((s.src (16 + d)).tier < 3)

/-- THROTTLE: the die receives the level that its hub drives, and applies the level it goes to unless that is a rise the slew limiter holds. -/
def State.throttle (s : State) (d level : Nat) : State :=
  if s.cdieIn d && level == s.throttleOut d then
    let n := s.throttleWanted d level
    if s.throttleHeld d n then s.setAksal d { s.aksal d with hubLevel := level }
    else s.setAksal d { s.aksal d with level := n, hubLevel := level, levelAt := s.clk.fclk }
  else s

/-- Least KCLK between two MMAs of an array at a level (R286). -/
def mmaSpacing (l : Nat) : Nat := (128 + (8 - l) - 1) / (8 - l)

end Sys2Proof.Machine
end

