-- ==== Sys2Proof/Machine/Engines.lean ====
section
/-! DEFINITION. Queues, command entries, completion records, and the commands of the MOVE and HUB engines (chapter 17). -/

namespace Sys2Proof.Machine

/-! ## Whether a queue is served (R314, R331, R334) -/

/-- The package serves its engines: READY is reached, CCLK runs and no hinge or power-fail holds the doors (R63, R101, R210). -/
def State.engineRuns (s : State) : Bool := s.clk.run && s.boot.stage == .running && !s.pf2 && s.hinge.step == 0

/-- The queue exists, a CASEMENT frame names it (R312), it is enabled, and its casement is not being reset (R334). -/
def State.queueLive (s : State) (q : QueueId) : Bool :=
  s.queueIn q && (s.ownerOf q).isSome && s.qrd q .QUEUE_CTRL_ENABLE == 1 && !Tab.get false s.resetting (s.casOf q)

def State.cmdRing (s : State) (q : QueueId) : Nat := 2 ^ s.qrd q .QUEUE_SIZE_CMD_LOG2
def State.cplRing (s : State) (q : QueueId) : Nat := 2 ^ s.qrd q .QUEUE_SIZE_CPL_LOG2

/-- Entries from HEAD up to the tail (R314). -/
def State.pendingCmds (s : State) (q : QueueId) : Nat :=
  ((s.queue q).tail + s.cmdRing q - s.qrd q .QUEUE_STATUS_HEAD) % s.cmdRing q

/-- The completion ring is full (R315). -/
def State.cplFull (s : State) (q : QueueId) : Bool :=
  (s.qrd q .QUEUE_STATUS_CPL_TAIL + 1) % s.cplRing q == (s.queue q).cplHead

def State.stopped (s : State) (q : QueueId) : Bool := s.qrd q .QUEUE_STATE_STOPPED == 1

/-! ## Doorbells (R314, R315) -/

/-- A queue under casement reset accepts no doorbell (R106, R334); a value at or above the ring's size is discarded. -/
def State.ringDoorbell (s : State) (q : QueueId) (v : Nat) : State :=
  if !s.queueIn q || Tab.get false s.resetting (s.casOf q) then s
  else if v < s.cmdRing q then s.setQueue q { s.queue q with tail := v, dbAt := s.cyc + 1 }
  else s.flag .QUEUE_STATE_DB_ERR (qd q) q.idx.val 0

def State.cplDoorbell (s : State) (q : QueueId) (v : Nat) : State :=
  if !s.queueIn q || Tab.get false s.resetting (s.casOf q) then s
  else if v < s.cplRing q then s.setQueue q { s.queue q with cplHead := v }
  else s.flag .QUEUE_STATE_DB_ERR (qd q) q.idx.val 0

/-- QUEUE_CTRL.ENABLE is set: the phase restarts at 1 (R316). -/
def State.enableQueue (s : State) (q : QueueId) : State :=
  if s.qrd q .QUEUE_CTRL_ENABLE = 1 then s else (s.qwr q .QUEUE_CTRL_ENABLE 1).qwr q .QUEUE_STATE_PHASE 1

/-- QUEUE_CTRL.RESTART clears STOPPED, CAUSE and a halt under R329 (R331). -/
def State.restartQueue (s : State) (q : QueueId) : State :=
  let t := (s.qwr q .QUEUE_STATE_STOPPED 0).qwr q .QUEUE_STATE_CAUSE 0
  t.setQueue q { t.queue q with halt := false }

/-! ## Checks of an entry (R317, R318, R330) -/

/-- The classes an engine's opcode accepts, as bits by class code; none where the engine does not accept the opcode (R318); PAGE commands are NORMAL, URGENT being their demand fetches' (R10). -/
def classesOf (e : Engine) (op : Nat) : Nat :=
  if op ≤ 2 then 31
  else match e with
    | .matrix => if op = 0x10 then 2 else 0
    | .move => if op = 0x20 ∨ op = 0x21 then 7 else 0
    | .page => if 0x30 ≤ op ∧ op ≤ 0x38 then 2 else 0
    | .ring => if op = 0x45 then 12 else if 0x40 ≤ op ∧ op ≤ 0x46 then 8 else 0
    | .hub => if 0x60 ≤ op ∧ op ≤ 0x68 then 16 else 0

/-- A reserved bit among the flags, or an opcode or class that the engine does not accept (R11, R318). -/
def Cmd.malformed (c : Cmd) (e : Engine) : Bool :=
  c.fld 0 11 1 == 1 || c.fld 0 15 1 == 1 || !(classesOf e c.opcode).testBit c.cls

/-- The casement field must be the queue's casement (R317); HUB commands but SCRUB need casement 0 (R330). -/
def State.cmdDenied (s : State) (q : QueueId) (c : Cmd) : Bool :=
  c.fld 0 16 5 != s.casOf q || (q.engine == .hub && decide (2 < c.opcode) && c.opcode != 0x62 && s.casOf q != 0)

/-- The first of several statuses by R13. -/
def firstStatus (l : List Status) : Option Status :=
  match l with
  | [] => none
  | a :: t => some (t.foldl Config.worse a)

/-- The status an entry completes with before any access, if it fails a check; `own` are the checks of its opcode. -/
def State.startVerdict (s : State) (q : QueueId) (c : Cmd) (own : List Status) : Option Status :=
  firstStatus ((if c.malformed q.engine then [.badCommand] else []) ++ (if s.cmdDenied q c then [.denied] else []) ++ own)

/-! ## Starting a command (R315, R322, R323, R326, R331) -/

/-- Queue p of the same engine comes before queue q in its rotation (R326, R330). -/
def State.comesBefore (s : State) (p q : QueueId) : Bool :=
  let from_ := Tab.get 0 s.turns (qd q)
  decide ((p.idx.val + 32 - from_) % 32 < (q.idx.val + 32 - from_) % 32)

/-- It is the queue's turn: none that is ready comes before it in its engine's rotation. -/
def State.hasTurn (s : State) (q : QueueId) (ready : QueueId → Bool) : Bool := 
  (List.range (queuesPer q.engine)).all fun k => let p : QueueId := { q with idx := Fin.ofNat 32 k }; !(s.comesBefore p q && ready p)

/-- The rotation goes on behind a queue. -/
def State.served (s : State) (q : QueueId) : State := { s with turns := Tab.put 0 s.turns (qd q) ((q.idx.val + 1) % 32) }

/-- The next command in ring order that has not started. -/
def QSt.nextCmd (x : QSt) : Option Cmd := x.cmds.find? fun c => !c.started && c.ended.isNone

/-- A command is ready to start: nothing holds its queue, every earlier one has started, none of them is a WAIT in progress, and ORDERED, SIGNAL and HUB commands have no earlier one in progress. -/
def State.canStart (s : State) (q : QueueId) (c : Cmd) : Bool :=
  let x := s.queue q
  let earlier := x.cmds.takeWhile fun e => e.idx != c.idx
  s.queueLive q && s.engineRuns && !s.stopped q && !x.halt && !s.cplFull q &&
  earlier.all (fun e => e.started || e.ended.isSome) &&
  earlier.all (fun e => e.opcode != 1 || e.ended.isSome) &&
  (!(c.fld 0 8 1 == 1 || c.opcode == 2 || q.engine == .hub) || earlier.all fun e => e.ended.isSome)

/-- A queue's next command is ready to start. -/
def State.queueReady (s : State) (q : QueueId) : Bool := (s.queue q).nextCmd.any (s.canStart q)

/-- A command may start: it is ready, and in the HUB engine, which serves its queues in rotating order, it is its queue's turn (R330). -/
def State.mayStart (s : State) (q : QueueId) (c : Cmd) : Bool := s.canStart q c && (q.engine != .hub || s.hasTurn q s.queueReady)

/-- The command starts: its watchdog and its prefetch window count from now, with the values the registers hold now (R88, R332, R344). -/
def State.begun (s : State) (q : QueueId) (c : Cmd) : Cmd :=
  { c with started := true, startAt := s.now, wdog := Config.secTicks (s.qrd q .QUEUE_WDOG_SECONDS),
           window := if q.engine = .page then Config.usTicks (s.rd .PAGE_PREFETCH_WIN_US q.inst.val 0 0) else 0 }

/-- Start the queue's next command if its opcode is `op` and it may start: it ends at once where a check fails, with the DETAIL of that, and runs otherwise. -/
def State.startCmd (s : State) (q : QueueId) (op : Nat) (own : Cmd → List Status) (run : State → Cmd → State)
    (detail : Cmd → Status → Nat := fun _ _ => 0) : State :=
  match (s.queue q).nextCmd with
  | none => s
  | some c =>
    if c.opcode = op ∧ s.mayStart q c then
      let t := (s.served q).setCmd q (s.begun q c)
      match s.startVerdict q c (own c) with
      | some st => t.endCmdWith q c.idx st (detail c st)
      | none => run t (s.begun q c)
    else s

/-- An entry whose opcode its engine does not accept has no command of its own: it completes with BAD_COMMAND in its turn (R318). -/
def State.reapOne (s : State) (q : QueueId) : State :=
  match (s.queue q).nextCmd with
  | none => s
  | some c =>
    if classesOf q.engine c.opcode = 0 ∧ s.mayStart q c then ((s.served q).setCmd q (s.begun q c)).endCmd q c.idx .badCommand else s

def State.reapN (s : State) (q : QueueId) : Nat → State
  | 0 => s
  | n + 1 => (s.reapOne q).reapN q n

def State.reap (s : State) (q : QueueId) : State := s.reapN q (s.queue q).cmds.length

/-! ## Fetching entries (R313, R316, R320) -/

/-- A fresh command. -/
def newCmd (idx : Nat) (w : BitVec 512) : Cmd :=
  { idx := idx, words := w, unread := false, started := false, startAt := 0, wdog := 0, ended := none, progress := 0, detail := 0,
    next := 0, flight := 0, early := [], fault := none }

/-- The command of an entry from its two sectors: one that could not be read has already ended with the data status (R320). -/
def cmdOf (idx : Nat) (a b : BitVec 256 × Option Bool) : Cmd :=
  let c := newCmd idx (b.1 ++ a.1)
  if a.2 = some true ∨ b.2 = some true then { c with unread := true, ended := some .uncorrectable }
  else if a.2 = some false ∨ b.2 = some false then { c with unread := true, ended := some .poisonRead }
  else c

def cmdsOf : Nat → List (BitVec 256 × Option Bool) → List Cmd
  | idx, a :: b :: t => cmdOf idx a b :: cmdsOf (idx + 1) t
  | _, _ => []

/-- Four entries at once where four pending ones begin at a 256-byte boundary, otherwise one (R316). -/
def State.fetchCount (s : State) (q : QueueId) : Nat :=
  let head := s.qrd q .QUEUE_STATUS_HEAD
  if 4 ≤ s.pendingCmds q ∧ (s.qrd q .QUEUE_BASE_ADDR * 64 + 64 * head) % 256 = 0 ∧ head + 4 ≤ s.cmdRing q then 4 else 1

/-- COMMAND_FETCH: the next pending entries are read, as NORMAL requests of the queue's casement (R313). -/
def State.commandFetch (s : State) (q : QueueId) : State :=
  let head := s.qrd q .QUEUE_STATUS_HEAD
  if s.queueLive q && s.engineRuns && !s.stopped q && !(s.pf1 || s.pf2) && s.pendingCmds q != 0 && (s.queue q).dbAt != s.cyc + 1 &&
      s.viaOpen (s.queueVia q) (s.qrd q .QUEUE_BASE_ADDR * 64 + 64 * head) false then
    let n := s.fetchCount q
    let r := s.fetchSectors (s.queueVia q) (2 * n) (s.qrd q .QUEUE_BASE_ADDR * 64 + 64 * head)
    if refusal r.2.1 then (r.1.stopQueue q r.2.1).reap q
    else
      let t := r.1.setQueue q { r.1.queue q with cmds := (r.1.queue q).cmds ++ cmdsOf head r.2.2 }
      (t.qwr q .QUEUE_STATUS_HEAD ((head + n) % s.cmdRing q)).reap q
  else s.reap q

/-! ## Completion records (R315, R316, R320, R321, R329, R333) -/

/-- PROGRESS: blocks for MOVE and SCRUB, clusters for DISPATCH, rows for MARCH, pages for PAGE (R320, R341). -/
def Cmd.shownProgress (c : Cmd) : Nat :=
  if c.opcode = 0x10 ∨ c.opcode = 0x20 ∨ c.opcode = 0x21 ∨ c.opcode = 0x62 ∨ c.opcode = 0x65 ∨ (0x31 ≤ c.opcode ∧ c.opcode ≤ 0x34) then
    c.progress + c.early.length
  else 0

/-- DETAIL; a MOVE command holds one more than the index of its first bad block, 0 for none (R328). -/
def Cmd.shownDetail (c : Cmd) : Nat :=
  if c.opcode = 0x20 ∨ c.opcode = 0x21 then (c.detail + (2 ^ 32 - 1)) % 2 ^ 32 else c.detail % 2 ^ 32

/-- The 16 bytes of a completion record (R320). -/
def State.recordWord (s : State) (q : QueueId) (c : Cmd) (st : Status) : Nat :=
  let k := ((s.ownerOf q).map (·.2)).getD 0
  let w0 := (if c.unread then c.idx % 65536 else c.fld 0 32 16) + 2 ^ 16 * Config.statusCode st +
    (if c.unread then 2 ^ 62 else 2 ^ 24 * c.opcode) + 2 ^ 32 * k + 2 ^ 63 * s.qrd q .QUEUE_STATE_PHASE
  let w1 := (if c.unread then 0 else c.shownProgress % 2 ^ 32) + 2 ^ 32 * (if c.unread then 0 else c.shownDetail)
  w0 + 2 ^ 64 * w1

/-- Write a record at CPL_TAIL, and move the tail and the phase; a refused write stops the queue and leaves the record due (R313, R316). -/
def State.writeRecord (s : State) (q : QueueId) (c : Cmd) (st : Status) : State × Bool :=
  let n := s.qrd q .QUEUE_STATUS_CPL_TAIL
  let a := s.qrd q .QUEUE_CPL_BASE_ADDR * 16 + 16 * n
  let off := a % 32
  let data := BitVec.ofNat 256 (s.recordWord q c st * 2 ^ (8 * off))
  let r := s.storeBytes (s.queueVia q) (a - off) data (BitVec.ofNat 32 (0xFFFF * 2 ^ off)) false true
  if refusal r.2 then (r.1.stopQueue q r.2, false)
  else
    let t := r.1.qwr q .QUEUE_STATUS_CPL_TAIL ((n + 1) % s.cplRing q)
    let t := if n + 1 = s.cplRing q then t.qwr q .QUEUE_STATE_PHASE (1 - s.qrd q .QUEUE_STATE_PHASE) else t
    (if r.2 = .poisonMerge then t.stopQueue q .poisonMerge else t, true)

/-- A command leaves its queue: a channel halted under R254 then stops it (R329). -/
def State.retire (s : State) (q : QueueId) (c : Cmd) (st : Status) : State :=
  let x := s.queue q
  let t := s.setQueue q { x with cmds := x.cmds.filter fun y => y.idx != c.idx }
  if x.halt && (st == .uncorrectable || st == .poisonRead) && !c.unread && !t.stopped q then t.stopQueue q st else t

/-- COMPLETION_RECORD: the record of the oldest command, once that has ended (R321). -/
def State.completionRecord (s : State) (q : QueueId) : State :=
  let s := s.reap q
  match (s.queue q).cmds with
  | [] => s
  | c :: _ =>
    match c.ended with
    | none => s
    | some st =>
      if c.fld 0 10 1 = 1 ∧ st = .done ∧ !c.unread then s.retire q c st
      else if s.engineRuns && s.queueLive q && !s.cplFull q && s.viaOpen (s.queueVia q) (s.qrd q .QUEUE_CPL_BASE_ADDR * 16 + 16 * s.qrd q .QUEUE_STATUS_CPL_TAIL) true then
        let r := s.writeRecord q c st
        if r.2 then
          let t := if c.fld 0 9 1 = 1 ∧ !c.unread then r.1.signalQueue q else r.1
          t.retire q c st
        else r.1
      else s

/-! ## Commands of every engine (R318, R323) -/

def syncGet (s : State) (c k : Nat) : Nat := s.rd .SYNC_CNT_VALUE c k 0
def State.syncAdd (s : State) (c k v : Nat) : State :=
  (s.wr .SYNC_CNT_VALUE c k 0 ((syncGet s c k + v) % 2 ^ 64)).note .SYNC_CNT_VALUE c k 0 v


/-- counter − VALUE, read as a signed 64-bit number, is at least 0 (R323). -/
def syncReached (counter v : Nat) : Bool := decide ((counter + 2 ^ 64 - v) % 2 ^ 64 < 2 ^ 63)

def State.runNop (s : State) (q : QueueId) (c : Cmd) : State := s.endCmd q c.idx .done

def State.runSignal (s : State) (q : QueueId) (c : Cmd) : State :=
  (s.syncAdd (s.casOf q) (c.fld 1 0 4) (c.word 2)).endCmd q c.idx .done

/-- A WAIT in progress ends once its counter is reached (R323). -/
def State.waitProgress (s : State) (q : QueueId) : State :=
  match (s.queue q).cmds.find? fun c => c.started && c.ended.isNone && c.opcode == 1 with
  | some c => if syncReached (syncGet s (s.casOf q) (c.fld 1 0 4)) (c.word 2) then s.endCmd q c.idx .done else s
  | none => s

/-! ## MOVE (R327 to R329) -/

structure MoveSide where
  base : Nat
  host : Bool
  ovr : Option Nat
  stride : Nat
  deriving DecidableEq, Repr

def Cmd.src (c : Cmd) : MoveSide :=
  { base := c.fld 1 0 48, host := c.fld 1 48 1 == 1, ovr := if c.fld 1 51 1 = 1 then some (c.fld 1 49 2) else none, stride := c.fld 4 0 32 }
def Cmd.dst (c : Cmd) : MoveSide :=
  { base := c.fld 2 0 48, host := c.fld 2 48 1 == 1, ovr := if c.fld 2 51 1 = 1 then some (c.fld 2 49 2) else none, stride := c.fld 4 32 32 }
def Cmd.moveLen (c : Cmd) : Nat := c.fld 3 0 32
def Cmd.moveRows (c : Cmd) : Nat := c.fld 3 32 16
def Cmd.isCopy (c : Cmd) : Bool := c.opcode == 0x20

/-- Blocks of the command. -/
def Cmd.moveBlocks (c : Cmd) : Nat := c.moveRows * (c.moveLen / 256)

/-- The address of block k on a side: row by row, ascending within a row (R327). -/
def Cmd.blockAddr (c : Cmd) (m : MoveSide) (k : Nat) : Nat :=
  m.base + k / (c.moveLen / 256) * m.stride + k % (c.moveLen / 256) * 256

/-- The end of a side's bounding range. -/
def Cmd.bound (c : Cmd) (m : MoveSide) : Nat := m.base + (c.moveRows - 1) * m.stride + c.moveLen

/-- The checks of COPY and FILL (R327); log entry 33 covers LEN 0 and ROWS 0. -/
def State.moveChecks (s : State) (q : QueueId) (c : Cmd) : List Status :=
  let a := c.src
  let b := c.dst
  let odd (m : MoveSide) : Bool := m.base % 256 != 0 || m.stride % 256 != 0
  let meet := c.isCopy && a.host == b.host && (a.host || a.ovr == b.ovr) && decide (a.base < c.bound b) && decide (b.base < c.bound a)
  (if c.moveLen = 0 ∨ c.moveRows = 0 ∨ meet then [.badCommand] else []) ++
  (if odd b || (c.isCopy && odd a) || c.moveLen % 256 != 0 then [.badAlignment] else []) ++
  (if (b.host || (c.isCopy && a.host)) && !s.busMaster (s.casOf q) then [.denied] else [])

/-- Blocks of a channel in flight. -/
def QSt.inFlight (x : QSt) : Nat := x.cmds.foldl (fun n c => n + c.flight) 0

/-- A request of a queue's command at an address; the source tag of R319 and the transfer tag of R138. -/
def State.cmdReq (s : State) (q : QueueId) (c : Cmd) (part addr : Nat) (write : Bool) : Req :=
  { plainReq (.cmd q c.idx part) ((Config.classOf c.cls).getD .normal) (s.casOf q) q.idx.val addr write with
    sector := false, mask := BitVec.allOnes 256, xfer := q.idx.val * 16 + c.idx % 16 }

/-- A command meets a condition: what it ends with once nothing is outstanding (R13). -/
def Cmd.failed (c : Cmd) (st : Status) : Cmd := { c with fault := some (match c.fault with | some x => Config.worse x st | none => st) }

/-- Decode a request at hub h and send it through a door, or give the status of its refusal (R113, R114). -/
def State.offer (s : State) (h door : Nat) (r : Req) (ovr : Option Nat) (may : Bool) : State × Option Status :=
  match s.decode h { r := r, ovr := ovr, ovrMay := may } with
  | .inl x => (s.recordRefusal h door r x, some x.status)
  | .inr r' =>
    let b := s.beginReq r'
    (b.1.dispatchReq door b.2, none)

/-- One MOVE block's write: to device through D6, to the host through the endpoint (R322, R327). -/
def State.moveWrite (s : State) (q : QueueId) (c : Cmd) (k : Nat) (data : Block) (poison : BitVec 8) : State :=
  let a := c.blockAddr c.dst k
  if c.dst.host then
    if s.busMaster (s.casOf q) then
      (s.emit (.hostWrite q a data)).setCmd q { c with flight := c.flight - 1, early := c.early ++ [k] }
    else s.setCmd q { c.failed .halted with flight := c.flight - 1 }
  else
    let r := { s.cmdReq q c (2 * k + 1) a true with data := data, poison := poison }
    match s.offer q.inst.val 6 r c.dst.ovr true with
    | (t, none) => t.setCmd q c
    | (t, some st) => t.setCmd q { c.failed st with flight := c.flight - 1 }

/-- Blocks counted in order: those that finished out of order join the count once it reaches them (R328). -/
def Cmd.settleN (c : Cmd) : Nat → Cmd
  | 0 => c
  | n + 1 => if c.early.contains c.progress then ({ c with progress := c.progress + 1, early := c.early.filter fun k => k != c.progress } : Cmd).settleN n else c

def Cmd.settled (c : Cmd) : Cmd := c.settleN c.early.length

/-- A command with nothing more to issue and nothing outstanding ends. -/
def State.endIfDone (s : State) (q : QueueId) (idx total : Nat) : State :=
  match s.cmd q idx with
  | none => s
  | some c =>
    let c := c.settled
    let t := s.setCmd q c
    if c.started && c.ended.isNone && c.flight == 0 && (c.fault.isSome || decide (total ≤ c.next)) then t.endCmd q idx (c.fault.getD .done) else t

/-- Issue block k of a MOVE command: a read of its source, or the write of a FILL. -/
def State.moveIssue (s : State) (q : QueueId) (c : Cmd) : State :=
  let k := c.next
  let c1 := { c with next := k + 1, flight := c.flight + 1 }
  if c.isCopy then
    let a := c.blockAddr c.src k
    if c.src.host then
      if s.busMaster (s.casOf q) then
        let t := (s.emit (.hostRead q a)).setCmd q c1
        t.setQueue q { t.queue q with hostRd := (t.queue q).hostRd ++ [(c.idx, k)] }
      else s.setCmd q (c.failed .halted)
    else
      match s.offer q.inst.val 6 (s.cmdReq q c (2 * k) a false) c.src.ovr true with
      | (t, none) => t.setCmd q c1
      | (t, some st) => t.setCmd q (c.failed st)
  else
    let w := c.word 5
    (s.setCmd q c1).moveWrite q c1 k (BitVec.ofNat 2048 (w * ((2 ^ 2048 - 1) / (2 ^ 64 - 1)))) 0

/-- The command of a channel that may issue: the first in progress with blocks left, once every earlier one has issued its last (R322). -/
def QSt.issuing (x : QSt) : Option Cmd :=
  x.cmds.find? fun c => c.ended.isNone && (c.opcode == 0x20 || c.opcode == 0x21) && !(c.fault.isSome || decide (c.moveBlocks ≤ c.next))

/-- One more block, while the channel is not halted and has fewer than 64 in flight (R328, R329). -/
def State.movePump1 (s : State) (q : QueueId) : State :=
  let x := s.queue q
  match x.issuing with
  | some c =>
    let cls := (Config.classOf c.cls).getD .normal
    if c.started && !x.halt && s.engineRuns && !Tab.get false s.resetting (s.casOf q) && decide (x.inFlight < 64) && s.doorRoom q.inst.val 6 cls then
      (s.moveIssue q c).endIfDone q c.idx c.moveBlocks
    else s
  | none => s

def State.movePumpN (s : State) (q : QueueId) : Nat → State
  | 0 => s
  | n + 1 => (s.movePump1 q).movePumpN q n

def State.movePump (s : State) (q : QueueId) : State := s.movePumpN q 64

/-- A block's source data has arrived (R254, R327, R328): bad sectors are written as poison and halt the channel; a reset casement's data is discarded (R334). -/
def State.moveData (s : State) (q : QueueId) (idx k : Nat) (st : Status) (data : Block) (poison : BitVec 8) : State :=
  match s.cmd q idx with
  | none => s
  | some c =>
    if c.fault = some .casementReset then (s.setCmd q { c with flight := c.flight - 1 }).endIfDone q idx c.moveBlocks
    else if st = .uncorrectable ∨ st = .poisonRead then
      let d := match c.detail with | 0 => k + 1 | n => Nat.min n (k + 1)
      let c1 := { c.failed st with detail := d }
      let t := s.setCmd q c1
      ((t.setQueue q { t.queue q with halt := true }).moveWrite q c1 k data poison).endIfDone q idx c.moveBlocks
    else if st = .done then (s.moveWrite q c k data poison).endIfDone q idx c.moveBlocks
    else (s.setCmd q { c.failed st with flight := c.flight - 1 }).endIfDone q idx c.moveBlocks

/-- A block's write has completed (R322). -/
def State.moveWritten (s : State) (q : QueueId) (idx k : Nat) (st : Status) : State :=
  match s.cmd q idx with
  | none => s
  | some c =>
    let c1 := { c with flight := c.flight - 1 }
    let c2 := if st = .done ∨ st = .poisonMerge then { c1 with early := c1.early ++ [k] } else c1.failed st
    (s.setCmd q c2).endIfDone q idx c.moveBlocks

/-- A read of host memory by a MOVE channel completes with a block, which goes on as a device read's does, or in error (R327, R383). -/
def State.hostReadDone (s : State) (q : QueueId) (data : Option Block) : State :=
  match (s.queue q).hostRd with
  | [] => s
  | (idx, k) :: rest =>
    let t := s.setQueue q { s.queue q with hostRd := rest }
    match data with
    | some d =>
      match t.cmd q idx with
      | some c => { t with answers := t.answers ++ [{ r := t.cmdReq q c (2 * k) 0 false, st := .done, data := d, poison := 0, pkind := 0 }] }
      | none => t
    | none => t.moveData q idx k .halted 0 0

/-! ## HUB commands (R330) -/

/-- Panes that use a pseudo-channel. -/
def State.panesOn (s : State) (h p : Nat) : List PaneDef := s.panes.filter fun x => x.mask.getLsbD (96 * h + p)

/-- Every pane that uses the pseudo-channel is quiesced, or the pseudo-channel is halted (R232, R270, R275). -/
def State.pcFree (s : State) (h p : Nat) : Bool :=
  (s.pc h p).trnHalted || (s.panesOn h p).all fun x => (s.rd .IMG_QUIESCED_PANES 0 0 0).testBit x.id

/-- A PC field that names no pseudo-channel with a stack (R330). -/
def State.badPc (s : State) (h p : Nat) : Bool := !(decide (p < 96) && s.pcIn h p)

def fenceMax : Nat := 64 * 2 ^ 30

def fenceChecks (c : Cmd) : List Status :=
  let base := c.fld 1 0 48
  let len := c.fld 2 0 48
  (if len = 0 ∨ fenceMax < len then [.badCommand] else []) ++ (if base % 256 ≠ 0 ∨ len % 256 ≠ 0 then [.badAlignment] else [])

/-- FENCE_DEL names an entry of the list, or completes with BAD_COMMAND (R257). -/
def State.fenceDelChecks (s : State) (c : Cmd) : List Status :=
  fenceChecks c ++ if s.fences.any fun e => e.2 == (c.fld 1 0 48, c.fld 2 0 48) then [] else [.badCommand]

/-- Entries in use: those of the list and those whose commit tick is still to come (R257). -/
def State.fencesUsed (s : State) : Nat :=
  s.fences.length + (s.staged.filter fun x => match x.change with | .fenceAdd _ _ _ _ => true | _ => false).length

def State.runFenceAdd (s : State) (q : QueueId) (c : Cmd) : State :=
  if 64 ≤ s.fencesUsed then s.endCmdWith q c.idx .denied 1
  else s.stage (.fenceAdd q c.idx (c.fld 1 0 48) (c.fld 2 0 48))

def State.runFenceDel (s : State) (q : QueueId) (c : Cmd) : State :=
  s.stage (.fenceDel q c.idx (c.fld 1 0 48) (c.fld 2 0 48))

def Cmd.scrubBase (c : Cmd) : Nat := c.fld 1 0 48
def Cmd.scrubLen (c : Cmd) : Nat := c.fld 2 0 48
def Cmd.scrubBlocks (c : Cmd) : Nat := c.scrubLen / 256

/-- Every block of a range lies in a pane of the casement. -/
def State.ownsRange (s : State) (cas a n : Nat) : Bool :=
  s.panes.any (fun p => p.cas == cas && decide (p.base ≤ a) && decide (a + n ≤ p.base + p.size)) ||
  (List.range (n / 256)).all fun k => s.panes.any fun p => p.cas == cas && decide (p.base ≤ a + 256 * k) && decide (a + 256 * k < p.base + p.size)

def State.scrubChecks (s : State) (q : QueueId) (c : Cmd) : List Status :=
  (if c.scrubLen = 0 ∨ 2 ^ 48 < c.scrubBase + c.scrubLen then [.badCommand] else []) ++
  (if c.scrubBase % 256 ≠ 0 ∨ c.scrubLen % 256 ≠ 0 then [.badAlignment] else []) ++
  (if s.casOf q ≠ 0 ∧ s.ownsRange (s.casOf q) c.scrubBase c.scrubLen = false then [.denied] else [])

/-- One more block of a sweep: blocks within fence entries are passed over (R260). -/
def State.scrubPump1 (s : State) (q : QueueId) (idx : Nat) : State :=
  match s.cmd q idx with
  | none => s
  | some c =>
    if c.started && c.ended.isNone && c.fault.isNone && decide (c.next < c.scrubBlocks) && s.engineRuns && s.doorRoom q.inst.val 5 .maint then
      let a := c.scrubBase + 256 * c.next
      if s.fenced a 256 then s.setCmd q { c with next := c.next + 1, early := c.early ++ [c.next] }
      else
        match s.offer q.inst.val 5 { s.cmdReq q c c.next a false with cls := .maint } none false with
        | (t, none) => t.setCmd q { c with next := c.next + 1, flight := c.flight + 1 }
        | (t, some st) => t.setCmd q (c.failed st)
    else s

def State.scrubPumpN (s : State) (q : QueueId) (idx : Nat) : Nat → State
  | 0 => s
  | n + 1 => (s.scrubPump1 q idx).scrubPumpN q idx n

def State.scrubPump (s : State) (q : QueueId) (idx : Nat) : State :=
  match s.cmd q idx with
  | none => s
  | some c => (s.scrubPumpN q idx 64).endIfDone q idx c.scrubBlocks

/-- A block of a sweep has been read: a data status is kept and the sweep goes on (R260). -/
def State.scrubRead (s : State) (q : QueueId) (idx k : Nat) (st : Status) : State :=
  match s.cmd q idx with
  | none => s
  | some c =>
    let c1 := { c with flight := c.flight - 1, early := c.early ++ [k] }
    let data := st == .done || st == .uncorrectable || st == .poisonRead
    let c2 := if data then { c1 with detail := if st = .done then c1.detail else Nat.max c1.detail (if st = .uncorrectable then 2 else 1) } else c1.failed st
    let t := (s.setCmd q c2.settled)
    if data && decide (c2.scrubBlocks ≤ c2.next) && c2.flight == 0 && c2.fault.isNone then
      (t.setCmd q { c2.settled with detail := 0 }).endCmd q idx (match c2.detail with | 0 => .done | 1 => .poisonRead | _ => .uncorrectable)
    else t.scrubPump q idx

/-- Which requests are a sweep's (READ_RETURN). -/
def State.sweeps (s : State) (r : Req) : Bool :=
  match r.org with
  | .cmd q idx _ => q.engine == .hub && (s.cmd q idx).any fun c => c.opcode == 0x62
  | _ => false

/-- REPAIR (R270, R271). -/
def State.repairChecks (s : State) (q : QueueId) (c : Cmd) : List Status :=
  let h := q.inst.val
  let p := c.fld 1 0 7
  let b := c.fld 1 7 6
  let kind := c.fld 1 37 3
  if s.badPc h p || kind == 0 || decide (3 < kind) || (kind != 3 && (decide (s.banksOf h p ≤ b) || decide (s.rowsOf h p ≤ c.fld 1 13 18))) then [.badCommand]
  else if !s.pcFree h p || s.sparesLeft h p b kind == 0 then [.denied] else []

def State.runRepair (s : State) (q : QueueId) (c : Cmd) : State :=
  let h := q.inst.val
  let p := c.fld 1 0 7
  let kind := c.fld 1 37 3
  let st := stackOf p
  let r : RepairSt := { q := q, idx := c.idx, pc := p, bank := c.fld 1 7 6, row := c.fld 1 13 18, lane := c.fld 1 31 6, kind := kind,
                        persist := c.fld 1 40 1 == 1, left := repairOps kind }
  let x := s.pc h p
  let t := s.setPc h p { x with wideNext := x.wideNext ++ [11] }
  let t := t.setPort h st { t.port h st with repair := some r }
  if (t.port h st).owner = 0 then t.portNext h st false else t

/-- RETRAIN (R232). -/
def State.retrainChecks (s : State) (q : QueueId) (c : Cmd) : List Status :=
  let h := q.inst.val
  let p := c.fld 1 0 7
  let a := p / 2 * 2
  if s.badPc h p then [.badCommand]
  else if (s.pcFree h a && s.pcFree h (a + 1)) || (s.pc h p).trnHalted then [] else [.denied]

def State.runRetrain (s : State) (q : QueueId) (c : Cmd) : State :=
  let h := q.inst.val
  let a := c.fld 1 0 7 / 2 * 2
  (s.engineTraining h a).engineTraining h (a + 1)

/-- A LANE repair's steps 3 and 4 are over (R271). -/
def State.laneTrained (s : State) (r : RepairSt) (h p : Nat) (eyes : List LaneEye) : State :=
  let fail := !(laneFails eyeRetrains eyes repeatedLanes).isEmpty
  let t := s.trimLanes h p eyeRetrains eyes repeatedLanes
  let t := t.setPort h (stackOf p) { t.port h (stackOf p) with repair := none }
  (if fail then t.repairFailed r else t.repairDone r).portNext h (stackOf p) true

/-- The RETRAIN command that trains a pseudo-channel. -/
def State.retrainOf (s : State) (h p : Nat) : Option (QueueId × Cmd) :=
  s.allQueues.findSome? fun q => if q.engine == .hub && q.inst.val == h then
    ((s.queue q).cmds.find? fun c => c.started && c.ended.isNone && c.opcode == 0x64 && c.fld 1 0 7 / 2 == p / 2).map fun c => (q, c) else none

/-- A pseudo-channel halted under chapter 12 returns to service (R232). -/
def State.unhalt (s : State) (h p : Nat) : State := s.setPc h p { s.pc h p with trnHalted := false }

/-- RETRAIN's steps 1 to 4 are over on a pseudo-channel (R232): the lanes that pass take their trims.
The command ends once both are done: where both passed a halted one returns to service, otherwise it stays halted. -/
def State.retrained (s : State) (q : QueueId) (c : Cmd) (h p : Nat) (eyes : List LaneEye) : State :=
  let fail := !(laneFails eyeRetrains eyes (trainedLanes p)).isEmpty
  let t := s.trimLanes h p eyeRetrains eyes (trainedLanes p)
  let t := t.setPc h p ((t.pc h p).trainEnds t.now (t.pauseIntv h p))
  let t := if fail then (t.haltPc h p).setCmd q { c with fault := some .halted } else t
  let other := p / 2 * 2 + (1 - p % 2)
  if (t.pc h other).trnRun.isSome then t
  else if fail || c.fault.isSome then t.endCmd q c.idx .halted
  else ((t.unhalt h p).unhalt h other).endCmd q c.idx .done

/-- An engine's training of a pseudo-channel is over (R232, R271). -/
def State.engineTrained (s : State) (h p : Nat) (eyes : List LaneEye) : State :=
  match (s.port h (stackOf p)).repair with
  | some r => if r.pc = p ∧ r.kind = 3 ∧ r.left = 0 then s.laneTrained r h p eyes else s
  | none =>
    match s.retrainOf h p with
    | some (q, c) => s.retrained q c h p eyes
    | none => s

/-- MARCH (R275): its rows and banks. -/
def State.marchBanks (s : State) (h p : Nat) (c : Cmd) : List Nat :=
  if c.fld 1 7 6 = 0x3F then List.range (s.banksOf h p) else [c.fld 1 7 6]

def State.marchChecks (s : State) (q : QueueId) (c : Cmd) : List Status :=
  let h := q.inst.val
  let p := c.fld 1 0 7
  if s.badPc h p || (c.fld 1 7 6 != 0x3F && decide (s.banksOf h p ≤ c.fld 1 7 6)) || decide (s.rowsOf h p < c.fld 1 13 18 + c.fld 1 31 18) then [.badCommand]
  else if s.pcFree h p then [] else [.denied]

/-- A sector of the pattern. -/
def patternSector (w : Nat) : BitVec 256 := BitVec.ofNat 256 (w * ((2 ^ 256 - 1) / (2 ^ 64 - 1)))

/-- One row takes the pattern and is read back; false where a sector fails its check. -/
def State.marchRow (s : State) (h p b row w : Nat) : State × Bool :=
  let cols := List.range (s.rowBytes h p / 32)
  let t := cols.foldl (fun t k => t.storeSector (sectorKey h p b row k) (patternSector w)) s
  (t, cols.all fun k => (t.readSector (sectorKey h p b row k) []).1 == .clean)

/-- The march over n rows from row r, every named bank in each row: rows done, and the first that failed. -/
def State.marchRows (s : State) (h p w : Nat) (banks : List Nat) : Nat → Nat → State × Option Nat
  | 0, _ => (s, none)
  | n + 1, r =>
    let a := banks.foldl (fun a b => let x := a.1.marchRow h p b r w; (x.1, a.2 && x.2)) (s, true)
    let b := a.1.marchRows h p w banks n (r + 1)
    (b.1, if a.2 then b.2 else some r)

def State.runMarch (s : State) (q : QueueId) (c : Cmd) : State :=
  let h := q.inst.val
  let p := c.fld 1 0 7
  let r := s.marchRows h p (c.word 2) (s.marchBanks h p c) (c.fld 1 31 18) (c.fld 1 13 18)
  let t := r.1.setCmd q { c with progress := c.fld 1 31 18 }
  match r.2 with
  | some row => t.endCmdWith q c.idx .uncorrectable row
  | none => t.endCmd q c.idx .done

/-- MARCH and its condition: outside it the helper is ignored and ERROR is set (R275). -/
def State.march (s : State) (q : QueueId) : State :=
  let t := s.startCmd q 0x65 (s.marchChecks q) (fun t c => t.runMarch q c)
  match (s.queue q).nextCmd with
  | some c =>
    if (t.cmd q c.idx).any (fun y => y.started && y.opcode == 0x65) && !c.started && s.startVerdict q c (s.marchChecks q c) == some .denied && !s.cmdDenied q c then
      t.flag .HUB_1500_STATUS_ERROR q.inst.val (stackOf (c.fld 1 0 7)) 0
    else t
  | none => t

/-- RELEASE (R237): a halted pseudo-channel's queued and waiting requests end with HALTED. -/
def State.releasePc (s : State) (h p : Nat) : State :=
  if (s.pc h p).trnHalted then
    let here (r : Req) : Bool := r.hub == h && r.pc == p
    let x := s.pc h p
    let t := s.setPc h p { x.unload with queue := [], groups := [], flight := [] }
    let t := x.queue.foldl (fun t e => (t.sampleDone e .halted).finishBare e.r .halted) t
    let t := (List.range 9).foldl (fun t d => t.dropDoor h d here .halted) t
    t.endDeadLatch h p
  else s

def State.releaseChecks (s : State) (q : QueueId) (c : Cmd) : List Status := if s.badPc q.inst.val (c.fld 1 0 7) then [.badCommand] else []

def State.runRelease (s : State) (q : QueueId) (c : Cmd) : State := (s.releasePc q.inst.val (c.fld 1 0 7)).endCmd q c.idx .done

/-- HINGE (R208, R330). -/
def State.runHinge (s : State) (q : QueueId) (c : Cmd) : State :=
  let n := c.fld 1 0 3
  match s.hingeVerdict n with
  | .refused => (s.hingeRequest n).endCmd q c.idx .denied
  | .atOnce => (s.hingeRequest n).endCmd q c.idx .done
  | .pending => (s.hingeRequest n).setHinge fun x => { x with waiters := x.waiters ++ [q] }

end Sys2Proof.Machine
end

