-- ==== Sys2Proof/Machine/Floats.lean ====
section
/-! DEFINITION. The numbers of the matrix cores: fp32, bf16, fp16, E4M3, E5M2, int8 and uint8, exact sums and one rounding (R298 to R300). -/

namespace Sys2Proof.Machine

/-- A number read from a tile: not a number, an infinity, or a sign and a magnitude in units of 2^-149. -/
inductive Fp where
  | nan
  | inf (neg : Bool)
  | num (neg : Bool) (k : Nat)
  deriving DecidableEq, Repr

/-- A format: mantissa bits m, total bits, least unit 2^-q, greatest finite code, the code of its NaN; `infs` where the all-ones exponent holds infinities. -/
structure Format where
  m : Nat
  width : Nat
  q : Nat
  top : Nat
  nan : Nat
  infs : Bool
  deriving DecidableEq, Repr

def f32 : Format := { m := 23, width := 32, q := 149, top := 0x7F7FFFFF, nan := 0x7FC00000, infs := true }
def bf16 : Format := { m := 7, width := 16, q := 133, top := 0x7F7F, nan := 0x7FC0, infs := true }
def f16 : Format := { m := 10, width := 16, q := 24, top := 0x7BFF, nan := 0x7E00, infs := true }
def e4m3 : Format := { m := 3, width := 8, q := 9, top := 0x7E, nan := 0x7F, infs := false }
def e5m2 : Format := { m := 2, width := 8, q := 16, top := 0x7B, nan := 0x7E, infs := true }

/-- The magnitude of a code in the format's least units; subnormals are kept (R298). -/
def Format.units (f : Format) (c : Nat) : Nat :=
  let e := c / 2 ^ f.m
  if e = 0 then c else (2 ^ f.m + c % 2 ^ f.m) * 2 ^ (e - 1)

def Format.decode (f : Format) (v : Nat) : Fp :=
  let neg := v.testBit (f.width - 1)
  let c := v % 2 ^ (f.width - 1)
  if f.top < c then (if f.infs && c == f.top + 1 then .inf neg else .nan)
  else .num neg (f.units c * 2 ^ (149 - f.q))

/-- num / den in least units, rounded to m + 1 significant bits, to nearest with ties to even. -/
def roundUnits (m num den : Nat) : Nat :=
  let q := num / den
  let u := if q < 2 ^ (m + 1) then 0 else Nat.log2 q - m
  let d := den * 2 ^ u
  let t := num / d
  let r := num % d
  (if d < 2 * r ∨ (2 * r = d ∧ t % 2 = 1) then t + 1 else t) * 2 ^ u

/-- The code of a magnitude that the format holds exactly. -/
def Format.codeOf (f : Format) (k : Nat) : Nat :=
  if k < 2 ^ f.m then k
  else
    let l := Nat.log2 k
    (l - f.m + 1) * 2 ^ f.m + (k / 2 ^ (l - f.m) - 2 ^ f.m)

/-- A signed code of fp32; a magnitude beyond the greatest finite one rounds to infinity. -/
def pack32 (neg : Bool) (c : Nat) : BitVec 32 := BitVec.ofNat 32 (Nat.min c 0x7F800000 + if neg then 2 ^ 31 else 0)

def nan32 : BitVec 32 := 0x7FC00000

/-- fp32 of a sign and num / den units of 2^-149. -/
def fp32Of (neg : Bool) (num den : Nat) : BitVec 32 := pack32 neg (f32.codeOf (roundUnits 23 num den))

/-- A term of an exact sum, in units of 2^-298; `bad` is an infinity multiplied by zero. -/
inductive Term where
  | nan
  | bad
  | inf (neg : Bool)
  | num (neg : Bool) (n : Nat)
  deriving DecidableEq, Repr

def Fp.term : Fp → Term
  | .nan => .nan
  | .inf n => .inf n
  | .num n k => .num n (k * 2 ^ 149)

def Fp.negate : Fp → Fp
  | .nan => .nan
  | .inf n => .inf (!n)
  | .num n k => .num (!n) k

/-- The exact product. -/
def Fp.mul : Fp → Fp → Term
  | .nan, _ => .nan
  | _, .nan => .nan
  | .inf a, .inf b => .inf (a != b)
  | .inf a, .num b k => if k = 0 then .bad else .inf (a != b)
  | .num a k, .inf b => if k = 0 then .bad else .inf (a != b)
  | .num a k, .num b l => .num (a != b) (k * l)

def Term.value : Term → Int
  | .num neg n => if neg then -(n : Int) else (n : Int)
  | _ => 0

def Term.negative : Term → Bool
  | .num neg _ => neg
  | .inf neg => neg
  | _ => false

/-- The exact sum rounded once to fp32.  `invalid` stands where no exact result exists: opposite infinities, and an infinity multiplied by zero unless `product` says it is an MMA (R298).
A zero sum is negative only where every term is (log entry 34). -/
def sum32 (mma : Bool) (invalid : BitVec 32) (l : List Term) : BitVec 32 :=
  if l.any (· == .nan) then nan32
  else if l.any (· == .bad) then (if mma then nan32 else invalid)
  else if l.any (· == .inf true) && l.any (· == .inf false) then invalid
  else if l.any (· == .inf true) then pack32 true 0x7F800000
  else if l.any (· == .inf false) then pack32 false 0x7F800000
  else
    let v : Int := l.foldl (fun a t => a + t.value) 0
    if v = 0 then pack32 (l.all Term.negative) 0
    else fp32Of (decide (v < 0)) v.natAbs (2 ^ 149)

def dec32 (v : BitVec 32) : Fp := f32.decode v.toNat

def add32 (a b : BitVec 32) : BitVec 32 := sum32 false (Config.noResult a b) [(dec32 a).term, (dec32 b).term]
def sub32 (a b : BitVec 32) : BitVec 32 := sum32 false (Config.noResult a b) [(dec32 a).term, (dec32 b).negate.term]
def mul32 (a b : BitVec 32) : BitVec 32 := sum32 false (Config.noResult a b) [(dec32 a).mul (dec32 b)]
def fma32 (d a b : BitVec 32) : BitVec 32 := sum32 false (Config.noResult a b) [(dec32 d).term, (dec32 a).mul (dec32 b)]

/-- a < b among numbers and infinities. -/
def Fp.rank : Fp → Int
  | .nan => 0
  | .inf neg => if neg then -(2 ^ 400 : Int) else (2 ^ 400 : Int)
  | .num neg k => if neg then -(k : Int) else (k : Int)

/-- MAX or MIN: of two zeros either may result (log entry 34). -/
def extreme32 (big : Bool) (a b : BitVec 32) : BitVec 32 :=
  let x := dec32 a
  let y := dec32 b
  if x = .nan ∨ y = .nan then nan32
  else if x.rank = y.rank then (if a = b then a else if Config.zeroPick a b then a else b)
  else if decide (y.rank < x.rank) == big then a else b

def abs32 (a : BitVec 32) : BitVec 32 := if dec32 a = .nan then nan32 else a &&& 0x7FFFFFFF

def one32 : BitVec 32 := 0x3F800000

/-- CMP under condition c. -/
def cmp32 (c : Nat) (a b : BitVec 32) : BitVec 32 :=
  let x := dec32 a
  let y := dec32 b
  if x = .nan ∨ y = .nan then nan32
  else
    let p := x.rank
    let r := y.rank
    let hit := match c with
      | 0 => decide (p = r)
      | 1 => decide (p ≠ r)
      | 2 => decide (p < r)
      | 3 => decide (p ≤ r)
      | 4 => decide (r < p)
      | _ => decide (r ≤ p)
    if hit then one32 else 0

/-- SEL: a NaN as the mask or as the value chosen gives NaN (R299). -/
def sel32 (d a b : BitVec 32) : BitVec 32 :=
  match dec32 d with
  | .nan => nan32
  | .num _ 0 => if dec32 b = .nan then nan32 else b
  | _ => if dec32 a = .nan then nan32 else a

/-- Integer square root by bits from 2^(n-1) down. -/
def isqrtN : Nat → Nat → Nat → Nat
  | 0, _, r => r
  | n + 1, x, r => isqrtN n x (if (r + 2 ^ n) * (r + 2 ^ n) ≤ x then r + 2 ^ n else r)

/-- A code near the exact result: the one below, the nearest or the one above (R299). -/
def nearCode (low : Nat) (exact upper : Bool) (c : Fin 3) : Nat :=
  match c.val with
  | 0 => if exact then low - 1 else low
  | 1 => if upper then low + 1 else low
  | _ => low + 1

/-- The fp32 code at or below num / den units, and whether it is exact and whether the upper half is met. -/
def floorCode (num den : Nat) : Nat × Bool × Bool :=
  let q := num / den
  let u := if q < 2 ^ 24 then 0 else Nat.log2 q - 23
  let d := den * 2 ^ u
  let t := num / d
  let r := num % d
  (f32.codeOf (t * 2 ^ u), r == 0, decide (d < 2 * r) || (decide (2 * r = d) && t % 2 == 1))

def rcp32 (a : BitVec 32) : BitVec 32 :=
  match dec32 a with
  | .nan => nan32
  | .inf neg => pack32 neg 0
  | .num neg k =>
    if k = 0 then Config.rcpOfZero a
    else
      let x := floorCode (2 ^ 298) k
      pack32 neg (nearCode x.1 x.2.1 x.2.2 (Config.rcpChoice a))

def rsq32 (a : BitVec 32) : BitVec 32 :=
  match dec32 a with
  | .nan => nan32
  | .inf neg => if neg then Config.rsqUndefined a else 0
  | .num neg k =>
    if neg ∨ k = 0 then Config.rsqUndefined a
    else
      let x := 2 ^ 447 / k
      let y := isqrtN 224 x 0
      let u := Nat.log2 y - 23
      let t := y / 2 ^ u
      let exact := decide (t * 2 ^ u * (t * 2 ^ u) * k = 2 ^ 447)
      let upper := decide ((2 * t + 1) * (2 * t + 1) * 2 ^ (2 * u) * k < 2 ^ 449)
      pack32 false (nearCode (f32.codeOf (t * 2 ^ u)) exact upper (Config.rsqChoice a))

/-- n of R299: ⌊(x − lo) × scale⌋ clamped to 0 to 63, formed exactly; a free value where the operands are not finite. -/
def lutPair (x lo scale : BitVec 32) : Nat :=
  match dec32 x, dec32 lo, dec32 scale with
  | .num a k, .num b l, .num c n =>
    let d : Int := (if a then -(k : Int) else k) - (if b then -(l : Int) else l)
    let p : Int := d * (if c then -(n : Int) else n)
    let f := p.fdiv (2 ^ 298)
    if f < 0 then 0 else Nat.min 63 f.toNat
  | _, _, _ => (Config.lutIndex x lo scale).val

/-- An fp32 value in a narrower format (R300): beyond the greatest finite value the result saturates. -/
def narrow (f : Format) (v : BitVec 32) : Nat :=
  let sign (neg : Bool) (c : Nat) : Nat := c + if neg then 2 ^ (f.width - 1) else 0
  match dec32 v with
  | .nan => f.nan
  | .inf neg => sign neg f.top
  | .num neg k => sign neg (Nat.min f.top (f.codeOf (roundUnits f.m k (2 ^ (149 - f.q)))))

/-- fp32 to int8: rounded to nearest with ties to even, 127 with its sign beyond it; NaN gives 0 (R300). -/
def toInt8 (v : BitVec 32) : Nat :=
  match dec32 v with
  | .nan => 0
  | .inf neg => if neg then 129 else 127
  | .num neg k =>
    let d := 2 ^ 149
    let t := k / d
    let r := k % d
    let n := Nat.min 127 (if d < 2 * r ∨ (2 * r = d ∧ t % 2 = 1) then t + 1 else t)
    if neg then (256 - n) % 256 else n

/-- A narrow value as fp32 (R300); every finite value of the narrow formats is exact. -/
def widen (f : Format) (v : Nat) : BitVec 32 :=
  match f.decode v with
  | .nan => nan32
  | .inf neg => pack32 neg 0x7F800000
  | .num neg k => fp32Of neg k 1

/-- A signed integer as fp32. -/
def intTo32 (x : Int) : BitVec 32 := if x = 0 then 0 else fp32Of (decide (x < 0)) (x.natAbs * 2 ^ 149) 1

/-- bf16 of an exact sum (R350). -/
def sumBf16 (invalid : BitVec 16) (l : List Term) : BitVec 16 :=
  let sign (neg : Bool) (c : Nat) : BitVec 16 := BitVec.ofNat 16 (Nat.min c 0x7F80 + if neg then 2 ^ 15 else 0)
  if l.any (· == .nan) then 0x7FC0
  else if l.any (· == .bad) || (l.any (· == .inf true) && l.any (· == .inf false)) then invalid
  else if l.any (· == .inf true) then sign true 0x7F80
  else if l.any (· == .inf false) then sign false 0x7F80
  else
    let v : Int := l.foldl (fun a t => a + t.value) 0
    if v = 0 then sign (!l.isEmpty && l.all Term.negative) 0
    else sign (decide (v < 0)) (bf16.codeOf (roundUnits 7 v.natAbs (2 ^ 165)))

end Sys2Proof.Machine
end

