-- ==== Sys2Proof/Machine/Cores.lean ====
section
/-! DEFINITION. The matrix cores: operand specifiers, loops, address generators, interlocks, streams and kernels (chapter 16, R325, R326). -/

namespace Sys2Proof.Machine

/-! ## Cores, clusters and kernels -/

/-- A core's place: die, cluster, core. -/
structure CorePos where
  d : Nat
  k : Nat
  c : Nat
  deriving DecidableEq, Repr

def posOf (i : CoreId) : CorePos := { d := i.die.val, k := i.cluster.val, c := i.core.val }

def coreKey (p : CorePos) : Nat := (100 * p.d + p.k) * 64 + p.c
def State.core (s : State) (p : CorePos) : CoreSt := Tab.get CoreSt.reset s.cores (coreKey p)
def State.setCore (s : State) (p : CorePos) (x : CoreSt) : State := { s with cores := Tab.put CoreSt.reset s.cores (coreKey p) x }

/-- The source tag of a core (R395). -/
def CorePos.tag (p : CorePos) : Nat := 64 * p.k + p.c

/-- The kernel that holds a cluster. -/
def State.kernelOn (s : State) (d k : Nat) : Option KernelSt :=
  (s.cluster d k).kernel.bind fun x => s.kernels.find? fun y => y.die == d && y.q == x.1 && y.idx == x.2

def sameKernel (a b : KernelSt) : Bool := a.die == b.die && a.q == b.q && a.idx == b.idx
def State.setKernel (s : State) (x : KernelSt) : State := { s with kernels := s.kernels.map fun y => if sameKernel y x then x else y }

/-- The clusters of a kernel's set. -/
def KernelSt.set (x : KernelSt) : List Nat := (List.range x.clusters).map fun i => x.first + i

/-- The MATRIX queue of a die. -/
def matrixQ (d q : Nat) : QueueId := { engine := .matrix, inst := Fin.ofNat 4 d, idx := Fin.ofNat 32 q }

/-- A condition ends a kernel: its cores stop at their next instruction boundary (R303). -/
def State.stopKernel (s : State) (x : KernelSt) (st : Status) : State :=
  s.setKernel { x with stop := some (match x.stop with | some y => Config.worse y st | none => st) }

/-- CMP_CORE_FAULT keeps the first record until VALID is cleared (R303, R307). -/
def State.recordFault (s : State) (p : CorePos) (st : Status) (ip : Nat) : State :=
  if s.bit .CMP_CORE_FAULT_VALID p.d 0 0 then s
  else ((((s.wr .CMP_CORE_FAULT_STATUS p.d 0 0 (Config.statusCode st)).wr .CMP_CORE_FAULT_IP p.d 0 0 ip).wr .CMP_CORE_FAULT_CLUSTER p.d 0 0 p.k).wr
    .CMP_CORE_FAULT_CORE p.d 0 0 p.c).flag .CMP_CORE_FAULT_VALID p.d 0 0

/-! ## What a core is about to issue -/

/-- A core that may issue in this KCLK: its place, state, kernel and instruction word. -/
structure CoreCtx where
  p : CorePos
  x : CoreSt
  kn : KernelSt
  w : BitVec 64
  deriving DecidableEq, Repr

def CoreCtx.bits (c : CoreCtx) (lo n : Nat) : Nat := c.w.toNat / 2 ^ lo % 2 ^ n
def CoreCtx.op (c : CoreCtx) : Nat := c.bits 0 8
def CoreCtx.mod (c : CoreCtx) : Nat := c.bits 8 8
/-- A signed field. -/
def CoreCtx.signed (c : CoreCtx) (lo n : Nat) : Int :=
  let v := c.bits lo n
  if v < 2 ^ (n - 1) then (v : Int) else (v : Int) - 2 ^ n

/-- The KCLK runs on the cluster's die, no hinge holds it, and the cluster is neither gated, waking nor clearing (R215, R217, R218, R308). -/
def State.clusterRuns (s : State) (d k : Nat) : Bool :=
  s.clk.run && s.hinge.step == 0 && s.cdieIn d && s.boot.stage == .running && !s.pf2 && !(s.cluster d k).gated && decide ((s.cluster d k).runAt ≤ s.clk.kclk)

/-- The core's next instruction, where its kernel runs, every cluster of the set holds the table, and it has not issued in this KCLK (R294, R306). -/
def State.coreCtx (s : State) (p : CorePos) : Option CoreCtx :=
  let x := s.core p
  match s.kernelOn p.d p.k with
  | some kn =>
    if s.clusterRuns p.d p.k && kn.stop.isNone && !x.ended && x.issueAt != s.clk.kclk + 1 && kn.set.all (fun k => (s.cluster p.d k).loaded) then
      some { p := p, x := x, kn := kn, w := x.icache.getD x.ip 0 }
    else none
  | none => none

/-- The opcodes of R296. -/
def knownOp (n : Nat) : Bool :=
  decide (n ≤ 7) || (decide (0x10 ≤ n) && decide (n ≤ 0x13)) || (decide (0x18 ≤ n) && decide (n ≤ 0x1B)) || n == 0x20 || n == 0x21 ||
  (decide (0x30 ≤ n) && decide (n ≤ 0x42)) || n == 0x44

/-- Bits of MOD that an opcode defines (R296). -/
def modMask (n : Nat) : Nat :=
  match n with
  | 0x02 => 0x01
  | 0x03 => 0x3F
  | 0x04 => 0x7F
  | 0x05 => 0x0F
  | 0x07 => 0xFF
  | 0x18 => 0x03
  | 0x19 => 0x03
  | 0x1A => 0x1F
  | 0x1B => 0x1F
  | 0x20 => 0x03
  | 0x21 => 0x1F
  | 0x37 => 0x07
  | 0x3E => 0x03
  | 0x40 => 0x07
  | 0x41 => 0x1F
  | _ => 0

/-- A reserved MOD value (R296, R302). -/
def CoreCtx.modBad (c : CoreCtx) : Bool :=
  (c.mod ||| modMask c.op) != modMask c.op ||
  (match c.op with
   | 0x03 => c.bits 8 3 == 0 || decide (4 < c.bits 11 3)
   | 0x18 => c.bits 8 2 == 3
   | 0x19 => c.bits 8 2 == 3
   | 0x1A => c.bits 8 2 == 3
   | 0x1B => c.bits 8 2 == 3
   | 0x21 => decide (2 ≤ c.bits 8 2) != decide (2 ≤ c.bits 10 2)
   | 0x37 => decide (5 < c.bits 8 3)
   | 0x3E => c.bits 8 2 == 3
   | 0x40 => decide (4 < c.bits 8 3)
   | 0x41 => decide (4 < c.bits 8 3) || (decide (c.bits 8 3 < 2) && decide (1 < c.bits 11 2))
   | _ => false)

/-- The kernel ends at this instruction (R296, R303). -/
def State.coreFault (s : State) (c : CoreCtx) (st : Status) : State := (s.recordFault c.p st c.x.ip).stopKernel c.kn st

/-! ## Sampling and counting of instructions (R409, R416) -/

def State.coreCount (s : State) (p : CorePos) (ev n : Nat) : State :=
  if s.frozen (4 + p.d) then s
  else
    let x := s.core p
    let y := if s.rd .CMP_CCNT_CFG_EVENT0 p.d 0 0 = ev then { x with cnt0 := Nat.min top32 (x.cnt0 + n) } else x
    let z := if s.rd .CMP_CCNT_CFG_EVENT1 p.d 0 0 = ev then { y with cnt1 := Nat.min top32 (y.cnt1 + n) } else y
    s.setCore p z

/-- An issued instruction of a compute die may be tagged, one cluster in rotation for each tag (R416). -/
def State.sampleInsn (s : State) (c : CoreCtx) (usable : Nat) : State :=
  let d := c.p.d
  let x := Tab.get SamplerSt.reset s.samplers (4 + d)
  if s.rd .CMP_SMP_CTRL_ENABLE d 0 0 = 1 ∧ s.rd .CMP_SMP_CTRL_CASEMENT d 0 0 = c.kn.cas then
    let turn := if (s.cluster d x.turn).kernel.isSome then x.turn else c.p.k
    if x.left ≤ 1 ∧ turn = c.p.k then
      let l := lfsrNext x.lfsr
      let now := s.clk.kclk
      let from_ := if c.x.stallFrom = 0 then now else c.x.stallFrom - 1
      let r : SampleRec := { kind := 1, seq := x.seq % 65536, cas := c.kn.cas, cls := c.x.stall, door := 0, pc := 0, hp := s.clk.hp,
                             hinge := s.hinge.kHold.any (fun k => decide (from_ ≤ k) && decide (k < now)), status := 0, addr := c.p.k + 2 ^ 7 * c.p.c + 2 ^ 13 * c.x.ip + 2 ^ 22 * c.op,
                             arrT := s.time64, arrC := from_, admC := now, firstC := 0, lastC := usable, respC := 0, done := usable != 0 }
      { s with samplers := Tab.put SamplerSt.reset s.samplers (4 + d)
                 { turn := (c.p.k + 1) % 100, lfsr := l, left := s.rd .CMP_SMP_PERIOD_PERIOD d 0 0 + (l &&& s.rd .CMP_SMP_PERIOD_JITTER d 0 0),
                   seq := x.seq + 1, recs := x.recs ++ [r] } }
    else { s with samplers := Tab.put SamplerSt.reset s.samplers (4 + d) { x with left := x.left - 1 } }
  else s

/-- A sampled stream's data arrives (R417). -/
def State.sampleStream (s : State) (p : CorePos) : State :=
  let x := Tab.get SamplerSt.reset s.samplers (4 + p.d)
  let mine (r : SampleRec) : Bool := r.kind == 1 && !r.done && r.addr % 2 ^ 13 == p.k + 2 ^ 7 * p.c
  match x.recs.find? mine with
  | some r =>
    { s with samplers := Tab.put SamplerSt.reset s.samplers (4 + p.d)
               { x with recs := x.recs.map fun y => if y = r then { y with lastC := s.clk.kclk, done := true, hinge := y.hinge || s.hinge.doneAt.any (fun t => decide (y.arrT < t)) } else y } }
  | none => s

/-! ## The sequencer (R292, R294) -/

/-- The loop counters by level, 0 outermost; the stack holds the innermost first. -/
def loopCounter (l : List LoopSt) (level : Nat) : Nat := (l.reverse[level]?.map (·.i)).getD 0

/-- After the instruction at `at_`: the next index and the loops still active (R292). -/
def loopNext : List LoopSt → Nat → Nat × List LoopSt
  | [], at_ => (at_ + 1, [])
  | l :: t, at_ =>
    if at_ = l.last then
      if l.i + 1 < l.count then (l.first, { l with i := l.i + 1 } :: t) else loopNext t at_
    else (at_ + 1, l :: t)

/-- The instruction pointer has nine bits. -/
def CoreSt.pass (x : CoreSt) (at_ : Nat) : CoreSt :=
  let n := loopNext x.loops at_
  { x with ip := n.1 % 512, loops := n.2 }

/-- An instruction issues: the pointer moves on. -/
def State.coreIssued (s : State) (c : CoreCtx) (x : CoreSt) (usable : Nat) : State :=
  let y := { x with issueAt := s.clk.kclk + 1, stall := 0, stallFrom := 0 }
  ((s.setCore c.p y).coreCount c.p 0x50 1).sampleInsn c usable

/-- The instruction stalls for a reason of CMP_CORE_STATE.STALL. -/
def State.coreStall (s : State) (c : CoreCtx) (why : Nat) : State :=
  s.setCore c.p { c.x with stall := why, stallFrom := if c.x.stallFrom = 0 then s.clk.kclk + 1 else c.x.stallFrom }

/-- Run a core's next instruction if its opcode is `op`; an opcode that R296 does not list, or a reserved MOD value, ends the kernel. -/
def State.coreStep (s : State) (i : CoreId) (op : Nat) (run : State → CoreCtx → State) : State :=
  match s.coreCtx (posOf i) with
  | none => s
  | some c =>
    if !knownOp c.op then s.coreFault c .badCommand
    else if c.op ≠ op then s
    else if c.modBad then s.coreFault c .badCommand
    else run s c

/-- An instruction of the sequencer's own: it changes the core's state and passes on. -/
def State.plain (s : State) (c : CoreCtx) (f : CoreSt → CoreSt) : State := s.coreIssued c ((f c.x).pass c.x.ip) (s.clk.kclk + 1)

/-- LOOP (R292). -/
def State.runLoop (s : State) (c : CoreCtx) : State :=
  let n := if c.bits 8 1 = 1 then c.x.args.getD (c.bits 16 4) 0 else c.bits 16 16
  let len := c.bits 32 8
  if n = 0 then s.coreIssued c (c.x.pass (c.x.ip + len)) (s.clk.kclk + 1)
  else
    s.coreIssued c { c.x with ip := (c.x.ip + 1) % 512,
                              loops := { first := c.x.ip + 1, last := c.x.ip + len, count := n, i := 0 } :: c.x.loops } (s.clk.kclk + 1)

/-- SETAG (R293): key 5 (k − 1) + field. -/
def State.runSetag (s : State) (c : CoreCtx) : State :=
  s.plain c fun x => { x with ag := Tab.put 0 x.ag (5 * (c.bits 8 3 - 1) + c.bits 11 3) (c.signed 32 32) }

/-- SETSB (R302). -/
def State.runSetsb (s : State) (c : CoreCtx) : State :=
  let a := c.x.args.getD (c.bits 11 4) 0 % 2 ^ 48
  if a % 256 = 0 then s.plain c fun x => { x with sb := Tab.put 0 x.sb (c.bits 8 3) a } else s.coreFault c .badAlignment

/-- Outstanding streams, at most 16 of them sent. -/
def CoreSt.outstanding (x : CoreSt) : Nat := x.streams.length

/-- WAITS. -/
def State.runWaits (s : State) (c : CoreCtx) : State :=
  if c.x.outstanding ≤ c.bits 8 4 then s.plain c id else s.coreStall c 6

/-- END waits until every stream of the core has completed (R305). -/
def State.runEnd (s : State) (c : CoreCtx) : State :=
  if c.x.outstanding = 0 then s.coreIssued c { c.x with ended := true, atSync := false } (s.clk.kclk + 1) else s.coreStall c 6

/-- SYNC: the core arrives, and passes once every core of the cluster has arrived or ended (R296, R305). -/
def State.runSync (s : State) (c : CoreCtx) : State :=
  let x := if c.x.atSync then c.x else { c.x with atSync := true, syncs := c.x.syncs + 1 }
  let there (n : Nat) : Bool := let y := s.core { c.p with c := n }; n == c.p.c || y.ended || decide (x.syncs ≤ y.syncs)
  if (List.range 64).all there then s.coreIssued c ({ x with atSync := false }.pass c.x.ip) (s.clk.kclk + 1)
  else s.coreStall { c with x := x } 7

/-- A record enters a cluster's trace FIFO of 64 (R419). -/
def State.pushCluster (s : State) (d k : Nat) (r : TraceRec) : State :=
  if s.traceKeeps d r.cas then
    let y := s.cluster d k
    let f := fifoPush 64 0 y.fifo y.lost r
    let t := s.setCluster d k { y with fifo := f.1, lost := f.2 }
    if f.2 = 0 then t else t.count .TRC_STATUS_LOST 16777215 d 0 0 1
  else s

/-- TRACE: a MARKER record (R420). -/
def State.runTrace (s : State) (c : CoreCtx) : State :=
  (s.plain c id).pushCluster c.p.d c.p.k
    { time := s.time64, typ := 0x01, die := 4 + c.p.d, cas := c.kn.cas, unit := c.p.tag, payload := [c.mod, c.x.ip] }

/-! ## Slots (R291, R293, R304) -/

/-- AGk's value: the base plus each stride times its loop counter. -/
def CoreSt.agValue (x : CoreSt) (k : Nat) : Int :=
  if k = 0 then 0
  else
    let f (n : Nat) : Int := Tab.get 0 x.ag (5 * (k - 1) + n)
    (List.range 4).foldl (fun v l => v + f (l + 1) * (loopCounter x.loops l : Int)) (f 0)

/-- The slot that a specifier names, with an offset; none outside its space (R291). -/
def CoreSt.slotOf (x : CoreSt) (spec off : Nat) : Option Nat :=
  let space := spec / 2 ^ 14 % 4
  let v : Int := (spec % 256 + off : Nat) + x.agValue (spec / 2 ^ 11 % 8)
  let size : Nat := if space = 0 then 224 else if space = 3 then 0 else 48
  if 0 ≤ v ∧ v < (size : Int) then some (256 * space + v.toNat) else none

def CoreSt.slot (x : CoreSt) (k : Nat) : Slot := Tab.get Slot.reset x.slots k
def CoreSt.setSlot (x : CoreSt) (k : Nat) (v : Slot) : CoreSt := { x with slots := Tab.put Slot.reset x.slots k v }

/-- A slot awaits a write by an earlier instruction (R294): a result not yet usable, or a stream's data. -/
def CoreSt.awaits (x : CoreSt) (k now : Nat) : Bool :=
  x.busy.any (fun b => b.1 == k && decide (now < b.2)) || x.streams.any fun t => !t.write && t.slot == k

/-- A slot awaits a read by an earlier instruction (R294): a write stream that has not left the core. -/
def CoreSt.readDue (x : CoreSt) (k : Nat) : Bool := x.streams.any fun t => t.write && t.slot == k && !t.sent

/-- Element e of a tile of n-bit elements. -/
def elem (b : Block) (n e : Nat) : Nat := b.toNat / 2 ^ (n * e) % 2 ^ n
def word32 (b : Block) (e : Nat) : BitVec 32 := BitVec.ofNat 32 (elem b 32 e)

/-- A tile from its elements. -/
def tileOf (n count : Nat) (f : Nat → Nat) : Block := BitVec.ofNat 2048 ((List.range count).foldl (fun v e => v + f e % 2 ^ n * 2 ^ (n * e)) 0)
def tile32 (f : Nat → BitVec 32) : Block := tileOf 32 64 fun e => (f e).toNat

/-! ## Tile unit, mover and conversion (R296, R299 to R301, R304) -/

inductive CoreUnit where
  | tile | mover
  deriving DecidableEq, Repr

/-- What an instruction of these units does: its unit, its timing, the specifiers it reads with their slot offsets, and whether poison spreads to the whole slot. -/
structure TileInsn where
  unit : CoreUnit
  occupies : Nat
  usable : Nat
  reads : List (Nat × Nat)
  spread : Bool
  deriving DecidableEq, Repr

def CoreCtx.dst (c : CoreCtx) : Nat := c.bits 16 16
def CoreCtx.src1 (c : CoreCtx) : Nat := c.bits 32 16
def CoreCtx.src2 (c : CoreCtx) : Nat := c.bits 48 16

/-- Poison of a result from its sources' bits (R304). -/
def spreadPoison (spread : Bool) (l : List Slot) : BitVec 8 :=
  let any := l.foldl (fun p v => p ||| v.poison) 0
  if spread && any != 0 then BitVec.allOnes 8 else any

/-- Issue an instruction that reads slots and writes DST, or stall, or end the kernel on a slot outside its space. -/
def State.compute (s : State) (c : CoreCtx) (n : TileInsn) (f : List Block → Block) : State :=
  let now := s.clk.kclk
  match c.x.slotOf c.dst 0 with
  | none => s.coreFault c .badCommand
  | some d =>
    let rs := n.reads.map fun r => c.x.slotOf r.1 r.2
    if rs.any Option.isNone then s.coreFault c .badCommand
    else
      let rs := rs.filterMap id
      let free := match n.unit with | .tile => c.x.tile | .mover => c.x.mover
      if now < free then s.coreStall c (if n.unit = .tile then 2 else 3)
      else if c.x.readDue d || (d :: rs).any fun k => c.x.awaits k now then s.coreStall c 4
      else
        let ins := rs.map c.x.slot
        let out : Slot := { data := f (ins.map (·.data)), poison := spreadPoison n.spread ins }
        let x := c.x.setSlot d out
        let x := { x with busy := (d, now + n.usable) :: x.busy.filter fun b => decide (now < b.2) }
        let x := match n.unit with
          | .tile => { x with tile := now + n.occupies }
          | .mover => { x with mover := now + n.occupies }
        s.coreIssued c (x.pass c.x.ip) (now + n.usable)

def tileInsn (reads : List (Nat × Nat)) (spread : Bool) : TileInsn := { unit := .tile, occupies := 4, usable := 8, reads := reads, spread := spread }
def slowInsn (reads : List (Nat × Nat)) (spread : Bool) : TileInsn := { unit := .tile, occupies := 4, usable := 12, reads := reads, spread := spread }
def moverInsn (reads : List (Nat × Nat)) (spread : Bool) : TileInsn := { unit := .mover, occupies := 4, usable := 6, reads := reads, spread := spread }

def arg (l : List Block) (n : Nat) : Block := l.getD n 0

/-- Elementwise operations of one and of two operands. -/
def State.unary (s : State) (c : CoreCtx) (n : TileInsn) (f : BitVec 32 → BitVec 32) : State :=
  s.compute c n fun l => tile32 fun e => f (word32 (arg l 0) e)
def State.binary (s : State) (c : CoreCtx) (f : BitVec 32 → BitVec 32 → BitVec 32) : State :=
  s.compute c (tileInsn [(c.src1, 0), (c.src2, 0)] false) fun l => tile32 fun e => f (word32 (arg l 0) e) (word32 (arg l 1) e)

/-- Row i of a tile as fp32 terms. -/
def rowTerms (b : Block) (i : Nat) : List Term := (List.range 8).map fun j => (dec32 (word32 b (8 * i + j))).term

def rowMax (b : Block) (i : Nat) : BitVec 32 :=
  (List.range 7).foldl (fun m j => extreme32 true m (word32 b (8 * i + j + 1))) (let v := word32 b (8 * i); if dec32 v = .nan then nan32 else v)

def rowOp (op : Nat) (a b : BitVec 32) : BitVec 32 :=
  match op with
  | 0 => add32 a b
  | 1 => sub32 a b
  | _ => mul32 a b

/-- LUT on one element (R299); the pair's slots are the second and third. -/
def lut32 (l : List Block) (x : BitVec 32) : BitVec 32 :=
  if dec32 x = .nan then nan32
  else
    let n := lutPair x (word32 (arg l 1) 0) (word32 (arg l 1) 1)
    let b := arg l (2 + n / 32)
    fma32 (word32 b (2 * (n % 32) + 1)) (word32 b (2 * (n % 32))) x

def formatOf (n : Nat) : Format :=
  match n with
  | 0 => bf16
  | 1 => f16
  | 2 => e4m3
  | _ => e5m2

def narrowTo (t : Nat) (v : BitVec 32) : Nat := if t = 4 then toInt8 v else narrow (formatOf t) v
def signedByte (v : Nat) : Int := if v < 128 then (v : Int) else (v : Int) - 256
def widenFrom (t v : Nat) : BitVec 32 := if t = 4 then intTo32 (signedByte v) else widen (formatOf t) v

/-- CVT (R300): columns 0–7, 8–15, ... come from successive sources. -/
def State.runCvt (s : State) (c : CoreCtx) : State :=
  let t := c.bits 8 3
  if t < 2 then
    s.compute c { unit := .tile, occupies := 8, usable := 12, reads := [(c.src1, 0), (c.src2, 0)], spread := true } fun l =>
      tileOf 16 128 fun e => narrowTo t (word32 (arg l (e % 16 / 8)) (8 * (e / 16) + e % 8))
  else
    s.compute c { unit := .tile, occupies := 16, usable := 20, reads := [(c.src1, 0), (c.src1, 1), (c.src2, 0), (c.src2, 1)], spread := true } fun l =>
      tileOf 8 256 fun e => narrowTo t (word32 (arg l (e % 32 / 8)) (8 * (e / 32) + e % 8))

/-- UNPK (R300): columns 8 × part to 8 × part + 7. -/
def State.runUnpk (s : State) (c : CoreCtx) : State :=
  let t := c.bits 8 3
  let part := c.bits 11 2
  s.compute c (tileInsn [(c.src1, 0)] true) fun l => tile32 fun e =>
    let col := 8 * part + e % 8
    widenFrom t (if t < 2 then elem (arg l 0) 16 (16 * (e / 8) + col) else elem (arg l 0) 8 (32 * (e / 8) + col))

def State.runFill (s : State) (c : CoreCtx) : State := s.compute c (moverInsn [] false) fun _ => tile32 fun _ => BitVec.ofNat 32 (c.bits 32 32)
def State.runZero (s : State) (c : CoreCtx) : State := s.compute c (moverInsn [] false) fun _ => 0
def State.runMovt (s : State) (c : CoreCtx) : State := s.compute c (moverInsn [(c.src1, 0)] false) fun l => arg l 0
def State.runTrn (s : State) (c : CoreCtx) : State :=
  s.compute c (moverInsn [(c.src1, 0)] true) fun l => tile32 fun e => word32 (arg l 0) (8 * (e % 8) + e / 8)
def State.runFma (s : State) (c : CoreCtx) : State :=
  s.compute c (tileInsn [(c.dst, 0), (c.src1, 0), (c.src2, 0)] false) fun l => tile32 fun e => fma32 (word32 (arg l 0) e) (word32 (arg l 1) e) (word32 (arg l 2) e)
def State.runSel (s : State) (c : CoreCtx) : State :=
  s.compute c (tileInsn [(c.dst, 0), (c.src1, 0), (c.src2, 0)] false) fun l => tile32 fun e => sel32 (word32 (arg l 0) e) (word32 (arg l 1) e) (word32 (arg l 2) e)
def State.runLut (s : State) (c : CoreCtx) : State :=
  s.compute c (slowInsn [(c.src1, 0), (c.src2, 0), (c.src2, 1), (c.src2, 2)] true) fun l => tile32 fun e => lut32 l (word32 (arg l 0) e)
def State.runRsum (s : State) (c : CoreCtx) : State :=
  s.compute c (slowInsn [(c.src1, 0)] true) fun l => tile32 fun e =>
    sum32 false (Config.noResult (word32 (arg l 0) (8 * (e / 8))) 0) (rowTerms (arg l 0) (e / 8))
def State.runRmax (s : State) (c : CoreCtx) : State := s.compute c (slowInsn [(c.src1, 0)] true) fun l => tile32 fun e => rowMax (arg l 0) (e / 8)
def State.runRowop (s : State) (c : CoreCtx) : State :=
  s.compute c (tileInsn [(c.src1, 0), (c.src2, 0)] false) fun l => tile32 fun e => rowOp (c.bits 8 2) (word32 (arg l 0) e) (word32 (arg l 1) (8 * (e / 8)))
def State.runScl (s : State) (c : CoreCtx) : State := s.unary c (tileInsn [(c.src1, 0)] false) fun v => mul32 v (BitVec.ofNat 32 (c.src2 * 65536))

/-! ## MMA (R286, R297, R298, R301) -/

/-- One element of an MMA's A or B operand as a number. -/
def mmaElem (wide : Bool) (t : Nat) (b : Block) (i k : Nat) : Fp :=
  if wide then (if t = 1 then f16 else bf16).decode (elem b 16 (16 * i + k)) else (if t = 0 then e4m3 else e5m2).decode (elem b 8 (32 * i + k))

/-- The same of an integer operand: type 2 int8, 3 uint8. -/
def mmaInt (t : Nat) (b : Block) (i k : Nat) : Int := let v := elem b 8 (32 * i + k); if t = 2 then signedByte v else (v : Int)

/-- C(i,j) of a floating-point MMA. -/
def mmaCell (wide zero : Bool) (ta tb : Nat) (a b c : Block) (i j : Nat) : BitVec 32 :=
  let old := word32 c (8 * i + j)
  let terms := (List.range (if wide then 16 else 32)).map fun k => (mmaElem wide ta a i k).mul (mmaElem wide tb b j k)
  sum32 true (Config.noResult old 0) ((if zero then [] else [(dec32 old).term]) ++ terms)

/-- C(i,j) of an integer MMA: modulo 2^32. -/
def mmaIntCell (zero : Bool) (ta tb : Nat) (a b c : Block) (i j : Nat) : BitVec 32 :=
  let v := (List.range 32).foldl (fun (v : Int) k => v + mmaInt ta a i k * mmaInt tb b j k) (if zero then 0 else ((word32 c (8 * i + j)).toNat : Int))
  BitVec.ofInt 32 v

/-- MMA and MMA8: their three specifiers name one feeder; the array accumulates in place (R294). -/
def State.runMma (s : State) (c : CoreCtx) (zero : Bool) (f : Block → Block → Block → Block) : State :=
  let now := s.clk.kclk
  let space := c.dst / 2 ^ 14
  if (space ≠ 1 ∧ space ≠ 2) ∨ c.src1 / 2 ^ 14 ≠ space ∨ c.src2 / 2 ^ 14 ≠ space then s.coreFault c .badCommand
  else match c.x.slotOf c.dst 0, c.x.slotOf c.src1 0, c.x.slotOf c.src2 0 with
    | some d, some a, some b =>
      let last := if space = 1 then c.x.arrA else c.x.arrB
      let prev := if space = 1 then c.x.accA else c.x.accB
      let gap := mmaSpacing (s.throttleLevel c.p.d)
      let inPlace := !zero && prev == some d
      if last ≠ 0 ∧ now < last - 1 + 16 then s.coreStall c 1
      else if last ≠ 0 ∧ now < last - 1 + gap then s.coreStall c 8
      else if c.x.awaits a now || c.x.awaits b now || (!inPlace && (c.x.awaits d now || c.x.readDue d)) then s.coreStall c 4
      else
        let ins := (if zero then [] else [c.x.slot d]) ++ [c.x.slot a, c.x.slot b]
        let out : Slot := { data := f (c.x.slot a).data (c.x.slot b).data (c.x.slot d).data, poison := spreadPoison true ins }
        let x := c.x.setSlot d out
        let x := { x with busy := (d, now + 24) :: x.busy.filter fun y => decide (now < y.2) && y.1 != d }
        let x := if space = 1 then { x with arrA := now + 1, accA := some d } else { x with arrB := now + 1, accB := some d }
        let t := s.coreIssued c (x.pass c.x.ip) (now + 24)
        ((t.coreCount c.p 0x51 1).tally (4 + c.p.d) 0x41 (some c.p.k) [] (some c.kn.cas) 1).tally (4 + c.p.d) 0x42 (some c.p.k) [] (some c.kn.cas) 16
    | _, _, _ => s.coreFault c .badCommand

def State.runMma16 (s : State) (c : CoreCtx) : State :=
  let zero := c.bits 8 1 = 1
  let t := c.bits 9 1
  s.runMma c zero fun a b o => tile32 fun e => mmaCell true zero t t a b o (e / 8) (e % 8)

def State.runMma8 (s : State) (c : CoreCtx) : State :=
  let zero := c.bits 12 1 = 1
  let ta := c.bits 8 2
  let tb := c.bits 10 2
  s.runMma c zero fun a b o => tile32 fun e =>
    if ta < 2 then mmaCell false zero ta tb a b o (e / 8) (e % 8) else mmaIntCell zero ta tb a b o (e / 8) (e % 8)

/-! ## Streams (R302 to R304) -/

def blankReq : AkReq :=
  { mtype := 0, cls := 0, cas := 0, srcTag := 0, tag := 0, masked := false, pool := 0, block := 0, uc := false, addr := 0, mask := 0, lpage := 0, data := 0 }

/-- A tag that none of the core's streams uses. -/
def CoreSt.freeTag (x : CoreSt) : Nat := ((List.range 256).find? fun n => !(x.streams.any fun t => t.tag == n)).getD 0

/-- Credits of door 0 that the requests of a compute die hold, on the wires and in the hub: those of URGENT credits, or the general ones (R396). -/
def State.creditsOut (s : State) (h : Nat) (urgent : Bool) : Nat :=
  ((s.door h 0).inUse.filter fun r => r.uc == urgent).length + ((s.aksal h).tx.filter fun m => m.uc == urgent).length

/-- A request sets out on the wires to the hub (R390); an URGENT one on an URGENT credit where the die holds one (R396). -/
def State.sendUp (s : State) (d : Nat) (m : AkReq) : State :=
  let u := m.cls == 0 && decide (s.creditsOut d true < ((s.doorCfg d 0).map (·.urgentCred)).getD 0)
  s.setAksal d { s.aksal d with tx := (s.aksal d).tx ++ [{ m with uc := u }] }

/-- Whether an expander can take another tile request (R352). -/
def expKey (d e : Nat) : Nat := 8 * d + e
def State.exp (s : State) (d e : Nat) : ExpSt := Tab.get ExpSt.reset s.expanders (expKey d e)
def State.setExp (s : State) (d e : Nat) (x : ExpSt) : State := { s with expanders := Tab.put ExpSt.reset s.expanders (expKey d e) x }

/-- An aperture address (R347). -/
def apertureBit (a : Nat) : Bool := decide (2 ^ 47 ≤ a)
def apExp (a : Nat) : Nat := a / 2 ^ 44 % 8
def apSlot (a : Nat) : Nat := a / 2 ^ 39 % 32
def apToken8 (a : Nat) : Nat := a / 2 ^ 21 % 2 ^ 18
def apHead (a : Nat) : Nat := a / 2 ^ 15 % 64
def apKind (a : Nat) : Nat := a / 2 ^ 13 % 4
def apTile (a : Nat) : Nat := a / 2 ^ 8 % 32

/-- Tiles of each kind that an expander has (R347). -/
def ExpSt.tiles (x : ExpSt) (kind : Nat) : Nat :=
  match kind with
  | 0 => x.headDim / 16
  | 1 => x.headDim / 8
  | 2 => 32
  | _ => if x.latType = 0 then x.rank / 16 else x.rank / 32

/-- The conditions of R347 that end the kernel. -/
def ExpSt.rejects (x : ExpSt) (a : Nat) : Bool :=
  (Tab.get none x.binds (apSlot a)).isNone || decide (x.heads ≤ apHead a) || decide (x.tiles (apKind a) ≤ apTile a) ||
  (apKind a == 1 && apToken8 a % 2 == 1)

/-- An EXP_LOAD waits at expander e of die d: tile requests that arrive later wait for the load (R348). -/
def State.expHeld (s : State) (d e : Nat) : Bool :=
  (List.range 32).any fun k =>
    (s.queue { engine := .page, inst := Fin.ofNat 4 d, idx := Fin.ofNat 32 k }).cmds.any fun c =>
      c.started && c.ended.isNone && c.opcode == 0x36 && c.fld 1 0 3 == e

/-- Streams that have left the core. -/
def CoreSt.sentCount (x : CoreSt) : Nat := (x.streams.filter (·.sent)).length

/-- Send the core's first stream that waits, if it may go: to Aksal, or to the expander it names (R302, R352). -/
def State.sendStream (s : State) (p : CorePos) : State :=
  let x := s.core p
  match x.streams.find? fun t => !t.sent with
  | none => s
  | some t =>
    let go (u : State) : State := u.setCore p { x with streams := x.streams.map fun y => if y.tag = t.tag then { y with sent := true } else y }
    if 16 ≤ x.sentCount then s
    else if apertureBit t.msg.addr then
      let e := apExp t.msg.addr
      let y := s.exp p.d e
      if y.reqs.length < 32 && !s.expHeld p.d e then
        (go s).setExp p.d e { y with reqs := y.reqs ++ [{ rank := p.tag, tag := t.tag, addr := t.msg.addr, cls := t.msg.cls, cas := t.msg.cas }] }
      else s
    else (go s).sendUp p.d t.msg

/-- SGET, SPUT, SGETS and SPUTS. -/
def State.runStream (s : State) (c : CoreCtx) (write sector : Bool) : State :=
  let now := s.clk.kclk
  match c.x.slotOf (c.bits 16 16) 0 with
  | none => s.coreFault c .badCommand
  | some k =>
    let unit : Int := if sector then 32 else 256
    let v : Int := (Tab.get 0 c.x.sb (c.bits 32 3) : Nat) + (c.signed 40 24 + c.x.agValue (c.bits 35 3)) * unit
    let a := (v % 2 ^ 48).toNat
    let n := if sector then c.bits 10 3 else 0
    let e := s.exp c.p.d (apExp a)
    if apertureBit a && write then s.coreFault c .badCommand
    else if apertureBit a && sector then s.coreFault c .badAlignment
    else if apertureBit a && e.rejects a then s.coreFault c .badCommand
    else if c.x.streams.any (fun t => !t.sent) then s.coreStall c 5
    else if c.x.awaits k now then s.coreStall c 4
    else
      let y := c.x.slot k
      let m : AkReq := { blankReq with
        mtype := (if write then 2 else 0) + if sector then 1 else 0, cls := c.bits 8 2, cas := c.kn.cas, srcTag := c.p.tag, tag := c.x.freeTag, addr := a,
        mask := if write then (if sector then BitVec.ofNat 256 (2 ^ 32 - 1) else BitVec.allOnes 256) else 0,
        data := if write then (if sector then (sectorOf y.data n).setWidth 2048 else y.data) else 0 }
      let marks : BitVec 8 := if !write then 0 else if sector then (if y.poison.getLsbD n then 1 else 0) else y.poison
      let t : StreamSt := { tag := m.tag, write := write, sector := sector, slot := k, sec := n, msg := m, marks := marks, sent := false, arrived := none, ip := c.x.ip }
      let u := s.coreIssued c ({ c.x with streams := c.x.streams ++ [t] }.pass c.x.ip) (if write then now + 1 else 0)
      ((u.coreCount c.p 0x53 1).tally (4 + c.p.d) 0x44 (some c.p.k) [if write then 1 else 0] (some c.kn.cas) 1).sendStream c.p

/-- A stream of a core has completed. -/
def State.endStream (s : State) (p : CorePos) (tag : Nat) : State :=
  let x := s.core p
  (s.setCore p { x with streams := x.streams.filter fun t => t.tag != tag }).sendStream p

/-- STREAM_ARRIVAL (R304): arrived data enters its slot with its poison marks; a stopped kernel's data is discarded (R303). -/
def State.streamArrival (s : State) (p : CorePos) : State :=
  let x := s.core p
  match x.streams.find? fun t => t.arrived.isSome with
  | none => s
  | some t =>
    match t.arrived with
    | none => s
    | some (data, marks) =>
      let old := x.slot t.slot
      let new : Slot :=
        if t.sector then
          { data := BitVec.ofNat 2048 (old.data.toNat - elem old.data 256 t.sec * 2 ^ (256 * t.sec) + elem data 256 0 * 2 ^ (256 * t.sec)),
            poison := if marks.getLsbD 0 then old.poison ||| BitVec.ofNat 8 (2 ^ t.sec) else old.poison &&& ~~~(BitVec.ofNat 8 (2 ^ t.sec)) }
        else { data := data, poison := marks }
      let live := (s.kernelOn p.d p.k).any fun y => y.stop.isNone
      let u := if live then s.setCore p (x.setSlot t.slot new) else s
      (u.sampleStream p).endStream p t.tag

/-- The answer to a core's stream has arrived over Aksal: data waits for STREAM_ARRIVAL, a refusal ends the kernel (R303, R304). -/
def State.streamAnswer (s : State) (p : CorePos) (tag : Nat) (st : Status) (data : Block) (marks pkind : BitVec 8) : State :=
  let x := s.core p
  match x.streams.find? fun t => t.tag == tag && t.sent && t.arrived.isNone with
  | none => s
  | some t =>
    match s.kernelOn p.d p.k with
    | none => s.endStream p tag
    | some kn =>
      if st = .done ∨ st = .poisonMerge then
        if t.write then s.endStream p tag
        else
          let kn' := { kn with sawBad := kn.sawBad || (marks &&& pkind) != 0, sawPoison := kn.sawPoison || marks != 0 }
          (s.setCore p { x with streams := x.streams.map fun y => if y.tag = tag then { y with arrived := some (data, marks) } else y }).setKernel kn'
      else ((s.endStream p tag).recordFault p st t.ip).stopKernel kn st

/-! ## Kernels (R305 to R308, R325, R326) -/

def Cmd.kTable (c : Cmd) : Nat := c.fld 1 0 48
def Cmd.kCount (c : Cmd) : Nat := c.fld 1 48 10
def Cmd.kArgs (c : Cmd) : Nat := c.fld 2 0 48
def Cmd.kPerCore (c : Cmd) : Nat := c.fld 3 0 48
def Cmd.kFirst (c : Cmd) : Nat := c.fld 4 0 7
def Cmd.kClusters (c : Cmd) : Nat := c.fld 4 8 7

/-- The checks of DISPATCH that need no fetch (R306, R325). -/
def State.dispatchChecks (s : State) (q : QueueId) (c : Cmd) : List Status :=
  let own := ((s.casementCfg (s.casOf q)).bind fun x => x.clusters[q.inst.val]?).getD (0, 0)
  (if c.kCount = 0 ∨ 512 < c.kCount ∨ c.kClusters = 0 ∨ 100 < c.kFirst + c.kClusters then [.badCommand] else []) ++
  (if c.kTable % 256 ≠ 0 ∨ c.kArgs % 256 ≠ 0 ∨ c.kPerCore % 256 ≠ 0 then [.badAlignment] else []) ++
  (if c.kFirst < own.1 ∨ own.1 + own.2 < c.kFirst + c.kClusters then [.denied] else [])

/-- Every cluster of the set is free of a kernel (R326). -/
def State.clustersFree (s : State) (d : Nat) (c : Cmd) : Bool := (List.range c.kClusters).all fun i => (s.cluster d (c.kFirst + i)).kernel.isNone

/-- No kernel starts under PF1, while the slew limiter delays a rise (R67), a change to REST or CMP_OFF, or while the die is down (R62, R219). -/
def State.dispatchOpen (s : State) (d : Nat) : Bool :=
  !(s.pf1 || s.pf2) && !s.riseHeld && s.rd .SVC_PWR_STATUS_STATE 0 0 0 == 0 && (s.hinge.pwrTo.isNone || s.hinge.pwrTo == some 0) && s.cdieIn d

/-- The kernel takes its clusters; one whose last kernel was another casement's clears its stores first (R308). -/
def State.takeCluster (s : State) (d : Nat) (q : QueueId) (idx cas k : Nat) : State :=
  let y := s.cluster d k
  let same := y.lastCas.isNone || y.lastCas == some cas
  s.setCluster d k { y with kernel := some (q.idx.val, idx), lastCas := some cas, cleared := same, loaded := false,
                            runAt := if same then y.runAt else Nat.max y.runAt (s.clk.kclk + 1400) }

def State.runDispatch (s : State) (q : QueueId) (c : Cmd) : State :=
  let d := q.inst.val
  let cas := s.casOf q
  let kn : KernelSt := { die := d, q := q.idx.val, idx := c.idx, cas := cas, table := c.kTable, count := c.kCount, argAt := c.kArgs,
                         perCore := c.kPerCore, first := c.kFirst, clusters := c.kClusters, stop := none, sawBad := false, sawPoison := false }
  let t := kn.set.foldl (fun t k => t.takeCluster d q c.idx cas k) { s with kernels := s.kernels ++ [kn] }
  (t.tally (4 + d) 0x47 none [] (some cas) 1).traceDie d 0x02 cas c.kFirst [queueCode q, c.fld 0 32 16, 0, 0]

/-- The next command of a MATRIX queue is a DISPATCH that passes its checks and whose clusters are free (R326). -/
def State.dispatchReady (s : State) (q : QueueId) : Bool :=
  s.dispatchOpen q.inst.val && (s.queue q).nextCmd.any fun c =>
    c.opcode == 0x10 && s.mayStart q c && (s.startVerdict q c (s.dispatchChecks q c)).isNone && s.clustersFree q.inst.val c

/-- DISPATCH: a valid one waits until its clusters are free and the rotation over the queues comes to it; a head that waits does not hold other queues (R326). -/
def State.dispatch (s : State) (q : QueueId) : State :=
  match (s.queue q).nextCmd with
  | some c =>
    if (s.startVerdict q c (s.dispatchChecks q c)).isNone && !(s.dispatchReady q && s.hasTurn q s.dispatchReady) then s
    else s.startCmd q 0x10 (s.dispatchChecks q) (fun t c => t.runDispatch q c)
  | none => s

/-- CLUSTER_CLEAR (R308, R410): 1,400 KCLK after dispatch the stores of the cluster's cores, and their counters, are 0. -/
def State.clusterClear (s : State) (d k : Nat) : State :=
  let y := s.cluster d k
  if y.kernel.isSome && !y.cleared && s.clusterRuns d k then
    let t := (List.range 64).foldl (fun t c =>
      let p : CorePos := { d := d, k := k, c := c }
      t.setCore p { t.core p with slots := [], icache := [], cnt0 := 0, cnt1 := 0 }) s
    t.setCluster d k { y with cleared := true }
  else s

/-- n words from an address that has been read as sectors. -/
def wordsOf (l : List (BitVec 256 × Option Bool)) : List Nat := l.flatMap fun x => (List.range 4).map fun i => x.1.toNat / 2 ^ (64 * i) % 2 ^ 64

/-- The bodies of the loops of a table: index of the LOOP, first and last index. -/
def loopBodies (l : List (BitVec 64)) : List (Nat × Nat × Nat) :=
  (l.zip (List.range l.length)).filterMap fun x =>
    if x.1.toNat % 256 = 2 then some (x.2, x.2 + 1, x.2 + x.1.toNat / 2 ^ 32 % 256) else none

/-- The table checks of R292: bodies lie within the table and within their outer bodies, and nest at most four deep. -/
def tableBad (l : List (BitVec 64)) : Bool :=
  let b := loopBodies l
  b.any fun x => decide (l.length ≤ x.2.2) || decide (x.2.2 < x.2.1) ||
    b.any (fun y => decide (y.2.1 ≤ x.1) && decide (x.1 ≤ y.2.2) && decide (y.2.2 < x.2.2)) ||
    decide (4 < (b.filter fun y => decide (y.2.1 ≤ x.1) && decide (x.1 ≤ y.2.2)).length + 1)

/-- The arguments that a table uses as counts. -/
def countArgs (l : List (BitVec 64)) : List Nat :=
  l.filterMap fun w => if w.toNat % 256 = 2 ∧ w.toNat / 2 ^ 8 % 2 = 1 then some (w.toNat / 2 ^ 16 % 16) else none

/-- A cluster's part of a kernel cannot start: no core of the kernel starts (R307). -/
def State.fetchFault (s : State) (kn : KernelSt) (k : Nat) (st : Status) : State := (s.recordFault { d := kn.die, k := k, c := 0 } st 0).stopKernel kn st

/-- A core at the start of a kernel (R306); the stores keep their contents. -/
def CoreSt.start (x : CoreSt) (table : List (BitVec 64)) (args : List Nat) : CoreSt :=
  { x with ip := 0, loops := [], args := args, icache := table ++ x.icache.drop table.length, streams := [], ended := false, atSync := false,
           syncs := 0, stall := 0, issueAt := 0, stallFrom := 0, busy := [] }

/-- The way of a kernel's table and arguments: NORMAL reads of its casement at D0 of the home hub (R306, R309). -/
def KernelSt.via (kn : KernelSt) : Via := { hub := kn.die, door := 0, cls := .normal, cas := kn.cas, ovr := none }

/-- The arguments of the core of rank r: 8 to 15 come from its own record where PERCORE is not 0 (R325). -/
def State.coreArgs (s : State) (kn : KernelSt) (args : List Nat) (r : Nat) : State × Status × List Nat :=
  if kn.perCore = 0 then (s, .done, args)
  else
    let f := s.fetchSectors kn.via 2 (kn.perCore + 64 * r)
    (f.1, f.2.1, args.take 8 ++ wordsOf f.2.2)

/-- Start the first n cores of a cluster, or find why one cannot start. -/
def State.startCores (s : State) (kn : KernelSt) (k : Nat) (table : List (BitVec 64)) (args : List Nat) : Nat → State × Status
  | 0 => (s, .done)
  | n + 1 =>
    let a := s.startCores kn k table args n
    let b := a.1.coreArgs kn args (64 * (k - kn.first) + n)
    let p : CorePos := { d := kn.die, k := k, c := n }
    let bad : Status := if (countArgs table).any fun i => decide (65535 < b.2.2.getD i 0) then .badCommand else .done
    (b.1.setCore p ((b.1.core p).start table b.2.2), Config.worse a.2 (Config.worse (if b.2.1 = .uncorrectable ∨ b.2.1 = .poisonRead then .fetchTrap else b.2.1) bad))

/-- TABLE_FETCH (R306, R307): the table and the arguments have arrived. -/
def State.tableFetch (s : State) (d k : Nat) : State :=
  match s.kernelOn d k with
  | none => s
  | some kn =>
    let y := s.cluster d k
    if y.cleared && !y.loaded && kn.stop.isNone && s.clusterRuns d k && s.engineRuns && !(s.pf1 || s.pf2) && s.viaOpen kn.via kn.table false then
      let f := s.fetchSectors kn.via (8 * ((8 * kn.count + 255) / 256)) kn.table
      let g := f.1.fetchSectors kn.via 4 kn.argAt
      let trap (st : Status) : Status := if st = .uncorrectable ∨ st = .poisonRead then .fetchTrap else st
      if f.2.1 ≠ .done then f.1.fetchFault kn k (trap f.2.1)
      else if g.2.1 ≠ .done then g.1.fetchFault kn k (trap g.2.1)
      else
        let table := ((wordsOf f.2.2).take kn.count).map (BitVec.ofNat 64)
        if tableBad table then g.1.stopKernel kn .badCommand
        else
          let u := g.1.startCores kn k table (wordsOf g.2.2) 64
          if u.2 = .done then u.1.setCluster d k { u.1.cluster d k with loaded := true }
          else if u.2 = .badCommand then u.1.stopKernel kn .badCommand
          else u.1.fetchFault kn k u.2
    else s

/-- Whether every core of a cluster has executed END. -/
def State.clusterEnded (s : State) (d k : Nat) : Bool := (s.cluster d k).loaded && (List.range 64).all fun c => (s.core { d := d, k := k, c := c }).ended

/-- A stopped kernel's cores are at rest: their streams are complete and their MMAs are over (R303). -/
def State.clusterQuiet (s : State) (d k : Nat) : Bool :=
  (List.range 64).all fun c =>
    let x := s.core { d := d, k := k, c := c }
    x.streams.isEmpty && (x.arrA == 0 || decide (x.arrA + 23 ≤ s.clk.kclk)) && (x.arrB == 0 || decide (x.arrB + 23 ≤ s.clk.kclk))

def State.freeCluster (s : State) (d k : Nat) : State :=
  let t := (List.range 64).foldl (fun t c => let p : CorePos := { d := d, k := k, c := c }; t.setCore p { t.core p with atSync := false, streams := [] }) s
  t.setCluster d k { t.cluster d k with kernel := none, loaded := false }

/-- Tagged instructions whose records are not complete lose their tags when their kernel ends (R416). -/
def State.untag (s : State) (d : Nat) (ks : List Nat) : State :=
  let x := Tab.get SamplerSt.reset s.samplers (4 + d)
  { s with samplers := Tab.put SamplerSt.reset s.samplers (4 + d) { x with recs := x.recs.filter fun r => r.done || !(ks.contains (r.addr % 2 ^ 7)) } }

/-- The kernel is over: its clusters are released and its command ends (R305, R320, R326). -/
def State.finishKernel (s : State) (kn : KernelSt) (st : Status) : State :=
  let s := s.untag kn.die kn.set
  let q := matrixQ kn.die kn.q
  let n := (kn.set.filter (s.clusterEnded kn.die)).length
  let t := kn.set.foldl (fun t k => t.freeCluster kn.die k) { s with kernels := s.kernels.filter fun y => !sameKernel y kn }
  match t.cmd q kn.idx with
  | some c =>
    let u := (t.setCmd q { c with progress := n }).traceDie kn.die 0x02 kn.cas kn.first [queueCode q, c.fld 0 32 16, Config.statusCode st, 1]
    u.endCmd q kn.idx st
  | none => t

/-- The status of a kernel whose cores are done (R304). -/
def KernelSt.status (kn : KernelSt) : Status :=
  let data : Status := if kn.sawBad then .uncorrectable else if kn.sawPoison then .poisonRead else .done
  match kn.stop with
  | some st => Config.worse st data
  | none => data

/-- KERNEL_COMPLETE: every core of the set has executed END, or the kernel was stopped and its cores are at rest. -/
def State.kernelComplete (s : State) (d q : Nat) : State :=
  match s.kernels.find? fun kn => kn.die == d && kn.q == q && (if kn.stop.isSome then kn.set.all (s.clusterQuiet d) else kn.set.all (s.clusterEnded d)) with
  | some kn => s.finishKernel kn kn.status
  | none => s

/-! ## Gating (R217, R218, R422) -/

/-- Records of a cluster's FIFO move to the die FIFO; in place of those that do not fit one OVERRUN record gives their number (R217, R419). -/
def State.drainCluster (s : State) (d k : Nat) : State :=
  let y := s.cluster d k
  let x := s.tracer d
  let room := 1024 - x.dieFifo.length
  let t := s.setCluster d k { y with fifo := [] }
  if y.fifo.length ≤ room then t.setTracer d { x with dieFifo := x.dieFifo ++ y.fifo }
  else
    let lost := y.fifo.length - (room - 1)
    let note := overrun s.time64 (4 + d) k lost 0
    let l := if room = 0 then [] else y.fifo.take (room - 1) ++ [note]
    (t.setTracer d { x with dieFifo := x.dieFifo ++ l, dieLost := if room = 0 then x.dieLost + lost else x.dieLost }).count .TRC_STATUS_LOST 16777215 d 0 0 lost

/-- A fetched DISPATCH that has not started names the cluster. -/
def State.kernelQueued (s : State) (d k : Nat) : Bool :=
  (List.range 32).any fun q => (s.queue (matrixQ d q)).cmds.any fun c =>
    !c.started && c.ended.isNone && c.opcode == 0x10 && decide (c.kFirst ≤ k) && decide (k < c.kFirst + c.kClusters)

/-- A cluster with no kernel running or queued gates (R217). -/
def State.clusterGate (s : State) (d k : Nat) : State :=
  let y := s.cluster d k
  if s.cdieIn d && y.kernel.isNone && !s.kernelQueued d k && !y.gated && s.rd .CMP_GATE_CFG_ENABLE d 0 0 == 1 && !s.fallHeld && s.clk.run then
    let r : TraceRec := { time := s.time64, typ := 0x07, die := 4 + d, cas := 0, unit := k, payload := [0] }
    let t := (s.pushCluster d k r).drainCluster d k
    t.setCluster d k { t.cluster d k with gated := true }
  else s

/-- A gated cluster that has been given a kernel wakes, once the slew limiter lets it, and runs 64 KCLK later (R67, R218). -/
def State.clusterUngate (s : State) (d k : Nat) : State :=
  let y := s.cluster d k
  if s.cdieIn d && y.gated && y.kernel.isSome && !s.riseHeld && s.clk.run then
    let t := s.setCluster d k { y with gated := false, runAt := Nat.max y.runAt (s.clk.kclk + 64) }
    t.pushCluster d k { time := s.time64, typ := 0x07, die := 4 + d, cas := 0, unit := k, payload := [1] }
  else s

end Sys2Proof.Machine
end

