-- ==== Sys2Proof/Machine/Pages.lean ====
section
/-! DEFINITION. Page pools, page tables and their cache, the PAGE engine, and the slower tier (chapter 18, R394). -/

namespace Sys2Proof.Machine

/-! ## Pools (R337, R338) -/

def poolKey (cas k : Nat) : Nat := 16 * cas + k
def State.pool (s : State) (cas k : Nat) : PoolSt := Tab.get PoolSt.reset s.pools (poolKey cas k)
def State.setPool (s : State) (cas k : Nat) (x : PoolSt) : State := { s with pools := Tab.put PoolSt.reset s.pools (poolKey cas k) x }

/-- The image's byte for pool k of a casement: its pane and its serving hub. -/
def State.poolDecl (s : State) (cas k : Nat) : Option (Nat × Nat) :=
  ((s.casementCfg cas).bind fun c => c.pools[k]?).map fun b => (b % 64, b / 64 % 4)

def roundUp (n m : Nat) : Nat := (n + m - 1) / m * m

/-- Where page i of a pool begins: header, page free stack, spill free stack, pages (R338; log entry 36). -/
def PoolSt.pagesAt (x : PoolSt) : Nat := x.base + 256 + roundUp (4 * x.pages + 4 * x.spillSlots) 256
def PoolSt.pageAddr (x : PoolSt) (i : Nat) : Nat := x.pagesAt + i * (256 * x.blocks)
def PoolSt.end_ (x : PoolSt) : Nat := x.pageAddr x.pages
def PoolSt.slotAddr (x : PoolSt) (i : Nat) : Nat := x.spillBase + i * (256 * x.blocks)

def PoolSt.freePages (x : PoolSt) : Nat := x.freed.length + (x.pages - x.fresh)

/-- Take the page on top of the free stack. -/
def PoolSt.takePage (x : PoolSt) : Option (Nat × PoolSt) :=
  match x.freed with
  | i :: t => some (i, { x with freed := t })
  | [] => if x.fresh < x.pages then some (x.fresh, { x with fresh := x.fresh + 1 }) else none

def PoolSt.givePage (x : PoolSt) (i : Nat) : PoolSt := { x with freed := i :: x.freed }

def PoolSt.takeSlot (x : PoolSt) : Option (Nat × PoolSt) :=
  match x.slotFreed with
  | i :: t => some (i, { x with slotFreed := t })
  | [] => if x.slotFresh < x.spillSlots then some (x.slotFresh, { x with slotFresh := x.slotFresh + 1 }) else none

def PoolSt.giveSlot (x : PoolSt) (i : Nat) : PoolSt := { x with slotFreed := i :: x.slotFreed }

/-! ## Page table entries and the cache (R339, R340) -/

structure Pte where
  index : Nat
  state : Nat
  pool : Nat
  slot : Nat
  deriving DecidableEq, Repr

def pteOf (w : Nat) : Pte := { index := w % 2 ^ 32, state := w / 2 ^ 32 % 8, pool := w / 2 ^ 35 % 16, slot := w / 2 ^ 40 % 2 ^ 24 }
def Pte.word (e : Pte) : Nat := e.index % 2 ^ 32 + e.state % 8 * 2 ^ 32 + e.pool % 16 * 2 ^ 35 + e.slot % 2 ^ 24 * 2 ^ 40

def pteUnused : Nat := 0
def pteResident : Nat := 1
def pteSpilled : Nat := 2
def pteSpilling : Nat := 3
def pteFetching : Nat := 4

/-- The set of a line: 131,072 lines, 8 ways (R340; log entry 37 says how an address chooses it). -/
def ptcSet (h addr : Nat) : Nat := h * 16384 + addr / 32 % 16384

/-- Read entry n of a table through hub h's cache, as a request of a class and casement: its status, the entry, and whether the read was poisoned. -/
def State.pteRead (s : State) (h : Nat) (cls : ReqClass) (cas pt n : Nat) : State × Status × Nat × Bool :=
  let a := pt + 8 * n
  let line := a - a % 32
  let l := Tab.get [] s.ptc (ptcSet h line)
  let pick (d : BitVec 256) : Nat := d.toNat / 2 ^ (8 * (a % 32)) % 2 ^ 64
  match l.find? fun x => x.addr = line with
  | some x =>
    let t := { s with ptc := Tab.put [] s.ptc (ptcSet h line) (x :: l.filter fun y => y.addr != line) }
    ((t.count .PAGE_PTC_CNT_HITS top16 h 0 0 1).tally h 0x13 none [0] none 1, .done, pick x.data, false)
  | none =>
    let t := (s.count .PAGE_PTC_CNT_MISSES top16 h 0 0 1).tally h 0x13 none [1] none 1
    let f := t.fetchSector (pageVia h cls cas) line true
    if refusal f.2.1 then (f.1, f.2.1, 0, false)
    else if f.2.1 = .done then
      ({ f.1 with ptc := Tab.put [] f.1.ptc (ptcSet h line) (({ addr := line, data := f.2.2, bad := false } :: l).take 8) }, .done, pick f.2.2, false)
    else (f.1, f.2.1, 0, true)

/-- Every hub's cache drops a line. -/
def State.ptcDrop (s : State) (line : Nat) : State :=
  { s with ptc := allHubs.foldl (fun p h => Tab.put [] p (ptcSet h line) ((Tab.get [] p (ptcSet h line)).filter fun x => x.addr != line)) s.ptc }

/-- Write entry n of a table: through the cache, which drops the line on every hub. -/
def State.pteWrite (s : State) (h : Nat) (cls : ReqClass) (cas pt n : Nat) (e : Pte) : State × Status :=
  let a := pt + 8 * n
  let line := a - a % 32
  let r := s.storeBytes (pageVia h cls cas) line (BitVec.ofNat 256 (e.word * 2 ^ (8 * (a % 32)))) (BitVec.ofNat 32 (0xFF * 2 ^ (a % 32))) false true
  (r.1.ptcDrop line, r.2)

/-! ## Checks that PAGE commands share (R337, R338, R341, R356) -/

def Cmd.pgPool (c : Cmd) : Nat := c.fld 1 0 4
def Cmd.pgTable (c : Cmd) : Nat := c.fld 2 0 48
def Cmd.pgFirst (c : Cmd) : Nat := c.fld 3 0 32
def Cmd.pgCount (c : Cmd) : Nat := c.fld 3 32 32
def Cmd.reqClass (c : Cmd) : ReqClass := (Config.classOf c.cls).getD .normal

/-- Why a pool cannot be used by a command of hub h: its status, the first by R13 of those that apply, and DETAIL. -/
def State.poolRefusal (s : State) (h cas k : Nat) : Option (Status × Nat) :=
  if !(s.pool cas k).init then some (.badCommand, 0)
  else match s.poolDecl cas k with
    | none => some (.denied, 0)
    | some d =>
      if d.2 ≠ h then some (.denied, 3)
      else if (s.pool cas k).broken then some (.halted, 0)
      else none

/-- A request is held behind those that arrived before it, and behind those of its CCLK from a lower door (R342). -/
def holdBy (r : Held) : List Held → List Held
  | [] => [r]
  | x :: t => if x.at_ = r.at_ ∧ r.door < x.door then r :: x :: t else x :: holdBy r t

/-- The pane that holds an address belongs to the casement (R341). -/
def State.ownsAddr (s : State) (cas a : Nat) : Bool := (s.panesAt a).any fun p => p.cas == cas

/-- The checks of a command over a page table; ALLOC names its pool as well (R337, R338, R341). -/
def State.tableChecks (s : State) (q : QueueId) (c : Cmd) : List Status :=
  (if c.pgTable % 256 ≠ 0 then [.badAlignment] else []) ++ (if s.ownsAddr (s.casOf q) c.pgTable then [] else [.denied]) ++
  (if c.opcode = 0x31 then ((s.poolRefusal q.inst.val (s.casOf q) c.pgPool).map (·.1)).toList else [])

/-- DETAIL of an ALLOC that a check ends. -/
def State.allocDetail (s : State) (q : QueueId) (c : Cmd) (st : Status) : Nat :=
  match s.poolRefusal q.inst.val (s.casOf q) c.pgPool with
  | some r => if r.1 = st then r.2 else 0
  | none => 0

/-! ## POOL_INIT (R338) -/

def poolFrom (c : Cmd) : PoolSt :=
  { PoolSt.reset with
    init := true, base := c.fld 2 0 48, blocks := c.fld 3 0 9, pages := c.fld 3 32 32, reserve := c.fld 4 0 32, spillKind := c.fld 4 32 2,
    spillNode := c.fld 4 40 17, spillBase := c.fld 5 0 48, spillSlots := c.fld 6 0 24 }

/-- The pool has a page that is not free. -/
def State.poolInUse (s : State) (q : QueueId) (c : Cmd) : Bool :=
  let old := s.pool (s.casOf q) c.pgPool
  old.init && !old.broken && decide (old.freePages < old.pages)

/-- Another hub serves the pool. -/
def State.poolElsewhere (s : State) (q : QueueId) (c : Cmd) : Bool := (s.poolDecl (s.casOf q) c.pgPool).any fun d => d.2 != q.inst.val

/-- The whole region lies in the pool's pane. -/
def State.poolFits (s : State) (q : QueueId) (c : Cmd) : Bool :=
  let x := poolFrom c
  ((s.poolDecl (s.casOf q) c.pgPool).bind fun d => s.paneDef d.1).any fun p => decide (p.base ≤ x.base) && decide (x.end_ ≤ p.base + p.size)

def State.poolChecks (s : State) (q : QueueId) (c : Cmd) : List Status :=
  let x := poolFrom c
  (if x.blocks = 0 ∨ 256 < x.blocks ∨ x.spillKind = 3 ∨ s.poolInUse q c then [.badCommand] else []) ++
  (if x.base % 256 ≠ 0 then [.badAlignment] else []) ++
  (if s.poolElsewhere q c || !s.poolFits q c then [.denied] else [])

/-- DETAIL of a POOL_INIT that a check ends. -/
def State.poolDetail (s : State) (q : QueueId) (c : Cmd) (st : Status) : Nat :=
  if st = .badCommand ∧ s.poolInUse q c then 4 else if st = .denied ∧ s.poolElsewhere q c then 3 else 0

def State.poolInit (s : State) (q : QueueId) (c : Cmd) : State := (s.setPool (s.casOf q) c.pgPool (poolFrom c)).endCmd q c.idx .done

/-! ## Fabric packets of page copies (R343, R344, R364) -/

def State.ownNode (s : State) : Nat := ((s.routeCfg).map (·.nodeId)).getD 0

def blankPacket : Packet :=
  { dest := 0, src := 0, mclass := 0, vc := false, flow := false, cas := 0, cls := 0, flits := 0, tag := 0, addr := 0, set := 0, status := 0, step := 0, data := 0 }

/-- A packet sets out from hub h (R361: FLOW is the hub's number modulo 2). -/
def State.sendPacket (s : State) (h : Nat) (p : Packet) : State :=
  { s with fabTx := s.fabTx ++ [(h, { p with src := s.ownNode, flow := h % 2 == 1, vc := false })] }

/-- The lowest tag that no copy uses, marked as a copy's (bit 12). -/
def State.copyTag (s : State) : Nat := 4096 + ((List.range 4096).find? fun n => !(s.copies.any fun c => c.tag == 4096 + n)).getD 0

/-- A fetch's reads set out: to the host or to the pool node. -/
def State.sendFetch (s : State) (x : PoolSt) (c : CopySt) : State :=
  (List.range x.blocks).foldl (fun t k =>
    let a := x.slotAddr c.slot + 256 * k
    if x.spillKind = 1 then t.emit (.pageRead c.hub a)
    else t.sendPacket c.hub { blankPacket with dest := x.spillNode, mclass := 0, cas := c.cas, cls := c.cls, tag := c.tag, addr := a }) s

/-- Entry n becomes FETCHING with a page that has been taken, and its copy begins (R344). -/
def State.beginFetch (s : State) (h : Nat) (cls : ReqClass) (cas pt n : Nat) (e : Pte) (page : Nat) (cmd : Option (QueueId × Nat)) : State × Status :=
  let x := s.pool cas e.pool
  let w := s.pteWrite h cls cas pt n { index := page, state := pteFetching, pool := e.pool, slot := e.slot }
  if refusal w.2 then (w.1.setPool cas e.pool (x.givePage page), w.2)
  else
    let c : CopySt := { hub := h, cas := cas, pool := e.pool, pt := pt, lpage := n, page := page, slot := e.slot, fetch := true, cmd := cmd,
                        cls := Config.classCode cls, tag := w.1.copyTag, left := x.blocks, got := [] }
    (({ w.1 with copies := w.1.copies ++ [c] } : State).sendFetch x c, w.2)

/-! ## Commands over a range of entries (R341 to R344) -/

/-- A command notes a status that does not end it (R254, R255). -/
def State.noteCmd (s : State) (q : QueueId) (idx : Nat) (st : Status) : State :=
  match s.cmd q idx with
  | some c => if st = .done then s else s.setCmd q (c.failed st)
  | none => s

/-- A command of a range moves to its next entry; `handled` where a page was handled. -/
def State.stepCmd (s : State) (q : QueueId) (idx : Nat) (handled : Bool) : State :=
  match s.cmd q idx with
  | some c => s.setCmd q { c with next := c.next + 1, progress := if handled then c.progress + 1 else c.progress }
  | none => s

/-- What an entry of a range made of a command: it goes on, waits, or has ended. -/
inductive Going where
  | on (s : State)
  | wait (s : State)
  | ended (s : State)
  deriving DecidableEq, Repr

/-- ALLOC of one entry. -/
def State.allocOne (s : State) (q : QueueId) (c : Cmd) : Going :=
  let cas := s.casOf q
  let k := c.pgPool
  let x := s.pool cas k
  let n := c.pgFirst + c.next
  if x.reserve < x.freePages then
    match x.takePage with
    | some (i, y) =>
      let w := (s.setPool cas k y).pteWrite q.inst.val c.reqClass cas c.pgTable n { index := i, state := pteResident, pool := k, slot := 0 }
      if refusal w.2 then .ended ((w.1.setPool cas k x).endCmd q c.idx w.2)
      else
        let t := if c.progress = 0 then w.1.setCmd q { c with detail := i } else w.1
        .on ((t.noteCmd q c.idx w.2).stepCmd q c.idx true)
    | none => .wait s
  else if c.fld 1 4 1 = 1 then .ended (s.endCmdWith q c.idx .denied 2)
  else
    let held : Held := { cmd := some (q, c.idx), cls := c.cls, pt := c.pgTable, lpage := n, door := 7, at_ := s.cyc }
    .wait (if x.held.any fun y => y.cmd == some (q, c.idx) then s else s.setPool cas k { x with held := holdBy held x.held })

/-- FREE of one entry: it waits for a copy in progress to end. -/
def State.freeOne (s : State) (q : QueueId) (c : Cmd) (e : Pte) : Going :=
  let cas := s.casOf q
  if e.state = pteUnused then .on (s.stepCmd q c.idx false)
  else match s.poolRefusal q.inst.val cas e.pool with
    | some r => .ended (s.endCmdWith q c.idx r.1 r.2)
    | none =>
      if e.state = pteSpilling ∨ e.state = pteFetching then .wait s
      else
        let x := s.pool cas e.pool
        let y := if e.state = pteResident then x.givePage e.index else if e.state = pteSpilled then x.giveSlot e.slot else x
        let w := s.pteWrite q.inst.val c.reqClass cas c.pgTable (c.pgFirst + c.next) { index := 0, state := 0, pool := 0, slot := 0 }
        if refusal w.2 then .ended (w.1.endCmd q c.idx w.2)
        else .on (((w.1.setPool cas e.pool y).noteCmd q c.idx w.2).stepCmd q c.idx true)

/-- The blocks of a page, read at once, with the worst data status (R254, R343). -/
def State.readPage (s : State) (v : Via) (a : Nat) : Nat → State × Status × List Block
  | 0 => (s, .done, [])
  | n + 1 =>
    let r := s.readPage v a n
    let b := r.1.fetchBlock v (a + 256 * n)
    (b.1, Config.worse r.2.1 b.2.1, r.2.2 ++ [b.2.2.1])

/-- SPILL of one entry (R343). -/
def State.spillOne (s : State) (q : QueueId) (c : Cmd) (n : Nat) (e : Pte) : Going :=
  let cas := s.casOf q
  let h := q.inst.val
  if e.state ≠ pteResident then .on (s.stepCmd q c.idx false)
  else match s.poolRefusal h cas e.pool with
    | some r => .ended (s.endCmdWith q c.idx r.1 r.2)
    | none =>
      let x := s.pool cas e.pool
      if x.spillKind = 0 then .ended (s.endCmd q c.idx .badCommand)
      else if x.spillKind = 1 ∧ s.busMaster cas = false then .ended (s.endCmd q c.idx .denied)
      else match x.takeSlot with
        | none => .ended (s.endCmdWith q c.idx .denied 5)
        | some (slot, y) =>
          let w := s.pteWrite q.inst.val c.reqClass cas c.pgTable n { e with state := pteSpilling, slot := slot }
          if refusal w.2 then .ended (w.1.endCmd q c.idx w.2)
          else
            let p := (w.1.setPool cas e.pool y).readPage (pageVia h c.reqClass cas) (x.pageAddr e.index) x.blocks
            if refusal p.2.1 then
              let u := (p.1.pteWrite q.inst.val c.reqClass cas c.pgTable n e).1
              .ended ((u.setPool cas e.pool (y.giveSlot slot)).endCmd q c.idx p.2.1)
            else
              let t := (p.1.noteCmd q c.idx w.2).noteCmd q c.idx p.2.1
              let blocks := p.2.2.zip (List.range x.blocks)
              if x.spillKind = 1 then
                let u := blocks.foldl (fun t b => t.emit (.pageWrite h (x.slotAddr slot + 256 * b.2) b.1)) t
                let v := u.pteWrite q.inst.val c.reqClass cas c.pgTable n { index := 0, state := pteSpilled, pool := e.pool, slot := slot }
                .on ((v.1.setPool cas e.pool ((v.1.pool cas e.pool).givePage e.index)).stepCmd q c.idx true)
              else
                let cp : CopySt := { hub := h, cas := cas, pool := e.pool, pt := c.pgTable, lpage := n, page := e.index, slot := slot, fetch := false,
                                     cmd := some (q, c.idx), cls := c.cls, tag := t.copyTag, left := x.blocks, got := [] }
                let u := blocks.foldl (fun t b => t.sendPacket h { blankPacket with
                  dest := x.spillNode, mclass := 1, cas := cas, cls := c.cls, flits := 4, tag := cp.tag, addr := x.slotAddr slot + 256 * b.2, data := b.1 }) t
                .on (({ u with copies := u.copies ++ [cp] } : State).stepCmd q c.idx false)

/-- PREFETCH of one entry (R344): it takes an unreserved page, or is held for one. -/
def State.prefetchOne (s : State) (q : QueueId) (c : Cmd) (n : Nat) (e : Pte) : Going :=
  let cas := s.casOf q
  if e.state ≠ pteSpilled then .on (s.stepCmd q c.idx false)
  else match s.poolRefusal q.inst.val cas e.pool with
    | some r => .ended (s.endCmdWith q c.idx r.1 r.2)
    | none =>
      let x := s.pool cas e.pool
      if x.spillKind = 1 ∧ s.busMaster cas = false then .ended (s.endCmd q c.idx .denied)
      else if x.reserve < x.freePages then
        match x.takePage with
        | some (i, y) =>
          let f := (s.setPool cas e.pool y).beginFetch q.inst.val c.reqClass cas c.pgTable n e i (some (q, c.idx))
          if refusal f.2 then .ended (f.1.endCmd q c.idx f.2) else .on ((f.1.noteCmd q c.idx f.2).stepCmd q c.idx false)
        | none => .wait s
      else
        let held : Held := { cmd := some (q, c.idx), cls := c.cls, pt := c.pgTable, lpage := n, door := 7, at_ := s.cyc }
        .wait (if x.held.any fun y => y.cmd == some (q, c.idx) then s else s.setPool cas e.pool { x with held := holdBy held x.held })

/-- Entry of a command's next place: SPILL with OLDEST looks from entry 0 on, up to the end of the table's pane. -/
def Cmd.oldest (c : Cmd) : Bool := c.opcode == 0x33 && c.fld 1 5 1 == 1
def Cmd.pgPlace (c : Cmd) : Nat := if c.oldest then c.next else c.pgFirst + c.next

/-- Entries the command looks at. -/
def State.pgSpan (s : State) (c : Cmd) : Nat :=
  if c.oldest then
    match s.panesAt c.pgTable with
    | [p] => (p.base + p.size - c.pgTable) / 8
    | _ => 0
  else c.pgCount

/-- The command has no further entry to look at. -/
def State.pgDone (s : State) (q : QueueId) (c : Cmd) : Bool := decide (s.pgSpan c ≤ c.next) || (c.oldest && decide (c.pgCount ≤ c.progress + (s.copies.filter fun x => x.cmd == some (q, c.idx)).length))

/-- One entry of a PAGE command's range, once its door lets the engine's next read through. -/
def State.pgStep (s : State) (q : QueueId) (c : Cmd) : Going :=
  if s.viaOpen (pageVia q.inst.val c.reqClass (s.casOf q)) (c.pgTable + 8 * c.pgPlace) false = false then .wait s
  else if c.opcode = 0x31 then s.allocOne q c
  else
    let r := s.pteRead q.inst.val c.reqClass (s.casOf q) c.pgTable c.pgPlace
    if refusal r.2.1 then .ended (r.1.endCmd q c.idx r.2.1)
    else if r.2.2.2 then .on ((r.1.noteCmd q c.idx r.2.1).stepCmd q c.idx false)
    else
      let e := pteOf r.2.2.1
      match c.opcode with
      | 0x32 => r.1.freeOne q c e
      | 0x33 => r.1.spillOne q c c.pgPlace e
      | _ => r.1.prefetchOne q c c.pgPlace e

/-- Every entry of a PREFETCH's range is RESIDENT. -/
def State.allResident (s : State) (q : QueueId) (c : Cmd) : Nat → Bool
  | 0 => true
  | n + 1 => (pteOf (s.pteRead q.inst.val c.reqClass (s.casOf q) c.pgTable (c.pgFirst + n)).2.2.1).state == pteResident && s.allResident q c n

/-- A range command that has looked at every entry: SPILL waits for its copies, PREFETCH until every entry is RESIDENT. -/
def State.pgFinish (s : State) (q : QueueId) (c : Cmd) : State :=
  if s.copies.any fun x => x.cmd == some (q, c.idx) then s
  else if c.opcode = 0x34 ∧ c.fault.isNone ∧ s.allResident q c c.pgCount = false then s
  else s.endCmd q c.idx (c.fault.getD .done)

/-- Go on with a PAGE command of a range. -/
def State.pgRun (s : State) (q : QueueId) (idx : Nat) : Nat → State
  | 0 => s
  | n + 1 =>
    match s.cmd q idx with
    | none => s
    | some c =>
      if c.ended.isSome then s
      else if s.pgDone q c then s.pgFinish q c
      else match s.pgStep q c with
        | .on t => t.pgRun q idx n
        | .wait t => t
        | .ended t => t

/-- A range command goes on from where it stands. -/
def State.pgGo (s : State) (q : QueueId) (idx : Nat) : State :=
  match s.cmd q idx with
  | some c => s.pgRun q idx (s.pgSpan c + 2 - c.next)
  | none => s

/-! ## ALLOC, FREE, SPILL, PREFETCH, PT_INVAL -/

/-- Every entry of the range is UNUSED (R341). -/
def State.allUnused (s : State) (q : QueueId) (c : Cmd) : Nat → State × Status × Bool
  | 0 => (s, .done, true)
  | n + 1 =>
    let a := s.allUnused q c n
    let b := a.1.pteRead q.inst.val c.reqClass (s.casOf q) c.pgTable (c.pgFirst + n)
    (b.1, Config.worse a.2.1 b.2.1, a.2.2 && (pteOf b.2.2.1).state == pteUnused)

def State.runAlloc (s : State) (q : QueueId) (c : Cmd) : State :=
  let u := s.allUnused q c c.pgCount
  if u.2.1 ≠ .done then u.1.endCmd q c.idx u.2.1
  else if u.2.2 = false then u.1.endCmd q c.idx .badCommand
  else u.1.pgGo q c.idx

def State.runPtInval (s : State) (q : QueueId) (c : Cmd) : State :=
  let first := (c.pgTable + 8 * c.pgFirst) / 32
  let last := (c.pgTable + 8 * (c.pgFirst + c.pgCount - 1)) / 32
  let lines : List PtLine → List PtLine := fun l => l.filter fun x => decide (x.addr / 32 < first) || decide (last < x.addr / 32)
  let t := if c.pgCount = 0 then s else { s with ptc := (s.ptc.map fun x => (x.1, lines x.2)).filter fun x => !x.2.isEmpty }
  t.endCmd q c.idx .done

/-! ## Reading a page (R353, R354, R394) -/

/-- An answer to a compute die goes on the wires (R393); with the link down it is discarded (R145, R399). -/
def State.answerDie (s : State) (d : Nat) (m : AkRsp) : State :=
  if (s.aksal d).state = 6 then (s.setAksal d { s.aksal d with rx := (s.aksal d).rx ++ [m] }).emit (.aksal d m) else s

def pgRsp (m : AkReq) (st : Status) (poison : Nat) : AkRsp :=
  { mtype := 8, status := st, srcTag := m.srcTag, tag := m.tag, poison := poison, pkind := poison, data := 0 }

/-- Every hub-side request of a die: sent through D0, as a request of the message's class, casement and source. -/
def State.dieReq (d : Nat) (m : AkReq) (addr : Nat) (write sector : Bool) : Req :=
  { plainReq (.aksal d m.srcTag m.tag) ((Config.classOf m.cls).getD .normal) m.cas m.srcTag addr write with
    sector := sector, mask := m.mask, data := m.data, uc := m.uc }

/-- The page is there: its block is read as a request of the core's class and casement. -/
def State.readPageBlock (s : State) (d : Nat) (m : AkReq) (e : Pte) : State :=
  let x := s.pool m.cas e.pool
  match s.offer d 0 (State.dieReq d m (x.pageAddr e.index + 256 * m.block) false false) none false with
  | (t, none) => t
  | (t, some st) => t.answerDie d (pgRsp m st 0)

/-- A demand fetch of entry n begins, or is held until a page is free (R342, R353). -/
def State.demand (s : State) (h door : Nat) (cas pt n : Nat) (e : Pte) : State :=
  let x := s.pool cas e.pool
  let held : Held := { cmd := none, cls := 0, pt := pt, lpage := n, door := door, at_ := s.cyc }
  if x.held.any fun y => y.cmd.isNone && y.pt == pt && y.lpage == n then s
  else
    let t := s.count .PAGE_FETCH_CNT_DEMAND top16 h 0 0 1
    match x.takePage with
    | some (i, y) => ((t.setPool cas e.pool y).beginFetch h .urgent cas pt n e i none).1
    | none => t.setPool cas e.pool { x with held := holdBy held x.held }

/-- A page-indirect read is resolved at its home hub (R353, R394). -/
def State.resolve (s : State) (d : Nat) (m : AkReq) : State :=
  let cls := (Config.classOf m.cls).getD .normal
  if (s.poolDecl m.cas m.pool).isNone then s.answerDie d (pgRsp m .denied 0)
  else
    let x := s.pool m.cas m.pool
    if x.blocks ≤ m.block then s.answerDie d (pgRsp m .badCommand 0)
    else
      let r := s.pteRead d cls m.cas m.addr m.lpage
      if refusal r.2.1 then r.1.answerDie d (pgRsp m r.2.1 0)
      else if r.2.2.2 then r.1.answerDie d (pgRsp m .done 255)
      else
        let e := pteOf r.2.2.1
        let wait (t : State) : State := { t with pgWaits := t.pgWaits ++ [{ die := d, msg := m, at_ := t.now, len := Config.usTicks (s.rd .PAGE_PREFETCH_WIN_US d 0 0) }] }
        match s.poolDecl m.cas e.pool with
        | none => r.1.answerDie d (pgRsp m .denied 0)
        | some decl =>
        if e.state = pteResident ∨ e.state = pteSpilling then r.1.readPageBlock d m e
        else if e.state = pteSpilled then
          let y := r.1.pool m.cas e.pool
          if y.spillKind = 1 ∧ r.1.busMaster m.cas = false then r.1.answerDie d (pgRsp m .halted 0)
          else (wait r.1).demand decl.2 (ringDoor d decl.2) m.cas m.addr m.lpage e
        else if e.state = pteFetching then wait r.1
        else r.1.answerDie d (pgRsp m .denied 0)

/-! ## Pages freed and copies done (R342, R344, R345) -/

/-- A freed page goes to the first held request that may take it (R342). -/
def State.serveOne (s : State) (cas k : Nat) : State :=
  let x := s.pool cas k
  match x.held.find? fun y => y.cmd.isNone || decide (x.reserve < x.freePages) with
  | none => s
  | some y =>
    if x.freePages = 0 then s
    else
      let t := s.setPool cas k { x with held := x.held.filter fun z => z != y }
      match y.cmd with
      | some (q, idx) => t.pgGo q idx
      | none =>
        match (t.pool cas k).takePage, s.poolDecl cas k with
        | some (i, z), some d =>
          let r := t.pteRead d.2 .urgent cas y.pt y.lpage
          let e := pteOf r.2.2.1
          if e.state = pteSpilled then ((r.1.setPool cas k z).beginFetch d.2 .urgent cas y.pt y.lpage e i none).1 else r.1
        | _, _ => t

def State.serveN (s : State) (cas k : Nat) : Nat → State
  | 0 => s
  | n + 1 => (s.serveOne cas k).serveN cas k n

def State.serveHeld (s : State) (cas k : Nat) : State := s.serveN cas k (s.pool cas k).held.length

/-- PAGE commands that wait for a copy go on. -/
def State.pgWake (s : State) : State :=
  s.allQueues.foldl (fun t q =>
    if q.engine = .page then
      (t.queue q).cmds.foldl (fun t c => if c.started && c.ended.isNone && decide (0x31 ≤ c.opcode) && decide (c.opcode ≤ 0x34) &&
        !((List.range 16).any fun k => (t.pool (t.casOf q) k).held.any fun y => y.cmd == some (q, c.idx)) then t.pgGo q c.idx else t) t
    else t) s

/-- Reads that wait for entry n of a table. -/
def waitsFor (pt n : Nat) (w : PgWait) : Bool := w.msg.addr == pt && w.msg.lpage == n

/-- A page has been fetched: the reads that waited for it go on. -/
def State.wakeReads (s : State) (pt n : Nat) : State :=
  let l := s.pgWaits.filter (waitsFor pt n)
  l.foldl (fun t w => t.resolve w.die w.msg) { s with pgWaits := s.pgWaits.filter fun w => !waitsFor pt n w }

/-- Reads that wait for an entry end with a status. -/
def State.endReads (s : State) (pt n : Nat) (st : Status) : State :=
  let l := s.pgWaits.filter (waitsFor pt n)
  l.foldl (fun t w => t.answerDie w.die (pgRsp w.msg st 0)) { s with pgWaits := s.pgWaits.filter fun w => !waitsFor pt n w }

def State.copyAt (s : State) (h pt n : Nat) : Option CopySt := s.copies.find? fun c => c.hub == h && c.pt == pt && c.lpage == n

def sameCopy (a b : CopySt) : Bool := a.tag == b.tag
def State.dropCopy (s : State) (c : CopySt) : State := { s with copies := s.copies.filter fun y => !sameCopy y c }

/-- A copy from the slower tier fails (R345): the entry is SPILLED again, its page is free, and whoever waits ends with HALTED. -/
def State.copyFails (s : State) (c : CopySt) : State :=
  let cls := (Config.classOf c.cls).getD .normal
  let w := s.pteWrite c.hub cls c.cas c.pt c.lpage { index := 0, state := pteSpilled, pool := c.pool, slot := c.slot }
  let t := (w.1.setPool c.cas c.pool ((w.1.pool c.cas c.pool).givePage c.page)).dropCopy c
  let t := match c.cmd with
    | some (q, idx) => t.endCmd q idx .halted
    | none => t
  ((t.endReads c.pt c.lpage .halted).serveHeld c.cas c.pool).pgWake

/-- A page of a command still in progress has been handled (R341). -/
def State.pageHandled (s : State) (c : CopySt) : State :=
  match c.cmd with
  | some (q, idx) =>
    match s.cmd q idx with
    | some y => if y.ended.isNone then s.setCmd q { y with progress := y.progress + 1 } else s
    | none => s
  | none => s

/-- A copy to the pool node has been acknowledged: SPILLED, and the page is free; refused, the entry is RESIDENT again and its slot free (R343). -/
def State.spillDone (s : State) (c : CopySt) (st : Status) : State :=
  let cls := (Config.classOf c.cls).getD .normal
  let x := s.pool c.cas c.pool
  if st = .done ∨ st = .poisonMerge then
    let w := s.pteWrite c.hub cls c.cas c.pt c.lpage { index := 0, state := pteSpilled, pool := c.pool, slot := c.slot }
    ((((w.1.setPool c.cas c.pool (x.givePage c.page)).dropCopy c).pageHandled c).serveHeld c.cas c.pool).pgWake
  else
    let w := s.pteWrite c.hub cls c.cas c.pt c.lpage { index := c.page, state := pteResident, pool := c.pool, slot := 0 }
    let t := (w.1.setPool c.cas c.pool (x.giveSlot c.slot)).dropCopy c
    (match c.cmd with | some (q, idx) => t.endCmd q idx st | none => t).pgWake

/-- Write a page's blocks at once. -/
def State.writePage (s : State) (v : Via) (a : Nat) (f : Nat → Block) : Nat → State × Status
  | 0 => (s, .done)
  | n + 1 =>
    let r := s.writePage v a f n
    let w := r.1.storeBlock v (a + 256 * n) (f n) 0
    (w.1, Config.worse r.2 w.2)

/-- FETCH_DONE (R344): the page's blocks have all arrived, and no hinge holds the engine (R215); those that came as fabric responses or host completions stand before those given here. -/
def State.fetchDone (s : State) (h pt n : Nat) (blocks : List Block) : State :=
  match s.copyAt h pt n with
  | none => s
  | some c =>
    let x := s.pool c.cas c.pool
    let have_ (k : Nat) : Option Block := match c.got.find k with | some b => some b | none => blocks[k]?
    if c.fetch && s.hinge.step == 0 && (List.range x.blocks).all fun k => (have_ k).isSome then
      let cls := (Config.classOf c.cls).getD .normal
      let w := s.writePage (pageVia c.hub cls c.cas) (x.pageAddr c.page) (fun k => (have_ k).getD 0) x.blocks
      if refusal w.2 then w.1.copyFails c
      else
        let e := w.1.pteWrite c.hub cls c.cas c.pt c.lpage { index := c.page, state := pteResident, pool := c.pool, slot := 0 }
        let t := (e.1.setPool c.cas c.pool ((e.1.pool c.cas c.pool).giveSlot c.slot)).dropCopy c
        ((t.pageHandled c).wakeReads c.pt c.lpage).pgWake
    else s

/-- PREFETCH_WINDOW (R344, R353): a PREFETCH command, or a read that waits for the page, has waited PAGE_PREFETCH_WIN.US. -/
def State.prefetchWindow (s : State) (h pt n : Nat) : State :=
  let late (x : PgWait) : Bool := waitsFor pt n x && decide (x.at_ + x.len ≤ s.now) && x.die == h
  let l := s.pgWaits.filter late
  let t := l.foldl (fun t x => (t.answerDie x.die (pgRsp x.msg .pageAbsentTimeout 0)).count .PAGE_FETCH_CNT_TIMEOUTS top16 h 0 0 1)
    { s with pgWaits := s.pgWaits.filter fun x => !late x }
  t.allQueues.foldl (fun t q =>
    if q.engine = .page ∧ q.inst.val = h then
      (t.queue q).cmds.foldl (fun t c => if c.started && c.ended.isNone && c.opcode == 0x34 && c.pgTable == pt && decide (c.startAt + c.window ≤ t.now) then
        (t.count .PAGE_FETCH_CNT_TIMEOUTS top16 h 0 0 1).endCmd q c.idx .pageAbsentTimeout else t) t
    else t) t

/-- TRANSPORT_ERROR (R345). -/
def State.transportError (s : State) (h pt n : Nat) : State :=
  match s.copyAt h pt n with
  | some c => if c.fetch then s.copyFails c else s.spillDone c .halted
  | none => s

/-- A host read of the PAGE engine completes for the oldest copy of a queue (R344, R383). -/
def State.pageHostRead (s : State) (q : QueueId) (data : Option Block) : State :=
  match s.copies.find? fun c => c.fetch && (c.cmd.map (·.1)) == some q && (s.pool c.cas c.pool).spillKind == 1 with
  | none => s
  | some c =>
    match data with
    | none => s.copyFails c
    | some b => { s with copies := s.copies.map fun y => if sameCopy y c then { y with got := y.got.insert y.got.length b } else y }

/-! ## Resets (R355, R356) -/

/-- A copy is undone: FETCHING returns to SPILLED and its page is freed; SPILLING returns to RESIDENT and its slot is freed. -/
def State.undoCopy (s : State) (c : CopySt) : State :=
  let x := s.pool c.cas c.pool
  let e : Pte := if c.fetch then { index := 0, state := pteSpilled, pool := c.pool, slot := c.slot } else { index := c.page, state := pteResident, pool := c.pool, slot := 0 }
  let w := s.pteWrite c.hub .normal c.cas c.pt c.lpage e
  (w.1.setPool c.cas c.pool (if c.fetch then x.givePage c.page else x.giveSlot c.slot)).dropCopy c

def State.undoCopies (s : State) (p : CopySt → Bool) : State := (s.copies.filter p).foldl State.undoCopy s

end Sys2Proof.Machine
end

