-- ==== Sys2Proof/Machine/Expanders.lean ====
section
/-! DEFINITION. The expanders: loading, binding, and the tiles they form from latents (chapter 18, R346 to R354). -/

namespace Sys2Proof.Machine

/-! ## Operands of EXP_LOAD (R348) -/

def Cmd.exp (c : Cmd) : Nat := c.fld 1 0 3
def Cmd.expWeights (c : Cmd) : Nat := c.fld 2 0 48
def Cmd.expBias (c : Cmd) : Nat := c.fld 4 0 48

/-- Bytes of an element by LAT_TYPE or W_TYPE. -/
def typeBytes (t : Nat) : Nat := if t = 0 then 2 else 1

/-- The number format of LAT_TYPE or W_TYPE. -/
def typeFormat (t : Nat) : Format :=
  match t with
  | 0 => bf16
  | 1 => e4m3
  | _ => e5m2

/-- The expander as the operands describe it. -/
def expFrom (cas : Nat) (c : Cmd) : ExpSt :=
  { ExpSt.reset with
    owner := some cas, rank := c.fld 3 0 10, latType := c.fld 3 10 2, wType := c.fld 3 12 2, heads := c.fld 3 14 7, headDim := c.fld 3 21 9,
    causal := c.fld 3 30 1 == 1, dshift := c.fld 3 32 4, maskValue := BitVec.ofNat 32 (c.fld 5 0 32), window := c.fld 5 32 32,
    hasBias := c.expBias != 0 }

/-- Bytes of W_K and W_V together. -/
def ExpSt.weightBytes (x : ExpSt) : Nat := 2 * x.rank * x.heads * x.headDim * typeBytes x.wType

/-- Bytes of a page of latents. -/
def ExpSt.pageBytes (x : ExpSt) : Nat := 16 * x.rank * typeBytes x.latType

def biasBytes : Nat := 4352

/-- What the expander must hold: weights, bias and two pages of latents. -/
def ExpSt.total (x : ExpSt) : Nat := x.weightBytes + (if x.hasBias then biasBytes else 0) + 2 * x.pageBytes

def ExpSt.outOfRange (x : ExpSt) : Bool :=
  decide (x.rank < 32) || decide (512 < x.rank) || x.rank % 32 != 0 || x.latType == 3 || x.wType == 3 || x.heads == 0 || decide (64 < x.heads) ||
  decide (x.headDim < 16) || decide (256 < x.headDim) || x.headDim % 16 != 0 || decide (8 * 2 ^ 20 < x.total)

def State.expLoadChecks (s : State) (q : QueueId) (c : Cmd) : List Status :=
  let x := expFrom (s.casOf q) c
  let other := match (s.exp q.inst.val c.exp).owner with | some o => o != s.casOf q | none => false
  (if x.outOfRange then [.badCommand] else []) ++
  (if c.expWeights % 256 ≠ 0 ∨ c.expBias % 256 ≠ 0 then [.badAlignment] else []) ++
  (if other || !s.ownsAddr (s.casOf q) c.expWeights || (x.hasBias && !s.ownsAddr (s.casOf q) c.expBias) then [.denied] else [])

/-! ## Loading, releasing and binding (R348, R349) -/

/-- The non-zero bytes of sectors that were read, by offset; a bad sector reads as zeros. -/
def bytesOfSectors (l : List (BitVec 256 × Option Bool)) : Tab Byte :=
  (l.zipIdx).flatMap fun x => (List.range 32).filterMap fun k =>
    let b : Byte := BitVec.ofNat 8 (x.1.1.toNat / 256 ^ k)
    if b = 0 then none else some (32 * x.2 + k, b)

/-- EXP_LOAD once no tile request is outstanding; bindings of a loaded expander stand. -/
def State.expLoadNow (s : State) (q : QueueId) (c : Cmd) : State :=
  let cas := s.casOf q
  let old := s.exp q.inst.val c.exp
  let x := expFrom cas c
  let w := s.fetchSectors (pageVia q.inst.val c.reqClass cas) (x.weightBytes / 32) c.expWeights
  let b := w.1.fetchSectors (pageVia q.inst.val c.reqClass cas) (if x.hasBias then biasBytes / 32 else 0) c.expBias
  let st := Config.worse w.2.1 b.2.1
  if refusal st then b.1.endCmd q c.idx st
  else
    (b.1.setExp q.inst.val c.exp { x with weights := bytesOfSectors w.2.2, bias := bytesOfSectors b.2.2, gen := old.gen,
                                          binds := if old.owner.isSome then old.binds else [] }).endCmd q c.idx st

def State.expReleaseChecks (s : State) (q : QueueId) (c : Cmd) : List Status :=
  match (s.exp q.inst.val c.exp).owner with
  | some o => if o = s.casOf q then [] else [.denied]
  | none => []

/-- A free expander. -/
def ExpSt.freed (x : ExpSt) : ExpSt := { ExpSt.reset with gen := x.gen }

def Cmd.bindSlot (c : Cmd) : Nat := c.fld 1 4 5
def Cmd.unbinds (c : Cmd) : Bool := c.fld 1 16 1 == 1

/-- DETAIL of an EXP_BIND that a check ends (R337). -/
def State.expBindDetail (s : State) (q : QueueId) (c : Cmd) (st : Status) : Nat :=
  match s.poolRefusal q.inst.val (s.casOf q) (c.fld 1 12 4) with
  | some r => if r.1 = st && !c.unbinds && (s.exp q.inst.val c.exp).owner == some (s.casOf q) then r.2 else 0
  | none => 0

/-- The checks of EXP_BIND; the pool is one of the owner's, initialised and served here (R337, R338, R349). -/
def State.expBindChecks (s : State) (q : QueueId) (c : Cmd) : List Status :=
  let mine := (s.exp q.inst.val c.exp).owner == some (s.casOf q)
  if c.unbinds then (if mine then [] else [.denied])
  else
    (if 2097152 < c.fld 3 0 32 then [.badCommand] else []) ++
    (if mine then [] else [.denied]) ++ ((s.poolRefusal q.inst.val (s.casOf q) (c.fld 1 12 4)).map (·.1)).toList ++ s.tableChecks q c

def State.expBindNow (s : State) (q : QueueId) (c : Cmd) : State :=
  let x := s.exp q.inst.val c.exp
  if c.unbinds then (s.setExp q.inst.val c.exp { x with binds := Tab.put none x.binds c.bindSlot none }).endCmd q c.idx .done
  else
    let b : BindSt := { pt := c.pgTable, pool := c.fld 1 12 4, len := c.fld 3 0 32, qbase := c.fld 3 32 32 }
    (s.setExp q.inst.val c.exp { x with binds := Tab.put none x.binds c.bindSlot (some b) }).endCmd q c.idx .done

/-- An expander command goes on: each waits for the tile requests that it must wait for. -/
def State.expGo (s : State) (q : QueueId) (c : Cmd) : State :=
  let x := s.exp q.inst.val c.exp
  match c.opcode with
  | 0x36 => if x.reqs.isEmpty then s.expLoadNow q c else s
  | 0x37 => if x.reqs.any fun r => apSlot r.addr == c.bindSlot then s else s.expBindNow q c
  | 0x38 => if x.reqs.isEmpty then (s.setExp q.inst.val c.exp x.freed).endCmd q c.idx .done else s
  | _ => s

/-- Every stream of a die that waits for an expander tries again (R352). -/
def State.kickCores (s : State) (d : Nat) : State :=
  s.cores.foldl (fun t y =>
    if y.1 / 6400 = d ∧ (y.2.streams.any fun m => !m.sent && apertureBit m.msg.addr) = true then
      t.sendStream { d := d, k := y.1 / 64 % 100, c := y.1 % 64 }
    else t) s

/-- The expander commands in progress on a die's PAGE queues go on. -/
def State.expWake (s : State) (d : Nat) : State :=
  let t := (List.range 32).foldl (fun t k =>
    let q : QueueId := { engine := .page, inst := Fin.ofNat 4 d, idx := Fin.ofNat 32 k }
    (t.queue q).cmds.foldl (fun t c => if c.started && c.ended.isNone && decide (0x36 ≤ c.opcode) && decide (c.opcode ≤ 0x38) then t.expGo q c else t) t) s
  t.kickCores d

def State.runExp (s : State) (q : QueueId) (c : Cmd) : State := (s.expGo q c).expWake q.inst.val

/-! ## Latents (R350, R352 to R354) -/

/-- What a tile request asks: its binding, first token and the page that holds its tokens. -/
def ExpSt.bindOf (x : ExpSt) (a : Nat) : BindSt := ((Tab.get none x.binds (apSlot a))).getD { pt := 0, pool := 0, len := 0, qbase := 0 }
def firstToken (a : Nat) : Nat := 8 * apToken8 a
def logicalPage (a : Nat) : Nat := firstToken a / 16

/-- A tile that needs no latents: a bias tile, and one whose tokens all lie at or beyond LENGTH (R350). -/
def ExpSt.needsPage (x : ExpSt) (a : Nat) : Bool := apKind a != 2 && decide (firstToken a < (x.bindOf a).len)

def samePage (b : BindSt) (n : Nat) (g : StagedPage) : Bool := g.pt == b.pt && g.lpage == n

/-- FCLK for which a tile occupies the expander (R352). -/
def ExpSt.tileCost (x : ExpSt) (a : Nat) : Nat := if apKind a < 2 then (x.rank + 63) / 64 else 1

/-- Send the page-indirect reads of a page (R353, R394). -/
def State.fetchLatents (s : State) (d e : Nat) (r : TileReq) : State :=
  let x := s.exp d e
  let b := x.bindOf r.addr
  let n := x.pageBytes / 256
  let g : StagedPage := { pt := b.pt, lpage := logicalPage r.addr, gen := x.gen, need := n, got := [] }
  let kept := if 2 ≤ x.staged.length then x.staged.drop 1 else x.staged
  let t := s.setExp d e { x with staged := kept ++ [g], gen := x.gen + 1 }
  (List.range n).foldl (fun t k => t.sendUp d { blankReq with
    mtype := 4, cls := r.cls, cas := r.cas, srcTag := 0x1A20 + e, tag := k + 64 * (x.gen % 4), pool := b.pool, block := k, addr := b.pt,
    lpage := logicalPage r.addr }) t

/-- The expander takes its first tile request in hand, or fetches the latents that it needs. -/
def State.expKick (s : State) (d e : Nat) : State :=
  let x := s.exp d e
  match x.reqs with
  | [] => s
  | r :: _ =>
    if x.doneAt ≠ 0 then s
    else if !x.needsPage r.addr then s.setExp d e { x with doneAt := s.clk.fclk + x.tileCost r.addr + 1 }
    else match x.staged.find? (samePage (x.bindOf r.addr) (logicalPage r.addr)) with
      | none => s.fetchLatents d e r
      | some g =>
        if g.got.length = g.need then
          s.setExp d e { x with doneAt := s.clk.fclk + x.tileCost r.addr + 1, staged := (x.staged.filter fun y => y != g) ++ [g] }
        else s

/-! ## Tiles (R350, R351, R354) -/

/-- Bytes of latents of a page in staging: an element at a byte offset. -/
def StagedPage.elemAt (g : StagedPage) (size off : Nat) : Nat :=
  match g.got.find? fun b => b.no = off / 256 with
  | some b => b.data.toNat / 2 ^ (8 * (off % 256)) % 2 ^ (8 * size)
  | none => 0

/-- Marks of the sector at a byte offset: poisoned, and uncorrectable. -/
def StagedPage.markAt (g : StagedPage) (off : Nat) : Bool × Bool :=
  match g.got.find? fun b => b.no = off / 256 with
  | some b => (b.marks.getLsbD (off / 32 % 8), b.marks.getLsbD (off / 32 % 8) && b.pkind.getLsbD (off / 32 % 8))
  | none => (false, false)

/-- Offset of a token's latents in its page: token by token, element r at r. -/
def ExpSt.rowAt (x : ExpSt) (tok : Nat) : Nat := tok % 16 * x.rank * typeBytes x.latType

/-- L(token, r): zero at or beyond LENGTH. -/
def ExpSt.latent (x : ExpSt) (g : StagedPage) (len tok r : Nat) : Nat :=
  if tok < len then g.elemAt (typeBytes x.latType) (x.rowAt tok + r * typeBytes x.latType) else 0

/-- Little-endian bytes of a table. -/
def tabWord (t : Tab Byte) (off : Nat) : Nat → Nat
  | 0 => 0
  | n + 1 => (Tab.get 0 t off).toNat + 256 * tabWord t (off + 1) n

/-- Weight `which` (0 K, 1 V) at rank r, head and dimension (R348). -/
def ExpSt.weight (x : ExpSt) (which r head dim : Nat) : Nat :=
  let k := which * (x.rank * x.heads * x.headDim) + (r * x.heads + head) * x.headDim + dim
  tabWord x.weights (k * typeBytes x.wType) (typeBytes x.wType)

/-- One element of a K or V tile; a sum without an exact value is a free value. -/
def ExpSt.dot (x : ExpSt) (g : StagedPage) (len which tok head dim : Nat) (open_ : BitVec 16) : BitVec 16 :=
  sumBf16 open_ ((List.range x.rank).map fun r =>
    ((typeFormat x.latType).decode (x.latent g len tok r)).mul ((typeFormat x.wType).decode (x.weight which r head dim)))

/-- A bias element (R351). -/
def ExpSt.biasCell (x : ExpSt) (b : BindSt) (head tok8 dt i j : Nat) : BitVec 32 :=
  let k := 8 * tok8 + j
  let d : Int := ((b.qbase + 8 * dt + i : Nat) : Int) - (k : Int)
  if b.len ≤ k ∨ (x.causal = true ∧ d < 0) ∨ (x.window ≠ 0 ∧ (x.window : Int) ≤ d) then x.maskValue
  else if !x.hasBias then 0
  else
    let n := Nat.min (d.natAbs / 2 ^ x.dshift) 1023
    mul32 (BitVec.ofNat 32 (tabWord x.bias (4096 + 4 * head) 4)) (BitVec.ofNat 32 (tabWord x.bias (4 * n) 4))

/-- The tile at an aperture address; `draw` is the model's counter of free values. -/
def ExpSt.tile (x : ExpSt) (g : StagedPage) (a draw : Nat) : Block :=
  let b := x.bindOf a
  let t := firstToken a
  let dt := apTile a
  match apKind a with
  | 0 => tileOf 16 128 fun n => (x.dot g b.len 0 (t + n / 16) (apHead a) (16 * dt + n % 16) (Config.noTile draw n)).toNat
  | 1 => tileOf 16 128 fun n => (x.dot g b.len 1 (t + n % 16) (apHead a) (8 * dt + n / 16) (Config.noTile draw n)).toNat
  | 2 => tile32 fun n => x.biasCell b (apHead a) (apToken8 a) dt (n / 8) (n % 8)
  | _ =>
    if x.latType = 0 then tileOf 16 128 fun n => x.latent g b.len (t + n / 16) (16 * dt + n % 16)
    else tileOf 8 256 fun n => x.latent g b.len (t + n / 32) (32 * dt + n % 32)

/-- The byte offsets of the latent sectors that output sector n depends on. -/
def ExpSt.depends (x : ExpSt) (a n : Nat) : List Nat :=
  let t := firstToken a
  let len := (x.bindOf a).len
  let row (tok : Nat) : List Nat := if tok < len then (List.range (x.rank * typeBytes x.latType / 32)).map fun k => x.rowAt tok + 32 * k else []
  match apKind a with
  | 0 => row (t + n)
  | 1 => (List.range 16).flatMap fun k => row (t + k)
  | 2 => []
  | _ => if t + n < len then [x.rowAt (t + n) + 32 * apTile a] else []

/-- Every block came with every mark: the page table entry's read was poisoned (R354, R394). -/
def StagedPage.entryBad (g : StagedPage) : Bool := g.got.all fun b => b.marks == BitVec.allOnes 8 && b.pkind == BitVec.allOnes 8

/-- Poison marks of a tile and their kinds. -/
def ExpSt.tileMarks (x : ExpSt) (g : StagedPage) (a : Nat) : BitVec 8 × BitVec 8 :=
  if !x.needsPage a then (0, 0)
  else if g.entryBad then (BitVec.allOnes 8, BitVec.allOnes 8)
  else
    let f (pick : Bool × Bool → Bool) : BitVec 8 :=
      BitVec.ofNat 8 ((List.range 8).foldl (fun v n => if (x.depends a n).any fun o => pick (g.markAt o) then v + 2 ^ n else v) 0)
    (f Prod.fst, f Prod.snd)

/-- The place of a core by its rank on a die. -/
def rankPos (d r : Nat) : CorePos := { d := d, k := r / 64, c := r % 64 }

/-- TILE_DONE: the tile in hand has been formed and goes to its core (R350, R352). -/
def State.tileDone (s : State) (d e : Nat) : State :=
  let x := s.exp d e
  match x.reqs with
  | [] => s
  | r :: rest =>
    if x.doneAt ≠ 0 ∧ x.doneAt ≤ s.clk.fclk + 1 ∧ s.clk.run = true ∧ s.pf2 = false then
      let g := (x.staged.find? (samePage (x.bindOf r.addr) (logicalPage r.addr))).getD { pt := 0, lpage := 0, gen := 0, need := 0, got := [] }
      let m := x.tileMarks g r.addr
      let t := (s.drawn.setExp d e { x with reqs := rest, doneAt := 0 }).count .CMP_EXP_CNT_TILES top32 d e 0 1
      let t := t.tally (4 + d) 0x45 none [e] (some r.cas) 1
      let t := t.streamAnswer (rankPos d r.rank) r.tag .done (x.tile g r.addr s.free) m.1 m.2
      (t.expWake d).expKick d e
    else s

/-- An answer to an expander's page-indirect read: latents enter staging; a refusal ends the kernel that asked (R353, R354). -/
def State.expAnswer (s : State) (d e : Nat) (m : AkRsp) : State :=
  let x := s.exp d e
  match x.staged.find? fun g => g.gen % 4 == m.tag / 64 && decide (m.tag % 64 < g.need) && !(g.got.any fun b => b.no == m.tag % 64) with
  | none => s
  | some g =>
    if m.status = .done then
      let b : LatBlock := { no := m.tag % 64, data := m.data, marks := BitVec.ofNat 8 m.poison, pkind := BitVec.ofNat 8 m.pkind }
      (s.setExp d e { x with staged := x.staged.map fun y => if y = g then { y with got := y.got ++ [b] } else y }).expKick d e
    else
      let kept := x.staged.filter fun y => y != g
      match x.reqs with
      | r :: rest =>
        if x.doneAt = 0 ∧ samePage (x.bindOf r.addr) (logicalPage r.addr) g = true then
          let t := s.setExp d e { x with reqs := rest, staged := kept }
          ((t.streamAnswer (rankPos d r.rank) r.tag m.status 0 0 0).expWake d).expKick d e
        else s.setExp d e { x with staged := kept }
      | [] => s.setExp d e { x with staged := kept }

/-- The tile requests at an expander end with a status, and it becomes free. -/
def State.freeExpander (s : State) (key : Nat) (st : Status) : State :=
  let x := Tab.get ExpSt.reset s.expanders key
  let t := { s with expanders := Tab.put ExpSt.reset s.expanders key x.freed }
  x.reqs.foldl (fun t r => t.streamAnswer (rankPos (key / 8) r.rank) r.tag st 0 0 0) t

/-- Every expander that a rule names becomes free (R348, R355). -/
def State.freeExpanders (s : State) (who : ExpSt → Bool) (st : Status) : State :=
  ((s.expanders.filter fun x => who x.2).map (·.1)).foldl (fun t k => t.freeExpander k st) s

/-- Every expander of a die takes up what it can. -/
def State.expKickAll (s : State) (d : Nat) : State := (List.range 8).foldl (fun t e => t.expKick d e) s

end Sys2Proof.Machine
end

