-- ==== Sys2Proof/Machine/Fabric.lean ====
section
/-! DEFINITION. The Trowiry ports, routing, fabric requests, and the RING engine (chapter 19, R288). -/

namespace Sys2Proof.Machine

/-! ## Ports (R358, R359) -/

def State.port4 (s : State) (h j : Nat) : TrwSt := Tab.get TrwSt.reset s.trw (4 * h + j)
def State.setPort4 (s : State) (h j : Nat) (x : TrwSt) : State := { s with trw := Tab.put TrwSt.reset s.trw (4 * h + j) x }

/-- Fabric link-up runs after READY (R74, R111). -/
def State.portsOn (s : State) (h : Nat) : Bool := s.hubIn h && s.boot.stage == .running && s.board.pwrGood

def State.portEnabled (s : State) (h j : Nat) : Bool := s.rd .TRW_PORT_CTRL_ENABLE h j 0 == 1

/-- PORT_TRAINING: a partner has answered a training attempt. -/
def State.portTrained (s : State) (h j : Nat) (lanes8 : Bool) : State :=
  let x := s.port4 h j
  if s.portsOn h && s.portEnabled h j && x.trying && !x.up then
    s.setPort4 h j { up := true, half := lanes8, trying := false, streak := 0, retryAt := 0 }
  else s

/-- LINK_FAIL: no valid symbol for TRW_LINK_FAIL.US, or 16 failed retries of one flit. -/
def State.portFailed (s : State) (h j silent : Nat) : State :=
  let x := s.port4 h j
  if x.up && (decide (s.rd .TRW_LINK_FAIL_US h 0 0 ≤ silent) || decide (16 ≤ x.streak)) then
    (s.setPort4 h j { up := false, half := false, trying := false, streak := 0, retryAt := s.now + Config.msTicks 100 }).count
      .TRW_PORT_STATUS_FAILS top16 h j 0 1
  else s

/-- TRAINING_RETRY: every 100 ms while ENABLE is 1. -/
def State.portRetry (s : State) (h j : Nat) : State :=
  let x := s.port4 h j
  if s.portsOn h && s.portEnabled h j && !x.up && decide (x.retryAt ≤ s.now) then
    s.setPort4 h j { x with trying := true, retryAt := s.now + Config.msTicks 100 }
  else s

/-- A flit is retried: a good copy ends the streak (R358, R359). -/
def State.portFlitRetry (s : State) (h j : Nat) (ok : Bool) : State :=
  let x := s.port4 h j
  if x.up then
    (s.setPort4 h j { x with streak := if ok then 0 else Nat.min 16 (x.streak + 1) }).count .TRW_PORT_RETRY_COUNT top32 h j 0 1
  else s

/-- TRW_PORT_CTRL.ENABLE was written. -/
def State.portCtrl (s : State) (h j : Nat) : State :=
  let x := s.port4 h j
  if s.portEnabled h j then (if x.up || x.trying then s else s.setPort4 h j { x with trying := true, retryAt := s.now })
  else s.setPort4 h j { TrwSt.reset with trying := false }

/-! ## Routing (R360 to R362) -/

def sumOf (l : List Nat) : Nat := l.foldl (· + ·) 0

def RouteCfg.bits (c : RouteCfg) (d : Nat) : Nat := c.dimBits.getD d 0
def RouteCfg.size (c : RouteCfg) (d : Nat) : Nat := c.dimSize.getD d 1
def RouteCfg.offset (c : RouteCfg) (d : Nat) : Nat := sumOf (c.dimBits.take d)
/-- Coordinate d of a node. -/
def RouteCfg.coord (c : RouteCfg) (d node : Nat) : Nat := node / 2 ^ c.offset d % 2 ^ c.bits d

/-- Dimensions in which a destination differs from this node, lowest first. -/
def RouteCfg.differing (c : RouteCfg) (dest : Nat) : List Nat := (List.range 4).filter fun d => c.coord d dest != c.coord d c.nodeId

/-- Whether a packet goes in the − direction of a dimension (step 2). -/
def RouteCfg.minus (c : RouteCfg) (d dest : Nat) : Bool :=
  let n := c.size d
  (c.dirMask.getD d 0).getLsbD ((c.coord d dest + n - c.coord d c.nodeId) % n)

/-- The ports mapped to a direction, lowest first, and the one that step 3 prefers put first. -/
def RouteCfg.portsTo (c : RouteCfg) (d : Nat) (minus : Bool) (odd : Bool) : List Nat :=
  let l := (List.range 16).filter fun t => c.portMap.getD t 0xFF == 2 * d + if minus then 1 else 0
  if odd then l.drop 1 ++ l.take 1 else l

def State.portUp (s : State) (t : Nat) : Bool := (s.port4 (t / 4) (t % 4)).up && s.hubIn (t / 4)

/-- What routing makes of a packet. -/
inductive RouteTo where
  | here
  | port (t d : Nat) (minus : Bool)
  | none
  deriving DecidableEq, Repr

/-- The first port of a list that is up. -/
def State.firstUp (s : State) (l : List Nat) : Option Nat := l.find? s.portUp

/-- Steps 2 to 4 in a further dimension (step 5). -/
def State.routeOther (s : State) (c : RouteCfg) (p : Packet) (odd : Bool) : List Nat → RouteTo
  | [] => .none
  | d :: t =>
    match s.firstUp (c.portsTo d (c.minus d p.dest) odd) with
    | some x => .port x d (c.minus d p.dest)
    | none => s.routeOther c p odd t

/-- The output of a packet at this node (R361). -/
def State.routeOf (s : State) (p : Packet) : RouteTo :=
  match s.routeCfg with
  | none => if p.dest = s.ownNode then .here else .none
  | some c =>
    match c.differing p.dest with
    | [] => .here
    | d :: rest =>
      let odd := (p.dest + if p.flow then 1 else 0) % 2 == 1
      let m := c.minus d p.dest
      match s.firstUp (c.portsTo d m odd) with
      | some t => .port t d m
      | none =>
        match s.firstUp (c.portsTo d (!m) odd) with
        | some t => .port t d (!m)
        | none => s.routeOther c p odd rest

/-- The virtual channel after this node (R362): 1 once the wrap link of the present dimension is crossed, 0 in a new dimension.
A packet that has not moved in a dimension stands at its source's coordinate there. -/
def RouteCfg.vcAfter (c : RouteCfg) (p : Packet) (d : Nat) (minus : Bool) : Bool :=
  let here := c.coord d c.nodeId
  let wraps := if minus then here == 0 else here + 1 == c.size d
  if here = c.coord d p.src then wraps else p.vc || wraps

/-- Flits of a packet: its header and its payload (R364). -/
def flitsOf (p : Packet) : Nat := 1 + p.flits

/-- The 16-byte header of a packet (R364). -/
def packetHeader (p : Packet) : Nat :=
  p.dest + p.src * 2 ^ 17 + p.mclass * 2 ^ 34 + p.vc.toNat * 2 ^ 38 + p.flow.toNat * 2 ^ 39 + p.cas * 2 ^ 40 + p.cls * 2 ^ 45 + p.flits * 2 ^ 48 +
  p.tag * 2 ^ 51 + p.addr * 2 ^ 64 + p.set * 2 ^ 112 + p.status * 2 ^ 116 + p.step * 2 ^ 124

/-- The packet that a header names, without its payload. -/
def packetOfHeader (v : Nat) : Packet :=
  { dest := bitsOf v 0 17, src := bitsOf v 17 17, mclass := bitsOf v 34 4, vc := bitsOf v 38 1 == 1, flow := bitsOf v 39 1 == 1, cas := bitsOf v 40 5,
    cls := bitsOf v 45 3, flits := bitsOf v 48 3, tag := bitsOf v 51 13, addr := bitsOf v 64 48, set := bitsOf v 112 4, status := bitsOf v 116 8,
    step := bitsOf v 124 4, data := 0 }

def removeOne (l : List (Nat × Packet)) (x : Nat × Packet) : List (Nat × Packet) := l.erase x

/-- A response packet for a request. -/
def answerTo (p : Packet) (st : Status) (data : Option Block) : Packet :=
  { blankPacket with
    dest := p.src, mclass := if p.mclass = 0 then 2 else 3, cas := p.cas, cls := p.cls, flits := if data.isSome then 4 else 0, tag := p.tag,
    addr := p.addr, status := Config.statusCode st, data := data.getD 0 }

def State.dropPacket (s : State) (h : Nat) (p : Packet) (counted : Bool) : State :=
  let t := if counted then s.count .TRW_UNROUTABLE_COUNT top32 h 0 0 1 else s
  if p.mclass < 2 then t.sendPacket h (answerTo p .halted none) else t

/-- A packet of this package stands behind another from the same hub to the same node: packets from one origin to one destination keep their order (R363). -/
def State.behind (s : State) (h : Nat) (p : Packet) : Bool :=
  s.fabTx.contains (h, p) && (s.fabTx.takeWhile fun x => x != (h, p)).any fun x => x.1 == h && x.2.src == p.src && x.2.dest == p.dest

/-- ROUTE: a packet at hub h, its own or one that has entered on a port, is delivered, sent on, or discarded (R361 to R364). -/
def State.route (s : State) (h : Nat) (p : Packet) : State :=
  if s.behind h p then s else
  let s : State := { s with fabTx := removeOne s.fabTx (h, p) }
  if 8 ≤ p.mclass then s.count .TRW_UNROUTABLE_COUNT top32 h 0 0 1
  else match s.routeOf p with
    | .here => { s with fabRx := s.fabRx ++ [(h, p)] }
    | .none => s.dropPacket h p true
    | .port t d minus =>
      let links := ringRoute h (t / 4) t
      if links.any fun i => (s.link i).failed then s.dropPacket h p false
      else
        let vc := match s.routeCfg with | some c => c.vcAfter p d minus | none => p.vc
        let u := if t / 4 = h then s else s.tally h 0x11 none [ringDirOf h (t / 4) t] none (flitsOf p)
        (u.tally (t / 4) 0x12 none [t % 4] none (flitsOf p)).emit (.packet t { p with vc := vc })

/-! ## Requests from the fabric (R365) -/

def State.taken (s : State) (h : Nat) (p : Packet) : State := { s with fabRx := removeOne s.fabRx (h, p) }

def overrideOf (p : Packet) : Option Nat := if 8 ≤ p.set then some (p.set / 2 % 4) else none

/-- The source tag at D4: SRC, FLOW and TAG [63:60]. -/
def sourceTagOf (p : Packet) : Nat := p.src + (if p.flow then 2 ^ 17 else 0) + p.tag / 2 ^ 9 % 16 * 2 ^ 18

/-- The request that a packet makes at door D4 of hub h. -/
def requestOf (p : Packet) (h j : Nat) (write : Bool) : Req :=
  { plainReq (.fabric h j p.src p.tag) ((Config.classOf p.cls).getD .normal) p.cas (sourceTagOf p) p.addr write with
    sector := false, mask := BitVec.allOnes 256, data := if write then p.data else 0 }

/-- An RDREQ or WRREQ that has reached its destination: refused, or sent through D4 on a credit.  A hinge holds it in its port (R215); MAINT comes from no node (R10). -/
def State.fabricRequest (s : State) (h j : Nat) (p : Packet) : State :=
  let write := p.mclass == 1
  let accept := ((s.routeCfg).map (·.accept)).getD 0
  let answer (t : State) (st : Status) : State := t.sendPacket h (answerTo p st none)
  if p.dest ≠ s.ownNode ∨ s.hubIn h = false ∨ s.clk.run = false ∨ s.hinge.step ≠ 0 then s
  else
    let t := (s.taken h p).tally h 0x12 none [4 + j] none (flitsOf p)
    if 4 ≤ p.cls then answer t .badCommand
    else if p.addr % 256 ≠ 0 then answer t .badAlignment
    else if accept.getLsbD p.cas = false then answer t .denied
    else if !s.doorRoom h 4 ((Config.classOf p.cls).getD .normal) then s
    else match t.offer h 4 (requestOf p h j write) (overrideOf p) write with
      | (u, none) => u
      | (u, some st) => answer u st

/-- The answer to a fabric request leaves: data only where it is DONE (R364). -/
def State.fabricAnswer (s : State) (h node tag : Nat) (a : Answer) : State :=
  let p : Packet := { blankPacket with
    src := node, mclass := if a.r.write then 1 else 0, cas := a.r.cas, cls := Config.classCode a.r.cls, tag := tag, addr := a.r.addr }
  s.sendPacket h (answerTo p a.st (if a.r.write || a.st != .done then none else some a.data))

/-- A status byte as a status; a code that R11 does not list is a failure (R12). -/
def statusOf (n : Nat) : Status :=
  ([Status.done, .uncorrectable, .poisonRead, .poisonMerge, .fenced, .fetchTrap, .timeout, .stallGrantExceeded, .casementReset, .denied,
    .pageAbsentTimeout, .badCommand, .badAlignment, .thermalClosed].find? fun st => Config.statusCode st == n).getD .halted

/-! ## RING operands (R366) -/

def Cmd.collId (c : Cmd) : Nat := c.fld 1 0 32
def Cmd.ringSize (c : Cmd) : Nat := c.fld 1 32 18
def Cmd.dtype (c : Cmd) : Nat := c.fld 1 52 2
def Cmd.redOp (c : Cmd) : Nat := c.fld 1 54 2
def Cmd.rank (c : Cmd) : Nat := c.fld 2 0 17
def Cmd.prev (c : Cmd) : Nat := c.fld 2 17 17
def Cmd.nextNode (c : Cmd) : Nat := c.fld 2 34 17
def Cmd.ringSrc (c : Cmd) : Nat := c.fld 3 0 48
def Cmd.ringDst (c : Cmd) : Nat := c.fld 4 0 48
def Cmd.dstSet (c : Cmd) : Nat := c.fld 4 48 4
def Cmd.dstOvr (c : Cmd) : Option Nat := if 8 ≤ c.dstSet then some (c.dstSet / 2 % 4) else none
def Cmd.ringLen (c : Cmd) : Nat := c.fld 5 0 40

/-- ALL_REDUCE and REDUCE_SCATTER split LEN into SIZE chunks. -/
def Cmd.splits (c : Cmd) : Bool := c.opcode == 0x40 || c.opcode == 0x41

/-- The checks of a RING command (R366); log entry 33 covers LEN 0. -/
def State.ringChecks (_s : State) (_q : QueueId) (c : Cmd) : List Status :=
  let put := c.opcode == 0x45
  let token := c.opcode == 0x46
  (if (!put && (decide (c.ringSize < 2) || decide (131072 < c.ringSize) || decide (c.ringSize ≤ c.rank))) ||
      (c.splits && (c.dtype == 3 || decide (1 < c.redOp))) || (!token && c.ringLen == 0) then [.badCommand] else []) ++
  (if !token && (c.ringSrc % 256 != 0 || c.ringDst % 256 != 0 || c.ringLen % 256 != 0 || (c.splits && c.ringLen % (256 * c.ringSize) != 0)) then [.badAlignment] else [])

/-! ## The steps of a collective (R367, R368) -/

/-- Bytes that a step moves. -/
def Cmd.stepBytes (c : Cmd) : Nat := if c.splits then c.ringLen / c.ringSize else if c.opcode = 0x46 then 256 else c.ringLen
def Cmd.stepBlocks (c : Cmd) : Nat := c.stepBytes / 256

def Cmd.sendSteps (c : Cmd) : Nat :=
  match c.opcode with
  | 0x40 => 2 * (c.ringSize - 1)
  | 0x43 => if c.rank + 1 < c.ringSize then 1 else 0
  | 0x46 => 2
  | _ => c.ringSize - 1

def Cmd.recvSteps (c : Cmd) : Nat :=
  match c.opcode with
  | 0x40 => 2 * (c.ringSize - 1)
  | 0x43 => if 0 < c.rank then 1 else 0
  | 0x46 => 2
  | _ => c.ringSize - 1

/-- Chunk (r + 1 + SIZE × 2 − n) mod SIZE: the arithmetic of R367 without negative numbers. -/
def Cmd.chunk (c : Cmd) (back : Nat) : Nat := (c.rank + 1 + 2 * c.ringSize - back) % c.ringSize

/-- Where the data sent in step n lies. -/
def Cmd.sendAt (c : Cmd) (n : Nat) : Nat :=
  let b := c.stepBytes
  match c.opcode with
  | 0x40 =>
    if n = 0 then c.ringSrc + c.chunk 1 * b
    else if n + 1 < c.ringSize then c.ringDst + c.chunk (n + 1) * b
    else c.ringDst + c.chunk (n + 1 - c.ringSize) * b
  | 0x41 => if n = 0 then c.ringSrc + c.chunk 1 * b else c.ringDst
  | 0x42 => if n = 0 then c.ringSrc else c.ringDst + c.chunk (n + 1) * b
  | 0x43 => if c.rank = 0 then c.ringSrc else c.ringDst
  | _ => if n = 0 then c.ringSrc else c.ringDst + (n - 1) % 2 * b

/-- Step n sends the command's own data: SRC is decoded with no override. -/
def Cmd.sendsSrc (c : Cmd) (n : Nat) : Bool := if c.opcode = 0x43 then c.rank == 0 else n == 0

/-- Where the data received in step n goes. -/
def Cmd.recvAt (c : Cmd) (n : Nat) : Nat :=
  let b := c.stepBytes
  match c.opcode with
  | 0x40 => if n + 1 < c.ringSize then c.ringDst + c.chunk (n + 2) * b else c.ringDst + c.chunk (n + 2 - c.ringSize) * b
  | 0x42 => c.ringDst + c.chunk (n + 2) * b
  | 0x44 => c.ringDst + n % 2 * b
  | _ => c.ringDst

/-- The own copy that a received block is combined with, in a reduce-scatter step. -/
def Cmd.ownAt (c : Cmd) (n : Nat) : Option Nat :=
  if c.splits ∧ n + 1 < c.ringSize then some (c.ringSrc + c.chunk (n + 2) * c.stepBytes) else none

/-- One element under OP and DTYPE, rounded once (R367). -/
def reduceElem (dtype op : Nat) (a b : Nat) : Nat :=
  let x := BitVec.ofNat 32 a
  let y := BitVec.ofNat 32 b
  match dtype, op with
  | 0, 0 => (add32 x y).toNat
  | 0, _ => (extreme32 true x y).toNat
  | 1, 0 =>
    let u := BitVec.ofNat 32 (a * 65536)
    let v := BitVec.ofNat 32 (b * 65536)
    (sumBf16 ((Config.noResult u v).setWidth 16) [(dec32 u).term, (dec32 v).term]).toNat
  | 1, _ => (extreme32 true (BitVec.ofNat 32 (a * 65536)) (BitVec.ofNat 32 (b * 65536))).toNat / 65536
  | _, 0 =>
    let v := x.toInt + y.toInt
    if v < -(2 ^ 31) ∨ 2 ^ 31 ≤ v then (Config.intSum x y).toNat else (BitVec.ofInt 32 v).toNat
  | _, _ => if x.toInt < y.toInt then b else a

def reduceBlock (dtype op : Nat) (a b : Block) : Block :=
  if dtype = 1 then tileOf 16 128 fun n => reduceElem 1 op (elem a 16 n) (elem b 16 n)
  else tileOf 32 64 fun n => reduceElem dtype op (elem a 32 n) (elem b 32 n)

/-! ## Running a collective -/

def sameColl (a b : CollSt) : Bool := a.q == b.q && a.idx == b.idx
def State.coll (s : State) (q : QueueId) (idx : Nat) : Option CollSt := s.colls.find? fun x => x.q == q && x.idx == idx
def State.setColl (s : State) (x : CollSt) : State := { s with colls := s.colls.map fun y => if sameColl y x then x else y }

/-- Collectives whose command is over leave; COLL_IDs of those that did not complete are dead (R369). -/
def State.sweepColls (s : State) : State :=
  let gone (x : CollSt) : Bool := match s.cmd x.q x.idx with | some c => c.ended.isSome | none => true
  let dead (x : CollSt) : Bool := match s.cmd x.q x.idx with | some c => c.ended.isSome && c.ended != some .done | none => false
  let ids := (s.colls.filter fun x => gone x && dead x).map (·.coll)
  { s with colls := s.colls.filter fun x => !gone x, deadColls := s.deadColls.filter (fun n => !ids.contains n) ++ ids,
           fabRx := s.fabRx.filter fun p => !((p.2.mclass == 4 || p.2.mclass == 5) && ids.contains (p.2.addr % 2 ^ 32)) }

def State.endColl (s : State) (q : QueueId) (idx : Nat) (st : Status) : State := (s.endCmd q idx st).sweepColls

/-- Whether block k of step n may be sent now. -/
def canSend (c : Cmd) (x : CollSt) (n k : Nat) : Bool :=
  let have_ (m : Nat) : Bool := decide (m < x.recv) || (m == x.recv && decide (k < x.recvBlk))
  match c.opcode with
  | 0x43 => c.rank == 0 || have_ 0
  | 0x46 => if c.rank = 0 then n == 0 || have_ (n - 1) else have_ n
  | 0x44 => n == 0 || (have_ (n - 1) && (decide (n < 2) || x.ready.contains n))
  | _ => n == 0 || have_ (n - 1)

/-- Send the next block of a collective, if it may go: none where nothing was sent. -/
def State.collSend (s : State) (c : Cmd) (x : CollSt) : Option State :=
  if c.ended.isSome || decide (c.sendSteps ≤ x.sent) || !canSend c x x.sent x.sentBlk || !s.engineRuns then none
  else
    let full := decide (c.stepBlocks ≤ x.sentBlk + 1)
    let y := if full then { x with sent := x.sent + 1, sentBlk := 0 } else { x with sentBlk := x.sentBlk + 1 }
    let pkt : Packet := { blankPacket with dest := c.nextNode, mclass := 4, cas := s.casOf x.q, cls := 3, addr := x.coll, step := x.sent % 16 }
    if c.opcode = 0x46 then some ((s.setColl y).sendPacket x.q.inst.val pkt)
    else if s.viaOpen (s.ringVia x.q (if c.sendsSrc x.sent then none else c.dstOvr)) (c.sendAt x.sent + 256 * x.sentBlk) false = false then none
    else
      let a := c.sendAt x.sent + 256 * x.sentBlk
      let f := s.fetchBlock (s.ringVia x.q (if c.sendsSrc x.sent then none else c.dstOvr)) a
      if refusal f.2.1 then some (f.1.endColl x.q x.idx f.2.1)
      else some (((f.1.noteCmd x.q x.idx f.2.1).setColl y).sendPacket x.q.inst.val { pkt with flits := 4, data := f.2.2.1 })

def State.sendAll (s : State) (q : QueueId) (idx : Nat) : Nat → State
  | 0 => s
  | n + 1 =>
    match s.cmd q idx, s.coll q idx with
    | some c, some x =>
      match s.collSend c x with
      | some t => t.sendAll q idx n
      | none => s
    | _, _ => s

/-- COLL_READY for the next step of ROTATE, once its counter is reached and the step before has been sent (R368). -/
def State.rotateReady (s : State) (c : Cmd) (x : CollSt) : State :=
  let n := Nat.max 2 x.recv
  if c.opcode = 0x44 ∧ n < c.recvSteps ∧ x.readyTo < n ∧ x.recv = n ∧ n ≤ x.sent ∧
      syncReached (syncGet s (s.casOf x.q) (c.fld 6 4 4)) (c.fld 6 8 56 + n - 1) = true then
    (s.setColl { x with readyTo := n }).sendPacket x.q.inst.val
      { blankPacket with dest := c.prev, mclass := 5, cas := s.casOf x.q, cls := 3, addr := x.coll, step := n % 16 }
  else s

/-- The command is complete once every step has been sent and received. -/
def State.collDone (s : State) (q : QueueId) (idx : Nat) : State :=
  match s.cmd q idx, s.coll q idx with
  | some c, some x => if c.sendSteps ≤ x.sent ∧ c.recvSteps ≤ x.recv then s.endColl q idx (c.fault.getD .done) else s
  | _, _ => s

/-- Everything that a collective can do without a message. -/
def State.collPump (s : State) (q : QueueId) (idx : Nat) : State :=
  match s.cmd q idx, s.coll q idx with
  | some c, some _ =>
    if c.opcode = 0x45 then s
    else
      let t := s.sendAll q idx (c.sendSteps * c.stepBlocks + 1)
      let t := match t.coll q idx with | some y => t.rotateReady c y | none => t
      t.collDone q idx
  | _, _ => s

/-- The step that a collective receives next takes a block. -/
def State.collTake (s : State) (x : CollSt) (c : Cmd) (p : Packet) : State :=
  let full := decide (c.stepBlocks ≤ x.recvBlk + 1)
  let y := if full then { x with recv := x.recv + 1, recvBlk := 0 } else { x with recvBlk := x.recvBlk + 1 }
  let cas := s.casOf x.q
  let finish (t : State) : State :=
    let t := t.setColl y
    let t := if full && c.opcode == 0x44 then t.syncAdd cas (c.fld 6 0 4) 1 else t
    t.collPump x.q x.idx
  if c.opcode = 0x46 then finish s
  else
    let f := match c.ownAt x.recv with
      | some a => let g := s.fetchBlock (s.ringVia x.q none) (a + 256 * x.recvBlk); (g.1, g.2.1, reduceBlock c.dtype c.redOp p.data g.2.2.1)
      | none => (s, .done, p.data)
    if refusal f.2.1 then f.1.endColl x.q x.idx f.2.1
    else
      let w := f.1.storeBlock (s.ringVia x.q c.dstOvr) (c.recvAt x.recv + 256 * x.recvBlk) f.2.2 0
      if refusal w.2 then w.1.endColl x.q x.idx w.2 else finish (w.1.noteCmd x.q x.idx f.2.1)

/-- The collective that a packet is for: on the hub it reached, or on another. -/
def State.collFor (s : State) (h : Nat) (p : Packet) : Option CollSt :=
  let mine (x : CollSt) : Bool := x.coll == p.addr % 2 ^ 32 && (s.cmd x.q x.idx).any fun c =>
    c.ended.isNone && c.opcode != 0x45 && (p.mclass != 4 || c.prev == p.src) && (p.mclass != 5 || c.nextNode == p.src)
  match s.colls.find? fun x => mine x && x.q.inst.val == h with
  | some x => some x
  | none => s.colls.find? mine

/-- Whether a COLL packet is the one that a collective receives next. -/
def expects (c : Cmd) (x : CollSt) (p : Packet) : Bool :=
  decide (x.recv < c.recvSteps) && p.step == x.recv % 16 &&
  (c.opcode != 0x44 || ((decide (x.recv < 2) || decide (x.recv ≤ x.readyTo)) && decide (x.recv ≤ x.sent)))

/-- A held packet that a collective can take. -/
def State.collHeld (s : State) (x : CollSt) (c : Cmd) : Option (Nat × Packet) :=
  s.fabRx.find? fun p => p.2.mclass == 4 && (s.collFor p.1 p.2).any (sameColl x) && expects c x p.2

/-- Whether the door lets the accesses of the next block received through: the read of the own part, where there is one, and the write. -/
def State.collMayTake (s : State) (x : CollSt) (c : Cmd) : Bool :=
  s.hinge.step == 0 && (c.opcode == 0x46 ||
    ((c.ownAt x.recv).all fun a => s.viaOpen (s.ringVia x.q none) (a + 256 * x.recvBlk) false) &&
      s.viaOpen (s.ringVia x.q c.dstOvr) (c.recvAt x.recv + 256 * x.recvBlk) true)

def State.collDrainN (s : State) (q : QueueId) (idx : Nat) : Nat → State
  | 0 => s
  | n + 1 =>
    match s.cmd q idx, s.coll q idx with
    | some c, some x =>
      match (if s.collMayTake x c then s.collHeld x c else none) with
      | some p => ((s.taken p.1 p.2).collTake x c p.2).collDrainN q idx n
      | none => s
    | _, _ => s

/-- Held packets are taken as far as the collective goes. -/
def State.collDrain (s : State) (q : QueueId) (idx : Nat) : State := (s.collPump q idx).collDrainN q idx s.fabRx.length

/-- Every collective goes on as far as it can: sync counters may have moved. -/
def State.collWake (s : State) : State := (s.colls.foldl (fun t x => t.collDrain x.q x.idx) s).sweepColls

/-- COLL (R367, R368): held until a collective takes it; what is for a dead COLL_ID is discarded (R369). -/
def State.collPacket (s : State) (h : Nat) (p : Packet) : State :=
  let t := s.taken h p
  match t.collFor h p with
  | none => if t.deadColls.contains (p.addr % 2 ^ 32) then t else { t with fabRx := t.fabRx ++ [(h, p)] }
  | some x => (({ t with fabRx := t.fabRx ++ [(h, p)] } : State).collDrain x.q x.idx).sweepColls

/-- The step that a COLL_READY names: the least one from the step in hand on with its low four bits. -/
def stepNamed (from_ low : Nat) : Nat := from_ + (low + 16 - from_ % 16) % 16

/-- COLL_READY (R368). -/
def State.collReady (s : State) (h : Nat) (p : Packet) : State :=
  let t := s.taken h p
  match t.collFor h p with
  | none => if t.deadColls.contains (p.addr % 2 ^ 32) then t else { t with fabRx := t.fabRx ++ [(h, p)] }
  | some x => ((t.setColl { x with ready := x.ready ++ [stepNamed x.sent p.step] }).collDrain x.q x.idx).sweepColls

/-! ## Stall notices (R288, R370, R371) -/

/-- A notice's payload: TIER [1:0], REASON [3:2]; bit 4 and bits [31:8] are the model's: its direction of travel (1 toward PREV) and its hops. -/
def noticeBlock (tier reason : Nat) (back : Bool) (hops : Nat) : Block := BitVec.ofNat 2048 (tier + 4 * reason + (if back then 16 else 0) + 256 * hops)

def noticeTier (p : Packet) : Nat := p.data.toNat % 4
def noticeBack (p : Packet) : Bool := p.data.toNat / 16 % 2 == 1
def noticeHops (p : Packet) : Nat := p.data.toNat / 256 % 2 ^ 24

def State.sendNotice (s : State) (x : CollSt) (dest tier reason : Nat) (back : Bool) : State :=
  s.sendPacket x.q.inst.val { blankPacket with
    dest := dest, mclass := 6, cas := s.casOf x.q, cls := 3, flits := 1, addr := x.coll, data := noticeBlock tier reason back 1 }

/-- One notice for one collective, to NEXT and to PREV. -/
def State.emitNotice (s : State) (x : CollSt) (tier reason : Nat) : State :=
  match s.cmd x.q x.idx with
  | some c =>
    if c.opcode = 0x45 ∨ c.ended.isSome then s
    else ((s.sendNotice x c.nextNode tier reason false).sendNotice x c.prev tier reason true).count .RING_STALL_CNT_SENT top16 x.q.inst.val 0 0 1
  | none => s

/-- Every RING engine emits a notice for each collective in progress. -/
def State.emitNotices (s : State) (tier reason : Nat) : State := s.colls.foldl (fun t x => t.emitNotice x tier reason) s

/-- After a change of heat: a hub has entered HOT or CRITICAL, or a stack's reading has become stale (R288). -/
def State.stallCheck (s old : State) : State :=
  let hot := s.hubs.any fun h => decide (2 ≤ s.hubTier h) && decide (old.hubTier h < s.hubTier h)
  let stale := s.hubs.any fun h => [0, 1, 2].any fun st => s.stackIn h st && (s.src (3 * h + st)).stale && !(old.src (3 * h + st)).stale
  if hot || stale then s.emitNotices s.pkgTier 1 else s

/-- A notice that arrived at a tick is applied to a collective (R371). -/
def CollSt.notice (x : CollSt) (tier at_ grant : Nat) : CollSt :=
  if x.tier < tier then
    let d := Nat.min x.limit (Nat.max x.deadline (at_ + grant))
    { x with tier := tier, deadline := d, extended := x.extended || decide (x.deadline < d) }
  else x

def State.grantTicks (s : State) (h : Nat) : Nat := Config.msTicks (s.rd .RING_STALL_GRANT_MS h 0 0)

/-- A notice is forwarded in its direction of travel, unless the next node is the origin or it has made SIZE − 1 hops. -/
def State.forwardNotice (s : State) (c : Cmd) (h : Nat) (p : Packet) : State :=
  let dest := if (noticeBack p) then c.prev else c.nextNode
  if dest = p.src ∨ c.ringSize - 1 ≤ (noticeHops p) then s
  else { s with fabTx := s.fabTx ++ [(h, { p with dest := dest, flow := h % 2 == 1, vc := false,
                                                  data := noticeBlock (noticeTier p) (p.data.toNat / 4 % 4) (noticeBack p) ((noticeHops p) + 1) })] }

/-- STALL: a notice reaches an engine; it is applied to its COLL_ID's command, forwarded, and kept (R370, R371). -/
def State.stallPacket (s : State) (h : Nat) (p : Packet) : State :=
  let t := (s.taken h p).count .RING_STALL_CNT_RECEIVED top16 h 0 0 1
  let kept := t.notices ++ [{ hub := h, at_ := t.now, pkt := p }]
  let mine := (kept.filter fun n => n.hub == h).length
  let t : State := { t with notices := if 64 < mine then (match kept.find? fun n => n.hub = h with | some n => kept.erase n | none => kept) else kept }
  match t.collFor h p with
  | some x =>
    match t.cmd x.q x.idx with
    | some c => (t.setColl (x.notice (noticeTier p) t.now (t.grantTicks x.q.inst.val))).forwardNotice c x.q.inst.val p
    | none => t
  | none => t

/-! ## Starting RING commands (R366 to R371) -/

/-- The deadline of a command that starts, with the kept notices of its COLL_ID. -/
def State.newColl (s : State) (q : QueueId) (c : Cmd) : CollSt :=
  let h := q.inst.val
  let d := s.now + Config.msTicks (s.rd .RING_COLL_TIMEOUT_MS h 0 0)
  let g := s.grantTicks h
  let x : CollSt := { q := q, idx := c.idx, coll := c.collId, sent := 0, sentBlk := 0, recv := 0, recvBlk := 0, ready := [], readyTo := 1,
                      deadline := d, limit := d + g, extended := false, tier := 0 }
  if c.opcode = 0x45 then x
  else (s.notices.filter fun n => n.hub == h && n.pkt.addr % 2 ^ 32 == c.collId && decide (s.now ≤ n.at_ + g)).foldl (fun y n => y.notice (noticeTier n.pkt) n.at_ g) x

/-- Copy blocks inside the package: the own part of ALL_GATHER, and of BROADCAST at rank 0. -/
def State.copyOwn (s : State) (q : QueueId) (c : Cmd) (a b : Nat) : Nat → State × Status
  | 0 => (s, .done)
  | n + 1 =>
    let r := s.copyOwn q c a b n
    let f := r.1.fetchBlock (s.ringVia q none) (a + 256 * n)
    let w := f.1.storeBlock (s.ringVia q c.dstOvr) (b + 256 * n) f.2.2.1 f.2.2.2
    (w.1, Config.worse r.2 (Config.worse f.2.1 w.2))

/-- Notices kept for a COLL_ID go on once its command starts. -/
def State.forwardKept (s : State) (q : QueueId) (c : Cmd) : State :=
  (s.notices.filter fun n => n.hub == q.inst.val && n.pkt.addr % 2 ^ 32 == c.collId && decide (s.now ≤ n.at_ + s.grantTicks q.inst.val)).foldl
    (fun t n => t.forwardNotice c q.inst.val n.pkt) s

/-- A collective or a BARRIER starts. -/
def State.runColl (s : State) (q : QueueId) (c : Cmd) : State :=
  let t : State := { s with colls := s.colls ++ [s.newColl q c], deadColls := s.deadColls.filter fun n => n != c.collId }
  let t := t.forwardKept q c
  let own := if c.opcode = 0x42 then t.copyOwn q c c.ringSrc (c.ringDst + c.rank * c.ringLen) c.stepBlocks
    else if c.opcode = 0x43 ∧ c.rank = 0 ∧ c.ringSrc ≠ c.ringDst then t.copyOwn q c c.ringSrc c.ringDst c.stepBlocks
    else (t, .done)
  if refusal own.2 then own.1.endColl q c.idx own.2
  else ((own.1.noteCmd q c.idx own.2).collDrain q c.idx).sweepColls

/-! ## SHARD_PUT (R366, R374) -/

def Cmd.putBlocks (c : Cmd) : Nat := c.ringLen / 256

/-- TAG of a SHARD_PUT's packets: hub, queue and the command's index modulo 64. -/
def putTag (q : QueueId) (idx : Nat) : Nat := q.inst.val * 1024 + q.idx.val % 16 * 64 + idx % 64

/-- One more block: a read of SRC through D4. -/
def State.putPump1 (s : State) (q : QueueId) (idx : Nat) : State :=
  match s.cmd q idx with
  | none => s
  | some c =>
    let cls := (Config.classOf c.cls).getD .collective
    if c.started && c.ended.isNone && c.fault.isNone && decide (c.next < c.putBlocks) && decide (c.flight < 64) && s.engineRuns &&
        !Tab.get false s.resetting (s.casOf q) && s.doorRoom q.inst.val 4 cls then
      match s.offer q.inst.val 4 (s.cmdReq q c c.next (c.ringSrc + 256 * c.next) false) none true with
      | (t, none) => t.setCmd q { c with next := c.next + 1, flight := c.flight + 1 }
      | (t, some st) => t.setCmd q { c.failed st with next := c.next + 1 }
    else s

def State.putPumpN (s : State) (q : QueueId) (idx : Nat) : Nat → State
  | 0 => s
  | n + 1 => (s.putPump1 q idx).putPumpN q idx n

def State.putGo (s : State) (q : QueueId) (idx : Nat) : State :=
  match s.cmd q idx with
  | none => s
  | some c => (((s.putPumpN q idx 64).endIfDone q idx c.putBlocks)).sweepColls

def State.runPut (s : State) (q : QueueId) (c : Cmd) : State := ({ s with colls := s.colls ++ [s.newColl q c] } : State).putGo q c.idx

/-- A block of SRC has been read: it leaves as a WRREQ; bad sectors leave as zeros, and the command's status says so (R254). -/
def State.putRead (s : State) (q : QueueId) (idx k : Nat) (st : Status) (data : Block) : State :=
  match s.cmd q idx with
  | none => s
  | some c =>
    if c.ended.isSome then s
    else if st = .done ∨ st = .uncorrectable ∨ st = .poisonRead then
      let t := if st = .done then s else s.setCmd q { c with detail := Nat.max c.detail (if st = .uncorrectable then 2 else 1) }
      (t.sendPacket q.inst.val { blankPacket with
        dest := c.nextNode, mclass := 1, cas := s.casOf q, cls := c.cls, flits := 4, tag := putTag q idx, addr := c.ringDst + 256 * k, set := c.dstSet,
        data := data }).putGo q idx
    else (s.setCmd q { c.failed st with flight := c.flight - 1 }).putGo q idx

/-- The status that a SHARD_PUT's data alone gives. -/
def Cmd.putData (c : Cmd) : Status := match c.detail with | 0 => .done | 1 => .poisonRead | _ => .uncorrectable

/-- The SHARD_PUT that a WRACK's TAG names. -/
def State.putFor (s : State) (tag : Nat) : Option (QueueId × Cmd) :=
  let q : QueueId := { engine := .ring, inst := Fin.ofNat 4 (tag / 1024), idx := Fin.ofNat 32 (tag / 64 % 16) }
  ((s.queue q).cmds.find? fun c => c.started && c.ended.isNone && c.opcode == 0x45 && c.idx % 64 == tag % 64).map fun c => (q, c)

/-- A write of a SHARD_PUT has been answered: any other status ends it, and the rest is not sent (R374). -/
def State.putAck (s : State) (q : QueueId) (c : Cmd) (st : Status) : State :=
  let d := { c with flight := c.flight - 1 }
  let d := if st = .done then d else d.failed st
  let d := if d.flight = 0 ∧ (d.fault.isSome ∨ d.putBlocks ≤ d.next) ∧ d.putData ≠ .done then d.failed d.putData else d
  (s.setCmd q d).putGo q c.idx

/-- COLLECTIVE_DEADLINE: RING commands of a queue that have not completed by D end (R369), with the first of the conditions that apply (R13).  A warm reset stops the timer (R86). -/
def State.collDeadline (s : State) (q : QueueId) : State :=
  if s.boot.stage = .drained then s
  else (s.colls.foldl (fun t x =>
    let st : Status := if x.extended then .stallGrantExceeded else .timeout
    if x.q = q ∧ x.deadline ≤ t.now then t.endCmd q x.idx (((t.cmd q x.idx).bind (·.fault)).elim st (Config.worse st)) else t) s).sweepColls

/-! ## Responses (R343, R344, R364) -/

/-- RDRSP: a block of a page copy, or the end of one that failed.  A hinge holds it in its port (R215). -/
def State.readResponse (s : State) (h : Nat) (p : Packet) : State :=
  if s.hinge.step ≠ 0 then s else
  let t := s.taken h p
  match t.copies.find? fun c => c.tag = p.tag ∧ c.fetch = true with
  | none => t
  | some c =>
    if p.status ≠ 0 then t.copyFails c
    else
      let k := (p.addr - (t.pool c.cas c.pool).slotAddr c.slot) / 256
      let put (g : Tab Block) : Tab Block := (g.erase k).insert k p.data
      { t with copies := t.copies.map fun y => if sameCopy y c then { y with got := put y.got } else y }

/-- WRACK: a spilled block, or one of a SHARD_PUT.  A hinge holds it in its port (R215). -/
def State.writeAck (s : State) (h : Nat) (p : Packet) : State :=
  if s.hinge.step ≠ 0 then s else
  let t := s.taken h p
  if 4096 ≤ p.tag then
    match t.copies.find? fun c => c.tag = p.tag ∧ c.fetch = false with
    | none => t
    | some c =>
      if statusOf p.status ≠ .done ∧ statusOf p.status ≠ .poisonMerge then t.spillDone c (statusOf p.status)
      else if c.left ≤ 1 then t.spillDone c .done
      else { t with copies := t.copies.map fun y => if sameCopy y c then { y with left := y.left - 1 } else y }
  else match t.putFor p.tag with
    | some (q, c) => t.putAck q c (statusOf p.status)
    | none => t

end Sys2Proof.Machine
end

