-- ==== Sys2Proof/Machine/Supply.lean ====
section
/-! DEFINITION. The supply supervisor, power-fail and its drain, the slew limiter and the trip (chapter 03, R289). -/

namespace Sys2Proof.Machine

def State.setSupply (s : State) (f : SupplySt → SupplySt) : State := { s with supply := f s.supply }
def State.setBoard (s : State) (f : BoardSt → BoardSt) : State := { s with board := f s.board }
def State.setBoot (s : State) (f : BootSt → BootSt) : State := { s with boot := f s.boot }

/-! ## Samples and filters (R60, R61, R88) -/

/-- A filter while its condition holds: it starts once, with the length of that moment, and ends with the condition. -/
def runFilter (old : Option (Nat × Nat)) (holds : Bool) (now len : Nat) : Option (Nat × Nat) :=
  if holds then some (old.getD (now, len)) else none

def runSince (old : Option Nat) (holds : Bool) (now : Nat) : Option Nat := if holds then some (old.getD now) else none

/-- BUS_SAMPLE: the bus voltage in 0.1 V (R61). -/
def State.busSample (s : State) (v : Nat) : State :=
  let t := (s.wr .SVC_BUS_VOLT_VOLTS 0 0 0 (Nat.min 1023 v)).wr .SVC_BUS_VOLT_MIN 0 0 0 (Nat.min v (s.rd .SVC_BUS_VOLT_MIN 0 0 0))
  t.setSupply fun x => { x with
    pf1Filt := runFilter x.pf1Filt (decide (v < s.rd .SVC_PF_CFG_PF1_LEVEL 0 0 0)) s.now (Config.usTicks (s.rd .SVC_PF_CFG_PF1_FILT 0 0 0))
    pf2Filt := runFilter x.pf2Filt (decide (v < s.rd .SVC_PF_CFG_PF2_LEVEL 0 0 0)) s.now (Config.usTicks (s.rd .SVC_PF_CFG_PF2_FILT 0 0 0))
    recovAt := runSince x.recovAt (decide (440 ≤ v)) s.now
    surgeAt := runSince x.surgeAt (decide (605 < v)) s.now }

def filterDone (f : Option (Nat × Nat)) (now : Nat) : Bool := f.any fun x => decide (x.1 + x.2 ≤ now)

/-- The bus has been at or above the recovery level for 1 ms. -/
def State.recovered (s : State) : Bool := s.supply.recovAt.any fun t => decide (t + Config.msTicks 1 ≤ s.now)

/-- POWER records (R420): the events are coded 0 PF1 asserts, 1 PF1 clears, 2 PF2 asserts. -/
def State.powerRecord (s : State) (e : Nat) : State := s.hubs.foldl (fun t h => t.traceHub h 0x0A 0 0 [e]) s

/-! ## PF1 (R61, R62) -/

/-- PF1: staged images and layouts end, stall notices go out, functions are told. -/
def State.pf1Assert (s : State) : State :=
  if filterDone s.supply.pf1Filt s.now && !s.pf1 then
    let t := (({ s with pf1 := true } : State).setSupply fun x => { x with pf1At := some s.now }).flag .SVC_PF_STATUS_PF1_SEEN 0 0 0
    (((t.abortStaged).emitNotices 2 2).fnEventAll .pf1).powerRecord 0
  else s

/-- PF1_CLEAR: the recovery filter has run and PF2 has not asserted. -/
def State.pf1Clear (s : State) : State :=
  if s.pf1 && !s.pf2 && s.recovered then
    (({ s with pf1 := false } : State).setSupply fun x => { x with pf1At := none }).powerRecord 1
  else s

/-! ## The drain (R63, R91, R146, R151) -/

def Answer.isHost (a : Answer) : Bool := match a.r.org with | .host _ _ _ => true | _ => false

/-- A pseudo-channel's queued reads that have not issued a column command leave; so do the pointers that serve them. -/
def PcSt.dropReads (x : PcSt) : PcSt × List QEnt :=
  let gone (e : QEnt) : Bool := !e.r.write && e.rdIssued == 0
  let ids := (x.queue.filter gone).map fun e => e.r.id
  let q := x.queue.filter fun e => !gone e
  let free (b : BankSt) : BankSt := { b with
    ptr := match b.ptr with | some p => if p.op ≤ 4 && ids.contains p.req then none else some p | none => none
    saved := match b.saved with | some p => if p.1.op ≤ 4 && ids.contains p.1.req then none else some p | none => none }
  ({ x with queue := q, groups := x.groups.filter (fun g => q.any fun e => e.grp == some g.id),
            banks := x.banks.map fun b => (b.1, free b.2) }, x.queue.filter gone)

/-- Reads that have issued nothing are discarded in the doors, on the ring and in the channel queues; only the host hears of it (R386, R407). -/
def State.dropReads (s : State) : State :=
  let read (r : Req) : Bool := !r.write
  let t := s.hubs.foldl (fun t h => (t.dropDoors h read .halted).dropRing h read .halted) s
  let t := t.hubs.foldl (fun t h => [4, 5, 6, 7, 8].foldl (fun t d => t.dropTransit h d .halted) t) t
  let t := t.allPcs.foldl (fun t q =>
    let y := (t.pc q.1 q.2).dropReads
    y.2.foldl (fun t e => t.finishBare e.r .halted) (t.setPc q.1 q.2 y.1)) t
  { t with answers := s.answers ++ (t.answers.drop s.answers.length).filter Answer.isHost }

/-- Steps 1 and 2 of R63: the drain begins.  A hinge is abandoned (R223), repairs are cut (R273), casement resets are superseded (R107). -/
def State.startDrain (s : State) : State :=
  let t := ({ s with resetting := [], caseWait := [] } : State).abandonHinge.cutRepairs
  let t := t.hubs.foldl (fun t h => t.mapPcs h fun x => { x with drained := false }) t
  let t := (t.setBoot fun x => { x with stage := .drained, wdog := none }).setSupply fun x => { x with drainFrom := some s.now }
  t.dropReads

/-- The next start is cold (R92): nothing is drained. -/
def State.startColdNext (s : State) : State :=
  (({ s with resetting := [], caseWait := [] } : State).abandonHinge.cutRepairs).setBoot fun x =>
    { x with stage := if x.stage = .cold then .cold else .coldNext, wdog := none }

/-- Whether the stacks hold what must outlive a restart: the memory clear of the last cold start completed, and no cold reset came since (R92). -/
def State.holdsData (s : State) : Bool := s.boot.stage != .cold && s.boot.stage != .coldNext && (s.boot.cleared || s.boot.warm)

/-- PF2 with the CAUSE that the next start records (R63, R81, R105, R289); trace units stop and keep only their POWER record (R423). -/
def State.startPf2 (s : State) (cause : Nat) : State :=
  if s.pf2 then s
  else
    let t := (({ s with pf2 := true } : State).setSupply fun x => { x with cause := cause }).flag .SVC_PF_STATUS_PF2_SEEN 0 0 0
    let t := t.abortStaged
    let t := if s.holdsData then (if s.boot.stage = .drained then t else t.startDrain) else t.startColdNext
    let clear (x : TracerSt) : TracerSt := { x with fifo := [], dieFifo := [], lost := 0, dieLost := 0 }
    (t.hubs.foldl (fun t h => t.setTracer h (clear (t.tracer h))) t).powerRecord 2

def State.pf2Assert (s : State) : State := if filterDone s.supply.pf2Filt s.now then s.startPf2 6 else s

/-- PF_N low past its 200 ns deglitch. -/
def State.pfN (s : State) (lowNs : Nat) : State :=
  if 200 ≤ lowNs then (s.flag .SVC_PF_STATUS_PFN_SEEN 0 0 0).startPf2 6 else s

/-- BROWNOUT: PF1 has held for 10 ms. -/
def State.brownout (s : State) : State :=
  if s.pf1 && !s.pf2 && s.supply.pf1At.any (fun t => decide (t + Config.msTicks 10 ≤ s.now)) then
    (s.flag .SVC_PF_STATUS_BROWNOUT 0 0 0).startPf2 6
  else s

def State.surge (s : State) : State :=
  if s.supply.surgeAt.any fun t => decide (t + Config.usTicks 20 ≤ s.now) then s.flag .SVC_PF_STATUS_OV_SEEN 0 0 0 else s

/-! ## The end of the drain (R63, R64) -/

/-- Writes for a pseudo-channel that are still in doors and on the ring. -/
def State.writesComing (s : State) (h p : Nat) : List Req :=
  s.hubs.flatMap fun g =>
    (((List.range 9).flatMap fun d => (s.door g d).inUse) ++ s.ringAt g 0 ++ s.ringAt g 1).filter fun r => r.write && r.hub == h && r.pc == p

def State.writesLeft (s : State) (h p : Nat) : List Req :=
  (((s.pc h p).queue.filter fun e => e.r.write).map (·.r)) ++ s.writesComing h p

/-- The pool whose header or stacks hold a byte of [a, a + n) (R338, R356). -/
def PoolSt.stacksHold (x : PoolSt) (a n : Nat) : Bool := x.init && decide (x.base < a + n) && decide (a < x.pagesAt)

/-- One write is lost: it is logged (R64, R250), and a pool that it broke is marked (R356). -/
def State.loseWrite (s : State) (h : Nat) (r : Req) : State :=
  let t := (s.logEvent h (eventAt logLostWrite r 0 0 0)).endReq r
  { t with pools := t.pools.map fun x => if x.2.stacksHold r.addr r.bytes then (x.1, { x.2 with broken := true }) else x }

/-- The writes left on a pseudo-channel are discarded and logged, and LOST is set. -/
def State.loseWrites (s : State) (h p : Nat) : State :=
  match s.writesLeft h p with
  | [] => s
  | l =>
    let ids := l.map (·.id)
    let gone (r : Req) : Bool := ids.contains r.id
    let t := s.hubs.foldl (fun t g => (t.dropDoors g gone .halted).dropRing g gone .halted) s
    let t : State := { t with answers := s.answers, outPane := s.outPane, outCas := s.outCas }
    let x := t.pc h p
    let free (b : BankSt) : BankSt := { b with
      latch := match b.latch with | some i => if ids.contains i then none else some i | none => none
      ptr := match b.ptr with | some q => if q.op ≤ 4 && ids.contains q.req then none else some q | none => none
      saved := match b.saved with | some q => if q.1.op ≤ 4 && ids.contains q.1.req then none else some q | none => none }
    let t := t.setPc h p { x with queue := x.queue.filter (fun e => !gone e.r), flight := x.flight.filter (fun b => !ids.contains b.req),
                                  replay := none, banks := x.banks.map fun b => (b.1, free b.2) }
    (l.foldl (fun t r => t.loseWrite h r) t).flag .SVC_PF_STATUS_LOST 0 0 0

/-- WRITE_DRAIN_END on a pseudo-channel: no write is left, or the 40 µs have passed; then it enters self-refresh (R63, R64). -/
def State.writeDrainEnd (s : State) (h p : Nat) : State :=
  let x := s.pc h p
  match s.supply.drainFrom with
  | none => s
  | some t0 =>
    if !s.draining || x.drained || !s.pcIn h p || x.sr == .exiting then s
    else if (s.writesLeft h p).isEmpty || decide (t0 + Config.usTicks 40 ≤ s.now) then
      let t := s.loseWrites h p
      let y := t.pc h p
      let z := if y.halt || y.trnHalted then y.unload else y
      ((t.setPc h p { z with drained := true, pauseFrom := none }).enterSr h p false).wr .SVC_PF_STATUS_DRAIN_US 0 0 0 (Nat.min 255 ((s.now - t0) / 100))
    else s

def State.allInSr (s : State) : Bool := s.allPcs.all fun q => (s.pc q.1 q.2).sr == .inSr

/-- KEEP_REQ rises once the last pseudo-channel is in self-refresh (R63); in a warm reset it stays low (R91). -/
def State.keepReq (s : State) : State :=
  if s.pf2 && s.boot.stage == .drained && s.supply.drainedAt.isNone && s.allInSr then
    s.setSupply fun x => { x with keep := true, drainedAt := some s.now }
  else s

/-! ## The load slew limiter (R67, R68) -/

/-- RATE by strap, in 0.5 A/µs (R70). -/
def strapRate (n : Nat) : Nat := 2 * 2 ^ n

/-- One estimate follows what the activity asks for by at most RATE; a fall is not limited where R68 drops the load. -/
def slewTo (old want rate : Nat) (free : Bool) : Nat :=
  if want ≤ old then (if free then want else Nat.max want (old - rate)) else Nat.min want (old + rate)

/-- SLEW_ESTIMATE: once a microsecond, in 0.1 A. -/
def State.slewEstimate (s : State) (deciAmp : Nat) : State :=
  let e := slewTo s.supply.estimate deciAmp (5 * s.rd .SVC_SLEW_LIMIT_RATE 0 0 0) s.dropsLoad
  (s.setSupply fun x => { x with estimate := e, wanted := deciAmp }).wr .SVC_SLEW_LIMIT_EST_A 0 0 0 (Nat.min 1023 e)

/-! ## THERM_TRIP_N (R71, R289) -/

/-- Stacks of a hub that read 105 °C or more. -/
def State.tripStacks (s : State) (h : Nat) : Nat :=
  [0, 1, 2].foldl (fun m st => if s.stackIn h st && (s.src (3 * h + st)).at_.isSome && !(s.src (3 * h + st)).stale && decide (105 ≤ (s.src (3 * h + st)).reading) then m ||| 2 ^ (3 * h + st) else m) 0

/-- A comparator of die d trips, or, on a hub, a stack's reading: the pin falls, the source is recorded, and PF2 starts. -/
def State.thermTrip (s : State) (d : Nat) : State :=
  let t := (s.flag .SVC_THM_STATUS_TRIP 0 0 0).setBit .SVC_THM_STATUS_TRIP_SRC 0 0 0 d
  let t := if d < 4 then t.orBits .SVC_THM_STATUS_TRIP_STACK 0 0 0 (s.tripStacks d) else t
  ((t.startPf2 9).setSupply fun x => { x with cause := 9 }).setBoard fun x => { x with trip := true }

end Sys2Proof.Machine
end

