-- ==== Sys2Proof/Machine/Boot.lean ====
section
/-! DEFINITION. Resets and bring-up (chapter 05): what each kind of reset keeps, the verification chain, and the phases of cold and warm bring-up. -/

namespace Sys2Proof.Machine

/-! ## What resets keep (R82, R105, R112) -/

/-- Fields that a cold reset keeps. -/
def keptCold : Fld → Bool
  | .SVC_TIME_SYNC_PERIOD_US => true
  | .SVC_TIME_SYNC_ALIGNED => true
  | .SVC_TIME_SYNC_DRIFT => true
  | .SVC_TIME_SYNC_OFFSET => true
  | .SVC_CLK_STATUS_REF_LOSS => true
  | .SVC_BOOT_SEL_PREFER => true
  | _ => false

/-- Fields that a cold reset of the bring-up watchdog keeps as well. -/
def keptWatchdog : Fld → Bool
  | .SVC_BOOT_STATUS_ERROR => true
  | .SVC_BOOT_STATUS_UNIT => true
  | .SVC_BOOT_STATUS_FALLBACK => true
  | .SVC_BOOT_STATUS_ATTEMPT => true
  | _ => false

/-- Registers that a warm reset keeps, by name; queue registers are restored in phase 18 (R105, R335). -/
def keptWarmRegs : List Reg :=
  [.SVC_BUS_VOLT, .SVC_PF_CFG, .SVC_PF_STATUS, .SVC_SLEW_LIMIT, .SVC_TIME_SYNC, .SVC_CLK_STATUS, .SVC_BOOT_STATUS, .SVC_BOOT_SEL,
   .SVC_BOOT_WDOG, .IMG_STATUS, .IMG_ID, .IMG_ROLLBACK, .HUB_STACK_GEOM, .ECC_CNT, .ECC_INT_STATUS, .ECC_LOG_STATUS, .ECC_FENCE_HIT,
   .ECC_FENCE_CNT, .ECC_BUCKET_OVF, .THM_INT_STATUS, .THM_CLOSED_CNT, .HUB_INT_STATUS, .HUB_DECODE_ERR, .HUB_DECODE_CNT, .HUB_IMG_STATUS,
   .SVC_ACC_ERR, .SVC_THM_STATUS, .QUEUE_BASE, .QUEUE_CPL_BASE, .QUEUE_SIZE, .QUEUE_CTRL, .QUEUE_STATUS, .QUEUE_STATE, .QUEUE_WDOG,
   .HUB_FUSE_STATUS]

def keptWarm (f : Fld) : Bool :=
  f == .PC_REF_STATUS_OVERDUE || f == .SVC_HINGE_STATUS_ERROR || keptWarmRegs.any fun r => (fieldsOf r).any fun x => x.f == f

/-- A field of SVC_BOOT_STATUS takes a value. -/
def State.setPhase (s : State) (n : Nat) : State := s.wr .SVC_BOOT_STATUS_PHASE 0 0 0 n
def State.phase (s : State) : Nat := s.rd .SVC_BOOT_STATUS_PHASE 0 0 0

/-! ## Cold reset (R8, R90) -/

/-- A cold reset: every register takes its Reset value but those that are kept; stack contents and configuration are discarded.
The supply supervisor's timers run on (R86), with the PF1 that it holds, and KEEP_REQ falls at PKG_RST_N only (R65). -/
def State.coldReset (s : State) (cause : Nat) (errs : Bool) : State :=
  let r := State.reset
  let t : State := { r with
    clk := { r.clk with t64 := s.clk.t64, steerAt := s.clk.steerAt, stepped := s.clk.stepped }
    fuse := s.fuse
    fuseMap := s.fuseMap
    regs := s.regs.keep fun k => keptCold k.f || (errs && keptWatchdog k.f)
    board := { s.board with trip := false }
    supply := { r.supply with pf1Filt := s.supply.pf1Filt, pf2Filt := s.supply.pf2Filt, recovAt := s.supply.recovAt, surgeAt := s.supply.surgeAt,
                              pf1At := s.supply.pf1At, cause := cause, keep := s.supply.keep && cause != 1 }
    pf1 := s.pf1
    out := s.out
    free := s.free
    pending := s.pending }
  let t := if s.hinge.step = 0 then t else t.hingeError 2
  (t.wr .SVC_BOOT_STATUS_CAUSE 0 0 0 cause).wr .SVC_SLEW_LIMIT_RATE 0 0 0 (strapRate s.board.straps.slew.val)

/-- VAON_POWER_UP: TIME64 restarts, and every register takes its Reset value. -/
def State.vaonPowerUp (s : State) : State :=
  { State.reset with fuse := s.fuse, fuseMap := s.fuseMap, out := s.out, free := s.free, pending := s.pending }

/-! ## Warm reset (R91, R92, R105) -/

/-- A warm reset: the drain of R63 with KEEP_REQ low; before the memory clear a cold reset (R92); while KEEP_REQ holds it changes nothing (R75). -/
def State.warmReset (s : State) (cause : Nat) : State :=
  if s.pf2 then s
  else if !s.holdsData then s.coldReset cause false
  else
    let t := (((s.abortStaged).wr .IMG_QUIESCE_PANES 0 0 0 0).wr .IMG_QUIESCED_PANES 0 0 0 0).wr .SVC_BOOT_STATUS_CAUSE 0 0 0 cause
    let t := t.setSupply fun x => { x with cause := cause }
    if t.boot.stage = .drained then t else t.startDrain

/-- The key of SVC_RST_CTRL. -/
def rstKey : Nat := 0x5AC3

/-- A write to SVC_RST_CTRL (R91). -/
def State.rstCtrl (s : State) (v : Nat) : State :=
  if v / 2 ^ 16 % 2 ^ 16 ≠ rstKey then s
  else if v.testBit 1 then s.coldReset 5 false
  else if v.testBit 0 then s.warmReset 4
  else s

/-- The strapped slots of a start (R97). -/
def State.bootSlot (s : State) : Nat :=
  match s.board.straps.boot.val with
  | 1 => 0
  | 2 => 1
  | 3 => 0
  | _ => s.rd .SVC_BOOT_SEL_PREFER 0 0 0

/-- PKG_RST_N: a fall is a cold reset; at the rise the straps are sampled, which name the slot of the start, and the watchdog starts (R70, R90, R97, R110). -/
def State.pkgRstN (s : State) (high : Bool) (st : Straps) : State :=
  if high = s.board.pkgRst then s
  else if high then
    let t := (s.setBoard fun x => { x with pkgRst := true, straps := st }).wr .SVC_SLEW_LIMIT_RATE 0 0 0 (strapRate st.slew.val)
    let t := t.setBoot fun x => { x with slot := t.bootSlot }
    if st.boot = 3 then t
    else t.setBoot fun x => { x with wdog := some (s.now, Config.secTicks (s.rd .SVC_BOOT_WDOG_SECONDS 0 0 0)) }
  else (s.setBoard fun x => { x with pkgRst := false }).coldReset 1 false

def State.warmRstN (s : State) (high : Bool) : State :=
  if high = s.board.warmRst then s
  else if high then s.setBoard fun x => { x with warmRst := true, riseAt := s.now }
  else (s.setBoard fun x => { x with warmRst := false }).warmReset 2

def State.perstN (s : State) (high : Bool) : State :=
  if high = s.board.perst then s
  else if high then s.setBoard fun x => { x with perst := true, riseAt := s.now }
  else (s.setBoard fun x => { x with perst := false }).warmReset 3

def State.kaPg (s : State) : State := s.setBoard fun x => { x with kaPg := true }
def State.kaPgLoss (s : State) : State := if s.board.kaPg then (s.setBoard fun x => { x with kaPg := false }).coldReset 0 false else s

/-- PWR_GOOD rises; after a drain that ended with the rails removed it allows recovery (R93). -/
def State.pwrGood (s : State) : State :=
  if s.board.pwrGood then s
  else (s.setBoard fun x => { x with pwrGood := true }).setSupply fun x => { x with railsBack := s.pf2 }

/-- PWR_GOOD falls: the main domain stops (R93).  Where no drain has run the board broke R66, and the next start is what R92 makes of it. -/
def State.pwrGoodLoss (s : State) : State :=
  let t := s.setBoard fun x => { x with pwrGood := false }
  let t : State := { t with clk := { t.clk with run := false } }
  if s.board.pwrGood = false ∨ s.boot.stage = .cold ∨ s.boot.stage = .drained ∨ s.boot.stage = .coldNext then t
  else if s.holdsData then (t.setBoot fun x => { x with stage := .drained, wdog := none }).setSupply fun x => { x with cause := 6, drainFrom := some s.now }
  else t.setBoot fun x => { x with stage := .coldNext, wdog := none }

/-! ## Clocks of a start (R76, R81) -/

/-- Dies that are present, as PLL_LOCK numbers them. -/
def State.presentDies (s : State) : Nat := s.fuse.hubMask + 16 * s.fuse.cdieMask + 256

def State.locked (s : State) : Bool := s.rd .SVC_CLK_STATUS_PLL_LOCK 0 0 0 == s.presentDies

/-- The root PLLs leave lock and take a hinge point's multiplier; no die has clock edges until they lock. -/
def State.unlock (s : State) (hp : Nat) : State :=
  { s.wr .SVC_CLK_STATUS_PLL_LOCK 0 0 0 0 with clk := { s.clk with run := false, hp := hp, kPhase := 0, fPhase := 0, tPhase := 0 } }

/-- PLL_LOCK: during bring-up phases 1 and 8. -/
def State.pllLock (s : State) (d : Nat) : State :=
  if s.boot.stage = .bringUp ∧ (s.phase = 1 ∨ s.phase = 8) ∧ s.presentDies.testBit d ∧ s.board.refAt.isSome then
    let t := s.setBit .SVC_CLK_STATUS_PLL_LOCK 0 0 0 d
    { t with clk := { t.clk with run := s.hubs.all fun h => (t.rd .SVC_CLK_STATUS_PLL_LOCK 0 0 0).testBit h } }
  else s

/-- ALIGNED falls from 1 to 0: DRIFT (R85). -/
def State.dropAligned (s : State) : State :=
  if s.bit .SVC_TIME_SYNC_ALIGNED 0 0 0 then (s.wr .SVC_TIME_SYNC_ALIGNED 0 0 0 0).flag .SVC_TIME_SYNC_DRIFT 0 0 0 else s

/-- REF_LOSS (R81). -/
def State.refLoss (s : State) (silentNs : Nat) : State :=
  if 200 ≤ silentNs ∧ s.board.refAt.isSome then
    (((s.setBoard fun x => { x with refAt := none }).flag .SVC_CLK_STATUS_REF_LOSS 0 0 0).dropAligned).startPf2 7
  else s

/-- REF_RETURN: REF_OK (R93). -/
def State.refReturn (s : State) : State :=
  if s.board.refAt.isSome then s else s.setBoard fun x => { x with refAt := some s.now }

/-! ## Failures (R98, R109, R112) -/

def errFlashRead : Nat := 0x01
def errFwVerify : Nat := 0x02
def errFwRollback : Nat := 0x03
def errHubFw : Nat := 0x04
def errRing : Nat := 0x05
def errStackId : Nat := 0x06
def errImage : Nat := 0x07
def errRepair : Nat := 0x08
def errTrain : Nat := 0x09
def errAksal : Nat := 0x0A
def errBist : Nat := 0x0B
def errBootTimeout : Nat := 0x0C
def errKaState : Nat := 0x0D

/-- A pseudo-channel goes back to self-refresh as a stop of bring-up leaves it: its rows close and its debt is paid first (R109, R194). -/
def State.sleepPc (s : State) (h p : Nat) : State :=
  let x := s.pc h p
  let t := if x.sr == .inSr then s else s.runWides h p ((if x.anyOpen then [11] else []) ++ List.replicate x.maxDebt 6 ++ [9])
  t.setPc h p { t.pc h p with sr := .inSr, srAuto := false, wide := none, wideNext := [] }

/-- Bring-up stops (R109): the stacks go into reset after a cold start, and stay in self-refresh after a warm one. -/
def State.bootStop (s : State) (code unit : Nat) : State :=
  let t := (s.wr .SVC_BOOT_STATUS_ERROR 0 0 0 code).wr .SVC_BOOT_STATUS_UNIT 0 0 0 unit
  let t := t.setBoot fun x => { x with stage := .stopped, wdog := none, cleared := x.cleared && x.warm }
  let t := if s.boot.warm then s.allPcs.foldl (fun t q => t.sleepPc q.1 q.2) t else ({ t with pcs := [] } : State)
  { t with mem := if s.boot.warm then s.mem else [], doors := [], aks := s.aks.map fun x => (x.1, { x.2 with state := if x.2.state = 7 then 7 else 0 }) }

def slotError (code : Nat) : Bool := code == errFlashRead || code == errFwVerify || code == errFwRollback || code == errHubFw || code == errImage

/-- A step fails: the chain restarts once from the other slot where R98 says so; otherwise bring-up stops. -/
def State.bootFail (s : State) (code unit : Nat) : State :=
  if s.board.straps.boot = 0 ∧ slotError code ∧ s.rd .SVC_BOOT_STATUS_FALLBACK 0 0 0 = 0 then
    let n := 1 - s.boot.slot
    (((s.setBoot fun x => { x with slot := n }).wr .SVC_BOOT_STATUS_FALLBACK 0 0 0 1).wr .IMG_STATUS_SLOT 0 0 0 n).setPhase 1
  else s.bootStop code unit

/-! ## Firmware containers (R95, R96) -/

/-- What is wrong with a container, for one verifier. -/
inductive FwFault where
  | verify | rollback
  deriving DecidableEq, Repr

def State.fwCheck (s : State) (verifier kind : Nat) (l : List Byte) : Option FwFault :=
  let code := u l 8 4
  let sig := roundUp (64 + code) 8
  if u l 0 4 ≠ 0x5746534B ∨ u l 4 1 ≠ kind ∨ 64 < u l 5 1 ∨ zeros l 6 2 = false ∨ zeros l 12 52 = false ∨ 0x100000 < sig + 200 ∨ l.length < sig + 200 then some .verify
  else if (s.sigCheck verifier ((l.drop sig).take 200) (l.take sig)).isSome then some .verify
  else if u l 5 1 < s.fuse.fwRollback then some .rollback
  else none

/-! ## Cold bring-up (R99) -/

def State.bringingUp (s : State) (n : Nat) : Bool := s.boot.stage == .bringUp && s.phase == n

/-- A cold bring-up may begin: the board's signals allow it, and after a PF2 the bus has recovered (R92, R93). -/
def State.mayColdStart (s : State) : Bool :=
  (s.boot.stage == .cold || s.boot.stage == .coldNext) && s.board.pkgRst && s.board.warmRst && s.board.perst && s.board.kaPg && s.board.pwrGood &&
  s.board.refAt.isSome && (!s.pf2 || s.recovered || s.supply.railsBack)

/-- No stack has been read since this bring-up began: every reading is stale until the first (R197, R274). -/
def State.markStale (s : State) : State :=
  s.hubs.foldl (fun t h => t.wr .HUB_REF_CFG_STALE h 0 0 (([0, 1, 2].filter (s.stackIn h)).foldl (fun m st => m + 2 ^ st) 0)) s

/-- COLD_BRINGUP: phase 1. -/
def State.coldBringup (s : State) : State :=
  if s.mayColdStart then
    let t := if s.boot.stage = .coldNext || s.pf2 then s.coldReset s.supply.cause false else s
    let again := t.rd .SVC_BOOT_STATUS_ATTEMPT 0 0 0 != 0
    let slot := if again then s.boot.slot else t.bootSlot
    let wd := if s.board.straps.boot = 3 then none
      else match t.boot.wdog with
        | some w => some w
        | none => some (s.now, Config.secTicks (t.rd .SVC_BOOT_WDOG_SECONDS 0 0 0))
    let t := t.setBoot fun _ => { stage := .bringUp, slot := slot, cleared := false, wdog := wd, warm := false, fwOk := false }
    (((t.markStale.unlock 4).setPhase 1).wr .SVC_BOOT_STATUS_KIND 0 0 0 (if s.board.straps.boot = 3 then 2 else 0)).wr .IMG_STATUS_SLOT 0 0 0 slot
  else s

/-- A component of the boot flash: where it stands in its slot, and its size limit (R94). -/
inductive FlashPart where
  | firstStage | hubFirmware | image
  deriving DecidableEq, Repr

def FlashPart.offset : FlashPart → Nat
  | .firstStage => 0
  | .hubFirmware => 0x100000
  | .image => 0x200000

def FlashPart.limit : FlashPart → Nat
  | .image => 0x1000000
  | _ => 0x100000

/-- The service die reads a component from the slot of the start, but in a recovery boot (R94, R97, R108); what the flash answers is the row's operand. -/
def State.readFlash (s : State) (c : FlashPart) : State :=
  if s.board.straps.boot = 3 then s else s.emit (.flashRead (s.boot.slot * 0x2000000 + c.offset) c.limit)

/-- FIRST_STAGE: phase 2; an empty container is a failed read. -/
def State.firstStage (s : State) (l : List Byte) : State :=
  if s.bringingUp 1 && s.locked && s.board.straps.boot != 3 then
    let t := (s.setPhase 2).readFlash .firstStage
    if l.isEmpty then t.bootFail errFlashRead 0
    else match s.fwCheck 0 0 l with
      | some .verify => t.bootFail errFwVerify s.boot.slot
      | some .rollback => t.bootFail errFwRollback s.boot.slot
      | none => t
  else s

/-- PCIE_READINESS: phase 3; in recovery it follows the boot ROM at once (R108). -/
def State.pcieReadiness (s : State) : State :=
  if s.bringingUp 2 || (s.bringingUp 1 && s.locked && s.board.straps.boot == 3) then s.setPhase 3 else s

/-- RECOV_GO: the container in the recovery buffer is verified (R108, R110). -/
def State.recovGo (s : State) : State :=
  if s.board.straps.boot = 3 ∧ (s.bringingUp 3 ∨ (s.boot.stage = .stopped ∧ s.boot.warm = false)) then
    let wd := match s.boot.wdog with
      | some w => some w
      | none => some (s.now, Config.secTicks (s.rd .SVC_BOOT_WDOG_SECONDS 0 0 0))
    let t := (s.setBoot fun x => { x with wdog := wd, stage := .bringUp }).setPhase 3
    match s.fwCheck 0 0 s.recov with
    | some .verify => t.bootFail errFwVerify s.boot.slot
    | some .rollback => t.bootFail errFwRollback s.boot.slot
    | none => t.setBoot fun x => { x with fwOk := true }
  else s

/-- HUB_FIRMWARE: phase 4. -/
def State.hubFirmware (s : State) (l : List Byte) : State :=
  if s.bringingUp 3 && (s.board.straps.boot != 3 || s.boot.fwOk) then
    let t := (s.setPhase 4).readFlash .hubFirmware
    if l.isEmpty && s.board.straps.boot != 3 then t.bootFail errFlashRead 0
    else match s.hubs.find? fun h => s.fwCheck (1 + h) 1 l == some .verify with
      | some h => t.bootFail errHubFw h
      | none => if s.hubs.any fun h => s.fwCheck (1 + h) 1 l == some .rollback then t.bootFail errFwRollback s.boot.slot else t
  else s

/-- Links whose two hubs are present. -/
def State.ringLinks (s : State) : List Nat := allHubs.filter fun i => s.hubIn i && s.hubIn ((i + 1) % 4)

/-- A link that went down before a warm reset stays down: it returns only after a cold one (R21). -/
def State.linkLost (s : State) (i : Nat) : Bool := s.boot.warm && (s.link i).failed

/-- RING_LINK_UP: phase 5; a link that is down for good does not train and fails no phase (DEDUCED, log entry 104). -/
def State.ringLinkUp (s : State) (fails : List Nat) : State :=
  if s.bringingUp 4 then
    let t := s.setPhase 5
    let l := s.ringLinks.filter fun i => !s.linkLost i
    let t := l.foldl (fun t i => if fails.contains i then t else t.setLink i { LinkSt.reset with up := true }) t
    match l.find? fun i => fails.contains i with
    | some i => t.bootFail errRing i
    | none => t
  else s

def State.allStacks (s : State) : List (Nat × Nat) := s.hubs.flatMap fun h => ([0, 1, 2].filter (s.stackIn h)).map fun st => (h, st)

def foundStack (l : List (Hub × StackNo × StackId)) (h st : Nat) : Option StackId :=
  (l.find? fun x => x.1.val = h && x.2.1.val = st).map (·.2.2)

/-- The helper that repeats phase 6 for one stack: its spare counts are those it now reports (R263); outside its condition it is ignored and ERROR is set (R275). -/
def State.identifyAgain (s : State) (h st : Nat) (x : StackId) : State :=
  if s.stackIn h st && s.stackHalted h st then
    { s with geom := Tab.put none s.geom (3 * h + st) (some x),
             spareUsed := s.spareUsed.filter fun y => y.1 / 256 / 96 != h || stackOf (y.1 / 256 % 96) != st }
  else s.flag .HUB_1500_STATUS_ERROR h st 0

/-- STACK_IDENTIFICATION: phase 6 (R27, R263). -/
def State.stackIdentification (s : State) (l : List (Hub × StackNo × StackId)) : State :=
  if s.bringingUp 5 && !s.boot.warm then
    let t := s.setPhase 6
    let t := s.allStacks.foldl (fun t x => ({ t with geom := Tab.put none t.geom (3 * x.1 + x.2) (foundStack l x.1 x.2) } : State)) t
    match s.allStacks.find? fun x => (foundStack l x.1 x.2).isNone with
    | some x => t.bootFail errStackId (3 * x.1 + x.2)
    | none => ({ t with spareUsed := [] } : State)
  else if s.boot.stage = .running ∨ s.boot.stage = .stopped then l.foldl (fun t x => t.identifyAgain x.1 x.2.1 x.2.2) s
  else s

/-- UNIT of an IMAGE failure (R112): the hub, where the error is a hub's own finding (HUB_DISAGREE, STACK_UNMATCHED), else 0x1FF (DEDUCED, log entry 44). -/
def State.imageUnit (s : State) (e : Nat) : Nat :=
  if e = errDisagree then s.rd .IMG_STATUS_HUB 0 0 0
  else if e = errUnmatched then ((s.hubs.find? fun h => s.rd .HUB_IMG_STATUS_ERROR h 0 0 = errUnmatched).getD 0x1FF)
  else 0x1FF

/-- IMAGE_LOAD: phase 7 (R45); an empty answer of the flash is a failed read, and an empty buffer of a recovery boot an image of fewer than 64 bytes (R30). -/
def State.imageLoad (s : State) (l : List Byte) : State :=
  if s.bringingUp 6 then
    let t := (s.setPhase 7).readFlash .image
    if l.isEmpty && s.board.straps.boot != 3 then t.bootFail errFlashRead 0
    else
      let r := t.loadFull l
      if r.2 then { r.1 with leakAt := s.hubs.map fun h => (h, s.now) }
      else
        let e := r.1.rd .IMG_STATUS_ERROR 0 0 0
        r.1.bootFail errImage (r.1.imageUnit e)
  else s

def State.bootHp (s : State) : Nat := (s.hingeCfg.map (·.boot)).getD 4

/-- RELOCK: phase 8; the stacks' timing sets follow. -/
def State.relock (s : State) : State :=
  if s.bringingUp 7 || s.bringingUp 16 then
    let b := s.bootHp
    let t := s.hubs.foldl (fun t h => t.mapPcs h fun x => { x with tset := b, hist := [] }) s
    let t := s.allPcs.foldl (fun t q => t.useTrims q.1 q.2 b) t
    (t.unlock b).setPhase 8
  else s

/-- The hub's pseudo-channel that a fuse map record names. -/
def FuseRec.pcOf (r : FuseRec) : Nat := 32 * r.stack + r.pc

/-- Records in force whose stack is populated, in index order. -/
def State.liveRecords (s : State) (h : Nat) : List (Nat × FuseRec) :=
  ((s.recordsInForce h).map fun k => (k, fuseFields (s.fuseRec h k))).filter fun x => s.pcIn h x.2.pcOf

/-- Apply the records of the hubs in order, up to the first that a stack refuses or has no spare for (R267). -/
def State.applyRecords (s : State) (refused : List (Nat × Nat)) : List (Nat × Nat × FuseRec) → State × Option Nat
  | [] => (s, none)
  | (h, k, r) :: t =>
    if refused.contains (h, k) ∨ s.sparesLeft h r.pcOf r.bank r.typ = 0 then (s, some (96 * h + r.pcOf))
    else (s.useSpare h r.pcOf r.bank r.typ).applyRecords refused t

/-- SOFT_REPAIRS: phase 9. -/
def State.softRepairs (s : State) (refused : List (Nat × Nat)) : State :=
  if s.bringingUp 8 && s.locked && !s.boot.warm then
    let r := (s.setPhase 9).applyRecords refused (s.hubs.flatMap fun h => (s.liveRecords h).map fun x => (h, x.1, x.2))
    match r.2 with
    | some x => r.1.bootFail errRepair x
    | none => r.1
  else s

/-! ## Training (R225, R228 to R230, R268) -/

def nubNat : List Nat → List Nat
  | [] => []
  | a :: t => a :: (nubNat t).filter fun b => b != a

/-- Lane repairs of a first pass, each blown as a record while a spare is left (R229, R268); whether one was missing. -/
def State.repairLanes (s : State) (h p : Nat) : List Nat → State × Bool
  | [] => (s, false)
  | l :: t =>
    if s.sparesLeft h p 0 3 = 0 then (s, true)
    else ((s.useSpare h p 0 3).blow h { typ := 3, stack := stackOf p, pc := p % 32, bank := 0, row := 0, lane := l }).repairLanes h p t

/-- Training of one pseudo-channel (R228, R229): a failing lane of 36 to 57 ends it; failing data lanes are repaired and steps 3 to 5 run once more. -/
def State.trainPc (s : State) (found : List PcTraining) (h p : Nat) : State × Bool :=
  match found.find? fun x => x.hub.val = h && x.pc.val = p with
  | none => (s, false)
  | some x =>
    let s := s.runWide h p 12
    let lanes := trainedLanes p
    let bad := laneFails eyePasses x.eyes lanes
    let t := s.trimLanes h p eyePasses x.eyes lanes
    if bad.any fun l => decide (36 ≤ l) then (t, false)
    else if bad.isEmpty then (t.scaleTrims h p s.clk.hp, true)
    else
      let r := t.repairLanes h p bad
      let u := r.1.trimLanes h p eyePasses x.again repeatedLanes
      if r.2 || !(laneFails eyePasses x.again repeatedLanes).isEmpty then (u, false) else (u.scaleTrims h p s.clk.hp, true)

/-- Train a list of pseudo-channels: the state and those that failed. -/
def State.trainAll (s : State) (found : List PcTraining) : List (Nat × Nat) → State × List (Nat × Nat)
  | [] => (s, [])
  | q :: t =>
    let r := s.trainPc found q.1 q.2
    let u := r.1.trainAll found t
    (u.1, if r.2 then u.2 else q :: u.2)

/-- TRAINING: phase 10. -/
def State.training (s : State) (found : List PcTraining) : State :=
  if s.bringingUp 9 then
    let r := (s.setPhase 10).trainAll found s.allPcs
    let t := s.allStacks.foldl (fun t x =>
      if r.2.any fun q => q.1 == x.1 && stackOf q.2 == x.2 then t else t.wr .HUB_STACK_GEOM_TRAINED x.1 x.2 0 1) r.1
    match r.2 with
    | q :: _ => t.bootFail errTrain (96 * q.1 + q.2)
    | [] => s.allPcs.foldl (fun t q => t.setPc q.1 q.2 ((t.pc q.1 q.2).afterTraining t.now (t.pauseIntv q.1 q.2))) t
  else s

/-- MEMORY_CLEAR: phase 11; every sector is zeros with its valid check code, which is zeros too (R102). -/
def State.memoryClear (s : State) : State :=
  if s.bringingUp 10 then (({ s with mem := [] } : State).setPhase 11).setBoot fun x => { x with cleared := true } else s

/-! ## Compute dies (R99, R219, R308) -/

/-- A package in CMP_OFF is on its way back to ACTIVE. -/
def State.leavingOff (s : State) : Bool := s.boot.stage == .running && s.rd .SVC_PWR_STATUS_STATE 0 0 0 == 2 && s.hinge.pwrTo == some 0

/-- A link may begin to train: every sideband of R402 is high. -/
def AksSt.ready (x : AksSt) : Bool := x.cdPwr && x.cdRst && x.hbPwr && x.hbRst

/-- Link-up starts on a die: state 1; HB_TRN toggles (R402). -/
def State.linkStart (s : State) (d : Nat) : State :=
  let x := s.aksal d
  if x.state = 0 ∧ x.ready then
    (s.setAksal d { x with state := 1, dieOk := false, hubOk := false, stateAt := s.now, hbTrn := !x.hbTrn, tx := [], rx := [] }).emit (.hbTrn d 1)
  else s

/-- AKSAL_LINK_UP: phase 12, or the return from CMP_OFF. -/
def State.aksalLinkUp (s : State) : State :=
  if s.bringingUp 11 || s.bringingUp 17 then s.cdies.foldl State.linkStart (s.setPhase 12)
  else if s.leavingOff then s.cdies.foldl State.linkStart s
  else s

/-- Self-test has cleared the stores of every core and cluster of a die; its expanders are free. -/
def State.clearDie (s : State) (d : Nat) : State :=
  { s with cores := s.cores.filter fun x => x.1 / 6400 != d, clusters := s.clusters.filter fun x => x.1 / 100 != d,
           expanders := s.expanders.filter fun x => x.1 / 8 != d }

/-- COMPUTE_RELEASE: phase 13, once every link is ACTIVE; from CMP_OFF it ends at REST, and the hinge to RESUME_HP follows (R219). -/
def State.computeRelease (s : State) (fails : List Nat) : State :=
  if s.cdies.all fun d => (s.aksal d).state == 6 then
    if s.bringingUp 12 then
      let t := s.cdies.foldl State.clearDie (s.setPhase 13)
      match s.cdies.find? fun d => fails.contains d with
      | some d => t.bootFail errBist d
      | none => t
    else if s.leavingOff && !(s.cdies.any fun d => fails.contains d) then
      ((s.cdies.foldl State.clearDie s).wr .SVC_PWR_STATUS_STATE 0 0 0 1).pwrProgress
    else s
  else s

/-- ENGINES_SET: phase 14; the engines leave reset, and queues, casements and the MSI-X table stand as the image and their Reset values say. -/
def State.enginesSet (s : State) : State :=
  if s.bringingUp 13 && !s.boot.warm then ({ s with msix := [] } : State).setPhase 14 else s

/-- A queue at READY after a warm start: it goes on only with AUTO_RESUME (R336). -/
def State.resumeQueues (s : State) : State :=
  s.allQueues.foldl (fun t q => if t.qrd q .QUEUE_CTRL_AUTO_RESUME = 1 then t else t.qwr q .QUEUE_CTRL_ENABLE 0) s

/-- At READY the thermal logic requests a hinge to CAP where CAP is above the present hinge point (R287). -/
def State.capAtReady (s : State) : State :=
  let c := s.capNow
  let t := s.wr .SVC_HINGE_STATUS_CAP 0 0 0 c
  if s.clk.hp < c then t.hingeRequest c else t

/-- READY: phase 15 (R101). -/
def State.ready (s : State) : State :=
  if s.bringingUp 14 || s.bringingUp 18 then
    let t := (s.setPhase 15).setBoot fun x => { x with stage := .running, wdog := none }
    let t := if s.boot.warm then t.resumeQueues else t
    t.capAtReady.fnEvent 0 .ready
  else s

/-! ## Warm bring-up (R93, R103, R104) -/

/-- The tick at which the last pseudo-channel entered self-refresh. -/
def State.lastSr (s : State) : Nat := s.allPcs.foldl (fun m q => Nat.max m (s.pc q.1 q.2).srTick) 0

def State.mayWarmStart (s : State) : Bool :=
  s.boot.stage == .drained && s.allInSr && s.board.pkgRst && s.board.warmRst && s.board.perst && s.board.kaPg && s.board.pwrGood &&
  (match s.board.refAt with
   | none => false
   | some r =>
     if s.pf2 then decide (r + Config.msTicks 1 ≤ s.now) && (s.supply.cause == 7 || (s.supply.keep && (s.recovered || s.supply.railsBack)))
     else decide (s.board.riseAt + Config.usTicks 10 ≤ s.now) &&
       ((s.supply.cause != 4 && s.supply.cause != 8) || decide (s.lastSr + Config.usTicks 10 ≤ s.now)))

/-- What a pseudo-channel keeps through a warm start: self-refresh, its mode, its entry tick. -/
def PcSt.warm (x : PcSt) : PcSt :=
  { PcSt.reset with sr := .inSr, srTick := x.srTick, allBank := x.allBank, refStart := x.refStart, tset := x.tset }

/-- The main domain restarts: everything but what the always-on block and hub keep-alive SRAM hold goes to its reset value (R103, R105). -/
def State.warmClear (s : State) : State :=
  let r := State.reset
  let t : State := { r with
    clk := { r.clk with t64 := s.clk.t64, steerAt := s.clk.steerAt, stepped := s.clk.stepped }
    fuse := s.fuse
    fuseMap := s.fuseMap
    regs := s.regs.keep fun k => keptWarm k.f
    cfg := s.cfg
    board := { s.board with trip := false }
    supply := { s.supply with drainFrom := none, railsBack := false, pf1At := if s.pf2 then none else s.supply.pf1At, drainedAt := none,
                              estimate := 0, wanted := 0 }
    pf1 := s.pf1 && !s.pf2
    boot := s.boot
    recov := s.recov
    pcs := s.pcs.map fun x => (x.1, x.2.warm)
    links := s.links.map fun x => (x.1, { x.2 with streak := 0, streakBack := 0 })
    mem := s.mem
    geom := s.geom
    nextId := s.nextId
    fences := s.fences
    logs := s.logs
    levels := s.levels
    leakAt := s.hubs.map fun h => (h, s.now)
    trims := s.trims
    lanes := s.lanes
    spareUsed := s.spareUsed
    queues := s.queues.map fun x => (x.1, { x.2 with hostRd := [] })
    pools := s.pools.map fun x => (x.1, { x.2 with held := [] })
    copies := s.copies
    aks := s.aks.map fun x => (x.1, { AksSt.reset with cdPwr := x.2.cdPwr, cdRst := x.2.cdRst, hbPwr := x.2.hbPwr, hbRst := x.2.hbRst })
    out := s.out
    free := s.free
    pending := s.pending }
  let t := if s.rd .SVC_PWR_STATUS_STATE 0 0 0 = 2 then t.emit (.rails true) else t
  t.loadFields

/-- WARM_BRINGUP: phase 1.  It reads the slot that the last start used; SVC_BOOT_STATUS and IMG_STATUS keep what R105 keeps (log entry 93). -/
def State.warmBringup (s : State) : State :=
  if s.mayWarmStart then
    let t := s.warmClear.setBoot fun x => { x with stage := .bringUp, warm := true, fwOk := false,
                                                   wdog := some (s.now, Config.secTicks (s.rd .SVC_BOOT_WDOG_SECONDS 0 0 0)) }
    (((t.markStale.unlock 4).setPhase 1).wr .SVC_BOOT_STATUS_KIND 0 0 0 1).wr .SVC_BOOT_STATUS_CAUSE 0 0 0 s.supply.cause
  else s

/-- Registers of the always-on block (R105): what a bring-up keeps that goes on as a cold one. -/
def alwaysOnRegs : List Reg :=
  [.SVC_BUS_VOLT, .SVC_PF_CFG, .SVC_PF_STATUS, .SVC_PF_TIMES, .SVC_SLEW_LIMIT, .SVC_TIME_SYNC, .SVC_CLK_STATUS, .SVC_BOOT_STATUS, .SVC_BOOT_SEL,
   .SVC_BOOT_WDOG, .SVC_ACC_ERR, .SVC_THM_STATUS]

def alwaysOn (f : Fld) : Bool := alwaysOnRegs.any fun r => (fieldsOf r).any fun x => x.f == f

/-- What the hubs' keep-alive SRAM holds is lost: configuration, geometry, logs, fences and saved progress, and with them the stack contents.
The always-on block is not reset, and KEEP_REQ stays (R65, R90; log entry 92). -/
def State.loseKeepAlive (s : State) : State :=
  let r := State.reset
  { r with
    clk := s.clk, fuse := s.fuse, fuseMap := s.fuseMap, regs := s.regs.keep fun k => alwaysOn k.f, board := s.board, supply := s.supply, recov := s.recov
    links := s.links, fns := s.fns, pf1 := s.pf1, out := s.out, free := s.free, pending := s.pending
    boot := { s.boot with warm := false, cleared := false } }

/-- CONFIGURATION_CRC_CHECK: phase 16; a failed table makes the rest of the bring-up a cold one, and the contents are lost (R103). -/
def State.configurationCrc (s : State) (fails : List Nat) : State :=
  if s.bringingUp 5 && s.boot.warm then
    match s.hubs.find? fun h => fails.contains h with
    | none => s.setPhase 16
    | some h =>
      let t := (s.loseKeepAlive.wr .SVC_BOOT_STATUS_ERROR 0 0 0 errKaState).wr .SVC_BOOT_STATUS_UNIT 0 0 0 h
      (t.wr .SVC_BOOT_STATUS_KIND 0 0 0 0).wr .IMG_STATUS_SLOT 0 0 0 s.boot.slot
  else s

/-- A repair found missing in the latches is reapplied and logged (R104, R269). -/
def State.reapply (s : State) (latched : List (Nat × Word)) : State :=
  s.hubs.foldl (fun t h => (s.liveRecords h).foldl (fun t x =>
    if latched.contains (h, s.fuseRec h x.1) then t
    else t.logEvent h (eventOfPc logRepairMissing x.2.pcOf x.2.bank x.2.row)) t) s

/-- A pseudo-channel's pause in warm bring-up: its commands, its result, and whether it failed (R231). -/
def State.warmPause (s : State) (h p : Nat) (l : List PauseRes) : State × Bool :=
  let r := (s.runWides h p [11, 13, 14]).pauseRun h p (pauseOf l h p).1 (pauseOf l h p).2
  if r.2 then (r.1.pauseFailed h p, true) else r

/-- A pseudo-channel leaves self-refresh and runs its retrain pause, which counts as one (R231, R233); after a failed pause steps 3 and 4 run once, and a second pause. -/
def State.warmPc (s : State) (first second : List PauseRes) (found : List PcTraining) (h p : Nat) : State × Bool :=
  let t := s.runWide h p 10
  let t := t.setPc h p { (t.pc h p).leaveSr t.now (t.pauseIntv h p) with pauseFirst := false }
  let r := t.warmPause h p first
  if !r.2 then (r.1, true)
  else
    let eyes := ((found.find? fun x => x.hub.val == h && x.pc.val == p).map (·.eyes)).getD []
    let r := (r.1.trimLanes h p eyeRetrains eyes repeatedLanes).warmPause h p second
    (r.1, !r.2)

/-- SELF_REFRESH_EXIT_CHECK: phase 17 (R65, R231, R269). -/
def State.selfRefreshExit (s : State) (latched : List (Nat × Word)) (first second : List PauseRes) (found : List PcTraining) : State :=
  if s.bringingUp 8 && s.locked && s.boot.warm then
    let r := s.allPcs.foldl (fun r q => let x := r.1.warmPc first second found q.1 q.2; (x.1, if x.2 then r.2 else r.2 ++ [q]))
      ((s.setPhase 17).reapply latched, ([] : List (Nat × Nat)))
    match r.2 with
    | q :: _ => r.1.bootFail errTrain (96 * q.1 + q.2)
    | [] => r.1.setSupply fun x => { x with keep := false }
  else s

/-- A command in progress at the power-fail or the warm reset (R336). -/
def State.restoreCmd (s : State) (q : QueueId) (c : Cmd) : State :=
  if !c.started || c.ended.isSome then s
  else if q.engine = .move then
    let move := c.opcode == 0x20 || c.opcode == 0x21
    let lost := s.bit .SVC_PF_STATUS_LOST 0 0 0
    if move && (c.dst.host || (c.isCopy && c.src.host) || lost) then (s.setCmd q c.settled).endCmd q c.idx .halted
    else
      let d := c.settled
      s.setCmd q { d with next := d.progress, early := [], flight := 0, startAt := s.now }
  else s.endCmd q c.idx .halted

/-- ENGINES_RESTORED: phase 18 (R336, R356). -/
def State.enginesRestored (s : State) : State :=
  if s.bringingUp 13 && s.boot.warm then
    let t := (s.setPhase 18).undoCopies fun _ => true
    t.allQueues.foldl (fun t q => (t.queue q).cmds.foldl (fun t c => t.restoreCmd q c) t) ({ t with expanders := [] } : State)
  else s

/-! ## The bring-up watchdog (R110) -/

/-- The watchdog has restarted this start already: ATTEMPT counts it in a cold start, and a warm one carries CAUSE 8, since ATTEMPT keeps its value through warm resets (R105, R110). -/
def State.restarted (s : State) : Bool := if s.boot.warm then s.supply.cause == 8 else s.rd .SVC_BOOT_STATUS_ATTEMPT 0 0 0 != 0

/-- BOOT_WATCHDOG. -/
def State.bootWatchdog (s : State) : State :=
  match s.boot.wdog with
  | some (t0, n) =>
    if t0 + n ≤ s.now ∧ (s.boot.stage = .bringUp ∨ s.boot.stage = .cold) then
      if s.restarted then s.bootStop errBootTimeout s.phase
      else
        let t := ((s.wr .SVC_BOOT_STATUS_ERROR 0 0 0 errBootTimeout).wr .SVC_BOOT_STATUS_UNIT 0 0 0 s.phase).wr .SVC_BOOT_STATUS_ATTEMPT 0 0 0 1
        if s.boot.warm ∧ s.boot.stage = .bringUp then
          (t.setSupply fun x => { x with cause := 8 }).warmReset 8
        else
          let c := t.coldReset 8 true
          if s.board.straps.boot = 0 then (c.wr .SVC_BOOT_STATUS_FALLBACK 0 0 0 1).setBoot fun x => { x with slot := 1 - s.boot.slot }
          else c.setBoot fun x => { x with slot := s.boot.slot }
    else s
  | none => s

end Sys2Proof.Machine
end

