-- ==== Sys2Proof/Machine/Timebase.lean ====
section
/-! DEFINITION. TIME64 across the fabric: exchanges with the time parent, steering and the one step at join (R84, R85, R111, R372). -/

namespace Sys2Proof.Machine

/-! ## TIME packets.  R372 names what they carry and gives no bits: four 64-bit words t1, t2, t3, P, then a flag word (bit 0 answer, bit 1 the parent's ALIGNED). -/

structure TimeStamps where
  t1 : Nat
  t2 : Nat
  t3 : Nat
  p : Int
  answer : Bool
  aligned : Bool
  deriving DecidableEq, Repr

def signed64 (n : Nat) : Int := if n < 2 ^ 63 then n else (n : Int) - 2 ^ 64

def stampsOf (p : Packet) : TimeStamps :=
  let w (k : Nat) : Nat := p.data.toNat / 2 ^ (64 * k) % 2 ^ 64
  { t1 := w 0, t2 := w 1, t3 := w 2, p := signed64 (w 3), answer := (w 4).testBit 0, aligned := (w 4).testBit 1 }

def stampData (x : TimeStamps) : Block :=
  BitVec.ofNat 2048 (x.t1 % 2 ^ 64 + x.t2 % 2 ^ 64 * 2 ^ 64 + x.t3 % 2 ^ 64 * 2 ^ 128 + toTwos 64 x.p * 2 ^ 192 +
    ((if x.answer then 1 else 0) + if x.aligned then 2 else 0) * 2 ^ 256)

/-- A node's neighbour in a direction of a dimension. -/
def RouteCfg.neighbour (c : RouteCfg) (d : Nat) (minus : Bool) : Nat :=
  let n := c.size d
  let x := c.coord d c.nodeId
  let y := if minus then (x + n - 1) % n else (x + 1) % n
  c.nodeId - x * 2 ^ c.offset d + y * 2 ^ c.offset d

/-- The time parent and the hub whose port leads to it: the first node on the route toward TIME_REF. -/
def State.timeParent (s : State) : Option (Nat × Nat) :=
  match s.routeCfg with
  | none => none
  | some c =>
    match s.routeOf { blankPacket with dest := c.timeRef } with
    | .port t d minus => some (c.neighbour d minus, t / 4)
    | _ => none

/-- The package is the time reference: by its ROUTE frame, or because it has none (R372, R440). -/
def State.isTimeRef (s : State) : Bool := s.routeCfg.all fun c => c.timeRef == c.nodeId

/-- The package's own offset to the reference, as it tells its children. -/
def State.ownOffset (s : State) : Int :=
  if s.isTimeRef then 0
  else
    let v := s.rd .SVC_TIME_SYNC_OFFSET 0 0 0
    if v < 128 then v else (v : Int) - 256

/-- TIME_EXCHANGE: every PERIOD_US, by the value that stood at the last one (R88), a request to the parent; TIME_REF sets ALIGNED. -/
def State.timeExchange (s : State) : State :=
  let due := match s.timeAsk with
    | none => true
    | some t => decide (t.1 + t.2 ≤ s.now)
  let ask := some (s.now, Config.usTicks (s.rd .SVC_TIME_SYNC_PERIOD_US 0 0 0))
  if s.boot.stage != .running || !due then s
  else if s.isTimeRef then
    let t : State := { s with timeAsk := ask }
    (t.wr .SVC_TIME_SYNC_ALIGNED 0 0 0 1).wr .SVC_TIME_SYNC_OFFSET 0 0 0 0
  else match s.timeParent with
    | none => s
    | some (node, h) =>
      let t : State := { s with timeAsk := ask }
      t.sendPacket h { blankPacket with
        dest := node, mclass := 7, flits := 1, data := stampData { t1 := s.time64, t2 := 0, t3 := 0, p := 0, answer := false, aligned := false } }

def State.traceOff (s : State) : Bool := s.hubs.all fun h => s.rd .TRC_CTRL_ENABLE h 0 0 == 0

def clampInt (lo hi x : Int) : Int := max lo (min hi x)

/-- An exchange has measured the package's offset to the reference (R84, R85, R111). -/
def State.measured (s : State) (off : Int) : State :=
  let near := decide (-5 ≤ off) && decide (off ≤ 5)
  let step := !s.joined && !s.bit .SVC_TIME_SYNC_ALIGNED 0 0 0 && s.traceOff
  let t := s.wr .SVC_TIME_SYNC_OFFSET 0 0 0 (toTwos 8 (clampInt (-127) 127 off))
  let t := if near then t.wr .SVC_TIME_SYNC_ALIGNED 0 0 0 1 else t.dropAligned
  let clk := if step then { t.clk with stepped := t.clk.stepped + off, steer := 0 } else { t.clk with steer := off }
  { t with clk := clk, joined := true }

/-- The hub at which a packet was delivered. -/
def State.arrivedAt (s : State) (p : Packet) : Nat := ((s.fabRx.find? fun x => x.2 == p).map (·.1)).getD s.firstHub

/-- TIME: a request is answered; an answer to the last request, from a parent that is aligned, is used. -/
def State.timePacket (s : State) (p : Packet) : State :=
  if p.mclass ≠ 7 ∨ p.dest ≠ s.ownNode ∨ s.boot.stage ≠ .running then s
  else
    let h := s.arrivedAt p
    let t := s.taken h p
    let x := stampsOf p
    if x.answer then
      if x.aligned && s.timeAsk.any (fun y => ((y.1 : Int) + s.clk.stepped) == x.t1) && !s.isTimeRef then
        t.measured ((((x.t2 : Int) - x.t1) - ((s.time64 : Int) - x.t3)) / 2 + x.p)
      else t
    else t.sendPacket h { blankPacket with
      dest := p.src, mclass := 7, flits := 1,
      data := stampData { t1 := x.t1, t2 := s.time64, t3 := s.time64, p := s.ownOffset, answer := true, aligned := s.bit .SVC_TIME_SYNC_ALIGNED 0 0 0 } }

end Sys2Proof.Machine
end

