-- ==== Sys2Proof/Machine/Counters.lean ====
section
/-! DEFINITION. Faulting accesses, counters, counter slots, sample records and trace records (R5, R433, chapter 22). -/

namespace Sys2Proof.Machine

/-! ## Faulting accesses (R5, R433) -/

/-- SVC_ACC_ERR.REASON: the access breaks R4, no register, a field out of range, a write not allowed now. -/
def accR4 : Nat := 0
def accNone : Nat := 1
def accRange : Nat := 2
def accState : Nat := 3

def barCode : Bar → Nat
  | .bar0 => 0
  | .bar2 => 1
  | .bar4 => 2

/-- SVC_ACC_ERR.WIDTH. -/
def widthCode (n : Nat) : Nat := if n ≤ 1 then 0 else if n = 2 then 1 else if n ≤ 4 then 2 else 3

/-- A faulting access is recorded: the first is held until VALID is cleared, later ones only raise COUNT. -/
def State.accErr (s : State) (a : Access) (write : Bool) (reason : Nat) : State :=
  if s.bit .SVC_ACC_ERR_VALID 0 0 0 then s.count .SVC_ACC_ERR_COUNT 0x7FFF 0 0 0 1
  else ((((((s.wr .SVC_ACC_ERR_OFFSET 0 0 0 (a.off % 2 ^ 36)).wr .SVC_ACC_ERR_BAR 0 0 0 (barCode a.bar)).wr .SVC_ACC_ERR_FUNCTION 0 0 0 a.fn.val).wr
    .SVC_ACC_ERR_WRITE 0 0 0 (if write then 1 else 0)).wr .SVC_ACC_ERR_WIDTH 0 0 0 (widthCode a.width)).wr .SVC_ACC_ERR_REASON 0 0 0 reason).flag
    .SVC_ACC_ERR_VALID 0 0 0

/-- What a write to a register does: the state after it, or the reason for which it is discarded. -/
abbrev WriteResult := State ⊕ Nat

/-- A write's result, its refusal recorded (R5). -/
def State.settleWrite (s : State) (a : Access) (r : WriteResult) : State :=
  match r with
  | .inl t => t
  | .inr n => s.accErr a true n

/-- The place of an offset in a function's page (R432). -/
def fnAccess (f : FnNo) (o w : Nat) : Access := { bar := .bar0, fn := f, off := if f.val = 0 then 0x8000 + o else o, width := w }

/-! ## Events and permissions (R409, R413 to R415) -/

/-- The codes of R409. -/
def eventListed (n : Nat) : Bool := (decide (1 ≤ n) && decide (n ≤ 0x13)) || (decide (0x40 ≤ n) && decide (n ≤ 0x49)) || (decide (0x50 ≤ n) && decide (n ≤ 0x53))

/-- Events whose Filter column names CASEMENT. -/
def eventHasCas (n : Nat) : Bool := [0x02, 0x03, 0x04, 0x07, 0x09, 0x0E, 0x10, 0x41, 0x42, 0x43, 0x44, 0x45, 0x47].contains n

/-- COUNTER_PERM of a casement (R413). -/
def State.permOf (s : State) (c : Nat) : Nat := ((s.casementCfg c).map fun x => x.counterPerm.toNat).getD 0

def permBank (perm bank : Nat) : Bool := perm.testBit bank
def permLimit (perm bank : Nat) : Nat := if bank < 4 then perm / 2 ^ 8 % 256 else perm / 2 ^ 16 % 256
def permCore (perm : Nat) : Bool := perm.testBit 24
def permSample (perm : Nat) : Bool := perm.testBit 25
def permTrace (perm : Nat) : Bool := perm.testBit 26
def permGlobal (perm : Nat) : Bool := perm.testBit 27

/-! ## Counter slots (R414, R415) -/

def slotNo (f k : Nat) : Nat := 64 * f + k
def State.slotHolds (s : State) (f k : Nat) : Option Nat := Tab.get none s.slots (slotNo f k)

/-- The function and slot that hold counter k of a bank. -/
def State.holderOf (s : State) (bank k : Nat) : Option Nat := (s.slots.find? fun x => x.2 == some (32 * bank + k)).map fun x => x.1 / 64

def State.heldIn (s : State) (f bank : Nat) : Nat := (s.slots.filter fun x => x.1 / 64 == f && x.2.any fun n => n / 32 == bank).length

/-- The lowest-numbered counter of a bank that no function holds and the physical function does not use. -/
def State.freeCounter (s : State) (bank : Nat) : Option Nat :=
  (List.range 32).find? fun k => (s.holderOf bank k).isNone && s.rd .CNT_CFG_ENABLE bank k 0 == 0

/-- A slot gives up its counter. -/
def State.freeSlot (s : State) (f k : Nat) : State :=
  match s.slotHolds f k with
  | some n => { s.wr .CNT_CFG_ENABLE (n / 32) (n % 32) 0 0 with slots := Tab.put none s.slots (slotNo f k) none }
  | none => s

/-- The counter banks that exist. -/
def State.bankIn (s : State) (bank : Nat) : Bool := if bank < 4 then s.hubIn bank else s.cdieIn (bank - 4)

/-- Counter n of a bank is set up for a slot of casement c: its value restarts at 0, and a casement other than 0 counts its own events (R415). -/
def State.setCounter (s : State) (bank n c v : Nat) : State :=
  let ev := v % 256
  let own := c != 0 && eventHasCas ev
  let t := ((s.wr .CNT_CFG_EVENT bank n 0 ev).wr .CNT_CFG_UNIT bank n 0 (v / 2 ^ 8 % 128)).wr .CNT_CFG_SUB bank n 0 (v / 2 ^ 16 % 16)
  let t := (t.wr .CNT_CFG_SUB_EN bank n 0 (v / 2 ^ 20 % 2)).wr .CNT_CFG_CASEMENT bank n 0 (if c = 0 then v / 2 ^ 21 % 32 else c)
  let t := t.wr .CNT_CFG_CAS_EN bank n 0 (if c = 0 then v / 2 ^ 26 % 2 else if own then 1 else 0)
  ((t.wr .CNT_CFG_ENABLE bank n 0 1).wr .CNT_CFG_OVF bank n 0 0).wr .CNT_VALUE_VALUE bank n 0 0

/-- A function writes FN_CNT_CFG of slot k (R409, R414, R415). -/
def State.fnCntCfg (s : State) (f k v : Nat) : WriteResult :=
  match s.casOfFn f with
  | none => .inr accNone
  | some c =>
    let ev := v % 256
    let bank := v / 2 ^ 29 % 8
    if !eventListed ev then .inr accRange
    else
      let t := s.freeSlot f k
      let t := ((t.wr .FN_CNT_CFG_EVENT f k 0 ev).wr .FN_CNT_CFG_UNIT f k 0 (v / 2 ^ 8 % 128)).wr .FN_CNT_CFG_SUB f k 0 (v / 2 ^ 16 % 16)
      let t := ((t.wr .FN_CNT_CFG_SUB_EN f k 0 (v / 2 ^ 20 % 2)).wr .FN_CNT_CFG_CASEMENT f k 0 (v / 2 ^ 21 % 32)).wr .FN_CNT_CFG_CAS_EN f k 0 (v / 2 ^ 26 % 2)
      let t := ((t.wr .FN_CNT_CFG_ENABLE f k 0 (v / 2 ^ 27 % 2)).wr .FN_CNT_CFG_ALLOC_ERR f k 0 (v / 2 ^ 28 % 2)).wr .FN_CNT_CFG_BANK f k 0 bank
      if v / 2 ^ 27 % 2 = 0 then .inl t
      else
        let perm := s.permOf c
        let ok := permBank perm bank && s.bankIn bank && decide (t.heldIn f bank < permLimit perm bank) && (c == 0 || eventHasCas ev || permGlobal perm)
        match (if ok then t.freeCounter bank else none) with
        | some n => .inl ({ t with slots := Tab.put none t.slots (slotNo f k) (some (32 * bank + n)) }.setCounter bank n c v)
        | none => .inl (t.wr .FN_CNT_CFG_ALLOC_ERR f k 0 1)

/-- A write to CNT_CFG by the physical function: a counter that another casement holds is its own (R409, R414). -/
def State.cntCfgWrite (s : State) (bank k v : Nat) : Option Nat :=
  if !eventListed (v % 256) then some accRange
  else match s.holderOf bank k with
    | some f => if s.casOfFn f = some 0 then none else some accState
    | none => none

/-- A casement reset clears the allocations of its function (R105). -/
def State.freeSlots (s : State) (f : Nat) : State :=
  let t := (List.range 64).foldl (fun t k => t.freeSlot f k) s
  { t with regs := t.regs.keep fun k => !(k.d == f && (fieldsOf .FN_CNT_CFG).any fun r => r.f == k.f) }

/-! ## Reading counters (R411, R412, R415) -/

/-- A counter of a bank is read: CNT_READ_TIME takes the tick. -/
def State.readCounter (s : State) (bank : Nat) : State := s.wr .CNT_READ_TIME_TICK bank 0 0 s.time64

/-- The value that FN_CNT_VALUE of a slot shows. -/
def State.slotValue (s : State) (f k : Nat) : Nat :=
  match s.slotHolds f k with
  | some n => s.rd .CNT_VALUE_VALUE (n / 32) (n % 32) 0
  | none => 0

/-- The core that FN_CCNT_SEL names, if its function may read it. -/
def State.fnCore (s : State) (f : Nat) : Option CorePos :=
  let r := s.rd .FN_CCNT_SEL_RANK f 0 0
  let p : CorePos := { d := r / 8192, k := r % 8192 / 64, c := r % 64 }
  match s.casOfFn f with
  | none => none
  | some c => if permCore (s.permOf c) && decide (p.k < 100) && s.cdieIn p.d && (s.cluster p.d p.k).lastCas == some c then some p else none

/-- CNT_FREEZE_AT is written: the bank waits for its tick; one that is past freezes at once (R412). -/
def State.freezeAt (s : State) (bank v : Nat) : State :=
  let t := s.wr .CNT_FREEZE_AT_TICK bank 0 0 v
  if v ≤ s.time64 then { t.wr .CNT_CTRL_FROZEN bank 0 0 1 with freezeArm := Tab.put false s.freezeArm bank false }
  else { t with freezeArm := Tab.put false s.freezeArm bank true }

/-- FREEZE: the tick has come. -/
def State.freeze (s : State) (bank : Nat) : State :=
  if Tab.get false s.freezeArm bank && decide (s.rd .CNT_FREEZE_AT_TICK bank 0 0 ≤ s.time64) then
    { s.wr .CNT_CTRL_FROZEN bank 0 0 1 with freezeArm := Tab.put false s.freezeArm bank false }
  else s

def State.thaw (s : State) (bank : Nat) : State := s.wr .CNT_CTRL_FROZEN bank 0 0 0

/-! ## Sampling (R416 to R418) -/

/-- Sampler k starts from its seed: hub k, or compute die k − 4. -/
def State.startSampler (s : State) (k seed period jitter : Nat) : State :=
  let x := Tab.get SamplerSt.reset s.samplers k
  { s with samplers := Tab.put SamplerSt.reset s.samplers k { x with lfsr := seed, left := period + (seed &&& jitter) } }

/-- SMP_CTRL is written: a casement other than 0 needs its sampling bit (R418). -/
def State.smpCtrl (s : State) (h en cas size : Nat) : WriteResult :=
  if en = 1 ∧ cas ≠ 0 ∧ permSample (s.permOf cas) = false then .inr accState
  else
    let t := ((s.wr .SMP_CTRL_ENABLE h 0 0 en).wr .SMP_CTRL_CASEMENT h 0 0 cas).wr .SMP_CTRL_SIZE_LOG2 h 0 0 size
    if en = 1 ∧ s.rd .SMP_CTRL_ENABLE h 0 0 = 0 then
      .inl (t.startSampler h (s.rd .SMP_SEED_SEED h 0 0) (s.rd .SMP_PERIOD_PERIOD h 0 0) (s.rd .SMP_PERIOD_JITTER h 0 0))
    else .inl t

/-- CMP_SMP_CTRL, alike. -/
def State.cmpSmpCtrl (s : State) (d en cas : Nat) : WriteResult :=
  if en = 1 ∧ cas ≠ 0 ∧ permSample (s.permOf cas) = false then .inr accState
  else
    let t := (s.wr .CMP_SMP_CTRL_ENABLE d 0 0 en).wr .CMP_SMP_CTRL_CASEMENT d 0 0 cas
    if en = 1 ∧ s.rd .CMP_SMP_CTRL_ENABLE d 0 0 = 0 then
      .inl (t.startSampler (4 + d) (s.rd .CMP_SMP_SEED_SEED d 0 0) (s.rd .CMP_SMP_PERIOD_PERIOD d 0 0) (s.rd .CMP_SMP_PERIOD_JITTER d 0 0))
    else .inl t

/-- A difference of two clock counts, saturating (R417). -/
def delta16 (a b : Nat) : Nat := Nat.min 0xFFFF (b - a)

/-- The four words of a sample record (R417). -/
def SampleRec.words (r : SampleRec) : BitVec 256 :=
  let flag := if r.hinge then 2 ^ 24 else 0
  let w1 := if r.kind = 0 then
      r.cas * 4 + r.cls * 2 ^ 7 + r.door * 2 ^ 10 + r.pc * 2 ^ 14 + r.hp * 2 ^ 21 + flag + r.status * 2 ^ 32 + r.seq * 2 ^ 48
    else 1 + r.cas * 4 + r.hp * 2 ^ 21 + flag + r.cls * 2 ^ 25 + r.seq * 2 ^ 48
  let w3 := if r.kind = 0 then
      delta16 r.arrC r.admC + 2 ^ 16 * delta16 r.admC r.firstC + 2 ^ 32 * delta16 r.firstC r.lastC + 2 ^ 48 * delta16 r.lastC r.respC
    else delta16 r.arrC r.admC + 2 ^ 16 * delta16 r.admC r.lastC
  BitVec.ofNat 256 (r.arrT + 2 ^ 64 * w1 + 2 ^ 128 * (r.addr % 2 ^ 64) + 2 ^ 192 * w3)

/-- Take the first finished record of sampler k. -/
def State.takeRecord (s : State) (k : Nat) : Option (SampleRec × State) :=
  let x := Tab.get SamplerSt.reset s.samplers k
  (x.recs.find? fun r => r.done).map fun r => (r, { s with samplers := Tab.put SamplerSt.reset s.samplers k { x with recs := x.recs.erase r } })

/-- A hub's traffic of its own may enter its doors: no power-fail, no hinge (R146, R210). -/
def State.recordsFlow (s : State) : Bool := s.clk.run && !s.draining && !s.pf1 && s.hinge.step == 0

/-- The way of sample and trace records: writes of a casement that enter D5 of the hub (R418, R421). -/
def recordVia (h : Nat) (cls : ReqClass) (cas : Nat) : Via := { hub := h, door := 5, cls := cls, cas := cas, ovr := none }

/-- SAMPLE_RECORD: the next finished record of the hub, or of its compute die, goes to the ring, or is dropped where that is full (R418). -/
def State.sampleRecord (s : State) (h : Nat) : State :=
  if s.recordsFlow && s.hubIn h && s.viaOpen (recordVia h .normal (s.rd .SMP_CTRL_CASEMENT h 0 0)) (s.rd .SMP_BASE_ADDR h 0 0 * 32 + 32 * s.rd .SMP_PTR_WP h 0 0) true then
    match (s.takeRecord h).orElse fun _ => s.takeRecord (4 + h) with
    | none => s
    | some (r, t) =>
      let n := 2 ^ s.rd .SMP_CTRL_SIZE_LOG2 h 0 0
      let wp := s.rd .SMP_PTR_WP h 0 0
      if (wp + 1) % n = s.rd .SMP_RP_RP h 0 0 then t.count .SMP_STATUS_DROPPED top32 h 0 0 1
      else
        ((t.storeBytes (recordVia h .normal (s.rd .SMP_CTRL_CASEMENT h 0 0)) (s.rd .SMP_BASE_ADDR h 0 0 * 32 + 32 * wp) r.words (BitVec.allOnes 32) false true).1).wr
          .SMP_PTR_WP h 0 0 ((wp + 1) % n)
  else s

/-! ## Trace (R419 to R421) -/

/-- The four words of a trace record (R420). -/
def TraceRec.words (r : TraceRec) (seq : Nat) : Nat :=
  r.time % 2 ^ 64 + 2 ^ 64 * (r.typ + 2 ^ 8 * (seq % 2 ^ 16) + 2 ^ 24 * r.die + 2 ^ 27 * r.cas + 2 ^ 32 * (r.unit % 2 ^ 15)) +
    2 ^ 128 * (Config.tracePayload r.typ r.payload).toNat

/-- Eight records as a block, numbered on from `seq`. -/
def traceBlock : List TraceRec → Nat → Nat → Nat
  | [], _, _ => 0
  | r :: t, seq, k => r.words seq * 2 ^ (256 * k) + traceBlock t (seq + 1) (k + 1)

/-- The records of every cluster of die d move to the die FIFO, and those of the die to its home hub (R419). -/
def State.forwardTrace (s : State) (d : Nat) : State :=
  let t := ((s.clusters.filter fun x => x.1 / 100 == d && !x.2.fifo.isEmpty).map fun x => x.1 % 100).foldl (fun t k =>
    let y := t.cluster d k
    y.fifo.foldl (fun t r => t.pushDie d r) (t.setCluster d k { y with fifo := [] })) s
  let x := t.tracer d
  x.dieFifo.foldl (fun t r =>
    let y := t.tracer d
    let f := fifoPush 4096 2 y.fifo y.lost r
    let u := t.setTracer d { y with fifo := f.1, lost := f.2 }
    if f.2 = 0 then u else u.count .TRC_STATUS_LOST 16777215 d 0 0 1) (t.setTracer d { x with dieFifo := [] })

/-- TRACE_RECORD: records move on towards hub h's trace unit, and eight of them leave for the ring (R421). -/
def State.traceRecord (s : State) (h : Nat) : State :=
  if s.pf2 || !s.hubIn h then s
  else
    let t := s.forwardTrace h
    let x := t.tracer h
    let n := 2 ^ s.rd .TRC_CTRL_SIZE_LOG2 h 0 0
    let wp := s.rd .TRC_PTR_WP h 0 0
    let used := (wp + n - s.rd .TRC_RP_RP h 0 0) % n
    let v := recordVia h .bulk (s.rd .TRC_CTRL_CASEMENT h 0 0)
    let at_ := s.rd .TRC_BASE_ADDR h 0 0 * 256 + 32 * wp
    if s.recordsFlow && s.viaOpen v at_ true && s.rd .TRC_CTRL_ENABLE h 0 0 == 1 && decide (8 ≤ x.fifo.length) && decide (used + 8 < n) then
      let b := BitVec.ofNat 2048 (traceBlock (x.fifo.take 8) x.seq 0)
      let u := t.setTracer h { x with fifo := x.fifo.drop 8, seq := x.seq + 8 }
      (u.storeBlock v at_ b 0).1.wr .TRC_PTR_WP h 0 0 ((wp + 8) % n)
    else t

/-- Whether every pseudo-channel of the pane that holds an address runs in per-bank mode (R187, R421). -/
def State.perBankAt (s : State) (addr : Nat) : Bool :=
  (s.panesAt addr).all fun p => (rankedPcs p.mask).all fun q => !(s.pc q.1 q.2).allBank

/-- TRC_CTRL is written (R421). -/
def State.trcCtrl (s : State) (h v : Nat) : WriteResult :=
  let en := v % 2
  let cas := v / 2 % 32
  let size := v / 2 ^ 8 % 32
  if size < 6 ∨ 24 < size then .inr accRange
  else if en = 1 ∧ cas ≠ 0 ∧ permTrace (s.permOf cas) = false then .inr accState
  else if en = 1 ∧ s.perBankAt (s.rd .TRC_BASE_ADDR h 0 0 * 256) = false then .inl (s.flag .TRC_STATUS_BAD_BUF h 0 0)
  else .inl ((((s.wr .TRC_CTRL_ENABLE h 0 0 en).wr .TRC_CTRL_CASEMENT h 0 0 cas).wr .TRC_CTRL_CMDS h 0 0 (v / 2 ^ 6 % 2)).wr .TRC_CTRL_SIZE_LOG2 h 0 0 size)

/-- At a casement reset the units and samplers of the casement are disabled and their records discarded (R423). -/
def State.stopRecorders (s : State) (c : Nat) : State :=
  allHubs.foldl (fun t h =>
    let t := if t.rd .TRC_CTRL_ENABLE h 0 0 = 1 ∧ t.rd .TRC_CTRL_CASEMENT h 0 0 = c then
        (t.wr .TRC_CTRL_ENABLE h 0 0 0).setTracer h { t.tracer h with fifo := [], dieFifo := [] } else t
    let t := if t.rd .SMP_CTRL_ENABLE h 0 0 = 1 ∧ t.rd .SMP_CTRL_CASEMENT h 0 0 = c then
        { t.wr .SMP_CTRL_ENABLE h 0 0 0 with samplers := Tab.put SamplerSt.reset t.samplers h { Tab.get SamplerSt.reset t.samplers h with recs := [] } } else t
    if t.rd .CMP_SMP_CTRL_ENABLE h 0 0 = 1 ∧ t.rd .CMP_SMP_CTRL_CASEMENT h 0 0 = c then
      { t.wr .CMP_SMP_CTRL_ENABLE h 0 0 0 with samplers := Tab.put SamplerSt.reset t.samplers (4 + h) { Tab.get SamplerSt.reset t.samplers (4 + h) with recs := [] } }
    else t) s

end Sys2Proof.Machine
end

