-- ==== Sys2Proof/Machine/CaseReset.lean ====
section
/-! DEFINITION. Casement reset: its start, its completion, and the ways it is asked for (R105 to R107, R147, R151, R330, R334, R355, R369, R376). -/

namespace Sys2Proof.Machine

def State.isResetting (s : State) (c : Nat) : Bool := Tab.get false s.resetting c

/-! ## The start (R106, R147, R151, R334) -/

/-- Queued reads of a casement still issue; their data is discarded. -/
def PcSt.dropCas (x : PcSt) (c : Nat) : PcSt :=
  { x with queue := x.queue.map fun e => if e.r.cas = c ∧ e.r.write = false then { e with drop := true } else e }

/-- A command in progress issues nothing more and ends with CASEMENT_RESET; host reads it waits for are forgotten. -/
def Cmd.cut (c : Cmd) (hostRd : List (Nat × Nat)) : Cmd :=
  if c.started && c.ended.isNone then
    { c.failed .casementReset with flight := c.flight - (hostRd.filter fun x => x.1 == c.idx).length }
  else c

def State.cutQueue (s : State) (q : QueueId) : State :=
  let x := s.queue q
  s.setQueue q { x with cmds := x.cmds.map (fun c => c.cut x.hostRd), hostRd := [] }

/-- Staged fence changes, hinge waits and reset waits of a queue are given up. -/
def State.dropWaits (s : State) (q : QueueId) : State :=
  let keep (x : Staged) : Bool := match x.change with
    | .fenceAdd k _ _ _ => k != q
    | .fenceDel k _ _ _ => k != q
    | _ => true
  let t : State := { s with staged := s.staged.filter keep, caseWait := s.caseWait.filter fun x => x.1 != q }
  t.setHinge fun x => { x with waiters := x.waiters.filter (fun k => k != q), runners := x.runners.filter (fun k => k != q) }

/-- RING commands of a queue issue no further message (R369). -/
def State.cutColls (s : State) (q : QueueId) : State :=
  (s.colls.filter fun x => x.q == q).foldl (fun t x => t.endColl x.q x.idx .casementReset) s

/-- Page reads of the casement that wait for a fetch are answered (R393). -/
def State.cutPgWaits (s : State) (c : Nat) : State :=
  (s.pgWaits.filter fun w => w.msg.cas == c).foldl (fun t w => t.answerDie w.die (pgRsp w.msg .casementReset 0))
    { s with pgWaits := s.pgWaits.filter fun w => w.msg.cas != c }

/-- A casement reset of casement c begins; one that runs already, or a drain, leaves nothing to do (R107). -/
def State.startCasReset (s : State) (c : Nat) : State :=
  if s.draining || s.isResetting c then s
  else
    let mine (r : Req) : Bool := r.cas == c
    let t := ({ s with resetting := Tab.put false s.resetting c true } : State).abortFor c
    let qs := t.queuesOfCas c
    let t := qs.foldl (fun t q => (t.cutQueue q).dropWaits q) t
    let t := qs.foldl (fun t q => t.cutColls q) t
    let t := (t.kernels.filter fun k => k.cas == c).foldl (fun t k => t.stopKernel k .casementReset) t
    let t := t.hubs.foldl (fun t h => ((t.dropDoors h mine .casementReset).dropRing h mine .casementReset).mapPcs h fun x => x.dropCas c) t
    let t := t.undoCopies fun x => x.cas == c
    let t : State := { t with pools := t.pools.map fun x => if x.1 / 16 = c then (x.1, { x.2 with held := [] }) else x }
    ((t.cutPgWaits c).freeExpanders (fun x => x.owner == some c) .casementReset).stopRecorders c

/-! ## The end (R105, R106, R334) -/

/-- What a queue must write: every command that had started, or had ended, in ring order, but those that ended with DONE and asked for no record. -/
def QSt.resetCmds (x : QSt) : List (Cmd × Status) :=
  (x.cmds.filter fun c => c.started || c.ended.isSome).filterMap fun c =>
    let st := c.ended.getD .casementReset
    if c.fld 0 10 1 = 1 ∧ st = .done ∧ c.unread = false then none else some (c, st)

/-- Nothing of the casement is outstanding. -/
def State.casIdle (s : State) (c : Nat) : Bool :=
  Tab.get 0 s.outCas c == 0 && s.kernels.all (fun k => k.cas != c) && s.copies.all (fun x => x.cas != c) &&
  (s.queuesOfCas c).all fun q => s.ports.all fun x => x.2.repair.all fun r => r.q != q

/-- The registers of a queue window take their Reset values (R105). -/
def queueRegs : List Reg := [.QUEUE_BASE, .QUEUE_CPL_BASE, .QUEUE_SIZE, .QUEUE_CTRL, .QUEUE_STATUS, .QUEUE_STATE, .QUEUE_WDOG]

def isQueueFld (f : Fld) : Bool := queueRegs.any fun r => (fieldsOf r).any fun x => x.f == f

def State.resetQueue (s : State) (q : QueueId) : State :=
  { s.setQueue q QSt.reset with regs := s.regs.keep fun k => !(k.d == qd q && k.i == q.idx.val && isQueueFld k.f) }

/-- Every record of a queue, in ring order, as far as its completion ring has room (R315; the completion waits for no room, R106: log entry 97); then its registers. -/
def State.closeQueue (s : State) (q : QueueId) : State :=
  ((s.queue q).resetCmds.foldl (fun t x => if !t.cplFull q then (t.writeRecord q x.1 x.2).1 else t) s).resetQueue q

/-- The 64 MSI-X entries of a casement are masked and set to their Reset values (R105). -/
def State.resetVectors (s : State) (c : Nat) : State :=
  match s.casementCfg c with
  | some x => { s with msix := s.msix.filter fun y => y.1 / 64 != x.msixBlock }
  | none => s

/-- The sync counters of a casement become 0 (R334). -/
def State.resetSync (s : State) (c : Nat) : State := (List.range 16).foldl (fun t k => t.wr .SYNC_CNT_VALUE c k 0 0) s

/-- HUB commands CASE_RESET that wait for this casement complete (R330). -/
def State.casWaiters (s : State) (c : Nat) : State :=
  (s.caseWait.filter fun x => x.2.2 == c).foldl (fun t x => t.endCmd x.1 x.2.1 .done) { s with caseWait := s.caseWait.filter fun x => x.2.2 != c }

/-- CASEMENT_RESET_COMPLETE: the casement's outstanding count is zero. -/
def State.casResetComplete (s : State) (c : Nat) : State :=
  if s.isResetting c && s.casIdle c then
    let t := (s.queuesOfCas c).foldl (fun t q => t.closeQueue q) s
    let t := ((t.resetVectors c).resetSync c).wr .SVC_WIN_BASE_BASE 0 c 0 0
    let t := match t.fnOfCas c with
      | some f => t.freeSlots f
      | none => t
    let t : State := { t with resetting := Tab.put false t.resetting c false }
    let t := match t.fnOfCas c with
      | some f => t.fnEvent f .resetDone
      | none => t
    t.casWaiters c
  else s

/-! ## Who asks (R107, R330, R376) -/

/-- SVC_CASE_RST: a bit for each casement. -/
def State.caseRst (s : State) (v : Nat) : State := ((List.range 32).filter fun c => v.testBit c).foldl (fun t c => t.startCasReset c) s

/-- FN_RESET.CASE_SELF_RST of a function. -/
def State.caseSelfRst (s : State) (f : Nat) : State :=
  match s.casOfFn f with
  | some c => s.startCasReset c
  | none => s

def caseResetChecks (c : Cmd) : List Status := if c.fld 1 0 5 = 0 then [.badCommand] else []

/-- CASE_RESET of the HUB engine: it completes with the reset. -/
def State.runCaseReset (s : State) (q : QueueId) (c : Cmd) : State :=
  ({ s with caseWait := s.caseWait ++ [(q, c.idx, c.fld 1 0 5)] } : State).startCasReset (c.fld 1 0 5)

/-- A function's configuration state takes its values of a Function Level Reset; the number of its next access goes on. -/
def State.resetFn (s : State) (f : Nat) : State := s.setFn f { FnSt.reset with next := (s.fnSt f).next }

/-- A Function Level Reset (R376). -/
def State.flr (s : State) (f : Nat) : State :=
  if f = 0 then (List.range 32).foldl (fun t c => if c = 0 ∨ (t.casementCfg c).isSome then t.startCasReset c else t) (s.resetFn 0)
  else (s.resetFn f).caseSelfRst f

end Sys2Proof.Machine
end

