-- ==== Sys2Proof/Machine/Host.lean ====
section
/-! DEFINITION. The PCIe endpoint: configuration space, BAR2 accesses, MSI-X masking (chapter 20; R100, R101). -/

namespace Sys2Proof.Machine

/-! ## The link (R74, R100, R386) -/

/-- The link is up: the main domain is powered, no reset of the link is in force, and no warm reset drains the stacks. -/
def State.linkUp (s : State) : Bool :=
  s.board.pkgRst && s.board.perst && s.board.pwrGood && (s.boot.stage != .drained || s.pf2)

/-- PCIe readiness of the start in hand, or what followed it. -/
def State.hostReady (s : State) : Bool :=
  match s.boot.stage with
  | .running => true
  | .stopped => true
  | .bringUp => decide (3 ≤ s.phase)
  | .drained => s.pf2
  | .coldNext => s.pf2
  | .cold => false

/-- The start in hand, or the last one, reached READY: it runs, or PF2 put it back after phase 15 and no later start has begun (R101). -/
def State.readied (s : State) : Bool := s.boot.stage == .running || (s.pf2 && s.phase == 15)

/-- A function whose casement is being reset (R386). -/
def State.fnResetting (s : State) (f : Nat) : Bool := (s.casOfFn f).any s.isResetting

/-! ## MSI-X (R384) -/

/-- Held messages of function f that nothing masks any more are sent. -/
def State.release (s : State) (f : Nat) : State :=
  (List.range 64).foldl (fun t v =>
    match t.msixKey f v with
    | none => t
    | some k =>
      let e := t.msixAt k
      let x := t.fnSt f
      if e.pend && !e.masked && !x.fmask && x.bme && x.msixEn then (t.setMsix k { e with pend := false }).emit (.msix f v e.addr e.data) else t) s

/-- The mask bit of a vector is cleared: a held message is sent. -/
def State.msixUnmask (s : State) (f v : Nat) : State :=
  match s.msixKey f v with
  | none => s
  | some k => (s.setMsix k { s.msixAt k with masked := false }).release f

/-! ## Configuration space (R375 to R377; its layout is the model's, log entry 38) -/

/-- BAR registers: what the host wrote, with the bits that the BAR's size fixes at 0 and its type (R378). -/
def barRead (n : Nat) (v : BitVec 32) : BitVec 32 :=
  match n with
  | 0 => (v &&& 0xFC000000#32) ||| 4
  | 2 => 12
  | 3 => v &&& 0xFFFFFFF0#32
  | 4 => (v &&& 0xFFFC0000#32) ||| 4
  | _ => v

def boolBit (b : Bool) (n : Nat) : BitVec 32 := if b then BitVec.ofNat 32 (2 ^ n) else 0

/-- The value of a configuration register, where the spec or PCI Express fixes it. -/
def State.cfgValue (s : State) (f off : Nat) : Option (BitVec 32) :=
  let x := s.fnSt f
  match off with
  | 0x00 => some (if f = 0 then 0x5A401D7A#32 else 0x5A411D7A#32)
  | 0x04 => some (boolBit x.mse 1 ||| boolBit x.bme 2 ||| boolBit true 20)
  | 0x08 => some (BitVec.ofNat 32 (0x12000000 + s.fuse.stepping % 256))
  | 0x10 => some (if f = 0 then barRead 0 (x.bars.getD 0 0) else 0)
  | 0x14 => some (if f = 0 then barRead 1 (x.bars.getD 1 0) else 0)
  | 0x18 => some (if f = 0 then barRead 2 (x.bars.getD 2 0) else 0)
  | 0x1C => some (if f = 0 then barRead 3 (x.bars.getD 3 0) else 0)
  | 0x20 => some (if f = 0 then barRead 4 (x.bars.getD 4 0) else 0)
  | 0x24 => some (if f = 0 then barRead 5 (x.bars.getD 5 0) else 0)
  | 0x34 => some 0x40#32
  | 0x40 => some 0x00036001#32
  | 0x44 => some (if x.d3 then 3 else 0)
  | 0x60 => some (0x003F7011#32 ||| boolBit x.fmask 30 ||| boolBit x.msixEn 31)
  | 0x64 => some 0x00030004#32
  | 0x68 => some 0x00030804#32
  | 0x70 => some 0x00020010#32
  -- Max Payload Size 512, Extended Tag; 32 GT/s, x16, Data Link Layer Link Active; timeout ranges A to D, 10-bit tags; the five speeds (R375)
  | 0x74 => some 0x10000022#32
  | 0x7C => some 0x00100105#32
  | 0x94 => some 0x0003001F#32
  | 0x9C => some 0x0000003E#32
  | 0x100 => some 0x18020001#32
  | 0x104 => some (boolBit x.aerPoison 26)
  -- ARI, and on the physical function SR-IOV, Device Serial Number, Secondary PCI Express, Data Link Feature, 16.0 and 32.0 GT/s, Lane Margining (R375)
  | 0x180 => some (if f = 0 then 0x1401000E#32 else 0x0001000E#32)
  | 0x140 => if f = 0 then some 0x19010010#32 else none
  | 0x190 => if f = 0 then some 0x1A010003#32 else none
  | 0x1A0 => if f = 0 then some 0x1D010019#32 else none
  | 0x1D0 => if f = 0 then some 0x1E010025#32 else none
  | 0x1E0 => if f = 0 then some 0x21010026#32 else none
  | 0x210 => if f = 0 then some 0x2401002A#32 else none
  | 0x240 => if f = 0 then some 0x00010027#32 else none
  | 0x148 => if f = 0 then some (boolBit x.vfEnable 0) else none
  | 0x14C => if f = 0 then some 0x001F001F#32 else none
  | _ => none

/-- Bit n of a word that the host writes. -/
def wbit (v : BitVec 32) (n : Nat) : Bool := v.getLsbD n

/-- A configuration write. -/
def State.cfgWrite (s : State) (f off : Nat) (v : BitVec 32) : State :=
  let x := s.fnSt f
  match off with
  | 0x04 => (s.setFn f { x with mse := wbit v 1, bme := wbit v 2 }).release f
  | 0x10 => if f = 0 then s.setFn f { x with bars := x.bars.set 0 v } else s
  | 0x14 => if f = 0 then s.setFn f { x with bars := x.bars.set 1 v } else s
  | 0x18 => if f = 0 then s.setFn f { x with bars := x.bars.set 2 v } else s
  | 0x1C => if f = 0 then s.setFn f { x with bars := x.bars.set 3 v } else s
  | 0x20 => if f = 0 then s.setFn f { x with bars := x.bars.set 4 v } else s
  | 0x24 => if f = 0 then s.setFn f { x with bars := x.bars.set 5 v } else s
  | 0x44 => if v.toNat % 4 = 3 then s.setFn f { x with d3 := true } else if v.toNat % 4 = 0 then s.setFn f { x with d3 := false } else s
  | 0x60 => (s.setFn f { x with fmask := wbit v 30, msixEn := wbit v 31 }).release f
  | 0x78 => if wbit v 15 then s.flr f else s
  | 0x104 => if wbit v 26 then s.setFn f { x with aerPoison := false } else s
  | 0x148 =>
    if f = 0 then
      let t := s.setFn 0 { x with vfEnable := wbit v 0 }
      if wbit v 0 then t else (List.range 31).foldl (fun t k => t.resetFn (k + 1)) t
    else s
  | _ => s

/-- CONFIGURATION_REQUEST: answered, or CRS before readiness, for virtual functions before READY, and while the function's casement is being reset (R100, R101, R377, R386). -/
def State.configRequest (s : State) (f off : Nat) (w : Option (BitVec 32)) : State :=
  if !s.linkUp then s
  else if !s.hostReady || (f != 0 && !s.readied) || s.fnResetting f then s.emit (.config f none)
  else if f ≠ 0 ∧ (s.fnSt 0).vfEnable = false then s.emit (.hostUr f)
  else
    match w with
    | some v => (s.cfgWrite f off v).emit (.config f (some 0))
    | none =>
      match s.cfgValue f off with
      | some v => s.emit (.config f (some v))
      | none => s.drawn.emit (.config f (some (BitVec.ofNat 32 (Config.freeWord s.free).toNat)))

/-- FLR row. -/
def State.flrRequest (s : State) (f : Nat) : State :=
  if s.linkUp && s.hostReady && (f == 0 || ((s.fnSt 0).vfEnable && s.boot.stage == .running)) then s.flr f else s

/-! ## BAR2 (R101, R122, R377 to R382, R386) -/

/-- How the endpoint treats a memory access of a function before any address is decoded. -/
inductive HostGate where
  | gone | ur | noReg | ones | refused | ok
  deriving DecidableEq, Repr

/-- The gates of an access to a BAR; `early` holds for the window that answers before READY. -/
def State.hostGate (s : State) (f : Nat) (early : Bool) : HostGate :=
  if !s.linkUp then .gone
  else if !s.hostReady then .ur
  else if f ≠ 0 ∧ (s.fnSt 0).vfEnable = false then .ur
  else if (s.fnSt f).d3 || !(s.fnSt f).mse then .ur
  else if f ≠ 0 ∧ (s.casOfFn f).isNone then .noReg
  else if early then .ok
  else if s.pf2 then .ones
  else if s.boot.stage ≠ .running then .noReg
  else if s.fnResetting f then .refused
  else .ok

/-- The parts of an access: it is split at 256-byte boundaries (R380). -/
def splitAt256 : Nat → Nat → Nat → List (Nat × Nat)
  | 0, _, _ => []
  | k + 1, a, n => if n = 0 then [] else
      let m := Nat.min n (256 - a % 256)
      (a, m) :: splitAt256 k (a + m) (n - m)

/-- A part that lies within one sector is a sector request. -/
def partSector (x : Nat × Nat) : Bool := decide (x.1 % 32 + x.2 ≤ 32)
def partBase (x : Nat × Nat) : Nat := if partSector x then x.1 / 32 * 32 else x.1 / 256 * 256

/-- The device address of a function's BAR2 offset (R122, R123). -/
def State.winAddr (s : State) (f off : Nat) : Nat :=
  s.rd .SVC_WIN_BASE_BASE 0 ((s.casOfFn f).getD 0) 0 * 2 ^ 21 + off

/-- A request of part k of access `no` (R380). -/
def State.hostReq (s : State) (f no k : Nat) (x : Nat × Nat) (write : Bool) (data : Nat) : Req :=
  let o := x.1 - partBase x
  { plainReq (.host f no k) ((Config.classOf (s.rd .FN_CTRL_HOST_CLASS f 0 0)).getD .normal) ((s.casOfFn f).getD 0) f (partBase x) write with
    sector := partSector x, mask := BitVec.ofNat 256 ((2 ^ x.2 - 1) * 2 ^ o), data := BitVec.ofNat 2048 (data * 2 ^ (8 * o)) }

/-- Send a part through D5 of the owning hub: none where there is no credit; the second part says whether it was refused. -/
def State.hostSend (s : State) (r : Req) : Option (State × Bool) :=
  let h := s.owningHub r.addr
  if s.hubIn h = false then none
  else match s.decode h { r := r, ovr := none, ovrMay := false } with
    | .inl x => some (s.recordRefusal h 5 r x, true)
    | .inr r' =>
      if s.doorRoom h 5 r'.cls then
        let b := s.beginReq r'
        some (b.1.dispatchReq 5 b.2, false)
      else none

/-- An access in flight of a function comes from a write before access `no` that no queue has admitted. -/
def Req.hostWriteBefore (r : Req) (f no : Nat) : Bool :=
  match r.org with
  | .host g n _ => r.write && g == f && decide (n < no)
  | _ => false

def State.earlierWrites (s : State) (f no : Nat) : Bool :=
  (allHubs.any fun h => ((List.range 9).any fun d => (s.door h d).inUse.any fun r => r.hostWriteBefore f no) ||
    (s.ringAt h 0 ++ s.ringAt h 1).any fun r => r.hostWriteBefore f no) || s.hostWrs.any fun x => x.fn == f && decide (x.no < no)

/-- Host traffic may enter the doors. -/
def State.hostFlows (s : State) : Bool := s.clk.run && s.boot.stage == .running && !s.pf2 && s.hinge.step == 0

def State.refusedAt (s : State) (f : Nat) : State := s.fnEvent f .refused

/-- Parts of a read that are sent, from part k on: a refused part reads as 0xFF at once. -/
def State.sendParts (s : State) (f no : Nat) : Nat → List (Nat × Nat) → Option (State × List (Nat × Block × Bool × Bool))
  | _, [] => some (s, [])
  | k, x :: t =>
    match s.hostSend (s.hostReq f no k x false 0) with
    | none => none
    | some (u, refused) =>
      match u.sendParts f no (k + 1) t with
      | none => none
      | some (v, l) => some (v, if refused then (k, 0, true, false) :: l else l)

def HostRd.parts (x : HostRd) : List (Nat × Nat) := splitAt256 18 x.addr x.len

/-- Byte k of a part from what arrived: 0xFF where it was refused. -/
def partByte (x : Nat × Nat) (got : Block × Bool × Bool) (k : Nat) : Byte :=
  if got.2.1 then 0xFF else BitVec.ofNat 8 (got.1.toNat / 2 ^ (8 * (x.1 - partBase x + k)))

/-- The completion of a read whose parts have all arrived. -/
def HostRd.bytes (x : HostRd) : List Byte :=
  (x.parts.zip (List.range x.parts.length)).flatMap fun y =>
    let g := ((x.got.find? fun z => z.1 = y.2).map (·.2)).getD (0, true, false)
    (List.range y.1.2).map fun k => partByte y.1 g k

/-- A read with nothing outstanding completes; EP and AER say that it held a poisoned sector (R382). -/
def State.hostFinish (s : State) (x : HostRd) : State :=
  let ep := x.got.any fun g => g.2.2.2
  let t : State := { s with hostRds := s.hostRds.filter fun y => !(y.fn == x.fn && y.no == x.no) }
  let t := if ep then t.setFn x.fn { t.fnSt x.fn with aerPoison := true } else t
  t.emit (.hostData x.fn x.no x.bytes ep)

/-- A waiting read sets out once every earlier write of its function is admitted and every part has a credit (R380); it is refused while the casement is reset (R386). -/
def State.hostTry (s : State) (x : HostRd) : State :=
  if x.waiting && s.fnResetting x.fn then (s.refusedAt x.fn).hostFinish { x with got := [] }
  else if x.waiting && s.hostFlows && !s.earlierWrites x.fn x.no then
    match s.sendParts x.fn x.no 0 x.parts with
    | none => s
    | some (t, l) =>
      let t := if l.isEmpty then t else t.refusedAt x.fn
      let y := { x with waiting := false, left := x.parts.length - l.length, got := l }
      if y.left = 0 then t.hostFinish y
      else { t with hostRds := t.hostRds.map fun z => if z.fn = x.fn ∧ z.no = x.no then y else z }
  else s

/-- Bytes of a write as a number. -/
def bytesNat : List Byte → Nat
  | [] => 0
  | b :: t => b.toNat + 256 * bytesNat t

/-- The parts of a write go through D5; none where a credit is missing. -/
def State.writeParts (s : State) (f no : Nat) (data : List Byte) : Nat → List (Nat × Nat) → Option (State × Bool)
  | _, [] => some (s, false)
  | k, x :: t =>
    match s.hostSend (s.hostReq f no k x true (bytesNat (data.take x.2))) with
    | none => none
    | some (u, refused) =>
      match u.writeParts f no (data.drop x.2) (k + 1) t with
      | none => none
      | some (v, r) => some (v, refused || r)

/-- A posted write leaves the endpoint: refused, or sent once every part has a credit; later writes of its function wait for it. -/
def State.hostPush (s : State) (x : HostWr) : State :=
  let t : State := { s with hostWrs := s.hostWrs.filter fun y => !(y.fn == x.fn && y.no == x.no) }
  if s.fnResetting x.fn then t.refusedAt x.fn
  else if s.hostFlows && !(t.hostWrs.any fun y => y.fn == x.fn && decide (y.no < x.no)) then
    match t.writeParts x.fn x.no x.data 0 (splitAt256 (x.data.length + 1) x.addr x.data.length) with
    | none => s
    | some (u, refused) => if refused then u.refusedAt x.fn else u
  else s

def State.hostPump (s : State) : State :=
  let t := s.hostWrs.foldl (fun t x => t.hostPush x) s
  t.hostRds.foldl (fun t x => t.hostTry x) t

/-- Number an access of a function. -/
def State.takeNo (s : State) (f : Nat) : State := s.setFn f { s.fnSt f with next := (s.fnSt f).next + 1 }

/-- BAR2_READ. -/
def State.bar2Read (s : State) (f : FnNo) (off len : Nat) : State :=
  let no := (s.fnSt f.val).next
  let ones (t : State) : State := (t.takeNo f.val).emit (.hostData f.val no (List.replicate len 0xFF) false)
  match s.hostGate f.val false with
  | .gone => s
  | .ur => s.emit (.hostUr f.val)
  | .noReg => ones (s.accErr { bar := .bar2, fn := f, off := off, width := len } false accNone)
  | .ones => ones s
  | .refused => (ones s).refusedAt f.val
  | .ok =>
    let x : HostRd := { fn := f.val, no := no, addr := s.winAddr f.val off, len := len, waiting := true, left := 0, got := [] }
    ({ s.takeNo f.val with hostRds := s.hostRds ++ [x] } : State).hostTry x

/-- BAR2_WRITE: posted, to the address that the window gives now (R123). -/
def State.bar2Write (s : State) (f : FnNo) (off : Nat) (data : List Byte) : State :=
  match s.hostGate f.val false with
  | .gone => s
  | .ur => s.emit (.hostUr f.val)
  | .noReg => s.accErr { bar := .bar2, fn := f, off := off, width := data.length } true accNone
  | .ones => s
  | .refused => s.refusedAt f.val
  | .ok =>
    let x : HostWr := { fn := f.val, no := (s.fnSt f.val).next, addr := s.winAddr f.val off, data := data }
    ({ s.takeNo f.val with hostWrs := s.hostWrs ++ [x] } : State).hostPush x

/-- Poisoned sectors of an answer become zeros. -/
def blankSectors (data : Block) (marks : BitVec 8) : Nat → Nat
  | 0 => 0
  | n + 1 => blankSectors data marks n + (if marks.getLsbD n then 0 else (sectorOf data n).toNat * 2 ^ (256 * n))

/-- Whether a marked sector lies under the bytes of a part. -/
def partMarked (x : Nat × Nat) (marks : BitVec 8) : Bool :=
  (List.range 8).any fun n => marks.getLsbD n && decide (partBase x + 32 * n < x.1 + x.2) && decide (x.1 < partBase x + 32 * n + 32)

/-- A part of a host access has ended (R381, R382, R386). -/
def State.hostAnswer (s : State) (f no k : Nat) (a : Answer) : State :=
  let off := a.st == .denied || a.st == .fenced || a.st == .thermalClosed || a.st == .casementReset
  let s := if off then s.refusedAt f else s
  if a.r.write then s
  else match s.hostRds.find? fun x => x.fn = f ∧ x.no = no with
    | none => s
    | some x =>
      let p := x.parts.getD k (0, 0)
      let good := !s.pf2 && (a.st == .done || a.st == .uncorrectable || a.st == .poisonRead)
      let g : Block × Bool × Bool :=
        if good then (BitVec.ofNat 2048 (blankSectors a.data a.poison 8), false, partMarked p a.poison) else (0, true, false)
      let y := { x with left := x.left - 1, got := x.got ++ [(k, g)] }
      if y.left = 0 then s.hostFinish y
      else { s with hostRds := s.hostRds.map fun z => if z.fn = f ∧ z.no = no then y else z }

/-- PF2: reads that still wait complete with 0xFF bytes and writes are discarded; a link that goes down drops what waits (R386). -/
def State.hostCut (s : State) : State :=
  if !s.linkUp then { s with hostRds := [], hostWrs := [], heldRegs := [] }
  else if s.pf2 then (s.hostRds.filter fun x => x.waiting).foldl (fun t x => t.hostFinish { x with got := [] }) { s with hostWrs := [] }
  else s

/-! ## Engines' host accesses (R327, R383) -/

/-- An engine's host read completes, or ends in error. -/
def State.engineHostRead (s : State) (q : QueueId) (data : Option Block) : State :=
  if q.engine = .page then s.pageHostRead q data else s.hostReadDone q data

end Sys2Proof.Machine
end

