-- ==== Sys2Proof/Machine/Aksal.lean ====
section
/-! DEFINITION. The Aksal links: requests of the compute dies, responses, retry, loss of a partner, training; and which doors are masked (chapter 21; R128, R145). -/

namespace Sys2Proof.Machine

/-! ## Messages and flits as bytes (R389, R391, R392): a number stands for its bytes, byte k in bits [8k+7:8k] -/

/-- The 24-byte header of a request (R391). -/
def reqHeader (m : AkReq) : Nat :=
  m.mtype + m.cls * 2 ^ 4 + m.cas * 2 ^ 7 + m.srcTag * 2 ^ 12 + m.tag * 2 ^ 27 + m.masked.toNat * 2 ^ 35 + m.pool * 2 ^ 36 + m.block * 2 ^ 40 +
  m.uc.toNat * 2 ^ 63 + m.addr * 2 ^ 64 + (if m.mtype = 3 then m.mask.toNat % 2 ^ 32 else m.lpage) * 2 ^ 128

/-- The request that a header names; its data and the mask of a WR_BLK come behind it. -/
def reqOfHeader (v : Nat) : AkReq :=
  { mtype := bitsOf v 0 4, cls := bitsOf v 4 3, cas := bitsOf v 7 5, srcTag := bitsOf v 12 15, tag := bitsOf v 27 8, masked := bitsOf v 35 1 == 1,
    pool := bitsOf v 36 4, block := bitsOf v 40 8, uc := bitsOf v 63 1 == 1, addr := bitsOf v 64 48,
    mask := if bitsOf v 0 4 = 3 then BitVec.ofNat 256 (bitsOf v 128 32) else 0, lpage := if bitsOf v 0 4 = 3 then 0 else bitsOf v 128 32, data := 0 }

/-- The 16-byte header of a response (R391). -/
def rspHeader (m : AkRsp) : Nat :=
  m.mtype + Config.statusCode m.status * 2 ^ 4 + m.srcTag * 2 ^ 12 + m.tag * 2 ^ 27 + m.poison * 2 ^ 35 + m.pkind * 2 ^ 43

/-- The response that a header names, without its data. -/
def rspOfHeader (v : Nat) : AkRsp :=
  { mtype := bitsOf v 0 4, status := statusOf (bitsOf v 4 8), srcTag := bitsOf v 12 15, tag := bitsOf v 27 8, poison := bitsOf v 35 8, pkind := bitsOf v 43 8,
    data := 0 }

/-- Bytes of a request, header and payload (R392). -/
def reqSize (m : AkReq) : Nat :=
  match m.mtype with
  | 2 => if m.masked then 312 else 280
  | 3 => 56
  | _ => 24

def reqBytes (m : AkReq) : Nat :=
  reqHeader m + (if m.mtype = 2 then m.data.toNat else if m.mtype = 3 then m.data.toNat % 2 ^ 256 else 0) * 2 ^ 192 +
  (if m.mtype = 2 ∧ m.masked = true then m.mask.toNat * 2 ^ 2240 else 0)

/-- A flit carries 58 bytes of a message. -/
def flitCount (size : Nat) : Nat := (size + 57) / 58

/-- One step of the CRC-16 of R389: polynomial 0x1021, high bit first. -/
def crc16Bit (c : Nat) : Nat := if c / 2 ^ 15 = 1 then (c * 2 % 2 ^ 16) ^^^ 0x1021 else c * 2

def crc16Byte (c b : Nat) : Nat := (List.range 8).foldl (fun c _ => crc16Bit c) (c ^^^ (b * 2 ^ 8))

/-- The CRC over n bytes from initial value 0xFFFF. -/
def crc16 (n v : Nat) : Nat := (List.range n).foldl (fun c k => crc16Byte c (v / 256 ^ k % 256)) 0xFFFF

/-- What a flit carries beside its content (R389). -/
structure FlitTail where
  seq : Nat
  nak : Bool
  nakSlice : Nat
  nakSeq : Nat
  credG : Nat
  credU : Nat
  kind : Nat
  deriving DecidableEq, Repr

def FlitTail.word (x : FlitTail) : Nat :=
  x.seq + x.nak.toNat * 2 ^ 6 + x.nakSlice * 2 ^ 7 + x.nakSeq * 2 ^ 11 + x.credG * 2 ^ 17 + x.credU * 2 ^ 22 + x.kind * 2 ^ 24

/-- The 64 bytes of a flit. -/
def flitWord (content : Nat) (x : FlitTail) : Nat :=
  let v := content + x.word * 2 ^ 464
  v + crc16 62 v * 2 ^ 496

/-- A receiver finds a flit's CRC good (R389, R398). -/
def flitGood (v : Nat) : Bool := crc16 62 (v % 2 ^ 496) == v / 2 ^ 496

/-- The content of flit k of a message. -/
def flitContent (msg k : Nat) : Nat := msg / 2 ^ (464 * k) % 2 ^ 464

/-! ## Requests (R391 to R394) -/

def blankRsp (m : AkReq) (write : Bool) (st : Status) : AkRsp :=
  { mtype := if write then 9 else 8, status := st, srcTag := m.srcTag, tag := m.tag, poison := 0, pkind := 0, data := 0 }

/-- No message of the same source stands before it (R390). -/
def AksSt.firstOf (x : AksSt) (m : AkReq) : Bool := (x.tx.find? fun y => y.srcTag == m.srcTag).all (· == m)

/-- The message that a C2H slice carries next: of those that no other of their source stands before, an URGENT one before all others, then in order (R390). -/
def AksSt.nextOn (x : AksSt) (slice : Nat) : Option AkReq :=
  let l := x.tx.filter fun y => y.srcTag % 8 == slice && x.firstOf y
  match l.find? fun y => y.cls == 0 with
  | some y => some y
  | none => l.head?

/-- A message comes in now: it is its slice's next, or one that a compute die of another make sends and the model's own does not hold. -/
def AksSt.comes (x : AksSt) (m : AkReq) : Bool := if x.tx.contains m then x.nextOn (m.srcTag % 8) == some m else x.firstOf m

/-- The poison marks that travel with a core's write (R304). -/
def State.sentMarks (s : State) (d : Nat) (m : AkReq) : BitVec 8 :=
  if m.srcTag < 0x1900 then
    (((s.core (rankPos d m.srcTag)).streams.find? fun t => t.tag == m.tag && t.write).map (·.marks)).getD 0
  else 0

/-- The checks of a message's own fields: its class and type, its alignment. -/
def msgBad (m : AkReq) (align : Nat) : Option Status :=
  if 2 < m.cls ∨ 4 < m.mtype then some .badCommand else if m.addr % align ≠ 0 then some .badAlignment else none

/-- A message leaves the wires. -/
def State.takeTx (s : State) (d : Nat) (m : AkReq) : State := s.setAksal d { s.aksal d with tx := (s.aksal d).tx.erase m }

/-- A message can be taken in: the link is ACTIVE, D0 holds a credit for it, and it is the next on its slice. -/
def State.takesIn (s : State) (d : Nat) (m : AkReq) : Bool :=
  (s.aksal d).state == 6 && s.cdieIn d && s.clk.run && (s.aksal d).comes m && !(s.door d 0).masked && (s.draining || s.doorRoom d 0 ((Config.classOf m.cls).getD .normal))

/-- A read or write of device memory from compute die d (R393, R407). -/
def State.dieAccess (s : State) (d : Nat) (m : AkReq) (write sector : Bool) : State :=
  if s.takesIn d m then
    let t := s.takeTx d m
    match msgBad m (if sector then 32 else 256) with
    | some st => t.answerDie d (blankRsp m write st)
    | none =>
      if s.draining && !write then t
      else
        let mask := if !write then 0 else if sector then m.mask &&& BitVec.ofNat 256 (2 ^ 32 - 1) else if m.masked then m.mask else BitVec.allOnes 256
        let r := { State.dieReq d m m.addr write sector with mask := mask, poison := if write then s.sentMarks d m else 0 }
        if s.isResetting m.cas then
          match t.decode d { r := r, ovr := none, ovrMay := false } with
          | .inl x => (t.recordRefusal d 0 r x).answerDie d (blankRsp m write (Config.worse x.status .casementReset))
          | .inr _ => t.answerDie d (blankRsp m write .casementReset)
        else
          match t.offer d 0 r none false with
          | (u, none) => u
          | (u, some st) => u.answerDie d (blankRsp m write st)
  else s

/-- PG_RD (R394). -/
def State.diePage (s : State) (d : Nat) (m : AkReq) : State :=
  if s.takesIn d m then
    let t := s.takeTx d m
    match msgBad m 1 with
    | some st => t.answerDie d (blankRsp m false st)
    | none =>
      if s.draining then t
      else if s.isResetting m.cas then t.answerDie d (blankRsp m false .casementReset)
      else t.resolve d m
  else s

/-- The end of a die's request goes back to it (R391, R393): poisoned sectors carry zeros, and their marks say why. -/
def State.dieAnswer (s : State) (d srcTag tag : Nat) (a : Answer) : State :=
  let st := if a.st = .uncorrectable ∨ a.st = .poisonRead then .done else a.st
  let data : Block := if a.r.write || st != .done then 0 else BitVec.ofNat 2048 (blankSectors a.data a.poison 8)
  let marks : BitVec 8 := if a.r.write || st != .done then 0 else a.poison
  s.answerDie d { mtype := if a.r.write then 9 else 8, status := st, srcTag := srcTag, tag := tag,
                  poison := marks.toNat, pkind := (marks &&& ~~~a.pkind).toNat, data := data }

/-! ## Responses at the die (R395) -/

/-- A response arrives at the compute die and finds its source. -/
def State.dieResponse (s : State) (d : Nat) (m : AkRsp) : State :=
  let x := s.aksal d
  if x.rx.contains m ∧ x.state = 6 then
    let t := s.setAksal d { x with rx := x.rx.erase m }
    if m.srcTag < 0x1900 then t.streamAnswer (rankPos d m.srcTag) m.tag m.status m.data (BitVec.ofNat 8 m.poison) (BitVec.ofNat 8 m.pkind)
    else if 0x1A20 ≤ m.srcTag ∧ m.srcTag < 0x1A28 then t.expAnswer d (m.srcTag - 0x1A20) m
    else t
  else s

/-! ## A link is lost (R399, R405) -/

/-- Every outstanding request of a core ends with HALTED. -/
def State.haltCore (s : State) (p : CorePos) : State :=
  ((s.core p).streams.filter fun t => t.sent && t.arrived.isNone).foldl (fun t y => t.streamAnswer p y.tag .halted 0 0 0) s

/-- Tile requests at an expander end with HALTED; its staged pages are dropped. -/
def State.haltExp (s : State) (d e : Nat) : State :=
  let x := s.exp d e
  x.reqs.foldl (fun t r => t.streamAnswer (rankPos d r.rank) r.tag .halted 0 0 0) (s.setExp d e { x with reqs := [], staged := [], doneAt := 0 })

/-- Every outstanding request of a compute die ends with HALTED (R405). -/
def State.dieHalted (s : State) (d : Nat) : State :=
  let t := (List.range 8).foldl (fun t e => t.haltExp d e) s
  ((t.cores.filter fun x => x.1 / 6400 == d && !x.2.streams.isEmpty).map (·.1)).foldl (fun t k =>
    t.haltCore { d := d, k := k % 6400 / 64, c := k % 64 }) t

/-- Kernels of a die stop with HALTED, and its MATRIX queues stop with that cause (R399). -/
def State.stopDie (s : State) (d : Nat) : State :=
  let t := (s.kernels.filter fun k => k.die == d).foldl (fun t k => t.stopKernel k .halted) s
  (List.range 32).foldl (fun t k =>
    let q : QueueId := { engine := .matrix, inst := Fin.ofNat 4 d, idx := Fin.ofNat 32 k }
    if t.qrd q .QUEUE_CTRL_ENABLE = 1 ∧ t.stopped q = false then t.stopQueue q .halted else t) t

/-- D0 accepts nothing more; what was on the wires is lost, and page reads of the die wait no longer. -/
def State.closeDoor0 (s : State) (d : Nat) : State :=
  let x := s.door d 0
  let t := x.transit.foldl (fun t r => t.endReq r) (s.setDoor d 0 { x with transit := [], masked := true })
  { t with pgWaits := t.pgWaits.filter fun w => w.die != d }

/-- The link's state and wires. -/
def State.setLinkState (s : State) (d st : Nat) : State :=
  s.setAksal d { s.aksal d with state := st, dieOk := false, hubOk := false, stateAt := s.now, tx := [], rx := [] }

/-- The link is declared down until a warm or cold reset (R399). -/
def State.aksalLost (s : State) (d : Nat) : State :=
  ((((s.flag .HUB_INT_STATUS_AKSAL_DOWN d 0 0).closeDoor0 d).setLinkState d 7).stopDie d).dieHalted d

/-! ## Retry (R398, R399) -/

def sliceKey (d : Nat) (h2c : Bool) (n : Nat) : Nat := 32 * d + (if h2c then n else 16 + n)
def State.slice (s : State) (d : Nat) (h2c : Bool) (n : Nat) : SliceSt := Tab.get SliceSt.reset s.slices (sliceKey d h2c n)
def State.setSlice (s : State) (d : Nat) (h2c : Bool) (n : Nat) (x : SliceSt) : State :=
  { s with slices := Tab.put SliceSt.reset s.slices (sliceKey d h2c n) x }

/-- Sixteen slices run to the die, eight to the hub. -/
def sliceIn (h2c : Bool) (n : Nat) : Bool := h2c || decide (n < 8)

/-- The register file of a slice's receivers: the hub's for C2H, the die's for H2C. -/
def rxSide (d : Nat) (h2c : Bool) : Nat := if h2c then 4 + d else d

/-- SEQ of the flit that a slice sends now. -/
def State.seqNow (s : State) (x : SliceSt) : Nat := (2 * s.cyc + 64 - x.base % 64) % 64

/-- FLIT_ERROR: `seq` is the SEQ that the receiver expected.  It sends a NAK; the same flit failing again is one more failed replay. -/
def State.flitError (s : State) (d : Nat) (h2c : Bool) (n : Nat) (crcBad : Bool) (seq : Nat) : State :=
  if (s.aksal d).state = 6 ∧ sliceIn h2c n = true ∧ s.clk.run = true then
    let x := s.slice d h2c n
    let k := if x.want = some seq then x.streak + 1 else 0
    let t := s.setSlice d h2c n { x with want := some seq, nakAt := s.cyc, streak := k }
    let w := rxSide d h2c
    let t := if crcBad then t.count .AKS_CRC_ERR_COUNT top32 w 0 0 1 else t
    (t.wr .AKS_REPLAY_STREAK w 0 0 (Nat.max (t.rd .AKS_REPLAY_STREAK w 0 0) (Nat.min 15 k))).emit (.nak d h2c n seq)
  else s

/-- NAK: the transmitter of a slice replays from the SEQ it names, keeping the SEQ values. -/
def State.nak (s : State) (d : Nat) (h2c : Bool) (n seq : Nat) : State :=
  if (s.aksal d).state = 6 ∧ sliceIn h2c n = true ∧ s.clk.run = true then
    let x := s.slice d h2c n
    let k := (s.seqNow x + 64 - seq) % 64
    let t := s.setSlice d h2c n { x with base := (x.base + k) % 64 }
    let t := t.count .AKS_REPLAY_COUNT top16 (rxSide d h2c) 0 0 1
    let t := if h2c then t else t.tally (4 + d) 0x46 none [] none k
    t.emit (.replay d h2c n seq)
  else s

/-- NAK_RESEND: 64 ICLK have passed since the NAK. -/
def State.nakResend (s : State) (d : Nat) (h2c : Bool) (n : Nat) : State :=
  let x := s.slice d h2c n
  match x.want with
  | some w =>
    if (s.aksal d).state = 6 ∧ x.nakAt + 32 ≤ s.cyc then (s.setSlice d h2c n { x with nakAt := s.cyc }).emit (.nak d h2c n w) else s
  | none => s

/-- AKSAL_DOWN: a flit of the link has failed 16 successive replays (R399), or its phase step (R212). -/
def State.aksalDown (s : State) (d : Nat) : State :=
  if (s.aksal d).state = 6 ∧ (s.slices.any (fun x => x.1 / 32 == d && decide (16 ≤ x.2.streak)) || s.atPhaseStep) = true then s.aksalLost d else s

/-! ## Training (R402, R403) -/

/-- SEQ counts from 0 on every slice of a link. -/
def State.freshSlices (s : State) (d : Nat) : State :=
  let z : SliceSt := { want := none, nakAt := 0, streak := 0, base := 2 * s.cyc % 64 }
  let t := (List.range 16).foldl (fun t n => t.setSlice d true n z) s
  (List.range 8).foldl (fun t n => t.setSlice d false n z) t

/-- A link fails to train: AKS_STATUS of the side whose slice failed, or of both where the partner did not answer; in bring-up AKSAL_FAIL. -/
def State.trainFail (s : State) (d side slice : Nat) : State :=
  let st := (s.aksal d).state
  let t := (s.wr .AKS_STATUS_FAIL_STATE side 0 0 st).wr .AKS_STATUS_FAIL_SLICE side 0 0 slice
  let t := t.setLinkState d 0
  if s.boot.stage = .bringUp then t.bootFail errAksal d else t

/-- The spare map of a slice: spare k takes the place of the k-th failing wire. -/
def spareMap (fails : List Nat) : Nat :=
  (List.range 4).foldl (fun v k => v + (fails.getD k 0x1FF) * 2 ^ (9 * k)) 0

/-- In state 2 the receivers of a side write their spare maps; the first slice with more than four failing wires fails the link. -/
def State.mapSpares (s : State) (d : Nat) (h2c : Bool) (spares : List (Fin 24 × List Nat)) : State ⊕ Nat :=
  let fails (n : Nat) : List Nat := ((spares.find? fun x => x.1.val == if h2c then n else 16 + n).map (·.2)).getD []
  let l := List.range (if h2c then 16 else 8)
  match l.find? fun n => decide (4 < (fails n).length) with
  | some n => .inr n
  | none => .inl (l.foldl (fun t n => t.wr .AKS_REPAIR_SPARES (rxSide d h2c) n 0 (spareMap (fails n))) s)

/-- The next state once both sides have passed; after state 5 the link is ACTIVE with every credit granted. -/
def State.trainNext (s : State) (d : Nat) : State :=
  let x := s.aksal d
  if x.dieOk && x.hubOk then
    if x.state = 5 then (s.setLinkState d 6).freshSlices d
    else (s.setAksal d { x with state := x.state + 1, dieOk := false, hubOk := false, stateAt := s.now, hbTrn := !x.hbTrn }).emit (.hbTrn d (x.state + 1))
  else s

/-- TRAINING_STATE: the die toggles CD_TRN, or the hub's own receivers pass; in state 2 with the failing wires of each slice. -/
def State.trainingState (s : State) (d : Nat) (die : Bool) (spares : List (Fin 24 × List Nat)) : State :=
  let x := s.aksal d
  if 1 ≤ x.state ∧ x.state ≤ 5 then
    match (if x.state = 2 then s.mapSpares d die spares else .inl s) with
    | .inr n => s.trainFail d (rxSide d die) n
    | .inl t => (t.setAksal d (if die then { t.aksal d with dieOk := true } else { t.aksal d with hubOk := true })).trainNext d
  else s

/-- STATE_TIMEOUT: 4 ms in one state.  Where the die answered, the hub's own slice that failed is not stated. -/
def State.trainTimeout (s : State) (d : Nat) : State :=
  let x := s.aksal d
  if 1 ≤ x.state ∧ x.state ≤ 5 ∧ x.stateAt + Config.msTicks 4 ≤ s.now then
    if x.dieOk then s.drawn.trainFail d d ((Config.freeWord s.free).toNat % 8) else s.trainFail d d 0x1F
  else s

/-! ## Sideband (R400, R401, R405, R406) -/

/-- A start has reached link-up, so that a side that returns trains from state 1 (R402, R405). -/
def State.linksLive (s : State) : Bool :=
  (s.boot.stage == .running && s.rd .SVC_PWR_STATUS_STATE 0 0 0 != 2) || (s.boot.stage == .bringUp && [12, 13, 14, 18].contains s.phase)

/-- A side of the link goes down: D0 is masked and the link must train again.  During training a fall of CD_PWR_OK or CD_RST_N ends it (R403). -/
def State.sideDown (s : State) (d : Nat) (dieSide : Bool) : State :=
  let st := (s.aksal d).state
  if st = 0 ∨ st = 7 then s
  else if st ≤ 5 then (if dieSide then s.trainFail d d 0x1F else s.setLinkState d 0)
  else
    let t := (s.closeDoor0 d).setLinkState d 0
    if dieSide then (t.stopDie d).dieHalted d else t.dieHalted d

def State.sideUp (s : State) (d : Nat) : State := if s.linksLive then s.linkStart d else s

/-- CD_RST_N changes. -/
def State.cdRstN (s : State) (d : Nat) (high : Bool) : State :=
  if (s.aksal d).cdRst = high then s
  else
    let t := s.setAksal d { s.aksal d with cdRst := high }
    if high then t.sideUp d else t.sideDown d true

/-- CD_PWR_OK changes. -/
def State.cdPwrOk (s : State) (d : Nat) (high : Bool) : State :=
  if (s.aksal d).cdPwr = high then s
  else
    let t := s.setAksal d { s.aksal d with cdPwr := high }
    if high then t.sideUp d else t.sideDown d true

/-- HB_RST_N changes: at a fall the die takes every outstanding request as ended with HALTED. -/
def State.hbRstN (s : State) (d : Nat) (high : Bool) : State :=
  if (s.aksal d).hbRst = high then s
  else
    let t := s.setAksal d { s.aksal d with hbRst := high }
    if high then t.sideUp d else t.sideDown d false

/-- HB_PWR_OK changes: while it is low the die drives its wires low. -/
def State.hbPwrOk (s : State) (d : Nat) (high : Bool) : State :=
  if (s.aksal d).hbPwr = high then s
  else
    let t := s.setAksal d { s.aksal d with hbPwr := high }
    if high then t.sideUp d else t.sideDown d false

/-! ## Masked doors (R128, R145, R442) -/

/-- The engines of the hubs have left reset (R99, R104). -/
def State.enginesOut (s : State) : Bool := s.boot.stage == .running || (s.boot.stage == .bringUp && (s.phase == 14 || s.phase == 18))

def State.linkWorks (s : State) (i : Nat) : Bool := (s.link i).up && !(s.link i).failed

/-- A requester's interface is down, or the image disables the door. -/
def State.doorMustMask (s : State) (h d : Nat) : Bool :=
  let g := (h + d) % 4
  let x := s.aksal h
  (match s.doorCfg h d with
    | some c => !c.enable
    | none => true) ||
  (match d with
    | 0 => !x.cdPwr || !x.cdRst || x.state != 6
    | 1 => !s.linkWorks h
    | 2 => !((ringRoute g h 0).all s.linkWorks) && !((ringRoute g h 1).all s.linkWorks)
    | 3 => !s.linkWorks g
    | 4 => (List.range 4).all (fun j => !(s.port4 h j).up) && !s.enginesOut
    | 5 => s.boot.stage != .running
    | 8 => false
    | _ => !s.enginesOut)

def State.doorMask (s : State) (h d : Nat) : State := if s.hubIn h && s.doorMustMask h d then s.maskDoor h d else s
def State.doorUnmask (s : State) (h d : Nat) : State := if s.hubIn h && !s.doorMustMask h d && !s.draining then s.unmaskDoor h d else s

end Sys2Proof.Machine
end

