-- ==== Sys2Proof/Machine/Settle.lean ====
section
/-! DEFINITION. What the ends of requests set going, and what an engine does once there is room again; queue watchdogs (R20, R149, R322, R332). -/

namespace Sys2Proof.Machine

/-! ## Queues by their keys -/

def engineAt (n : Nat) : Engine :=
  match n with
  | 0 => .matrix
  | 1 => .move
  | 2 => .page
  | 3 => .ring
  | _ => .hub

/-- The queue with a 16-bit identifier (R310). -/
def queueOf (n : Nat) : QueueId := { engine := engineAt (n / 8192), inst := Fin.ofNat 4 (n / 2048), idx := Fin.ofNat 32 (n % 2048) }

/-- Queues that hold anything, of one engine. -/
def State.busyQueues (s : State) (e : Engine) : List QueueId := (s.queues.map fun x => queueOf x.1).filter fun q => q.engine == e

/-! ## Answers (R20) -/

/-- A copy's data goes on to its destination only where D6 has a credit, and not in a hinge (R129, R215, R322). -/
def State.moveHeld (s : State) (q : QueueId) (idx : Nat) : Bool :=
  match s.cmd q idx with
  | some c => !c.dst.host && c.fault != some .casementReset && (s.hinge.step != 0 || !s.doorRoom q.inst.val 6 ((Config.classOf c.cls).getD .normal))
  | none => false

/-- Whether an answer waits for room. -/
def State.waits (s : State) (a : Answer) : Bool :=
  match a.r.org with
  | .cmd q idx part => q.engine == .move && part % 2 == 0 && !s.draining && s.moveHeld q idx
  | _ => false

/-- A request of a command has ended.  In a drain read data goes nowhere (R63). -/
def State.cmdAnswer (s : State) (q : QueueId) (idx part : Nat) (a : Answer) : State :=
  match q.engine with
  | .move =>
    if part % 2 = 1 then s.moveWritten q idx (part / 2) a.st
    else if s.draining then s
    else s.moveData q idx (part / 2) a.st a.data a.poison
  | .hub => if s.draining then s else s.scrubRead q idx part a.st
  | .ring => if s.draining then s else s.putRead q idx part a.st (BitVec.ofNat 2048 (blankSectors a.data a.poison 8))
  | _ => s

/-- Read data for a compute die whose D0 is masked is discarded (R145); a requester behind any other masked door is itself in reset or out of reach (R128). -/
def State.unwanted (s : State) (a : Answer) : Bool :=
  match a.r.org with
  | .aksal d _ _ => !a.r.write && (s.door d 0).masked
  | _ => false

/-- An answer reaches its requester. -/
def State.deliver (s : State) (a : Answer) : State :=
  if s.unwanted a then s
  else match a.r.org with
  | .aksal d t g => s.dieAnswer d t g a
  | .cmd q idx part => s.cmdAnswer q idx part a
  | .host f no k => s.hostAnswer f no k a
  | .fabric h _ node tag => s.fabricAnswer h node tag a
  | _ => s

/-- Answers in order; one that waits for room stays. -/
def State.deliverAll (s : State) : List Answer → State
  | [] => s
  | a :: t => (if s.waits a then { s with answers := s.answers ++ [a] } else s.deliver a).deliverAll t

/-- Engines take up what they can. -/
def State.pump (s : State) : State :=
  let t := (s.busyQueues .move).foldl (fun t q => t.movePump q) s
  let t := (s.busyQueues .hub).foldl (fun t q =>
    ((t.queue q).cmds.filter fun c => c.started && c.ended.isNone && c.opcode == 0x62).foldl (fun t c => t.scrubPump q c.idx) t) t
  let t := (s.busyQueues .ring).foldl (fun t q =>
    ((t.queue q).cmds.filter fun c => c.started && c.ended.isNone && c.opcode == 0x45).foldl (fun t c => t.putGo q c.idx) t) t
  let t := (t.colls.foldl (fun t x => t.collDrain x.q x.idx) t).sweepColls
  let t := (t.pools.filter fun x => !x.2.held.isEmpty).foldl (fun t x => t.serveHeld (x.1 / 16) (x.1 % 16)) t
  let t := if (t.busyQueues .page).isEmpty then t else t.pgWake
  allDies.foldl (fun t d => if t.expanders.any fun x => x.1 / 8 == d then t.expKickAll d else t) t

/-- What every event leaves to be done at once. -/
def State.settle (s : State) : State := ((({ s with answers := [] } : State).deliverAll s.answers).pump).hostCut.hostPump

/-! ## Watchdogs (R273, R332, R357) -/

/-- REPAIR and RETRAIN end as their chapters state: the port goes to its next user, and training stops. -/
def State.cutTraining (s : State) (h p : Nat) : State :=
  if (s.pc h p).trnRun.isSome then (s.setPc h p { s.pc h p with trnRun := none }).wr .PC_TRN_CTRL_BUSY h p 0 (if (s.pc h p).trnGen.isSome then 1 else 0) else s

def State.timeoutRepair (s : State) (q : QueueId) (idx : Nat) : State :=
  match s.ports.find? fun x => x.2.repair.any fun r => r.q == q && r.idx == idx with
  | some x =>
    match x.2.repair with
    | some r =>
      let h := q.inst.val
      let st := stackOf r.pc
      let t := s.setPort h st { s.port h st with repair := none, program := false }
      let t := if r.kind = 3 then t.cutTraining h r.pc else t
      if x.2.program ∨ r.left = 0 then t.portNext h st true else t
    | none => s
  | none => s

/-- A command of a range ends at its page boundary: copies in progress run to their end (R357). -/
def State.timeoutPages (s : State) (q : QueueId) (c : Cmd) : State :=
  let t : State := { s with pools := s.pools.map fun x => (x.1, { x.2 with held := x.2.held.filter fun y => y.cmd != some (q, c.idx) }) }
  (t.setCmd q { c.failed .timeout with next := s.pgSpan c }).pgGo q c.idx

/-- A command has met its watchdog (R332): it ends with TIMEOUT, or with a condition it has met that comes before that (R13). -/
def State.timeout (s : State) (q : QueueId) (c : Cmd) : State :=
  let st : Status := c.fault.elim .timeout (Config.worse .timeout)
  match q.engine with
  | .matrix =>
    match s.kernels.find? fun k => k.die == q.inst.val && k.q == q.idx.val && k.idx == c.idx with
    | some k => s.stopKernel k .timeout
    | none => s.endCmd q c.idx st
  | .move => if c.opcode = 1 then s.endCmd q c.idx st else (s.setCmd q (c.failed .timeout)).endIfDone q c.idx c.moveBlocks
  | .page =>
    if 0x31 ≤ c.opcode ∧ c.opcode ≤ 0x34 then s.timeoutPages q c
    else if c.opcode = 0x36 then (s.endCmd q c.idx st).freeExpander (expKey q.inst.val (c.fld 1 0 3)) .badCommand
    else s.endCmd q c.idx st
  | .ring => if c.opcode = 1 then s.endCmd q c.idx st else s.endColl q c.idx st
  | .hub =>
    let t := s.dropWaits q
    match c.opcode with
    | 0x62 => (t.setCmd q (c.failed .timeout)).scrubPump q c.idx
    | 0x63 => (t.timeoutRepair q c.idx).endCmd q c.idx st
    | 0x64 =>
      let a := c.fld 1 0 7 / 2 * 2
      ((t.cutTraining q.inst.val a).cutTraining q.inst.val (a + 1)).endCmd q c.idx st
    | _ => t.endCmd q c.idx st

/-- WATCHDOG: the first command of a queue whose time is over and that has not yet been told; a warm reset stops the timer (R86). -/
def State.watchdog (s : State) (q : QueueId) : State :=
  match (s.queue q).cmds.find? fun c => s.boot.stage != .drained && c.started && c.ended.isNone && c.fault != some .timeout && decide (c.startAt + c.wdog ≤ s.now) with
  | some c => s.timeout q c
  | none => s

end Sys2Proof.Machine
end

