-- ==== Sys2Proof/Machine/Clock.lean ====
section
/-! DEFINITION. What time alone does: one CCLK cycle of the package (chapter 04; R216, R409; log entry 1). -/

namespace Sys2Proof.Machine

/-! ## Counters of cycles (R409) -/

/-- Some counter counts, or core counters are set up. -/
def State.counting (s : State) : Bool :=
  s.regs.vals.any fun x => (x.1.f == .CNT_CFG_ENABLE || x.1.f == .CMP_CCNT_CFG_EVENT0 || x.1.f == .CMP_CCNT_CFG_EVENT1) && x.2 != 0

/-- Events 0x01 and 0x06 of every hub. -/
def State.countCclk (s : State) : State :=
  s.hubs.foldl (fun t h => (t.pcsOf h).foldl (fun t p => t.tally h 0x06 (some p) [] none (t.pc h p).queue.length) (t.tally h 0x01 none [] none 1)) s

/-- A core that waits to issue has been stalled for one more KCLK. -/
def State.countStall (s : State) (key : Nat) (x : CoreSt) : State :=
  if x.stallFrom = 0 then s
  else
    let p : CorePos := { d := key / 6400, k := key % 6400 / 64, c := key % 64 }
    (s.tally (4 + p.d) 0x43 (some p.k) [x.stall] (s.cluster p.d p.k).lastCas 1).coreCount p 0x52 1

/-- Events 0x40 and 0x48 of every compute die, and the stalls of its cores. -/
def State.countKclk (s : State) : State :=
  let t := s.cdies.foldl (fun t d =>
    let u := t.tally (4 + d) 0x40 none [] none 1
    if t.throttleLevel d = 0 then u else u.tally (4 + d) 0x48 none [t.throttleLevel d] none 1) s
  t.cores.foldl (fun t x => t.countStall x.1 x.2) t

/-- Events 0x0B and 0x49, which count TIME64 ticks. -/
def State.countTick (s : State) : State :=
  let t := s.hubs.foldl (fun t h => (t.pcsOf h).foldl (fun t p => if (t.pc h p).sr == .inSr then t.tally h 0x0B (some p) [] none 1 else t) t) s
  t.clusters.foldl (fun t x => if x.2.gated then t.tally (4 + x.1 / 100) 0x49 (some (x.1 % 100)) [] none 1 else t) t

/-! ## Clock edges (R76 to R78, R82, R84) -/

/-- The tick on which a correction is made advances TIME64 by 2 or by 0, at most once in 1,024 ticks (R84). -/
def Clk.tick (c : Clk) : Clk :=
  let free := c.steerAt.all fun t => decide (t + 1024 ≤ c.t64)
  if c.steer = 0 ∨ free = false then { c with t64 := c.t64 + 1 }
  else if 0 < c.steer then { c with t64 := c.t64 + 2, steer := c.steer - 1, steerAt := some (c.t64 + 2) }
  else { c with steer := c.steer + 1, steerAt := some c.t64 }

def State.timeTick (s : State) : State :=
  let t : State := { s with clk := s.clk.tick }
  if s.counting then t.countTick else t

/-- Every compute die's root PLL reports lock: before that the die has no clock edge (R76). -/
def State.cdiesLocked (s : State) : Bool := s.cdies.all fun d => (s.rd .SVC_CLK_STATUS_PLL_LOCK 0 0 0).testBit (4 + d)

/-- KCLK and FCLK run with CCLK, once the compute dies' PLLs are in lock (R76), but for steps 5 to 8 of a hinge (R216). -/
def State.coreClocks (s : State) : Bool := s.clk.run && s.cdiesLocked && decide (s.hinge.step < 5)

/-- KCLK is ROOT / k and FCLK is ROOT / 6, where CCLK is ROOT / 4. -/
def Clk.edges (c : Clk) : Clk × Bool :=
  let k := Config.kDiv c.hp
  let up := decide (k ≤ c.kPhase + 4)
  let fup := decide (6 ≤ c.fPhase + 4)
  ({ c with kPhase := if up then c.kPhase + 4 - k else c.kPhase + 4, kclk := if up then c.kclk + 1 else c.kclk,
            fPhase := if fup then c.fPhase + 4 - 6 else c.fPhase + 4, fclk := if fup then c.fclk + 1 else c.fclk }, up)

/-- One CCLK edge, with the edges of the slower clocks that fall in its cycle. -/
def State.cclkEdge (s : State) : State :=
  let t : State := { s with clk := { s.clk with cclk := s.clk.cclk + 1 } }
  let t := if s.counting then t.countCclk else t
  if s.coreClocks then
    let e := t.clk.edges
    let u : State := { t with clk := e.1 }
    if e.2 && s.counting && s.rd .SVC_PWR_STATUS_STATE 0 0 0 != 2 then u.countKclk else u
  else t

/-- A hinge in its first steps goes on by itself (R210). -/
def State.hingeTick (s : State) : State := if s.hinge.step = 0 then s else s.hingeRun

/-- One CCLK cycle; one TIME64 tick where CCLK is stopped. -/
def State.tick (s : State) : State :=
  if s.clk.run then
    let t := s.cclkEdge
    let n := t.clk.tPhase + 4
    let m := Config.rootMult t.clk.hp
    if m ≤ n then (({ t with clk := { t.clk with tPhase := n - m } } : State).timeTick).hingeTick
    else ({ t with clk := { t.clk with tPhase := n } } : State).hingeTick
  else s.timeTick.hingeTick

end Sys2Proof.Machine
end

