-- ==== Sys2Proof/Machine/RegView.lean ====
section
/-! DEFINITION. What a register field reads as: stored fields as stored, fields that mirror other state derived from it (R6, R436). -/

namespace Sys2Proof.Machine

def bit01 (b : Bool) : Nat := if b then 1 else 0

/-- Values of `w` bits packed from the lowest place up. -/
def packBits (w : Nat) : List Nat → Nat
  | [] => 0
  | v :: t => v % 2 ^ w + 2 ^ w * packBits w t

/-- A value that a field of w bits shows: the greatest it can hold where it is larger. -/
def clip (w v : Nat) : Nat := Nat.min (2 ^ w - 1) v

/-- A cold reset is in force and bring-up has not begun: fields that show the state of the dies read their Reset value (R8). -/
def State.unstarted (s : State) : Bool := s.boot.stage == .cold

/-- The tier of a source as its registers show it (R8, R279). -/
def State.tierShown (s : State) (tier : Nat) : Nat := if s.unstarted then 0 else tier

/-- The hinge point shown: it changes at hinge step 9 only (R437). -/
def State.hpShown (s : State) : Nat := if 7 ≤ s.hinge.step then s.hinge.was else s.clk.hp

/-! ## Chapters 01 to 06 -/

def State.viewPackage (s : State) (f : Fld) (d i j : Nat) : Option Nat :=
  match f with
  | .SVC_FAMILY_ID_MEMBER => some s.fuse.member
  | .SVC_FAMILY_ID_STEPPING => some s.fuse.stepping
  | .SVC_FAMILY_ID_HUB_MASK => some s.fuse.hubMask
  | .SVC_FAMILY_ID_CDIE_MASK => some s.fuse.cdieMask
  | .SVC_FAMILY_ID_STACK_MASK => some s.fuse.stackMask
  | .SVC_PKG_SCALE_PC_COUNT => some s.allPcs.length
  | .SVC_PKG_SCALE_CLUSTERS_PER_DIE => some (if s.fuse.member = 0 then 0 else 100)
  | .SVC_PKG_SCALE_TROWIRY_PORTS => some (4 * s.hubs.length)
  | .SVC_PKG_SCALE_RING_HOPS_MAX => some (s.hubs.length / 2)
  | .SVC_PKG_SCALE_CASEMENTS => some 32
  | .HUB_STACK_GEOM_PRESENT => some (bit01 (s.stackId d i).isSome)
  | .HUB_STACK_GEOM_BANKS => some (((s.stackId d i).map (·.bankCode.val)).getD 0)
  | .HUB_STACK_GEOM_DIES => some (((s.stackId d i).map (·.dies)).getD 0)
  | .HUB_STACK_GEOM_CAPACITY_GIB => some (((s.stackId d i).map (·.capacityGib)).getD 0)
  | .HUB_STACK_GEOM_MAX_RATE => some (((s.stackId d i).map (·.maxRate)).getD 0)
  | .HUB_STACK_GEOM_VENDOR_CODE => some (((s.stackId d i).map (·.vendor)).getD 0)
  | .HUB_IDENT_HUB_NUM => some d
  | .HUB_IDENT_STACKS => some ([0, 1, 2].filter fun st => (s.stackId d st).isSome).length
  | .HUB_IDENT_RING_UP => some (bit01 (s.linkWorks d) + 2 * bit01 (s.linkWorks ((d + 3) % 4)))
  | .IMG_ROLLBACK_FUSED => some s.fuse.imgRollback
  | .SVC_PF_STATUS_PF1 => some (bit01 s.pf1)
  | .SVC_PF_STATUS_PF2 => some (bit01 s.pf2)
  | .SVC_PF_STATUS_KEEP => some (bit01 s.supply.keep)
  | .SVC_TIME64_TICKS => some s.time64
  | .HUB_TIME64_TICKS => some s.time64
  | .SVC_CLK_STATUS_HP => some s.hpShown
  | .SVC_CLK_STATUS_KDIV => some (Config.kDiv s.hpShown)
  | .SVC_CLK_STATUS_REF_OK => some (bit01 s.board.refAt.isSome)
  | .SVC_CASE_RST_BUSY_CASEMENTS => some (packBits 1 ((List.range 32).map fun c => bit01 (s.isResetting c)))
  | .SVC_FW_ROLLBACK_FUSED => some s.fuse.fwRollback
  | .SVC_RECOV_BUF_DATA => some (leN 4 (s.recov.drop (4 * i)))
  | .FN_WIN_BASE_BASE => some (((s.casOfFn d).map fun c => s.rd .SVC_WIN_BASE_BASE 0 c 0).getD 0)
  | .IMG_LAYOUT_ACTIVE_SETS => some (packBits 2 ((List.range 16).map s.activeSet))
  | .PANE_GROUP_SETS_PRESENT => some (packBits 1 ((List.range 4).map fun n => bit01 (layoutIn s.layouts i n).isSome))
  | .PANE_GROUP_SETS_OVERLAP => some (packBits 1 ((List.range 4).map fun n => bit01 (s.overlap i n)))
  | .PANE_CFG_ORDER => some (((s.paneDef i).map (·.order)).getD 0)
  | .PANE_CFG_GRANULE_LOG2 => some (((s.paneDef i).map (·.granLog2)).getD 0)
  | .PANE_CFG_MODES => some (((s.paneDef i).map fun p => bit01 p.guarded + 2 * bit01 p.bucket + 4 * bit01 p.allBank).getD 0)
  | .PANE_CFG_CASEMENT => some (((s.paneDef i).map (·.cas)).getD 0)
  | .PANE_CFG_GROUP => some (((s.paneDef i).bind (·.group)).getD 0)
  | .PANE_CFG_GROUPED => some (bit01 ((s.paneDef i).bind (·.group)).isSome)
  | .PANE_CFG_VALID => some (bit01 (s.paneDef i).isSome)
  | .PANE_CFG_PC_COUNT => some (((s.paneDef i).map (·.pcCount)).getD 0)
  | .PANE_BASE_BASE => some (((s.paneDef i).map (·.base)).getD 0)
  | .PANE_SIZE_SIZE => some (((s.paneDef i).map (·.size)).getD 0)
  | .PANE_ROWS_ROW_FIRST => some (((s.paneDef i).map (·.rowFirst)).getD 0)
  | .PANE_ROWS_ROW_COUNT => some (((s.paneDef i).map (·.rowCount)).getD 0)
  | .PANE_PC_MASK_MASK => some (((s.paneDef i).map fun p => p.mask.toNat / 2 ^ (64 * j) % 2 ^ 64).getD 0)
  | _ => none

/-! ## Chapters 07 to 09 -/

def State.doorField (s : State) (h d : Nat) (f : DoorCfg → Nat) : Nat := ((s.doorCfg h d).map f).getD 0

def State.arbiterCfg (s : State) (h : Nat) : Option ArbiterCfg := s.frameFor h FrameBody.asArbiter

/-- HOLDER, KIND and LEFT of DARB_PC_STATE. -/
def Hold.shown : Hold → Nat × Nat × Nat
  | .none => (0, 0, 0)
  | .run d r => (d, 1, clip 7 r.count)
  | .latch d _ _ l => (d, 2, l.length)

def PcSt.latchedBanks (x : PcSt) : Nat := (x.banks.filter fun b => b.2.latch.isSome).length

def State.viewPath (s : State) (f : Fld) (d i j : Nat) : Option Nat :=
  match f with
  | .DOOR_CFG_ENABLE => some (s.doorField d i fun c => bit01 c.enable)
  | .DOOR_CFG_MODE => some (s.doorField d i fun c => bit01 c.firm)
  | .DOOR_CFG_URGENT_CRED => some (s.doorField d i (·.urgentCred))
  | .DOOR_CFG_MAINT_CRED => some (s.doorField d i (·.maintCred))
  | .DOOR_CFG_ENTRIES => some (Config.doorEntries i)
  | .DOOR_STATUS_MASKED => some (bit01 (s.door d i).masked)
  | .DOOR_STATUS_FREE => some (if s.unstarted then 0 else Config.doorEntries i - (s.door d i).buf.length)
  | .DOOR_STATUS_RECORDS => some (s.door d i).records.length
  | .DOOR_SRC_VALID_CASEMENTS => some (s.doorField d i (·.srcValid.toNat))
  | .DOOR_SRC_MAP_GROUPS => some (s.doorField d i fun c => packBits 4 ((List.range 8).map fun k => c.srcMap.getD (8 * j + k) 0))
  | .LVR_SLOT_STATE_REMAIN => some (s.lvr d i j).gen
  | .LVR_SLOT_STATE_HELD => some (bit01 (s.slotHeld d i j))
  | .LVR_SLOT_STATE_URG_REMAIN => some (clip 7 (s.lvr d i j).urg)
  | .DARB_LATCH_LIMIT => some (((s.arbiterCfg d).map (·.latchLimit)).getD 0)
  | .DARB_PC_STATE_HOLDER => some (s.arb d i).hold.shown.1
  | .DARB_PC_STATE_KIND => some (s.arb d i).hold.shown.2.1
  | .DARB_PC_STATE_LEFT => some (s.arb d i).hold.shown.2.2
  | .DARB_PC_STATE_LAST => some (s.arb d i).last
  | .PC_QUEUE_STATUS_DEPTH => some ((s.pc d i).depth (s.cyc + 1))
  | .PC_QUEUE_STATUS_TRANSOM => some ((s.pc d i).heldTransom (s.cyc + 1))
  | .PC_QUEUE_STATUS_URGENT => some ((s.pc d i).held (s.cyc + 1) .urgent)
  | .PC_QUEUE_STATUS_MAINT => some ((s.pc d i).held (s.cyc + 1) .maint)
  | .PC_QUEUE_STATUS_HIGH_WATER => some (s.pc d i).highWater
  | .PC_CSA_STATE_HOLDER => some (s.pc d i).holder
  | .PC_CSA_STATE_REPLAY => some (bit01 (s.pc d i).replay.isSome)
  | .PC_CSA_STATE_LATCHES => some (s.pc d i).latchedBanks
  | .PC_RMW_MAX_CCLK =>
    some (match s.profileOf d i, s.timingOf d i (s.pc d i).tset with
      | some f, some ts => rmwHold f ts
      | _, _ => 0)
  | .PC_DEBUG_HALTED => some (bit01 (s.pc d i).halted)
  | .PC_DEBUG_CMD_PENDING => some (bit01 (s.pc d i).dbg.isSome)
  | .PC_BANK_STATE_OPEN => some (bit01 ((s.pc d i).bank j).row.isSome)
  | .PC_BANK_STATE_ROW => some (((s.pc d i).bank j).row.getD 0)
  | .PC_BANK_STATE_QUEUED => some ((s.pc d i).queue.filter fun e => e.r.bank == j).length
  | .PC_BANK_STATE_MATCHED => some (bit01 ((s.pc d i).matched j))
  | .PC_BANK_STATE_LATCHED => some (bit01 ((s.pc d i).bank j).latch.isSome)
  | .HUB_PROFILE_SEL_STACK0 => some (((s.profileOf d 0).map (·.index)).getD 0)
  | .HUB_PROFILE_SEL_STACK1 => some (((s.profileOf d 32).map (·.index)).getD 0)
  | .HUB_PROFILE_SEL_STACK2 => some (((s.profileOf d 64).map (·.index)).getD 0)
  | .HUB_PROFILE_SEL_SETS =>
    some (packBits 1 ((List.range 5).map fun n => bit01 ((s.framesFor d FrameBody.asTiming).any fun t => t.hinge == n)))
  | .PC_SEQ_STATUS_TSET => some (if 7 ≤ s.hinge.step then s.hinge.was else (s.pc d i).tset)
  | .PC_SEQ_STATUS_PROFILE => some (((s.profileOf d i).map (·.index)).getD 0)
  | .PC_SEQ_STATUS_ACTIVE => some (s.pc d i).ptrs.length
  | .PC_SEQ_STATUS_LAST_CODE => some (s.pc d i).lastCode
  | _ => none

/-! ## Chapters 10 to 12 -/

/-- The entry of an activation-counting table that PC_ACT_SEL names. -/
def State.actEntry (s : State) (h p : Nat) : Nat × Nat :=
  ((((s.pc h p).bank (s.rd .PC_ACT_SEL_BANK h p 0)).acts.getD (s.rd .PC_ACT_SEL_ENTRY h p 0) none)).getD (0, 0)

/-- The trim record that PC_TRN_SEL names; lanes 36 to 55 exist on the lower pseudo-channel of a channel only. -/
def State.trimLaneIn (s : State) (h p : Nat) : Bool :=
  let l := s.rd .PC_TRN_SEL_LANE h p 0
  !(p % 2 == 1 && decide (36 ≤ l) && decide (l < 56))

def State.trimShown (s : State) (h p : Nat) : TrimRec :=
  if s.trimLaneIn h p then s.trim h p (s.rd .PC_TRN_SEL_LANE h p 0) (s.rd .PC_TRN_SEL_HP h p 0) else TrimRec.reset

def State.viewStack (s : State) (f : Fld) (d i j : Nat) : Option Nat :=
  match f with
  | .HUB_REF_WINDOW_MS => some (((s.refreshCfg d).map (·.windowMs)).getD 0)
  | .HUB_REF_WINDOW_EFF_MS =>
    some (((s.refreshCfg d).map fun c => if [0, 1, 2].any fun st => s.stackIn d st && s.doubleRate d st then c.windowMs / 2 else c.windowMs).getD 0)
  | .HUB_REF_WINDOW_REFS => some (((s.refreshCfg d).map (·.refs)).getD 0)
  | .HUB_REF_CFG_LIMIT => some (((s.refreshCfg d).map (·.postponeMax)).getD 0)
  | .HUB_DISTURB_THRESHOLD => some (((s.disturbCfg d).map (·.threshold)).getD 0)
  | .HUB_DISTURB_METHOD => some (((s.disturbCfg d).map (·.method)).getD 0)
  | .HUB_DISTURB_RADIUS => some (((s.disturbCfg d).map (·.radius)).getD 0)
  | .PC_REF_STATUS_MODE => some (bit01 (s.pc d i).allBank)
  | .PC_REF_STATUS_IN_SR => some (bit01 ((s.pc d i).sr == .inSr))
  | .PC_REF_STATUS_MAX_DEBT => some (s.pc d i).maxDebt
  | .PC_REF_STATUS_NBR_PENDING => some (bit01 ((s.pc d i).banks.any fun b => !b.2.nbr.isEmpty))
  | .PC_SR_IDLE_US => some (((s.refreshCfg d).map (·.srIdleUs)).getD 0)
  | .PC_REF_DEBT_DEBT => some (packBits 4 ((List.range 8).map fun k => ((s.pc d i).bank (8 * j + k)).debt))
  | .PC_ACT_READ_ROW => some (s.actEntry d i).1
  | .PC_ACT_READ_COUNT => some (s.actEntry d i).2
  | .SVC_HINGE_STATUS_STEP => some s.hingeShown
  | .SVC_HINGE_STATUS_PENDING => some (bit01 s.hinge.pend.isSome)
  | .SVC_HINGE_STATUS_PEND_HP => some (s.hinge.pend.getD 0)
  | .SVC_HINGE_DWELL_MS => some ((s.hingeCfg.map (·.dwellMs)).getD 0)
  | .SVC_HINGE_DWELL_ENABLED => some ((s.hingeCfg.map (·.enabled)).getD 0)
  | .SVC_HINGE_DWELL_BOOT => some ((s.hingeCfg.map (·.boot)).getD 0)
  | .CMP_GATE_STATUS_GATED => some (packBits 1 ((List.range 32).map fun k => bit01 (decide (32 * i + k < 100) && (s.cluster d (32 * i + k)).gated)))
  | .PC_TRN_TRIM_DELAY => some (s.trimShown d i).delay
  | .PC_TRN_TRIM_VREF => some (s.trimShown d i).vref
  | .PC_TRN_TRIM_VALID => some (bit01 (s.trimShown d i).valid)
  | .PC_TRN_TRIM_DRIFT => some (toTwos 8 (((s.trimShown d i).delay : Int) - (s.trimShown d i).trained))
  | .PC_RETRAIN_STATUS_HALTED => some (bit01 (s.pc d i).trnHalted)
  | .PC_REPLAY_BOUND_CCLK =>
    some (s.replayBound d i)
  | .PC_REPLAY_DEPTH_HELD => some (s.pc d i).retry.length
  | _ => none

/-! ## Chapters 13 to 15 -/

/-- Offset in a pane of the sector at a place, the inverse of the address orders (R116 to R119); none where the place is not the pane's. -/
def State.offsetOf (s : State) (p : PaneDef) (pl : Place) : Option Nat :=
  let g := s.paneGeom p
  let gb := 2 ^ p.granLog2
  let l := rankedPcs p.mask
  match (List.range l.length).find? fun k => l.getD k (0, 0) == (pl.hub, pl.pc) with
  | none => none
  | some rank =>
    if pl.row < p.rowFirst ∨ p.rowFirst + p.rowCount ≤ pl.row ∨ g.1 ≤ pl.bank then none
    else
      let r := pl.row - p.rowFirst
      let f := r ^^^ (r / 256)
      let fold := p.order = 3
      let i := if fold then foldLow (trailingZeros 10 p.pcCount) rank (f / 2 ^ trailingZeros 8 g.1) else rank
      let bank := if fold then foldLow (trailingZeros 8 g.1) pl.bank f else pl.bank
      let byte := 32 * pl.col
      let m := granBanks gb g.2
      let bm := g.1 / m
      let k := chRadix gb g.2
      let ch := if gb ≤ g.2 then byte / gb else 0
      let w := if gb ≤ g.2 then byte % gb else bank % m * g.2 + byte
      let b := bank / m
      let x := match p.order with
        | 1 => b + bm * (i + p.pcCount * (ch + k * r))
        | 2 => r % 8 + 8 * (b + bm * (i + p.pcCount * (ch + k * (r / 8))))
        | _ => i + p.pcCount * (ch + k * (b + bm * r))
      let o := x * gb + w
      if o < p.size then some o else none

/-- ECC_XLATE: the address of a log entry's sector through a pane, and whether it lies there. -/
def State.xlate (s : State) (h e n : Nat) : Nat × Bool :=
  match s.logAt h e, s.paneDef n with
  | some x, some p =>
    match s.offsetOf p { hub := h, pc := x.pc, bank := x.bank, row := x.row, col := x.col } with
    | some o => (p.base + o, true)
    | none => (0, false)
  | _, _ => (0, false)

def State.logField (s : State) (h e : Nat) (f : LogEnt → Nat) : Nat := ((s.logAt h e).map f).getD 0

/-- Age of a stack's temperature reading in ms. -/
def State.readingAge (s : State) (h st : Nat) : Nat := (((s.src (3 * h + st)).at_).map fun t => clip 8 ((s.now - t) / 100000)).getD 0

/-- The pseudo-channel that HUB_SPARE_SEL names. -/
def State.spareSelPc (s : State) (h : Nat) : Nat := 32 * s.rd .HUB_SPARE_SEL_STACK h 0 0 + s.rd .HUB_SPARE_SEL_PC h 0 0

def State.viewGuard (s : State) (f : Fld) (d i _j : Nat) : Option Nat :=
  match f with
  | .ECC_BUCKET_CAPACITY => some (if s.cfg.isSome then (s.eccCfg d).capacity else 0)
  | .ECC_BUCKET_LEAK_MS => some (if s.cfg.isSome then (s.eccCfg d).leakMs else 0)
  | .ECC_LOG_STATUS_USED => some ((List.range 32).filter fun e => (s.logAt d e).isSome).length
  | .ECC_BUCKET_LEVEL_LEVELS => some (packBits 8 ((List.range 4).map fun k => clip 8 (s.level d (4 * i + k))))
  | .ECC_LOG_LOC_PC => some (s.logField d i (·.pc))
  | .ECC_LOG_LOC_BANK => some (s.logField d i (·.bank))
  | .ECC_LOG_LOC_ROW => some (s.logField d i (·.row))
  | .ECC_LOG_LOC_COL => some (s.logField d i (·.col))
  | .ECC_LOG_LOC_SYMBOL => some (s.logField d i (·.symbol))
  | .ECC_LOG_LOC_KIND => some (s.logField d i (·.kind))
  | .ECC_LOG_LOC_COUNT => some (s.logField d i (·.count))
  | .ECC_LOG_LOC_CASEMENT => some (s.logField d i (·.cas))
  | .ECC_LOG_LOC_VALID => some (bit01 (s.logAt d i).isSome)
  | .ECC_LOG_INFO_TIME => some (s.logField d i fun x => x.time % 2 ^ 48)
  | .ECC_LOG_INFO_PANE => some (s.logField d i fun x => x.pane.getD 0)
  | .ECC_LOG_INFO_IN_PANE => some (s.logField d i fun x => bit01 x.pane.isSome)
  | .ECC_LOG_INFO_BITS => some (s.logField d i (·.bits))
  | .ECC_FENCE_BASE_BASE => some ((Tab.get (0, 0) s.fences i).1 / 256)
  | .ECC_FENCE_BASE_VALID => some (bit01 (Tab.find s.fences i).isSome)
  | .ECC_FENCE_LEN_LEN => some ((Tab.get (0, 0) s.fences i).2 / 256)
  | .HUB_1500_STATUS_OWNER => some (s.port d i).owner
  | .HUB_1500_STATUS_PROGRAM => some (bit01 (s.port d i).program)
  | .HUB_1500_STATUS_AGE_MS => some (s.readingAge d i)
  | .HUB_FUSE_STATUS_NEXT => some (s.fuseNext d)
  | .HUB_FUSE_STATUS_BAD => some (s.fuseBad d)
  | .HUB_FUSE_STATUS_FULL => some (bit01 (s.fuseFull d))
  | .HUB_FUSE_DATA_RECORD => some (s.fuseRec d (s.rd .HUB_FUSE_SEL_INDEX d 0 0)).toNat
  | .HUB_SPARE_READ_SOFT_LEFT => some (clip 4 (s.sparesLeft d (s.spareSelPc d) (s.rd .HUB_SPARE_SEL_BANK d 0 0) 1))
  | .HUB_SPARE_READ_HARD_LEFT => some (clip 4 (s.sparesLeft d (s.spareSelPc d) (s.rd .HUB_SPARE_SEL_BANK d 0 0) 2))
  | .HUB_SPARE_READ_LANE_LEFT => some (clip 4 (s.sparesLeft d (s.spareSelPc d) 0 3))
  | .HUB_SPARE_READ_PGM_MS => some (clip 11 (((s.stackId d (s.rd .HUB_SPARE_SEL_STACK d 0 0)).map (·.pgmMs)).getD 0))
  | .HUB_1500_BUF_DATA => some (leN 4 ((List.range 4).map fun k => Tab.get 0 s.shiftBuf (512 * d + 4 * i + k)))
  | _ => none

def State.thermField (s : State) (d : Nat) (f : ThermalCfg → Nat) : Nat := ((s.thermalCfg d).map f).getD 0

def State.viewHeat (s : State) (f : Fld) (d i _j : Nat) : Option Nat :=
  match f with
  | .THM_AVG_PERIOD_MS => some (s.thermField d (·.avgMs))
  | .THM_AVG_HYST => some (s.thermField d (·.hyst))
  | .THM_ENTRY_STACK_E1 => some (s.thermField d fun c => c.stackEntry.getD 0 0)
  | .THM_ENTRY_STACK_E2 => some (s.thermField d fun c => c.stackEntry.getD 1 0)
  | .THM_ENTRY_STACK_E3 => some (s.thermField d fun c => c.stackEntry.getD 2 0)
  | .THM_DIE_ENTRY_E1 => some (s.thermField d fun c => c.dieEntry.getD 0 0)
  | .THM_DIE_ENTRY_E2 => some (s.thermField d fun c => c.dieEntry.getD 1 0)
  | .THM_DIE_ENTRY_E3 => some (s.thermField d fun c => c.dieEntry.getD 2 0)
  | .THM_ACTION_GEN_SHARE => some (s.thermField d fun c => ((c.actions[i]?).map (·.genShare)).getD 0)
  | .THM_ACTION_COLL_SHARE => some (s.thermField d fun c => ((c.actions[i]?).map (·.collShare)).getD 0)
  | .THM_ACTION_THROTTLE => some (s.thermField d fun c => ((c.actions[i]?).map (·.throttle)).getD 0)
  | .THM_ACTION_HINGE_CAP => some (s.thermField d fun c => ((c.actions[i]?).map (·.hingeCap)).getD 0)
  | .THM_STACK_READING => some (toTwos 8 (s.src (3 * d + i)).reading)
  | .THM_STACK_AVG => some (toTwos 8 (s.src (3 * d + i)).avg.floor)
  | .THM_STACK_TIER => some (if s.stackIn d i then s.tierShown (s.stackTier d i) else 0)
  | .THM_STACK_STALE => some (bit01 (s.stackIn d i && !s.unstarted && (s.src (3 * d + i)).stale))
  | .THM_STACK_CLOSED => some (bit01 (s.knowsClosed d d i))
  | .THM_HUB_DIE_TEMP => some (toTwos 8 (s.src (12 + d)).reading)
  | .THM_HUB_DIE_TIER => some (s.tierShown (s.src (12 + d)).tier)
  | .THM_HUB_HUB_TIER => some (s.tierShown (s.hubTier d))
  | .THM_HUB_THROTTLE_OUT => some (s.throttleOut d)
  | .CMP_THM_STATUS_TEMP => some (toTwos 8 (s.src (16 + d)).reading)
  | .CMP_THM_STATUS_TIER => some (s.tierShown (s.src (16 + d)).tier)
  | .CMP_THM_STATUS_LEVEL => some (s.throttleLevel d)
  | .CMP_THM_STATUS_HUB_LEVEL => some (s.aksal d).hubLevel
  | .SVC_THM_STATUS_PKG_TIER => some (s.tierShown s.pkgTier)
  | .SVC_THM_STATUS_SVC_TIER => some (s.tierShown (s.src 20).tier)
  | _ => none

/-! ## Chapters 16 to 24 -/

/-- The core that CMP_CORE_SEL of a die names. -/
def State.selCore (s : State) (d : Nat) : CorePos := { d := d, k := s.rd .CMP_CORE_SEL_CLUSTER d 0 0, c := s.rd .CMP_CORE_SEL_CORE d 0 0 }

/-- The queue whose registers bear key d and index i. -/
def queueAt (d i : Nat) : QueueId := { engine := engineAt (d / 4), inst := Fin.ofNat 4 d, idx := Fin.ofNat 32 i }

/-- The pool that PAGE_POOL_SEL of a hub names, where that hub serves it. -/
def State.selPool (s : State) (h : Nat) : PoolSt :=
  let c := s.rd .PAGE_POOL_SEL_CASEMENT h 0 0
  let k := s.rd .PAGE_POOL_SEL_POOL h 0 0
  if (s.poolDecl c k).any fun x => x.2 == h then s.pool c k else PoolSt.reset

def ExpSt.boundBits (x : ExpSt) (a n : Nat) : Nat := packBits 1 ((List.range n).map fun k => bit01 (Tab.get none x.binds (a + k)).isSome)

/-- The RING command in progress of queue i of a hub. -/
def State.collOf (s : State) (h i : Nat) : Option CollSt := s.colls.find? fun x => x.q == queueAt (12 + h) i

def State.viewEngine (s : State) (f : Fld) (d i _j : Nat) : Option Nat :=
  match f with
  | .CMP_CORE_STATE_IP => some (s.core (s.selCore d)).ip
  | .CMP_CORE_STATE_DEPTH => some (s.core (s.selCore d)).loops.length
  | .CMP_CORE_STATE_STALL => some (s.core (s.selCore d)).stall
  | .CMP_CORE_STATE_RUNNING => some (bit01 (s.cluster d (s.selCore d).k).kernel.isSome)
  | .CMP_CORE_STATE_ENDED => some (bit01 (s.core (s.selCore d)).ended)
  | .CMP_CORE_STATE_STREAMS => some (Nat.min 16 (s.core (s.selCore d)).outstanding)
  | .QUEUE_STATE_RUNNING => some (clip 8 ((s.queue (queueAt d i)).cmds.filter fun c => c.started && c.ended.isNone).length)
  | .QUEUE_INFO_ID => some (if (s.ownerOf (queueAt d i)).isSome then queueCode (queueAt d i) else 0)
  | .QUEUE_INFO_CASEMENT => some (((s.ownerOf (queueAt d i)).map (·.1)).getD 0)
  | .QUEUE_INFO_INDEX => some (((s.ownerOf (queueAt d i)).map (·.2)).getD 0)
  | .QUEUE_INFO_VALID => some (bit01 (s.ownerOf (queueAt d i)).isSome)
  | .PAGE_POOL_FREE_PAGES => some (if (s.selPool d).init then (s.selPool d).freePages else 0)
  | .PAGE_POOL_STATE_INIT => some (bit01 (s.selPool d).init)
  | .PAGE_POOL_STATE_BROKEN => some (bit01 (s.selPool d).broken)
  | .PAGE_POOL_STATE_HELD => some (clip 8 (s.selPool d).held.length)
  | .CMP_EXP_STATE_OWNER => some ((s.exp d i).owner.getD 0)
  | .CMP_EXP_STATE_LOADED => some (bit01 (s.exp d i).owner.isSome)
  | .CMP_EXP_STATE_QUEUED => some (clip 6 (s.exp d i).reqs.length)
  | .CMP_EXP_STATE_SLOTS => some ((s.exp d i).boundBits 0 20)
  | .CMP_EXP_SLOTS_HI_SLOTS => some ((s.exp d i).boundBits 20 12)
  | .TRW_PORT_STATUS_UP => some (bit01 (s.port4 d i).up)
  | .TRW_PORT_STATUS_WIDTH => some (bit01 (s.port4 d i).half)
  | .TRW_PORT_STATUS_DIR => some ((s.routeCfg.map fun c => c.portMap.getD (4 * d + i) 15 % 16).getD 15)
  | .TRW_NODE_ID_NODE => some s.ownNode
  | .RING_COLL_STATE_STEP => some (((s.collOf d i).map (·.recv)).getD 0)
  | .RING_COLL_STATE_TIER => some (((s.collOf d i).map (·.tier)).getD 0)
  | .RING_COLL_STATE_EXTENDED => some (((s.collOf d i).map fun x => bit01 x.extended).getD 0)
  | _ => none

/-- Credits the die holds; none unless the link is ACTIVE. -/
def State.creditsHeld (s : State) (h : Nat) (urgent : Bool) : Nat :=
  let u := s.doorField h 0 (·.urgentCred)
  if (s.aksal h).state = 6 then (if urgent then u else Config.doorEntries 0 - u) - s.creditsOut h urgent else 0

/-- A field of a link's registers: side d is the hub's, 4 + d the die's, which has the hub's sideband for its inputs. -/
def State.viewLink (s : State) (f : Fld) (d : Nat) : Option Nat :=
  let x := s.aksal (d % 4)
  match f with
  | .AKS_STATUS_STATE => some x.state
  | .AKS_STATUS_CD_PWR_OK => some (bit01 (s.cdieIn (d % 4) && if d < 4 then x.cdPwr else x.hbPwr))
  | .AKS_STATUS_CD_RST_N => some (bit01 (s.cdieIn (d % 4) && if d < 4 then x.cdRst else x.hbRst))
  | .AKS_CREDIT_GEN => some (s.creditsHeld (d % 4) false)
  | .AKS_CREDIT_URG => some (s.creditsHeld (d % 4) true)
  | _ => none

def State.viewHost (s : State) (f : Fld) (d i _j : Nat) : Option Nat :=
  match f with
  | .FN_INFO_CASEMENT => some ((s.casOfFn d).getD 0)
  | .FN_INFO_VALID => some (bit01 (s.casOfFn d).isSome)
  | .FN_INFO_READY => some (bit01 (s.boot.stage == .running))
  | .FN_RESET_BUSY => some (bit01 (s.fnResetting d))
  | .CNT_OWNER_HELD => some (bit01 (s.holderOf d i).isSome)
  | .CNT_OWNER_CASEMENT => some ((((s.holderOf d i).bind s.casOfFn)).getD 0)
  | .CNT_CTRL_FROZEN => some (bit01 (s.frozen d))
  | .CMP_CCNT_READ_CNT0 => some ((s.core (s.selCore d)).cnt0 % 2 ^ 32)
  | .CMP_CCNT_READ_CNT1 => some ((s.core (s.selCore d)).cnt1 % 2 ^ 32)
  | .FN_CNT_VALUE_VALUE => some (s.slotValue d i)
  | .FN_CCNT_READ_CNT0 => some (((s.fnCore d).map fun p => (s.core p).cnt0 % 2 ^ 32).getD 0)
  | .FN_CCNT_READ_CNT1 => some (((s.fnCore d).map fun p => (s.core p).cnt1 % 2 ^ 32).getD 0)
  | .HUB_INT_STATUS_ECC => some (bit01 (s.eccInt d))
  | .HUB_INT_STATUS_THM => some (bit01 (s.thmInt d))
  | _ => none

/-! ## The core stores behind CMP_SRAM_WIN -/

/-- The slot that a word of the selected page lies in: the local store, feeder A, feeder B; none for the instruction cache. -/
def sramSlot (page w : Nat) : Option Nat :=
  let k := w / 64
  if page < 14 then some (16 * page + k)
  else if page < 17 then some (256 + 16 * (page - 14) + k)
  else if page < 20 then some (512 + 16 * (page - 17) + k)
  else none

/-- A 32-bit word of the page that CMP_SRAM_PAGE selects. -/
def State.sramRead (s : State) (d w : Nat) : Nat :=
  let x := s.core (s.selCore d)
  match sramSlot (s.rd .CMP_SRAM_PAGE_PAGE d 0 0) w with
  | some k => elem (x.slot k).data 32 (w % 64)
  | none => ((x.icache[w / 2]?).map fun v => v.toNat / 2 ^ (32 * (w % 2)) % 2 ^ 32).getD 0

/-- What a field reads as. -/
def State.fieldValue (s : State) (f : Fld) (d i j : Nat) : Nat :=
  match f with
  | .CMP_SRAM_WIN_DATA => s.sramRead d i
  | _ =>
    (s.viewPackage f d i j <|> s.viewPath f d i j <|> s.viewStack f d i j <|> s.viewGuard f d i j <|> s.viewHeat f d i j <|>
      s.viewEngine f d i j <|> s.viewLink f d <|> s.viewHost f d i j).getD (s.rd f d i j)

/-- The key under which the fields of a register stand: synchronisation counters are kept by casement and number. -/
def RegAt.key (a : RegAt) : Nat × Nat × Nat :=
  match a.reg with
  | .SYNC_CNT => (a.i, a.j, 0)
  | _ => (a.d, a.i, a.j)

/-- The value of a register: its fields in their places; write-only fields and reserved bits read 0 (R6, R7). -/
def State.regValue (s : State) (a : RegAt) : Nat :=
  let k := a.key
  (fieldsOf a.reg).foldl (fun v r => if r.acc = .wo then v else v + s.fieldValue r.f k.1 k.2.1 k.2.2 % 2 ^ r.width * 2 ^ r.lo) 0

end Sys2Proof.Machine
end

