-- ==== Sys2Proof/Machine/Access.lean ====
section
/-! DEFINITION. Accesses of the PCIe host to registers: where they lie, what they read, and what writing them does (R4 to R9, R101, R379, R384, R386, R431, R432). -/

namespace Sys2Proof.Machine

/-! ## Where an access lies -/

def regBytes (r : Reg) : Nat := if isWide r then 8 else 4

/-- Where offset o of a window lies in the registers of a row: their indices, and the byte. -/
def RegRow.find (r : RegRow) (o : Nat) : Option (Nat × Nat × Nat) :=
  if o < r.base then none
  else
    let x := o - r.base
    match r.strides with
    | [] => if x < regBytes r.reg then some (0, 0, x) else none
    | [(n, a)] => if x / a < n ∧ x % a < regBytes r.reg then some (x / a, 0, x % a) else none
    | (n, a) :: (m, b) :: _ => if x / a < n ∧ x % a / b < m ∧ x % a % b < regBytes r.reg then some (x / a, x % a / b, x % a % b) else none

/-- Registers of a pseudo-channel without a stack are not there (R25); the recovery buffer is there in recovery only (R108). -/
def State.rowIn (s : State) (r : RegRow) (n i : Nat) : Bool :=
  if r.win = .hub ∧ 0x100000 ≤ r.base ∧ r.base < 0x200000 then s.pcIn n i
  else if r.reg = .SVC_RECOV_BUF then s.board.straps.boot == 3
  else true

/-- The register, and the byte of it, at an offset of window number n. -/
def State.regIn (s : State) (rows : List RegRow) (n o : Nat) : Option (RegAt × Nat) :=
  rows.findSome? fun r =>
    match r.find o with
    | some (i, j, b) => if s.rowIn r n i then some ({ reg := r.reg, d := r.dOff + n, i := i, j := j }, b) else none
    | none => none

/-- What a byte of a BAR belongs to: a register, or a byte of an entry of the MSI-X table, or of the PBA. -/
inductive Spot where
  | reg (a : RegAt) (byte : Nat)
  | msix (vec byte : Nat)
  | pba (byte : Nat)
  deriving DecidableEq, Repr

def spotReg (x : Option (RegAt × Nat)) : Option Spot := x.map fun y => .reg y.1 y.2

/-- BAR0 of the physical function (R431, R432). -/
def State.spotPf (s : State) (o : Nat) : Option Spot :=
  if o < 0x1000000 then
    if 0x8000 ≤ o ∧ o < 0x18000 then spotReg (s.regIn fnRows 0 (o - 0x8000)) else spotReg (s.regIn svcRows 0 o)
  else if o < 0x3000000 then
    let h := (o - 0x1000000) / 0x800000
    if s.hubIn h then spotReg (s.regIn hubRows h ((o - 0x1000000) % 0x800000)) else none
  else
    let c := (o - 0x3000000) / 0x400000
    if s.cdieIn c then spotReg (s.regIn dieRows c ((o - 0x3000000) % 0x400000)) else none

/-- The window of a queue by its identifier (R310): every queue window has one layout. -/
def State.spotQueue (s : State) (q o : Nat) : Option Spot :=
  match s.regIn dieRows 0 (0x30000 + o) with
  | some (a, b) => some (.reg { a with d := qd (queueOf q), i := (queueOf q).idx.val } b)
  | none => none

/-- BAR4 of a function whose casement is c (R379, R384). -/
def State.spotBar4 (s : State) (f c o : Nat) : Option Spot :=
  if o < 0x20000 then
    match ((s.casementCfg c).map (·.queues)).getD [] |>.drop (o / 0x1000) with
    | [] => none
    | q :: _ => if o % 0x1000 < 0x40 then s.spotQueue q (o % 0x1000) else none
  else if o < 0x20080 then some (.reg { reg := .SYNC_CNT, d := 0, i := c, j := (o - 0x20000) / 8 } (o % 8))
  else if 0x30000 ≤ o ∧ o < 0x30400 ∧ (s.msixKey f 0).isSome then some (.msix ((o - 0x30000) / 16) (o % 16))
  else if 0x30800 ≤ o ∧ o < 0x30808 ∧ (s.msixKey f 0).isSome then some (.pba (o % 8))
  else none

def State.spotAt (s : State) (b : Bar) (f o : Nat) : Option Spot :=
  match b with
  | .bar0 => if f = 0 then s.spotPf o else spotReg (s.regIn fnRows f o)
  | .bar2 => none
  | .bar4 => match s.casOfFn f with | some c => s.spotBar4 f c o | none => none

/-- Which part of a register an access covers: all of it, or a 32-bit half of a 64-bit register (R4). -/
inductive Part where
  | whole | low | high
  deriving DecidableEq, Repr

def partOf (r : Reg) (byte width : Nat) : Option Part :=
  if byte = 0 ∧ width = regBytes r then some .whole
  else if isWide r ∧ width = 4 ∧ byte = 0 then some .low
  else if isWide r ∧ width = 4 ∧ byte = 4 then some .high
  else none

/-- What an access reaches, or the reason for which it faults (R5): 0 where it breaks R4, 1 where no byte of it is a register's. -/
inductive Reach where
  | reg (a : RegAt) (p : Part)
  | msix (vec word : Nat) (wide : Bool)
  | pba (word : Nat) (wide : Bool)
  | fault (reason : Nat)
  deriving DecidableEq, Repr

def wordsOk (byte width : Nat) : Bool := (width == 4 && byte % 4 == 0) || (width == 8 && byte % 8 == 0)

def State.reachOf (s : State) (a : Access) : Reach :=
  let f := a.fn.val
  let bad : Reach := .fault (if (List.range a.width).any fun k => (s.spotAt a.bar f (a.off + k)).isSome then accR4 else accNone)
  match s.spotAt a.bar f a.off with
  | some (.reg r b) => match partOf r.reg b a.width with | some p => .reg r p | none => bad
  | some (.msix v b) => if wordsOk b a.width then .msix v (b / 4) (a.width == 8) else bad
  | some (.pba b) => if wordsOk b a.width then .pba (b / 4) (a.width == 8) else bad
  | none => bad

/-- Whether the access goes to a hub or compute-die window or to BAR4, which a hinge holds (R215, R386). -/
def accCrosses (a : Access) : Bool :=
  match a.bar with
  | .bar0 => a.fn == 0 && decide (0x1000000 ≤ a.off)
  | _ => true

/-- The gates of a register access (R101, R377, R386): BAR0 but its service window answers from READY on, and BAR4 as BAR2 does. -/
def State.regGate (s : State) (a : Access) : HostGate :=
  match a.bar with
  | .bar0 =>
    match s.hostGate a.fn.val true with
    | .ok => if (a.fn == 0 && decide (a.off < 0x1000000)) || s.readied then .ok else .noReg
    | g => g
  | _ => s.hostGate a.fn.val false

/-- The access waits: through a hinge, and a BAR4 read through PF1 (R215, R386). -/
def State.regHeld (s : State) (a : Access) (write : Bool) : Bool :=
  accCrosses a && (s.hinge.step != 0 || (s.pf1 && !write && a.bar == .bar4))

/-! ## Reads -/

/-- 0xFF in every byte. -/
def onesOf (width : Nat) : Word := BitVec.ofNat 64 (2 ^ (8 * width) - 1)

def State.latched (s : State) (a : RegAt) : Option Nat := (s.half.find? fun x => x.1 = a).map (·.2)
def State.unlatch (s : State) (a : RegAt) : State := { s with half := s.half.filter fun x => x.1 != a }

/-- The bank whose CNT_READ_TIME a read of a register sets (R411). -/
def State.countedBank (s : State) (a : RegAt) : Option Nat :=
  match a.reg with
  | .CNT_VALUE => some a.d
  | .CMP_CCNT_READ => some (4 + a.d)
  | .FN_CNT_VALUE => (s.slotHolds a.d a.i).map (· / 32)
  | .FN_CCNT_READ => (s.fnCore a.d).map fun p => 4 + p.d
  | _ => none

/-- What hardware does when a counter is read. -/
def State.noteCount (s : State) (a : RegAt) : State :=
  match s.countedBank a with
  | some b => s.readCounter b
  | none => s

/-- A read of a register: the low half latches the value that the high half then shows (R4). -/
def State.readReg (s : State) (a : RegAt) (p : Part) : State × Nat :=
  match p with
  | .whole => (s.noteCount a, s.regValue a)
  | .low =>
    let v := s.regValue a
    ({ (s.noteCount a).unlatch a with half := (a, v) :: ((s.noteCount a).unlatch a).half }, v % 2 ^ 32)
  | .high =>
    match s.latched a with
    | some v => (s.unlatch a, v / 2 ^ 32)
    | none => (s.noteCount a, s.regValue a / 2 ^ 32)

/-- Words of an MSI-X table entry: address low and high, data, vector control. -/
def MsixSt.word (x : MsixSt) (k : Nat) : Nat :=
  match k with
  | 0 => x.addr.toNat % 2 ^ 32
  | 1 => x.addr.toNat / 2 ^ 32
  | 2 => x.data.toNat
  | _ => bit01 x.masked

def State.msixEntry (s : State) (f v : Nat) : MsixSt := ((s.msixKey f v).map s.msixAt).getD MsixSt.reset

/-- Pending bits of a function's vectors. -/
def State.pbaBits (s : State) (f : Nat) : Nat := packBits 1 ((List.range 64).map fun v => bit01 (s.msixEntry f v).pend)

/-- CMP_SRAM_WIN while a kernel runs on the selected cluster (chapter 16). -/
def State.sramShut (s : State) (a : RegAt) : Bool := a.reg == .CMP_SRAM_WIN && (s.cluster a.d (s.selCore a.d).k).kernel.isSome

/-- The end of a read: its value goes back to the host. -/
def State.answered (s : State) (a : Access) (v : Nat) : State := s.emit (.regRead a (BitVec.ofNat 64 v))

/-- A faulting read (R5). -/
def State.readFault (s : State) (a : Access) (reason : Nat) : State := (s.accErr a false reason).emit (.regRead a (onesOf a.width))

/-- A read that passes the gates. -/
def State.readNow (s : State) (a : Access) : State :=
  match s.reachOf a with
  | .fault n => s.readFault a n
  | .msix v k wide =>
    let x := s.msixEntry a.fn.val v
    s.answered a (x.word k + if wide then x.word (k + 1) * 2 ^ 32 else 0)
  | .pba k wide => s.answered a (if wide then s.pbaBits a.fn.val else s.pbaBits a.fn.val / 2 ^ (32 * k) % 2 ^ 32)
  | .reg r p => if s.sramShut r then s.readFault a accNone else (s.readReg r p).1.answered a (s.readReg r p).2

/-- A read of a register by the host. -/
def State.regRead (s : State) (a : Access) : State :=
  match s.regGate a with
  | .gone => s
  | .ur => s.emit (.hostUr a.fn.val)
  | .noReg => s.readFault a accNone
  | .ones => s.emit (.regRead a (onesOf a.width))
  | .refused => (s.emit (.regRead a (onesOf a.width))).refusedAt a.fn.val
  | .ok => if s.regHeld a false then { s with heldRegs := s.heldRegs ++ [(a, none)] } else s.readNow a

/-! ## Writes -/

/-- Whether a part of a register holds bits of a field. -/
def Part.touches (p : Part) (r : FieldRow) : Bool :=
  match p with
  | .whole => true
  | .low => decide (r.lo < 32)
  | .high => decide (32 < r.lo + r.width)

/-- A register's bits after a part of them is replaced by v. -/
def Part.over (p : Part) (old v : Nat) : Nat :=
  match p with
  | .whole => v
  | .low => old / 2 ^ 32 * 2 ^ 32 + v % 2 ^ 32
  | .high => old % 2 ^ 32 + v % 2 ^ 32 * 2 ^ 32

def FieldRow.of (r : FieldRow) (n : Nat) : Nat := n / 2 ^ r.lo % 2 ^ r.width

/-- The register as its RW fields stand. -/
def State.rwImage (s : State) (a : RegAt) : Nat :=
  let k := a.key
  (fieldsOf a.reg).foldl (fun v r => if r.acc = .rw then v + s.fieldValue r.f k.1 k.2.1 k.2.2 % 2 ^ r.width * 2 ^ r.lo else v) 0

/-- The register as a write leaves its RW fields, its other bits as written. -/
def State.imageAfter (s : State) (a : RegAt) (p : Part) (v : Nat) : Nat := p.over (s.rwImage a) v

/-- Some RW field that the write touches would leave its range. -/
def State.outOfRange (s : State) (a : RegAt) (p : Part) (v : Nat) : Bool :=
  ((fieldsOf a.reg).any fun r => r.acc == .rw && p.touches r && !inRange r.min r.max (r.of (s.imageAfter a p v))) ||
  (a.reg == .SVC_PF_CFG && decide (s.imageAfter a p v % 2 ^ 9 ≤ s.imageAfter a p v / 2 ^ 16 % 2 ^ 9))

/-- One field takes what was written: by its access code (R6); a bit that hardware has set in this CCLK stays, and a count takes the events of this CCLK (R9). -/
def State.setField (s : State) (k : Nat × Nat × Nat) (p : Part) (img v : Nat) (r : FieldRow) : State :=
  let old := s.rd r.f k.1 k.2.1 k.2.2
  let w := r.of (p.over 0 v)
  match r.acc with
  | .rw => if p.touches r then (if r.f = .SYNC_CNT_VALUE then s.syncSet k.1 k.2.1 (r.of img) else s.wr r.f k.1 k.2.1 k.2.2 (r.of img)) else s
  | .w1c => if w = 0 then s else s.wr r.f k.1 k.2.1 k.2.2 (old - (old &&& w) ||| (old &&& s.freshBits r.f k.1 k.2.1 k.2.2))
  | .cnt => if w = 2 ^ r.width - 1 then s.wr r.f k.1 k.2.1 k.2.2 (Nat.min r.max (s.freshCount r.f k.1 k.2.1 k.2.2)) else s
  | _ => s

/-- Every field of a register takes what was written. -/
def State.setFields (s : State) (a : RegAt) (p : Part) (v : Nat) : State :=
  (fieldsOf a.reg).foldl (fun t r => t.setField a.key p (s.imageAfter a p v) v r) s

/-- Bytes that a stack shifts out at a direct access started by a register write: the spec gives no value (log entry 10). -/
def openBytes (n : Nat) : List Byte :=
  (List.range 512).map fun k => BitVec.ofNat 8 ((Config.freeBlock (n + k / 256)).toNat / 256 ^ (k % 256))

/-- IMG_CTRL: GO then ABORT; GO is not allowed while BUSY (R53). -/
def State.writeImgCtrl (s : State) (n : Nat) : WriteResult :=
  if n % 2 = 1 ∧ s.rd .IMG_CTRL_BUSY 0 0 0 = 1 then .inr accState
  else
    let t := if n % 2 = 1 then s.startImage else s
    .inl (if n / 2 % 2 = 1 then t.abortStaged else t)

/-- IMG_LAYOUT_CTRL (R126). -/
def State.writeLayoutCtrl (s : State) (a : RegAt) (n : Nat) : WriteResult :=
  if n.testBit 8 && s.rd .IMG_LAYOUT_CTRL_BUSY 0 0 0 == 1 then .inr accState
  else
    let t := s.setFields a .whole n
    .inl (if n.testBit 8 then t.startLayout else t)

/-- SVC_HINGE_CTRL (R208). -/
def State.writeHingeCtrl (s : State) (a : RegAt) (n : Nat) : State :=
  let t := s.setFields a .whole n
  if n.testBit 8 then t.hingeRequest (n % 8) else t

/-- SVC_PWR_CTRL (R219). -/
def State.writePwrCtrl (s : State) (a : RegAt) (n : Nat) : State :=
  let t := s.setFields a .whole n
  if n.testBit 8 then t.pwrRequest (n % 4) else t

/-- PC_DEBUG.HALT (R167): clearing it clears the completed halt. -/
def State.writeDebug (s : State) (h p : Nat) (halt : Bool) : State :=
  let t := s.wr .PC_DEBUG_HALT h p 0 (bit01 halt)
  t.setPc h p { t.pc h p with halt := halt, halted := halt && (t.pc h p).halted }

/-- PC_DEBUG_CMD (R186). -/
def State.writeDebugCmd (s : State) (h p : Nat) (v : Word) : WriteResult :=
  match s.debugCmdCheck h p v with
  | some r => .inr r
  | none => .inl (s.debugCmd h p v)

/-- PC_TRN_CTRL (R226). -/
def State.writeTrnCtrl (s : State) (a : RegAt) (n : Nat) : State :=
  let t := s.setFields a .whole n
  if n.testBit 3 then t.trnStart a.d a.i t.phase else t

/-- PC_TRN_TRIM: DELAY and VREF of the selected record (R227). -/
def State.writeTrim (s : State) (h p n : Nat) : State :=
  if s.trimLaneIn h p then
    let lane := s.rd .PC_TRN_SEL_LANE h p 0
    let hp := s.rd .PC_TRN_SEL_HP h p 0
    s.writeTrimRec h p lane hp { s.trim h p lane hp with delay := n % 2 ^ 7, vref := n / 2 ^ 8 % 2 ^ 7 }
  else s

/-- ECC_XLATE holds the result of the last write (chapter 13). -/
def State.writeXlate (s : State) (a : RegAt) (p : Part) (v : Nat) : State :=
  let t := s.setFields a p v
  let r := t.xlate a.d (t.rd .ECC_XLATE_ENTRY a.d 0 0) (t.rd .ECC_XLATE_PANE a.d 0 0)
  (t.wr .ECC_XLATE_ADDR a.d 0 0 r.1).wr .ECC_XLATE_VALID a.d 0 0 (bit01 r.2)

/-- HUB_1500_DIRECT_CTRL (R275). -/
def State.writeDirect (s : State) (a : RegAt) (n : Nat) : State :=
  let t := s.setFields a .whole n
  if n.testBit 31 then { t with free := t.free + 2 }.directAccess a.d (openBytes t.free) else t

/-- A word of HUB_1500_BUF. -/
def State.writeShiftBuf (s : State) (h i n : Nat) : State :=
  { s with shiftBuf := (List.range 4).foldl (fun t k => Tab.put 0 t (512 * h + 4 * i + k) (BitVec.ofNat 8 (n / 256 ^ k))) s.shiftBuf }

/-- A word of the recovery buffer (R108). -/
def State.writeRecov (s : State) (i n : Nat) : State :=
  { s with recov := (s.recov ++ List.replicate (4 * i - s.recov.length) 0).take (4 * i) ++ (List.range 4).map (fun k => BitVec.ofNat 8 (n / 256 ^ k)) ++ s.recov.drop (4 * i + 4) }

/-- Replace word e of 32 bits of a number. -/
def putWord (v e n : Nat) : Nat := v - v / 2 ^ (32 * e) % 2 ^ 32 * 2 ^ (32 * e) + n % 2 ^ 32 * 2 ^ (32 * e)

/-- A word of the selected page of a core (chapter 16); a write of a sector's bytes clears its poison bit (R304). -/
def State.writeSram (s : State) (d w n : Nat) : State :=
  let p := s.selCore d
  let x := s.core p
  match sramSlot (s.rd .CMP_SRAM_PAGE_PAGE d 0 0) w with
  | some k =>
    let y := x.slot k
    s.setCore p (x.setSlot k { data := BitVec.ofNat 2048 (putWord y.data.toNat (w % 64) n), poison := y.poison &&& ~~~ BitVec.ofNat 8 (2 ^ (w % 64 / 8)) })
  | none =>
    let l := x.icache ++ List.replicate (512 - x.icache.length) 0
    s.setCore p { x with icache := l.set (w / 2) (BitVec.ofNat 64 (putWord ((l.getD (w / 2) 0).toNat) (w % 2) n)) }

/-- QUEUE_CTRL: ENABLE (R316), then RESTART (R331); a change of power state that waits for a disabled queue goes on (R219). -/
def State.writeQueueCtrl (s : State) (a : RegAt) (n : Nat) : State :=
  let q := queueAt a.d a.i
  let t := (if n % 2 = 1 then s.enableQueue q else s).setFields a .whole n
  (if n / 2 % 2 = 1 then t.restartQueue q else t).pwrProgress

/-- QUEUE_BASE, QUEUE_CPL_BASE and QUEUE_SIZE while ENABLE is 1 are discarded (chapter 17). -/
def State.writeQueueCfg (s : State) (a : RegAt) (p : Part) (v : Nat) : WriteResult :=
  if s.qrd (queueAt a.d a.i) .QUEUE_CTRL_ENABLE = 1 then .inr accState else .inl (s.setFields a p v)

/-- CNT_CFG by the physical function (R409, R414). -/
def State.writeCntCfg (s : State) (a : RegAt) (n : Nat) : WriteResult :=
  match s.cntCfgWrite a.d a.i n with
  | some r => .inr r
  | none => .inl (s.setFields a .whole n)

/-- CMP_CCNT_CFG names core events 0x50 to 0x53 (R409). -/
def State.writeCcntCfg (s : State) (a : RegAt) (n : Nat) : WriteResult :=
  if inRange 0x50 0x53 (n % 256) && inRange 0x50 0x53 (n / 256 % 256) then .inl (s.setFields a .whole n) else .inr accRange

/-- SVC_ACC_ERR: clearing VALID clears COUNT (R433). -/
def State.writeAccErr (s : State) (a : RegAt) (p : Part) (v : Nat) : State :=
  let t := s.setFields a p v
  if t.bit .SVC_ACC_ERR_VALID 0 0 0 then t else t.wr .SVC_ACC_ERR_COUNT 0 0 0 0

/-- FN_WIN_BASE is SVC_WIN_BASE of the function's casement (R123). -/
def State.writeFnWin (s : State) (f n : Nat) : WriteResult :=
  match s.casOfFn f with
  | some c => .inl (s.wr .SVC_WIN_BASE_BASE 0 c 0 (n / 2 ^ 21 % 2 ^ 27))
  | none => .inr accNone

/-- What writing a register does beyond its range check: the registers that act, then all others by their access codes.  n is the whole register after the write, v what was written. -/
def State.writeActs (s : State) (a : RegAt) (p : Part) (n v : Nat) : WriteResult :=
  match a.reg with
  | .IMG_CTRL => s.writeImgCtrl n
  | .IMG_ROLLBACK => .inl (if n.testBit 31 then s.advanceFuses else s)
  | .IMG_QUIESCE => .inl (s.quiesce n)
  | .IMG_LAYOUT_CTRL => s.writeLayoutCtrl a n
  | .SVC_BUS_VOLT => .inl (if n.testBit 31 then s.wr .SVC_BUS_VOLT_MIN 0 0 0 0x3FF else s)
  | .SVC_RST_CTRL => .inl (s.rstCtrl n)
  | .SVC_CASE_RST => .inl (s.caseRst n)
  | .SVC_RECOV_GO => .inl (if n % 2 = 1 then s.recovGo else s)
  | .SVC_RECOV_BUF => .inl (s.writeRecov a.i n)
  | .FN_WIN_BASE => s.writeFnWin a.d n
  | .SVC_HINGE_CTRL => .inl (s.writeHingeCtrl a n)
  | .SVC_PWR_CTRL => .inl (s.writePwrCtrl a n)
  | .DARB_PRIO => .inl (s.writePrio a.d a.i n)
  | .PC_DEBUG => .inl (s.writeDebug a.d a.i (n % 2 == 1))
  | .PC_DEBUG_CMD => s.writeDebugCmd a.d a.i (BitVec.ofNat 64 (p.over 0 v))
  | .PC_TRN_CTRL => .inl (s.writeTrnCtrl a n)
  | .PC_TRN_TRIM => .inl (s.writeTrim a.d a.i n)
  | .ECC_LOG_LOC => .inl (if (p.over 0 v).testBit 63 ∧ s.freshBits .ECC_LOG_LOC_VALID a.d a.i 0 = 0 then s.setLog a.d a.i none else s)
  | .ECC_XLATE => .inl (s.writeXlate a p v)
  | .HUB_1500_DIRECT_CTRL => .inl (s.writeDirect a n)
  | .HUB_1500_BUF => .inl (s.writeShiftBuf a.d a.i n)
  | .CMP_SRAM_WIN => if s.sramShut a then .inr accState else .inl (s.writeSram a.d a.i n)
  | .QUEUE_DB => .inl (s.ringDoorbell (queueAt a.d a.i) (n % 2 ^ 16))
  | .QUEUE_CPL_DB => .inl (s.cplDoorbell (queueAt a.d a.i) (n % 2 ^ 16))
  | .QUEUE_BASE => s.writeQueueCfg a p v
  | .QUEUE_CPL_BASE => s.writeQueueCfg a p v
  | .QUEUE_SIZE => s.writeQueueCfg a p v
  | .QUEUE_CTRL => .inl (s.writeQueueCtrl a n)
  | .SYNC_CNT => .inl (s.setFields a p v).collWake
  | .TRW_PORT_CTRL => .inl ((s.setFields a p v).portCtrl a.d a.i)
  | .FN_RESET => .inl (if n % 2 = 1 then s.caseSelfRst a.d else s)
  | .CNT_CFG => s.writeCntCfg a n
  | .CNT_CTRL => .inl (if n / 2 % 2 = 1 then s.thaw a.d else s)
  | .CNT_FREEZE_AT => .inl (s.freezeAt a.d n)
  | .SMP_CTRL => s.smpCtrl a.d (n % 2) (n / 2 % 32) (n / 2 ^ 8 % 32)
  | .CMP_SMP_CTRL => s.cmpSmpCtrl a.d (n % 2) (n / 2 % 32)
  | .TRC_CTRL => s.trcCtrl a.d n
  | .CMP_CCNT_CFG => s.writeCcntCfg a n
  | .FN_CNT_CFG => s.fnCntCfg a.d a.i n
  | .SVC_ACC_ERR => .inl (s.writeAccErr a p v)
  | .SVC_PWR_CAP => .inl (s.setFields a .whole (if s.pmbusLive then n else 0))
  | _ => .inl (s.setFields a p v)

/-- A write to a register: discarded whole where a field would leave its range (R88, R5). -/
def State.writeReg (s : State) (a : RegAt) (p : Part) (v : Nat) : WriteResult :=
  if s.outOfRange a p v then .inr accRange else s.writeActs a p (s.imageAfter a p v) v

/-- A word of an MSI-X table entry is written; clearing the mask bit sends a held message (R384). -/
def State.writeMsix (s : State) (f vec k v : Nat) : State :=
  match s.msixKey f vec with
  | none => s
  | some key =>
    let x := s.msixAt key
    match k with
    | 0 => s.setMsix key { x with addr := BitVec.ofNat 64 (x.addr.toNat / 2 ^ 32 * 2 ^ 32 + v % 2 ^ 32) }
    | 1 => s.setMsix key { x with addr := BitVec.ofNat 64 (x.addr.toNat % 2 ^ 32 + v % 2 ^ 32 * 2 ^ 32) }
    | 2 => s.setMsix key { x with data := BitVec.ofNat 32 v }
    | _ => if v % 2 = 1 then s.setMsix key { x with masked := true } else s.msixUnmask f vec

/-- A write that passes the gates. -/
def State.writeNow (s : State) (a : Access) (v : Nat) : State :=
  match s.reachOf a with
  | .fault n => s.accErr a true n
  | .msix vec k wide =>
    let t := s.writeMsix a.fn.val vec k v
    if wide then t.writeMsix a.fn.val vec (k + 1) (v / 2 ^ 32) else t
  | .pba _ _ => s
  | .reg r p => s.settleWrite a (s.writeReg r p (v % 2 ^ (8 * a.width)))

/-- A write of a register by the host. -/
def State.regWrite (s : State) (a : Access) (v : Word) : State :=
  match s.regGate a with
  | .gone => s
  | .ur => s.emit (.hostUr a.fn.val)
  | .noReg => s.accErr a true accNone
  | .ones => s
  | .refused => s.refusedAt a.fn.val
  | .ok => if s.regHeld a true then { s with heldRegs := s.heldRegs ++ [(a, some v)] } else s.writeNow a v.toNat

/-! ## Held accesses (R215, R386) -/

/-- A held access goes on, or stays held. -/
def State.retryHeld (s : State) (x : Access × Option Word) : State :=
  match x.2 with
  | some v => s.regWrite x.1 v
  | none => s.regRead x.1

/-- Every held access is tried again in its order. -/
def State.replayHeld (s : State) : State := s.heldRegs.foldl State.retryHeld { s with heldRegs := [] }

/-- The end of every step: answers are delivered, requests that can move on do, and held accesses complete. -/
def State.done (s : State) : State := s.settle.replayHeld

/-! ## Rows with a shape of their own -/

/-- HALF_READ: a read of a 32-bit half of a 64-bit register (R4); any other access is none. -/
def State.halfRead (s : State) (a : Access) : State :=
  match s.reachOf a with
  | .reg _ .low => s.regRead a
  | .reg _ .high => s.regRead a
  | _ => s

/-- COUNTER_READ: a read of a counter (R411). -/
def State.counterRead (s : State) (a : Access) : State :=
  match s.reachOf a with
  | .reg r _ => if r.reg = .CNT_VALUE ∨ r.reg = .CMP_CCNT_READ ∨ r.reg = .FN_CNT_VALUE ∨ r.reg = .FN_CCNT_READ then s.regRead a else s
  | _ => s

/-- The access that a register of the service window is reached by. -/
def svcAccess (off width : Nat) : Access := { bar := .bar0, fn := 0, off := off, width := width }
def hubAccess (h off width : Nat) : Access := { bar := .bar0, fn := 0, off := 0x1000000 + h * 0x800000 + off, width := width }
def dieAccess0 (d off width : Nat) : Access := { bar := .bar0, fn := 0, off := 0x3000000 + d * 0x400000 + off, width := width }

/-- A write that a row makes to a register of a hub, a die or a pseudo-channel: where that is absent, the offset has no register (R5, R25). -/
def State.gateWrite (s : State) (a : Access) (here : Bool) (r : WriteResult) : State := if here then s.settleWrite a r else s.accErr a true accNone

end Sys2Proof.Machine
end

