-- ==== Sys2Proof/Machine/RowsCores.lean ====
section
/-! DEFINITION. Meanings of the instructions of a matrix core and of what its kernels go through (chapter 16; R291 to R308).
Each instruction runs where it is the next one of the core; the core's instruction cache and pointer give its word (R306), and an opcode not listed ends the kernel (R296). -/

namespace Sys2Proof.Machine

/-- NOP (R296). -/
def execCoreNop (k : CoreId) (s : State) : Host.Outcome State Fault Refusal := .next (s.coreStep k 0x00 (fun t c => t.plain c id)).done

/-- END (R305). -/
def execCoreEnd (k : CoreId) (s : State) : Host.Outcome State Fault Refusal := .next (s.coreStep k 0x01 State.runEnd).done

/-- LOOP (R292). -/
def execCoreLoop (k : CoreId) (s : State) : Host.Outcome State Fault Refusal := .next (s.coreStep k 0x02 State.runLoop).done

/-- SETAG (R293). -/
def execSetag (k : CoreId) (s : State) : Host.Outcome State Fault Refusal := .next (s.coreStep k 0x03 State.runSetag).done

/-- SETSB (R302). -/
def execSetsb (k : CoreId) (s : State) : Host.Outcome State Fault Refusal := .next (s.coreStep k 0x04 State.runSetsb).done

/-- WAITS (R296). -/
def execWaits (k : CoreId) (s : State) : Host.Outcome State Fault Refusal := .next (s.coreStep k 0x05 State.runWaits).done

/-- SYNC (R296). -/
def execCoreSync (k : CoreId) (s : State) : Host.Outcome State Fault Refusal := .next (s.coreStep k 0x06 State.runSync).done

/-- TRACE (R296). -/
def execTrace (k : CoreId) (s : State) : Host.Outcome State Fault Refusal := .next (s.coreStep k 0x07 State.runTrace).done

/-- MOVT (R296). -/
def execMovt (k : CoreId) (s : State) : Host.Outcome State Fault Refusal := .next (s.coreStep k 0x10 State.runMovt).done

/-- ZERO (R296). -/
def execZero (k : CoreId) (s : State) : Host.Outcome State Fault Refusal := .next (s.coreStep k 0x11 State.runZero).done

/-- FILL (R296). -/
def execFill (k : CoreId) (s : State) : Host.Outcome State Fault Refusal := .next (s.coreStep k 0x12 State.runFill).done

/-- TRN (R296). -/
def execTrn (k : CoreId) (s : State) : Host.Outcome State Fault Refusal := .next (s.coreStep k 0x13 State.runTrn).done

/-- SGET (R302). -/
def execSget (k : CoreId) (s : State) : Host.Outcome State Fault Refusal := .next (s.coreStep k 0x18 (fun t c => t.runStream c false false)).done

/-- SPUT (R302). -/
def execSput (k : CoreId) (s : State) : Host.Outcome State Fault Refusal := .next (s.coreStep k 0x19 (fun t c => t.runStream c true false)).done

/-- SGETS (R302). -/
def execSgets (k : CoreId) (s : State) : Host.Outcome State Fault Refusal := .next (s.coreStep k 0x1A (fun t c => t.runStream c false true)).done

/-- SPUTS (R302). -/
def execSputs (k : CoreId) (s : State) : Host.Outcome State Fault Refusal := .next (s.coreStep k 0x1B (fun t c => t.runStream c true true)).done

/-- MMA (R298). -/
def execMma (k : CoreId) (s : State) : Host.Outcome State Fault Refusal := .next (s.coreStep k 0x20 State.runMma16).done

/-- MMA8 (R298). -/
def execMma8 (k : CoreId) (s : State) : Host.Outcome State Fault Refusal := .next (s.coreStep k 0x21 State.runMma8).done

/-- ADD (R296). -/
def execAdd (k : CoreId) (s : State) : Host.Outcome State Fault Refusal := .next (s.coreStep k 0x30 (fun t c => t.binary c add32)).done

/-- SUB (R296). -/
def execSub (k : CoreId) (s : State) : Host.Outcome State Fault Refusal := .next (s.coreStep k 0x31 (fun t c => t.binary c sub32)).done

/-- MUL (R296). -/
def execMul (k : CoreId) (s : State) : Host.Outcome State Fault Refusal := .next (s.coreStep k 0x32 (fun t c => t.binary c mul32)).done

/-- FMA (R296). -/
def execFma (k : CoreId) (s : State) : Host.Outcome State Fault Refusal := .next (s.coreStep k 0x33 State.runFma).done

/-- MAX (R296). -/
def execMax (k : CoreId) (s : State) : Host.Outcome State Fault Refusal := .next (s.coreStep k 0x34 (fun t c => t.binary c (extreme32 true))).done

/-- MIN (R296). -/
def execMin (k : CoreId) (s : State) : Host.Outcome State Fault Refusal := .next (s.coreStep k 0x35 (fun t c => t.binary c (extreme32 false))).done

/-- ABS (R296). -/
def execAbs (k : CoreId) (s : State) : Host.Outcome State Fault Refusal := .next (s.coreStep k 0x36 (fun t c => t.unary c (tileInsn [(c.src1, 0)] false) abs32)).done

/-- CMP (R296). -/
def execCmp (k : CoreId) (s : State) : Host.Outcome State Fault Refusal := .next (s.coreStep k 0x37 (fun t c => t.binary c (cmp32 (c.bits 8 3)))).done

/-- SEL (R296). -/
def execSel (k : CoreId) (s : State) : Host.Outcome State Fault Refusal := .next (s.coreStep k 0x38 State.runSel).done

/-- LUT (R299). -/
def execLut (k : CoreId) (s : State) : Host.Outcome State Fault Refusal := .next (s.coreStep k 0x39 State.runLut).done

/-- RCP (R299). -/
def execRcp (k : CoreId) (s : State) : Host.Outcome State Fault Refusal := .next (s.coreStep k 0x3A (fun t c => t.unary c (slowInsn [(c.src1, 0)] false) rcp32)).done

/-- RSQ (R299). -/
def execRsq (k : CoreId) (s : State) : Host.Outcome State Fault Refusal := .next (s.coreStep k 0x3B (fun t c => t.unary c (slowInsn [(c.src1, 0)] false) rsq32)).done

/-- RSUM (R296). -/
def execRsum (k : CoreId) (s : State) : Host.Outcome State Fault Refusal := .next (s.coreStep k 0x3C State.runRsum).done

/-- RMAX (R296). -/
def execRmax (k : CoreId) (s : State) : Host.Outcome State Fault Refusal := .next (s.coreStep k 0x3D State.runRmax).done

/-- ROWOP (R296). -/
def execRowop (k : CoreId) (s : State) : Host.Outcome State Fault Refusal := .next (s.coreStep k 0x3E State.runRowop).done

/-- SCL (R296). -/
def execScl (k : CoreId) (s : State) : Host.Outcome State Fault Refusal := .next (s.coreStep k 0x3F State.runScl).done

/-- CVT (R300). -/
def execCvt (k : CoreId) (s : State) : Host.Outcome State Fault Refusal := .next (s.coreStep k 0x40 State.runCvt).done

/-- UNPK (R300). -/
def execUnpk (k : CoreId) (s : State) : Host.Outcome State Fault Refusal := .next (s.coreStep k 0x41 State.runUnpk).done

/-- CVTI (R296). -/
def execCvti (k : CoreId) (s : State) : Host.Outcome State Fault Refusal := .next (s.coreStep k 0x42 (fun t c => t.unary c (tileInsn [(c.src1, 0)] false) fun v => intTo32 v.toInt)).done

/-- IADD (R296). -/
def execIadd (k : CoreId) (s : State) : Host.Outcome State Fault Refusal := .next (s.coreStep k 0x44 (fun t c => t.binary c (· + ·))).done

/-! ## Kernels and clusters -/

/-- STREAM_ARRIVAL (R304). -/
def execStreamArrival (k : CoreId) (s : State) : Host.Outcome State Fault Refusal := .next (s.streamArrival (posOf k)).done

/-- KERNEL_COMPLETE (R305). -/
def execKernelComplete (d : Cdie) (q : Fin 32) (s : State) : Host.Outcome State Fault Refusal := .next (s.kernelComplete d.val q.val).done

/-- CLUSTER_CLEAR (R308). -/
def execClusterClear (d : Cdie) (k : Fin 100) (s : State) : Host.Outcome State Fault Refusal := .next (s.clusterClear d.val k.val).done

/-- TABLE_FETCH (R306). -/
def execTableFetch (d : Cdie) (k : Fin 100) (s : State) : Host.Outcome State Fault Refusal := .next (s.tableFetch d.val k.val).done

end Sys2Proof.Machine
end

