-- ==== Sys2Proof/Machine/RowsEngines.lean ====
section
/-! DEFINITION. Meanings of the queues' events and of the commands of the MATRIX, MOVE, PAGE, RING and HUB engines (chapters 17 to 19).
A command runs where it is the next of its queue to start and its engine may start it; its fetched entry gives its words (R317). -/

namespace Sys2Proof.Machine

/-! ## Queues (R309 to R336) -/

/-- QUEUE_DB (R314). -/
def execQueueDb (q : QueueId) (tail : BitVec 16) (s : State) : Host.Outcome State Fault Refusal :=
  .next (s.ringDoorbell q tail.toNat).done

/-- QUEUE_CPL_DB (R315). -/
def execQueueCplDb (q : QueueId) (head : BitVec 16) (s : State) : Host.Outcome State Fault Refusal :=
  .next (s.cplDoorbell q head.toNat).done

/-- COMMAND_FETCH (R316). -/
def execCommandFetch (q : QueueId) (s : State) : Host.Outcome State Fault Refusal :=
  .next (s.commandFetch q).done

/-- COMPLETION_RECORD (R321). -/
def execCompletionRecord (q : QueueId) (s : State) : Host.Outcome State Fault Refusal :=
  .next (s.completionRecord q).done

/-- ENABLE (R336). -/
def execEnable (q : QueueId) (s : State) : Host.Outcome State Fault Refusal :=
  .next (if s.queueIn q then s.enableQueue q else s).done

/-- RESTART (R331). -/
def execRestart (q : QueueId) (s : State) : Host.Outcome State Fault Refusal :=
  .next (if s.queueIn q then s.restartQueue q else s).done

/-- WATCHDOG (R332). -/
def execWatchdog (q : QueueId) (s : State) : Host.Outcome State Fault Refusal :=
  .next (s.watchdog q).done

/-! ## Commands of every engine (R318, R323, R324) -/

/-- NOP. -/
def execEngineNop (q : QueueId) (s : State) : Host.Outcome State Fault Refusal :=
  .next (s.startCmd q 0x00 (fun _ => []) (fun t c => t.runNop q c)).done

/-- WAIT: it starts, and holds its queue until its counter is reached. -/
def execWait (q : QueueId) (s : State) : Host.Outcome State Fault Refusal :=
  .next ((s.startCmd q 0x01 (fun _ => []) (fun t _ => t)).waitProgress q).done

/-- SIGNAL. -/
def execSignal (q : QueueId) (s : State) : Host.Outcome State Fault Refusal :=
  .next (s.startCmd q 0x02 (fun _ => []) (fun t c => t.runSignal q c)).done

/-- SYNC_CNT: a host write sets a counter. -/
def execSyncCnt (c : Casement) (n : Fin 16) (v : Word) (s : State) : Host.Outcome State Fault Refusal :=
  .next ((s.syncSet c.val n.val v.toNat).collWake).done

/-! ## MATRIX and MOVE (R325 to R329) -/

/-- DISPATCH (R325). -/
def execDispatch (q : QueueId) (s : State) : Host.Outcome State Fault Refusal :=
  .next (s.dispatch q).done

/-- COPY (R327). -/
def execCopy (q : QueueId) (s : State) : Host.Outcome State Fault Refusal :=
  .next (s.startCmd q 0x20 (s.moveChecks q) (fun t _ => t.movePump q)).done

/-- FILL of MOVE (R327). -/
def execMoveFill (q : QueueId) (s : State) : Host.Outcome State Fault Refusal :=
  .next (s.startCmd q 0x21 (s.moveChecks q) (fun t _ => t.movePump q)).done

/-! ## PAGE (R337 to R357) -/

/-- POOL_INIT (R338). -/
def execPoolInit (q : QueueId) (s : State) : Host.Outcome State Fault Refusal :=
  .next (s.startCmd q 0x30 (s.poolChecks q) (fun t c => t.poolInit q c) (s.poolDetail q)).done

/-- ALLOC (R342). -/
def execAlloc (q : QueueId) (s : State) : Host.Outcome State Fault Refusal :=
  .next (s.startCmd q 0x31 (s.tableChecks q) (fun t c => t.runAlloc q c) (s.allocDetail q)).done

/-- FREE (R341). -/
def execFree (q : QueueId) (s : State) : Host.Outcome State Fault Refusal :=
  .next (s.startCmd q 0x32 (s.tableChecks q) (fun t c => t.pgGo q c.idx)).done

/-- SPILL (R343). -/
def execSpill (q : QueueId) (s : State) : Host.Outcome State Fault Refusal :=
  .next (s.startCmd q 0x33 (s.tableChecks q) (fun t c => t.pgGo q c.idx)).done

/-- PREFETCH (R344). -/
def execPrefetch (q : QueueId) (s : State) : Host.Outcome State Fault Refusal :=
  .next (s.startCmd q 0x34 (s.tableChecks q) (fun t c => t.pgGo q c.idx)).done

/-- FETCH_DONE (R344). -/
def execFetchDone (h : Hub) (pt lpage : Nat) (blocks : List Block) (s : State) : Host.Outcome State Fault Refusal :=
  .next (s.fetchDone h.val pt lpage blocks).done

/-- PREFETCH_WINDOW (R353). -/
def execPrefetchWindow (h : Hub) (pt lpage : Nat) (s : State) : Host.Outcome State Fault Refusal :=
  .next (s.prefetchWindow h.val pt lpage).done

/-- TRANSPORT_ERROR (R345). -/
def execTransportError (h : Hub) (pt lpage : Nat) (s : State) : Host.Outcome State Fault Refusal :=
  .next (s.transportError h.val pt lpage).done

/-- PT_INVAL (R340). -/
def execPtInval (q : QueueId) (s : State) : Host.Outcome State Fault Refusal :=
  .next (s.startCmd q 0x35 (s.tableChecks q) (fun t c => t.runPtInval q c)).done

/-- EXP_LOAD (R348). -/
def execExpLoad (q : QueueId) (s : State) : Host.Outcome State Fault Refusal :=
  .next (s.startCmd q 0x36 (s.expLoadChecks q) (fun t c => t.runExp q c)).done

/-- EXP_BIND (R349). -/
def execExpBind (q : QueueId) (s : State) : Host.Outcome State Fault Refusal :=
  .next (s.startCmd q 0x37 (s.expBindChecks q) (fun t c => t.runExp q c) (s.expBindDetail q)).done

/-- EXP_RELEASE (R348). -/
def execExpRelease (q : QueueId) (s : State) : Host.Outcome State Fault Refusal :=
  .next (s.startCmd q 0x38 (s.expReleaseChecks q) (fun t c => t.runExp q c)).done

/-- TILE_DONE (R350). -/
def execTileDone (d : Cdie) (e : Fin 8) (s : State) : Host.Outcome State Fault Refusal :=
  .next (s.tileDone d.val e.val).done

/-! ## RING (R365 to R374) -/

/-- ALL_REDUCE (R367). -/
def execAllReduce (q : QueueId) (s : State) : Host.Outcome State Fault Refusal :=
  .next (s.startCmd q 0x40 (s.ringChecks q) (fun t c => t.runColl q c)).done

/-- REDUCE_SCATTER (R366). -/
def execReduceScatter (q : QueueId) (s : State) : Host.Outcome State Fault Refusal :=
  .next (s.startCmd q 0x41 (s.ringChecks q) (fun t c => t.runColl q c)).done

/-- ALL_GATHER (R366). -/
def execAllGather (q : QueueId) (s : State) : Host.Outcome State Fault Refusal :=
  .next (s.startCmd q 0x42 (s.ringChecks q) (fun t c => t.runColl q c)).done

/-- BROADCAST (R366). -/
def execBroadcast (q : QueueId) (s : State) : Host.Outcome State Fault Refusal :=
  .next (s.startCmd q 0x43 (s.ringChecks q) (fun t c => t.runColl q c)).done

/-- ROTATE (R368). -/
def execRotate (q : QueueId) (s : State) : Host.Outcome State Fault Refusal :=
  .next (s.startCmd q 0x44 (s.ringChecks q) (fun t c => t.runColl q c)).done

/-- BARRIER (R366). -/
def execBarrier (q : QueueId) (s : State) : Host.Outcome State Fault Refusal :=
  .next (s.startCmd q 0x46 (s.ringChecks q) (fun t c => t.runColl q c)).done

/-- SHARD_PUT (R374). -/
def execShardPut (q : QueueId) (s : State) : Host.Outcome State Fault Refusal :=
  .next (s.startCmd q 0x45 (s.ringChecks q) (fun t c => t.runPut q c)).done

/-- COLLECTIVE_DEADLINE (R369). -/
def execCollectiveDeadline (q : QueueId) (s : State) : Host.Outcome State Fault Refusal :=
  .next (s.collDeadline q).done

/-! ## HUB (R330) -/

/-- FENCE_ADD (R257). -/
def execFenceAdd (q : QueueId) (s : State) : Host.Outcome State Fault Refusal :=
  .next (s.startCmd q 0x60 fenceChecks (fun t c => t.runFenceAdd q c)).done

/-- FENCE_DEL (R330). -/
def execFenceDel (q : QueueId) (s : State) : Host.Outcome State Fault Refusal :=
  .next (s.startCmd q 0x61 s.fenceDelChecks (fun t c => t.runFenceDel q c)).done

/-- SCRUB (R260). -/
def execScrub (q : QueueId) (s : State) : Host.Outcome State Fault Refusal :=
  .next (s.startCmd q 0x62 (s.scrubChecks q) (fun t c => t.scrubPump q c.idx)).done

/-- A REPAIR that passes its checks waits while its stack's port holds the repair of another queue (R262). -/
def State.repairWaits (s : State) (q : QueueId) : Bool :=
  match (s.queue q).nextCmd with
  | some c => c.opcode == 0x63 && (s.startVerdict q c (s.repairChecks q c)).isNone && (s.port q.inst.val (stackOf (c.fld 1 0 7))).repair.isSome
  | none => false

/-- REPAIR (R270 to R273). -/
def execRepair (q : QueueId) (s : State) : Host.Outcome State Fault Refusal :=
  .next (if s.repairWaits q then s else s.startCmd q 0x63 (s.repairChecks q) (fun t c => t.runRepair q c)).done

/-- A RETRAIN that passes its checks waits while the engine of another queue trains its channel (R232). -/
def State.retrainWaits (s : State) (q : QueueId) : Bool :=
  match (s.queue q).nextCmd with
  | some c => c.opcode == 0x64 && (s.startVerdict q c (s.retrainChecks q c)).isNone &&
      [0, 1].any fun k => (s.pc q.inst.val (c.fld 1 0 7 / 2 * 2 + k)).trnRun.isSome
  | none => false

/-- RETRAIN (R232). -/
def execRetrain (q : QueueId) (s : State) : Host.Outcome State Fault Refusal :=
  .next (if s.retrainWaits q then s else s.startCmd q 0x64 (s.retrainChecks q) (fun t c => t.runRetrain q c)).done

/-- MARCH (R275). -/
def execMarch (q : QueueId) (s : State) : Host.Outcome State Fault Refusal :=
  .next (s.march q).done

/-- RELEASE (R237). -/
def execRelease (q : QueueId) (s : State) : Host.Outcome State Fault Refusal :=
  .next (s.startCmd q 0x66 (s.releaseChecks q) (fun t c => t.runRelease q c)).done

/-- HINGE (R208, R330). -/
def execHinge (q : QueueId) (s : State) : Host.Outcome State Fault Refusal :=
  .next (s.startCmd q 0x67 (fun _ => []) (fun t c => t.runHinge q c)).done

/-- CASE_RESET (R106, R330). -/
def execCaseReset (q : QueueId) (s : State) : Host.Outcome State Fault Refusal :=
  .next (s.startCmd q 0x68 caseResetChecks (fun t c => t.runCaseReset q c)).done

end Sys2Proof.Machine
end

