-- ==== Sys2Proof/Machine/RowsHost.lean ====
section
/-! DEFINITION. Meanings of the commands that come over PCIe: register accesses, windows and layouts, functions and casements, counters, sampling and trace (R4 to R9, R106, R107, R123, R126, R375 to R390, R408 to R423). -/

namespace Sys2Proof.Machine

/-- REGISTER_WRITE (R5 to R9). -/
def execRegisterWrite (a : Access) (v : Word) (s : State) : Host.Outcome State Fault Refusal := .next (s.regWrite a v).done

/-- REGISTER_READ (R5). -/
def execRegisterRead (a : Access) (s : State) : Host.Outcome State Fault Refusal := .next (s.regRead a).done

/-- HALF_READ (R4). -/
def execHalfRead (a : Access) (s : State) : Host.Outcome State Fault Refusal := .next (s.halfRead a).done

/-! ## Windows and layouts -/

/-- SVC_WIN_BASE (R123). -/
def execSvcWinBase (c : Casement) (v : Word) (s : State) : Host.Outcome State Fault Refusal :=
  .next (s.settleWrite (svcAccess (0x5000 + 8 * c.val) 8) (s.writeReg { reg := .SVC_WIN_BASE, d := 0, i := c.val, j := 0 } .whole v.toNat)).done

/-- LAYOUT_SWITCH (R126): GO with the group and set that the register holds. -/
def execLayoutSwitch (s : State) : Host.Outcome State Fault Refusal :=
  let a : RegAt := { reg := .IMG_LAYOUT_CTRL, d := 0, i := 0, j := 0 }
  .next (s.settleWrite (svcAccess 0x1030 4) (s.writeLayoutCtrl a (s.rwImage a + 2 ^ 8))).done

/-! ## Casements and functions (R106, R107, R376) -/

/-- CASEMENT_RESET: a write of SVC_CASE_RST. -/
def execCasementReset (v : BitVec 32) (s : State) : Host.Outcome State Fault Refusal := .next (s.caseRst v.toNat).done

/-- CASE_SELF_RST: a function writes 1 to FN_RESET.CASE_SELF_RST. -/
def execCaseSelfRst (fn : FnNo) (s : State) : Host.Outcome State Fault Refusal := .next (s.caseSelfRst fn.val).done

/-- CASEMENT_RESET_COMPLETE. -/
def execCasementResetComplete (c : Casement) (s : State) : Host.Outcome State Fault Refusal := .next (s.casResetComplete c.val).done

/-- FLR. -/
def execFlr (fn : FnNo) (s : State) : Host.Outcome State Fault Refusal := .next (s.flrRequest fn.val).done

/-! ## The host's accesses to device memory and to configuration space (R100, R380 to R387) -/

def execBar2Read (fn : FnNo) (off len : Nat) (s : State) : Host.Outcome State Fault Refusal := .next (s.bar2Read fn off len).done

def execBar2Write (fn : FnNo) (off : Nat) (data : List Byte) (s : State) : Host.Outcome State Fault Refusal := .next (s.bar2Write fn off data).done

def execConfigurationRequest (fn : FnNo) (off : Nat) (write : Option (BitVec 32)) (s : State) : Host.Outcome State Fault Refusal :=
  .next (s.configRequest fn.val off write).done

/-- HOST_READ_ERROR (R383): the read of the queue's oldest outstanding host access ends in error. -/
def execHostReadError (q : QueueId) (s : State) : Host.Outcome State Fault Refusal := .next (s.engineHostRead q none).done

/-- HOST_READ_COMPLETION (R327). -/
def execHostReadCompletion (q : QueueId) (data : Block) (s : State) : Host.Outcome State Fault Refusal := .next (s.engineHostRead q (some data)).done

/-- MSIX_UNMASK (R384). -/
def execMsixUnmask (fn : FnNo) (vec : Fin 64) (s : State) : Host.Outcome State Fault Refusal := .next (s.msixUnmask fn.val vec.val).done

/-! ## Counters, sampling and trace -/

/-- COUNTER_READ (R411). -/
def execCounterRead (a : Access) (s : State) : Host.Outcome State Fault Refusal := .next (s.counterRead a).done

/-- FREEZE (R412): the tick of CNT_FREEZE_AT is reached. -/
def execFreeze (d : Fin 8) (s : State) : Host.Outcome State Fault Refusal := .next (s.freeze d.val).done

/-- THAW (R412). -/
def execThaw (d : Fin 8) (s : State) : Host.Outcome State Fault Refusal := 
  .next (s.gateWrite (if d.val < 4 then hubAccess d.val 0xA0400 4 else dieAccess0 (d.val - 4) 0x60400 4) (if d.val < 4 then s.hubIn d.val else s.cdieIn (d.val - 4)) (.inl (s.thaw d.val))).done

/-- FN_CNT_CFG (R414). -/
def execFnCntCfg (fn : FnNo) (slot : Fin 64) (v : BitVec 32) (s : State) : Host.Outcome State Fault Refusal :=
  .next (s.settleWrite (fnAccess fn (0x1000 + 16 * slot.val) 4) (s.fnCntCfg fn.val slot.val v.toNat)).done

/-- SAMPLE_RECORD (R418). -/
def execSampleRecord (h : Hub) (s : State) : Host.Outcome State Fault Refusal := .next (s.sampleRecord h.val).done

/-- TRACE_RECORD (R421). -/
def execTraceRecord (h : Hub) (s : State) : Host.Outcome State Fault Refusal := .next (s.traceRecord h.val).done

/-- TRC_CTRL (R421). -/
def execTrcCtrl (h : Hub) (v : BitVec 32) (s : State) : Host.Outcome State Fault Refusal :=
  .next (s.gateWrite (hubAccess h.val 0xB0000 4) (s.hubIn h.val) (s.trcCtrl h.val v.toNat)).done

end Sys2Proof.Machine
end

