-- ==== Sys2Proof/Machine/RowsLinks.lean ====
section
/-! DEFINITION. Meanings of the events of the Trowiry fabric and of the Aksal interface (chapters 19 and 21). -/

namespace Sys2Proof.Machine

/-! ## Ports and packets of the fabric (R358 to R371) -/

/-- PORT_TRAINING (R359). -/
def execPortTraining (h : Hub) (j : Fin 4) (lanes8 : Bool) (s : State) : Host.Outcome State Fault Refusal :=
  .next (s.portTrained h.val j.val lanes8).done

/-- LINK_FAIL (R359). -/
def execLinkFail (h : Hub) (j : Fin 4) (silentUs : Nat) (s : State) : Host.Outcome State Fault Refusal :=
  .next (s.portFailed h.val j.val silentUs).done

/-- TRAINING_RETRY (R359). -/
def execTrainingRetry (h : Hub) (j : Fin 4) (s : State) : Host.Outcome State Fault Refusal :=
  .next (s.portRetry h.val j.val).done

/-- TROWIRY_FLIT_RETRY (R358). -/
def execTrowiryFlitRetry (h : Hub) (j : Fin 4) (ok : Bool) (s : State) : Host.Outcome State Fault Refusal :=
  .next (s.portFlitRetry h.val j.val ok).done

/-- ROUTE (R361). -/
def execRoute (h : Hub) (pkt : Packet) (s : State) : Host.Outcome State Fault Refusal :=
  .next (s.route h.val pkt).done

/-- RDREQ (R365). -/
def execRdreq (h : Hub) (j : Fin 4) (pkt : Packet) (s : State) : Host.Outcome State Fault Refusal :=
  .next (s.fabricRequest h.val j.val pkt).done

/-- WRREQ (R365). -/
def execWrreq (h : Hub) (j : Fin 4) (pkt : Packet) (s : State) : Host.Outcome State Fault Refusal :=
  .next (s.fabricRequest h.val j.val pkt).done

/-- RDRSP (R364). -/
def execRdrsp (h : Hub) (pkt : Packet) (s : State) : Host.Outcome State Fault Refusal :=
  .next (s.readResponse h.val pkt).done

/-- WRACK (R364). -/
def execWrack (h : Hub) (pkt : Packet) (s : State) : Host.Outcome State Fault Refusal :=
  .next (s.writeAck h.val pkt).done

/-- COLL (R367). -/
def execColl (h : Hub) (pkt : Packet) (s : State) : Host.Outcome State Fault Refusal :=
  .next (s.collPacket h.val pkt).done

/-- COLL_READY (R368). -/
def execCollReady (h : Hub) (pkt : Packet) (s : State) : Host.Outcome State Fault Refusal :=
  .next (s.collReady h.val pkt).done

/-- STALL (R371). -/
def execStall (h : Hub) (pkt : Packet) (s : State) : Host.Outcome State Fault Refusal :=
  .next (s.stallPacket h.val pkt).done

/-! ## Messages of the Aksal interface (R393, R394) -/

/-- RD_BLK (R393). -/
def execRdBlk (d : Cdie) (m : AkReq) (s : State) : Host.Outcome State Fault Refusal :=
  .next (s.dieAccess d.val m false false).done

/-- RD_SEC (R393). -/
def execRdSec (d : Cdie) (m : AkReq) (s : State) : Host.Outcome State Fault Refusal :=
  .next (s.dieAccess d.val m false true).done

/-- WR_BLK (R393). -/
def execWrBlk (d : Cdie) (m : AkReq) (s : State) : Host.Outcome State Fault Refusal :=
  .next (s.dieAccess d.val m true false).done

/-- WR_SEC (R393). -/
def execWrSec (d : Cdie) (m : AkReq) (s : State) : Host.Outcome State Fault Refusal :=
  .next (s.dieAccess d.val m true true).done

/-- PG_RD (R394). -/
def execPgRd (d : Cdie) (m : AkReq) (s : State) : Host.Outcome State Fault Refusal :=
  .next (s.diePage d.val m).done

/-- RD_RSP (R393). -/
def execRdRsp (d : Cdie) (m : AkRsp) (s : State) : Host.Outcome State Fault Refusal :=
  .next (s.dieResponse d.val m).done

/-- WR_RSP (R393). -/
def execWrRsp (d : Cdie) (m : AkRsp) (s : State) : Host.Outcome State Fault Refusal :=
  .next (s.dieResponse d.val m).done

/-! ## The link and its sidebands (R398 to R405) -/

/-- FLIT_ERROR (R398). -/
def execFlitError (d : Cdie) (h2c : Bool) (slice : Fin 16) (crcBad : Bool) (seq : Fin 64) (s : State) : Host.Outcome State Fault Refusal :=
  .next (s.flitError d.val h2c slice.val crcBad seq.val).done

/-- NAK (R398). -/
def execNak (d : Cdie) (h2c : Bool) (slice : Fin 16) (seq : Fin 64) (s : State) : Host.Outcome State Fault Refusal :=
  .next (s.nak d.val h2c slice.val seq.val).done

/-- NAK_RESEND (R398). -/
def execNakResend (d : Cdie) (h2c : Bool) (slice : Fin 16) (s : State) : Host.Outcome State Fault Refusal :=
  .next (s.nakResend d.val h2c slice.val).done

/-- AKSAL_DOWN (R399). -/
def execAksalDown (d : Cdie) (s : State) : Host.Outcome State Fault Refusal :=
  .next (s.aksalDown d.val).done

/-- CD_RST_N (R405). -/
def execCdRstN (d : Cdie) (high : Bool) (s : State) : Host.Outcome State Fault Refusal :=
  .next (s.cdRstN d.val high).done

/-- CD_PWR_OK (R405). -/
def execCdPwrOk (d : Cdie) (high : Bool) (s : State) : Host.Outcome State Fault Refusal :=
  .next (s.cdPwrOk d.val high).done

/-- HB_RST_N (R405). -/
def execHbRstN (d : Cdie) (high : Bool) (s : State) : Host.Outcome State Fault Refusal :=
  .next (s.hbRstN d.val high).done

/-- HB_PWR_OK (R401). -/
def execHbPwrOk (d : Cdie) (high : Bool) (s : State) : Host.Outcome State Fault Refusal :=
  .next (s.hbPwrOk d.val high).done

/-- TRAINING_STATE (R402). -/
def execTrainingState (d : Cdie) (dieToggled : Bool) (spares : List (Fin 24 × List Nat)) (s : State) : Host.Outcome State Fault Refusal :=
  .next (s.trainingState d.val dieToggled spares).done

/-- STATE_TIMEOUT (R403). -/
def execStateTimeout (d : Cdie) (s : State) : Host.Outcome State Fault Refusal :=
  .next (s.trainTimeout d.val).done

end Sys2Proof.Machine
end

