-- ==== Sys2Proof/Machine/RowsPath.lean ====
section
/-! DEFINITION. Meanings of the commands on the way from a door to a stack: the sash ring, doors, pseudo-channels, refresh, hinges, training, stored-data protection, the 1500 port and heat (chapters 07 to 15). -/

namespace Sys2Proof.Machine

/-! ## The sash ring (R19, R21) -/

/-- The number of a port's direction: 0 ascending, 1 descending. -/
def dirNo : RingDir → Nat
  | .up => 0
  | .down => 1

/-- RING_FORWARD. -/
def execRingForward (h : Hub) (dir : RingDir) (s : State) : Host.Outcome State Fault Refusal :=
  .next (s.ringHop h.val (dirNo dir)).done

/-- RING_FLIT_RETRY. -/
def execRingFlitRetry (h : Hub) (f : RingFlit) (s : State) : Host.Outcome State Fault Refusal :=
  .next (s.linkRetry h.val (dirNo f.dir) f.good).done

/-- RING_LINK_DOWN. -/
def execRingLinkDown (h : Hub) (s : State) : Host.Outcome State Fault Refusal := .next (s.linkDown h.val).done

/-! ## Doors (R128 to R145) -/

/-- DOOR_ARRIVAL. -/
def execDoorArrival (h : Hub) (d : DoorNo) (latch : Nat) (s : State) : Host.Outcome State Fault Refusal := .next (s.doorArrival h.val d.val latch).done

/-- ADMIT. -/
def execAdmit (h : Hub) (p : Pc) (s : State) : Host.Outcome State Fault Refusal := .next (s.admitNext h.val p.val).done

/-- LOUVRE_WINDOW. -/
def execLouvreWindow (h : Hub) (d : DoorNo) (k : SlotNo) (s : State) : Host.Outcome State Fault Refusal := .next (s.louvreWindow h.val d.val k.val).done

/-- DARB_PRIO (R144). -/
def execDarbPrio (h : Hub) (n : PaneNo) (v : Word) (s : State) : Host.Outcome State Fault Refusal :=
  .next (s.gateWrite (hubAccess h.val (0x20000 + 8 * n.val) 8) (s.hubIn h.val) (s.writeReg { reg := .DARB_PRIO, d := h.val, i := n.val, j := 0 } .whole v.toNat)).done

/-- DOOR_MASK (R145). -/
def execDoorMask (h : Hub) (d : DoorNo) (s : State) : Host.Outcome State Fault Refusal := .next (s.doorMask h.val d.val).done

/-- DOOR_UNMASK (R145). -/
def execDoorUnmask (h : Hub) (d : DoorNo) (s : State) : Host.Outcome State Fault Refusal := .next (s.doorUnmask h.val d.val).done

/-! ## The pseudo-channel (R146 to R186, R247, R255) -/

/-- SLOT_GRANT (R165); a hinge goes on where this was its last command. -/
def execSlotGrant (h : Hub) (p : Pc) (s : State) : Host.Outcome State Fault Refusal := .next (s.slotGrant h.val p.val).hingeTick.done

/-- AGE_CEILING (R155). -/
def execAgeCeiling (h : Hub) (p : Pc) (s : State) : Host.Outcome State Fault Refusal := .next (s.ageMarks h.val p.val).done

/-- WAIT_STEP (R173). -/
def execWaitStep (h : Hub) (p : Pc) (b : Bank) (s : State) : Host.Outcome State Fault Refusal := .next (s.waitDone h.val p.val b.val).hingeTick.done

/-- TRANSOM_MERGE_WINDOW (R160). -/
def execTransomMergeWindow (h : Hub) (p : Pc) (b : Bank) (s : State) : Host.Outcome State Fault Refusal := .next (s.mergeWindow h.val p.val b.val).done

/-- READ_RETURN (R247). -/
def execReadReturn (h : Hub) (p : Pc) (errs : List BurstError) (s : State) : Host.Outcome State Fault Refusal :=
  .next (s.readReturn h.val p.val errs s.sweeps).hingeTick.done

/-- MERGE (R255). -/
def execMerge (h : Hub) (p : Pc) (errs : List BurstError) (s : State) : Host.Outcome State Fault Refusal := .next (s.merge h.val p.val errs).done

/-- PC_DEBUG_HALT (R167). -/
def execPcDebugHalt (h : Hub) (p : Pc) (s : State) : Host.Outcome State Fault Refusal := 
  .next (s.gateWrite (hubAccess h.val (0x100014 + 0x1000 * p.val) 4) (s.pcIn h.val p.val) (.inl (s.writeDebug h.val p.val true))).done

/-- HALTED (R167). -/
def execHalted (h : Hub) (p : Pc) (s : State) : Host.Outcome State Fault Refusal := .next (s.debugHalted h.val p.val).done

/-- HALT_CLEAR (R167). -/
def execHaltClear (h : Hub) (p : Pc) (s : State) : Host.Outcome State Fault Refusal := 
  .next (s.gateWrite (hubAccess h.val (0x100014 + 0x1000 * p.val) 4) (s.pcIn h.val p.val) (.inl (s.writeDebug h.val p.val false))).done

/-- PC_DEBUG_CMD (R186). -/
def execPcDebugCmd (h : Hub) (p : Pc) (v : Word) (s : State) : Host.Outcome State Fault Refusal :=
  .next (s.gateWrite (hubAccess h.val (0x100018 + 0x1000 * p.val) 8) (s.pcIn h.val p.val) (s.writeDebugCmd h.val p.val v)).done

/-! ## Refresh and disturbance (R187 to R204) -/

/-- DUE (R188, R189). -/
def execDue (h : Hub) (p : Pc) (b : Bank) (s : State) : Host.Outcome State Fault Refusal := .next (s.due h.val p.val b.val).done

/-- REF_PB (R190). -/
def execRefPb (h : Hub) (p : Pc) (s : State) : Host.Outcome State Fault Refusal := .next (s.refPb h.val p.val).done

/-- EMERGENCY_REFRESH (R191). -/
def execEmergencyRefresh (h : Hub) (p : Pc) (s : State) : Host.Outcome State Fault Refusal := .next (s.emergency h.val p.val).done

/-- REF_AB (R192). -/
def execRefAb (h : Hub) (p : Pc) (s : State) : Host.Outcome State Fault Refusal := .next (s.refAb h.val p.val).done

/-- SR_ENTRY (R193). -/
def execSrEntry (h : Hub) (p : Pc) (s : State) : Host.Outcome State Fault Refusal := .next (s.autoSr h.val p.val).done

/-- SR_EXIT (R196). -/
def execSrExit (h : Hub) (p : Pc) (s : State) : Host.Outcome State Fault Refusal := .next (s.autoExit h.val p.val).done

/-- ACT_TABLE_CLEAR (R199). -/
def execActTableClear (h : Hub) (p : Pc) (s : State) : Host.Outcome State Fault Refusal := .next (s.clearTables h.val p.val).done

/-- NEIGHBOUR_REFRESH (R201). -/
def execNeighbourRefresh (h : Hub) (p : Pc) (b : Bank) (s : State) : Host.Outcome State Fault Refusal := .next (s.neighbourRefresh h.val p.val b.val).done

/-! ## Hinges and power states (R208 to R224) -/

/-- HINGE_REQUEST (R208): SVC_HINGE_CTRL is written with GO. -/
def execHingeRequest (target : Fin 8) (s : State) : Host.Outcome State Fault Refusal :=
  .next (s.settleWrite (svcAccess 0x3020 4) (s.writeReg { reg := .SVC_HINGE_CTRL, d := 0, i := 0, j := 0 } .whole (target.val + 2 ^ 8))).done

/-- HINGE_START (R208 to R210). -/
def execHingeStart (s : State) : Host.Outcome State Fault Refusal := .next s.hingeStart.done

/-- The phase step of R404 at step 7: Aksal links carry on with fresh counts.  A link on which it fails goes down in the same tick, by AKSAL_DOWN or RING_LINK_DOWN (R212; log entry 96). -/
def State.phaseSteps (s : State) : State := s.cdies.foldl (fun t d => if (t.aksal d).state = 6 then t.freshSlices d else t) s

/-- SWITCH_TICK (R210, R212). -/
def execSwitchTick (s : State) : Host.Outcome State Fault Refusal :=
  let t := s.switchTick
  .next (if s.hinge.step = 6 ∧ t.hinge.step = 8 then t.phaseSteps else t).done

/-- The pauses of step 8, from their moves and from the pseudo-channels whose centre trim shows an error (R213, R236). -/
def pauseResults (moves : List PauseMoves) (failing : List (Hub × Pc)) : List PauseRes :=
  moves.map (fun m => { hub := m.hub, pc := m.pc, moves := m.moves, err := failing.contains (m.hub, m.pc) }) ++
    failing.map fun q => { hub := q.1, pc := q.2, moves := [], err := true }

/-- HINGE_RELEASE (R210); a change of power state that waited for it goes on. -/
def execHingeRelease (moves : List PauseMoves) (failing : List (Hub × Pc)) (s : State) : Host.Outcome State Fault Refusal :=
  let t := s.hingeRelease (pauseResults moves failing)
  .next (if s.hinge.step = 8 ∧ t.hinge.step = 0 then t.pwrProgress else t).done

/-- CLUSTER_GATE (R217). -/
def execClusterGate (d : Cdie) (k : Fin 100) (s : State) : Host.Outcome State Fault Refusal := .next (s.clusterGate d.val k.val).pwrProgress.done

/-- CLUSTER_UNGATE (R218). -/
def execClusterUngate (d : Cdie) (k : Fin 100) (s : State) : Host.Outcome State Fault Refusal := .next (s.clusterUngate d.val k.val).pwrProgress.done

/-- POWER_STATE_REQUEST (R219): SVC_PWR_CTRL is written with GO. -/
def execPowerStateRequest (v : BitVec 32) (s : State) : Host.Outcome State Fault Refusal :=
  .next (s.settleWrite (svcAccess 0x3030 4) (s.writeReg { reg := .SVC_PWR_CTRL, d := 0, i := 0, j := 0 } .whole (v ||| 0x100).toNat)).done

/-! ## Training and replay (R225 to R243) -/

/-- START (R226). -/
def execTrnStart (h : Hub) (p : Pc) (s : State) : Host.Outcome State Fault Refusal :=
  .next (s.gateWrite (hubAccess h.val (0x100300 + 0x1000 * p.val) 4) (s.pcIn h.val p.val) (.inl (s.trnStart h.val p.val s.phase))).done

/-- COMPARE_DONE (R226): of a pattern run, or else of an engine's training, whose results the row carries. -/
def execCompareDone (h : Hub) (p : Pc) (r : CompareRes) (s : State) : Host.Outcome State Fault Refusal :=
  .next (if (s.pc h.val p.val).trnGen.isSome then s.compareDone h.val p.val r.errs
         else if (s.pc h.val p.val).trnRun.isSome then (s.engineCompared h.val p.val r.errs).engineTrained h.val p.val r.eyes else s).done

/-- RETRAIN_DUE (R233). -/
def execRetrainDue (h : Hub) (p : Pc) (s : State) : Host.Outcome State Fault Refusal := .next (s.retrainDue h.val p.val).done

/-- RETRAIN_PAUSE (R235). -/
def execRetrainPause (h : Hub) (p : Pc) (s : State) : Host.Outcome State Fault Refusal := .next (s.retrainPause h.val p.val).done

/-- RETRAIN_PAUSE_END (R236). -/
def execRetrainPauseEnd (h : Hub) (p : Pc) (moves : List LaneMove) (centreErr : Bool) (s : State) : Host.Outcome State Fault Refusal :=
  .next (s.retrainPauseEnd h.val p.val moves centreErr).done

/-- PARITY_ALERT (R240). -/
def execParityAlert (h : Hub) (a : ChanAlert) (s : State) : Host.Outcome State Fault Refusal := .next (s.parityAlert h.val a.chan.val a.cclk).done

/-- REPLAY (R240). -/
def execReplay (h : Hub) (p : Pc) (s : State) : Host.Outcome State Fault Refusal := .next (s.replayStep h.val p.val).done

/-- REPLAY_END (R242). -/
def execReplayEnd (h : Hub) (p : Pc) (s : State) : Host.Outcome State Fault Refusal := .next (s.replayEnd h.val p.val).hingeTick.done

/-- BUCKET_LEAK (R252). -/
def execBucketLeak (h : Hub) (s : State) : Host.Outcome State Fault Refusal := .next (s.leakDue h.val).done

/-! ## The 1500 port (R262 to R275) -/

/-- PORT_OPERATION (R262). -/
def execPortOperation (h : Hub) (st : StackNo) (s : State) : Host.Outcome State Fault Refusal := .next (s.portOperation h.val st.val).done

/-- PROGRAM_STEP (R272). -/
def execProgramStep (h : Hub) (st : StackNo) (s : State) : Host.Outcome State Fault Refusal := .next (s.programStep h.val st.val).done

/-- DIRECT_ACCESS (R275). -/
def execDirectAccess (h : Hub) (shiftedIn : List Byte) (s : State) : Host.Outcome State Fault Refusal := 
  .next (s.gateWrite (hubAccess h.val 0x200110 4) (s.hubIn h.val) (.inl (s.directAccess h.val shiftedIn))).done

/-! ## Heat (R276 to R289) -/

/-- TEMPERATURE_READOUT (R276). -/
def execTemperatureReadout (h : Hub) (st : StackNo) (celsius : Int) (s : State) : Host.Outcome State Fault Refusal :=
  .next ((s.temperatureReadout h.val st.val celsius).stallCheck s).done

/-- DIE_READING (R276). -/
def execDieReading (d : DieNo) (sensors : List Int) (s : State) : Host.Outcome State Fault Refusal :=
  .next ((s.dieReading d.val sensors).stallCheck s).done

/-- CLOSURE_ANNOUNCEMENT (R283). -/
def execClosureAnnouncement (d : DieNo) (h : Hub) (st : StackNo) (s : State) : Host.Outcome State Fault Refusal :=
  .next (s.announce d.val h.val st.val).done

/-- STALE (R274). -/
def execStale (h : Hub) (st : StackNo) (s : State) : Host.Outcome State Fault Refusal := .next ((s.goStale h.val st.val).stallCheck s).done

/-- THROTTLE (R285). -/
def execThrottle (d : Cdie) (level : Fin 8) (s : State) : Host.Outcome State Fault Refusal := .next (s.throttle d.val level.val).done

/-- THERM_TRIP_N (R289). -/
def execThermTripN (d : DieNo) (s : State) : Host.Outcome State Fault Refusal := .next (s.thermTrip d.val).done

end Sys2Proof.Machine
end

