-- ==== Sys2Proof/Machine/RowsStart.lean ====
section
/-! DEFINITION. Meanings of the commands of the structure image, the supply, the clocks and the start and reset of the package (chapters 02 to 05). -/

namespace Sys2Proof.Machine

/-! ## The structure image -/

/-- IMAGE_LOAD (R45): what phase 7 reads from flash. -/
def execImageLoad (src : List Byte) (s : State) : Host.Outcome State Fault Refusal := .next (s.imageLoad src).done

/-- GO (R53): IMG_CTRL.GO is written. -/
def execImgGo (s : State) : Host.Outcome State Fault Refusal := .next (s.settleWrite (svcAccess 0x1004 4) (s.writeImgCtrl 1)).done

/-- TARGET_READY (R54). -/
def execTargetReady (h : Hub) (s : State) : Host.Outcome State Fault Refusal := .next (s.targetReady h.val).done

/-- COMMIT_TICK (R54, R126, R257). -/
def execCommitTick (s : State) : Host.Outcome State Fault Refusal := .next s.commit.done

/-- ABORT (R55). -/
def execImgAbort (s : State) : Host.Outcome State Fault Refusal := .next s.abortStaged.done

/-- QUIESCE (R52): IMG_QUIESCE is written. -/
def execQuiesce (panes : Word) (s : State) : Host.Outcome State Fault Refusal := .next (s.quiesce panes.toNat).done

/-- QUIESCED (R52). -/
def execQuiesced (n : PaneNo) (s : State) : Host.Outcome State Fault Refusal := .next (s.quiesced n.val).done

/-- ADVANCE (R43). -/
def execAdvance (s : State) : Host.Outcome State Fault Refusal := .next s.advanceFuses.done

/-! ## The supply -/

/-- BUS_SAMPLE (R60). -/
def execBusSample (deciVolt : Nat) (s : State) : Host.Outcome State Fault Refusal := .next (s.busSample deciVolt).done

/-- PF1 (R61, R62). -/
def execPf1 (s : State) : Host.Outcome State Fault Refusal := .next (s.pf1Assert.stallCheck s).done

/-- PF1_CLEAR (R61). -/
def execPf1Clear (s : State) : Host.Outcome State Fault Refusal := .next s.pf1Clear.done

/-- PF2 (R61, R63). -/
def execPf2 (s : State) : Host.Outcome State Fault Refusal := .next s.pf2Assert.done

/-- PF_N (R61). -/
def execPfN (lowNs : Nat) (s : State) : Host.Outcome State Fault Refusal := .next (s.pfN lowNs).done

/-- BROWNOUT (R61). -/
def execBrownout (s : State) : Host.Outcome State Fault Refusal := .next s.brownout.done

/-- SURGE_WARNING (R61). -/
def execSurgeWarning (s : State) : Host.Outcome State Fault Refusal := .next s.surge.done

/-- WRITE_DRAIN_END (R64). -/
def execWriteDrainEnd (h : Hub) (p : Pc) (s : State) : Host.Outcome State Fault Refusal := .next (s.writeDrainEnd h.val p.val).done

/-- KEEP_REQ (R63). -/
def execKeepReq (s : State) : Host.Outcome State Fault Refusal := .next s.keepReq.done

/-- SLEW_ESTIMATE (R67). -/
def execSlewEstimate (deciAmp : Nat) (s : State) : Host.Outcome State Fault Refusal := .next (s.slewEstimate deciAmp).done

/-- VAON_POWER_UP (R90). -/
def execVaonPowerUp (s : State) : Host.Outcome State Fault Refusal := .next s.vaonPowerUp.done

/-- KA_PG (R58). -/
def execKaPg (s : State) : Host.Outcome State Fault Refusal := .next s.kaPg.done

/-- KA_PG_LOSS (R90). -/
def execKaPgLoss (s : State) : Host.Outcome State Fault Refusal := .next s.kaPgLoss.done

/-- PWR_GOOD (R58). -/
def execPwrGood (s : State) : Host.Outcome State Fault Refusal := .next s.pwrGood.done

/-- PWR_GOOD_LOSS (R93). -/
def execPwrGoodLoss (s : State) : Host.Outcome State Fault Refusal := .next s.pwrGoodLoss.done

/-! ## The clocks -/

/-- PLL_LOCK (R76). -/
def execPllLock (d : DieNo) (s : State) : Host.Outcome State Fault Refusal := .next (s.pllLock d.val).done

/-- REF_LOSS (R81). -/
def execRefLoss (silentNs : Nat) (s : State) : Host.Outcome State Fault Refusal := .next (s.refLoss silentNs).done

/-- REF_RETURN (R93). -/
def execRefReturn (s : State) : Host.Outcome State Fault Refusal := .next s.refReturn.done

/-- TIME_EXCHANGE (R372). -/
def execTimeExchange (s : State) : Host.Outcome State Fault Refusal := .next s.timeExchange.done

/-- TIME (R84, R111, R372). -/
def execTimePacket (pkt : Packet) (s : State) : Host.Outcome State Fault Refusal := .next (s.timePacket pkt).done

/-! ## Resets -/

/-- PKG_RST_N (R69, R90). -/
def execPkgRstN (high : Bool) (straps : Straps) (s : State) : Host.Outcome State Fault Refusal := .next (s.pkgRstN high straps).done

/-- WARM_RST_N (R91). -/
def execWarmRstN (high : Bool) (s : State) : Host.Outcome State Fault Refusal := .next (s.warmRstN high).done

/-- PERST_N (R75). -/
def execPerstN (high : Bool) (s : State) : Host.Outcome State Fault Refusal := .next (s.perstN high).done

/-- WARM (R91): a write of SVC_RST_CTRL. -/
def execWarm (v : BitVec 32) (s : State) : Host.Outcome State Fault Refusal := .next (s.rstCtrl v.toNat).done

/-- COLD (R90): a write of SVC_RST_CTRL. -/
def execCold (v : BitVec 32) (s : State) : Host.Outcome State Fault Refusal := .next (s.rstCtrl v.toNat).done

/-! ## Bring-up (R99 to R110) -/

/-- COLD_BRINGUP (R99). -/
def execColdBringup (s : State) : Host.Outcome State Fault Refusal := .next s.coldBringup.done

/-- FIRST_STAGE (R96). -/
def execFirstStage (container : List Byte) (s : State) : Host.Outcome State Fault Refusal := .next (s.firstStage container).done

/-- PCIE_READINESS (R100). -/
def execPcieReadiness (s : State) : Host.Outcome State Fault Refusal := .next s.pcieReadiness.done

/-- HUB_FIRMWARE (R96). -/
def execHubFirmware (container : List Byte) (s : State) : Host.Outcome State Fault Refusal := .next (s.hubFirmware container).done

/-- RING_LINK_UP (R99). -/
def execRingLinkUp (fails : List Hub) (s : State) : Host.Outcome State Fault Refusal := .next (s.ringLinkUp (fails.map (·.val))).done

/-- STACK_IDENTIFICATION (R263). -/
def execStackIdentification (found : List (Hub × StackNo × StackId)) (s : State) : Host.Outcome State Fault Refusal :=
  .next (s.stackIdentification found).done

/-- RELOCK (R99). -/
def execRelock (s : State) : Host.Outcome State Fault Refusal := .next s.relock.done

/-- SOFT_REPAIRS (R267). -/
def execSoftRepairs (refused : List (Hub × Nat)) (s : State) : Host.Outcome State Fault Refusal :=
  .next (s.softRepairs (refused.map fun x => (x.1.val, x.2))).done

/-- TRAINING (R228). -/
def execTraining (found : List PcTraining) (s : State) : Host.Outcome State Fault Refusal := .next (s.training found).done

/-- MEMORY_CLEAR (R102). -/
def execMemoryClear (s : State) : Host.Outcome State Fault Refusal := .next s.memoryClear.done

/-- AKSAL_LINK_UP (R402). -/
def execAksalLinkUp (s : State) : Host.Outcome State Fault Refusal := .next s.aksalLinkUp.done

/-- COMPUTE_RELEASE (R99). -/
def execComputeRelease (fails : List Cdie) (s : State) : Host.Outcome State Fault Refusal := .next (s.computeRelease (fails.map (·.val))).done

/-- ENGINES_SET (R99). -/
def execEnginesSet (s : State) : Host.Outcome State Fault Refusal := .next s.enginesSet.done

/-- READY (R101). -/
def execReady (s : State) : Host.Outcome State Fault Refusal := .next s.ready.done

/-- WARM_BRINGUP (R104). -/
def execWarmBringup (s : State) : Host.Outcome State Fault Refusal := .next s.warmBringup.done

/-- CONFIGURATION_CRC_CHECK (R103). -/
def execConfigurationCrcCheck (fails : List Hub) (s : State) : Host.Outcome State Fault Refusal := .next (s.configurationCrc (fails.map (·.val))).done

/-- SELF_REFRESH_EXIT_CHECK (R231). -/
def execSelfRefreshExitCheck (latched : List (Hub × Word)) (r : ExitResults) (s : State) : Host.Outcome State Fault Refusal :=
  .next (s.selfRefreshExit (latched.map fun x => (x.1.val, x.2)) r.first r.second r.found).done

/-- ENGINES_RESTORED (R336). -/
def execEnginesRestored (s : State) : Host.Outcome State Fault Refusal := .next s.enginesRestored.done

/-- BOOT_WATCHDOG (R110). -/
def execBootWatchdog (s : State) : Host.Outcome State Fault Refusal := .next s.bootWatchdog.done

/-- RECOV_GO (R108). -/
def execRecovGo (s : State) : Host.Outcome State Fault Refusal := .next s.recovGo.done

end Sys2Proof.Machine
end

