-- ==== Sys2Proof/Machine/Dispatch.lean ====
section
/-! DEFINITION. The meaning of every command: one arm per constructor of `Instr`. -/

namespace Sys2Proof.Machine

def exec (i : Instr) (s : State) : Host.Outcome State Fault Refusal :=
  match i with
  | .registerWrite a v => Sys2Proof.Machine.execRegisterWrite a v s
  | .halfRead a => Sys2Proof.Machine.execHalfRead a s
  | .ringForward h dir => Sys2Proof.Machine.execRingForward h dir s
  | .ringFlitRetry h f => Sys2Proof.Machine.execRingFlitRetry h f s
  | .ringLinkDown h => Sys2Proof.Machine.execRingLinkDown h s
  | .imageLoad src => Sys2Proof.Machine.execImageLoad src s
  | .imgGo => Sys2Proof.Machine.execImgGo s
  | .targetReady h => Sys2Proof.Machine.execTargetReady h s
  | .commitTick => Sys2Proof.Machine.execCommitTick s
  | .imgAbort => Sys2Proof.Machine.execImgAbort s
  | .quiesce panes => Sys2Proof.Machine.execQuiesce panes s
  | .quiesced n => Sys2Proof.Machine.execQuiesced n s
  | .advance => Sys2Proof.Machine.execAdvance s
  | .busSample deciVolt => Sys2Proof.Machine.execBusSample deciVolt s
  | .pf1 => Sys2Proof.Machine.execPf1 s
  | .pf1Clear => Sys2Proof.Machine.execPf1Clear s
  | .pf2 => Sys2Proof.Machine.execPf2 s
  | .pfN lowNs => Sys2Proof.Machine.execPfN lowNs s
  | .brownout => Sys2Proof.Machine.execBrownout s
  | .surgeWarning => Sys2Proof.Machine.execSurgeWarning s
  | .writeDrainEnd h p => Sys2Proof.Machine.execWriteDrainEnd h p s
  | .keepReq => Sys2Proof.Machine.execKeepReq s
  | .slewEstimate deciAmp => Sys2Proof.Machine.execSlewEstimate deciAmp s
  | .vaonPowerUp => Sys2Proof.Machine.execVaonPowerUp s
  | .kaPg => Sys2Proof.Machine.execKaPg s
  | .kaPgLoss => Sys2Proof.Machine.execKaPgLoss s
  | .pwrGood => Sys2Proof.Machine.execPwrGood s
  | .pllLock d => Sys2Proof.Machine.execPllLock d s
  | .refLoss silentNs => Sys2Proof.Machine.execRefLoss silentNs s
  | .refReturn => Sys2Proof.Machine.execRefReturn s
  | .timeExchange => Sys2Proof.Machine.execTimeExchange s
  | .timePacket pkt => Sys2Proof.Machine.execTimePacket pkt s
  | .pkgRstN high straps => Sys2Proof.Machine.execPkgRstN high straps s
  | .warmRstN high => Sys2Proof.Machine.execWarmRstN high s
  | .perstN high => Sys2Proof.Machine.execPerstN high s
  | .warm v => Sys2Proof.Machine.execWarm v s
  | .cold v => Sys2Proof.Machine.execCold v s
  | .coldBringup => Sys2Proof.Machine.execColdBringup s
  | .firstStage container => Sys2Proof.Machine.execFirstStage container s
  | .pcieReadiness => Sys2Proof.Machine.execPcieReadiness s
  | .hubFirmware container => Sys2Proof.Machine.execHubFirmware container s
  | .ringLinkUp fails => Sys2Proof.Machine.execRingLinkUp fails s
  | .stackIdentification found => Sys2Proof.Machine.execStackIdentification found s
  | .relock => Sys2Proof.Machine.execRelock s
  | .softRepairs refused => Sys2Proof.Machine.execSoftRepairs refused s
  | .training found => Sys2Proof.Machine.execTraining found s
  | .memoryClear => Sys2Proof.Machine.execMemoryClear s
  | .aksalLinkUp => Sys2Proof.Machine.execAksalLinkUp s
  | .computeRelease fails => Sys2Proof.Machine.execComputeRelease fails s
  | .enginesSet => Sys2Proof.Machine.execEnginesSet s
  | .ready => Sys2Proof.Machine.execReady s
  | .warmBringup => Sys2Proof.Machine.execWarmBringup s
  | .configurationCrcCheck fails => Sys2Proof.Machine.execConfigurationCrcCheck fails s
  | .selfRefreshExitCheck latched r => Sys2Proof.Machine.execSelfRefreshExitCheck latched r s
  | .enginesRestored => Sys2Proof.Machine.execEnginesRestored s
  | .bootWatchdog => Sys2Proof.Machine.execBootWatchdog s
  | .recovGo => Sys2Proof.Machine.execRecovGo s
  | .casementReset v => Sys2Proof.Machine.execCasementReset v s
  | .caseSelfRst fn => Sys2Proof.Machine.execCaseSelfRst fn s
  | .casementResetComplete c => Sys2Proof.Machine.execCasementResetComplete c s
  | .svcWinBase c v => Sys2Proof.Machine.execSvcWinBase c v s
  | .layoutSwitch => Sys2Proof.Machine.execLayoutSwitch s
  | .doorArrival h d latch => Sys2Proof.Machine.execDoorArrival h d latch s
  | .doorAdmit h p => Sys2Proof.Machine.execAdmit h p s
  | .louvreWindow h d k => Sys2Proof.Machine.execLouvreWindow h d k s
  | .darbPrio h n v => Sys2Proof.Machine.execDarbPrio h n v s
  | .doorMask h d => Sys2Proof.Machine.execDoorMask h d s
  | .doorUnmask h d => Sys2Proof.Machine.execDoorUnmask h d s
  | .slotGrant h p => Sys2Proof.Machine.execSlotGrant h p s
  | .ageCeiling h p => Sys2Proof.Machine.execAgeCeiling h p s
  | .waitStep h p b => Sys2Proof.Machine.execWaitStep h p b s
  | .transomMergeWindow h p b => Sys2Proof.Machine.execTransomMergeWindow h p b s
  | .readReturn h p errs => Sys2Proof.Machine.execReadReturn h p errs s
  | .merge h p errs => Sys2Proof.Machine.execMerge h p errs s
  | .pcDebugHalt h p => Sys2Proof.Machine.execPcDebugHalt h p s
  | .halted h p => Sys2Proof.Machine.execHalted h p s
  | .haltClear h p => Sys2Proof.Machine.execHaltClear h p s
  | .pcDebugCmd h p v => Sys2Proof.Machine.execPcDebugCmd h p v s
  | .due h p b => Sys2Proof.Machine.execDue h p b s
  | .refPb h p => Sys2Proof.Machine.execRefPb h p s
  | .emergencyRefresh h p => Sys2Proof.Machine.execEmergencyRefresh h p s
  | .refAb h p => Sys2Proof.Machine.execRefAb h p s
  | .srEntry h p => Sys2Proof.Machine.execSrEntry h p s
  | .srExit h p => Sys2Proof.Machine.execSrExit h p s
  | .actTableClear h p => Sys2Proof.Machine.execActTableClear h p s
  | .neighbourRefresh h p b => Sys2Proof.Machine.execNeighbourRefresh h p b s
  | .hingeRequest target => Sys2Proof.Machine.execHingeRequest target s
  | .hingeStart => Sys2Proof.Machine.execHingeStart s
  | .switchTick => Sys2Proof.Machine.execSwitchTick s
  | .hingeRelease moves failing => Sys2Proof.Machine.execHingeRelease moves failing s
  | .clusterGate d k => Sys2Proof.Machine.execClusterGate d k s
  | .clusterUngate d k => Sys2Proof.Machine.execClusterUngate d k s
  | .powerStateRequest v => Sys2Proof.Machine.execPowerStateRequest v s
  | .trnStart h p => Sys2Proof.Machine.execTrnStart h p s
  | .compareDone h p r => Sys2Proof.Machine.execCompareDone h p r s
  | .retrainDue h p => Sys2Proof.Machine.execRetrainDue h p s
  | .retrainPause h p => Sys2Proof.Machine.execRetrainPause h p s
  | .retrainPauseEnd h p moves centreErr => Sys2Proof.Machine.execRetrainPauseEnd h p moves centreErr s
  | .parityAlert h a => Sys2Proof.Machine.execParityAlert h a s
  | .replay h p => Sys2Proof.Machine.execReplay h p s
  | .replayEnd h p => Sys2Proof.Machine.execReplayEnd h p s
  | .bucketLeak h => Sys2Proof.Machine.execBucketLeak h s
  | .portOperation h st => Sys2Proof.Machine.execPortOperation h st s
  | .programStep h st => Sys2Proof.Machine.execProgramStep h st s
  | .directAccess h shiftedIn => Sys2Proof.Machine.execDirectAccess h shiftedIn s
  | .temperatureReadout h st celsius => Sys2Proof.Machine.execTemperatureReadout h st celsius s
  | .dieReading d sensors => Sys2Proof.Machine.execDieReading d sensors s
  | .closureAnnouncement d h st => Sys2Proof.Machine.execClosureAnnouncement d h st s
  | .stale h st => Sys2Proof.Machine.execStale h st s
  | .throttle d level => Sys2Proof.Machine.execThrottle d level s
  | .thermTripN d => Sys2Proof.Machine.execThermTripN d s
  | .coreNop k => Sys2Proof.Machine.execCoreNop k s
  | .coreEnd k => Sys2Proof.Machine.execCoreEnd k s
  | .coreLoop k => Sys2Proof.Machine.execCoreLoop k s
  | .setag k => Sys2Proof.Machine.execSetag k s
  | .setsb k => Sys2Proof.Machine.execSetsb k s
  | .waits k => Sys2Proof.Machine.execWaits k s
  | .coreSync k => Sys2Proof.Machine.execCoreSync k s
  | .trace k => Sys2Proof.Machine.execTrace k s
  | .movt k => Sys2Proof.Machine.execMovt k s
  | .zero k => Sys2Proof.Machine.execZero k s
  | .fill k => Sys2Proof.Machine.execFill k s
  | .trn k => Sys2Proof.Machine.execTrn k s
  | .sget k => Sys2Proof.Machine.execSget k s
  | .sput k => Sys2Proof.Machine.execSput k s
  | .sgets k => Sys2Proof.Machine.execSgets k s
  | .sputs k => Sys2Proof.Machine.execSputs k s
  | .mma k => Sys2Proof.Machine.execMma k s
  | .mma8 k => Sys2Proof.Machine.execMma8 k s
  | .add k => Sys2Proof.Machine.execAdd k s
  | .sub k => Sys2Proof.Machine.execSub k s
  | .mul k => Sys2Proof.Machine.execMul k s
  | .fma k => Sys2Proof.Machine.execFma k s
  | .max k => Sys2Proof.Machine.execMax k s
  | .min k => Sys2Proof.Machine.execMin k s
  | .abs k => Sys2Proof.Machine.execAbs k s
  | .cmp k => Sys2Proof.Machine.execCmp k s
  | .sel k => Sys2Proof.Machine.execSel k s
  | .lut k => Sys2Proof.Machine.execLut k s
  | .rcp k => Sys2Proof.Machine.execRcp k s
  | .rsq k => Sys2Proof.Machine.execRsq k s
  | .rsum k => Sys2Proof.Machine.execRsum k s
  | .rmax k => Sys2Proof.Machine.execRmax k s
  | .rowop k => Sys2Proof.Machine.execRowop k s
  | .scl k => Sys2Proof.Machine.execScl k s
  | .cvt k => Sys2Proof.Machine.execCvt k s
  | .unpk k => Sys2Proof.Machine.execUnpk k s
  | .cvti k => Sys2Proof.Machine.execCvti k s
  | .iadd k => Sys2Proof.Machine.execIadd k s
  | .streamArrival k => Sys2Proof.Machine.execStreamArrival k s
  | .kernelComplete d q => Sys2Proof.Machine.execKernelComplete d q s
  | .clusterClear d k => Sys2Proof.Machine.execClusterClear d k s
  | .tableFetch d k => Sys2Proof.Machine.execTableFetch d k s
  | .queueDb q tail => Sys2Proof.Machine.execQueueDb q tail s
  | .queueCplDb q head => Sys2Proof.Machine.execQueueCplDb q head s
  | .commandFetch q => Sys2Proof.Machine.execCommandFetch q s
  | .completionRecord q => Sys2Proof.Machine.execCompletionRecord q s
  | .engineNop q => Sys2Proof.Machine.execEngineNop q s
  | .wait q => Sys2Proof.Machine.execWait q s
  | .signal q => Sys2Proof.Machine.execSignal q s
  | .syncCnt c n v => Sys2Proof.Machine.execSyncCnt c n v s
  | .dispatch q => Sys2Proof.Machine.execDispatch q s
  | .copy q => Sys2Proof.Machine.execCopy q s
  | .moveFill q => Sys2Proof.Machine.execMoveFill q s
  | .enable q => Sys2Proof.Machine.execEnable q s
  | .restart q => Sys2Proof.Machine.execRestart q s
  | .watchdog q => Sys2Proof.Machine.execWatchdog q s
  | .poolInit q => Sys2Proof.Machine.execPoolInit q s
  | .alloc q => Sys2Proof.Machine.execAlloc q s
  | .free q => Sys2Proof.Machine.execFree q s
  | .spill q => Sys2Proof.Machine.execSpill q s
  | .prefetch q => Sys2Proof.Machine.execPrefetch q s
  | .fetchDone h pt lpage blocks => Sys2Proof.Machine.execFetchDone h pt lpage blocks s
  | .prefetchWindow h pt lpage => Sys2Proof.Machine.execPrefetchWindow h pt lpage s
  | .transportError h pt lpage => Sys2Proof.Machine.execTransportError h pt lpage s
  | .ptInval q => Sys2Proof.Machine.execPtInval q s
  | .expLoad q => Sys2Proof.Machine.execExpLoad q s
  | .expBind q => Sys2Proof.Machine.execExpBind q s
  | .expRelease q => Sys2Proof.Machine.execExpRelease q s
  | .tileDone d e => Sys2Proof.Machine.execTileDone d e s
  | .allReduce q => Sys2Proof.Machine.execAllReduce q s
  | .reduceScatter q => Sys2Proof.Machine.execReduceScatter q s
  | .allGather q => Sys2Proof.Machine.execAllGather q s
  | .broadcast q => Sys2Proof.Machine.execBroadcast q s
  | .rotate q => Sys2Proof.Machine.execRotate q s
  | .shardPut q => Sys2Proof.Machine.execShardPut q s
  | .barrier q => Sys2Proof.Machine.execBarrier q s
  | .collectiveDeadline q => Sys2Proof.Machine.execCollectiveDeadline q s
  | .fenceAdd q => Sys2Proof.Machine.execFenceAdd q s
  | .fenceDel q => Sys2Proof.Machine.execFenceDel q s
  | .scrub q => Sys2Proof.Machine.execScrub q s
  | .repair q => Sys2Proof.Machine.execRepair q s
  | .retrain q => Sys2Proof.Machine.execRetrain q s
  | .march q => Sys2Proof.Machine.execMarch q s
  | .release q => Sys2Proof.Machine.execRelease q s
  | .hinge q => Sys2Proof.Machine.execHinge q s
  | .caseReset q => Sys2Proof.Machine.execCaseReset q s
  | .portTraining h j lanes8 => Sys2Proof.Machine.execPortTraining h j lanes8 s
  | .linkFail h j silentUs => Sys2Proof.Machine.execLinkFail h j silentUs s
  | .trainingRetry h j => Sys2Proof.Machine.execTrainingRetry h j s
  | .route h pkt => Sys2Proof.Machine.execRoute h pkt s
  | .rdreq h j pkt => Sys2Proof.Machine.execRdreq h j pkt s
  | .wrreq h j pkt => Sys2Proof.Machine.execWrreq h j pkt s
  | .rdrsp h pkt => Sys2Proof.Machine.execRdrsp h pkt s
  | .wrack h pkt => Sys2Proof.Machine.execWrack h pkt s
  | .coll h pkt => Sys2Proof.Machine.execColl h pkt s
  | .collReady h pkt => Sys2Proof.Machine.execCollReady h pkt s
  | .stall h pkt => Sys2Proof.Machine.execStall h pkt s
  | .bar2Read fn off len => Sys2Proof.Machine.execBar2Read fn off len s
  | .bar2Write fn off data => Sys2Proof.Machine.execBar2Write fn off data s
  | .configurationRequest fn off write => Sys2Proof.Machine.execConfigurationRequest fn off write s
  | .flr fn => Sys2Proof.Machine.execFlr fn s
  | .hostReadError q => Sys2Proof.Machine.execHostReadError q s
  | .rdBlk d m => Sys2Proof.Machine.execRdBlk d m s
  | .rdSec d m => Sys2Proof.Machine.execRdSec d m s
  | .wrBlk d m => Sys2Proof.Machine.execWrBlk d m s
  | .wrSec d m => Sys2Proof.Machine.execWrSec d m s
  | .pgRd d m => Sys2Proof.Machine.execPgRd d m s
  | .rdRsp d m => Sys2Proof.Machine.execRdRsp d m s
  | .wrRsp d m => Sys2Proof.Machine.execWrRsp d m s
  | .flitError d h2c slice crcBad seq => Sys2Proof.Machine.execFlitError d h2c slice crcBad seq s
  | .nak d h2c slice seq => Sys2Proof.Machine.execNak d h2c slice seq s
  | .nakResend d h2c slice => Sys2Proof.Machine.execNakResend d h2c slice s
  | .aksalDown d => Sys2Proof.Machine.execAksalDown d s
  | .cdRstN d high => Sys2Proof.Machine.execCdRstN d high s
  | .cdPwrOk d high => Sys2Proof.Machine.execCdPwrOk d high s
  | .hbRstN d high => Sys2Proof.Machine.execHbRstN d high s
  | .hbPwrOk d high => Sys2Proof.Machine.execHbPwrOk d high s
  | .trainingState d dieToggled spares => Sys2Proof.Machine.execTrainingState d dieToggled spares s
  | .stateTimeout d => Sys2Proof.Machine.execStateTimeout d s
  | .counterRead a => Sys2Proof.Machine.execCounterRead a s
  | .freeze d => Sys2Proof.Machine.execFreeze d s
  | .thaw d => Sys2Proof.Machine.execThaw d s
  | .fnCntCfg fn slot v => Sys2Proof.Machine.execFnCntCfg fn slot v s
  | .sampleRecord h => Sys2Proof.Machine.execSampleRecord h s
  | .traceRecord h => Sys2Proof.Machine.execTraceRecord h s
  | .trcCtrl h v => Sys2Proof.Machine.execTrcCtrl h v s
  | .registerRead a => Sys2Proof.Machine.execRegisterRead a s
  | .pwrGoodLoss => Sys2Proof.Machine.execPwrGoodLoss s
  | .hostReadCompletion q data => Sys2Proof.Machine.execHostReadCompletion q data s
  | .trowiryFlitRetry h j ok => Sys2Proof.Machine.execTrowiryFlitRetry h j ok s
  | .msixUnmask fn vec => Sys2Proof.Machine.execMsixUnmask fn vec s

end Sys2Proof.Machine
end

