-- ==== Sys2Proof/Safety.lean ====
section
/-! DEFINITION. What counts as a safe run, and the terms that claims use: the invariant, a package with nothing under way, and what a command leaves. -/

namespace Sys2Proof

/-- A step answers a next state. -/
def Safe (s : Machine.State) : Prop := ∃ t, Machine.step s = .next t

/-- The invariant that claims use: the stack contents are in canonical form. -/
def Inv (s : Machine.State) : Prop := Machine.Memory.wf s.mem

namespace Machine

/-- Nothing is under way that a command's effect would set going at once: no answer waits for its requester, no queue, collective or expander holds work, no pool holds a request, and no host access waits. -/
def State.Idle (s : State) : Prop :=
  s.answers = [] ∧ s.queues = [] ∧ s.colls = [] ∧ s.expanders = [] ∧ s.hostRds = [] ∧ s.hostWrs = [] ∧ s.heldRegs = [] ∧
  (s.pools.all fun x => x.2.held.isEmpty) = true

/-- Every register field but those named reads as before. -/
def State.RegsBut (s t : State) (changed : List Fld) : Prop :=
  ∀ (f : Fld) (d i j : Nat), f ∉ changed → t.rd f d i j = s.rd f d i j

/-- Every byte of the stacks reads as before. -/
def State.MemKept (s t : State) : Prop := ∀ a : Nat, memRead t.mem a = memRead s.mem a

/-- The step table of a pseudo-channel begins the sequence of an operation and a bank state at step i, a command on the row bus (R170, R173). -/
def State.beginsAt (s : State) (h p op st i : Nat) : Prop :=
  ∃ (tbl : StepTableCfg) (c a : Nat), s.stepsOf h p = some tbl ∧ tbl.entry op st = some i ∧ tbl.steps[i]? = some (.row c a)

/-- Every pseudo-channel but one is as it was. -/
def State.OtherPcs (s t : State) (h p : Nat) : Prop := ∀ g q : Nat, q < 96 → (g, q) ≠ (h, p) → t.pc g q = s.pc g q

/-- The next instruction of a core that may issue is one of an opcode, with no reserved MOD value. -/
def State.ReadyFor (s : State) (k : CoreId) (c : CoreCtx) (op : Nat) : Prop := s.coreCtx (posOf k) = some c ∧ c.op = op ∧ c.modBad = false

/-- Every core but one is as it was. -/
def State.OtherCores (s t : State) (k : CoreId) : Prop := ∀ i : CoreId, i ≠ k → t.core (posOf i) = s.core (posOf i)

/-- An instruction of the sequencer has issued: its core is as x but for the marks of the issue and its counters; nothing else has changed but a sampler. -/
def State.CoreLeaves (s t : State) (k : CoreId) (x : CoreSt) : Prop :=
  (∃ m n : Nat, t.core (posOf k) = { x with issueAt := s.clk.kclk + 1, stall := 0, stallFrom := 0, cnt0 := m, cnt1 := n }) ∧
  s.OtherCores t k ∧ t = { s with cores := t.cores, samplers := t.samplers }

/-- The operands of an instruction of the tile unit or the mover are usable: DST is slot d, the sources are slots rs, the unit is free, no slot awaits a write and DST awaits no read (R294). -/
def State.OperandsAt (s : State) (c : CoreCtx) (n : TileInsn) (d : Nat) (rs : List Nat) : Prop :=
  c.x.slotOf c.dst 0 = some d ∧ (n.reads.map fun r => c.x.slotOf r.1 r.2) = rs.map some ∧
  (match n.unit with | .tile => c.x.tile | .mover => c.x.mover) ≤ s.clk.kclk ∧ c.x.readDue d = false ∧ ∀ j ∈ d :: rs, c.x.awaits j s.clk.kclk = false

/-- The instruction issues: slot d takes a value with the poison that its sources give, every other slot stays, the pointer moves on, and the unit and slot d are busy as long as R296 says; no other core changes. -/
def State.TileRun (s : State) (i : Instr) (k : CoreId) (c : CoreCtx) (n : TileInsn) (d : Nat) (rs : List Nat) (val : Block → Prop) : Prop :=
  ∃ t : State, exec i s = .next t ∧ val ((t.core (posOf k)).slot d).data ∧
    ((t.core (posOf k)).slot d).poison = spreadPoison n.spread (rs.map c.x.slot) ∧
    (∀ j, j ≠ d → (t.core (posOf k)).slot j = c.x.slot j) ∧
    (t.core (posOf k)).ip = (c.x.pass c.x.ip).ip ∧ (t.core (posOf k)).loops = (c.x.pass c.x.ip).loops ∧
    (d, s.clk.kclk + n.usable) ∈ (t.core (posOf k)).busy ∧
    (n.unit = .tile → (t.core (posOf k)).tile = s.clk.kclk + n.occupies ∧ (t.core (posOf k)).mover = c.x.mover) ∧
    (n.unit = .mover → (t.core (posOf k)).mover = s.clk.kclk + n.occupies ∧ (t.core (posOf k)).tile = c.x.tile) ∧
    (t.core (posOf k)).issueAt = s.clk.kclk + 1 ∧ s.OtherCores t k ∧ t = { s with cores := t.cores, samplers := t.samplers }

/-- The address of a stream (R302): the base register, plus the offset and the address generator in units of the stream. -/
def CoreCtx.streamAddr (c : CoreCtx) (sector : Bool) : Nat :=
  (((Tab.get 0 c.x.sb (c.bits 32 3) : Nat) + (c.signed 40 24 + c.x.agValue (c.bits 35 3)) * (if sector then 32 else 256 : Int)) % 2 ^ 48).toNat

/-- A stream of memory issues on a core that has none outstanding: its request goes up to the hub with the message type, the address, the class and the source tag of the core, and for a write the slot's data; the core holds it as outstanding. -/
def State.StreamRun (s : State) (i : Instr) (k : CoreId) (c : CoreCtx) (mtype : Nat) (write sector : Bool) (j : Nat) : Prop :=
  ∃ (t : State) (m : AkReq), exec i s = .next t ∧ (t.aksal k.die.val).tx = (s.aksal k.die.val).tx ++ [m] ∧
    m.mtype = mtype ∧ m.addr = c.streamAddr sector ∧ m.cls = c.bits 8 2 ∧ m.cas = c.kn.cas ∧ m.srcTag = 64 * k.cluster.val + k.core.val ∧
    (write = true → sector = false → m.data = (c.x.slot j).data) ∧
    (write = true → sector = true → m.data = (sectorOf (c.x.slot j).data (c.bits 10 3)).setWidth 2048) ∧
    ((t.core (posOf k)).streams.map fun x => (x.tag, x.write, x.sector, x.slot, x.sent)) = [(m.tag, write, sector, j, true)] ∧
    (t.core (posOf k)).slots = c.x.slots ∧ (t.core (posOf k)).ip = (c.x.pass c.x.ip).ip ∧
    s.RegsBut t [.CNT_VALUE_VALUE, .CNT_CFG_OVF] ∧ s.OtherCores t k ∧ t = { s with cores := t.cores, samplers := t.samplers, aks := t.aks, regs := t.regs }

/-- A command of a queue is the next to start, may start, has an opcode and passes its checks (R317, R318, R331). -/
def State.Starts (s : State) (q : QueueId) (c : Cmd) (op : Nat) (own : Cmd → List Status) : Prop :=
  (s.queue q).nextCmd = some c ∧ c.opcode = op ∧ s.mayStart q c = true ∧ s.startVerdict q c (own c) = none

/-- Every queue but one is as it was. -/
def State.OtherQueues (s t : State) (q : QueueId) : Prop := ∀ p : QueueId, p ≠ q → t.queue p = s.queue p

/-- A command of a queue has ended with a status. -/
def State.EndedAs (s : State) (q : QueueId) (idx : Nat) (st : Status) : Prop := ∃ x : Cmd, s.cmd q idx = some x ∧ x.ended = some st

/-- The state at which a command of a queue begins its work: its watchdog counts (R332). -/
def State.atStart (s : State) (q : QueueId) (c : Cmd) : State := (s.served q).setCmd q (s.begun q c)

/-- The state in which a collective of a queue has begun: it stands in the list of those in progress, with its deadline (R366, R369). -/
def State.collStart (s : State) (q : QueueId) (c : Cmd) : State :=
  let t := s.atStart q c
  { t with colls := t.colls ++ [t.newColl q (s.begun q c)], deadColls := t.deadColls.filter fun n => n != c.collId }

/-- The packet of step 0, block 0, of a collective (R364, R367). -/
def State.firstBlock (s : State) (q : QueueId) (c : Cmd) (flits : Nat) (data : Block) : Nat × Packet :=
  (q.inst.val, { blankPacket with
    dest := c.nextNode, src := s.ownNode, mclass := 4, flow := q.inst.val % 2 == 1, cas := s.casOf q, cls := 3, flits := flits, addr := c.collId, data := data })

/-- A PAGE command over one entry starts: nothing of it is under way yet. -/
def State.StartsPage (s : State) (q : QueueId) (c : Cmd) (op : Nat) : Prop :=
  s.Starts q c op (s.tableChecks q) ∧ c.pgCount = 1 ∧ c.next = 0 ∧ c.progress = 0 ∧ c.fault = none ∧ ∀ y ∈ s.copies, y.cmd ≠ some (q, c.idx)

/-- No expander command is in progress on the PAGE queues of a hub. -/
def State.ExpQuiet (s : State) (h : Nat) : Prop :=
  ∀ p : QueueId, p.engine = .page → p.inst.val = h → ∀ d ∈ (s.queue p).cmds, d.started = true → d.ended = none → d.opcode < 0x36

/-- A request of an access sent on a credit stands on its way to a door. -/
def State.SentTo (s : State) (h d : Nat) (org : Origin) (addr : Nat) (write : Bool) (x : Req) : Prop :=
  x ∈ (s.door h d).transit ∧ x.org = org ∧ x.addr = addr ∧ x.write = write

end Machine

end Sys2Proof
end

