-- ==== Sys2Proof/WellFormed.lean ====
section
/-! DEFINITION. Well-formed commands: operands that their source could present (R3, R310, R364, R378, R391). -/

namespace Sys2Proof

/-- A host access lies in its BAR and is at most 8 bytes wide (R378). -/
def Access.wf (a : Access) : Bool :=
  decide (1 ≤ a.width) && decide (a.width ≤ 8) &&
  decide (a.off < (match a.bar with | .bar0 => (if a.fn = 0 then 0x4000000 else 0x10000) | .bar2 => 2 ^ 36 | .bar4 => 0x40000))

/-- A queue index exists on its engine (R309). -/
def QueueId.wf (q : QueueId) : Bool :=
  decide (q.idx.val < (match q.engine with | .matrix => 32 | .move => 16 | .page => 32 | .ring => 16 | .hub => 8))

/-- The fields of an Aksal request fit the header of R391. -/
def AkReq.wf (m : AkReq) : Bool :=
  decide (m.cls ≤ 4) && decide (m.cas < 32) && decide (m.srcTag < 2 ^ 15) && decide (m.tag < 256) && decide (m.addr < 2 ^ 48) &&
  decide (m.mtype < 16) && decide (m.pool < 16) && decide (m.block < 256) && decide (m.lpage < 2 ^ 32)

/-- The fields of a response fit the header of R391. -/
def AkRsp.wf (m : AkRsp) : Bool := decide (m.mtype < 16) && decide (m.srcTag < 2 ^ 15) && decide (m.tag < 256) && decide (m.poison < 256) && decide (m.pkind < 256)

/-- The fields of a packet fit the header of R364. -/
def Packet.wf (p : Packet) : Bool :=
  decide (p.dest < 2 ^ 17) && decide (p.src < 2 ^ 17) && decide (p.cas < 32) && decide (p.cls ≤ 4) && decide (p.tag < 2 ^ 13) && decide (p.addr < 2 ^ 48) &&
  decide (p.mclass < 16) && decide (p.flits ≤ 4) && decide (p.set < 16) && decide (p.status < 256) && decide (p.step < 16)

/-- An eye names a lane of the pseudo-channel (R225). -/
def LaneEye.wf (e : LaneEye) : Bool :=
  decide (e.lane < 58) && [e.delayLo, e.delayHi, e.vrefLo, e.vrefHi, e.wLo, e.wHi, e.wvLo, e.wvHi].all fun n => decide (n < 128)

/-- A pause moves data lanes (R235). -/
def LaneMove.wf (m : LaneMove) : Bool := decide (m.lane < 36)

/-- Error patterns name the 36 lanes (R244). -/
def errsWf (l : List BurstError) : Bool := l.all fun e => e.all fun x => decide (x.1 < 36)

/-- Well-formedness of a command. -/
def Instr.wf (i : Instr) : Bool :=
  match i with
  | .registerWrite a _ => a.wf
  | .registerRead a => a.wf
  | .halfRead a => a.wf
  | .counterRead a => a.wf
  | .training l => l.all fun t => t.eyes.all LaneEye.wf && t.again.all LaneEye.wf
  | .selfRefreshExitCheck _ r => (r.first ++ r.second).all (fun x => x.moves.all LaneMove.wf) && r.found.all fun t => t.eyes.all LaneEye.wf
  | .hingeRelease l _ => l.all fun r => r.moves.all LaneMove.wf
  | .compareDone _ _ r => r.eyes.all LaneEye.wf
  | .retrainPauseEnd _ _ l _ => l.all LaneMove.wf
  | .readReturn _ _ e => errsWf e
  | .merge _ _ e => errsWf e
  | .timePacket p => p.wf
  | .route _ p => p.wf
  | .rdreq _ _ p => p.wf
  | .wrreq _ _ p => p.wf
  | .rdrsp _ p => p.wf
  | .wrack _ p => p.wf
  | .coll _ p => p.wf
  | .collReady _ p => p.wf
  | .stall _ p => p.wf
  | .rdBlk _ m => m.wf
  | .rdSec _ m => m.wf
  | .wrBlk _ m => m.wf
  | .wrSec _ m => m.wf
  | .pgRd _ m => m.wf
  | .rdRsp _ m => m.wf
  | .wrRsp _ m => m.wf
  | .bar2Read _ off len => decide (1 ≤ len) && decide (len ≤ 4096) && decide (off + len ≤ 2 ^ 36)
  | .bar2Write _ off d => decide (1 ≤ d.length) && decide (d.length ≤ 4096) && decide (off + d.length ≤ 2 ^ 36)
  | .configurationRequest _ off _ => decide (off < 4096) && decide (off % 4 = 0)
  | .fetchDone _ _ lpage _ => decide (lpage < 2 ^ 32)
  | .queueDb q _ => q.wf
  | .queueCplDb q _ => q.wf
  | .commandFetch q => q.wf
  | .completionRecord q => q.wf
  | _ => true

end Sys2Proof
end

