-- ==== Sys2Proof/Certificates/Slice0/Obligations.lean ====
section
/-! DEFINITION. What is stated of the machine, for the provers: one definition for each obligation. -/

open Sys2Proof Sys2Proof.Machine

/-! ## The whole machine -/

/-- For every command c, every list of commands behind it and every state: a step of the state with c at the front of its queue is exec c on the state with the rest of the queue. The queue of commands is the model's own (log entry 3). -/
def Obligations.StepRunsTheFrontCommand : Prop :=
  ∀ (s : State) (c : Instr) (rest : List Instr), step { s with pending := c :: rest } = exec c { s with pending := rest }

/-- The model's choice of log entry 1. On an empty queue, with no hinge under way, no correction of TIME64 to make and no counter enabled: with CCLK stopped a step advances TIME64 by one and changes nothing else; with CCLK running it changes nothing but the clocks, advances the CCLK count by one, and advances TIME64 by one where the cycle of four root cycles completes a tick of M root cycles, M the multiplier of the hinge point. -/
def Obligations.IdleStepIsOneCycle : Prop :=
  (∀ s : State, s.pending = [] → s.clk.run = false → s.hinge.step = 0 → s.clk.steer = 0 → s.counting = false →
    step s = .next { s with clk := { s.clk with t64 := s.clk.t64 + 1 } }) ∧
  (∀ s : State, s.pending = [] → s.clk.run = true → s.hinge.step = 0 → s.clk.steer = 0 → s.counting = false →
    ∃ t : State, step s = .next t ∧ t = { s with clk := t.clk } ∧ t.clk.cclk = s.clk.cclk + 1 ∧
      (s.clk.tPhase + 4 < Config.rootMult s.clk.hp → t.clk.t64 = s.clk.t64 ∧ t.clk.tPhase = s.clk.tPhase + 4) ∧
      (Config.rootMult s.clk.hp ≤ s.clk.tPhase + 4 →
        t.clk.t64 = s.clk.t64 + 1 ∧ t.clk.tPhase = s.clk.tPhase + 4 - Config.rootMult s.clk.hp))

/-- After reset every register field reads its Reset value: the fields listed here the value of their Reset column, every other field 0 (fields of an image, before any image, by log entry 5). TIME64 is 0, CCLK stands, the start is cold, every door is masked, the stacks list nothing, nothing is under way and no command waits. -/
def Obligations.ResetLeavesResetValues : Prop :=
  (∀ x ∈ ([(.SVC_BUS_VOLT_MIN, 1023), (.SVC_PF_CFG_PF1_LEVEL, 420), (.SVC_PF_CFG_PF1_FILT, 20), (.SVC_PF_CFG_PF2_LEVEL, 380), (.SVC_PF_CFG_PF2_FILT, 2),
      (.SVC_SLEW_LIMIT_RATE, 2), (.SVC_TIME_SYNC_PERIOD_US, 1000), (.SVC_BOOT_WDOG_SECONDS, 10), (.DOOR_STATUS_MASKED, 1), (.PC_TRANSOM_MERGE, 16),
      (.PC_TRANSOM_LIMIT, 32), (.CMP_GATE_CFG_ENABLE, 1), (.PC_RETRAIN_PAUSE, 60), (.PC_RETRAIN_INTV_MS, 100), (.THM_STALE_MS, 10),
      (.QUEUE_SIZE_CMD_LOG2, 4), (.QUEUE_SIZE_CPL_LOG2, 4), (.QUEUE_CTRL_STOP_ON_ERROR, 1), (.QUEUE_CTRL_ERR_INTR, 1), (.QUEUE_CTRL_VECTOR, 1),
      (.QUEUE_WDOG_SECONDS, 30), (.PAGE_PREFETCH_WIN_US, 2000), (.TRW_PORT_CTRL_ENABLE, 1), (.TRW_PORT_CTRL_PRESET, 3), (.TRW_LINK_FAIL_US, 10),
      (.RING_COLL_TIMEOUT_MS, 10000), (.RING_STALL_GRANT_MS, 1000), (.FN_CTRL_HOST_CLASS, 1), (.CNT_CFG_UNIT, 127), (.SMP_CTRL_SIZE_LOG2, 8)] : List (Fld × Nat)),
    ∀ d i j, State.reset.rd x.1 d i j = x.2) ∧
  State.reset.now = 0 ∧ State.reset.clk.run = false ∧ State.reset.boot.stage = .cold ∧ (∀ h d, (State.reset.door h d).masked = true) ∧
  State.reset.mem = [] ∧ State.reset.Idle ∧ State.reset.pending = []

/-- The contents of the stacks are in canonical form after reset: keys strictly rising, no entry equal to what an unlisted byte reads as (log entry 9). -/
def Obligations.ResetMemoryCanonical : Prop := Inv State.reset

/-- For every state whose stack contents are in canonical form, whatever command is at the front of the queue or if none is: a step that answers a next state leaves them in canonical form, so that equal contents are equal data. -/
def Obligations.StepKeepsMemoryCanonical : Prop :=
  ∀ s t : State, Inv s → step s = .next t → Inv t

/-- From every state, whatever command runs: a step leaves the identity of the package, its keys and revoked slots and the firmware's rollback count as they are, and never lowers the image rollback count FUSED. (What ADVANCE raises it to, RollbackFusesFollowTheImage says; the hubs' fuse maps are a field of their own.) -/
def Obligations.FusesOnlyAdvance : Prop :=
  ∀ s t : State, step s = .next t → t.fuse = { s.fuse with imgRollback := t.fuse.imgRollback } ∧ s.fuse.imgRollback ≤ t.fuse.imgRollback

/-- Every command, in every state, answers a next state: none faults and none is refused. For every command other than VAON_POWER_UP the count of ticks in it is the count before, through resets, power-fail, trips, hinges and self-refresh alike; for every command other than TIME as well, TIME64 in it is TIME64 before; VAON_POWER_UP leaves TIME64 at 0. (TIME64 advances with time alone, IdleStepIsOneCycle; a TIME packet may make the one step at fabric join. That an event whose condition does not hold changes nothing is the model's choice of log entry 2.) -/
def Obligations.CommandsKeepTime64 : Prop :=
  ∀ (c : Instr) (s : State), ∃ t : State, exec c s = .next t ∧
    (c ≠ .vaonPowerUp → t.now = s.now ∧ ((∀ p, c ≠ .timePacket p) → t.time64 = s.time64)) ∧ (c = .vaonPowerUp → t.now = 0 ∧ t.time64 = 0)

/-- For every memory in canonical form: a byte written at a key reads back there, every other key reads as before, the memory after the write is in canonical form, and two memories in canonical form that read alike at every key are the same list. -/
def Obligations.MemoryReadsBackWrites : Prop :=
  (∀ (m : List Host.Cell) (a b : Nat) (v : Byte), Memory.wf m →
    memRead (memWrite m a v) b = (if b = a then v else memRead m b) ∧ Memory.wf (memWrite m a v)) ∧
  (∀ m n : List Host.Cell, Memory.wf m → Memory.wf n → (∀ a, memRead m a = memRead n a) → m = n)

/-- For every clock state: a tick advances TIME64 by 0, 1 or 2; where it is not 1 the tick is a correction, made only if 1,024 ticks have passed since the last one, and it is remembered as the last one. -/
def Obligations.SteeringIsRare : Prop :=
  ∀ c : Clk, c.t64 ≤ c.tick.t64 ∧ c.tick.t64 ≤ c.t64 + 2 ∧
    (c.tick.t64 ≠ c.t64 + 1 →
      c.tick.steerAt = some c.tick.t64 ∧ c.steer ≠ 0 ∧ c.tick.steer.natAbs + 1 = c.steer.natAbs ∧ ∀ u, c.steerAt = some u → u + 1024 ≤ c.t64)

/-! ## The supply (chapter 03) -/

/-- BUS_SAMPLE of v (0.1 V): VOLTS takes v (saturating at 1,023), MIN the least value seen; the PF1 and PF2 filters run while v is below their levels, each with the start and the length it had when its condition began to hold, and end otherwise; the 44.0 V recovery and the 60.5 V surge conditions keep the tick at which they began to hold. Nothing else changes. -/
def Obligations.BusSampleRunsFilters : Prop :=
  ∀ (s : State) (v : Nat), s.Idle →
    ∃ t : State, exec (.busSample v) s = .next t ∧
      t.rd .SVC_BUS_VOLT_VOLTS 0 0 0 = min 1023 v ∧
      t.rd .SVC_BUS_VOLT_MIN 0 0 0 = min v (s.rd .SVC_BUS_VOLT_MIN 0 0 0) ∧
      t.supply = { s.supply with
        pf1Filt := if v < s.rd .SVC_PF_CFG_PF1_LEVEL 0 0 0 then some (s.supply.pf1Filt.getD (s.now, 100 * s.rd .SVC_PF_CFG_PF1_FILT 0 0 0)) else none
        pf2Filt := if v < s.rd .SVC_PF_CFG_PF2_LEVEL 0 0 0 then some (s.supply.pf2Filt.getD (s.now, 100 * s.rd .SVC_PF_CFG_PF2_FILT 0 0 0)) else none
        recovAt := if 440 ≤ v then some (s.supply.recovAt.getD s.now) else none
        surgeAt := if 605 < v then some (s.supply.surgeAt.getD s.now) else none } ∧
      s.RegsBut t [.SVC_BUS_VOLT_VOLTS, .SVC_BUS_VOLT_MIN] ∧
      t = { s with regs := t.regs, supply := t.supply }

/-- On a package with nothing under way, each with nothing else changed: SURGE_WARNING, once the bus has been above 60.5 V for 20 µs, sets OV_SEEN; KEEP_REQ, in a PF2 drain in which every pseudo-channel is in self-refresh and that has not ended before, raises KEEP_REQ; SLEW_ESTIMATE moves the estimate toward what the activity asks for by at most RATE (a fall is free where the load may drop), and EST_A reads it; KA_PG and PWR_GOOD rise (PWR_GOOD after a PF2 marks the rails as back); WARM_RST_N and PERST_N rise and keep the tick; a reference that returns keeps the tick. -/
def Obligations.SupplyRowsWithOneEffect : Prop :=
  ∀ s : State, s.Idle →
    (∀ u, s.supply.surgeAt = some u → u + 2000 ≤ s.now → ∃ t : State, exec .surgeWarning s = .next t ∧
      t.rd .SVC_PF_STATUS_OV_SEEN 0 0 0 = 1 ∧ s.RegsBut t [.SVC_PF_STATUS_OV_SEEN] ∧ t = { s with regs := t.regs }) ∧
    (s.pf2 = true → s.boot.stage = .drained → s.supply.drainedAt = none → (∀ q ∈ s.allPcs, (s.pc q.1 q.2).sr = .inSr) →
      exec .keepReq s = .next { s with supply := { s.supply with keep := true, drainedAt := some s.now } }) ∧
    (∀ a, ∃ t : State, exec (.slewEstimate a) s = .next t ∧ t.supply = { s.supply with estimate := t.supply.estimate, wanted := a } ∧
      t.supply.estimate ≤ s.supply.estimate + 5 * s.rd .SVC_SLEW_LIMIT_RATE 0 0 0 ∧
      (s.dropsLoad = false → s.supply.estimate ≤ t.supply.estimate + 5 * s.rd .SVC_SLEW_LIMIT_RATE 0 0 0) ∧
      (s.dropsLoad = true → a ≤ s.supply.estimate → t.supply.estimate = a) ∧
      min a s.supply.estimate ≤ t.supply.estimate ∧ t.supply.estimate ≤ max a s.supply.estimate ∧
      t.rd .SVC_SLEW_LIMIT_EST_A 0 0 0 = min 1023 t.supply.estimate ∧
      s.RegsBut t [.SVC_SLEW_LIMIT_EST_A] ∧ t = { s with regs := t.regs, supply := t.supply }) ∧
    exec .kaPg s = .next { s with board := { s.board with kaPg := true } } ∧
    (s.board.pwrGood = false →
      exec .pwrGood s = .next { s with board := { s.board with pwrGood := true }, supply := { s.supply with railsBack := s.pf2 } }) ∧
    (s.board.warmRst = false → exec (.warmRstN true) s = .next { s with board := { s.board with warmRst := true, riseAt := s.now } }) ∧
    (s.board.perst = false → exec (.perstN true) s = .next { s with board := { s.board with perst := true, riseAt := s.now } }) ∧
    (s.board.refAt = none → exec .refReturn s = .next { s with board := { s.board with refAt := some s.now } })

/-- PF1, once its filter has run: PF1 holds from now, PF1_SEEN is set, no partial image and no layout change stays staged, and the physical function's PF1 event bit is set; the stacks, the fuses, the board's pins, the start and the running configuration stay. PF1_CLEAR, with PF1 held, PF2 not asserted and the bus above the recovery level for 1 ms: PF1 ends, and registers, stacks and configuration stay (a trace record may count as lost). -/
def Obligations.PowerFailOneComesAndGoes : Prop :=
  (∀ (s : State) (u n : Nat), s.Idle → s.supply.pf1Filt = some (u, n) → u + n ≤ s.now → s.pf1 = false →
    ∃ t : State, exec .pf1 s = .next t ∧ t.pf1 = true ∧ t.supply = { s.supply with pf1At := some s.now } ∧
      t.rd .SVC_PF_STATUS_PF1_SEEN 0 0 0 = 1 ∧ t.imagesStaged = false ∧ t.layoutsStaged = false ∧
      t.rd .FN_EVENT_STATUS_PF1 0 0 0 = 1 ∧ t.mem = s.mem ∧ t.fuse = s.fuse ∧ t.board = s.board ∧ t.boot = s.boot ∧ t.cfg = s.cfg ∧ t.clk = s.clk) ∧
  (∀ (s : State) (u : Nat), s.Idle → s.pf1 = true → s.pf2 = false → s.supply.recovAt = some u → u + 100000 ≤ s.now →
    ∃ t : State, exec .pf1Clear s = .next t ∧ t.pf1 = false ∧ t.supply = { s.supply with pf1At := none } ∧
      s.RegsBut t [.TRC_STATUS_LOST] ∧ t = { s with pf1 := false, supply := t.supply, regs := t.regs, tracers := t.tracers })

/-- PF2 (its filter run), PF_N (low for 200 ns), BROWNOUT (PF1 held for 10 ms), REF_LOSS (the reference silent for 200 ns) and THERM_TRIP_N start the PF2 sequence where it has not begun: PF2 holds, PF2_SEEN is set, CAUSE of the next start is 6, 6, 6, 7 and 9. Before the memory clear of a cold start has completed the next start is cold and nothing drains; otherwise the drain begins now. Each records its own source (PFN_SEEN, BROWNOUT, REF_LOSS, TRIP with the die in TRIP_SRC and the pin asserted). TIME64, the fuses, the running configuration and the stacks stay. -/
def Obligations.PowerFailTwoStarts : Prop :=
  let begun (s u : State) (cause : Nat) : Prop :=
    u.pf2 = true ∧ u.supply.cause = cause ∧ u.rd .SVC_PF_STATUS_PF2_SEEN 0 0 0 = 1 ∧
    (s.boot.stage = .cold → u.boot.stage = .cold) ∧
    (s.boot.stage ≠ .cold → s.holdsData = false → u.boot.stage = .coldNext) ∧
    (s.holdsData = true → u.boot.stage = .drained ∧ (s.boot.stage ≠ .drained → u.supply.drainFrom = some s.now)) ∧
    u.now = s.now ∧ u.fuse = s.fuse ∧ u.cfg = s.cfg ∧ u.mem = s.mem
  ∀ s : State, s.pf2 = false →
    (∀ a n, s.supply.pf2Filt = some (a, n) → a + n ≤ s.now → ∃ u : State, exec .pf2 s = .next u.done ∧ begun s u 6) ∧
    (∀ ns, 200 ≤ ns → ∃ u : State, exec (.pfN ns) s = .next u.done ∧ begun s u 6 ∧ u.rd .SVC_PF_STATUS_PFN_SEEN 0 0 0 = 1) ∧
    (∀ a, s.pf1 = true → s.supply.pf1At = some a → a + 1000000 ≤ s.now →
      ∃ u : State, exec .brownout s = .next u.done ∧ begun s u 6 ∧ u.rd .SVC_PF_STATUS_BROWNOUT 0 0 0 = 1) ∧
    (∀ ns, 200 ≤ ns → s.board.refAt.isSome = true →
      ∃ u : State, exec (.refLoss ns) s = .next u.done ∧ begun s u 7 ∧ u.rd .SVC_CLK_STATUS_REF_LOSS 0 0 0 = 1 ∧ u.board.refAt = none) ∧
    (∀ d, ∃ u : State, exec (.thermTripN d) s = .next u.done ∧ begun s u 9 ∧ u.rd .SVC_THM_STATUS_TRIP 0 0 0 = 1 ∧
      (u.rd .SVC_THM_STATUS_TRIP_SRC 0 0 0).testBit d.val = true ∧ u.board.trip = true)

/-! ## Clocks, resets and bring-up (chapters 04 and 05) -/

/-- Where no memory clear of a cold start has completed (the stage is cold, or a cold start is under way and not cleared) and PF2 is not asserted: a fall of WARM_RST_N or PERST_N, and a write of SVC_RST_CTRL with its key, WARM and no COLD, each lead to the state of a cold reset with their own CAUSE (no configuration, no stack contents, the cold stage); and PF2 enters no drain, discards nothing in the doors, leaves KEEP_REQ as it is and makes the next start cold. -/
def Obligations.BeforeMemoryClearStartsAreCold : Prop :=
  ∀ s : State, s.boot.stage = .cold ∨ s.boot.stage = .coldNext ∨ (s.boot.warm = false ∧ s.boot.cleared = false) → s.pf2 = false →
    (s.board.warmRst = true → exec (.warmRstN false) s = .next (({ s with board := { s.board with warmRst := false } } : State).coldReset 2 false)) ∧
    (s.board.perst = true → exec (.perstN false) s = .next (({ s with board := { s.board with perst := false } } : State).coldReset 3 false)) ∧
    (∀ v : BitVec 32, v.toNat / 65536 = 0x5AC3 → v.getLsbD 0 = true → v.getLsbD 1 = false → exec (.warm v) s = .next (s.coldReset 4 false)) ∧
    (∀ c e, (s.coldReset c e).boot.stage = .cold ∧ (s.coldReset c e).mem = [] ∧ (s.coldReset c e).cfg = none ∧ (s.coldReset c e).rd .SVC_BOOT_STATUS_CAUSE 0 0 0 = c) ∧
    (∀ a n, s.supply.pf2Filt = some (a, n) → a + n ≤ s.now →
      ∃ u : State, exec .pf2 s = .next u.done ∧ u.pf2 = true ∧ (u.boot.stage = .cold ∨ u.boot.stage = .coldNext) ∧
        u.supply.drainFrom = s.supply.drainFrom ∧ u.supply.keep = s.supply.keep ∧ u.doors = s.doors)

/-- A fall of PKG_RST_N, the loss of KA_PG, and a write of SVC_RST_CTRL with its key and COLD perform a cold reset with CAUSE 1, 0 and 5 (a write with both COLD and WARM is cold only; without the key nothing happens). After it: CAUSE reads its cause, SVC_SLEW_LIMIT.RATE what STRAP_SLEW says, SVC_HINGE_STATUS.ERROR that a hinge was abandoned, if one was under way, the time-sync fields, REF_LOSS and BOOT_SEL.PREFER what they read before, and every other register its Reset value; TIME64, the fuses, PF1 and the time since it asserted are kept; no configuration runs, the stacks hold nothing, nothing is under way, and the stage is cold. VAON_POWER_UP does the same, and restarts TIME64 from 0. -/
def Obligations.ColdResetsKeepTimeAndFuses : Prop :=
  let kept : List Fld := [.SVC_TIME_SYNC_PERIOD_US, .SVC_TIME_SYNC_ALIGNED, .SVC_TIME_SYNC_DRIFT, .SVC_TIME_SYNC_OFFSET, .SVC_CLK_STATUS_REF_LOSS, .SVC_BOOT_SEL_PREFER]
  let cold (s t : State) (cause : Nat) : Prop :=
    t.rd .SVC_BOOT_STATUS_CAUSE 0 0 0 = cause ∧ t.rd .SVC_SLEW_LIMIT_RATE 0 0 0 = 2 * 2 ^ s.board.straps.slew.val ∧
    (∀ f d i j, f ∈ kept → t.rd f d i j = s.rd f d i j) ∧
    (∀ f d i j, f ∉ kept → f ≠ .SVC_BOOT_STATUS_CAUSE → f ≠ .SVC_SLEW_LIMIT_RATE → (f = .SVC_HINGE_STATUS_ERROR → s.hinge.step = 0) →
      t.rd f d i j = resetOf f) ∧
    (s.hinge.step ≠ 0 → t.rd .SVC_HINGE_STATUS_ERROR 0 0 0 = 2) ∧ t.pf1 = s.pf1 ∧ t.supply.pf1At = s.supply.pf1At ∧
    t.now = s.now ∧ t.time64 = s.time64 ∧ t.fuse = s.fuse ∧ t.fuseMap = s.fuseMap ∧ t.cfg = none ∧ t.mem = [] ∧ t.Idle ∧ t.boot.stage = .cold ∧ t.pending = s.pending
  ∀ s : State,
    (∀ st, s.board.pkgRst = true → ∃ t : State, exec (.pkgRstN false st) s = .next t ∧ cold s t 1 ∧ t.board.pkgRst = false) ∧
    (s.board.kaPg = true → ∃ t : State, exec .kaPgLoss s = .next t ∧ cold s t 0 ∧ t.board.kaPg = false) ∧
    (∀ v : BitVec 32, v.toNat / 65536 = 0x5AC3 → v.getLsbD 1 = true → ∃ t : State, exec (.cold v) s = .next t ∧ cold s t 5) ∧
    (∀ v : BitVec 32, v.toNat / 65536 ≠ 0x5AC3 → s.Idle → exec (.cold v) s = .next s ∧ exec (.warm v) s = .next s) ∧
    (∃ t : State, exec .vaonPowerUp s = .next t ∧ (∀ f d i j, t.rd f d i j = resetOf f) ∧ t.now = 0 ∧ t.fuse = s.fuse ∧ t.mem = [] ∧ t.boot.stage = .cold)

/-- On a package that runs with its memory cleared and no PF2: a fall of WARM_RST_N or of PERST_N and a write of SVC_RST_CTRL with its key and WARM start the drain now and leave CAUSE 2, 3 and 4 for the start and in SVC_BOOT_STATUS; a fall of PWR_GOOD stops CCLK and makes the next start warm with CAUSE 6. The stacks, the running configuration, the fuses and TIME64 are kept, and KEEP_REQ is not raised. -/
def Obligations.WarmResetsDrainAndKeep : Prop :=
  let drain (s u : State) (cause : Nat) : Prop :=
    u.boot.stage = .drained ∧ u.supply.drainFrom = some s.now ∧ u.supply.cause = cause ∧ u.supply.keep = s.supply.keep ∧
    u.mem = s.mem ∧ u.cfg = s.cfg ∧ u.fuse = s.fuse ∧ u.now = s.now
  ∀ s : State, s.boot.stage = .running → s.boot.cleared = true → s.pf2 = false →
    (s.board.warmRst = true → ∃ u : State, exec (.warmRstN false) s = .next u.done ∧ drain s u 2 ∧ u.rd .SVC_BOOT_STATUS_CAUSE 0 0 0 = 2 ∧ u.board.warmRst = false) ∧
    (s.board.perst = true → ∃ u : State, exec (.perstN false) s = .next u.done ∧ drain s u 3 ∧ u.rd .SVC_BOOT_STATUS_CAUSE 0 0 0 = 3 ∧ u.board.perst = false) ∧
    (∀ v : BitVec 32, v.toNat / 65536 = 0x5AC3 → v.getLsbD 0 = true → v.getLsbD 1 = false →
      ∃ u : State, exec (.warm v) s = .next u.done ∧ drain s u 4 ∧ u.rd .SVC_BOOT_STATUS_CAUSE 0 0 0 = 4) ∧
    (s.board.pwrGood = true → ∃ u : State, exec .pwrGoodLoss s = .next u.done ∧ drain s u 6 ∧ u.board.pwrGood = false ∧ u.clk.run = false)

/-- PKG_RST_N rising samples the straps, sets SVC_SLEW_LIMIT.RATE by STRAP_SLEW, takes the slot that the straps say and starts the bring-up watchdog unless STRAP_BOOT is 0b11; the I3C and I2C target, while neither of its balls is unused, answers at 0x50 + STRAP_I3C_ADDR. COLD_BRINGUP, in the cold stage with every board signal good and no PF2, enters phase 1 with KIND 0 (2 in recovery), the PLLs out of lock at HP4 and CCLK stopped, the slot the straps say. PLL_LOCK of a present die in phase 1 or 8 sets its bit of PLL_LOCK and nothing else of the registers; CCLK runs once the bits of all present hubs are set. -/
def Obligations.ColdBringUpBegins : Prop :=
  (∀ (s : State) (st : Straps), s.Idle → s.board.pkgRst = false →
    ∃ t : State, exec (.pkgRstN true st) s = .next t ∧ t.board = { s.board with pkgRst := true, straps := st } ∧
      t.rd .SVC_SLEW_LIMIT_RATE 0 0 0 = 2 * 2 ^ st.slew.val ∧ s.RegsBut t [.SVC_SLEW_LIMIT_RATE] ∧
      t.boot = { s.boot with
        slot := if st.boot = 1 then 0 else if st.boot = 2 then 1 else if st.boot = 3 then 0 else s.rd .SVC_BOOT_SEL_PREFER 0 0 0
        wdog := if st.boot = 3 then s.boot.wdog else some (s.now, 100000000 * s.rd .SVC_BOOT_WDOG_SECONDS 0 0 0) } ∧
      (s.pinLive 65 20 = true → s.pinLive 65 21 = true → t.i3cTarget = some (0x50 + st.i3cAddr.val)) ∧
      t = { s with board := t.board, regs := t.regs, boot := t.boot }) ∧
  (∀ s : State, s.Idle → s.boot.stage = .cold → s.board.pkgRst = true → s.board.warmRst = true → s.board.perst = true → s.board.kaPg = true →
    s.board.pwrGood = true → s.board.refAt.isSome = true → s.pf2 = false →
    ∃ t : State, exec .coldBringup s = .next t ∧ t.boot.stage = .bringUp ∧ t.phase = 1 ∧ t.boot.warm = false ∧ t.boot.cleared = false ∧
      t.rd .SVC_BOOT_STATUS_KIND 0 0 0 = (if s.board.straps.boot = 3 then 2 else 0) ∧ t.rd .SVC_CLK_STATUS_PLL_LOCK 0 0 0 = 0 ∧
      t.clk.run = false ∧ t.clk.hp = 4 ∧
      (s.rd .SVC_BOOT_STATUS_ATTEMPT 0 0 0 = 0 → t.boot.slot = (if s.board.straps.boot = 1 then 0 else if s.board.straps.boot = 2 then 1
        else if s.board.straps.boot = 3 then 0 else s.rd .SVC_BOOT_SEL_PREFER 0 0 0)) ∧
      t.rd .IMG_STATUS_SLOT 0 0 0 = t.boot.slot ∧ t.now = s.now ∧ t.fuse = s.fuse ∧ t.mem = s.mem) ∧
  (∀ (s : State) (d : DieNo), s.Idle → s.boot.stage = .bringUp → (s.phase = 1 ∨ s.phase = 8) → s.presentDies.testBit d.val = true → s.board.refAt.isSome = true →
    ∃ t : State, exec (.pllLock d) s = .next t ∧ (t.rd .SVC_CLK_STATUS_PLL_LOCK 0 0 0).testBit d.val = true ∧ s.RegsBut t [.SVC_CLK_STATUS_PLL_LOCK] ∧
      t = { s with regs := t.regs, clk := { s.clk with run := t.clk.run } } ∧
      (t.clk.run = true ↔ ∀ h ∈ s.hubs, (t.rd .SVC_CLK_STATUS_PLL_LOCK 0 0 0).testBit h = true))

/-- Each phase of a cold bring-up, on a good result, enters its number and leaves the stage in bring-up, the stacks and the fuses as they are: FIRST_STAGE with a container the boot ROM accepts, PCIE_READINESS, HUB_FIRMWARE with one every present hub accepts, RING_LINK_UP with no failing link (every link between present hubs comes up), STACK_IDENTIFICATION with every populated stack answering (its answer is kept). RECOV_GO in recovery, with a good container in the recovery buffer, lets phase 4 begin. A container whose check fails under STRAP_BOOT 0b00, with FALLBACK 0, restarts the chain from the other slot. -/
def Obligations.BringUpPhasesTwoToSix : Prop :=
  let phase (s u : State) (n : Nat) : Prop := u.phase = n ∧ u.boot.stage = .bringUp ∧ u.mem = s.mem ∧ u.fuse = s.fuse ∧ u.now = s.now
  ∀ s : State, s.boot.stage = .bringUp → s.boot.warm = false →
    (∀ l, s.phase = 1 → s.locked = true → s.board.straps.boot ≠ 3 → l ≠ [] → s.fwCheck 0 0 l = none →
      ∃ u : State, exec (.firstStage l) s = .next u.done ∧ phase s u 2) ∧
    (∀ l, s.phase = 1 → s.locked = true → s.board.straps.boot = 0 → s.rd .SVC_BOOT_STATUS_FALLBACK 0 0 0 = 0 → s.fwCheck 0 0 l = some .verify →
      ∃ u : State, exec (.firstStage l) s = .next u.done ∧ phase s u 1 ∧ u.boot.slot = 1 - s.boot.slot ∧ u.rd .SVC_BOOT_STATUS_FALLBACK 0 0 0 = 1) ∧
    (s.phase = 2 → ∃ u : State, exec .pcieReadiness s = .next u.done ∧ phase s u 3) ∧
    (∀ l, s.phase = 3 → s.board.straps.boot ≠ 3 → l ≠ [] → (∀ h ∈ s.hubs, s.fwCheck (1 + h) 1 l = none) →
      ∃ u : State, exec (.hubFirmware l) s = .next u.done ∧ phase s u 4) ∧
    (s.phase = 4 → ∃ u : State, exec (.ringLinkUp []) s = .next u.done ∧ phase s u 5 ∧ ∀ i ∈ s.ringLinks, u.link i = { LinkSt.reset with up := true }) ∧
    (∀ l, s.phase = 5 → (∀ x ∈ s.allStacks, (foundStack l x.1 x.2).isSome = true) →
      ∃ u : State, exec (.stackIdentification l) s = .next u.done ∧ phase s u 6 ∧ ∀ x ∈ s.allStacks, u.stackId x.1 x.2 = foundStack l x.1 x.2) ∧
    (s.phase = 3 → s.board.straps.boot = 3 → s.fwCheck 0 0 s.recov = none →
      ∃ u : State, exec .recovGo s = .next u.done ∧ phase s u 3 ∧ u.boot.fwOk = true ∧ u.boot.wdog.isSome = true)

/-- IMAGE_LOAD with an image that passes every check enters phase 7 with that configuration running; RELOCK enters phase 8 with the PLLs out of lock at BOOT_HP; SOFT_REPAIRS, where no hub has a record in force, phase 9; TRAINING, every lane of every populated pseudo-channel passing, phase 10 with TRAINED set on every stack; MEMORY_CLEAR phase 11 with every byte of every stack 0; AKSAL_LINK_UP phase 12; COMPUTE_RELEASE, every link ACTIVE and every self-test passed, phase 13; ENGINES_SET phase 14; READY phase 15: the package runs, the watchdog stops, the physical function's READY event is set. A compute die whose self-test fails stops bring-up with BIST and its number. -/
def Obligations.BringUpPhasesSevenToFifteen : Prop :=
  let phase (s u : State) (n : Nat) : Prop := u.phase = n ∧ u.boot.stage = .bringUp ∧ u.fuse = s.fuse ∧ u.now = s.now
  ∀ s : State, s.boot.stage = .bringUp → s.boot.warm = false →
    (∀ l, s.phase = 6 → l ≠ [] → (((s.setPhase 7).readFlash .image).loadFull l).2 = true →
      ∃ u : State, exec (.imageLoad l) s = .next u.done ∧ phase s u 7 ∧ u.cfg = (((s.setPhase 7).readFlash .image).loadFull l).1.cfg ∧ u.cfg.isSome = true ∧ u.rd .IMG_STATUS_STATE 0 0 0 = 3) ∧
    (s.phase = 7 → ∃ u : State, exec .relock s = .next u.done ∧ phase s u 8 ∧ u.clk.run = false ∧ u.clk.hp = (s.hingeCfg.map (·.boot)).getD 4 ∧
      u.rd .SVC_CLK_STATUS_PLL_LOCK 0 0 0 = 0 ∧ u.mem = s.mem) ∧
    (s.phase = 8 → s.locked = true → (∀ h ∈ s.hubs, s.recordsInForce h = []) → ∃ u : State, exec (.softRepairs []) s = .next u.done ∧ phase s u 9 ∧ u.mem = s.mem) ∧
    (∀ l, s.phase = 9 → (∀ q ∈ s.allPcs, ∃ x, l.find? (fun x => x.hub.val = q.1 && x.pc.val = q.2) = some x ∧ laneFails eyePasses x.eyes (trainedLanes q.2) = []) →
      ∃ u : State, exec (.training l) s = .next u.done ∧ phase s u 10 ∧ u.mem = s.mem ∧ ∀ x ∈ s.allStacks, u.rd .HUB_STACK_GEOM_TRAINED x.1 x.2 0 = 1) ∧
    (s.phase = 10 → ∃ u : State, exec .memoryClear s = .next u.done ∧ phase s u 11 ∧ u.boot.cleared = true ∧ ∀ a, memRead u.mem a = 0) ∧
    (s.phase = 11 → ∃ u : State, exec .aksalLinkUp s = .next u.done ∧ phase s u 12 ∧ u.mem = s.mem ∧
      ∀ d ∈ s.cdies, (s.aksal d).state = 0 → (s.aksal d).ready = true → (u.aksal d).state = 1) ∧
    (s.phase = 12 → (∀ d ∈ s.cdies, (s.aksal d).state = 6) → ∃ u : State, exec (.computeRelease []) s = .next u.done ∧ phase s u 13 ∧ u.mem = s.mem ∧
      ∀ d ∈ s.cdies, ∀ k < 100, u.cluster d k = ClusterSt.reset) ∧
    (∀ d : Cdie, s.phase = 12 → (∀ d ∈ s.cdies, (s.aksal d).state = 6) → s.cdieIn d.val = true →
      ∃ u : State, exec (.computeRelease [d]) s = .next u.done ∧ u.boot.stage = .stopped ∧ u.rd .SVC_BOOT_STATUS_ERROR 0 0 0 = 0x0B ∧ u.rd .SVC_BOOT_STATUS_UNIT 0 0 0 = d.val) ∧
    (s.phase = 13 → ∃ u : State, exec .enginesSet s = .next u.done ∧ phase s u 14 ∧ u.mem = s.mem ∧ u.msix = []) ∧
    (s.phase = 14 → ∃ u : State, exec .ready s = .next u.done ∧ u.phase = 15 ∧ u.boot.stage = .running ∧ u.boot.wdog = none ∧ u.mem = s.mem ∧ u.fuse = s.fuse ∧
      u.rd .FN_EVENT_STATUS_READY 0 0 0 = 1)

/-- WARM_BRINGUP, after a warm reset's drain with every pseudo-channel in self-refresh and the reset lines high for 10 µs, enters phase 1 with KIND 1 and the drain's CAUSE, keeping the stacks, the running configuration, the fuses and TIME64. CONFIGURATION_CRC_CHECK with no failing hub enters phase 16; SELF_REFRESH_EXIT_CHECK, where no first pause shows an error or moves a lane and no lane stands more than 8 codes from its trained value, phase 17 with KEEP_REQ low and every pseudo-channel awake; each keeps the stacks. ENGINES_RESTORED enters phase 18 with every expander released. A hub whose tables fail their CRC makes the rest of the bring-up a cold one from phase 5, with KA_STATE and the hub recorded, the stacks' contents gone and KEEP_REQ as it was. -/
def Obligations.WarmBringUpKeepsTheStacks : Prop :=
  (∀ s : State, s.boot.stage = .drained → s.allInSr = true → s.board.pkgRst = true → s.board.warmRst = true → s.board.perst = true →
    s.board.kaPg = true → s.board.pwrGood = true → s.board.refAt.isSome = true → s.pf2 = false → s.board.riseAt + 1000 ≤ s.now → s.supply.cause = 2 →
    ∃ u : State, exec .warmBringup s = .next u.done ∧ u.boot.stage = .bringUp ∧ u.boot.warm = true ∧ u.phase = 1 ∧ u.rd .SVC_BOOT_STATUS_KIND 0 0 0 = 1 ∧
      u.rd .SVC_BOOT_STATUS_CAUSE 0 0 0 = 2 ∧ u.mem = s.mem ∧ u.cfg = s.cfg ∧ u.fuse = s.fuse ∧ u.now = s.now) ∧
  (∀ s : State, s.boot.stage = .bringUp → s.boot.warm = true →
    (s.phase = 5 → ∃ u : State, exec (.configurationCrcCheck []) s = .next u.done ∧ u.phase = 16 ∧ u.mem = s.mem ∧ u.cfg = s.cfg) ∧
    (∀ h : Hub, s.phase = 5 → s.hubIn h.val = true → ∃ u : State, exec (.configurationCrcCheck [h]) s = .next u.done ∧ u.phase = 5 ∧ u.boot.warm = false ∧
      u.boot.cleared = false ∧ u.rd .SVC_BOOT_STATUS_ERROR 0 0 0 = 0x0D ∧ u.rd .SVC_BOOT_STATUS_UNIT 0 0 0 = h.val ∧ u.mem = [] ∧ u.cfg = none ∧ u.supply = s.supply) ∧
    (∀ l found second, s.phase = 8 → s.locked = true → (∀ q ∈ s.allPcs, s.drifted q.1 q.2 = false) →
      ∃ u : State, exec (.selfRefreshExitCheck l { first := [], found := found, second := second }) s = .next u.done ∧ u.phase = 17 ∧ u.supply.keep = false ∧ u.mem = s.mem ∧
      ∀ q ∈ s.allPcs, (u.pc q.1 q.2).sr = .awake) ∧
    (s.phase = 13 → ∃ u : State, exec .enginesRestored s = .next u.done ∧ u.phase = 18 ∧ u.boot = s.boot ∧ u.expanders = []))

/-- BOOT_WATCHDOG after its time, in bring-up. The first expiry of a cold start records BOOT_TIMEOUT with the phase, sets ATTEMPT and performs a cold reset with CAUSE 8; under STRAP_BOOT 0b00 the start goes on with the other slot and FALLBACK set, under the other straps with the slot it used. A second expiry stops bring-up with BOOT_TIMEOUT and the phase. Before its time it does nothing. -/
def Obligations.BootWatchdogRestartsOnce : Prop :=
  ∀ (s : State) (a n : Nat), s.boot.wdog = some (a, n) → s.boot.stage = .bringUp → s.boot.warm = false →
    (a + n ≤ s.now → s.rd .SVC_BOOT_STATUS_ATTEMPT 0 0 0 = 0 →
      ∃ u : State, exec .bootWatchdog s = .next u.done ∧ u.rd .SVC_BOOT_STATUS_ERROR 0 0 0 = 0x0C ∧ u.rd .SVC_BOOT_STATUS_UNIT 0 0 0 = s.phase ∧
        u.rd .SVC_BOOT_STATUS_ATTEMPT 0 0 0 = 1 ∧ u.rd .SVC_BOOT_STATUS_CAUSE 0 0 0 = 8 ∧ u.boot.stage = .cold ∧ u.mem = [] ∧ u.now = s.now ∧
        (s.board.straps.boot = 0 → u.boot.slot = 1 - s.boot.slot ∧ u.rd .SVC_BOOT_STATUS_FALLBACK 0 0 0 = 1) ∧
        (s.board.straps.boot ≠ 0 → u.boot.slot = s.boot.slot)) ∧
    (a + n ≤ s.now → s.rd .SVC_BOOT_STATUS_ATTEMPT 0 0 0 ≠ 0 →
      ∃ u : State, exec .bootWatchdog s = .next u.done ∧ u.boot.stage = .stopped ∧ u.boot.wdog = none ∧ u.rd .SVC_BOOT_STATUS_ERROR 0 0 0 = 0x0C ∧
        u.rd .SVC_BOOT_STATUS_UNIT 0 0 0 = s.phase) ∧
    (s.now < a + n → exec .bootWatchdog s = .next s.done)

/-- For every state and every byte string: a full image that loads, and a partial image whose header and frames are accepted, carry a ROLLBACK (byte 0x14 of the header) of at least FUSED. ADVANCE, with a full image running, leaves FUSED at the greater of FUSED and the image's ROLLBACK, so at the image's ROLLBACK where that was not below it, and changes nothing else; no step lowers FUSED. -/
def Obligations.RollbackFusesFollowTheImage : Prop :=
  (∀ (s : State) (l : List Byte), (s.loadFull l).2 = true → s.fuse.imgRollback ≤ ((l.take 0x1000000).getD 0x14 0).toNat) ∧
  (∀ (s : State) (l : List Byte) (fs : List RawFrame), s.parseImage l 1 = .inr fs → s.fuse.imgRollback ≤ (l.getD 0x14 0).toNat) ∧
  (∀ (s : State) (c : RunCfg), s.Idle → s.cfg = some c →
    exec .advance s = .next { s with fuse := { s.fuse with imgRollback := max s.fuse.imgRollback c.rollback } } ∧
    (s.fuse.imgRollback ≤ c.rollback → ∃ t : State, exec .advance s = .next t ∧ t.fuse.imgRollback = c.rollback)) ∧
  (∀ s t : State, step s = .next t → s.fuse.imgRollback ≤ t.fuse.imgRollback)

/-! ## Registers and the host (chapters 00, 20) -/

/-- On a package with nothing under way, an access that passes the endpoint's gates and is not held: REGISTER_READ of a whole register that is no counter and no SRAM window answers the register's value and changes nothing; HALF_READ of the low half answers the low 32 bits and latches the whole value, and of the high half the latched value's high 32 bits, releasing the latch; COUNTER_READ of CNT_VALUE answers its value and puts the tick into CNT_READ_TIME of its bank; a read that reaches no register answers ones in every byte and is recorded. -/
def Obligations.RegisterReadsAnswer : Prop :=
  ∀ (s : State) (a : Access), s.Idle → s.regGate a = .ok → s.regHeld a false = false →
    (∀ r, s.reachOf a = .reg r .whole → r.reg ≠ .CMP_SRAM_WIN → s.countedBank r = none →
      exec (.registerRead a) s = .next { s with out := s.out ++ [.regRead a (BitVec.ofNat 64 (s.regValue r))] }) ∧
    (∀ r, s.reachOf a = .reg r .low → r.reg ≠ .CMP_SRAM_WIN → s.countedBank r = none →
      ∃ t : State, exec (.halfRead a) s = .next t ∧ t = { s with half := t.half, out := s.out ++ [.regRead a (BitVec.ofNat 64 (s.regValue r % 2 ^ 32))] } ∧
        t.latched r = some (s.regValue r) ∧ ∀ r', r' ≠ r → t.latched r' = s.latched r') ∧
    (∀ r v, s.reachOf a = .reg r .high → r.reg ≠ .CMP_SRAM_WIN → s.latched r = some v →
      ∃ t : State, exec (.halfRead a) s = .next t ∧ t = { s with half := t.half, out := s.out ++ [.regRead a (BitVec.ofNat 64 (v / 2 ^ 32))] } ∧
        t.latched r = none ∧ ∀ r', r' ≠ r → t.latched r' = s.latched r') ∧
    (∀ r, s.reachOf a = .reg r .whole → r.reg = .CNT_VALUE →
      ∃ t : State, exec (.counterRead a) s = .next t ∧ t = { s with regs := t.regs, out := s.out ++ [.regRead a (BitVec.ofNat 64 (s.regValue r))] } ∧
        t.rd .CNT_READ_TIME_TICK r.d 0 0 = s.time64 ∧ s.RegsBut t [.CNT_READ_TIME_TICK]) ∧
    (∀ n, s.reachOf a = .fault n →
      ∃ t : State, exec (.registerRead a) s = .next t ∧ t.out = s.out ++ [.regRead a (onesOf a.width)] ∧
        t.rd .SVC_ACC_ERR_VALID 0 0 0 ≠ 0 ∧ t = { s with regs := t.regs, out := t.out })

/-- On a package with nothing under way, an access that passes the endpoint's gates and is not held. A write of a whole register that no other rule gives an effect, with every RW field in its range: an RW field takes the bits written, an RW1C bit is cleared where 1 is written unless hardware has set it in this CCLK, an RW1C count takes the events of this CCLK, else 0, where all ones are written, every other field of the register and every other register and part of the package stays. Where an RW field would leave its range, the write changes nothing but SVC_ACC_ERR. -/
def Obligations.RegisterWritesFollowAccessCodes : Prop :=
  let acting : List Reg := [.IMG_CTRL, .IMG_ROLLBACK, .IMG_QUIESCE, .IMG_LAYOUT_CTRL, .SVC_BUS_VOLT, .SVC_RST_CTRL, .SVC_CASE_RST, .SVC_RECOV_GO,
    .SVC_RECOV_BUF, .FN_WIN_BASE, .SVC_HINGE_CTRL, .SVC_PWR_CTRL, .DARB_PRIO, .PC_DEBUG, .PC_DEBUG_CMD, .PC_TRN_CTRL, .PC_TRN_TRIM, .ECC_LOG_LOC,
    .ECC_XLATE, .HUB_1500_DIRECT_CTRL, .HUB_1500_BUF, .CMP_SRAM_WIN, .QUEUE_DB, .QUEUE_CPL_DB, .QUEUE_BASE, .QUEUE_CPL_BASE, .QUEUE_SIZE, .QUEUE_CTRL,
    .SYNC_CNT, .SVC_PWR_CAP, .TRW_PORT_CTRL, .FN_RESET, .CNT_CFG, .CNT_CTRL, .CNT_FREEZE_AT, .SMP_CTRL, .CMP_SMP_CTRL, .TRC_CTRL, .CMP_CCNT_CFG, .FN_CNT_CFG, .SVC_ACC_ERR]
  ∀ (s : State) (a : Access) (v : Word) (r : RegAt), s.Idle → s.regGate a = .ok → s.regHeld a true = false → s.reachOf a = .reg r .whole →
    (r.reg ∉ acting → s.outOfRange r .whole (v.toNat % 2 ^ (8 * a.width)) = false →
      ∃ t : State, exec (.registerWrite a v) s = .next t ∧ t = { s with regs := t.regs } ∧ s.RegsBut t ((fieldsOf r.reg).map (·.f)) ∧
        ∀ x ∈ fieldsOf r.reg,
          let old := s.rd x.f r.d r.i r.j
          let new := v.toNat % 2 ^ (8 * a.width) / 2 ^ x.lo % 2 ^ x.width
          t.rd x.f r.d r.i r.j = (match x.acc with
            | .rw => new
            | .w1c => (old - (old &&& new)) ||| (old &&& s.freshBits x.f r.d r.i r.j)
            | .cnt => if new = 2 ^ x.width - 1 then min x.max (s.freshCount x.f r.d r.i r.j) else old
            | _ => old)) ∧
    (s.outOfRange r .whole (v.toNat % 2 ^ (8 * a.width)) = true →
      exec (.registerWrite a v) s = .next (s.accErr a true 2))

/-- For every state and every access that reaches no register, past the gates: with VALID 0 the access is recorded (offset, BAR, function, read, width, reason) and VALID set; with VALID 1 only COUNT rises, saturating at its greatest value. A write of the register with 1 in VALID, in a CCLK in which hardware has not set it, clears VALID and COUNT and leaves the record's other fields. The start of a warm reset and warm bring-up leave every field of the register as it was. -/
def Obligations.AccessErrorHoldsTheFirst : Prop :=
  (∀ (s : State) (a : Access) (n : Nat), s.Idle → s.regGate a = .ok → s.regHeld a false = false → s.reachOf a = .fault n →
    (s.rd .SVC_ACC_ERR_VALID 0 0 0 = 0 → ∃ t : State, exec (.registerRead a) s = .next t ∧ t.rd .SVC_ACC_ERR_VALID 0 0 0 = 1 ∧
      t.rd .SVC_ACC_ERR_OFFSET 0 0 0 = a.off % 2 ^ 36 ∧ t.rd .SVC_ACC_ERR_BAR 0 0 0 = barCode a.bar ∧ t.rd .SVC_ACC_ERR_FUNCTION 0 0 0 = a.fn.val ∧
      t.rd .SVC_ACC_ERR_WRITE 0 0 0 = 0 ∧ t.rd .SVC_ACC_ERR_WIDTH 0 0 0 = widthCode a.width ∧ t.rd .SVC_ACC_ERR_REASON 0 0 0 = n ∧
      t.rd .SVC_ACC_ERR_COUNT 0 0 0 = s.rd .SVC_ACC_ERR_COUNT 0 0 0) ∧
    (s.rd .SVC_ACC_ERR_VALID 0 0 0 ≠ 0 → ∃ t : State, exec (.registerRead a) s = .next t ∧
      t.rd .SVC_ACC_ERR_COUNT 0 0 0 = min 32767 (s.rd .SVC_ACC_ERR_COUNT 0 0 0 + 1) ∧ s.RegsBut t [.SVC_ACC_ERR_COUNT])) ∧
  (∀ (s : State) (a : Access) (v : Word), s.Idle → s.regGate a = .ok → s.regHeld a true = false → a.width = 8 →
    s.reachOf a = .reg { reg := .SVC_ACC_ERR, d := 0, i := 0, j := 0 } .whole → v.getLsbD 63 = true → s.rd .SVC_ACC_ERR_VALID 0 0 0 ≤ 1 →
    s.freshBits .SVC_ACC_ERR_VALID 0 0 0 = 0 → ∃ t : State, exec (.registerWrite a v) s = .next t ∧ t.rd .SVC_ACC_ERR_VALID 0 0 0 = 0 ∧ t.rd .SVC_ACC_ERR_COUNT 0 0 0 = 0 ∧
      s.RegsBut t [.SVC_ACC_ERR_VALID, .SVC_ACC_ERR_COUNT]) ∧
  (∀ s : State, s.mayWarmStart = true → ∃ u : State, exec .warmBringup s = .next u.done ∧
    ∀ x ∈ fieldsOf .SVC_ACC_ERR, u.rd x.f 0 0 0 = s.rd x.f 0 0 0) ∧
  (∀ s : State, s.boot.stage = .running → s.boot.cleared = true → s.pf2 = false → s.board.warmRst = true →
    ∃ u : State, exec (.warmRstN false) s = .next u.done ∧ ∀ x ∈ fieldsOf .SVC_ACC_ERR, u.rd x.f 0 0 0 = s.rd x.f 0 0 0)

/-- An access of a function to BAR2 that passes the gates takes the next number of the function: a read waits in the endpoint through a hinge, with the address its window gives, and a write likewise with its data; at PF2 a read completes at once with ones in every byte; a function without MSE gets Unsupported Request. A configuration read answers the register's value once the endpoint is ready and CRS before; a write of Command sets MSE and BME. Unmasking a vector whose message is held, with MSI-X on, bus mastering on and the function unmasked, sends it and clears its pending bit. -/
def Obligations.HostRequestsAreAnswered : Prop :=
  (∀ (s : State) (f : FnNo) (off len : Nat) (data : List Byte), s.Idle → s.hostGate f.val false = .ok → s.hinge.step ≠ 0 →
    (exec (.bar2Read f off len) s = .next { s.takeNo f.val with
      hostRds := [{ fn := f.val, no := (s.fnSt f.val).next, addr := s.winAddr f.val off, len := len, waiting := true, left := 0, got := [] }] }) ∧
    (exec (.bar2Write f off data) s = .next { s.takeNo f.val with
      hostWrs := [{ fn := f.val, no := (s.fnSt f.val).next, addr := s.winAddr f.val off, data := data }] })) ∧
  (∀ (s : State) (f : FnNo) (off len : Nat), s.Idle → s.hostGate f.val false = .ones →
    exec (.bar2Read f off len) s = .next ((s.takeNo f.val).emit (.hostData f.val (s.fnSt f.val).next (List.replicate len 0xFF) false))) ∧
  (∀ (s : State) (f : FnNo) (off len : Nat) (data : List Byte), s.Idle → s.linkUp = true → s.hostReady = true → (s.fnSt f.val).mse = false →
    exec (.bar2Read f off len) s = .next (s.emit (.hostUr f.val)) ∧ exec (.bar2Write f off data) s = .next (s.emit (.hostUr f.val))) ∧
  (∀ (s : State) (off : Nat) (v : BitVec 32), s.Idle → s.linkUp = true → s.hostReady = true → s.fnResetting 0 = false → s.cfgValue 0 off = some v →
    exec (.configurationRequest 0 off none) s = .next (s.emit (.config 0 (some v)))) ∧
  (∀ (s : State) (off : Nat) (w : Option (BitVec 32)), s.Idle → s.linkUp = true → s.hostReady = false →
    exec (.configurationRequest 0 off w) s = .next (s.emit (.config 0 none))) ∧
  (∀ (s : State) (v : BitVec 32), s.Idle → s.linkUp = true → s.hostReady = true → s.fnResetting 0 = false →
    ∃ t : State, exec (.configurationRequest 0 4 (some v)) s = .next t ∧ t.fnSt 0 = { s.fnSt 0 with mse := v.getLsbD 1, bme := v.getLsbD 2 } ∧
      (.config 0 (some 0)) ∈ t.out ∧ t = { s with fns := t.fns, msix := t.msix, out := t.out }) ∧
  (∀ (s : State) (f : FnNo) (vec : Fin 64) (k : Nat), s.Idle → s.msixKey f.val vec.val = some k → (s.msixAt k).pend = true → (s.fnSt f.val).msixEn = true →
    (s.fnSt f.val).fmask = false → (s.fnSt f.val).bme = true →
    ∃ t : State, exec (.msixUnmask f vec) s = .next t ∧ t.msixAt k = { s.msixAt k with masked := false, pend := false } ∧
      (.msix f.val vec.val (s.msixAt k).addr (s.msixAt k).data) ∈ t.out ∧ t = { s with msix := t.msix, out := t.out })

/-- FREEZE at the tick of TIME64 that CNT_FREEZE_AT holds freezes the bank and nothing else; THAW of a bank that exists lets it count again, and of one that does not is recorded in SVC_ACC_ERR and changes nothing else. FN_CNT_CFG of a function with a casement, written with ENABLE 0, frees what the slot held and takes the fields written; with ENABLE 1, a listed event that carries a casement, a permitted bank and a free counter, the slot holds the lowest free counter of the bank, which is set up for the event, counts from 0 and, for a casement other than 0, only the casement's own events; where no counter is free or permitted, ALLOC_ERR is set. An event code that is not listed is discarded with the reason recorded. -/
def Obligations.CountersFreezeAndAllocate : Prop :=
  (∀ (s : State) (d : Fin 8), s.Idle → Tab.get false s.freezeArm d.val = true → s.rd .CNT_FREEZE_AT_TICK d.val 0 0 ≤ s.time64 →
    ∃ t : State, exec (.freeze d) s = .next t ∧ t.rd .CNT_CTRL_FROZEN d.val 0 0 = 1 ∧ Tab.get false t.freezeArm d.val = false ∧
      s.RegsBut t [.CNT_CTRL_FROZEN] ∧ t = { s with regs := t.regs, freezeArm := t.freezeArm }) ∧
  (∀ (s : State) (d : Fin 8), s.Idle →
    (s.bankIn d.val = true → exec (.thaw d) s = .next (s.wr .CNT_CTRL_FROZEN d.val 0 0 0)) ∧
    (s.bankIn d.val = false → ∃ t : State, exec (.thaw d) s = .next t ∧ t.rd .SVC_ACC_ERR_VALID 0 0 0 ≠ 0 ∧
      s.RegsBut t ((fieldsOf .SVC_ACC_ERR).map (·.f)) ∧ t = { s with regs := t.regs })) ∧
  (∀ (s : State) (f : FnNo) (k : Fin 64) (v : BitVec 32) (c : Nat), s.Idle → s.casOfFn f.val = some c → eventListed (v.toNat % 256) = true →
    (v.getLsbD 27 = false → ∃ t : State, exec (.fnCntCfg f k v) s = .next t ∧ t.slotHolds f.val k.val = none ∧ t.rd .FN_CNT_CFG_ENABLE f.val k.val 0 = 0 ∧
      t.rd .FN_CNT_CFG_EVENT f.val k.val 0 = v.toNat % 256 ∧ t.rd .FN_CNT_CFG_BANK f.val k.val 0 = v.toNat / 2 ^ 29 ∧
      t = { s with regs := t.regs, slots := t.slots }) ∧
    (∀ n, v.getLsbD 27 = true → s.slotHolds f.val k.val = none → s.freeCounter (v.toNat / 2 ^ 29) = some n → permBank (s.permOf c) (v.toNat / 2 ^ 29) = true →
      s.bankIn (v.toNat / 2 ^ 29) = true → s.heldIn f.val (v.toNat / 2 ^ 29) < permLimit (s.permOf c) (v.toNat / 2 ^ 29) → eventHasCas (v.toNat % 256) = true →
      ∃ t : State, exec (.fnCntCfg f k v) s = .next t ∧ t.slotHolds f.val k.val = some (32 * (v.toNat / 2 ^ 29) + n) ∧
        t.rd .CNT_CFG_EVENT (v.toNat / 2 ^ 29) n 0 = v.toNat % 256 ∧ t.rd .CNT_CFG_ENABLE (v.toNat / 2 ^ 29) n 0 = 1 ∧
        t.rd .CNT_VALUE_VALUE (v.toNat / 2 ^ 29) n 0 = 0 ∧
        (c ≠ 0 → t.rd .CNT_CFG_CAS_EN (v.toNat / 2 ^ 29) n 0 = 1 ∧ t.rd .CNT_CFG_CASEMENT (v.toNat / 2 ^ 29) n 0 = c) ∧
        t = { s with regs := t.regs, slots := t.slots }) ∧
    (v.getLsbD 27 = true → permBank (s.permOf c) (v.toNat / 2 ^ 29) = false →
      ∃ t : State, exec (.fnCntCfg f k v) s = .next t ∧ t.slotHolds f.val k.val = none ∧ t.rd .FN_CNT_CFG_ALLOC_ERR f.val k.val 0 = 1)) ∧
  (∀ (s : State) (f : FnNo) (k : Fin 64) (v : BitVec 32), s.Idle → (s.casOfFn f.val).isSome = true → eventListed (v.toNat % 256) = false →
    exec (.fnCntCfg f k v) s = .next (s.accErr (fnAccess f (0x1000 + 16 * k.val) 4) true 2))

/-- With record traffic flowing on a present hub and its door D5 open to the ring's next address: SAMPLE_RECORD takes the first finished record of the hub's sampler; where the ring is full DROPPED rises (saturating) and WP stays, otherwise WP moves on by one, wrapping at the ring's size. TRACE_RECORD, with eight records or more in the hub's FIFO, none on their way to it and room in the ring, takes the first eight and moves WP on by eight. TRC_CTRL of a present hub with a size in range and ENABLE 0 takes its fields; a size out of range is discarded with its reason recorded; and of an absent hub the write is recorded as one of no register. -/
def Obligations.RecordsReachTheirRings : Prop :=
  (∀ (s : State) (h : Hub) (r : SampleRec), s.Idle → s.recordsFlow = true → s.hubIn h.val = true →
    s.viaOpen (recordVia h.val .normal (s.rd .SMP_CTRL_CASEMENT h.val 0 0)) (s.rd .SMP_BASE_ADDR h.val 0 0 * 32 + 32 * s.rd .SMP_PTR_WP h.val 0 0) true = true →
    (Tab.get SamplerSt.reset s.samplers h.val).recs.find? (fun x => x.done) = some r →
    ((s.rd .SMP_PTR_WP h.val 0 0 + 1) % 2 ^ s.rd .SMP_CTRL_SIZE_LOG2 h.val 0 0 = s.rd .SMP_RP_RP h.val 0 0 →
      ∃ t : State, exec (.sampleRecord h) s = .next t ∧ t.rd .SMP_STATUS_DROPPED h.val 0 0 = min 4294967295 (s.rd .SMP_STATUS_DROPPED h.val 0 0 + 1) ∧
        (Tab.get SamplerSt.reset t.samplers h.val).recs = (Tab.get SamplerSt.reset s.samplers h.val).recs.erase r ∧
        s.RegsBut t [.SMP_STATUS_DROPPED] ∧ t = { s with regs := t.regs, samplers := t.samplers }) ∧
    ((s.rd .SMP_PTR_WP h.val 0 0 + 1) % 2 ^ s.rd .SMP_CTRL_SIZE_LOG2 h.val 0 0 ≠ s.rd .SMP_RP_RP h.val 0 0 →
      ∃ u : State, exec (.sampleRecord h) s = .next u.done ∧
        u.rd .SMP_PTR_WP h.val 0 0 = (s.rd .SMP_PTR_WP h.val 0 0 + 1) % 2 ^ s.rd .SMP_CTRL_SIZE_LOG2 h.val 0 0 ∧ u.fuse = s.fuse ∧ u.cfg = s.cfg ∧ u.clk = s.clk)) ∧
  (∀ (s : State) (h : Hub), s.Idle → s.recordsFlow = true → s.hubIn h.val = true → s.rd .TRC_CTRL_ENABLE h.val 0 0 = 1 → s.clusters = [] → s.pf2 = false →
    s.viaOpen (recordVia h.val .bulk (s.rd .TRC_CTRL_CASEMENT h.val 0 0)) (s.rd .TRC_BASE_ADDR h.val 0 0 * 256 + 32 * s.rd .TRC_PTR_WP h.val 0 0) true = true →
    (s.tracer h.val).dieFifo = [] → 8 ≤ (s.tracer h.val).fifo.length →
    (s.rd .TRC_PTR_WP h.val 0 0 + 2 ^ s.rd .TRC_CTRL_SIZE_LOG2 h.val 0 0 - s.rd .TRC_RP_RP h.val 0 0) % 2 ^ s.rd .TRC_CTRL_SIZE_LOG2 h.val 0 0 + 8
      < 2 ^ s.rd .TRC_CTRL_SIZE_LOG2 h.val 0 0 →
    ∃ u : State, exec (.traceRecord h) s = .next u.done ∧
      u.rd .TRC_PTR_WP h.val 0 0 = (s.rd .TRC_PTR_WP h.val 0 0 + 8) % 2 ^ s.rd .TRC_CTRL_SIZE_LOG2 h.val 0 0 ∧
      u.fuse = s.fuse ∧ u.cfg = s.cfg ∧ u.clk = s.clk) ∧
  (∀ (s : State) (h : Hub) (v : BitVec 32), s.Idle →
    (s.hubIn h.val = false → exec (.trcCtrl h v) s = .next (s.accErr (hubAccess h.val 0xB0000 4) true 1)) ∧
    (s.hubIn h.val = true → 6 ≤ v.toNat / 2 ^ 8 % 32 → v.toNat / 2 ^ 8 % 32 ≤ 24 → v.getLsbD 0 = false →
      ∃ t : State, exec (.trcCtrl h v) s = .next t ∧ t.rd .TRC_CTRL_ENABLE h.val 0 0 = 0 ∧ t.rd .TRC_CTRL_CASEMENT h.val 0 0 = v.toNat / 2 % 32 ∧
        t.rd .TRC_CTRL_CMDS h.val 0 0 = v.toNat / 2 ^ 6 % 2 ∧ t.rd .TRC_CTRL_SIZE_LOG2 h.val 0 0 = v.toNat / 2 ^ 8 % 32 ∧
        s.RegsBut t [.TRC_CTRL_ENABLE, .TRC_CTRL_CASEMENT, .TRC_CTRL_CMDS, .TRC_CTRL_SIZE_LOG2] ∧ t = { s with regs := t.regs }) ∧
    (s.hubIn h.val = true → v.toNat / 2 ^ 8 % 32 < 6 ∨ 24 < v.toNat / 2 ^ 8 % 32 → exec (.trcCtrl h v) s = .next (s.accErr (hubAccess h.val 0xB0000 4) true 2)))

/-! ## The structure image, windows and casements (chapters 02, 05, 06) -/

/-- QUIESCE writes IMG_QUIESCE and clears the IMG_QUIESCED bit of every pane it clears; QUIESCED sets the bit of a quiesced pane with nothing outstanding and changes nothing else. GO, with nothing staged or held: an image whose header, signature, frames and amended configuration pass, all of its affected panes quiesced, is staged (BUSY 1, STATE 5, KIND 1) and the running configuration stays; one that fails, in its header, signature or frames, in the configuration it would make, or with NOT_QUIESCED in an affected pane, leaves STATE 4 with its error, frame and hub, BUSY 0 and the running configuration. GO while BUSY is 1 is discarded and recorded. ABORT of a staged image leaves nothing of it staged, BUSY 0, STATE 4 with ABORTED, and the running configuration. -/
def Obligations.PartialImagesAreStagedOrRejected : Prop :=
  (∀ (s : State) (v : Word), s.Idle →
    ∃ t : State, exec (.quiesce v) s = .next t ∧ t.rd .IMG_QUIESCE_PANES 0 0 0 = v.toNat ∧
      t.rd .IMG_QUIESCED_PANES 0 0 0 = (s.rd .IMG_QUIESCED_PANES 0 0 0) &&& v.toNat ∧ t.cfg = s.cfg ∧ t.mem = s.mem ∧ t.fuse = s.fuse ∧
      (s.staged = [] → t = { s with regs := t.regs } ∧ s.RegsBut t [.IMG_QUIESCE_PANES, .IMG_QUIESCED_PANES])) ∧
  (∀ (s : State) (n : PaneNo), s.Idle → (s.rd .IMG_QUIESCE_PANES 0 0 0).testBit n.val = true → Tab.get 0 s.outPane n.val = 0 →
    exec (.quiesced n) s = .next (s.wr .IMG_QUIESCED_PANES 0 0 0 (s.rd .IMG_QUIESCED_PANES 0 0 0 ||| 2 ^ n.val))) ∧
  (∀ (s : State), s.Idle → s.staged = [] → s.rd .IMG_CTRL_BUSY 0 0 0 = 0 → s.rd .IMG_LAYOUT_CTRL_BUSY 0 0 0 = 0 →
    (∀ own c panes cs doors hubs, s.parseImage s.partialBytes 1 = .inr own → s.amended s.partialBytes own = .inr (.image c panes cs doors, hubs) →
      s.quiescedAll panes.toNat = true →
      ∃ t : State, exec .imgGo s = .next t ∧ t.imagesStaged = true ∧ t.rd .IMG_CTRL_BUSY 0 0 0 = 1 ∧ t.rd .IMG_STATUS_STATE 0 0 0 = 5 ∧
        t.rd .IMG_STATUS_KIND 0 0 0 = 1 ∧ t = { s with regs := t.regs, staged := t.staged }) ∧
    (∀ e hs, s.parseImage s.partialBytes 1 = .inl (e, hs) →
      ∃ t : State, exec .imgGo s = .next t ∧ t.rd .IMG_CTRL_BUSY 0 0 0 = 0 ∧ t.rd .IMG_STATUS_STATE 0 0 0 = 4 ∧ t.rd .IMG_STATUS_ERROR 0 0 0 = e.code ∧
        t.rd .IMG_STATUS_FRAME_IDX 0 0 0 = e.frame ∧ t.rd .IMG_STATUS_HUB 0 0 0 = e.hub ∧ t = { s with regs := t.regs }) ∧
    (∀ own e, s.parseImage s.partialBytes 1 = .inr own → s.amended s.partialBytes own = .inl e →
      ∃ t : State, exec .imgGo s = .next t ∧ t.rd .IMG_CTRL_BUSY 0 0 0 = 0 ∧ t.rd .IMG_STATUS_STATE 0 0 0 = 4 ∧ t.rd .IMG_STATUS_ERROR 0 0 0 = e.code ∧
        t.rd .IMG_STATUS_FRAME_IDX 0 0 0 = e.frame ∧ t.rd .IMG_STATUS_HUB 0 0 0 = e.hub ∧ t = { s with regs := t.regs }) ∧
    (∀ own c panes cs doors hubs, s.parseImage s.partialBytes 1 = .inr own → s.amended s.partialBytes own = .inr (.image c panes cs doors, hubs) →
      s.quiescedAll panes.toNat = false →
      ∃ t : State, exec .imgGo s = .next t ∧ t.rd .IMG_CTRL_BUSY 0 0 0 = 0 ∧ t.rd .IMG_STATUS_STATE 0 0 0 = 4 ∧ t.rd .IMG_STATUS_ERROR 0 0 0 = 0x30 ∧
        t = { s with regs := t.regs })) ∧
  (∀ (s : State), s.Idle → s.rd .IMG_CTRL_BUSY 0 0 0 = 1 → exec .imgGo s = .next (s.accErr (svcAccess 0x1004 4) true 3)) ∧
  (∀ (s : State), s.Idle → s.imagesStaged = true → s.rd .IMG_LAYOUT_CTRL_BUSY 0 0 0 = 0 →
    ∃ t : State, exec .imgAbort s = .next t ∧ t.imagesStaged = false ∧ t.rd .IMG_CTRL_BUSY 0 0 0 = 0 ∧ t.rd .IMG_STATUS_STATE 0 0 0 = 4 ∧
      t.rd .IMG_STATUS_ERROR 0 0 0 = 0x33 ∧ t = { s with regs := t.regs, staged := t.staged })

/-- TARGET_READY of the last hub that a staged change waits for sets its commit tick 200 ticks from now; of an earlier one it only records the hub. LAYOUT_SWITCH with the group and set of its register, a set that exists and is not active, its panes quiesced and no image staged, stages the switch, which waits for every hub, with BUSY 1. COMMIT_TICK at the tick makes the staged set the active one of its group, or the staged image the running configuration, and clears BUSY; before the tick of every change, and during a hinge, it does nothing. -/
def Obligations.StagedChangesCommitAtTheirTick : Prop :=
  (∀ (s : State) (x : Staged) (h : Hub), s.Idle → s.staged = [x] → x.tick = none → x.ready.contains h.val = false →
    ((∀ g ∈ s.hubs, g = h.val ∨ x.ready.contains g = true) →
      exec (.targetReady h) s = .next { s with staged := [{ x with ready := x.ready ++ [h.val], tick := some (s.now + 200) }] }) ∧
    ((∃ g ∈ s.hubs, g ≠ h.val ∧ x.ready.contains g = false) →
      exec (.targetReady h) s = .next { s with staged := [{ x with ready := x.ready ++ [h.val] }] })) ∧
  (∀ (s : State), s.Idle → s.imagesStaged = false → s.rd .IMG_LAYOUT_CTRL_BUSY 0 0 0 = 0 → s.rd .IMG_CTRL_BUSY 0 0 0 = 0 →
    s.rd .IMG_LAYOUT_CTRL_GROUP 0 0 0 < 16 → s.rd .IMG_LAYOUT_CTRL_SET 0 0 0 < 4 →
    (layoutIn s.layouts (s.rd .IMG_LAYOUT_CTRL_GROUP 0 0 0) (s.rd .IMG_LAYOUT_CTRL_SET 0 0 0)).isSome = true →
    s.activeSet (s.rd .IMG_LAYOUT_CTRL_GROUP 0 0 0) ≠ s.rd .IMG_LAYOUT_CTRL_SET 0 0 0 →
    s.quiescedAll (s.switchPanes (s.rd .IMG_LAYOUT_CTRL_GROUP 0 0 0) (s.rd .IMG_LAYOUT_CTRL_SET 0 0 0)) = true →
    ∃ t : State, exec .layoutSwitch s = .next t ∧ t.rd .IMG_LAYOUT_CTRL_BUSY 0 0 0 = 1 ∧ t.rd .IMG_LAYOUT_CTRL_ERROR 0 0 0 = 0 ∧
      t.staged = s.staged ++ [{ change := .layout (s.rd .IMG_LAYOUT_CTRL_GROUP 0 0 0) (s.rd .IMG_LAYOUT_CTRL_SET 0 0 0), ready := [], tick := none }] ∧
      s.RegsBut t [.IMG_LAYOUT_CTRL_BUSY, .IMG_LAYOUT_CTRL_ERROR] ∧ t = { s with regs := t.regs, staged := t.staged }) ∧
  (∀ (s : State) (c : RunCfg) (g st n : Nat) (r : List Nat), s.Idle → s.cfg = some c → s.staged = [{ change := .layout g st, ready := r, tick := some n }] →
    s.rd .IMG_CTRL_BUSY 0 0 0 = 0 →
    (s.hinge.step = 0 → n ≤ s.now → ∃ t : State, exec .commitTick s = .next t ∧ t.activeSet g = st ∧ (∀ k, k ≠ g → t.activeSet k = s.activeSet k) ∧
      t.frames = s.frames ∧ t.staged = [] ∧ t.rd .IMG_LAYOUT_CTRL_BUSY 0 0 0 = 0 ∧ t.rd .IMG_LAYOUT_CTRL_ERROR 0 0 0 = 0 ∧
      s.RegsBut t [.IMG_LAYOUT_CTRL_BUSY, .IMG_LAYOUT_CTRL_ERROR] ∧ t = { s with regs := t.regs, staged := [], cfg := t.cfg }) ∧
    (s.now < n ∨ s.hinge.step ≠ 0 → exec .commitTick s = .next s)) ∧
  (∀ (s : State), s.Idle → (∀ x ∈ s.staged, x.due s.now = false) ∨ s.hinge.step ≠ 0 → exec .commitTick s = .next s) ∧
  (∀ (s : State) (c : RunCfg) (ps : Word) (cs : BitVec 32) (ds : List (Nat × Nat)) (n : Nat) (r : List Nat), s.Idle →
    s.staged = [{ change := .image c ps cs ds, ready := r, tick := some n }] → s.rd .IMG_LAYOUT_CTRL_BUSY 0 0 0 = 0 → s.hinge.step = 0 → n ≤ s.now →
    ∃ t : State, exec .commitTick s = .next t ∧ t.cfg = some c ∧ t.staged = [] ∧ t.rd .IMG_CTRL_BUSY 0 0 0 = 0 ∧ t.rd .IMG_STATUS_STATE 0 0 0 = 3 ∧
      t.rd .IMG_ID_ID 0 0 0 = c.id.toNat ∧ t.mem = s.mem ∧ t.fuse = s.fuse ∧ t.now = s.now)

/-- A write of SVC_CASE_RST with casement c's bit, CASE_SELF_RST of a function of casement c, and the Function Level Reset of a virtual function of casement c each put casement c under reset where no drain is in force; the Function Level Reset also clears the function's bus mastering, memory space and MSI-X enables. The completion, with nothing of the casement outstanding, ends the reset, sets the casement's synchronisation counters and its window base to 0 and sets RESET_DONE of its function; while something is outstanding it does nothing. The running configuration, the fuses and the clocks stay. SVC_WIN_BASE takes the address bits [47:21] written and changes nothing else. -/
def Obligations.CasementResetStartsAndEnds : Prop :=
  (∀ (s : State) (v : BitVec 32) (c : Nat), c < 32 → v.getLsbD c = true → s.draining = false →
    ∃ u : State, exec (.casementReset v) s = .next u.done ∧ u.isResetting c = true ∧ u.cfg = s.cfg ∧ u.fuse = s.fuse ∧ u.clk = s.clk) ∧
  (∀ (s : State) (f : FnNo) (c : Nat), s.casOfFn f.val = some c → s.draining = false →
    (∃ u : State, exec (.caseSelfRst f) s = .next u.done ∧ u.isResetting c = true ∧ u.cfg = s.cfg ∧ u.fuse = s.fuse ∧ u.clk = s.clk) ∧
    (f ≠ 0 → s.linkUp = true → s.boot.stage = .running → (s.fnSt 0).vfEnable = true →
      ∃ u : State, exec (.flr f) s = .next u.done ∧ u.isResetting c = true ∧ (u.fnSt f.val).bme = false ∧ (u.fnSt f.val).mse = false ∧
        (u.fnSt f.val).msixEn = false ∧ u.cfg = s.cfg ∧ u.fuse = s.fuse ∧ u.clk = s.clk)) ∧
  (∀ (s : State), s.linkUp = true → s.hostReady = true → s.draining = false →
    ∃ u : State, exec (.flr 0) s = .next u.done ∧ u.isResetting 0 = true ∧ (∀ c < 32, (s.casementCfg c).isSome = true → u.isResetting c = true) ∧
      (u.fnSt 0).bme = false ∧ (u.fnSt 0).mse = false ∧ u.cfg = s.cfg ∧ u.fuse = s.fuse ∧ u.clk = s.clk) ∧
  (∀ (s : State) (c : Casement) (f : Nat), s.isResetting c.val = true → s.fnOfCas c.val = some f →
    (s.casIdle c.val = true → ∃ u : State, exec (.casementResetComplete c) s = .next u.done ∧ u.isResetting c.val = false ∧
      (∀ k < 16, u.rd .SYNC_CNT_VALUE c.val k 0 = 0) ∧ u.rd .SVC_WIN_BASE_BASE 0 c.val 0 = 0 ∧ u.rd .FN_EVENT_STATUS_RESET_DONE f 0 0 = 1 ∧
      u.cfg = s.cfg ∧ u.fuse = s.fuse ∧ u.clk = s.clk) ∧
    (s.casIdle c.val = false → exec (.casementResetComplete c) s = .next s.done)) ∧
  (∀ (s : State) (c : Casement) (v : Word), s.Idle →
    ∃ t : State, exec (.svcWinBase c v) s = .next t ∧ t.rd .SVC_WIN_BASE_BASE 0 c.val 0 = v.toNat / 2 ^ 21 % 2 ^ 27 ∧
      (∀ c' : Nat, c' ≠ c.val → t.rd .SVC_WIN_BASE_BASE 0 c' 0 = s.rd .SVC_WIN_BASE_BASE 0 c' 0) ∧ s.RegsBut t [.SVC_WIN_BASE_BASE] ∧ t = { s with regs := t.regs })

/-! ## The ring, doors, louvres and arbiters (chapters 01 and 07) -/

/-- RING_FORWARD of a port of hub h whose first request (an URGENT one before the others) has the neighbouring hub n as its destination, over a link in service, with no hinge: the request (which holds a credit of the door it is bound for) leaves the port and stands last in transit to door (g − n) mod 4 of hub n, g being the hub where it originated, and in no other door of hub n; that door is one of D1 to D3. -/
def Obligations.RingArrivalsUseTheDoorOfTheirOrigin : Prop :=
  ∀ (s : State) (h : Hub) (dir : RingDir) (r : Req),
    let n := portPeer h.val (match dir with | .up => 0 | .down => 1)
    let k := (r.home + 4 - n) % 4
    firstUrgent (s.portWaiters h.val (match dir with | .up => 0 | .down => 1)) = some r → s.hinge.step = 0 →
    (s.link (portLink h.val (match dir with | .up => 0 | .down => 1))).failed = false →
    (s.link (portLink h.val (match dir with | .up => 0 | .down => 1))).up = true →
    r.hub = n → r.home < 4 → r.home ≠ n →
    ∃ u : State, exec (.ringForward h dir) s = .next u.done ∧ (u.door n k).transit = (s.door n k).transit ++ [{ r with hopAt := 0 }] ∧ (k + n) % 4 = r.home % 4 ∧ 1 ≤ k ∧ k ≤ 3 ∧
      (∀ d, d ≠ k → (u.door n d).transit = (s.door n d).transit) ∧ (∀ x ∈ u.portWaiters h.val (match dir with | .up => 0 | .down => 1), x.id ≠ r.id)

/-- RING_FORWARD of a request for a further hub moves it to the same direction's port of the next hub; over a failed link it ends with HALTED. A retried flit that hub h sends ascending adds to the streak of the up link it faces, up to 16, and a good one ends it; one sent descending does the same for that link's other direction. RING_LINK_DOWN at a streak of 16 in either direction, or at the phase step of a hinge (in the tick of its switch), takes the link out of service and sets RING_LINK_DOWN on both its hubs; below 16 in both, and at no phase step, it does nothing. -/
def Obligations.RingLinksForwardRetryAndFail : Prop :=
  (∀ (s : State) (h : Hub) (dir : RingDir) (r : Req),
    let d := (match dir with | .up => 0 | .down => 1)
    firstUrgent (s.portWaiters h.val d) = some r → s.hinge.step = 0 →
    ((s.link (portLink h.val d)).failed = false → (s.link (portLink h.val d)).up = true → r.hub ≠ portPeer h.val d →
      ∃ u : State, exec (.ringForward h dir) s = .next u.done ∧ u.ringAt (portPeer h.val d) d = s.ringAt (portPeer h.val d) d ++ [{ r with hopAt := s.cyc + 1 }] ∧
        (∀ x ∈ u.portWaiters h.val d, x.id ≠ r.id) ∧ u.mem = s.mem ∧ u.fuse = s.fuse) ∧
    ((s.link (portLink h.val d)).failed = true →
      ∃ u : State, exec (.ringForward h dir) s = .next u.done ∧ (∃ a ∈ u.answers, a.r = r ∧ a.st = .halted) ∧
        (∀ x ∈ u.portWaiters h.val d, x.id ≠ r.id) ∧ u.mem = s.mem ∧ u.fuse = s.fuse)) ∧
  (∀ (s : State) (h : Hub) (ok : Bool), s.Idle →
    ((s.link h.val).up = true →
      exec (.ringFlitRetry h { dir := .up, good := ok }) s = .next (s.setLink h.val { s.link h.val with streak := if ok then 0 else min 16 ((s.link h.val).streak + 1) })) ∧
    ((s.link ((h.val + 3) % 4)).up = true →
      exec (.ringFlitRetry h { dir := .down, good := ok }) s =
        .next (s.setLink ((h.val + 3) % 4) { s.link ((h.val + 3) % 4) with streakBack := if ok then 0 else min 16 ((s.link ((h.val + 3) % 4)).streakBack + 1) })) ∧
    (∀ dir, (s.link (portLink h.val (match dir with | .up => 0 | .down => 1))).up = false → exec (.ringFlitRetry h { dir := dir, good := ok }) s = .next s)) ∧
  (∀ (s : State) (h : Hub), (s.link h.val).up = true →
    (16 ≤ (s.link h.val).streak ∨ 16 ≤ (s.link h.val).streakBack ∨ s.atPhaseStep = true → ∃ u : State, exec (.ringLinkDown h) s = .next u.done ∧ (u.link h.val).up = false ∧ (u.link h.val).failed = true ∧
      u.rd .HUB_INT_STATUS_RING_LINK_DOWN h.val 0 0 = 1 ∧ u.rd .HUB_INT_STATUS_RING_LINK_DOWN ((h.val + 1) % 4) 0 0 = 1 ∧
      s.RegsBut u [.HUB_INT_STATUS_RING_LINK_DOWN] ∧ u.mem = s.mem ∧ u.fuse = s.fuse) ∧
    ((s.link h.val).streak < 16 → (s.link h.val).streakBack < 16 → s.atPhaseStep = false → exec (.ringLinkDown h) s = .next s.done))

/-- DOOR_ARRIVAL at an unmasked door with CCLK running and no drain: the first request in transit, its stack open, enters the buffer last and leaves the transit; a masked door accepts nothing. DOOR_MASK and DOOR_UNMASK set and clear the mask of a present hub's door where its condition holds. DARB_PRIO of a present hub takes the 36 bits written, every pseudo-channel keeps the priorities it had to the end of this CCLK, and one that no latch holds uses the new ones in the next; of an absent hub the write is recorded as one of no register. LOUVRE_WINDOW of a valid slot whose window is over, at tier 0, the slew limiter not holding the rise: the remainders become the budget, 0 and the urgent share, and the next window starts where the last ended. -/
def Obligations.DoorsTakeArrivalsAndWindows : Prop :=
  (∀ (s : State) (h : Hub) (d : DoorNo) (latch : Nat) (r : Req) (rest : List Req), s.Idle → (s.door h.val d.val).transit = r :: rest →
    ((s.door h.val d.val).masked = false → s.draining = false → s.clk.run = true → s.knowsClosed h.val r.hub (stackOf r.pc) = false →
      ∃ t : State, exec (.doorArrival h d latch) s = .next t ∧ (t.door h.val d.val).transit = rest ∧
        (t.door h.val d.val).buf.map (·.r) = (s.door h.val d.val).buf.map (·.r) ++ [{ r with latch := latch }] ∧
        (∀ g k, (g, k) ≠ (h.val, d.val) → k < 9 → t.door g k = s.door g k) ∧ t = { s with doors := t.doors }) ∧
    ((s.door h.val d.val).masked = true → exec (.doorArrival h d latch) s = .next s)) ∧
  (∀ (s : State) (h : Hub) (d : DoorNo), s.Idle → s.hubIn h.val = true →
    (s.doorMustMask h.val d.val = true → exec (.doorMask h d) s = .next (s.setDoor h.val d.val { s.door h.val d.val with masked := true })) ∧
    (s.doorMustMask h.val d.val = false → s.draining = false →
      exec (.doorUnmask h d) s = .next (s.setDoor h.val d.val { s.door h.val d.val with masked := false }))) ∧
  (∀ (s : State) (h : Hub) (n : PaneNo) (v : Word), s.Idle →
    (s.hubIn h.val = false → exec (.darbPrio h n v) s = .next (s.accErr (hubAccess h.val (0x20000 + 8 * n.val) 8) true 1)) ∧
    (s.hubIn h.val = true → ∃ t : State, exec (.darbPrio h n v) s = .next t ∧ t.rd .DARB_PRIO_DOOR_PRIO h.val n.val 0 = v.toNat % 2 ^ 36 ∧
      (∀ k, k ≠ n.val → t.rd .DARB_PRIO_DOOR_PRIO h.val k 0 = s.rd .DARB_PRIO_DOOR_PRIO h.val k 0) ∧ s.RegsBut t [.DARB_PRIO_DOOR_PRIO] ∧
      t = { s with regs := t.regs, arbs := t.arbs } ∧
      ∀ p ∈ s.pcsOf h.val, (t.arb h.val p).hold = (s.arb h.val p).hold ∧ (∀ d r, t.prioOf h.val p d r = s.prioOf h.val p d r) ∧
        ((s.arb h.val p).hold.isLatch = false → (∀ x ∈ (s.arb h.val p).prioOld, x.2.2 ≤ s.cyc) → ∀ d r, r.pane = n.val →
          ({ t with clk := { t.clk with cclk := s.cyc + 1 } } : State).prioOf h.val p d r = v.toNat % 2 ^ 36 / 16 ^ d % 16))) ∧
  (∀ (s : State) (h : Hub) (d : DoorNo) (k : SlotNo), s.Idle → s.rd .LVR_SLOT_CFG_VALID h.val d.val k.val = 1 →
    (s.lvr h.val d.val k.val).start + (s.lvr h.val d.val k.val).len ≤ s.cyc → (s.lvr h.val d.val k.val).len ≠ 0 → s.clk.run = true → s.hinge.step < 5 →
    s.hubTier h.val = 0 → s.riseHeld = false →
    ∃ t : State, exec (.louvreWindow h d k) s = .next t ∧ t = { s with louvres := t.louvres } ∧ (t.lvr h.val d.val k.val).gen = s.rd .LVR_BUDGET_UNITS h.val d.val k.val ∧
      (t.lvr h.val d.val k.val).coll = 0 ∧ (t.lvr h.val d.val k.val).urg = s.rd .LVR_URGENT_UNITS h.val d.val k.val ∧
      (t.lvr h.val d.val k.val).start = (s.lvr h.val d.val k.val).start + (s.lvr h.val d.val k.val).len ∧
      (t.lvr h.val d.val k.val).len = s.rd .LVR_SLOT_WINDOW_CYCLES h.val d.val k.val)

/-- ADMIT of a populated pseudo-channel that nothing holds, not yet evaluated in this CCLK, with CCLK running and no hinge: the entry that wins rules 3 to 6 of R136 (URGENT first, then the pane's priority, then rotation), where the queue has an entry for its class and the door may still serve in this CCLK, enters the queue last and leaves its door; where no entry can win, the queue and every door buffer stay. -/
def Obligations.AdmitTakesTheWinner : Prop :=
  ∀ (s : State) (h : Hub) (p : Pc), s.pcIn h.val p.val = true → (s.arb h.val p.val).evalAt ≠ s.cyc + 1 → (s.arb h.val p.val).hold = .none →
    s.clk.run = true → s.hinge.step = 0 →
    (∀ d e v, s.winner h.val p.val (s.candidates h.val p.val) = some (d, e) → (s.pc h.val p.val).room s.cyc e.r = some v → s.doorCanServe h.val d p.val = true →
      ∃ u : State, exec (.doorAdmit h p) s = .next u.done ∧
        (u.pc h.val p.val).queue.map (·.r) = (s.pc h.val p.val).queue.map (·.r) ++ [e.r] ∧
        (∀ x ∈ (u.door h.val d).buf, x.r.id ≠ e.r.id) ∧ (u.arb h.val p.val).last = d ∧ (u.arb h.val p.val).evalAt = s.cyc + 1 ∧ u.mem = s.mem ∧ u.fuse = s.fuse) ∧
    (s.winner h.val p.val (s.candidates h.val p.val) = none →
      ∃ u : State, exec (.doorAdmit h p) s = .next u.done ∧ (u.pc h.val p.val).queue = (s.pc h.val p.val).queue ∧
        (∀ d < 9, (u.door h.val d).buf = (s.door h.val d).buf) ∧ (u.arb h.val p.val).evalAt = s.cyc + 1 ∧ u.mem = s.mem ∧ u.fuse = s.fuse)

/-! ## Pseudo-channels: slots, queue, refresh, training, stored data (chapters 08 to 10, 12 and 13) -/

/-- Where no work is under way, of a populated pseudo-channel: PC_DEBUG_HALT sets HALT, HALTED follows once no issued read is on its way, HALT_CLEAR clears both; PC_DEBUG_CMD takes a command that R186 accepts, and discards one it refuses with reason 3 (one is waiting) or 2 (its code is not defined, or its bank does not exist). Of a pseudo-channel that is not there each of the three writes is recorded as one of no register. SLOT_GRANT of a halted pseudo-channel whose queue and step pointers are empty, in a CCLK not yet granted: the injected command, where it is legal in its slot, goes out as the words of R183 and is no longer waiting; nothing else goes out. A second SLOT_GRANT in the same CCLK, or with CCLK stopped, issues nothing. -/
def Obligations.DebugHaltsAndInjects : Prop :=
  (∀ (s : State) (h : Hub) (p : Pc), s.Idle →
    (s.pcIn h.val p.val = true →
      exec (.pcDebugHalt h p) s = .next ((s.wr .PC_DEBUG_HALT h.val p.val 0 1).setPc h.val p.val { s.pc h.val p.val with halt := true }) ∧
      exec (.haltClear h p) s = .next ((s.wr .PC_DEBUG_HALT h.val p.val 0 0).setPc h.val p.val { s.pc h.val p.val with halt := false, halted := false })) ∧
    (s.pcIn h.val p.val = false →
      exec (.pcDebugHalt h p) s = .next (s.accErr (hubAccess h.val (0x100014 + 0x1000 * p.val) 4) true 1) ∧
      exec (.haltClear h p) s = .next (s.accErr (hubAccess h.val (0x100014 + 0x1000 * p.val) 4) true 1) ∧
      ∀ v, exec (.pcDebugCmd h p v) s = .next (s.accErr (hubAccess h.val (0x100018 + 0x1000 * p.val) 8) true 1)) ∧
    ((s.pc h.val p.val).halt = true → (s.pc h.val p.val).flight = [] →
      exec (.halted h p) s = .next (s.setPc h.val p.val { s.pc h.val p.val with halted := true })) ∧
    ((s.pc h.val p.val).halt = false ∨ (s.pc h.val p.val).flight ≠ [] → exec (.halted h p) s = .next s)) ∧
  (∀ (s : State) (h : Hub) (p : Pc) (v : Word), s.Idle → s.pcIn h.val p.val = true →
    ((s.pc h.val p.val).dbg = none → (((s.profileOf h.val p.val).bind fun f => f.cmd (v.toNat % 32)) = none ∨
        (v.getLsbD 5 = false ∧ s.banksOf h.val p.val ≤ v.toNat / 2 ^ 6 % 64)) →
      exec (.pcDebugCmd h p v) s = .next (s.accErr (hubAccess h.val (0x100018 + 0x1000 * p.val) 8) true 2)) ∧
    ((s.pc h.val p.val).dbg.isSome = true → exec (.pcDebugCmd h p v) s = .next (s.accErr (hubAccess h.val (0x100018 + 0x1000 * p.val) 8) true 3)) ∧
    (∀ f e, (s.pc h.val p.val).dbg = none → s.profileOf h.val p.val = some f → f.cmd (v.toNat % 32) = some e →
      (v.getLsbD 5 = true ∨ v.toNat / 2 ^ 6 % 64 < s.banksOf h.val p.val) →
      exec (.pcDebugCmd h p v) s = .next (s.setPc h.val p.val { s.pc h.val p.val with dbg := some v, dbgOps := v }))) ∧
  (∀ (s : State) (h : Hub) (p : Pc), s.hinge.step = 0 →
    ((s.pc h.val p.val).grantAt = s.cyc + 1 ∨ s.clk.run = false → exec (.slotGrant h p) s = .next s.done) ∧
    (∀ w raw, s.debugMay h.val p.val w.e.column = some (w, raw) → (s.pc h.val p.val).halt = true → (s.pc h.val p.val).queue = [] →
      (s.pc h.val p.val).ptrs = [] → (s.pc h.val p.val).wideNext = [] → (s.pc h.val p.val).sr = .awake → (s.pc h.val p.val).retry.length < 64 →
      (s.pc h.val p.val).grantAt ≠ s.cyc + 1 → s.clk.run = true → s.pcIn h.val p.val = true →
      ∃ u : State, exec (.slotGrant h p) s = .next u.done ∧
        u.out = s.out ++ [.stackCmd h.val p.val w.e.column (s.cmdWords h.val p.val w)] ∧
        (u.pc h.val p.val).dbg = none ∧ (u.pc h.val p.val).grantAt = s.cyc + 1 ∧ u.mem = s.mem ∧ u.fuse = s.fuse))

/-- Where no work is under way. AGE_CEILING: each queued request is marked aged exactly where the ceiling has passed since its admission; requests, their order and the banks stay, and no other pseudo-channel changes. TRANSOM_MERGE_WINDOW: each group of the bank whose 16 CCLK have run becomes rankable and nothing else changes. WAIT_STEP: a pointer whose COUNT has run moves to the next step, here a row command, and waits no longer; before that nothing changes. -/
def Obligations.QueueMarksAndWaits : Prop :=
  (∀ (s : State) (h : Hub) (p : Pc), s.Idle →
    ∃ t : State, exec (.ageCeiling h p) s = .next t ∧ t = { s with pcs := t.pcs } ∧ s.OtherPcs t h.val p.val ∧
      (t.pc h.val p.val).queue.map (fun e => (e.r, e.adm, e.door)) = (s.pc h.val p.val).queue.map (fun e => (e.r, e.adm, e.door)) ∧
      (∀ e ∈ (t.pc h.val p.val).queue, e.aged = decide (e.adm + s.ageCeil h.val p.val ≤ s.timerCyc)) ∧ (t.pc h.val p.val).banks = (s.pc h.val p.val).banks) ∧
  (∀ (s : State) (h : Hub) (p : Pc) (b : Bank), s.Idle →
    ∃ t : State, exec (.transomMergeWindow h p b) s = .next t ∧ t = { s with pcs := t.pcs } ∧ s.OtherPcs t h.val p.val ∧
      (t.pc h.val p.val).queue = (s.pc h.val p.val).queue ∧ (t.pc h.val p.val).banks = (s.pc h.val p.val).banks ∧
      (t.pc h.val p.val).groups.map (fun g => (g.id, g.bank, g.row, g.start)) = (s.pc h.val p.val).groups.map (fun g => (g.id, g.bank, g.row, g.start)) ∧
      (∀ g ∈ (t.pc h.val p.val).groups, g.bank = b.val → g.start + 16 ≤ s.timerCyc → g.rankable = true) ∧
      (∀ g ∈ (t.pc h.val p.val).groups, (g.bank ≠ b.val ∨ s.timerCyc < g.start + 16) → g ∈ (s.pc h.val p.val).groups)) ∧
  (∀ (s : State) (h : Hub) (p : Pc) (b : Bank) (q : Ptr), s.Idle → s.hinge.step = 0 → ((s.pc h.val p.val).bank b.val).ptr = some q → q.bank = b.val → q.waitTo ≠ 0 →
    (s.cyc < q.waitTo → exec (.waitStep h p b) s = .next s) ∧
    (∀ tbl n c a, q.waitTo ≤ s.cyc → q.op ≤ 5 → s.stepsOf h.val p.val = some tbl → tbl.steps[q.step]? = some (.wait n) → tbl.steps[q.step + 1]? = some (.row c a) →
      exec (.waitStep h p b) s = .next (s.setPc h.val p.val ((s.pc h.val p.val).setBank b.val
        { (s.pc h.val p.val).bank b.val with ptr := some { q with step := q.step + 1, waitTo := 0 } }))))

/-- Per-bank mode, where no work is under way. DUE at its tick raises the bank's debt by one; at POSTPONE_MAX the debt stays and OVERDUE is set; before its tick, or in self-refresh, it does nothing. REF_PB, no pause being due, no neighbour refresh pending and no hinge under way: the idle bank of highest debt, lowest number first, takes a pointer to the first step of its refresh. EMERGENCY_REFRESH, no replay, pause or other emergency refresh being under way: the lowest bank whose debt is at POSTPONE_MAX takes one, whether idle or not (a refresh of it that is loaded becomes the emergency one); a request's sequence in progress is set aside with the row open, EMERG counts, and a latch preempted sets PREEMPTED. The step table begins the refresh with a row command. -/
def Obligations.BankRefreshes : Prop :=
  (∀ (s : State) (h : Hub) (p : Pc) (b : Bank) (t0 : Nat), s.Idle → (s.pc h.val p.val).allBank = false → s.pcIn h.val p.val = true → b.val < s.banksOf h.val p.val →
    s.dueTick h.val p.val b.val 1 = some t0 →
    ((s.now < t0 ∨ (s.pc h.val p.val).sr = .inSr ∨ (s.pc h.val p.val).sr = .exiting) → exec (.due h p b) s = .next s) ∧
    (t0 ≤ s.now → (s.pc h.val p.val).sr ≠ .inSr → (s.pc h.val p.val).sr ≠ .exiting →
      ∃ t : State, exec (.due h p b) s = .next t ∧
        ((t.pc h.val p.val).bank b.val).debt = min (s.postponeMax h.val) (((s.pc h.val p.val).bank b.val).debt + 1) ∧
        ((t.pc h.val p.val).bank b.val).dueLast = some t0 ∧ (∀ c, c ≠ b.val → (t.pc h.val p.val).bank c = (s.pc h.val p.val).bank c) ∧
        (((s.pc h.val p.val).bank b.val).debt < s.postponeMax h.val → t = { s with pcs := t.pcs }) ∧
        (s.postponeMax h.val ≤ ((s.pc h.val p.val).bank b.val).debt → t.rd .PC_REF_STATUS_OVERDUE h.val p.val 0 = 1) ∧
        t.mem = s.mem ∧ t.fuse = s.fuse)) ∧
  (∀ (s : State) (h : Hub) (p : Pc) (b i : Nat), s.Idle → s.pcIn h.val p.val = true → (s.pc h.val p.val).allBank = false → (s.pc h.val p.val).refreshes = true →
    (s.pc h.val p.val).pauseDue = false → (s.pc h.val p.val).nbrPending = false → s.hinge.step = 0 →
    b < s.banksOf h.val p.val → (s.pc h.val p.val).idle b = true → 1 ≤ ((s.pc h.val p.val).bank b).debt →
    (∀ c < s.banksOf h.val p.val, (s.pc h.val p.val).idle c = true →
      ((s.pc h.val p.val).bank c).debt ≤ ((s.pc h.val p.val).bank b).debt ∧ (c < b → ((s.pc h.val p.val).bank c).debt < ((s.pc h.val p.val).bank b).debt)) →
    s.beginsAt h.val p.val 5 (if ((s.pc h.val p.val).bank b).row.isSome then 2 else 1) i →
    ∃ t : State, exec (.refPb h p) s = .next t ∧ t = { s with pcs := t.pcs } ∧ ((t.pc h.val p.val).bank b).ptr = some (newPtr 5 i 0 b 0 false) ∧
      (∀ c, c ≠ b → (t.pc h.val p.val).bank c = (s.pc h.val p.val).bank c)) ∧
  (∀ (s : State) (h : Hub) (p : Pc) (b i : Nat), s.Idle → s.pcIn h.val p.val = true → (s.pc h.val p.val).allBank = false → (s.pc h.val p.val).sr = .awake ∨ (s.pc h.val p.val).sr = .entering →
    (s.pc h.val p.val).pauseFrom = none → (s.pc h.val p.val).replay = none → (s.pc h.val p.val).wide = none → (s.pc h.val p.val).emergRuns = false → b < s.banksOf h.val p.val → ((s.pc h.val p.val).bank b).debt = s.postponeMax h.val →
    (∀ c < b, ((s.pc h.val p.val).bank c).debt ≠ s.postponeMax h.val) → s.beginsAt h.val p.val 5 (if ((s.pc h.val p.val).bank b).row.isSome then 2 else 1) i →
    ∃ t : State, exec (.emergencyRefresh h p) s = .next t ∧ t = { s with pcs := t.pcs, regs := t.regs } ∧
      (∀ q, ((s.pc h.val p.val).bank b).ptr = some q → q.op = 5 → ((t.pc h.val p.val).bank b).ptr = some { q with emerg := true }) ∧
      ((∀ q, ((s.pc h.val p.val).bank b).ptr = some q → q.op ≠ 5) → ((t.pc h.val p.val).bank b).ptr = some (newPtr 5 i 0 b 0 true)) ∧
      (∀ q, ((s.pc h.val p.val).bank b).ptr = some q → q.op ≤ 4 → ((s.pc h.val p.val).bank b).saved = none →
        ((t.pc h.val p.val).bank b).saved = some (q, ((s.pc h.val p.val).bank b).row)) ∧
      (∀ c, c ≠ b → (t.pc h.val p.val).bank c = (s.pc h.val p.val).bank c) ∧
      t.rd .PC_REF_CNT_EMERG h.val p.val 0 = min 65535 (s.rd .PC_REF_CNT_EMERG h.val p.val 0 + 1) ∧
      (((s.pc h.val p.val).bank b).latch.isSome = true → t.rd .PC_RMW_PREEMPTED h.val p.val 0 = 1) ∧
      s.RegsBut t [.PC_REF_CNT_EMERG, .PC_RMW_PREEMPTED])

/-- Where no work is under way. REF_AB, with debt owed, no hinge, and the queue empty or a due pause waiting for debts: every request's sequence is set aside and the pseudo-channel-wide pointer begins REF_AB. SR_ENTRY: debt 0, the queue empty, no pending row, no hinge and the idle timer run: the entry begins, as an automatic one. SR_EXIT: a request admitted to a pseudo-channel in automatic self-refresh begins SR_EXIT. ACT_TABLE_CLEAR: at each multiple of T every bank's table is emptied. NEIGHBOUR_REFRESH, the bank's sequence not standing in its way: the first pending row begins RFM (method 0), or an activate of the first neighbour still left; a row that has no neighbours is done at once. The step table begins each sequence with a row command. -/
def Obligations.WideRefreshAndDisturbance : Prop :=
  (∀ (s : State) (h : Hub) (p : Pc) (i : Nat), s.Idle → s.pcIn h.val p.val = true → (s.pc h.val p.val).allBank = true → (s.pc h.val p.val).refreshes = true →
    s.hinge.step = 0 →
    ((s.pc h.val p.val).queue = [] ∨ ((s.pc h.val p.val).pauseDue = true ∧ s.pauseOpen h.val p.val = false) →
      (∀ x ∈ (s.pc h.val p.val).banks, x.2.yields = true ∧ x.2.nbr = []) → 1 ≤ (s.pc h.val p.val).maxDebt → s.beginsAt h.val p.val 6 0 i →
      ∃ t : State, exec (.refAb h p) s = .next t ∧ t = { s with pcs := t.pcs } ∧ s.OtherPcs t h.val p.val ∧
        (t.pc h.val p.val).wide = some (newPtr 6 i 0 0 0 false) ∧ (t.pc h.val p.val).queue = (s.pc h.val p.val).queue ∧
        ∀ b, (t.pc h.val p.val).bank b = ((s.pc h.val p.val).bank b).setAside) ∧
    ((s.pc h.val p.val).queue = [] → (s.pc h.val p.val).nbrPending = false → (s.pc h.val p.val).maxDebt = 0 → s.clk.run = true →
      (s.pc h.val p.val).idleFrom + Config.usTicks (((s.refreshCfg h.val).map (·.srIdleUs)).getD 0) ≤ s.now →
      exec (.srEntry h p) s = .next (s.setPc h.val p.val { s.pc h.val p.val with sr := .entering, srAuto := true }))) ∧
  (∀ (s : State) (h : Hub) (p : Pc) (i : Nat), s.Idle → (s.pc h.val p.val).srAuto = true → (s.pc h.val p.val).queue ≠ [] → (s.pc h.val p.val).sr = .inSr →
    (s.pc h.val p.val).wide = none → s.clk.run = true → s.beginsAt h.val p.val 10 0 i →
    ∃ t : State, exec (.srExit h p) s = .next t ∧ t = { s with pcs := t.pcs } ∧ s.OtherPcs t h.val p.val ∧
      t.pc h.val p.val = { s.pc h.val p.val with wide := some (newPtr 10 i 0 0 0 false) }) ∧
  (∀ (s : State) (h : Hub) (p : Pc) (c : Nat), s.Idle → (s.pc h.val p.val).clearFrom = some c →
    (c + s.window h.val p.val ≤ s.now → ∃ t : State, exec (.actTableClear h p) s = .next t ∧ t = { s with pcs := t.pcs } ∧ s.OtherPcs t h.val p.val ∧
      (t.pc h.val p.val).clearLast = some (c + s.window h.val p.val) ∧
      (∀ b, (t.pc h.val p.val).bank b = { (s.pc h.val p.val).bank b with acts := List.replicate 32 none })) ∧
    (s.now < c + s.window h.val p.val → exec (.actTableClear h p) s = .next s)) ∧
  (∀ (s : State) (h : Hub) (p : Pc) (b : Bank) (d : DisturbCfg) (row i : Nat) (rows : List Nat), s.Idle → s.disturbCfg h.val = some d →
    ((s.pc h.val p.val).bank b.val).nbr = row :: rows → (s.pc h.val p.val).mitigates = true → s.nbrMet h.val p.val b.val = false →
    let runs (op r : Nat) (left : Option (List Nat)) : Prop := s.beginsAt h.val p.val op (if ((s.pc h.val p.val).bank b.val).row.isSome then 2 else 1) i →
      ∃ t : State, exec (.neighbourRefresh h p b) s = .next t ∧ t = { s with pcs := t.pcs } ∧ s.OtherPcs t h.val p.val ∧
        (t.pc h.val p.val).bank b.val = { ((s.pc h.val p.val).bank b.val).setAside with ptr := some (newPtr op i 0 b.val r false), nbrLeft := left } ∧
        (∀ c, c ≠ b.val → (t.pc h.val p.val).bank c = (s.pc h.val p.val).bank c)
    (d.method = 0 → runs 7 row ((s.pc h.val p.val).bank b.val).nbrLeft) ∧
    (d.method ≠ 0 → (∀ n ns, ((s.pc h.val p.val).bank b.val).nbrLeft = some (n :: ns) → runs 8 n (some (n :: ns))) ∧
      (∀ a, ((s.pc h.val p.val).bank b.val).nbrLeft = none → s.adjacencyOf h.val p.val = some a →
        (∀ n ns, a.neighbours row (s.rowsOf h.val p.val) d.radius = n :: ns → runs 8 n (some (n :: ns))) ∧
        (a.neighbours row (s.rowsOf h.val p.val) d.radius = [] →
          ∃ t : State, exec (.neighbourRefresh h p b) s = .next t ∧ t = { s with pcs := t.pcs, regs := t.regs } ∧ s.OtherPcs t h.val p.val ∧
            (t.pc h.val p.val).bank b.val = { (s.pc h.val p.val).bank b.val with nbr := rows, nbrLeft := none } ∧
            (∀ c, c ≠ b.val → (t.pc h.val p.val).bank c = (s.pc h.val p.val).bank c) ∧
            t.rd .PC_NBR_CNT_NBR h.val p.val 0 = min 65535 (s.rd .PC_NBR_CNT_NBR h.val p.val 0 + 1) ∧
            s.RegsBut t [.PC_NBR_CNT_NBR, .CNT_VALUE_VALUE, .CNT_CFG_OVF]))))

/-- Where no work is under way. START of a populated pseudo-channel, where R226 allows it, starts the generator with the step, burst count, pattern and seed of its registers and sets BUSY; elsewhere it sets ERROR; of a pseudo-channel that is not there the write is recorded as one of no register. COMPARE_DONE of a pattern run marks each lane with errors that the pseudo-channel has, adds its bit errors, at most 8 for each burst, to PC_TRN_ERR_CNT, and ends the run; with no run it does nothing. RETRAIN_DUE at its tick makes the pause due. RETRAIN_PAUSE begins it, with CLIPPED where it is cut short, and sets the requests' sequences aside. RETRAIN_PAUSE_END after its length and its exit sequence moves the data lanes' delays by at most one code; with no centre error and no lane far from its trained value COUNT rises, the next pause counts from this one's start, no failure is held; with a centre error it sets LAST_FAIL, retries a millisecond after the start, and a second failure in a row halts the pseudo-channel. -/
def Obligations.TrainingAndPauses : Prop :=
  (∀ (s : State) (h : Hub) (p : Pc), s.Idle →
    (s.pcIn h.val p.val = false → exec (.trnStart h p) s = .next (s.accErr (hubAccess h.val (0x100300 + 0x1000 * p.val) 4) true 1)) ∧
    (s.pcIn h.val p.val = true → s.trnAllowed h.val p.val s.phase = true → exec (.trnStart h p) s = .next ((s.setPc h.val p.val { s.pc h.val p.val with
      trnGen := some { step := s.rd .PC_TRN_CTRL_STEP h.val p.val 0, start := s.cyc, bursts := s.rd .PC_TRN_COUNT_BURSTS h.val p.val 0,
                       kind := s.rd .PC_TRN_PAT_KIND h.val p.val 0, invert := s.rd .PC_TRN_PAT_INVERT h.val p.val 0 == 1,
                       seed := s.rd .PC_TRN_SEED_SEED h.val p.val 0 } }).wr .PC_TRN_CTRL_BUSY h.val p.val 0 1)) ∧
    (s.pcIn h.val p.val = true → s.trnAllowed h.val p.val s.phase = false →
      ∃ t : State, exec (.trnStart h p) s = .next t ∧ t.rd .PC_TRN_CTRL_ERROR h.val p.val 0 = 1 ∧ s.RegsBut t [.PC_TRN_CTRL_ERROR] ∧ t = { s with regs := t.regs })) ∧
  (∀ (s : State) (h : Hub) (p : Pc) (c : CompareRes), s.Idle →
    let bad := c.errs.filter fun e => (trainedLanes p.val).contains e.1 && e.2 != 0
    (∀ r, (s.pc h.val p.val).trnGen = some r →
      ∃ t : State, exec (.compareDone h p c) s = .next t ∧ t = { s with regs := t.regs, pcs := t.pcs } ∧ s.OtherPcs t h.val p.val ∧
        t.pc h.val p.val = { s.pc h.val p.val with trnGen := none } ∧
        t.rd .PC_TRN_CTRL_BUSY h.val p.val 0 = (if (s.pc h.val p.val).trnRun.isSome then 1 else 0) ∧
        s.RegsBut t [.PC_TRN_CTRL_BUSY, .PC_TRN_ERR_MAP_LANES, .PC_TRN_ERR_CNT_COUNT] ∧
        (∀ l, (t.rd .PC_TRN_ERR_MAP_LANES h.val p.val 0).testBit l = true ↔ (s.rd .PC_TRN_ERR_MAP_LANES h.val p.val 0).testBit l = true ∨ ∃ e ∈ bad, e.1 = l) ∧
        (bad ≠ [] → t.rd .PC_TRN_ERR_CNT_COUNT h.val p.val 0 =
          min 4294967295 (s.rd .PC_TRN_ERR_CNT_COUNT h.val p.val 0 + (bad.map fun e => min (8 * r.bursts) e.2).sum))) ∧
    ((s.pc h.val p.val).trnGen = none → (s.pc h.val p.val).trnRun = none → exec (.compareDone h p c) s = .next s)) ∧
  (∀ (s : State) (h : Hub) (p : Pc), s.Idle → (s.pc h.val p.val).sr = .awake → (s.pc h.val p.val).refStart ≠ none → (s.pc h.val p.val).trnHalted = false →
    (s.pauseTick h.val p.val ≤ s.now → exec (.retrainDue h p) s = .next (s.setPc h.val p.val { s.pc h.val p.val with pauseDue := true })) ∧
    (s.now < s.pauseTick h.val p.val → exec (.retrainDue h p) s = .next s)) ∧
  (∀ (s : State) (h : Hub) (p : Pc), s.Idle → s.pauseWanted h.val p.val = true → (s.pc h.val p.val).refreshes = true → (s.pc h.val p.val).halt = false →
    (s.pc h.val p.val).nbrPending = false → (∀ x ∈ (s.pc h.val p.val).banks, x.2.yields = true) →
    ∃ t : State, exec (.retrainPause h p) s = .next t ∧ (t.pc h.val p.val).pauseFrom = some s.now ∧ (t.pc h.val p.val).pauseLen = s.pauseFor h.val p.val ∧
      (t.pc h.val p.val).pauseDue = false ∧ (t.pc h.val p.val).wideNext = (s.pc h.val p.val).wideNext ++ [11, 13, 14] ∧
      (∀ b, (t.pc h.val p.val).bank b = ((s.pc h.val p.val).bank b).setAside) ∧ (t.pc h.val p.val).queue = (s.pc h.val p.val).queue ∧
      (s.pauseFor h.val p.val < s.rd .PC_RETRAIN_PAUSE h.val p.val 0 → t.rd .PC_RETRAIN_STATUS_CLIPPED h.val p.val 0 = 1) ∧
      s.RegsBut t [.PC_RETRAIN_STATUS_CLIPPED] ∧ s.OtherPcs t h.val p.val ∧ t = { s with regs := t.regs, pcs := t.pcs }) ∧
  (∀ (s : State) (h : Hub) (p : Pc) (st : Nat) (moves : List LaneMove), s.Idle → (s.pc h.val p.val).pauseFrom = some st →
    st + (s.pc h.val p.val).pauseLen ≤ s.now → (s.pc h.val p.val).wide = none → (s.pc h.val p.val).wideNext = [] →
    ((s.moveTrims h.val p.val moves).drifted h.val p.val = false →
      ∃ t : State, exec (.retrainPauseEnd h p moves false) s = .next t ∧ (t.pc h.val p.val).pauseFrom = none ∧
        (t.pc h.val p.val).pauseLast = st ∧ (t.pc h.val p.val).pauseRetryAt = none ∧ (t.pc h.val p.val).pauseFails = 0 ∧
        t.rd .PC_RETRAIN_STATUS_COUNT h.val p.val 0 = min 65535 (s.rd .PC_RETRAIN_STATUS_COUNT h.val p.val 0 + 1) ∧
        (∀ lane < 36, s.clk.hp < 5 → (t.trim h.val p.val lane s.clk.hp).delay = match moves.find? fun m => m.lane == lane with
          | some m => moveDelay (s.trim h.val p.val lane s.clk.hp).delay m.read
          | none => (s.trim h.val p.val lane s.clk.hp).delay) ∧
        s.RegsBut t [.PC_RETRAIN_STATUS_COUNT, .CNT_VALUE_VALUE, .CNT_CFG_OVF] ∧ s.OtherPcs t h.val p.val ∧
        t = { s with regs := t.regs, pcs := t.pcs, trims := t.trims, lanes := t.lanes }) ∧
    (∃ t : State, exec (.retrainPauseEnd h p moves true) s = .next t ∧ (t.pc h.val p.val).pauseFrom = none ∧ (t.pc h.val p.val).pauseRetryAt = some (st + 100000) ∧
      t.rd .PC_RETRAIN_STATUS_LAST_FAIL h.val p.val 0 = 1 ∧ (t.pc h.val p.val).trnHalted = ((s.pc h.val p.val).trnHalted || decide (1 ≤ (s.pc h.val p.val).pauseFails)) ∧
      t.mem = s.mem ∧ t.fuse = s.fuse))

/-- Where no work is under way. PARITY_ALERT of a channel whose profile has PARITY, none replaying: both its pseudo-channels hold a replay that starts now, with the rows open before the oldest command still held, in bank order, and every command still held; no pause goes on; with no PARITY nothing changes. An alert that ends the fourth replay in succession halts both. REPLAY, fewer than 64 commands being held: with the alert and PAR_LAT over and no emergency refresh due or under way, it issues the close of every row where it is legal; then the activate of the first row to restore; then the first held command, in its own words; each only where its slot is free. REPLAY_END once all is reissued: COUNT rises, STREAK is 0 and LAST_CCLK tells the length. -/
def Obligations.ParityAlertsReplay : Prop :=
  (∀ (s : State) (h : Hub) (n : Chan) (len : Nat), s.Idle →
    (∀ f, s.profileOf h.val (2 * n.val) = some f → f.parity = true → (s.pc h.val (2 * n.val)).replay = none → (s.pc h.val (2 * n.val + 1)).replay = none →
      ∃ t : State, exec (.parityAlert h { chan := n, cclk := len }) s = .next t ∧ t = { s with pcs := t.pcs, regs := t.regs } ∧ s.RegsBut t [.PC_REPLAY_STREAK] ∧
        ∀ p, p = 2 * n.val ∨ p = 2 * n.val + 1 →
        (let x := (s.retryTrim h.val p).pc h.val p
         (t.pc h.val p).replay = some { start := s.cyc, phase := 0, rows := byBank x.retryOpen, restore := byBank x.retryOpen, held := x.retry, alertTo := s.cyc + len }) ∧
        (t.pc h.val p).retry = [] ∧ (t.pc h.val p).pauseFrom = none ∧ (t.pc h.val p).queue = (s.pc h.val p).queue ∧ t.rd .PC_REPLAY_STREAK h.val p 0 = 0) ∧
    (∀ f, s.profileOf h.val (2 * n.val) = some f → f.parity = true → (s.pc h.val (2 * n.val)).replay.isSome = true → 3 ≤ s.rd .PC_REPLAY_STREAK h.val (2 * n.val) 0 →
      ∃ t : State, exec (.parityAlert h { chan := n, cclk := len }) s = .next t ∧ t.rd .HUB_INT_STATUS_PC_HALT h.val 0 0 = 1 ∧ t.mem = s.mem ∧ t.fuse = s.fuse ∧
        ∀ p, p = 2 * n.val ∨ p = 2 * n.val + 1 → (t.pc h.val p).replay = none ∧ (t.pc h.val p).trnHalted = true) ∧
    (∀ f, s.profileOf h.val (2 * n.val) = some f → f.parity = false → exec (.parityAlert h { chan := n, cclk := len }) s = .next s)) ∧
  (∀ (s : State) (h : Hub) (p : Pc) (f : ProfileCfg) (e : CmdEntry) (r : ReplaySt), s.Idle → s.profileOf h.val p.val = some f →
    let u := s.retryTrim h.val p.val
    (u.pc h.val p.val).replay = some r → (u.pc h.val p.val).retry.length < 64 →
    (r.phase = 0 → f.cmdByEffect 3 = some e →
      (u.replayWaited h.val p.val r = true → u.emergBank h.val p.val = none → (u.pc h.val p.val).emergRuns = false →
        (u.pc h.val p.val).slotFree s.cyc e.column = true → u.legal h.val p.val e.tclass none = true →
        ∃ t : State, exec (.replay h p) s = .next t ∧ (t.pc h.val p.val).replay = some { r with phase := 2, ready := true } ∧
          t.out = s.out ++ [.stackCmd h.val p.val e.column (u.cmdWords h.val p.val ⟨e, ⟨0, 0, 0, 0, 0⟩⟩)] ∧ t.mem = s.mem ∧ t.fuse = s.fuse) ∧
      ((u.pc h.val p.val).slotFree s.cyc e.column = false ∨ u.replayWaited h.val p.val r = false → exec (.replay h p) s = .next u)) ∧
    (∀ b row rest, r.phase ≠ 0 → r.restore = (b, row) :: rest → f.cmdByEffect 1 = some e →
      ((u.pc h.val p.val).slotFree s.cyc e.column = true → u.legal h.val p.val e.tclass (some b) = true →
        ∃ t : State, exec (.replay h p) s = .next t ∧ (t.pc h.val p.val).replay = some { r with restore := rest } ∧
          t.out = s.out ++ [.stackCmd h.val p.val e.column (u.cmdWords h.val p.val ⟨e, ⟨b, row, 0, 0, 0⟩⟩)] ∧ t.mem = s.mem ∧ t.fuse = s.fuse) ∧
      ((u.pc h.val p.val).slotFree s.cyc e.column = false → exec (.replay h p) s = .next u)) ∧
    (∀ y rest, r.phase ≠ 0 → r.restore = [] → r.held = y :: rest → f.cmd y.code = some e →
      ((u.pc h.val p.val).slotFree s.cyc e.column = true → u.legal h.val p.val e.tclass y.bank = true →
        ∃ t : State, exec (.replay h p) s = .next t ∧ (t.pc h.val p.val).replay = some { r with held := rest } ∧
          t.out = s.out ++ [.stackCmd h.val p.val e.column y.words] ∧ (y.raw = true ∨ e.effect ≠ 5 → t.mem = s.mem) ∧ t.fuse = s.fuse) ∧
      ((u.pc h.val p.val).slotFree s.cyc e.column = false → exec (.replay h p) s = .next u))) ∧
  (∀ (s : State) (h : Hub) (p : Pc) (r : ReplaySt), s.Idle → s.hinge.step = 0 → (s.pc h.val p.val).replay = some r → r.phase = 2 → r.restore = [] → r.held = [] →
    ∃ t : State, exec (.replayEnd h p) s = .next t ∧ (t.pc h.val p.val).replay = none ∧ t.rd .PC_REPLAY_STREAK h.val p.val 0 = 0 ∧
      t.rd .PC_REPLAY_COUNT h.val p.val 0 = min 65535 (s.rd .PC_REPLAY_COUNT h.val p.val 0 + 1) ∧ t.rd .PC_REPLAY_LAST_CCLK h.val p.val 0 = min 4095 (s.cyc - r.start) ∧
      s.RegsBut t [.PC_REPLAY_STREAK, .PC_REPLAY_COUNT, .PC_REPLAY_LAST_CCLK, .TRC_STATUS_LOST, .CNT_VALUE_VALUE, .CNT_CFG_OVF] ∧
      t = { s with regs := t.regs, pcs := t.pcs, tracers := t.tracers })

/-- For all 256 bits of data and every error value: the check code makes the sector decode clean with its data; an error in one data symbol or in one check symbol, however many of its bits, is corrected, and the decoder names that symbol and how many bits it corrected; the poison word decodes as POISON with zeros. -/
def Obligations.CodeCorrectsOneSymbol : Prop :=
  (∀ data : BitVec 256, decodeSector data (checkOf data) = (.clean, data)) ∧
  (∀ (data : BitVec 256) (j e : Nat), j < 32 → 0 < e → e < 256 → decodeSector (xorSymbol data j e) (checkOf data) = (.fixed j (popCountN 8 e), data)) ∧
  (∀ (data : BitVec 256) (i e : Nat), i < 4 → 0 < e → e < 256 →
    decodeSector data (checkOf data ^^^ BitVec.ofNat 32 (e * 256 ^ i)) = (.fixed (32 + i) (popCountN 8 e), data)) ∧
  decodeSector 0 poisonCheck = (.poison, 0)

/-- Storing a sector at a key leaves its data and its fresh check code there, the poison word where it is poisoned, and every byte outside the 36 of that sector as it was; the poison word then reads as POISON. -/
def Obligations.StoredSectorsReadBack : Prop :=
  ∀ (s : State) (key : Nat) (data : BitVec 256),
    (s.storeSector key data).storedData key = data ∧ (s.storeSector key data).storedCheck key = checkOf data ∧
    (s.storePoison key).readSector key [] = (.poison, 0) ∧
    (∀ a, a < key ∨ key + 36 ≤ a → memRead (s.storeSector key data).mem a = memRead s.mem a ∧ memRead (s.storePoison key).mem a = memRead s.mem a) ∧
    s.storeSector key data = { s with mem := (s.storeSector key data).mem }

/-- READ_RETURN with no hinge: the first read all of whose bursts have come leaves the queue, and its answer carries the data and the status that its decoded sectors give, or HALTED and no data where its way back crosses a ring link out of service; memory stays but for a sweep's rewrites; with no such read nothing changes. MERGE: the bursts of the first complete read-modify-write are taken, each sector is marked merged, a sector that decodes as uncorrectable or as POISON is marked for the poison word, and none is marked where all decode clean; with none complete nothing changes. BUCKET_LEAK at the leak timer's end lowers every level of a present hub by one, down to 0. -/
def Obligations.ReadsReturnAndMerge : Prop :=
  (∀ (s : State) (h : Hub) (p : Pc) (errs : List BurstError), s.hinge.step = 0 →
    (s.readReady h.val p.val = none → exec (.readReturn h p errs) s = .next s.done) ∧
    (∀ e, s.readReady h.val p.val = some e → e.drop = false →
      let l := decodeBursts (e.r.sectors.filterMap fun n => (s.pc h.val p.val).flight.find? fun b => b.req == e.r.id && b.sec == n) errs
      ∃ u : State, exec (.readReturn h p errs) s = .next u.done ∧ (∀ x ∈ (u.pc h.val p.val).queue, x.r.id ≠ e.r.id) ∧
        (s.routeUp e.r = true → ∃ a ∈ u.answers, a.r = e.r ∧ a.st = readStatus l ∧ a.data = gatherData l) ∧
        (s.routeUp e.r = false → ∃ a ∈ u.answers, a.r = e.r ∧ a.st = .halted ∧ a.data = 0) ∧
        (s.sweeps e.r = false → u.mem = s.mem) ∧ u.fuse = s.fuse ∧ u.now = s.now)) ∧
  (∀ (s : State) (h : Hub) (p : Pc) (errs : List BurstError), (s.mergeReady h.val p.val = none → exec (.merge h p errs) s = .next s.done) ∧
    ∀ e, s.mergeReady h.val p.val = some e →
    let l := decodeBursts ((s.pc h.val p.val).flight.filter fun b => b.req == e.r.id) errs
    ∃ u : State, exec (.merge h p errs) s = .next u.done ∧ (u.pc h.val p.val).flight = (s.pc h.val p.val).flight.filter (fun b => b.req != e.r.id) ∧
      (∀ x ∈ (u.pc h.val p.val).queue, x.r.id = e.r.id → (∀ y ∈ l, y.1 < 8 → x.merged.getLsbD y.1 = true) ∧
        (∀ y ∈ l, y.1 < 8 → (y.2.1 = .bad ∨ y.2.1 = .poison) → x.bad.getLsbD y.1 = true) ∧ ((∀ y ∈ l, y.2.1 = .clean) → x.bad = e.bad)) ∧
      u.mem = s.mem ∧ u.fuse = s.fuse) ∧
  (∀ (s : State) (h : Hub), s.Idle →
    (s.hubIn h.val = true → Tab.get 0 s.leakAt h.val + Config.msTicks (s.eccCfg h.val).leakMs ≤ s.now →
      ∃ t : State, exec (.bucketLeak h) s = .next t ∧ t = { s with levels := t.levels, leakAt := t.leakAt } ∧ (∀ p < 96, t.level h.val p = s.level h.val p - 1) ∧
        (∀ g p, g ≠ h.val → p < 96 → t.level g p = s.level g p)) ∧
    (s.hubIn h.val = false ∨ s.now < Tab.get 0 s.leakAt h.val + Config.msTicks (s.eccCfg h.val).leakMs → exec (.bucketLeak h) s = .next s))

/-! ## Hinges, power states, the 1500 ports and heat (chapters 11, 14 and 15) -/

/-- HINGE_REQUEST, no work under way: a hinge point that is not enabled sets ERROR 1; the present one, with no hinge running, ends at once with ERROR 0; another becomes the pending one; a number above 4 is out of range (reason 2). HINGE_START where R208 and R209 let it: CLAMPED is set where the cap moves the target; a target clamped to a point that is not enabled ends with ERROR 1; one clamped to the present hinge point ends at once; otherwise the hinge begins at step 1 with its old and new hinge point and its start tick; where they do not let it nothing changes. SWITCH_TICK at its tick: clocks run at the new hinge point, every pseudo-channel takes the new timing set with no history, step 8 follows; before it nothing changes. HINGE_RELEASE in step 8 once every pseudo-channel has exited, no command waiting: step 0, COUNT rises, LAST_NS tells its length. TIME64, fuses and stacks stay. -/
def Obligations.HingesRunTheirSteps : Prop :=
  (∀ (s : State) (n : Fin 8), s.Idle →
    (4 < n.val → exec (.hingeRequest n) s = .next (s.accErr (svcAccess 0x3020 4) true 2)) ∧
    (n.val ≤ 4 → ∃ t : State, exec (.hingeRequest n) s = .next t ∧ t = { s with regs := t.regs, hinge := t.hinge } ∧ t.rd .SVC_HINGE_CTRL_TARGET 0 0 0 = n.val ∧
      s.RegsBut t [.SVC_HINGE_CTRL_TARGET, .SVC_HINGE_STATUS_ERROR] ∧
      (s.hpEnabled n.val = false → t.rd .SVC_HINGE_STATUS_ERROR 0 0 0 = 1 ∧ t.hinge = s.hinge) ∧
      (s.hpEnabled n.val = true → t.rd .SVC_HINGE_STATUS_ERROR 0 0 0 = 0 ∧
        t.hinge = if s.hinge.step = 0 ∧ n.val = s.clk.hp then s.hinge else { s.hinge with pend := some n.val }))) ∧
  (∀ (s : State) (n : Nat), s.Idle → s.hinge.pend = some n →
    (s.hingeMayStart = false → exec .hingeStart s = .next s) ∧
    (s.hingeMayStart = true → s.clampHp n ≠ n → ∃ u : State, exec .hingeStart s = .next u.done ∧ u.rd .SVC_HINGE_STATUS_CLAMPED 0 0 0 = 1) ∧
    (s.hingeMayStart = true → s.hpEnabled (s.clampHp n) = false →
      ∃ t : State, exec .hingeStart s = .next t ∧ t.hinge = { s.hinge with pend := none, waiters := [] } ∧ t.rd .SVC_HINGE_STATUS_ERROR 0 0 0 = 1 ∧
        s.RegsBut t [.SVC_HINGE_STATUS_ERROR, .SVC_HINGE_STATUS_CLAMPED] ∧ t = { s with regs := t.regs, hinge := t.hinge }) ∧
    (s.hingeMayStart = true → s.hpEnabled (s.clampHp n) = true → s.clampHp n = s.clk.hp →
      ∃ t : State, exec .hingeStart s = .next t ∧ t.hinge = { s.hinge with pend := none, waiters := [] } ∧ t.rd .SVC_HINGE_STATUS_ERROR 0 0 0 = 0 ∧
        s.RegsBut t [.SVC_HINGE_STATUS_ERROR, .SVC_HINGE_STATUS_CLAMPED] ∧ t = { s with regs := t.regs, hinge := t.hinge }) ∧
    (s.hingeMayStart = true → s.hpEnabled (s.clampHp n) = true → s.clampHp n ≠ s.clk.hp → s.ringClear = false →
      ∃ t : State, exec .hingeStart s = .next t ∧ t.hinge = { s.hinge with pend := none, waiters := [], runners := s.hinge.waiters, was := s.clk.hp, target := s.clampHp n, startAt := s.now, step := 1 } ∧
        s.RegsBut t [.SVC_HINGE_STATUS_CLAMPED] ∧ t = { s with regs := t.regs, hinge := t.hinge })) ∧
  (∀ (s : State) (t0 : Nat), s.hinge.switchAt = some t0 → s.hinge.step = 6 →
    (s.now < t0 → exec .switchTick s = .next s.done) ∧
    (t0 ≤ s.now → ∃ u : State, exec .switchTick s = .next u.done ∧ u.clk = { s.clk with hp := s.hinge.target, run := true, kPhase := 0, fPhase := 0, tPhase := 0 } ∧
      u.hinge.step = 8 ∧ u.hinge.target = s.hinge.target ∧ u.hinge.startAt = s.hinge.startAt ∧ (∀ q ∈ s.allPcs, (u.pc q.1 q.2).tset = s.hinge.target ∧ (u.pc q.1 q.2).hist = []) ∧
      u.mem = s.mem ∧ u.fuse = s.fuse)) ∧
  (∀ (s : State) (moves : List PauseMoves) (failing : List (Hub × Pc)), s.hinge.step = 8 → (∀ q ∈ s.allPcs, s.exitedPc q.1 q.2 = true) → s.hinge.runners = [] → s.hinge.waiters = [] → s.hinge.pend = none → s.hinge.pwrTo = none →
    ∃ u : State, exec (.hingeRelease moves failing) s = .next u.done ∧ u.hinge.step = 0 ∧ u.hinge.doneAt = some s.now ∧
      u.rd .SVC_HINGE_STATUS_COUNT 0 0 0 = min 65535 (s.rd .SVC_HINGE_STATUS_COUNT 0 0 0 + 1) ∧
      u.rd .SVC_HINGE_TIME_LAST_NS 0 0 0 = min 1048575 (s.now - s.hinge.startAt) ∧ u.rd .SVC_HINGE_STATUS_ERROR 0 0 0 = 0 ∧
      u.clk = s.clk ∧ u.mem = s.mem ∧ u.fuse = s.fuse)

/-- Where no work is under way. CLUSTER_GATE of a populated die's cluster with no kernel and none waiting for it, gating enabled, CCLK running, the slew limiter not holding a fall: it is gated; with gating disabled nothing changes. CLUSTER_UNGATE of a gated cluster that holds a kernel: it runs no earlier than 64 KCLK from now. POWER_STATE_REQUEST (GO set): a STATE or RESUME_HP outside its range is discarded with its reason; SAVE and CMP_OFF on a package without the lowest hinge point, and CMP_OFF where it is not provided or the power bus is not connected, end with ERROR 1; the state the package is in ends with ERROR 0; a change to SAVE with clusters not gated sets BUSY and waits; CMP_OFF from SAVE with every MATRIX queue disabled turns the compute rails off, masks door 0 of every present die and shows CMP_OFF. -/
def Obligations.GatesAndPowerStates : Prop :=
  (∀ (s : State) (d : Cdie) (k : Fin 100), s.Idle → s.hinge.pwrTo = none → s.cdieIn d.val = true → s.clk.run = true →
    ((s.cluster d.val k.val).kernel = none → s.kernelQueued d.val k.val = false → (s.cluster d.val k.val).gated = false → s.rd .CMP_GATE_CFG_ENABLE d.val 0 0 = 1 → s.fallHeld = false →
      ∃ t : State, exec (.clusterGate d k) s = .next t ∧ (t.cluster d.val k.val).gated = true ∧ (∀ g j, j < 100 → (g, j) ≠ (d.val, k.val) → t.cluster g j = s.cluster g j) ∧
        s.RegsBut t [.TRC_STATUS_LOST] ∧ t = { s with clusters := t.clusters, tracers := t.tracers, regs := t.regs }) ∧
    (s.rd .CMP_GATE_CFG_ENABLE d.val 0 0 = 0 → exec (.clusterGate d k) s = .next s) ∧
    ((s.cluster d.val k.val).gated = true → (s.cluster d.val k.val).kernel.isSome = true → s.riseHeld = false →
      ∃ t : State, exec (.clusterUngate d k) s = .next t ∧ (t.cluster d.val k.val).gated = false ∧ (t.cluster d.val k.val).runAt = max (s.cluster d.val k.val).runAt (s.clk.kclk + 64) ∧
        (∀ g j, j < 100 → (g, j) ≠ (d.val, k.val) → t.cluster g j = s.cluster g j) ∧ s.RegsBut t [.TRC_STATUS_LOST] ∧ t = { s with clusters := t.clusters, regs := t.regs })) ∧
  (∀ (s : State) (v : BitVec 32), s.Idle → v.toNat % 4 = 3 ∨ 4 < v.toNat / 4 % 8 → exec (.powerStateRequest v) s = .next (s.accErr (svcAccess 0x3030 4) true 2)) ∧
  (∀ (s : State) (v : BitVec 32), s.Idle → v.toNat % 4 ≤ 2 → v.toNat / 4 % 8 ≤ 4 →
    let now := s.rd .SVC_PWR_STATUS_STATE 0 0 0
    (1 ≤ v.toNat % 4 → s.hpEnabled 4 = false →
      ∃ t : State, exec (.powerStateRequest v) s = .next t ∧ t.rd .SVC_PWR_STATUS_STATE 0 0 0 = now ∧ t.rd .SVC_PWR_STATUS_ERROR 0 0 0 = 1 ∧
        t = { s with regs := t.regs, hinge := { s.hinge with pwrTo := none } }) ∧
    (s.hpEnabled 4 = true →
    (v.toNat % 4 = now → (now = 2 → s.rd .SVC_PWR_CAP_CMP_OFF 0 0 0 ≠ 0 ∧ s.pmbusLive = true) →
      ∃ t : State, exec (.powerStateRequest v) s = .next t ∧ t.rd .SVC_PWR_STATUS_STATE 0 0 0 = now ∧ t.rd .SVC_PWR_STATUS_ERROR 0 0 0 = 0 ∧ t.rd .SVC_PWR_STATUS_BUSY 0 0 0 = 0 ∧
        t = { s with regs := t.regs, hinge := { s.hinge with pwrTo := none } }) ∧
    (v.toNat % 4 = 2 → s.rd .SVC_PWR_CAP_CMP_OFF 0 0 0 = 0 ∨ s.pmbusLive = false →
      ∃ t : State, exec (.powerStateRequest v) s = .next t ∧ t.rd .SVC_PWR_STATUS_STATE 0 0 0 = now ∧ t.rd .SVC_PWR_STATUS_ERROR 0 0 0 = 1 ∧
        t = { s with regs := t.regs, hinge := { s.hinge with pwrTo := none } }) ∧
    (v.toNat % 4 = 1 → now = 0 → s.allGated = false →
      ∃ t : State, exec (.powerStateRequest v) s = .next t ∧ t.rd .SVC_PWR_STATUS_BUSY 0 0 0 = 1 ∧ t.rd .SVC_PWR_STATUS_STATE 0 0 0 = 0 ∧
        t = { s with regs := t.regs, hinge := { s.hinge with pwrTo := some 1 } }) ∧
    (v.toNat % 4 = 2 → now = 1 → s.rd .SVC_PWR_CAP_CMP_OFF 0 0 0 = 1 → s.pmbusLive = true → s.matrixOff = true →
      ∃ t : State, exec (.powerStateRequest v) s = .next t ∧ t.rd .SVC_PWR_STATUS_STATE 0 0 0 = 2 ∧ t.rd .SVC_PWR_STATUS_BUSY 0 0 0 = 0 ∧ t.out = s.out ++ [.rails false] ∧
        (∀ d ∈ s.cdies, (t.door d 0).masked = true ∧ (t.aksal d).cdPwr = false) ∧
        s.RegsBut t [.SVC_PWR_CTRL_STATE, .SVC_PWR_CTRL_RESUME_HP, .SVC_PWR_STATUS_STATE, .SVC_PWR_STATUS_ERROR, .SVC_PWR_STATUS_BUSY])))

/-- Where no work is under way. PORT_OPERATION of an idle port with a readout due gives it to the readout; of a repair with operations left, no row of its pseudo-channel open, it takes one operation off (the programming of a hard repair begins with the second); in a hinge nothing changes. PROGRAM_STEP ends the programming after PGM_MS, not before. DIRECT_ACCESS of a stack present and halted, its port idle with no readout due: the buffer is shifted out and its low LEN bits are what the stack shifted in; a stack that is absent or not halted sets ERROR and nothing is shifted; of an absent hub the write is recorded as one of no register. -/
def Obligations.PortsServeTheirUsers : Prop :=
  (∀ (s : State) (h : Hub) (st : StackNo), s.Idle → (s.port h.val st.val).program = false →
    (s.hinge.step ≠ 0 → exec (.portOperation h st) s = .next s) ∧
    ((s.port h.val st.val).owner = 0 → (s.port h.val st.val).repair = none → s.hinge.step = 0 → s.readoutDue h.val st.val = true →
      exec (.portOperation h st) s = .next (s.setPort h.val st.val { s.port h.val st.val with owner := 1 })) ∧
    (∀ r, 2 ≤ (s.port h.val st.val).owner → (s.port h.val st.val).owner ≠ 6 → (s.port h.val st.val).repair = some r → s.hinge.step = 0 → (s.pc h.val r.pc).anyOpen = false → 1 < r.left →
      (r.kind = 2 → r.left = 2 → exec (.portOperation h st) s =
        .next (s.setPort h.val st.val { s.port h.val st.val with program := true, programAt := s.now, repair := some { r with left := 1 } })) ∧
      ((r.kind ≠ 2 ∨ r.left ≠ 2) → ∃ t : State, exec (.portOperation h st) s = .next t ∧ t = { s with ports := t.ports } ∧
        (t.port h.val st.val).repair = some { r with left := r.left - 1 } ∧ (t.port h.val st.val).owner = if s.readoutDue h.val st.val then 1 else repairOwner r.kind))) ∧
  (∀ (s : State) (h : Hub) (st : StackNo) (id : StackId), s.Idle → (s.port h.val st.val).program = true → s.stackId h.val st.val = some id →
    (s.now < (s.port h.val st.val).programAt + Config.msTicks id.pgmMs → exec (.programStep h st) s = .next s) ∧
    ((s.port h.val st.val).programAt + Config.msTicks id.pgmMs ≤ s.now → (s.port h.val st.val).direct = none →
      ∃ t : State, exec (.programStep h st) s = .next t ∧ t = { s with ports := t.ports } ∧ (t.port h.val st.val).program = false ∧ (t.port h.val st.val).repair = (s.port h.val st.val).repair)) ∧
  (∀ (s : State) (h : Hub) (inp : List Byte), s.Idle →
    let st := s.rd .HUB_1500_DIRECT_CTRL_STACK h.val 0 0
    let n := s.rd .HUB_1500_DIRECT_CTRL_LEN h.val 0 0
    (s.hubIn h.val = false → exec (.directAccess h inp) s = .next (s.accErr (hubAccess h.val 0x200110 4) true 1)) ∧
    (s.hubIn h.val = true → (3 ≤ st ∨ s.stackIn h.val st = false ∨ s.stackHalted h.val st = false) →
      ∃ t : State, exec (.directAccess h inp) s = .next t ∧ t.rd .HUB_1500_STATUS_ERROR h.val st 0 = 1 ∧ s.RegsBut t [.HUB_1500_STATUS_ERROR] ∧ t = { s with regs := t.regs }) ∧
    (s.hubIn h.val = true → st < 3 → s.stackIn h.val st = true → s.stackHalted h.val st = true → (s.port h.val st).owner = 0 → (s.port h.val st).repair = none → s.hinge.step = 0 → s.readoutDue h.val st = false → n ≤ 4096 →
      ∃ t : State, exec (.directAccess h inp) s = .next t ∧ t.out = s.out ++ [.shift h.val st (s.shiftBytes h.val)] ∧
        leN 512 (t.shiftBytes h.val) = leN 512 (s.shiftBytes h.val) / 2 ^ n * 2 ^ n + leN 512 inp % 2 ^ n ∧ t = { s with out := t.out, ports := t.ports, shiftBuf := t.shiftBuf }))

/-- TEMPERATURE_READOUT of a present stack whose port is free or reading out, with no hinge: the source holds the reading and its tick and is fresh; the first reading is the average; HOT of the refresh follows 85 and 82 degrees Celsius and STALE ends. DIE_READING holds the highest sensor from -40 to 150 degrees; with none left the source is stale and at HOT or above. STALE of a present stack whose reading is too old holds its tier at HOT or above and marks it for double refresh; of a younger reading, nothing. CLOSURE_ANNOUNCEMENT: the die knows what the stack's own hub knows. THROTTLE: a present die receives the level that its hub drives, and no other; it goes to the higher of that level and its own tier's action, but for a rise that the slew limiter holds back. -/
def Obligations.HeatIsReadAndActedOn : Prop :=
  (∀ (s : State) (h : Hub) (st : StackNo) (x : Int), (s.port h.val st.val).program = false → (s.port h.val st.val).owner ≤ 1 → s.hinge.step = 0 →
    s.stackIn h.val st.val = true → s.hubIn h.val = true →
    ∃ u : State, exec (.temperatureReadout h st x) s = .next u.done ∧
      (u.src (3 * h.val + st.val)).reading = x ∧ (u.src (3 * h.val + st.val)).at_ = some s.now ∧ (u.src (3 * h.val + st.val)).stale = false ∧
      ((s.src (3 * h.val + st.val)).at_ = none → (u.src (3 * h.val + st.val)).avg = x) ∧
      (u.rd .HUB_REF_CFG_HOT h.val 0 0).testBit st.val = (decide (85 < x) || ((s.rd .HUB_REF_CFG_HOT h.val 0 0).testBit st.val && decide (82 < x))) ∧
      (u.rd .HUB_REF_CFG_STALE h.val 0 0).testBit st.val = false ∧ u.mem = s.mem ∧ u.fuse = s.fuse) ∧
  (∀ (s : State) (d : DieNo) (l : List Int), l.length ≤ sensorsOf d.val →
    ∃ u : State, exec (.dieReading d l) s = .next u.done ∧ u.mem = s.mem ∧ u.fuse = s.fuse ∧
      ((∀ x ∈ l, x < -40 ∨ 150 < x) → (u.src (12 + d.val)).stale = true ∧ 2 ≤ (u.src (12 + d.val)).tier ∧ (u.src (12 + d.val)).reading = (s.src (12 + d.val)).reading) ∧
      (∀ x ∈ l, -40 ≤ x → x ≤ 150 → (∀ y ∈ l, y ≤ x ∨ 150 < y) → (u.src (12 + d.val)).reading = x ∧ (u.src (12 + d.val)).at_ = some s.now ∧ (u.src (12 + d.val)).stale = false)) ∧
  (∀ (s : State) (h : Hub) (st : StackNo), s.stackIn h.val st.val = true → s.hubIn h.val = true →
    (s.tooOld h.val st.val = false → exec (.stale h st) s = .next s.done) ∧
    (s.tooOld h.val st.val = true → ∃ u : State, exec (.stale h st) s = .next u.done ∧ (u.src (3 * h.val + st.val)).stale = true ∧
      (u.src (3 * h.val + st.val)).tier = max 2 (s.src (3 * h.val + st.val)).tier ∧ u.rd .THM_INT_STATUS_STALE h.val 0 0 = 1 ∧
      (u.rd .HUB_REF_CFG_STALE h.val 0 0).testBit st.val = true ∧ u.mem = s.mem ∧ u.fuse = s.fuse)) ∧
  (∀ (s : State) (d : DieNo) (h : Hub) (st : StackNo), s.Idle →
    ∃ t : State, exec (.closureAnnouncement d h st) s = .next t ∧ t = { s with closed := t.closed } ∧
      t.knowsClosed d.val h.val st.val = s.knowsClosed h.val h.val st.val ∧
      (∀ e g x, g < 4 → x < 3 → (e, g, x) ≠ (d.val, h.val, st.val) → t.knowsClosed e g x = s.knowsClosed e g x)) ∧
  (∀ (s : State) (d : Cdie) (l : Fin 8), s.Idle →
    (s.cdieIn d.val = true → l.val = s.throttleOut d.val →
      (s.throttleHeld d.val (s.throttleWanted d.val l.val) = false →
        exec (.throttle d l) s = .next (s.setAksal d.val { s.aksal d.val with level := s.throttleWanted d.val l.val, hubLevel := l.val, levelAt := s.clk.fclk })) ∧
      (s.throttleHeld d.val (s.throttleWanted d.val l.val) = true → exec (.throttle d l) s = .next (s.setAksal d.val { s.aksal d.val with hubLevel := l.val }))) ∧
    (s.cdieIn d.val = false ∨ l.val ≠ s.throttleOut d.val → exec (.throttle d l) s = .next s))

/-! ## The matrix cores (chapter 16) -/

/-- Where no work is under way and the core's next instruction is the one named. NOP passes on; LOOP with a count pushes its body with counter 0, with count 0 passes over the body; SETAG sets one field of an address generator; SETSB sets a base register from an argument, and ends the kernel with BAD_ALIGNMENT where that is not a multiple of 256; WAITS passes with no more than N streams outstanding and stalls otherwise; END ends the core once no stream is outstanding and stalls until then; SYNC passes once every core of the cluster has arrived or ended, and waits otherwise; TRACE passes on and leaves a record. An opcode that R296 does not list ends the kernel with BAD_COMMAND and is recorded if no earlier fault is. No other core changes. -/
def Obligations.SequencerInstructions : Prop :=
  ∀ (s : State) (k : CoreId) (c : CoreCtx), s.Idle →
    (s.ReadyFor k c 0x00 → ∃ t : State, exec (.coreNop k) s = .next t ∧ s.CoreLeaves t k (c.x.pass c.x.ip)) ∧
    (s.ReadyFor k c 0x01 → c.x.streams = [] → ∃ t : State, exec (.coreEnd k) s = .next t ∧ s.CoreLeaves t k { c.x with ended := true, atSync := false }) ∧
    (s.ReadyFor k c 0x01 → c.x.streams ≠ [] → exec (.coreEnd k) s = .next (s.coreStall c 6)) ∧
    (s.ReadyFor k c 0x02 → ∀ n, n = (if c.bits 8 1 = 1 then c.x.args.getD (c.bits 16 4) 0 else c.bits 16 16) →
      (n = 0 → ∃ t : State, exec (.coreLoop k) s = .next t ∧ s.CoreLeaves t k (c.x.pass (c.x.ip + c.bits 32 8))) ∧
      (n ≠ 0 → ∃ t : State, exec (.coreLoop k) s = .next t ∧
        s.CoreLeaves t k { c.x with ip := (c.x.ip + 1) % 512, loops := { first := c.x.ip + 1, last := c.x.ip + c.bits 32 8, count := n, i := 0 } :: c.x.loops })) ∧
    (s.ReadyFor k c 0x03 → ∃ t : State, exec (.setag k) s = .next t ∧
      s.CoreLeaves t k (({ c.x with ag := Tab.put 0 c.x.ag (5 * (c.bits 8 3 - 1) + c.bits 11 3) (c.signed 32 32) } : CoreSt).pass c.x.ip)) ∧
    (s.ReadyFor k c 0x04 → ∀ a, a = c.x.args.getD (c.bits 11 4) 0 % 2 ^ 48 →
      (a % 256 = 0 → ∃ t : State, exec (.setsb k) s = .next t ∧ s.CoreLeaves t k (({ c.x with sb := Tab.put 0 c.x.sb (c.bits 8 3) a } : CoreSt).pass c.x.ip)) ∧
      (a % 256 ≠ 0 → ∃ t : State, exec (.setsb k) s = .next t ∧ t.cores = s.cores ∧ ∀ y ∈ t.kernels, sameKernel y c.kn = true → y.stop = some .badAlignment)) ∧
    (s.ReadyFor k c 0x05 → c.x.streams.length ≤ c.bits 8 4 → ∃ t : State, exec (.waits k) s = .next t ∧ s.CoreLeaves t k (c.x.pass c.x.ip)) ∧
    (s.ReadyFor k c 0x05 → c.bits 8 4 < c.x.streams.length → exec (.waits k) s = .next (s.coreStall c 6)) ∧
    (s.ReadyFor k c 0x06 → ∀ m, m = (if c.x.atSync then c.x.syncs else c.x.syncs + 1) →
      ((∀ n < 64, n = k.core.val ∨ (s.core { posOf k with c := n }).ended = true ∨ m ≤ (s.core { posOf k with c := n }).syncs) →
        ∃ t : State, exec (.coreSync k) s = .next t ∧ s.CoreLeaves t k (({ c.x with atSync := false, syncs := m } : CoreSt).pass c.x.ip)) ∧
      (∀ n < 64, n ≠ k.core.val → (s.core { posOf k with c := n }).ended = false → (s.core { posOf k with c := n }).syncs < m →
        ∃ t : State, exec (.coreSync k) s = .next t ∧ (t.core (posOf k)).ip = c.x.ip ∧ (t.core (posOf k)).atSync = true ∧ (t.core (posOf k)).syncs = m ∧ (t.core (posOf k)).stall = 7 ∧
          s.OtherCores t k ∧ t = { s with cores := t.cores })) ∧
    (s.ReadyFor k c 0x07 → ∃ t : State, exec (.trace k) s = .next t ∧ (t.core (posOf k)).ip = (c.x.pass c.x.ip).ip ∧ (t.core (posOf k)).slots = c.x.slots ∧
      s.OtherCores t k ∧ s.RegsBut t [.TRC_STATUS_LOST] ∧ t = { s with cores := t.cores, samplers := t.samplers, clusters := t.clusters, regs := t.regs }) ∧
    (s.coreCtx (posOf k) = some c → knownOp c.op = false → ∃ t : State, exec (.coreNop k) s = .next t ∧ t = { s with kernels := t.kernels, regs := t.regs } ∧
      (∀ y ∈ t.kernels, sameKernel y c.kn = true → y.stop = some .badCommand) ∧ t.rd .CMP_CORE_FAULT_VALID k.die.val 0 0 ≠ 0 ∧
      (s.rd .CMP_CORE_FAULT_VALID k.die.val 0 0 = 0 → t.rd .CMP_CORE_FAULT_STATUS k.die.val 0 0 = 0x60 ∧ t.rd .CMP_CORE_FAULT_IP k.die.val 0 0 = c.x.ip ∧
        t.rd .CMP_CORE_FAULT_CLUSTER k.die.val 0 0 = k.cluster.val ∧ t.rd .CMP_CORE_FAULT_CORE k.die.val 0 0 = k.core.val))

/-- Where no work is under way, the core's next instruction is the one named, its slots exist, its unit is free, no slot awaits a write and DST awaits no read: MOVT copies, ZERO and FILL set, TRN transposes, and ADD, SUB, MUL, FMA, MAX, MIN, ABS, CMP, SEL, CVTI, IADD, SCL and ROWOP compute each of the 64 elements of DST from the elements of their sources, with the unit, the times and the poison that R296 and R304 give. Every other slot and every other core stays. -/
def Obligations.MoverAndElementwiseInstructions : Prop :=
  ∀ (s : State) (k : CoreId) (c : CoreCtx) (d a b : Nat), s.Idle →
    let A := (c.x.slot a).data
    let B := (c.x.slot b).data
    let D := (c.x.slot d).data
    let m0 := moverInsn [] false
    let m1 := moverInsn [(c.src1, 0)] false
    let mt := moverInsn [(c.src1, 0)] true
    let n1 := tileInsn [(c.src1, 0)] false
    let n2 := tileInsn [(c.src1, 0), (c.src2, 0)] false
    let n3 := tileInsn [(c.dst, 0), (c.src1, 0), (c.src2, 0)] false
    (s.ReadyFor k c 0x10 → s.OperandsAt c m1 d [a] → s.TileRun (.movt k) k c m1 d [a] fun v => v = A) ∧
    (s.ReadyFor k c 0x11 → s.OperandsAt c m0 d [] → s.TileRun (.zero k) k c m0 d [] fun v => v = 0) ∧
    (s.ReadyFor k c 0x12 → s.OperandsAt c m0 d [] → s.TileRun (.fill k) k c m0 d [] fun v => ∀ e < 64, (word32 v e).toNat = c.bits 32 32) ∧
    (s.ReadyFor k c 0x13 → s.OperandsAt c mt d [a] → s.TileRun (.trn k) k c mt d [a] fun v => ∀ i < 8, ∀ j < 8, word32 v (8 * i + j) = word32 A (8 * j + i)) ∧
    (s.ReadyFor k c 0x30 → s.OperandsAt c n2 d [a, b] → s.TileRun (.add k) k c n2 d [a, b] fun v => ∀ e < 64, word32 v e = add32 (word32 A e) (word32 B e)) ∧
    (s.ReadyFor k c 0x31 → s.OperandsAt c n2 d [a, b] → s.TileRun (.sub k) k c n2 d [a, b] fun v => ∀ e < 64, word32 v e = sub32 (word32 A e) (word32 B e)) ∧
    (s.ReadyFor k c 0x32 → s.OperandsAt c n2 d [a, b] → s.TileRun (.mul k) k c n2 d [a, b] fun v => ∀ e < 64, word32 v e = mul32 (word32 A e) (word32 B e)) ∧
    (s.ReadyFor k c 0x33 → s.OperandsAt c n3 d [d, a, b] → s.TileRun (.fma k) k c n3 d [d, a, b] fun v => ∀ e < 64, word32 v e = fma32 (word32 D e) (word32 A e) (word32 B e)) ∧
    (s.ReadyFor k c 0x34 → s.OperandsAt c n2 d [a, b] → s.TileRun (.max k) k c n2 d [a, b] fun v => ∀ e < 64, word32 v e = extreme32 true (word32 A e) (word32 B e)) ∧
    (s.ReadyFor k c 0x35 → s.OperandsAt c n2 d [a, b] → s.TileRun (.min k) k c n2 d [a, b] fun v => ∀ e < 64, word32 v e = extreme32 false (word32 A e) (word32 B e)) ∧
    (s.ReadyFor k c 0x36 → s.OperandsAt c n1 d [a] → s.TileRun (.abs k) k c n1 d [a] fun v => ∀ e < 64, word32 v e = abs32 (word32 A e)) ∧
    (s.ReadyFor k c 0x37 → s.OperandsAt c n2 d [a, b] → s.TileRun (.cmp k) k c n2 d [a, b] fun v => ∀ e < 64, word32 v e = cmp32 (c.bits 8 3) (word32 A e) (word32 B e)) ∧
    (s.ReadyFor k c 0x38 → s.OperandsAt c n3 d [d, a, b] → s.TileRun (.sel k) k c n3 d [d, a, b] fun v => ∀ e < 64, word32 v e = sel32 (word32 D e) (word32 A e) (word32 B e)) ∧
    (s.ReadyFor k c 0x3E → s.OperandsAt c n2 d [a, b] → s.TileRun (.rowop k) k c n2 d [a, b] fun v =>
      ∀ i < 8, ∀ j < 8, word32 v (8 * i + j) = rowOp (c.bits 8 2) (word32 A (8 * i + j)) (word32 B (8 * i))) ∧
    (s.ReadyFor k c 0x3F → s.OperandsAt c n1 d [a] → s.TileRun (.scl k) k c n1 d [a] fun v => ∀ e < 64, word32 v e = mul32 (word32 A e) (BitVec.ofNat 32 (c.src2 * 65536))) ∧
    (s.ReadyFor k c 0x42 → s.OperandsAt c n1 d [a] → s.TileRun (.cvti k) k c n1 d [a] fun v => ∀ e < 64, word32 v e = intTo32 (word32 A e).toInt) ∧
    (s.ReadyFor k c 0x44 → s.OperandsAt c n2 d [a, b] → s.TileRun (.iadd k) k c n2 d [a, b] fun v => ∀ e < 64, word32 v e = word32 A e + word32 B e)

/-- As before, for LUT, RCP, RSQ, RSUM, RMAX, CVT and UNPK (their sources' poison spreads to all of DST but for RCP and RSQ). And: every finite number of bf16, fp16, E4M3 and E5M2, and every int8 number from -127 to 127, converted to fp32 and back gives itself. RCP and RSQ give one of the neighbours that R299 allows, by a free value of log entry 10. -/
def Obligations.TableReductionAndConversionInstructions : Prop :=
  (∀ (s : State) (k : CoreId) (c : CoreCtx) (d a : Nat), s.Idle →
    let A := (c.x.slot a).data
    let w1 := slowInsn [(c.src1, 0)] false
    let ws := slowInsn [(c.src1, 0)] true
    (∀ r0 r1 r2, let n := slowInsn [(c.src1, 0), (c.src2, 0), (c.src2, 1), (c.src2, 2)] true;
      s.ReadyFor k c 0x39 → s.OperandsAt c n d [a, r0, r1, r2] → s.TileRun (.lut k) k c n d [a, r0, r1, r2] fun v =>
        ∀ e < 64, dec32 (word32 A e) ≠ .nan → ∀ p, p = lutPair (word32 A e) (word32 (c.x.slot r0).data 0) (word32 (c.x.slot r0).data 1) →
          let T := if p / 32 = 0 then (c.x.slot r1).data else (c.x.slot r2).data
          word32 v e = fma32 (word32 T (2 * (p % 32) + 1)) (word32 T (2 * (p % 32))) (word32 A e)) ∧
    (s.ReadyFor k c 0x3A → s.OperandsAt c w1 d [a] → s.TileRun (.rcp k) k c w1 d [a] fun v => ∀ e < 64, word32 v e = rcp32 (word32 A e)) ∧
    (s.ReadyFor k c 0x3B → s.OperandsAt c w1 d [a] → s.TileRun (.rsq k) k c w1 d [a] fun v => ∀ e < 64, word32 v e = rsq32 (word32 A e)) ∧
    (s.ReadyFor k c 0x3C → s.OperandsAt c ws d [a] → s.TileRun (.rsum k) k c ws d [a] fun v =>
      ∀ i < 8, ∀ j < 8, word32 v (8 * i + j) = sum32 false (Config.noResult (word32 A (8 * i)) 0) (rowTerms A i)) ∧
    (s.ReadyFor k c 0x3D → s.OperandsAt c ws d [a] → s.TileRun (.rmax k) k c ws d [a] fun v => ∀ i < 8, ∀ j < 8, word32 v (8 * i + j) = rowMax A i) ∧
    (let n := tileInsn [(c.src1, 0)] true;
      s.ReadyFor k c 0x41 → s.OperandsAt c n d [a] → s.TileRun (.unpk k) k c n d [a] fun v =>
        ∀ i < 8, ∀ j < 8, word32 v (8 * i + j) = widenFrom (c.bits 8 3) (if c.bits 8 3 < 2 then elem A 16 (16 * i + 8 * c.bits 11 2 + j) else elem A 8 (32 * i + 8 * c.bits 11 2 + j))) ∧
    (∀ b, let n : TileInsn := { unit := .tile, occupies := 8, usable := 12, reads := [(c.src1, 0), (c.src2, 0)], spread := true };
      s.ReadyFor k c 0x40 → c.bits 8 3 < 2 → s.OperandsAt c n d [a, b] → s.TileRun (.cvt k) k c n d [a, b] fun v =>
        ∀ i < 8, ∀ j < 16, elem v 16 (16 * i + j) = narrowTo (c.bits 8 3) (word32 (if j < 8 then A else (c.x.slot b).data) (8 * i + j % 8))) ∧
    (∀ a1 b0 b1, let n : TileInsn := { unit := .tile, occupies := 16, usable := 20, reads := [(c.src1, 0), (c.src1, 1), (c.src2, 0), (c.src2, 1)], spread := true };
      s.ReadyFor k c 0x40 → 2 ≤ c.bits 8 3 → s.OperandsAt c n d [a, a1, b0, b1] → s.TileRun (.cvt k) k c n d [a, a1, b0, b1] fun v =>
        ∀ i < 8, ∀ j < 8, elem v 8 (32 * i + j) = narrowTo (c.bits 8 3) (word32 A (8 * i + j)) ∧
          elem v 8 (32 * i + 8 + j) = narrowTo (c.bits 8 3) (word32 (c.x.slot a1).data (8 * i + j)) ∧
          elem v 8 (32 * i + 16 + j) = narrowTo (c.bits 8 3) (word32 (c.x.slot b0).data (8 * i + j)) ∧
          elem v 8 (32 * i + 24 + j) = narrowTo (c.bits 8 3) (word32 (c.x.slot b1).data (8 * i + j)))) ∧
  (∀ (t v : Nat), t < 4 → v < 2 ^ (formatOf t).width → v % 2 ^ ((formatOf t).width - 1) ≤ (formatOf t).top → narrowTo t (widenFrom t v) = v) ∧
  (∀ v : Nat, v < 256 → v ≠ 128 → narrowTo 4 (widenFrom 4 v) = v)

/-- Where no work is under way and the core's next instruction is the one named. MMA and MMA8 with their three slots in one feeder, the array free for 16 KCLK and for the spacing of the throttle level, the sources awaiting no write, and C awaiting nothing or being the one that the array last accumulated into: each of the 64 cells of C is the one that the exact sum (modulo 2^32 for integers) gives, poison spreads, and the array is taken; before the spacing has run the core stalls (reason 1 or 8). SGET, SPUT, SGETS, SPUTS at a memory address with no stream outstanding: the request leaves for the hub. STREAM_ARRIVAL of a running kernel's block: the slot takes the data and the marks, and of a sector: the slot's sector that the instruction named takes the data and its mark and the others stay; and the stream is over. -/
def Obligations.ArraysAndStreams : Prop :=
  (∀ (s : State) (k : CoreId) (c : CoreCtx) (d a b : Nat), s.Idle →
    let space := c.dst / 2 ^ 14
    let last := if space = 1 then c.x.arrA else c.x.arrB
    let prev := if space = 1 then c.x.accA else c.x.accB
    let gap := (135 - s.throttleLevel k.die.val) / (8 - s.throttleLevel k.die.val)
    let now := s.clk.kclk
    (space = 1 ∨ space = 2) → c.src1 / 2 ^ 14 = space → c.src2 / 2 ^ 14 = space →
    c.x.slotOf c.dst 0 = some d → c.x.slotOf c.src1 0 = some a → c.x.slotOf c.src2 0 = some b →
    (s.ReadyFor k c 0x20 → last ≠ 0 → now < last + 15 → exec (.mma k) s = .next (s.coreStall c 1)) ∧
    (s.ReadyFor k c 0x20 → last ≠ 0 → last + 15 ≤ now → now + 1 < last + gap → exec (.mma k) s = .next (s.coreStall c 8)) ∧
    (last = 0 ∨ (last + 15 ≤ now ∧ last + gap ≤ now + 1) → c.x.awaits a now = false → c.x.awaits b now = false →
      let may (zero : Bool) : Prop := (zero = false ∧ prev = some d) ∨ (c.x.awaits d now = false ∧ c.x.readDue d = false)
      let left (t : State) (zero : Bool) : Prop :=
        (∀ j, j ≠ d → (t.core (posOf k)).slot j = c.x.slot j) ∧ (t.core (posOf k)).ip = (c.x.pass c.x.ip).ip ∧
        ((t.core (posOf k)).slot d).poison = spreadPoison true ((if zero then [] else [c.x.slot d]) ++ [c.x.slot a, c.x.slot b]) ∧
        (space = 1 → (t.core (posOf k)).arrA = now + 1 ∧ (t.core (posOf k)).arrB = c.x.arrB) ∧ (space = 2 → (t.core (posOf k)).arrB = now + 1 ∧ (t.core (posOf k)).arrA = c.x.arrA) ∧
        (d, now + 24) ∈ (t.core (posOf k)).busy ∧ s.OtherCores t k ∧ s.RegsBut t [.CNT_VALUE_VALUE, .CNT_CFG_OVF] ∧
        t = { s with cores := t.cores, samplers := t.samplers, regs := t.regs }
      (s.ReadyFor k c 0x20 → may (c.bits 8 1 = 1) → ∃ t : State, exec (.mma k) s = .next t ∧ left t (c.bits 8 1 = 1) ∧
        ∀ i < 8, ∀ j < 8, word32 ((t.core (posOf k)).slot d).data (8 * i + j) =
          mmaCell true (c.bits 8 1 = 1) (c.bits 9 1) (c.bits 9 1) (c.x.slot a).data (c.x.slot b).data (c.x.slot d).data i j) ∧
      (s.ReadyFor k c 0x21 → may (c.bits 12 1 = 1) → ∃ t : State, exec (.mma8 k) s = .next t ∧ left t (c.bits 12 1 = 1) ∧
        ∀ i < 8, ∀ j < 8, word32 ((t.core (posOf k)).slot d).data (8 * i + j) =
          if c.bits 8 2 < 2 then mmaCell false (c.bits 12 1 = 1) (c.bits 8 2) (c.bits 10 2) (c.x.slot a).data (c.x.slot b).data (c.x.slot d).data i j
          else mmaIntCell (c.bits 12 1 = 1) (c.bits 8 2) (c.bits 10 2) (c.x.slot a).data (c.x.slot b).data (c.x.slot d).data i j))) ∧
  (∀ (s : State) (k : CoreId) (c : CoreCtx) (j : Nat), s.Idle → c.x.streams = [] → c.x.slotOf (c.bits 16 16) 0 = some j → c.x.awaits j s.clk.kclk = false →
    (s.ReadyFor k c 0x18 → c.streamAddr false < 2 ^ 47 → s.StreamRun (.sget k) k c 0 false false j) ∧
    (s.ReadyFor k c 0x19 → c.streamAddr false < 2 ^ 47 → s.StreamRun (.sput k) k c 2 true false j) ∧
    (s.ReadyFor k c 0x1A → c.streamAddr true < 2 ^ 47 → s.StreamRun (.sgets k) k c 1 false true j) ∧
    (s.ReadyFor k c 0x1B → c.streamAddr true < 2 ^ 47 → s.StreamRun (.sputs k) k c 3 true true j)) ∧
  (∀ (s : State) (k : CoreId) (kn : KernelSt) (x : StreamSt) (data : Block) (marks : BitVec 8),
    ((s.core (posOf k)).streams.find? fun y => y.arrived.isSome) = some x → x.arrived = some (data, marks) →
    s.kernelOn k.die.val k.cluster.val = some kn → kn.stop = none →
    ∃ u : State, exec (.streamArrival k) s = .next u.done ∧
      (x.sector = false → (u.core (posOf k)).slot x.slot = { data := data, poison := marks }) ∧
      (x.sector = true → ∀ n < 8, x.sec < 8 →
        elem ((u.core (posOf k)).slot x.slot).data 256 n = (if n = x.sec then elem data 256 0 else elem ((s.core (posOf k)).slot x.slot).data 256 n) ∧
        ((u.core (posOf k)).slot x.slot).poison.getLsbD n = (if n = x.sec then marks.getLsbD 0 else ((s.core (posOf k)).slot x.slot).poison.getLsbD n)) ∧
      (∀ j, j ≠ x.slot → (u.core (posOf k)).slot j = (s.core (posOf k)).slot j) ∧ (∀ y ∈ (u.core (posOf k)).streams, y.tag ≠ x.tag) ∧ u.mem = s.mem ∧ u.fuse = s.fuse)

/-- DISPATCH of a well-formed entry whose clusters are free, where kernels may start and no ready queue comes before this one in the rotation: the kernel is added and holds every cluster of its set; otherwise it waits. CLUSTER_CLEAR at its time empties the stores and counters of the cluster's 64 cores. TABLE_FETCH with the table and the arguments read without error: every core starts at instruction 0 with the table and the arguments, the last eight its own where PERCORE gives a record, and the cluster holds its table. KERNEL_COMPLETE of a kernel all of whose cores have ended: the kernel is gone, its clusters are free, and its command ends with the kernel's status. -/
def Obligations.KernelsRunAndComplete : Prop :=
  (∀ (s : State) (q : QueueId) (c : Cmd), s.Starts q c 0x10 (s.dispatchChecks q) →
    (s.clustersFree q.inst.val c = false ∨ s.dispatchOpen q.inst.val = false ∨ s.hasTurn q s.dispatchReady = false → exec (.dispatch q) s = .next s.done) ∧
    (s.clustersFree q.inst.val c = true → s.dispatchOpen q.inst.val = true → s.hasTurn q s.dispatchReady = true →
      ∃ u : State, exec (.dispatch q) s = .next u.done ∧ u.cmd q c.idx = some (s.begun q c) ∧
        (∃ kn : KernelSt, u.kernels = s.kernels ++ [kn] ∧ kn.die = q.inst.val ∧ kn.q = q.idx.val ∧ kn.idx = c.idx ∧ kn.first = c.kFirst ∧ kn.clusters = c.kClusters ∧ kn.table = c.kTable ∧ kn.count = c.kCount ∧ kn.stop = none) ∧
        (∀ i < c.kClusters, (u.cluster q.inst.val (c.kFirst + i)).kernel = some (q.idx.val, c.idx) ∧ (u.cluster q.inst.val (c.kFirst + i)).loaded = false) ∧ u.mem = s.mem ∧ u.fuse = s.fuse)) ∧
  (∀ (s : State) (d : Cdie) (k : Fin 100), s.Idle → (s.cluster d.val k.val).kernel.isSome = true → (s.cluster d.val k.val).cleared = false → s.clusterRuns d.val k.val = true →
    ∃ t : State, exec (.clusterClear d k) s = .next t ∧ t = { s with cores := t.cores, clusters := t.clusters } ∧ t.cluster d.val k.val = { s.cluster d.val k.val with cleared := true } ∧
      (∀ i : CoreId, i.die = d → i.cluster = k → t.core (posOf i) = { s.core (posOf i) with slots := [], icache := [], cnt0 := 0, cnt1 := 0 }) ∧
      (∀ i : CoreId, (i.die, i.cluster) ≠ (d, k) → t.core (posOf i) = s.core (posOf i))) ∧
  (∀ (s : State) (d : Cdie) (k : Fin 100) (kn : KernelSt), s.kernelOn d.val k.val = some kn → (s.cluster d.val k.val).cleared = true → (s.cluster d.val k.val).loaded = false → kn.stop = none →
    s.clusterRuns d.val k.val = true → s.engineRuns = true → s.pf1 = false → s.pf2 = false → s.viaOpen kn.via kn.table false = true →
    let f := s.fetchSectors kn.via (8 * ((8 * kn.count + 255) / 256)) kn.table
    let g := f.1.fetchSectors kn.via 4 kn.argAt
    let table := ((wordsOf f.2.2).take kn.count).map (BitVec.ofNat 64)
    f.2.1 = .done → g.2.1 = .done → tableBad table = false →
    (kn.perCore = 0 ∧ ∀ i ∈ countArgs table, (wordsOf g.2.2).getD i 0 ≤ 65535) ∨ (kn.perCore ≠ 0 ∧ (g.1.startCores kn k.val table (wordsOf g.2.2) 64).2 = .done) →
    ∃ u : State, exec (.tableFetch d k) s = .next u.done ∧ (u.cluster d.val k.val).loaded = true ∧
      (∀ i : CoreId, i.die = d → i.cluster = k → (u.core (posOf i)).ip = 0 ∧ (u.core (posOf i)).loops = [] ∧ (u.core (posOf i)).ended = false ∧
        (kn.perCore = 0 → (u.core (posOf i)).args = wordsOf g.2.2) ∧ (kn.perCore ≠ 0 → ∃ own, (u.core (posOf i)).args = (wordsOf g.2.2).take 8 ++ own) ∧ (u.core (posOf i)).icache.take table.length = table ∧ (u.core (posOf i)).slots = (s.core (posOf i)).slots)) ∧
  (∀ (s : State) (d : Cdie) (q : Fin 32) (kn : KernelSt),
    (s.kernels.find? fun y => y.die == d.val && y.q == q.val && (if y.stop.isSome then y.set.all (s.clusterQuiet d.val) else y.set.all (s.clusterEnded d.val))) = some kn →
    ∃ u : State, exec (.kernelComplete d q) s = .next u.done ∧ (∀ y ∈ u.kernels, sameKernel y kn = false) ∧ (∀ i ∈ kn.set, (u.cluster d.val i).kernel = none) ∧
      (∀ c, s.cmd (matrixQ d.val q.val) kn.idx = some c → c.ended = none → ∃ x : Cmd, u.cmd (matrixQ d.val q.val) kn.idx = some x ∧ x.ended = some kn.status) ∧ u.mem = s.mem ∧ u.fuse = s.fuse)

/-! ## Queues and the commands of every engine (chapter 17) -/

/-- QUEUE_DB and QUEUE_CPL_DB of a queue that exists and is not being reset take a value below the ring's size and set DB_ERR for any other. ENABLE sets the phase to 1 at a first enable and changes nothing after it. RESTART clears STOPPED, CAUSE and the halt. COMMAND_FETCH of a live queue, from the CCLK after its doorbell and where its door lets the read through, moves HEAD over the entries that it read and holds their commands; a refused read stops the queue with its status and HEAD stays. COMPLETION_RECORD of the oldest command, ended: its record is written, CPL_TAIL moves, PHASE turns over at the ring's end and the command leaves; a suppressed DONE leaves with no record; with the ring full nothing happens. A record's fields stand where R320 puts them. WATCHDOG: with no command over its time, or in a warm reset's drain, nothing; a WAIT over its time ends with TIMEOUT. HOST_READ_COMPLETION of a copy to the host sends the block on; HOST_READ_ERROR ends the copy with HALTED. Log entry 32: the fetch and the record are made in the one step. -/
def Obligations.QueuesTakeAndReport : Prop :=
  (∀ (s : State) (q : QueueId) (v : BitVec 16), s.queueIn q = true → Tab.get false s.resetting (s.casOf q) = false →
    (v.toNat < s.cmdRing q → ∃ u : State, exec (.queueDb q v) s = .next u.done ∧ u.queue q = { s.queue q with tail := v.toNat, dbAt := s.cyc + 1 } ∧ s.OtherQueues u q ∧ u = { s with queues := u.queues }) ∧
    (s.cmdRing q ≤ v.toNat → ∃ u : State, exec (.queueDb q v) s = .next u.done ∧ u.qrd q .QUEUE_STATE_DB_ERR = 1 ∧ s.RegsBut u [.QUEUE_STATE_DB_ERR] ∧ u = { s with regs := u.regs }) ∧
    (v.toNat < s.cplRing q → ∃ u : State, exec (.queueCplDb q v) s = .next u.done ∧ u.queue q = { s.queue q with cplHead := v.toNat } ∧ s.OtherQueues u q ∧ u = { s with queues := u.queues }) ∧
    (s.cplRing q ≤ v.toNat → ∃ u : State, exec (.queueCplDb q v) s = .next u.done ∧ u.qrd q .QUEUE_STATE_DB_ERR = 1 ∧ s.RegsBut u [.QUEUE_STATE_DB_ERR] ∧ u = { s with regs := u.regs })) ∧
  (∀ (s : State) (q : QueueId), s.queueIn q = true →
    (s.qrd q .QUEUE_CTRL_ENABLE = 1 → exec (.enable q) s = .next s.done) ∧
    (s.qrd q .QUEUE_CTRL_ENABLE ≠ 1 → ∃ u : State, exec (.enable q) s = .next u.done ∧ u.qrd q .QUEUE_CTRL_ENABLE = 1 ∧ u.qrd q .QUEUE_STATE_PHASE = 1 ∧
      s.RegsBut u [.QUEUE_CTRL_ENABLE, .QUEUE_STATE_PHASE] ∧ u = { s with regs := u.regs }) ∧
    (∃ u : State, exec (.restart q) s = .next u.done ∧ u.qrd q .QUEUE_STATE_STOPPED = 0 ∧ u.qrd q .QUEUE_STATE_CAUSE = 0 ∧ u.queue q = { s.queue q with halt := false } ∧
      s.RegsBut u [.QUEUE_STATE_STOPPED, .QUEUE_STATE_CAUSE] ∧ s.OtherQueues u q ∧ u = { s with regs := u.regs, queues := u.queues })) ∧
  (∀ (s : State) (q : QueueId), s.queueLive q = true → s.engineRuns = true → s.stopped q = false → s.pf1 = false → s.pf2 = false → s.pendingCmds q ≠ 0 → (s.queue q).dbAt ≠ s.cyc + 1 →
    let head := s.qrd q .QUEUE_STATUS_HEAD
    let n := s.fetchCount q
    let r := s.fetchSectors (s.queueVia q) (2 * n) (s.qrd q .QUEUE_BASE_ADDR * 64 + 64 * head)
    s.viaOpen (s.queueVia q) (s.qrd q .QUEUE_BASE_ADDR * 64 + 64 * head) false = true →
    (refusal r.2.1 = false → ∃ u : State, exec (.commandFetch q) s = .next u.done ∧ u.qrd q .QUEUE_STATUS_HEAD = (head + n) % s.cmdRing q ∧
      (u.queue q).cmds.length = (s.queue q).cmds.length + n ∧
      ((s.queue q).cmds = [] → (u.queue q).cmds.map (fun c => (c.idx, c.words)) =
        (List.range n).map fun k => (head + k, (r.2.2.getD (2 * k + 1) (0, none)).1 ++ (r.2.2.getD (2 * k) (0, none)).1)) ∧ u.mem = s.mem) ∧
    (refusal r.2.1 = true → ∃ u : State, exec (.commandFetch q) s = .next u.done ∧ u.qrd q .QUEUE_STATE_STOPPED = 1 ∧ u.qrd q .QUEUE_STATE_CAUSE = Config.statusCode r.2.1 ∧
      u.qrd q .QUEUE_STATUS_HEAD = head ∧ u.queue q = s.queue q ∧ u.mem = s.mem)) ∧
  (∀ (s : State) (q : QueueId) (c : Cmd) (l : List Cmd) (st : Status), (s.queue q).cmds = c :: l → c.ended = some st →
    (∀ d, (s.queue q).nextCmd = some d → classesOf q.engine d.opcode ≠ 0) →
    let quiet := c.fld 0 10 1 = 1 ∧ st = .done ∧ c.unread = false
    (quiet → ∃ u : State, exec (.completionRecord q) s = .next u.done ∧ (u.queue q).cmds = l.filter (fun y => y.idx != c.idx) ∧ s.OtherQueues u q ∧ u = { s with queues := u.queues }) ∧
    (¬quiet → s.cplFull q = true → exec (.completionRecord q) s = .next s.done) ∧
    (¬quiet → s.cplFull q = false → s.engineRuns = true → s.queueLive q = true →
      s.viaOpen (s.queueVia q) (s.qrd q .QUEUE_CPL_BASE_ADDR * 16 + 16 * s.qrd q .QUEUE_STATUS_CPL_TAIL) true = true → (s.writeRecord q c st).2 = true →
      ∃ u : State, exec (.completionRecord q) s = .next u.done ∧ (u.queue q).cmds = l.filter (fun y => y.idx != c.idx) ∧
        u.qrd q .QUEUE_STATUS_CPL_TAIL = (s.qrd q .QUEUE_STATUS_CPL_TAIL + 1) % s.cplRing q ∧
        u.qrd q .QUEUE_STATE_PHASE = (if s.qrd q .QUEUE_STATUS_CPL_TAIL + 1 = s.cplRing q then 1 - s.qrd q .QUEUE_STATE_PHASE else s.qrd q .QUEUE_STATE_PHASE) ∧
        u.mem = (s.writeRecord q c st).1.mem)) ∧
  (∀ (s : State) (q : QueueId) (c : Cmd) (st : Status), c.unread = false →
    let w := s.recordWord q c st
    w % 2 ^ 16 = c.fld 0 32 16 ∧ w / 2 ^ 16 % 2 ^ 8 = Config.statusCode st ∧ w / 2 ^ 24 % 2 ^ 8 = c.opcode ∧ w / 2 ^ 63 % 2 = s.qrd q .QUEUE_STATE_PHASE % 2) ∧
  (∀ (s : State) (q : QueueId),
    (s.boot.stage = .drained ∨ (∀ c ∈ (s.queue q).cmds, c.started = true → c.ended = none → c.fault ≠ some .timeout → s.now < c.startAt + c.wdog) → exec (.watchdog q) s = .next s.done) ∧
    (∀ c : Cmd, s.boot.stage ≠ .drained → s.cmd q c.idx = some c → c.started = true → c.ended = none → c.fault = none → c.startAt + c.wdog ≤ s.now → c.opcode = 1 → q.engine ≠ .matrix →
      (∀ d ∈ (s.queue q).cmds, d.idx ≠ c.idx → d.started = true → d.ended = none → d.fault ≠ some .timeout → s.now < d.startAt + d.wdog) →
      ∃ u : State, exec (.watchdog q) s = .next u.done ∧ u.EndedAs q c.idx .timeout ∧ u.mem = s.mem)) ∧
  (∀ (s : State) (q : QueueId) (c : Cmd) (k : Nat) (l : List (Nat × Nat)) (d : Block), q.engine = .move → (s.queue q).hostRd = (c.idx, k) :: l → s.cmd q c.idx = some c → c.fault = none →
    (c.dst.host = true → s.busMaster (s.casOf q) = true → ∃ (u : State) (o : List Out), exec (.hostReadCompletion q d) s = .next u.done ∧ u.out = s.out ++ .hostWrite q (c.blockAddr c.dst k) d :: o) ∧
    (c.started = true → c.ended = none → c.flight = 1 → ∃ u : State, exec (.hostReadError q) s = .next u.done ∧ (u.queue q).hostRd = l ∧ u.EndedAs q c.idx .halted ∧ u.mem = s.mem))

/-- Where the command is the next of its queue and may start. NOP ends with DONE. SIGNAL adds VALUE to the counter that it names, modulo 2^64, and ends with DONE. WAIT ends with DONE where its counter has reached VALUE as a signed difference, and otherwise goes on and holds its queue. COPY sends the read of its next block, FILL the write of its next block with the pattern in every word, through door 6 of its hub (for a block at that hub, with a credit). A command that fails its checks ends with that status and does nothing else. A host write of SYNC_CNT, with no work under way, sets the counter; what SIGNALs have added to it in the same CCLK is added to the value written. -/
def Obligations.EngineCommandsRun : Prop :=
  (∀ (s : State) (q : QueueId) (c : Cmd),
    (s.Starts q c 0x00 (fun _ => []) → ∃ u : State, exec (.engineNop q) s = .next u.done ∧ u.cmd q c.idx = some { s.begun q c with ended := some .done, flight := 0 } ∧ u.mem = s.mem ∧ u.out = s.out) ∧
    (s.Starts q c 0x02 (fun _ => []) → ∃ u : State, exec (.signal q) s = .next u.done ∧ u.cmd q c.idx = some { s.begun q c with ended := some .done, flight := 0 } ∧
      syncGet u (s.casOf q) (c.fld 1 0 4) = (syncGet s (s.casOf q) (c.fld 1 0 4) + c.word 2) % 2 ^ 64 ∧
      (∀ k n, (k, n) ≠ (s.casOf q, c.fld 1 0 4) → syncGet u k n = syncGet s k n) ∧ u.mem = s.mem ∧ u.out = s.out) ∧
    (s.Starts q c 0x01 (fun _ => []) → ∃ u : State, exec (.wait q) s = .next u.done ∧ u.mem = s.mem ∧
      ((syncGet s (s.casOf q) (c.fld 1 0 4) + 2 ^ 64 - c.word 2) % 2 ^ 64 < 2 ^ 63 → u.cmd q c.idx = some { s.begun q c with ended := some .done, flight := 0 }) ∧
      (2 ^ 63 ≤ (syncGet s (s.casOf q) (c.fld 1 0 4) + 2 ^ 64 - c.word 2) % 2 ^ 64 → u.cmd q c.idx = some (s.begun q c))) ∧
    (∀ st, (s.queue q).nextCmd = some c → s.mayStart q c = true → s.startVerdict q c [] = some st →
      (c.opcode = 0x00 → ∃ u : State, exec (.engineNop q) s = .next u.done ∧ u.EndedAs q c.idx st ∧ u.mem = s.mem) ∧
      (c.opcode = 0x02 → ∃ u : State, exec (.signal q) s = .next u.done ∧ u.EndedAs q c.idx st ∧ u.mem = s.mem ∧ ∀ k n, syncGet u k n = syncGet s k n)) ∧
    (∀ r : Req, ((s.atStart q c).queue q).issuing = some (s.begun q c) → ((s.atStart q c).queue q).inFlight < 64 → s.doorRoom q.inst.val 6 c.reqClass = true → r.hub = r.home →
      (s.Starts q c 0x20 (s.moveChecks q) → c.src.host = false →
        s.decode q.inst.val { r := s.cmdReq q c (2 * c.next) (c.blockAddr c.src c.next) false, ovr := c.src.ovr, ovrMay := true } = .inr r →
        ∃ (u : State) (x : Req), exec (.copy q) s = .next u.done ∧ x ∈ (u.door q.inst.val 6).transit ∧ x.org = .cmd q c.idx (2 * c.next) ∧ x.addr = c.blockAddr c.src c.next ∧
          x.write = false ∧ x.pc = r.pc ∧ x.bank = r.bank ∧ x.row = r.row ∧ x.col = r.col ∧ u.mem = s.mem) ∧
      (s.Starts q c 0x21 (s.moveChecks q) → c.dst.host = false → r.write = true →
        (∀ i < 32, elem r.data 64 i = c.word 5) →
        s.decode q.inst.val { r := { s.cmdReq q c (2 * c.next + 1) (c.blockAddr c.dst c.next) true with data := r.data }, ovr := c.dst.ovr, ovrMay := true } = .inr r →
        ∃ (u : State) (x : Req), exec (.moveFill q) s = .next u.done ∧ x ∈ (u.door q.inst.val 6).transit ∧ x.org = .cmd q c.idx (2 * c.next + 1) ∧ x.addr = c.blockAddr c.dst c.next ∧
          x.write = true ∧ x.data = r.data ∧ x.pc = r.pc ∧ x.bank = r.bank ∧ x.row = r.row ∧ x.col = r.col ∧ u.mem = s.mem))) ∧
  (∀ (s : State) (c : Casement) (n : Fin 16) (v : Word), s.Idle →
    ∃ t : State, exec (.syncCnt c n v) s = .next t ∧ syncGet t c.val n.val = (v.toNat + s.freshCount .SYNC_CNT_VALUE c.val n.val 0) % 2 ^ 64 ∧
      (∀ e k, (e, k) ≠ (c.val, n.val) → syncGet t e k = syncGet s e k) ∧ s.RegsBut t [.SYNC_CNT_VALUE] ∧ t = { s with regs := t.regs })

/-! ## Pages and expanders (chapter 18) -/

/-- Where the command may start and passes its checks. POOL_INIT lays out a pool with every page free. Over one entry, once door D7 lets the engine's read through: ALLOC gives an unused one the page on top of the free stack; FREE gives a resident one's page and a spilled one's slot back, passes an unused one and waits for a copy; SPILL writes a resident one's blocks to the host and frees its page; PREFETCH gives a spilled one a page and reads its blocks from the host. FETCH_DONE writes the page, frees its slot and ends the copy; TRANSPORT_ERROR frees the page, ends the copy and answers a waiting read with HALTED; PREFETCH_WINDOW answers a read that has waited as long as PAGE_PREFETCH_WIN said when its wait began with PAGE_ABSENT_TIMEOUT. PT_INVAL drops the lines of its range. EXP_LOAD, EXP_BIND and EXP_RELEASE set the expander; TILE_DONE gives its core the tile. Page copies and loads are made in one step (log entry 32). -/
def Obligations.PagesAndExpanders : Prop :=
  (∀ (s : State) (q : QueueId) (c : Cmd),
    let cas := s.casOf q
    let a := s.atStart q c
    let k := c.pgPool
    let v := pageVia q.inst.val c.reqClass cas
    (s.Starts q c 0x30 (s.poolChecks q) →
      ∃ u : State, exec (.poolInit q) s = .next u.done ∧ u.EndedAs q c.idx .done ∧ u.pool cas k = poolFrom c ∧ (u.pool cas k).freePages = c.fld 3 32 32 ∧ u.mem = s.mem) ∧
    (∀ (i : Nat) (y : PoolSt), s.StartsPage q c 0x31 → (s.pool cas k).reserve < (s.pool cas k).freePages →
      (s.pool cas k).takePage = some (i, y) → (a.allUnused q c 1).2 = (.done, true) → (a.allUnused q c 1).1.viaOpen v (c.pgTable + 8 * c.pgFirst) false = true →
      let w := ((a.allUnused q c 1).1.setPool cas k y).pteWrite q.inst.val c.reqClass cas c.pgTable c.pgFirst { index := i, state := 1, pool := k, slot := 0 }
      w.2 = .done → ∃ (u : State) (z : Cmd), exec (.alloc q) s = .next u.done ∧ u.cmd q c.idx = some z ∧ z.ended = some .done ∧ z.detail = i ∧ z.progress = 1 ∧
        u.pool cas k = y ∧ u.mem = w.1.mem) ∧
    (let r := a.pteRead q.inst.val c.reqClass cas c.pgTable c.pgFirst
     let e := pteOf r.2.2.1
     r.2.1 = .done → r.2.2.2 = false → a.viaOpen v (c.pgTable + 8 * c.pgFirst) false = true →
      (s.StartsPage q c 0x32 → e.state = 0 → ∃ u : State, exec (.free q) s = .next u.done ∧ u.EndedAs q c.idx .done ∧ u.pools = s.pools ∧ u.mem = s.mem) ∧
      (s.poolRefusal q.inst.val cas e.pool = none →
        (s.StartsPage q c 0x32 → e.state = 1 →
          let w := r.1.pteWrite q.inst.val c.reqClass cas c.pgTable c.pgFirst { index := 0, state := 0, pool := 0, slot := 0 }
          w.2 = .done → ∃ u : State, exec (.free q) s = .next u.done ∧ u.EndedAs q c.idx .done ∧ u.pool cas e.pool = (s.pool cas e.pool).givePage e.index ∧ u.mem = w.1.mem) ∧
        (s.StartsPage q c 0x32 → e.state = 2 →
          let w := r.1.pteWrite q.inst.val c.reqClass cas c.pgTable c.pgFirst { index := 0, state := 0, pool := 0, slot := 0 }
          w.2 = .done → ∃ u : State, exec (.free q) s = .next u.done ∧ u.EndedAs q c.idx .done ∧ u.pool cas e.pool = (s.pool cas e.pool).giveSlot e.slot ∧ u.mem = w.1.mem) ∧
        (s.StartsPage q c 0x32 → e.state = 3 ∨ e.state = 4 → ∃ u : State, exec (.free q) s = .next u.done ∧ u.cmd q c.idx = some (s.begun q c) ∧ u.pools = s.pools ∧ u.mem = s.mem) ∧
        (∀ (slot : Nat) (y : PoolSt), s.StartsPage q c 0x33 → c.fld 1 5 1 = 0 → e.state = 1 → (s.pool cas e.pool).spillKind = 1 → s.busMaster cas = true →
          (s.pool cas e.pool).takeSlot = some (slot, y) →
          let w := r.1.pteWrite q.inst.val c.reqClass cas c.pgTable c.pgFirst { e with state := 3, slot := slot }
          w.2 = .done → ((w.1.setPool cas e.pool y).readPage v (y.pageAddr e.index) y.blocks).2.1 = .done →
          ∃ u : State, exec (.spill q) s = .next u.done ∧ u.EndedAs q c.idx .done ∧ u.pool cas e.pool = y.givePage e.index ∧
            ∀ b < y.blocks, ∃ d : Block, .pageWrite q.inst.val (y.slotAddr slot + 256 * b) d ∈ u.out) ∧
        (∀ (i : Nat) (y : PoolSt), s.StartsPage q c 0x34 → e.state = 2 → (s.pool cas e.pool).spillKind = 1 → s.busMaster cas = true →
          (s.pool cas e.pool).reserve < (s.pool cas e.pool).freePages → (s.pool cas e.pool).takePage = some (i, y) →
          ((r.1.setPool cas e.pool y).pteWrite q.inst.val c.reqClass cas c.pgTable c.pgFirst { index := i, state := 4, pool := e.pool, slot := e.slot }).2 = .done →
          ∃ (u : State) (z : Cmd) (x : CopySt), exec (.prefetch q) s = .next u.done ∧ u.cmd q c.idx = some z ∧ z.ended = none ∧ x ∈ u.copies ∧
            x.fetch = true ∧ x.pt = c.pgTable ∧ x.lpage = c.pgFirst ∧ x.page = i ∧ x.slot = e.slot ∧ x.cmd = some (q, c.idx) ∧ u.pool cas e.pool = y ∧
            ∀ b < y.blocks, .pageRead q.inst.val (y.slotAddr e.slot + 256 * b) ∈ u.out))) ∧
    (s.Starts q c 0x35 (s.tableChecks q) → c.pgCount ≠ 0 → ∃ u : State, exec (.ptInval q) s = .next u.done ∧ u.EndedAs q c.idx .done ∧ u.mem = s.mem ∧
      ∀ x ∈ u.ptc, ∀ y ∈ x.2, y.addr / 32 < (c.pgTable + 8 * c.pgFirst) / 32 ∨ (c.pgTable + 8 * (c.pgFirst + c.pgCount - 1)) / 32 < y.addr / 32) ∧
    (s.ExpQuiet q.inst.val →
      (s.Starts q c 0x36 (s.expLoadChecks q) → (s.exp q.inst.val c.exp).reqs = [] →
        let x := expFrom cas c
        let w := a.fetchSectors v (x.weightBytes / 32) c.expWeights
        let b := w.1.fetchSectors v (if x.hasBias then biasBytes / 32 else 0) c.expBias
        w.2.1 = .done → b.2.1 = .done → ∃ u : State, exec (.expLoad q) s = .next u.done ∧ u.EndedAs q c.idx .done ∧
          (u.exp q.inst.val c.exp).owner = some cas ∧ (u.exp q.inst.val c.exp).rank = c.fld 3 0 10 ∧ (u.exp q.inst.val c.exp).heads = c.fld 3 14 7 ∧
          (u.exp q.inst.val c.exp).headDim = c.fld 3 21 9 ∧ (u.exp q.inst.val c.exp).weights = bytesOfSectors w.2.2 ∧ (u.exp q.inst.val c.exp).bias = bytesOfSectors b.2.2 ∧ u.mem = s.mem) ∧
      (s.Starts q c 0x37 (s.expBindChecks q) → (∀ r ∈ (s.exp q.inst.val c.exp).reqs, apSlot r.addr ≠ c.bindSlot) →
        (c.fld 1 16 1 = 1 → ∃ u : State, exec (.expBind q) s = .next u.done ∧ u.EndedAs q c.idx .done ∧ Tab.get none (u.exp q.inst.val c.exp).binds c.bindSlot = none ∧ u.mem = s.mem) ∧
        (c.fld 1 16 1 = 0 → ∃ u : State, exec (.expBind q) s = .next u.done ∧ u.EndedAs q c.idx .done ∧
          Tab.get none (u.exp q.inst.val c.exp).binds c.bindSlot = some { pt := c.pgTable, pool := c.fld 1 12 4, len := c.fld 3 0 32, qbase := c.fld 3 32 32 } ∧ u.mem = s.mem)) ∧
      (s.Starts q c 0x38 (s.expReleaseChecks q) → (s.exp q.inst.val c.exp).reqs = [] → ∃ u : State, exec (.expRelease q) s = .next u.done ∧ u.EndedAs q c.idx .done ∧
        (u.exp q.inst.val c.exp).owner = none ∧ (u.exp q.inst.val c.exp).binds = [] ∧ u.mem = s.mem))) ∧
  (∀ (s : State) (h : Hub) (pt n : Nat) (c : CopySt) (blocks : List Block), s.queues = [] → s.copyAt h.val pt n = some c → c.fetch = true →
    let x := s.pool c.cas c.pool
    let cls := (Config.classOf c.cls).getD .normal
    (s.pgWaits = [] → c.got = [] → s.hinge.step = 0 → blocks.length = x.blocks →
      let w := s.writePage (pageVia c.hub cls c.cas) (x.pageAddr c.page) (fun k => (blocks[k]?).getD 0) x.blocks
      let e := w.1.pteWrite c.hub cls c.cas pt n { index := c.page, state := 1, pool := c.pool, slot := 0 }
      w.2 = .done → ∃ u : State, exec (.fetchDone h pt n blocks) s = .next u.done ∧ u.copies = s.copies.filter (fun y => y.tag != c.tag) ∧ u.pool c.cas c.pool = x.giveSlot c.slot ∧ u.mem = e.1.mem) ∧
    (∀ g : PgWait, s.pgWaits = [g] → g.msg.addr = pt → g.msg.lpage = n → (s.aksal g.die).state = 6 → x.held = [] →
      let w := s.pteWrite c.hub cls c.cas pt n { index := 0, state := 2, pool := c.pool, slot := c.slot }
      ∃ u : State, exec (.transportError h pt n) s = .next u.done ∧ u.copies = s.copies.filter (fun y => y.tag != c.tag) ∧ u.pool c.cas c.pool = x.givePage c.page ∧
        u.pgWaits = [] ∧ (u.aksal g.die).rx = (s.aksal g.die).rx ++ [pgRsp g.msg .halted 0] ∧ u.mem = w.1.mem)) ∧
  (∀ (s : State) (h : Hub) (pt n : Nat) (g : PgWait), s.queues = [] → s.pgWaits = [g] → g.die = h.val → g.msg.addr = pt → g.msg.lpage = n → (s.aksal h.val).state = 6 →
    (s.now < g.at_ + g.len → exec (.prefetchWindow h pt n) s = .next s.done) ∧
    (g.at_ + g.len ≤ s.now → ∃ u : State, exec (.prefetchWindow h pt n) s = .next u.done ∧ u.pgWaits = [] ∧
      (u.aksal h.val).rx = (s.aksal h.val).rx ++ [pgRsp g.msg .pageAbsentTimeout 0] ∧
      u.rd .PAGE_FETCH_CNT_TIMEOUTS h.val 0 0 = min 65535 (s.rd .PAGE_FETCH_CNT_TIMEOUTS h.val 0 0 + 1) ∧ u.mem = s.mem)) ∧
  (∀ (s : State) (d : Cdie) (e : Fin 8) (r : TileReq) (l : List TileReq) (y : StreamSt) (kn : KernelSt),
    let x := s.exp d.val e.val
    let p := rankPos d.val r.rank
    let g := (x.staged.find? (samePage (x.bindOf r.addr) (logicalPage r.addr))).getD { pt := 0, lpage := 0, gen := 0, need := 0, got := [] }
    x.reqs = r :: l → x.doneAt ≠ 0 → s.clk.run = true → s.pf2 = false → (s.core p).streams = [y] → y.tag = r.tag → y.sent = true → y.arrived = none → y.write = false → s.kernelOn p.d p.k = some kn →
    (s.clk.fclk + 1 < x.doneAt → exec (.tileDone d e) s = .next s.done) ∧
    (x.doneAt ≤ s.clk.fclk + 1 → ∃ u : State, exec (.tileDone d e) s = .next u.done ∧
      (u.core p).streams = [{ y with arrived := some (x.tile g r.addr s.free, (x.tileMarks g r.addr).1) }] ∧
      u.rd .CMP_EXP_CNT_TILES d.val e.val 0 = min (2 ^ 32 - 1) (s.rd .CMP_EXP_CNT_TILES d.val e.val 0 + 1) ∧ u.mem = s.mem))

/-! ## Collectives (chapter 19) -/

/-- Where the command may start and passes its checks and no notice or packet is kept. ALL_REDUCE, REDUCE_SCATTER and ROTATE send block 0 of step 0 from their place in SRC; ALL_GATHER and BROADCAST at rank 0 do so after their own copy; BARRIER sends its token at rank 0 and nothing at another rank. SHARD_PUT sends the read of its next block through door 4. A COLL block that an ALL_GATHER expects is stored at its place and counted, and the last one ends the command; for a COLL_ID that no command uses it is kept, or discarded where the COLL_ID is dead. COLL_READY is noted. A STALL notice is counted, kept and applied to the deadline. COLLECTIVE_DEADLINE ends what has passed its deadline with TIMEOUT, or STALL_GRANT_EXCEEDED where it was extended, or with a condition met before that which comes first, and only that; in a drain it ends nothing. -/
def Obligations.CollectivesRun : Prop :=
  (∀ (s : State) (q : QueueId) (c : Cmd), s.notices = [] → s.fabRx = [] → s.coll q c.idx = none →
    let t := s.collStart q c
    let own := t.copyOwn q c c.ringSrc (c.ringDst + c.rank * c.ringLen) c.stepBlocks
    let own0 := t.copyOwn q c c.ringSrc c.ringDst c.stepBlocks
    let v := s.ringVia q none
    let f := t.fetchBlock v (c.sendAt 0)
    let f1 := own.1.fetchBlock v (c.sendAt 0)
    let f2 := own0.1.fetchBlock v (c.sendAt 0)
    let lets (a : State) : Prop := a.viaOpen v (c.sendAt 0) false = true
    let sends (i : Instr) (d : Block) (flits : Nat) : Prop := ∃ (u : State) (l : List (Nat × Packet)), exec i s = .next u.done ∧ u.fabTx = s.fabTx ++ s.firstBlock q c flits d :: l
    (s.Starts q c 0x40 (s.ringChecks q) → lets t → refusal f.2.1 = false → sends (.allReduce q) f.2.2.1 4) ∧
    (s.Starts q c 0x41 (s.ringChecks q) → lets t → refusal f.2.1 = false → sends (.reduceScatter q) f.2.2.1 4) ∧
    (s.Starts q c 0x44 (s.ringChecks q) → lets t → refusal f.2.1 = false → sends (.rotate q) f.2.2.1 4) ∧
    (s.Starts q c 0x42 (s.ringChecks q) → refusal own.2 = false → lets own.1 → refusal f1.2.1 = false → sends (.allGather q) f1.2.2.1 4) ∧
    (s.Starts q c 0x43 (s.ringChecks q) →
      (c.rank = 0 → c.ringSrc ≠ c.ringDst → refusal own0.2 = false → lets own0.1 → refusal f2.2.1 = false → sends (.broadcast q) f2.2.2.1 4) ∧
      (c.rank = 0 → c.ringSrc = c.ringDst → lets t → refusal f.2.1 = false → sends (.broadcast q) f.2.2.1 4) ∧
      (c.rank ≠ 0 → ∃ u : State, exec (.broadcast q) s = .next u.done ∧ u.fabTx = s.fabTx ∧ u.coll q c.idx = some (t.newColl q (s.begun q c)))) ∧
    (s.Starts q c 0x46 (s.ringChecks q) →
      (c.rank = 0 → ∃ u : State, exec (.barrier q) s = .next u.done ∧ u.fabTx = s.fabTx ++ [s.firstBlock q c 0 0]) ∧
      (c.rank ≠ 0 → ∃ u : State, exec (.barrier q) s = .next u.done ∧ u.fabTx = s.fabTx ∧ u.coll q c.idx = some (t.newColl q (s.begun q c)))) ∧
    (∀ r : Req, s.Starts q c 0x45 (s.ringChecks q) → c.fault = none → c.next < c.putBlocks → c.flight < 64 → s.doorRoom q.inst.val 4 ((Config.classOf c.cls).getD .collective) = true → r.hub = r.home →
      s.decode q.inst.val { r := s.cmdReq q c c.next (c.ringSrc + 256 * c.next) false, ovr := none, ovrMay := true } = .inr r →
      ∃ (u : State) (x : Req), exec (.shardPut q) s = .next u.done ∧
        u.SentTo q.inst.val 4 (.cmd q c.idx c.next) (c.ringSrc + 256 * c.next) false x ∧ x.pc = r.pc ∧ x.bank = r.bank ∧ x.row = r.row ∧ x.col = r.col ∧ u.mem = s.mem)) ∧
  (∀ (s : State) (q : QueueId) (h : Hub) (p : Packet) (c : Cmd) (x : CollSt), s.fabRx = [(h.val, p)] →
    (s.collFor h.val p = none → s.deadColls.contains (p.addr % 2 ^ 32) = true →
      (∃ u : State, exec (.coll h p) s = .next u.done ∧ u = { s with fabRx := [] }) ∧ (∃ u : State, exec (.collReady h p) s = .next u.done ∧ u = { s with fabRx := [] })) ∧
    (s.collFor h.val p = none → s.deadColls.contains (p.addr % 2 ^ 32) = false → exec (.coll h p) s = .next s.done ∧ exec (.collReady h p) s = .next s.done) ∧
    (p.mclass = 4 → s.collFor h.val p = some x → x.q = q → s.coll q x.idx = some x → s.cmd q x.idx = some c → c.opcode = 0x42 → c.ended = none → c.sendSteps ≤ x.sent → x.recv < c.recvSteps → p.step = x.recv % 16 →
      let v := s.ringVia q c.dstOvr
      s.viaOpen v (c.recvAt x.recv + 256 * x.recvBlk) true = true →
      let w := ({ s with fabRx := [] } : State).storeBlock v (c.recvAt x.recv + 256 * x.recvBlk) p.data 0
      refusal w.2 = false →
        (x.recvBlk + 1 < c.stepBlocks → ∃ u : State, exec (.coll h p) s = .next u.done ∧ u.mem = w.1.mem ∧ u.fabRx = [] ∧ u.coll q x.idx = some { x with recvBlk := x.recvBlk + 1 }) ∧
        (c.stepBlocks ≤ x.recvBlk + 1 → x.recv + 1 = c.recvSteps → c.fault = none → ∃ u : State, exec (.coll h p) s = .next u.done ∧ u.mem = w.1.mem ∧ u.fabRx = [] ∧ u.EndedAs q x.idx .done ∧ u.coll q x.idx = none)) ∧
    (p.mclass = 5 → s.collFor h.val p = some x → x.q = q → s.coll q x.idx = some x → s.cmd q x.idx = some c → c.ended = none → c.opcode ≠ 0x45 → x.sent < c.sendSteps → x.recv < c.recvSteps → x.recv < 2 →
      canSend c { x with ready := x.ready ++ [stepNamed x.sent p.step] } x.sent x.sentBlk = false →
      ∃ u : State, exec (.collReady h p) s = .next u.done ∧ u.fabRx = [] ∧ u.fabTx = s.fabTx ∧ u.coll q x.idx = some { x with ready := x.ready ++ [stepNamed x.sent p.step] }) ∧
    (s.collFor h.val p = some x → x.q = q → s.coll q x.idx = some x → s.cmd q x.idx = some c → (s.notices.filter fun n => n.hub == h.val).length < 64 → x.tier < noticeTier p →
      ∃ (u : State) (y : CollSt), exec (.stall h p) s = .next u.done ∧ u.notices = s.notices ++ [{ hub := h.val, at_ := s.now, pkt := p }] ∧
        u.rd .RING_STALL_CNT_RECEIVED h.val 0 0 = min 65535 (s.rd .RING_STALL_CNT_RECEIVED h.val 0 0 + 1) ∧ u.coll q x.idx = some y ∧ y.tier = noticeTier p ∧
        y.deadline = min x.limit (max x.deadline (s.now + Config.msTicks (s.rd .RING_STALL_GRANT_MS q.inst.val 0 0))) ∧ u.fabRx = [] ∧ u.mem = s.mem)) ∧
  (∀ (s : State) (q : QueueId),
    (s.boot.stage = .drained → exec (.collectiveDeadline q) s = .next s.done) ∧
    (s.boot.stage ≠ .drained →
      (∀ (x : CollSt) (c : Cmd), x ∈ s.colls → x.q = q → x.deadline ≤ s.now → (∀ y ∈ s.colls, y.q = q → y.idx = x.idx → y = x) → s.cmd q x.idx = some c → c.ended = none →
        let st : Status := if x.extended then .stallGrantExceeded else .timeout
        c.fault.elim st (Config.worse st) ≠ .done →
        ∃ u : State, exec (.collectiveDeadline q) s = .next u.done ∧ u.EndedAs q x.idx (c.fault.elim st (Config.worse st)) ∧ u.coll q x.idx = none ∧
          u.deadColls.contains x.coll = true ∧ u.mem = s.mem) ∧
      ((∀ x ∈ s.colls, x.q = q → s.now < x.deadline) → exec (.collectiveDeadline q) s = .next s.sweepColls.done)))

/-! ## The commands of the hubs (chapters 12, 13, 14 and 17) -/

/-- Where the command may start and passes its checks. FENCE_ADD stages an entry, which waits for the report of every hub, or ends with DENIED and DETAIL 1 where 64 are in use; FENCE_DEL stages the removal of a matching entry, or ends with BAD_COMMAND. SCRUB sends the read of its next block, which no fence entry covers, through door 5 as MAINT. REPAIR gives the port of its stack the repair with its operations, and waits while that holds another. RETRAIN sets engine-run training on both pseudo-channels of the channel, and waits while another trains one of them. MARCH writes and reads back its rows, and ends with DONE or with UNCORRECTABLE and the failing row; where its pseudo-channel is in use it ends with DENIED and ERROR is set. RELEASE empties the queue of a halted pseudo-channel and ends with DONE. HINGE ends with DENIED or DONE, or waits with its request pending. CASE_RESET begins the reset and waits for it. -/
def Obligations.HubCommandsRun : Prop :=
  ∀ (s : State) (q : QueueId) (c : Cmd),
    let h := q.inst.val
    let p := c.fld 1 0 7
    let base := c.fld 1 0 48
    let len := c.fld 2 0 48
    (s.Starts q c 0x60 fenceChecks →
      (s.fencesUsed < 64 → ∃ u : State, exec (.fenceAdd q) s = .next u.done ∧ u.staged = s.staged ++ [{ change := .fenceAdd q c.idx base len, ready := [], tick := none }] ∧
        u.fences = s.fences ∧ u.cmd q c.idx = some (s.begun q c) ∧ u.mem = s.mem) ∧
      (64 ≤ s.fencesUsed → ∃ (u : State) (z : Cmd), exec (.fenceAdd q) s = .next u.done ∧ u.cmd q c.idx = some z ∧ z.ended = some .denied ∧ z.detail = 1 ∧ u.staged = s.staged ∧ u.fences = s.fences)) ∧
    (s.Starts q c 0x61 s.fenceDelChecks → ∃ u : State, exec (.fenceDel q) s = .next u.done ∧ u.staged = s.staged ++ [{ change := .fenceDel q c.idx base len, ready := [], tick := none }] ∧
      u.fences = s.fences ∧ u.cmd q c.idx = some (s.begun q c) ∧ u.mem = s.mem) ∧
    ((s.queue q).nextCmd = some c → c.opcode = 0x61 → s.mayStart q c = true → (∀ e ∈ s.fences, e.2 ≠ (base, len)) → c.malformed .hub = false → s.cmdDenied q c = false → fenceChecks c = [] → q.engine = .hub →
      ∃ u : State, exec (.fenceDel q) s = .next u.done ∧ u.EndedAs q c.idx .badCommand ∧ u.staged = s.staged ∧ u.fences = s.fences) ∧
    (∀ r : Req, s.Starts q c 0x62 (s.scrubChecks q) → c.fault = none → c.next < c.scrubBlocks → s.doorRoom h 5 .maint = true → s.fenced (c.scrubBase + 256 * c.next) 256 = false → r.hub = r.home →
      s.decode h { r := { s.cmdReq q c c.next (c.scrubBase + 256 * c.next) false with cls := .maint }, ovr := none, ovrMay := false } = .inr r →
      ∃ (u : State) (x : Req), exec (.scrub q) s = .next u.done ∧ u.SentTo h 5 (.cmd q c.idx c.next) (c.scrubBase + 256 * c.next) false x ∧ x.cls = .maint ∧
        x.pc = r.pc ∧ x.bank = r.bank ∧ x.row = r.row ∧ x.col = r.col ∧ u.mem = s.mem) ∧
    (s.Starts q c 0x63 (s.repairChecks q) →
      ((s.port h (stackOf p)).repair ≠ none → exec (.repair q) s = .next s.done) ∧
      ((s.port h (stackOf p)).repair = none → ∃ (u : State) (x : RepairSt), exec (.repair q) s = .next u.done ∧ (u.port h (stackOf p)).repair = some x ∧ x.q = q ∧ x.idx = c.idx ∧ x.pc = p ∧
        x.bank = c.fld 1 7 6 ∧ x.row = c.fld 1 13 18 ∧ x.lane = c.fld 1 31 6 ∧ x.kind = c.fld 1 37 3 ∧ x.left = (if c.fld 1 37 3 = 1 then 3 else 2) ∧ u.cmd q c.idx = some (s.begun q c) ∧ u.mem = s.mem)) ∧
    (s.Starts q c 0x64 (s.retrainChecks q) → ∀ k < 2, (s.pc h (p / 2 * 2 + k)).trnRun ≠ none → exec (.retrain q) s = .next s.done) ∧
    (s.Starts q c 0x64 (s.retrainChecks q) → (∀ k < 2, (s.pc h (p / 2 * 2 + k)).trnRun = none) →
      ∃ u : State, exec (.retrain q) s = .next u.done ∧ (∀ k < 2, (u.pc h (p / 2 * 2 + k)).trnRun = some { step := 0, start := s.cyc } ∧ u.rd .PC_TRN_CTRL_BUSY h (p / 2 * 2 + k) 0 = 1) ∧
        u.cmd q c.idx = some (s.begun q c) ∧ u.mem = s.mem) ∧
    (s.Starts q c 0x65 (s.marchChecks q) →
      let r := (s.atStart q c).marchRows h p (c.word 2) (s.marchBanks h p c) (c.fld 1 31 18) (c.fld 1 13 18)
      (r.2 = none → ∃ u : State, exec (.march q) s = .next u.done ∧ u.EndedAs q c.idx .done ∧ u.mem = r.1.mem) ∧
      (∀ row, r.2 = some row → ∃ (u : State) (z : Cmd), exec (.march q) s = .next u.done ∧ u.cmd q c.idx = some z ∧ z.ended = some .uncorrectable ∧ z.detail = row ∧ u.mem = r.1.mem)) ∧
    ((s.queue q).nextCmd = some c → c.opcode = 0x65 → s.mayStart q c = true → s.cmdDenied q c = false → s.startVerdict q c (s.marchChecks q c) = some .denied →
      ∃ u : State, exec (.march q) s = .next u.done ∧ u.EndedAs q c.idx .denied ∧ u.rd .HUB_1500_STATUS_ERROR h (stackOf p) 0 = 1 ∧ u.mem = s.mem) ∧
    (s.Starts q c 0x66 (s.releaseChecks q) →
      ((s.pc h p).trnHalted = true → ∃ u : State, exec (.release q) s = .next u.done ∧ u.EndedAs q c.idx .done ∧ (u.pc h p).queue = [] ∧ (u.pc h p).groups = [] ∧ (u.pc h p).trnHalted = true ∧ u.mem = s.mem) ∧
      ((s.pc h p).trnHalted = false → ∃ u : State, exec (.release q) s = .next u.done ∧ u.EndedAs q c.idx .done ∧ u.pcs = s.pcs ∧ u.doors = s.doors ∧ u.mem = s.mem)) ∧
    (s.Starts q c 0x67 (fun _ => []) →
      let n := c.fld 1 0 3
      (s.hpEnabled n = false → ∃ u : State, exec (.hinge q) s = .next u.done ∧ u.EndedAs q c.idx .denied ∧ u.rd .SVC_HINGE_STATUS_ERROR 0 0 0 = 1 ∧ u.hinge = s.hinge) ∧
      (s.hpEnabled n = true → s.hinge.step = 0 → n = s.clk.hp → ∃ u : State, exec (.hinge q) s = .next u.done ∧ u.EndedAs q c.idx .done ∧ u.hinge = s.hinge) ∧
      (s.hpEnabled n = true → ¬(s.hinge.step = 0 ∧ n = s.clk.hp) → ∃ u : State, exec (.hinge q) s = .next u.done ∧ u.cmd q c.idx = some (s.begun q c) ∧
        u.hinge = { s.hinge with pend := some n, waiters := s.hinge.waiters ++ [q] })) ∧
    (s.Starts q c 0x68 caseResetChecks → ∃ u : State, exec (.caseReset q) s = .next u.done ∧ u.isResetting (c.fld 1 0 5) = true ∧ (q, c.idx, c.fld 1 0 5) ∈ u.caseWait ∧ u.fuse = s.fuse)

/-! ## The fabric, time over the fabric, and the write drain (chapters 03, 04 and 19) -/

/-- The header of R364 reads back as the packet it was made of. PORT_TRAINING brings a trying port up; LINK_FAIL takes a silent one down, counts and sets the retry 100 ms on; TRAINING_RETRY tries again when that is due; a flit's retry is counted. ROUTE delivers a packet for this node, sends another out of the port that R361 chooses, discards and counts one of a class that is not used, answers a request that no port takes with HALTED, and leaves a packet that stands behind another from one origin to one node. RDREQ and WRREQ with a good class, alignment, casement and credit go through door 4; the others are answered with the status of R365; a hinge holds them and the responses. RDRSP puts its block into the page copy of its TAG; the last WRACK of a SHARD_PUT ends it. TIME_EXCHANGE, when its period is over, asks the parent, or sets ALIGNED at the reference; a TIME request is answered with its t1; an answer of an aligned parent steers TIME64, or steps it where the package has not joined, is not aligned and traces nothing. WRITE_DRAIN_END with no write left sends the pseudo-channel into self-refresh; with writes left and the 40 us not over nothing happens. -/
def Obligations.FabricMovesPackets : Prop :=
  (∀ p : Packet, p.wf = true → packetOfHeader (packetHeader p) = { p with data := 0 }) ∧
  (∀ (s : State) (h : Hub) (j : Fin 4),
    let x := s.port4 h.val j.val
    (∀ half, s.portsOn h.val = true → s.portEnabled h.val j.val = true → x.trying = true → x.up = false →
      ∃ u : State, exec (.portTraining h j half) s = .next u.done ∧ u = { s with trw := u.trw } ∧ u.port4 h.val j.val = { up := true, half := half, trying := false, streak := 0, retryAt := 0 }) ∧
    (∀ us, x.up = true → s.rd .TRW_LINK_FAIL_US h.val 0 0 ≤ us ∨ 16 ≤ x.streak →
      ∃ u : State, exec (.linkFail h j us) s = .next u.done ∧ u = { s with trw := u.trw, regs := u.regs } ∧ (u.port4 h.val j.val).up = false ∧ (u.port4 h.val j.val).retryAt = s.now + Config.msTicks 100 ∧
        u.rd .TRW_PORT_STATUS_FAILS h.val j.val 0 = min 65535 (s.rd .TRW_PORT_STATUS_FAILS h.val j.val 0 + 1) ∧ s.RegsBut u [.TRW_PORT_STATUS_FAILS]) ∧
    (∀ us, us < s.rd .TRW_LINK_FAIL_US h.val 0 0 → x.streak < 16 → exec (.linkFail h j us) s = .next s.done) ∧
    (s.portsOn h.val = true → s.portEnabled h.val j.val = true → x.up = false →
      (x.retryAt ≤ s.now → ∃ u : State, exec (.trainingRetry h j) s = .next u.done ∧ u = { s with trw := u.trw } ∧ u.port4 h.val j.val = { x with trying := true, retryAt := s.now + Config.msTicks 100 }) ∧
      (s.now < x.retryAt → exec (.trainingRetry h j) s = .next s.done)) ∧
    (∀ ok, x.up = true → ∃ u : State, exec (.trowiryFlitRetry h j ok) s = .next u.done ∧ u = { s with trw := u.trw, regs := u.regs } ∧
      (u.port4 h.val j.val).streak = (if ok then 0 else min 16 (x.streak + 1)) ∧ u.rd .TRW_PORT_RETRY_COUNT h.val j.val 0 = min (2 ^ 32 - 1) (s.rd .TRW_PORT_RETRY_COUNT h.val j.val 0 + 1) ∧
      s.RegsBut u [.TRW_PORT_RETRY_COUNT])) ∧
  (∀ (s : State) (h : Hub) (p : Packet), s.fabTx = [(h.val, p)] →
    (∀ p0 : Packet, p0 ≠ p → p0.src = p.src → p0.dest = p.dest → exec (.route h p) { s with fabTx := [(h.val, p0), (h.val, p)] } = .next ({ s with fabTx := [(h.val, p0), (h.val, p)] } : State).done) ∧
    (8 ≤ p.mclass → ∃ u : State, exec (.route h p) s = .next u.done ∧ u.fabTx = [] ∧ u.rd .TRW_UNROUTABLE_COUNT h.val 0 0 = min (2 ^ 32 - 1) (s.rd .TRW_UNROUTABLE_COUNT h.val 0 0 + 1) ∧ u.out = s.out ∧ u.fabRx = s.fabRx) ∧
    (p.mclass < 8 → s.routeOf p = .here → ∃ u : State, exec (.route h p) s = .next u.done ∧ u = { s with fabTx := [], fabRx := s.fabRx ++ [(h.val, p)] }) ∧
    (p.mclass < 2 → s.routeOf p = .none → ∃ u : State, exec (.route h p) s = .next u.done ∧
      u.fabTx = [(h.val, { answerTo p .halted none with src := s.ownNode, flow := h.val % 2 == 1 })] ∧
      u.rd .TRW_UNROUTABLE_COUNT h.val 0 0 = min (2 ^ 32 - 1) (s.rd .TRW_UNROUTABLE_COUNT h.val 0 0 + 1) ∧ u.out = s.out) ∧
    (∀ t d m cfg, p.mclass < 8 → s.routeCfg = some cfg → s.routeOf p = .port t d m → (∀ i ∈ ringRoute h.val (t / 4) t, (s.link i).failed = false) →
      ∃ u : State, exec (.route h p) s = .next u.done ∧ u.fabTx = [] ∧ u.fabRx = s.fabRx ∧ u.out = s.out ++ [.packet t { p with vc := cfg.vcAfter p d m }] ∧ u.mem = s.mem)) ∧
  (∀ (s : State) (h : Hub) (j : Fin 4) (p : Packet), s.fabRx = [(h.val, p)] → s.fabTx = [] → p.dest = s.ownNode → s.hubIn h.val = true → s.clk.run = true →
    (s.hinge.step ≠ 0 → exec (.rdreq h j p) s = .next s.done ∧ exec (.wrreq h j p) s = .next s.done) ∧
    (s.hinge.step = 0 →
    let accept := ((s.routeCfg).map (·.accept)).getD 0
    let answered (i : Instr) (st : Status) : Prop := ∃ u : State, exec i s = .next u.done ∧ u.fabRx = [] ∧ u.fabTx = [(h.val, { answerTo p st none with src := s.ownNode, flow := h.val % 2 == 1 })] ∧ u.mem = s.mem
    (4 ≤ p.cls → answered (.rdreq h j p) .badCommand ∧ answered (.wrreq h j p) .badCommand) ∧
    (p.cls < 4 → p.addr % 256 ≠ 0 → answered (.rdreq h j p) .badAlignment ∧ answered (.wrreq h j p) .badAlignment) ∧
    (p.cls < 4 → p.addr % 256 = 0 → accept.getLsbD p.cas = false → answered (.rdreq h j p) .denied ∧ answered (.wrreq h j p) .denied) ∧
    (∀ r : Req, p.cls < 4 → p.addr % 256 = 0 → accept.getLsbD p.cas = true → s.doorRoom h.val 4 ((Config.classOf p.cls).getD .normal) = true → r.hub = r.home →
      (p.mclass = 0 → s.decode h.val { r := requestOf p h.val j.val false, ovr := overrideOf p, ovrMay := false } = .inr r →
        ∃ (u : State) (x : Req), exec (.rdreq h j p) s = .next u.done ∧ u.SentTo h.val 4 (.fabric h.val j.val p.src p.tag) p.addr false x ∧ x.pc = r.pc ∧ x.row = r.row ∧ u.fabRx = [] ∧ u.fabTx = []) ∧
      (p.mclass = 1 → s.decode h.val { r := requestOf p h.val j.val true, ovr := overrideOf p, ovrMay := true } = .inr r →
        ∃ (u : State) (x : Req), exec (.wrreq h j p) s = .next u.done ∧ u.SentTo h.val 4 (.fabric h.val j.val p.src p.tag) p.addr true x ∧ x.data = p.data ∧ x.pc = r.pc ∧ x.row = r.row ∧ u.fabRx = [] ∧ u.fabTx = [])))) ∧
  (∀ (s : State) (h : Hub) (p : Packet), s.hinge.step ≠ 0 → exec (.rdrsp h p) s = .next s.done ∧ exec (.wrack h p) s = .next s.done) ∧
  (∀ (s : State) (h : Hub) (p : Packet), s.fabRx = [(h.val, p)] → s.hinge.step = 0 →
    (∀ c, (s.copies.find? fun c => c.tag = p.tag ∧ c.fetch = true) = some c → p.status = 0 →
      ∃ (u : State) (y : CopySt), exec (.rdrsp h p) s = .next u.done ∧ u.fabRx = [] ∧ y ∈ u.copies ∧ y.tag = c.tag ∧
        y.got.find ((p.addr - (s.pool c.cas c.pool).slotAddr c.slot) / 256) = some p.data ∧ u.mem = s.mem) ∧
    (∀ q c st, p.tag < 4096 → s.putFor p.tag = some (q, c) → s.cmd q c.idx = some c → c.flight = 1 → c.putBlocks ≤ c.next → c.fault = none → c.detail = 0 → statusOf p.status = st →
      ∃ u : State, exec (.wrack h p) s = .next u.done ∧ u.fabRx = [] ∧ u.EndedAs q c.idx st ∧ u.mem = s.mem)) ∧
  (∀ (s : State), s.boot.stage = .running →
    let asked := some (s.now, Config.usTicks (s.rd .SVC_TIME_SYNC_PERIOD_US 0 0 0))
    let due : Prop := ∀ a, s.timeAsk = some a → a.1 + a.2 ≤ s.now
    (∀ a, s.timeAsk = some a → s.now < a.1 + a.2 → exec .timeExchange s = .next s.done) ∧
    (due → s.isTimeRef = true → ∃ u : State, exec .timeExchange s = .next u.done ∧ u.timeAsk = asked ∧ u.rd .SVC_TIME_SYNC_ALIGNED 0 0 0 = 1 ∧ u.rd .SVC_TIME_SYNC_OFFSET 0 0 0 = 0 ∧
      s.RegsBut u [.SVC_TIME_SYNC_ALIGNED, .SVC_TIME_SYNC_OFFSET] ∧ u = { s with regs := u.regs, timeAsk := u.timeAsk }) ∧
    (∀ node h, due → s.isTimeRef = false → s.timeParent = some (node, h) → ∃ (u : State) (p : Packet), exec .timeExchange s = .next u.done ∧ u = { s with fabTx := s.fabTx ++ [(h, p)], timeAsk := asked } ∧
      p.dest = node ∧ p.src = s.ownNode ∧ p.mclass = 7 ∧ (s.time64 < 2 ^ 64 → (stampsOf p).t1 = s.time64 ∧ (stampsOf p).answer = false)) ∧
    (∀ (h : Hub) (p : Packet), s.fabRx = [(h.val, p)] → p.mclass = 7 → p.dest = s.ownNode →
      ((stampsOf p).answer = false → ∃ (u : State) (a : Packet), exec (.timePacket p) s = .next u.done ∧ u = { s with fabRx := [], fabTx := s.fabTx ++ [(h.val, a)] } ∧ a.dest = p.src ∧ a.mclass = 7 ∧
        (stampsOf a).t1 = (stampsOf p).t1 ∧ (stampsOf a).answer = true ∧ (s.time64 < 2 ^ 64 → (stampsOf a).t2 = s.time64 ∧ (stampsOf a).t3 = s.time64)) ∧
      (∀ (off : Int) (a : Nat × Nat), (stampsOf p).answer = true → (stampsOf p).aligned = true → s.timeAsk = some a → (a.1 : Int) + s.clk.stepped = (stampsOf p).t1 → s.isTimeRef = false →
        off = (((stampsOf p).t2 - (stampsOf p).t1 : Int) - ((s.time64 : Int) - (stampsOf p).t3)) / 2 + (stampsOf p).p →
        (s.joined = false → s.bit .SVC_TIME_SYNC_ALIGNED 0 0 0 = false → s.traceOff = true →
          ∃ u : State, exec (.timePacket p) s = .next u.done ∧ u.clk = { s.clk with stepped := s.clk.stepped + off, steer := 0 } ∧ u.joined = true ∧ u.mem = s.mem) ∧
        (s.joined = true → ∃ u : State, exec (.timePacket p) s = .next u.done ∧ u.clk = { s.clk with steer := off } ∧ (-5 ≤ off ∧ off ≤ 5 → u.rd .SVC_TIME_SYNC_ALIGNED 0 0 0 = 1) ∧
          ((off < -5 ∨ 5 < off) → s.rd .SVC_TIME_SYNC_ALIGNED 0 0 0 = 1 → u.rd .SVC_TIME_SYNC_ALIGNED 0 0 0 = 0 ∧ u.rd .SVC_TIME_SYNC_DRIFT 0 0 0 = 1) ∧ u.mem = s.mem)))) ∧
  (∀ (s : State) (h : Hub) (p : Pc) (t0 : Nat), s.supply.drainFrom = some t0 → s.draining = true → (s.pc h.val p.val).drained = false → s.pcIn h.val p.val = true → (s.pc h.val p.val).sr = .awake →
    (s.writesLeft h.val p.val ≠ [] → s.now < t0 + Config.usTicks 40 → exec (.writeDrainEnd h p) s = .next s.done) ∧
    (s.writesLeft h.val p.val = [] → ∃ u : State, exec (.writeDrainEnd h p) s = .next u.done ∧ (u.pc h.val p.val).drained = true ∧ (u.pc h.val p.val).sr = .entering ∧
      u.rd .SVC_PF_STATUS_DRAIN_US 0 0 0 = min 255 ((s.now - t0) / 100) ∧ s.RegsBut u [.SVC_PF_STATUS_DRAIN_US] ∧ s.OtherPcs u h.val p.val ∧ u.mem = s.mem) ∧
    (s.writesLeft h.val p.val ≠ [] → t0 + Config.usTicks 40 ≤ s.now → ∃ u : State, exec (.writeDrainEnd h p) s = .next u.done ∧ (u.pc h.val p.val).drained = true ∧
      u.rd .SVC_PF_STATUS_LOST 0 0 0 = 1 ∧ (u.pc h.val p.val).queue.all (fun e => !e.r.write) = true ∧ u.mem = s.mem))

/-! ## The Aksal links (chapter 21) -/

/-- The headers of R391 read back as the request and the response they were made of, and a flit's CRC is good. A request that the hub takes in leaves the wires: with a bad class or address it is answered with that status; otherwise RD_BLK, RD_SEC, WR_BLK and WR_SEC enter door 0 with the source's tag, address and data, or are answered with the refusal of decode, and PG_RD reads the block of a resident page, waits for a page being fetched, and is answered DENIED for an unused entry. RD_RSP gives the stream of its tag its data and marks; WR_RSP ends it. FLIT_ERROR sends a NAK, NAK a replay, NAK_RESEND the NAK again; AKSAL_DOWN after sixteen failed replays, or at the phase step of a hinge, takes the link down and masks door 0. A fall of CD_RST_N, CD_PWR_OK, HB_RST_N or HB_PWR_OK on an ACTIVE link masks door 0 and resets the link; the last one to rise starts training. TRAINING_STATE passes on once both sides have passed; a state of 4 ms fails the link. -/
def Obligations.AksalCarriesRequests : Prop :=
  (∀ m : AkReq, m.wf = true → reqOfHeader (reqHeader m) =
    { m with mask := if m.mtype = 3 then m.mask &&& BitVec.ofNat 256 (2 ^ 32 - 1) else 0, lpage := if m.mtype = 3 then 0 else m.lpage, data := 0 }) ∧
  (∀ m : AkRsp, m.wf = true → rspOfHeader (rspHeader m) = { m with data := 0 }) ∧
  (∀ (content : Nat) (x : FlitTail), content < 2 ^ 464 → x.word < 2 ^ 32 → flitGood (flitWord content x) = true) ∧
  (∀ (s : State) (d : Cdie) (m : AkReq), s.takesIn d.val m = true →
    let rx := (s.aksal d.val).rx
    let answered (i : Instr) (write : Bool) (st : Status) : Prop :=
      ∃ u : State, exec i s = .next u.done ∧ (u.aksal d.val).tx = (s.aksal d.val).tx.erase m ∧ (u.aksal d.val).rx = rx ++ [blankRsp m write st] ∧ u.mem = s.mem
    (∀ st, msgBad m 256 = some st → answered (.rdBlk d m) false st ∧ answered (.wrBlk d m) true st) ∧
    (∀ st, msgBad m 32 = some st → answered (.rdSec d m) false st ∧ answered (.wrSec d m) true st) ∧
    (∀ st, msgBad m 1 = some st → answered (.pgRd d m) false st) ∧
    (s.draining = false → s.isResetting m.cas = false →
      let full : BitVec 256 := if m.masked then m.mask else BitVec.allOnes 256
      let part : BitVec 256 := m.mask &&& BitVec.ofNat 256 (2 ^ 32 - 1)
      let req (write sector : Bool) (mask : BitVec 256) : Offer :=
        { r := { State.dieReq d.val m m.addr write sector with mask := mask, poison := if write then s.sentMarks d.val m else 0 }, ovr := none, ovrMay := false }
      let taken (i : Instr) (write sector : Bool) (mask : BitVec 256) : Prop := ∀ r : Req, s.decode d.val (req write sector mask) = .inr r →
        ∃ (u : State) (x : Req), exec i s = .next u.done ∧ (u.aksal d.val).tx = (s.aksal d.val).tx.erase m ∧ (u.aksal d.val).rx = rx ∧
          u.SentTo d.val 0 (.aksal d.val m.srcTag m.tag) m.addr write x ∧ x.sector = sector ∧ x.mask = mask ∧ x.data = m.data ∧ x.hub = r.hub ∧ x.pc = r.pc ∧ x.row = r.row ∧ u.mem = s.mem
      let refused (i : Instr) (write sector : Bool) (mask : BitVec 256) : Prop := ∀ z, s.decode d.val (req write sector mask) = .inl z → answered i write z.status
      (msgBad m 256 = none → taken (.rdBlk d m) false false 0 ∧ refused (.rdBlk d m) false false 0 ∧ taken (.wrBlk d m) true false full ∧ refused (.wrBlk d m) true false full) ∧
      (msgBad m 32 = none → taken (.rdSec d m) false true 0 ∧ refused (.rdSec d m) false true 0 ∧ taken (.wrSec d m) true true part ∧ refused (.wrSec d m) true true part) ∧
      (msgBad m 1 = none →
        (s.poolDecl m.cas m.pool = none → answered (.pgRd d m) false .denied) ∧
        (∀ pl, s.poolDecl m.cas m.pool = some pl →
          ((s.pool m.cas m.pool).blocks ≤ m.block → answered (.pgRd d m) false .badCommand) ∧
          (m.block < (s.pool m.cas m.pool).blocks →
            let r := (s.takeTx d.val m).pteRead d.val ((Config.classOf m.cls).getD .normal) m.cas m.addr m.lpage
            let e := pteOf r.2.2.1
            r.2.1 = .done → r.2.2.2 = false → s.poolDecl m.cas e.pool ≠ none →
              (e.state = 0 → answered (.pgRd d m) false .denied) ∧
              (e.state = 4 → ∃ u : State, exec (.pgRd d m) s = .next u.done ∧ u.pgWaits = s.pgWaits ++ [{ die := d.val, msg := m, at_ := s.now, len := Config.usTicks (s.rd .PAGE_PREFETCH_WIN_US d.val 0 0) }] ∧ (u.aksal d.val).tx = (s.aksal d.val).tx.erase m ∧ u.mem = s.mem) ∧
              (∀ x : Req, e.state = 1 → s.decode d.val { r := State.dieReq d.val m ((s.pool m.cas e.pool).pageAddr e.index + 256 * m.block) false false, ovr := none, ovrMay := false } = .inr x →
                ∃ (u : State) (y : Req), exec (.pgRd d m) s = .next u.done ∧ u.SentTo d.val 0 (.aksal d.val m.srcTag m.tag) ((s.pool m.cas e.pool).pageAddr e.index + 256 * m.block) false y ∧ u.mem = s.mem)))))) ∧
  (∀ (s : State) (d : Cdie) (m : AkRsp) (y : StreamSt) (kn : KernelSt), m ∈ (s.aksal d.val).rx → (s.aksal d.val).state = 6 → m.srcTag < 0x1900 → m.status = .done →
    let p := rankPos d.val m.srcTag
    (s.core p).streams = [y] → y.tag = m.tag → y.sent = true → y.arrived = none → s.kernelOn p.d p.k = some kn →
    (y.write = false → ∃ u : State, exec (.rdRsp d m) s = .next u.done ∧ (u.aksal d.val).rx = (s.aksal d.val).rx.erase m ∧
      (u.core p).streams = [{ y with arrived := some (m.data, BitVec.ofNat 8 m.poison) }] ∧ u.mem = s.mem) ∧
    (y.write = true → ∃ u : State, exec (.wrRsp d m) s = .next u.done ∧ (u.aksal d.val).rx = (s.aksal d.val).rx.erase m ∧ (u.core p).streams = [] ∧ u.mem = s.mem)) ∧
  (∀ (s : State) (d : Cdie) (h2c : Bool) (n : Fin 16) (seq : Fin 64), (s.aksal d.val).state = 6 →
    let x := s.slice d.val h2c n.val
    let w := rxSide d.val h2c
    (h2c = true ∨ n.val < 8 → s.clk.run = true →
      (∀ bad, ∃ u : State, exec (.flitError d h2c n bad seq) s = .next u.done ∧ u.out = s.out ++ [.nak d.val h2c n.val seq.val] ∧
        u.slice d.val h2c n.val = { x with want := some seq.val, nakAt := s.cyc, streak := if x.want = some seq.val then x.streak + 1 else 0 } ∧
        (bad = true → u.rd .AKS_CRC_ERR_COUNT w 0 0 = min (2 ^ 32 - 1) (s.rd .AKS_CRC_ERR_COUNT w 0 0 + 1)) ∧ s.RegsBut u [.AKS_CRC_ERR_COUNT, .AKS_REPLAY_STREAK] ∧ u.mem = s.mem) ∧
      (∃ u : State, exec (.nak d h2c n seq) s = .next u.done ∧ u.out = s.out ++ [.replay d.val h2c n.val seq.val] ∧
        (s.seqNow (u.slice d.val h2c n.val)) % 64 = seq.val ∧
        u.rd .AKS_REPLAY_COUNT w 0 0 = min 65535 (s.rd .AKS_REPLAY_COUNT w 0 0 + 1) ∧ u.mem = s.mem)) ∧
    (∀ v, x.want = some v →
      (x.nakAt + 32 ≤ s.cyc → ∃ u : State, exec (.nakResend d h2c n) s = .next u.done ∧ u.out = s.out ++ [.nak d.val h2c n.val v] ∧ u.slice d.val h2c n.val = { x with nakAt := s.cyc }) ∧
      (s.cyc < x.nakAt + 32 → exec (.nakResend d h2c n) s = .next s.done))) ∧
  (∀ (s : State) (d : Cdie), (s.aksal d.val).state = 6 →
    ((s.slices.any fun x => x.1 / 32 == d.val && decide (16 ≤ x.2.streak)) = true ∨ s.atPhaseStep = true → ∃ u : State, exec (.aksalDown d) s = .next u.done ∧ (u.aksal d.val).state = 7 ∧ (u.door d.val 0).masked = true ∧
      (u.door d.val 0).transit = [] ∧ u.rd .HUB_INT_STATUS_AKSAL_DOWN d.val 0 0 = 1 ∧ u.mem = s.mem) ∧
    ((s.slices.any fun x => x.1 / 32 == d.val && decide (16 ≤ x.2.streak)) = false → s.atPhaseStep = false → exec (.aksalDown d) s = .next s.done) ∧
    (let down (i : Instr) : Prop := ∃ u : State, exec i s = .next u.done ∧ (u.aksal d.val).state = 0 ∧ (u.door d.val 0).masked = true ∧ (u.door d.val 0).transit = [] ∧ u.mem = s.mem
     ((s.aksal d.val).cdRst = true → down (.cdRstN d false)) ∧ ((s.aksal d.val).cdPwr = true → down (.cdPwrOk d false)) ∧
     ((s.aksal d.val).hbRst = true → down (.hbRstN d false)) ∧ ((s.aksal d.val).hbPwr = true → down (.hbPwrOk d false)))) ∧
  (∀ (s : State) (d : Cdie), (s.aksal d.val).state = 0 → s.linksLive = true →
    let x := s.aksal d.val
    let starts (i : Instr) : Prop := ∃ u : State, exec i s = .next u.done ∧ (u.aksal d.val).state = 1 ∧ (u.aksal d.val).ready = true ∧ u.out = s.out ++ [.hbTrn d.val 1] ∧ u = { s with aks := u.aks, out := u.out }
    (x.cdPwr = true → x.cdRst = false → x.hbPwr = true → x.hbRst = true → starts (.cdRstN d true)) ∧ (x.cdPwr = false → x.cdRst = true → x.hbPwr = true → x.hbRst = true → starts (.cdPwrOk d true)) ∧
    (x.cdPwr = true → x.cdRst = true → x.hbPwr = true → x.hbRst = false → starts (.hbRstN d true)) ∧ (x.cdPwr = true → x.cdRst = true → x.hbPwr = false → x.hbRst = true → starts (.hbPwrOk d true))) ∧
  (∀ (s : State) (d : Cdie), 1 ≤ (s.aksal d.val).state → (s.aksal d.val).state ≤ 5 →
    let x := s.aksal d.val
    (∀ die, x.state ≠ 2 → (if die then x.hubOk else x.dieOk) = true →
      ∃ u : State, exec (.trainingState d die []) s = .next u.done ∧ (u.aksal d.val).state = x.state + 1 ∧ (u.aksal d.val).dieOk = false ∧ (u.aksal d.val).hubOk = false ∧ u.mem = s.mem) ∧
    (∀ die, x.state ≠ 2 → (if die then x.hubOk else x.dieOk) = false →
      ∃ u : State, exec (.trainingState d die []) s = .next u.done ∧ (u.aksal d.val).state = x.state ∧ (if die then (u.aksal d.val).dieOk else (u.aksal d.val).hubOk) = true ∧ u = { s with aks := u.aks }) ∧
    (∀ (n : Fin 24) (l : List Nat), x.state = 2 → n.val < 16 → 4 < l.length → s.boot.stage ≠ .bringUp →
      ∃ u : State, exec (.trainingState d true [(n, l)]) s = .next u.done ∧ (u.aksal d.val).state = 0 ∧ u.rd .AKS_STATUS_FAIL_STATE (4 + d.val) 0 0 = 2 ∧ u.rd .AKS_STATUS_FAIL_SLICE (4 + d.val) 0 0 = n.val) ∧
    (s.now < x.stateAt + Config.msTicks 4 → exec (.stateTimeout d) s = .next s.done) ∧
    (x.stateAt + Config.msTicks 4 ≤ s.now → x.dieOk = false → s.boot.stage ≠ .bringUp →
      ∃ u : State, exec (.stateTimeout d) s = .next u.done ∧ (u.aksal d.val).state = 0 ∧ u.rd .AKS_STATUS_FAIL_STATE d.val 0 0 = x.state ∧ u.rd .AKS_STATUS_FAIL_SLICE d.val 0 0 = 0x1F ∧
        s.RegsBut u [.AKS_STATUS_FAIL_STATE, .AKS_STATUS_FAIL_SLICE] ∧ u = { s with regs := u.regs, aks := u.aks }))
end

