-- ==== Sys2Proof/Laws/Memory.lean ====
section
/-! SUPPORT. Sparse tables read back what was put, and every memory operation keeps the canonical form. -/

namespace Sys2Proof.Machine

/-! ## Tables -/

theorem Tab.find_erase {α : Type} (t : Tab α) (k n : Nat) : (Tab.erase t k).find n = if k = n then none else t.find n := by
  induction t with
  | nil => simp [Tab.erase, Tab.find]
  | cons e t ih =>
    obtain ⟨a, v⟩ := e
    by_cases h : a = k
    · subst h
      by_cases h2 : a = n <;> simp_all [Tab.erase, Tab.find]
    · by_cases h2 : a = n
      · subst h2
        simp [Tab.erase, Tab.find, h, Ne.symm h]
      · simp [Tab.erase, Tab.find, h, h2, ih]

theorem Tab.find_insert {α : Type} (t : Tab α) (k n : Nat) (x : α) (h : t.find k = none) : (Tab.insert t k x).find n = if k = n then some x else t.find n := by
  induction t with
  | nil => simp [Tab.insert, Tab.find]
  | cons e t ih =>
    obtain ⟨a, v⟩ := e
    have hak : a ≠ k := fun e => by simp [Tab.find, e] at h
    have ht : Tab.find t k = none := by simpa [Tab.find, hak] using h
    by_cases hlt : k < a
    · simp [Tab.insert, Tab.find, hlt]
    · by_cases h2 : a = n
      · subst h2
        simp [Tab.insert, Tab.find, hlt, Ne.symm hak]
      · simp [Tab.insert, Tab.find, hlt, h2, ih ht]

/-- A table reads what was put, and elsewhere as before. -/
theorem Tab.get_put {α : Type} [DecidableEq α] (d : α) (t : Tab α) (k n : Nat) (x : α) : Tab.get d (Tab.put d t k x) n = if k = n then x else Tab.get d t n := by
  unfold Tab.put Tab.get
  by_cases hx : x = d
  · subst hx
    rw [if_pos rfl, Tab.find_erase]
    split <;> rfl
  · rw [if_neg hx, Tab.find_insert _ _ _ _ (by rw [Tab.find_erase, if_pos rfl]), Tab.find_erase]
    split <;> simp_all

/-! ## Memory keeps its form -/

theorem keysRise_cons (a : Nat) (x : Byte) (t : List Host.Cell) : keysRise ((a, x) :: t) = true ↔ (∀ c ∈ t, a < c.1) ∧ keysRise t = true := by
  induction t generalizing a x with
  | nil => simp [keysRise]
  | cons e t ih =>
    obtain ⟨b, y⟩ := e
    have hb := ih b y
    simp only [keysRise, Bool.and_eq_true, decide_eq_true_eq]
    constructor
    · rintro ⟨h1, h2⟩
      refine ⟨fun c hc => ?_, h2⟩
      rcases List.mem_cons.mp hc with rfl | hc
      · exact h1
      · exact Nat.lt_trans h1 ((hb.mp h2).1 c hc)
    · rintro ⟨h1, h2⟩
      exact ⟨h1 (b, y) List.mem_cons_self, h2⟩

theorem mem_erase {t : List Host.Cell} {k : Nat} {c : Host.Cell} (h : c ∈ Tab.erase t k) : c ∈ t ∧ c.1 ≠ k := by
  induction t with
  | nil => simp [Tab.erase] at h
  | cons e t ih =>
    obtain ⟨a, v⟩ := e
    by_cases ha : a = k
    · simp only [Tab.erase, ha, if_true] at h
      exact ⟨List.mem_cons_of_mem _ (ih h).1, (ih h).2⟩
    · simp only [Tab.erase, ha, if_false, List.mem_cons] at h
      rcases h with rfl | h
      · exact ⟨List.mem_cons_self, ha⟩
      · exact ⟨List.mem_cons_of_mem _ (ih h).1, (ih h).2⟩

theorem mem_insert {t : List Host.Cell} {k : Nat} {x : Byte} {c : Host.Cell} (h : c ∈ Tab.insert t k x) : c = (k, x) ∨ c ∈ t := by
  induction t with
  | nil => simpa [Tab.insert] using h
  | cons e t ih =>
    obtain ⟨a, v⟩ := e
    by_cases ha : k < a
    · simpa [Tab.insert, ha] using h
    · simp only [Tab.insert, ha, if_false, List.mem_cons] at h
      rcases h with rfl | h
      · exact .inr List.mem_cons_self
      · exact (ih h).imp id (List.mem_cons_of_mem _)

theorem keysRise_erase {t : List Host.Cell} (k : Nat) (h : keysRise t = true) : keysRise (Tab.erase t k) = true := by
  induction t with
  | nil => rfl
  | cons e t ih =>
    obtain ⟨a, v⟩ := e
    obtain ⟨h1, h2⟩ := (keysRise_cons a v t).mp h
    by_cases ha : a = k
    · simpa [Tab.erase, ha] using ih h2
    · simp only [Tab.erase, ha, if_false]
      exact (keysRise_cons _ _ _).mpr ⟨fun c hc => h1 c (mem_erase hc).1, ih h2⟩

theorem keysRise_insert {t : List Host.Cell} (k : Nat) (x : Byte) (h : keysRise t = true) (hk : ∀ c ∈ t, c.1 ≠ k) : keysRise (Tab.insert t k x) = true := by
  induction t with
  | nil => rfl
  | cons e t ih =>
    obtain ⟨a, v⟩ := e
    obtain ⟨h1, h2⟩ := (keysRise_cons a v t).mp h
    have hak : a ≠ k := hk (a, v) List.mem_cons_self
    by_cases ha : k < a
    · simp only [Tab.insert, ha, if_true]
      refine (keysRise_cons _ _ _).mpr ⟨fun c hc => ?_, h⟩
      rcases List.mem_cons.mp hc with rfl | hc
      · exact ha
      · exact Nat.lt_trans ha (h1 c hc)
    · simp only [Tab.insert, ha, if_false]
      refine (keysRise_cons _ _ _).mpr ⟨fun c hc => ?_, ih h2 fun c hc => hk c (List.mem_cons_of_mem _ hc)⟩
      rcases mem_insert hc with rfl | hc
      · show a < k
        omega
      · exact h1 c hc

/-- A byte's write keeps the canonical form. -/
theorem memWrite_wf {m : List Host.Cell} (a : Nat) (v : Byte) (h : Memory.wf m) : Memory.wf (memWrite m a v) := by
  obtain ⟨h1, h2⟩ := h
  rw [List.all_eq_true] at h2
  unfold memWrite Tab.put
  by_cases hv : v = unwritten
  · rw [if_pos hv]
    exact ⟨keysRise_erase a h1, List.all_eq_true.mpr fun c hc => h2 c (mem_erase hc).1⟩
  · rw [if_neg hv]
    refine ⟨keysRise_insert a v (keysRise_erase a h1) fun c hc => (mem_erase hc).2, List.all_eq_true.mpr fun c hc => ?_⟩
    rcases mem_insert hc with rfl | hc
    · simpa using hv
    · exact h2 c (mem_erase hc).1

/-- So does the write of n bytes. -/
theorem memWriteN_wf {m : List Host.Cell} (a v n : Nat) (h : Memory.wf m) : Memory.wf (memWriteN m a v n) := by
  induction n generalizing a v with
  | zero => exact h
  | succ n ih => exact memWrite_wf _ _ (ih _ _)

/-- A sector's write, and so every store of the stacks, keeps the canonical form. -/
theorem State.storeWord_wf {s : State} (key : Nat) (data : BitVec 256) (chk : BitVec 32) (h : Memory.wf s.mem) : Memory.wf (s.storeWord key data chk).mem :=
  memWriteN_wf _ _ _ (memWriteN_wf _ _ _ h)

theorem State.storeSector_wf {s : State} (key : Nat) (data : BitVec 256) (h : Memory.wf s.mem) : Memory.wf (s.storeSector key data).mem :=
  State.storeWord_wf _ _ _ h

theorem State.storePoison_wf {s : State} (key : Nat) (h : Memory.wf s.mem) : Memory.wf (s.storePoison key).mem := State.storeWord_wf _ _ _ h

end Sys2Proof.Machine
end

