-- ==== Sys2Proof/Laws/PerInstr.lean ====
section
/-! SUPPORT. The per-instruction family Place: every command has its row in spec/opcode_table.json, and no table word spells it. -/

namespace Sys2Proof.Laws

/-- The place of a command among the rows of spec/opcode_table.json, counted from 0. -/
def rowOf (i : Instr) : Nat :=
  match i with
  | .registerWrite _ _ => 0
  | .halfRead _ => 1
  | .ringForward _ _ => 2
  | .ringFlitRetry _ _ => 3
  | .ringLinkDown _ => 4
  | .imageLoad _ => 5
  | .imgGo => 6
  | .targetReady _ => 7
  | .commitTick => 8
  | .imgAbort => 9
  | .quiesce _ => 10
  | .quiesced _ => 11
  | .advance => 12
  | .busSample _ => 13
  | .pf1 => 14
  | .pf1Clear => 15
  | .pf2 => 16
  | .pfN _ => 17
  | .brownout => 18
  | .surgeWarning => 19
  | .writeDrainEnd _ _ => 20
  | .keepReq => 21
  | .slewEstimate _ => 22
  | .vaonPowerUp => 23
  | .kaPg => 24
  | .kaPgLoss => 25
  | .pwrGood => 26
  | .pllLock _ => 27
  | .refLoss _ => 28
  | .refReturn => 29
  | .timeExchange => 30
  | .timePacket _ => 31
  | .pkgRstN _ _ => 32
  | .warmRstN _ => 33
  | .perstN _ => 34
  | .warm _ => 35
  | .cold _ => 36
  | .coldBringup => 37
  | .firstStage _ => 38
  | .pcieReadiness => 39
  | .hubFirmware _ => 40
  | .ringLinkUp _ => 41
  | .stackIdentification _ => 42
  | .relock => 43
  | .softRepairs _ => 44
  | .training _ => 45
  | .memoryClear => 46
  | .aksalLinkUp => 47
  | .computeRelease _ => 48
  | .enginesSet => 49
  | .ready => 50
  | .warmBringup => 51
  | .configurationCrcCheck _ => 52
  | .selfRefreshExitCheck _ _ => 53
  | .enginesRestored => 54
  | .bootWatchdog => 55
  | .recovGo => 56
  | .casementReset _ => 57
  | .caseSelfRst _ => 58
  | .casementResetComplete _ => 59
  | .svcWinBase _ _ => 60
  | .layoutSwitch => 61
  | .doorArrival _ _ _ => 62
  | .doorAdmit _ _ => 63
  | .louvreWindow _ _ _ => 64
  | .darbPrio _ _ _ => 65
  | .doorMask _ _ => 66
  | .doorUnmask _ _ => 67
  | .slotGrant _ _ => 68
  | .ageCeiling _ _ => 69
  | .waitStep _ _ _ => 70
  | .transomMergeWindow _ _ _ => 71
  | .readReturn _ _ _ => 72
  | .merge _ _ _ => 73
  | .pcDebugHalt _ _ => 74
  | .halted _ _ => 75
  | .haltClear _ _ => 76
  | .pcDebugCmd _ _ _ => 77
  | .due _ _ _ => 78
  | .refPb _ _ => 79
  | .emergencyRefresh _ _ => 80
  | .refAb _ _ => 81
  | .srEntry _ _ => 82
  | .srExit _ _ => 83
  | .actTableClear _ _ => 84
  | .neighbourRefresh _ _ _ => 85
  | .hingeRequest _ => 86
  | .hingeStart => 87
  | .switchTick => 88
  | .hingeRelease _ _ => 89
  | .clusterGate _ _ => 90
  | .clusterUngate _ _ => 91
  | .powerStateRequest _ => 92
  | .trnStart _ _ => 93
  | .compareDone _ _ _ => 94
  | .retrainDue _ _ => 95
  | .retrainPause _ _ => 96
  | .retrainPauseEnd _ _ _ _ => 97
  | .parityAlert _ _ => 98
  | .replay _ _ => 99
  | .replayEnd _ _ => 100
  | .bucketLeak _ => 101
  | .portOperation _ _ => 102
  | .programStep _ _ => 103
  | .directAccess _ _ => 104
  | .temperatureReadout _ _ _ => 105
  | .dieReading _ _ => 106
  | .closureAnnouncement _ _ _ => 107
  | .stale _ _ => 108
  | .throttle _ _ => 109
  | .thermTripN _ => 110
  | .coreNop _ => 111
  | .coreEnd _ => 112
  | .coreLoop _ => 113
  | .setag _ => 114
  | .setsb _ => 115
  | .waits _ => 116
  | .coreSync _ => 117
  | .trace _ => 118
  | .movt _ => 119
  | .zero _ => 120
  | .fill _ => 121
  | .trn _ => 122
  | .sget _ => 123
  | .sput _ => 124
  | .sgets _ => 125
  | .sputs _ => 126
  | .mma _ => 127
  | .mma8 _ => 128
  | .add _ => 129
  | .sub _ => 130
  | .mul _ => 131
  | .fma _ => 132
  | .max _ => 133
  | .min _ => 134
  | .abs _ => 135
  | .cmp _ => 136
  | .sel _ => 137
  | .lut _ => 138
  | .rcp _ => 139
  | .rsq _ => 140
  | .rsum _ => 141
  | .rmax _ => 142
  | .rowop _ => 143
  | .scl _ => 144
  | .cvt _ => 145
  | .unpk _ => 146
  | .cvti _ => 147
  | .iadd _ => 148
  | .streamArrival _ => 149
  | .kernelComplete _ _ => 150
  | .clusterClear _ _ => 151
  | .tableFetch _ _ => 152
  | .queueDb _ _ => 153
  | .queueCplDb _ _ => 154
  | .commandFetch _ => 155
  | .completionRecord _ => 156
  | .engineNop _ => 157
  | .wait _ => 158
  | .signal _ => 159
  | .syncCnt _ _ _ => 160
  | .dispatch _ => 161
  | .copy _ => 162
  | .moveFill _ => 163
  | .enable _ => 164
  | .restart _ => 165
  | .watchdog _ => 166
  | .poolInit _ => 167
  | .alloc _ => 168
  | .free _ => 169
  | .spill _ => 170
  | .prefetch _ => 171
  | .fetchDone _ _ _ _ => 172
  | .prefetchWindow _ _ _ => 173
  | .transportError _ _ _ => 174
  | .ptInval _ => 175
  | .expLoad _ => 176
  | .expBind _ => 177
  | .expRelease _ => 178
  | .tileDone _ _ => 179
  | .allReduce _ => 180
  | .reduceScatter _ => 181
  | .allGather _ => 182
  | .broadcast _ => 183
  | .rotate _ => 184
  | .shardPut _ => 185
  | .barrier _ => 186
  | .collectiveDeadline _ => 187
  | .fenceAdd _ => 188
  | .fenceDel _ => 189
  | .scrub _ => 190
  | .repair _ => 191
  | .retrain _ => 192
  | .march _ => 193
  | .release _ => 194
  | .hinge _ => 195
  | .caseReset _ => 196
  | .portTraining _ _ _ => 197
  | .linkFail _ _ _ => 198
  | .trainingRetry _ _ => 199
  | .route _ _ => 200
  | .rdreq _ _ _ => 201
  | .wrreq _ _ _ => 202
  | .rdrsp _ _ => 203
  | .wrack _ _ => 204
  | .coll _ _ => 205
  | .collReady _ _ => 206
  | .stall _ _ => 207
  | .bar2Read _ _ _ => 208
  | .bar2Write _ _ _ => 209
  | .configurationRequest _ _ _ => 210
  | .flr _ => 211
  | .hostReadError _ => 212
  | .rdBlk _ _ => 213
  | .rdSec _ _ => 214
  | .wrBlk _ _ => 215
  | .wrSec _ _ => 216
  | .pgRd _ _ => 217
  | .rdRsp _ _ => 218
  | .wrRsp _ _ => 219
  | .flitError _ _ _ _ _ => 220
  | .nak _ _ _ _ => 221
  | .nakResend _ _ _ => 222
  | .aksalDown _ => 223
  | .cdRstN _ _ => 224
  | .cdPwrOk _ _ => 225
  | .hbRstN _ _ => 226
  | .hbPwrOk _ _ => 227
  | .trainingState _ _ _ => 228
  | .stateTimeout _ => 229
  | .counterRead _ => 230
  | .freeze _ => 231
  | .thaw _ => 232
  | .fnCntCfg _ _ _ => 233
  | .sampleRecord _ => 234
  | .traceRecord _ => 235
  | .trcCtrl _ _ => 236
  | .registerRead _ => 237
  | .pwrGoodLoss => 238
  | .hostReadCompletion _ _ => 239
  | .trowiryFlitRetry _ _ _ => 240
  | .msixUnmask _ _ => 241

/-- A command has a row of the table, and since no row has bits, no word decodes to it. -/
def Place.Statement (i : Instr) : Prop := rowOf i < 242 ∧ ∀ n w : Nat, decodeTableWord n w ≠ some i

end Sys2Proof.Laws

theorem Sys2Proof.Laws.Place.registerWrite : ∀ x0 x1, Sys2Proof.Laws.Place.Statement (.registerWrite x0 x1) :=
  fun _ _ => ⟨(by decide : 0 < 242), fun _ _ h => nomatch h⟩

theorem Sys2Proof.Laws.Place.halfRead : ∀ x0, Sys2Proof.Laws.Place.Statement (.halfRead x0) :=
  fun _ => ⟨(by decide : 1 < 242), fun _ _ h => nomatch h⟩

theorem Sys2Proof.Laws.Place.ringForward : ∀ x0 x1, Sys2Proof.Laws.Place.Statement (.ringForward x0 x1) :=
  fun _ _ => ⟨(by decide : 2 < 242), fun _ _ h => nomatch h⟩

theorem Sys2Proof.Laws.Place.ringFlitRetry : ∀ x0 x1, Sys2Proof.Laws.Place.Statement (.ringFlitRetry x0 x1) :=
  fun _ _ => ⟨(by decide : 3 < 242), fun _ _ h => nomatch h⟩

theorem Sys2Proof.Laws.Place.ringLinkDown : ∀ x0, Sys2Proof.Laws.Place.Statement (.ringLinkDown x0) :=
  fun _ => ⟨(by decide : 4 < 242), fun _ _ h => nomatch h⟩

theorem Sys2Proof.Laws.Place.imageLoad : ∀ x0, Sys2Proof.Laws.Place.Statement (.imageLoad x0) :=
  fun _ => ⟨(by decide : 5 < 242), fun _ _ h => nomatch h⟩

theorem Sys2Proof.Laws.Place.imgGo : Sys2Proof.Laws.Place.Statement .imgGo :=
  ⟨(by decide : 6 < 242), fun _ _ h => nomatch h⟩

theorem Sys2Proof.Laws.Place.targetReady : ∀ x0, Sys2Proof.Laws.Place.Statement (.targetReady x0) :=
  fun _ => ⟨(by decide : 7 < 242), fun _ _ h => nomatch h⟩

theorem Sys2Proof.Laws.Place.commitTick : Sys2Proof.Laws.Place.Statement .commitTick :=
  ⟨(by decide : 8 < 242), fun _ _ h => nomatch h⟩

theorem Sys2Proof.Laws.Place.imgAbort : Sys2Proof.Laws.Place.Statement .imgAbort :=
  ⟨(by decide : 9 < 242), fun _ _ h => nomatch h⟩

theorem Sys2Proof.Laws.Place.quiesce : ∀ x0, Sys2Proof.Laws.Place.Statement (.quiesce x0) :=
  fun _ => ⟨(by decide : 10 < 242), fun _ _ h => nomatch h⟩

theorem Sys2Proof.Laws.Place.quiesced : ∀ x0, Sys2Proof.Laws.Place.Statement (.quiesced x0) :=
  fun _ => ⟨(by decide : 11 < 242), fun _ _ h => nomatch h⟩

theorem Sys2Proof.Laws.Place.advance : Sys2Proof.Laws.Place.Statement .advance :=
  ⟨(by decide : 12 < 242), fun _ _ h => nomatch h⟩

theorem Sys2Proof.Laws.Place.busSample : ∀ x0, Sys2Proof.Laws.Place.Statement (.busSample x0) :=
  fun _ => ⟨(by decide : 13 < 242), fun _ _ h => nomatch h⟩

theorem Sys2Proof.Laws.Place.pf1 : Sys2Proof.Laws.Place.Statement .pf1 :=
  ⟨(by decide : 14 < 242), fun _ _ h => nomatch h⟩

theorem Sys2Proof.Laws.Place.pf1Clear : Sys2Proof.Laws.Place.Statement .pf1Clear :=
  ⟨(by decide : 15 < 242), fun _ _ h => nomatch h⟩

theorem Sys2Proof.Laws.Place.pf2 : Sys2Proof.Laws.Place.Statement .pf2 :=
  ⟨(by decide : 16 < 242), fun _ _ h => nomatch h⟩

theorem Sys2Proof.Laws.Place.pfN : ∀ x0, Sys2Proof.Laws.Place.Statement (.pfN x0) :=
  fun _ => ⟨(by decide : 17 < 242), fun _ _ h => nomatch h⟩

theorem Sys2Proof.Laws.Place.brownout : Sys2Proof.Laws.Place.Statement .brownout :=
  ⟨(by decide : 18 < 242), fun _ _ h => nomatch h⟩

theorem Sys2Proof.Laws.Place.surgeWarning : Sys2Proof.Laws.Place.Statement .surgeWarning :=
  ⟨(by decide : 19 < 242), fun _ _ h => nomatch h⟩

theorem Sys2Proof.Laws.Place.writeDrainEnd : ∀ x0 x1, Sys2Proof.Laws.Place.Statement (.writeDrainEnd x0 x1) :=
  fun _ _ => ⟨(by decide : 20 < 242), fun _ _ h => nomatch h⟩

theorem Sys2Proof.Laws.Place.keepReq : Sys2Proof.Laws.Place.Statement .keepReq :=
  ⟨(by decide : 21 < 242), fun _ _ h => nomatch h⟩

theorem Sys2Proof.Laws.Place.slewEstimate : ∀ x0, Sys2Proof.Laws.Place.Statement (.slewEstimate x0) :=
  fun _ => ⟨(by decide : 22 < 242), fun _ _ h => nomatch h⟩

theorem Sys2Proof.Laws.Place.vaonPowerUp : Sys2Proof.Laws.Place.Statement .vaonPowerUp :=
  ⟨(by decide : 23 < 242), fun _ _ h => nomatch h⟩

theorem Sys2Proof.Laws.Place.kaPg : Sys2Proof.Laws.Place.Statement .kaPg :=
  ⟨(by decide : 24 < 242), fun _ _ h => nomatch h⟩

theorem Sys2Proof.Laws.Place.kaPgLoss : Sys2Proof.Laws.Place.Statement .kaPgLoss :=
  ⟨(by decide : 25 < 242), fun _ _ h => nomatch h⟩

theorem Sys2Proof.Laws.Place.pwrGood : Sys2Proof.Laws.Place.Statement .pwrGood :=
  ⟨(by decide : 26 < 242), fun _ _ h => nomatch h⟩

theorem Sys2Proof.Laws.Place.pllLock : ∀ x0, Sys2Proof.Laws.Place.Statement (.pllLock x0) :=
  fun _ => ⟨(by decide : 27 < 242), fun _ _ h => nomatch h⟩

theorem Sys2Proof.Laws.Place.refLoss : ∀ x0, Sys2Proof.Laws.Place.Statement (.refLoss x0) :=
  fun _ => ⟨(by decide : 28 < 242), fun _ _ h => nomatch h⟩

theorem Sys2Proof.Laws.Place.refReturn : Sys2Proof.Laws.Place.Statement .refReturn :=
  ⟨(by decide : 29 < 242), fun _ _ h => nomatch h⟩

theorem Sys2Proof.Laws.Place.timeExchange : Sys2Proof.Laws.Place.Statement .timeExchange :=
  ⟨(by decide : 30 < 242), fun _ _ h => nomatch h⟩

theorem Sys2Proof.Laws.Place.timePacket : ∀ x0, Sys2Proof.Laws.Place.Statement (.timePacket x0) :=
  fun _ => ⟨(by decide : 31 < 242), fun _ _ h => nomatch h⟩

theorem Sys2Proof.Laws.Place.pkgRstN : ∀ x0 x1, Sys2Proof.Laws.Place.Statement (.pkgRstN x0 x1) :=
  fun _ _ => ⟨(by decide : 32 < 242), fun _ _ h => nomatch h⟩

theorem Sys2Proof.Laws.Place.warmRstN : ∀ x0, Sys2Proof.Laws.Place.Statement (.warmRstN x0) :=
  fun _ => ⟨(by decide : 33 < 242), fun _ _ h => nomatch h⟩

theorem Sys2Proof.Laws.Place.perstN : ∀ x0, Sys2Proof.Laws.Place.Statement (.perstN x0) :=
  fun _ => ⟨(by decide : 34 < 242), fun _ _ h => nomatch h⟩

theorem Sys2Proof.Laws.Place.warm : ∀ x0, Sys2Proof.Laws.Place.Statement (.warm x0) :=
  fun _ => ⟨(by decide : 35 < 242), fun _ _ h => nomatch h⟩

theorem Sys2Proof.Laws.Place.cold : ∀ x0, Sys2Proof.Laws.Place.Statement (.cold x0) :=
  fun _ => ⟨(by decide : 36 < 242), fun _ _ h => nomatch h⟩

theorem Sys2Proof.Laws.Place.coldBringup : Sys2Proof.Laws.Place.Statement .coldBringup :=
  ⟨(by decide : 37 < 242), fun _ _ h => nomatch h⟩

theorem Sys2Proof.Laws.Place.firstStage : ∀ x0, Sys2Proof.Laws.Place.Statement (.firstStage x0) :=
  fun _ => ⟨(by decide : 38 < 242), fun _ _ h => nomatch h⟩

theorem Sys2Proof.Laws.Place.pcieReadiness : Sys2Proof.Laws.Place.Statement .pcieReadiness :=
  ⟨(by decide : 39 < 242), fun _ _ h => nomatch h⟩

theorem Sys2Proof.Laws.Place.hubFirmware : ∀ x0, Sys2Proof.Laws.Place.Statement (.hubFirmware x0) :=
  fun _ => ⟨(by decide : 40 < 242), fun _ _ h => nomatch h⟩

theorem Sys2Proof.Laws.Place.ringLinkUp : ∀ x0, Sys2Proof.Laws.Place.Statement (.ringLinkUp x0) :=
  fun _ => ⟨(by decide : 41 < 242), fun _ _ h => nomatch h⟩

theorem Sys2Proof.Laws.Place.stackIdentification : ∀ x0, Sys2Proof.Laws.Place.Statement (.stackIdentification x0) :=
  fun _ => ⟨(by decide : 42 < 242), fun _ _ h => nomatch h⟩

theorem Sys2Proof.Laws.Place.relock : Sys2Proof.Laws.Place.Statement .relock :=
  ⟨(by decide : 43 < 242), fun _ _ h => nomatch h⟩

theorem Sys2Proof.Laws.Place.softRepairs : ∀ x0, Sys2Proof.Laws.Place.Statement (.softRepairs x0) :=
  fun _ => ⟨(by decide : 44 < 242), fun _ _ h => nomatch h⟩

theorem Sys2Proof.Laws.Place.training : ∀ x0, Sys2Proof.Laws.Place.Statement (.training x0) :=
  fun _ => ⟨(by decide : 45 < 242), fun _ _ h => nomatch h⟩

theorem Sys2Proof.Laws.Place.memoryClear : Sys2Proof.Laws.Place.Statement .memoryClear :=
  ⟨(by decide : 46 < 242), fun _ _ h => nomatch h⟩

theorem Sys2Proof.Laws.Place.aksalLinkUp : Sys2Proof.Laws.Place.Statement .aksalLinkUp :=
  ⟨(by decide : 47 < 242), fun _ _ h => nomatch h⟩

theorem Sys2Proof.Laws.Place.computeRelease : ∀ x0, Sys2Proof.Laws.Place.Statement (.computeRelease x0) :=
  fun _ => ⟨(by decide : 48 < 242), fun _ _ h => nomatch h⟩

theorem Sys2Proof.Laws.Place.enginesSet : Sys2Proof.Laws.Place.Statement .enginesSet :=
  ⟨(by decide : 49 < 242), fun _ _ h => nomatch h⟩

theorem Sys2Proof.Laws.Place.ready : Sys2Proof.Laws.Place.Statement .ready :=
  ⟨(by decide : 50 < 242), fun _ _ h => nomatch h⟩

theorem Sys2Proof.Laws.Place.warmBringup : Sys2Proof.Laws.Place.Statement .warmBringup :=
  ⟨(by decide : 51 < 242), fun _ _ h => nomatch h⟩

theorem Sys2Proof.Laws.Place.configurationCrcCheck : ∀ x0, Sys2Proof.Laws.Place.Statement (.configurationCrcCheck x0) :=
  fun _ => ⟨(by decide : 52 < 242), fun _ _ h => nomatch h⟩

theorem Sys2Proof.Laws.Place.selfRefreshExitCheck : ∀ x0 x1, Sys2Proof.Laws.Place.Statement (.selfRefreshExitCheck x0 x1) :=
  fun _ _ => ⟨(by decide : 53 < 242), fun _ _ h => nomatch h⟩

theorem Sys2Proof.Laws.Place.enginesRestored : Sys2Proof.Laws.Place.Statement .enginesRestored :=
  ⟨(by decide : 54 < 242), fun _ _ h => nomatch h⟩

theorem Sys2Proof.Laws.Place.bootWatchdog : Sys2Proof.Laws.Place.Statement .bootWatchdog :=
  ⟨(by decide : 55 < 242), fun _ _ h => nomatch h⟩

theorem Sys2Proof.Laws.Place.recovGo : Sys2Proof.Laws.Place.Statement .recovGo :=
  ⟨(by decide : 56 < 242), fun _ _ h => nomatch h⟩

theorem Sys2Proof.Laws.Place.casementReset : ∀ x0, Sys2Proof.Laws.Place.Statement (.casementReset x0) :=
  fun _ => ⟨(by decide : 57 < 242), fun _ _ h => nomatch h⟩

theorem Sys2Proof.Laws.Place.caseSelfRst : ∀ x0, Sys2Proof.Laws.Place.Statement (.caseSelfRst x0) :=
  fun _ => ⟨(by decide : 58 < 242), fun _ _ h => nomatch h⟩

theorem Sys2Proof.Laws.Place.casementResetComplete : ∀ x0, Sys2Proof.Laws.Place.Statement (.casementResetComplete x0) :=
  fun _ => ⟨(by decide : 59 < 242), fun _ _ h => nomatch h⟩

theorem Sys2Proof.Laws.Place.svcWinBase : ∀ x0 x1, Sys2Proof.Laws.Place.Statement (.svcWinBase x0 x1) :=
  fun _ _ => ⟨(by decide : 60 < 242), fun _ _ h => nomatch h⟩

theorem Sys2Proof.Laws.Place.layoutSwitch : Sys2Proof.Laws.Place.Statement .layoutSwitch :=
  ⟨(by decide : 61 < 242), fun _ _ h => nomatch h⟩

theorem Sys2Proof.Laws.Place.doorArrival : ∀ x0 x1 x2, Sys2Proof.Laws.Place.Statement (.doorArrival x0 x1 x2) :=
  fun _ _ _ => ⟨(by decide : 62 < 242), fun _ _ h => nomatch h⟩

theorem Sys2Proof.Laws.Place.doorAdmit : ∀ x0 x1, Sys2Proof.Laws.Place.Statement (.doorAdmit x0 x1) :=
  fun _ _ => ⟨(by decide : 63 < 242), fun _ _ h => nomatch h⟩

theorem Sys2Proof.Laws.Place.louvreWindow : ∀ x0 x1 x2, Sys2Proof.Laws.Place.Statement (.louvreWindow x0 x1 x2) :=
  fun _ _ _ => ⟨(by decide : 64 < 242), fun _ _ h => nomatch h⟩

theorem Sys2Proof.Laws.Place.darbPrio : ∀ x0 x1 x2, Sys2Proof.Laws.Place.Statement (.darbPrio x0 x1 x2) :=
  fun _ _ _ => ⟨(by decide : 65 < 242), fun _ _ h => nomatch h⟩

theorem Sys2Proof.Laws.Place.doorMask : ∀ x0 x1, Sys2Proof.Laws.Place.Statement (.doorMask x0 x1) :=
  fun _ _ => ⟨(by decide : 66 < 242), fun _ _ h => nomatch h⟩

theorem Sys2Proof.Laws.Place.doorUnmask : ∀ x0 x1, Sys2Proof.Laws.Place.Statement (.doorUnmask x0 x1) :=
  fun _ _ => ⟨(by decide : 67 < 242), fun _ _ h => nomatch h⟩

theorem Sys2Proof.Laws.Place.slotGrant : ∀ x0 x1, Sys2Proof.Laws.Place.Statement (.slotGrant x0 x1) :=
  fun _ _ => ⟨(by decide : 68 < 242), fun _ _ h => nomatch h⟩

theorem Sys2Proof.Laws.Place.ageCeiling : ∀ x0 x1, Sys2Proof.Laws.Place.Statement (.ageCeiling x0 x1) :=
  fun _ _ => ⟨(by decide : 69 < 242), fun _ _ h => nomatch h⟩

theorem Sys2Proof.Laws.Place.waitStep : ∀ x0 x1 x2, Sys2Proof.Laws.Place.Statement (.waitStep x0 x1 x2) :=
  fun _ _ _ => ⟨(by decide : 70 < 242), fun _ _ h => nomatch h⟩

theorem Sys2Proof.Laws.Place.transomMergeWindow : ∀ x0 x1 x2, Sys2Proof.Laws.Place.Statement (.transomMergeWindow x0 x1 x2) :=
  fun _ _ _ => ⟨(by decide : 71 < 242), fun _ _ h => nomatch h⟩

theorem Sys2Proof.Laws.Place.readReturn : ∀ x0 x1 x2, Sys2Proof.Laws.Place.Statement (.readReturn x0 x1 x2) :=
  fun _ _ _ => ⟨(by decide : 72 < 242), fun _ _ h => nomatch h⟩

theorem Sys2Proof.Laws.Place.merge : ∀ x0 x1 x2, Sys2Proof.Laws.Place.Statement (.merge x0 x1 x2) :=
  fun _ _ _ => ⟨(by decide : 73 < 242), fun _ _ h => nomatch h⟩

theorem Sys2Proof.Laws.Place.pcDebugHalt : ∀ x0 x1, Sys2Proof.Laws.Place.Statement (.pcDebugHalt x0 x1) :=
  fun _ _ => ⟨(by decide : 74 < 242), fun _ _ h => nomatch h⟩

theorem Sys2Proof.Laws.Place.halted : ∀ x0 x1, Sys2Proof.Laws.Place.Statement (.halted x0 x1) :=
  fun _ _ => ⟨(by decide : 75 < 242), fun _ _ h => nomatch h⟩

theorem Sys2Proof.Laws.Place.haltClear : ∀ x0 x1, Sys2Proof.Laws.Place.Statement (.haltClear x0 x1) :=
  fun _ _ => ⟨(by decide : 76 < 242), fun _ _ h => nomatch h⟩

theorem Sys2Proof.Laws.Place.pcDebugCmd : ∀ x0 x1 x2, Sys2Proof.Laws.Place.Statement (.pcDebugCmd x0 x1 x2) :=
  fun _ _ _ => ⟨(by decide : 77 < 242), fun _ _ h => nomatch h⟩

theorem Sys2Proof.Laws.Place.due : ∀ x0 x1 x2, Sys2Proof.Laws.Place.Statement (.due x0 x1 x2) :=
  fun _ _ _ => ⟨(by decide : 78 < 242), fun _ _ h => nomatch h⟩

theorem Sys2Proof.Laws.Place.refPb : ∀ x0 x1, Sys2Proof.Laws.Place.Statement (.refPb x0 x1) :=
  fun _ _ => ⟨(by decide : 79 < 242), fun _ _ h => nomatch h⟩

theorem Sys2Proof.Laws.Place.emergencyRefresh : ∀ x0 x1, Sys2Proof.Laws.Place.Statement (.emergencyRefresh x0 x1) :=
  fun _ _ => ⟨(by decide : 80 < 242), fun _ _ h => nomatch h⟩

theorem Sys2Proof.Laws.Place.refAb : ∀ x0 x1, Sys2Proof.Laws.Place.Statement (.refAb x0 x1) :=
  fun _ _ => ⟨(by decide : 81 < 242), fun _ _ h => nomatch h⟩

theorem Sys2Proof.Laws.Place.srEntry : ∀ x0 x1, Sys2Proof.Laws.Place.Statement (.srEntry x0 x1) :=
  fun _ _ => ⟨(by decide : 82 < 242), fun _ _ h => nomatch h⟩

theorem Sys2Proof.Laws.Place.srExit : ∀ x0 x1, Sys2Proof.Laws.Place.Statement (.srExit x0 x1) :=
  fun _ _ => ⟨(by decide : 83 < 242), fun _ _ h => nomatch h⟩

theorem Sys2Proof.Laws.Place.actTableClear : ∀ x0 x1, Sys2Proof.Laws.Place.Statement (.actTableClear x0 x1) :=
  fun _ _ => ⟨(by decide : 84 < 242), fun _ _ h => nomatch h⟩

theorem Sys2Proof.Laws.Place.neighbourRefresh : ∀ x0 x1 x2, Sys2Proof.Laws.Place.Statement (.neighbourRefresh x0 x1 x2) :=
  fun _ _ _ => ⟨(by decide : 85 < 242), fun _ _ h => nomatch h⟩

theorem Sys2Proof.Laws.Place.hingeRequest : ∀ x0, Sys2Proof.Laws.Place.Statement (.hingeRequest x0) :=
  fun _ => ⟨(by decide : 86 < 242), fun _ _ h => nomatch h⟩

theorem Sys2Proof.Laws.Place.hingeStart : Sys2Proof.Laws.Place.Statement .hingeStart :=
  ⟨(by decide : 87 < 242), fun _ _ h => nomatch h⟩

theorem Sys2Proof.Laws.Place.switchTick : Sys2Proof.Laws.Place.Statement .switchTick :=
  ⟨(by decide : 88 < 242), fun _ _ h => nomatch h⟩

theorem Sys2Proof.Laws.Place.hingeRelease : ∀ x0 x1, Sys2Proof.Laws.Place.Statement (.hingeRelease x0 x1) :=
  fun _ _ => ⟨(by decide : 89 < 242), fun _ _ h => nomatch h⟩

theorem Sys2Proof.Laws.Place.clusterGate : ∀ x0 x1, Sys2Proof.Laws.Place.Statement (.clusterGate x0 x1) :=
  fun _ _ => ⟨(by decide : 90 < 242), fun _ _ h => nomatch h⟩

theorem Sys2Proof.Laws.Place.clusterUngate : ∀ x0 x1, Sys2Proof.Laws.Place.Statement (.clusterUngate x0 x1) :=
  fun _ _ => ⟨(by decide : 91 < 242), fun _ _ h => nomatch h⟩

theorem Sys2Proof.Laws.Place.powerStateRequest : ∀ x0, Sys2Proof.Laws.Place.Statement (.powerStateRequest x0) :=
  fun _ => ⟨(by decide : 92 < 242), fun _ _ h => nomatch h⟩

theorem Sys2Proof.Laws.Place.trnStart : ∀ x0 x1, Sys2Proof.Laws.Place.Statement (.trnStart x0 x1) :=
  fun _ _ => ⟨(by decide : 93 < 242), fun _ _ h => nomatch h⟩

theorem Sys2Proof.Laws.Place.compareDone : ∀ x0 x1 x2, Sys2Proof.Laws.Place.Statement (.compareDone x0 x1 x2) :=
  fun _ _ _ => ⟨(by decide : 94 < 242), fun _ _ h => nomatch h⟩

theorem Sys2Proof.Laws.Place.retrainDue : ∀ x0 x1, Sys2Proof.Laws.Place.Statement (.retrainDue x0 x1) :=
  fun _ _ => ⟨(by decide : 95 < 242), fun _ _ h => nomatch h⟩

theorem Sys2Proof.Laws.Place.retrainPause : ∀ x0 x1, Sys2Proof.Laws.Place.Statement (.retrainPause x0 x1) :=
  fun _ _ => ⟨(by decide : 96 < 242), fun _ _ h => nomatch h⟩

theorem Sys2Proof.Laws.Place.retrainPauseEnd : ∀ x0 x1 x2 x3, Sys2Proof.Laws.Place.Statement (.retrainPauseEnd x0 x1 x2 x3) :=
  fun _ _ _ _ => ⟨(by decide : 97 < 242), fun _ _ h => nomatch h⟩

theorem Sys2Proof.Laws.Place.parityAlert : ∀ x0 x1, Sys2Proof.Laws.Place.Statement (.parityAlert x0 x1) :=
  fun _ _ => ⟨(by decide : 98 < 242), fun _ _ h => nomatch h⟩

theorem Sys2Proof.Laws.Place.replay : ∀ x0 x1, Sys2Proof.Laws.Place.Statement (.replay x0 x1) :=
  fun _ _ => ⟨(by decide : 99 < 242), fun _ _ h => nomatch h⟩

theorem Sys2Proof.Laws.Place.replayEnd : ∀ x0 x1, Sys2Proof.Laws.Place.Statement (.replayEnd x0 x1) :=
  fun _ _ => ⟨(by decide : 100 < 242), fun _ _ h => nomatch h⟩

theorem Sys2Proof.Laws.Place.bucketLeak : ∀ x0, Sys2Proof.Laws.Place.Statement (.bucketLeak x0) :=
  fun _ => ⟨(by decide : 101 < 242), fun _ _ h => nomatch h⟩

theorem Sys2Proof.Laws.Place.portOperation : ∀ x0 x1, Sys2Proof.Laws.Place.Statement (.portOperation x0 x1) :=
  fun _ _ => ⟨(by decide : 102 < 242), fun _ _ h => nomatch h⟩

theorem Sys2Proof.Laws.Place.programStep : ∀ x0 x1, Sys2Proof.Laws.Place.Statement (.programStep x0 x1) :=
  fun _ _ => ⟨(by decide : 103 < 242), fun _ _ h => nomatch h⟩

theorem Sys2Proof.Laws.Place.directAccess : ∀ x0 x1, Sys2Proof.Laws.Place.Statement (.directAccess x0 x1) :=
  fun _ _ => ⟨(by decide : 104 < 242), fun _ _ h => nomatch h⟩

theorem Sys2Proof.Laws.Place.temperatureReadout : ∀ x0 x1 x2, Sys2Proof.Laws.Place.Statement (.temperatureReadout x0 x1 x2) :=
  fun _ _ _ => ⟨(by decide : 105 < 242), fun _ _ h => nomatch h⟩

theorem Sys2Proof.Laws.Place.dieReading : ∀ x0 x1, Sys2Proof.Laws.Place.Statement (.dieReading x0 x1) :=
  fun _ _ => ⟨(by decide : 106 < 242), fun _ _ h => nomatch h⟩

theorem Sys2Proof.Laws.Place.closureAnnouncement : ∀ x0 x1 x2, Sys2Proof.Laws.Place.Statement (.closureAnnouncement x0 x1 x2) :=
  fun _ _ _ => ⟨(by decide : 107 < 242), fun _ _ h => nomatch h⟩

theorem Sys2Proof.Laws.Place.stale : ∀ x0 x1, Sys2Proof.Laws.Place.Statement (.stale x0 x1) :=
  fun _ _ => ⟨(by decide : 108 < 242), fun _ _ h => nomatch h⟩

theorem Sys2Proof.Laws.Place.throttle : ∀ x0 x1, Sys2Proof.Laws.Place.Statement (.throttle x0 x1) :=
  fun _ _ => ⟨(by decide : 109 < 242), fun _ _ h => nomatch h⟩

theorem Sys2Proof.Laws.Place.thermTripN : ∀ x0, Sys2Proof.Laws.Place.Statement (.thermTripN x0) :=
  fun _ => ⟨(by decide : 110 < 242), fun _ _ h => nomatch h⟩

theorem Sys2Proof.Laws.Place.coreNop : ∀ x0, Sys2Proof.Laws.Place.Statement (.coreNop x0) :=
  fun _ => ⟨(by decide : 111 < 242), fun _ _ h => nomatch h⟩

theorem Sys2Proof.Laws.Place.coreEnd : ∀ x0, Sys2Proof.Laws.Place.Statement (.coreEnd x0) :=
  fun _ => ⟨(by decide : 112 < 242), fun _ _ h => nomatch h⟩

theorem Sys2Proof.Laws.Place.coreLoop : ∀ x0, Sys2Proof.Laws.Place.Statement (.coreLoop x0) :=
  fun _ => ⟨(by decide : 113 < 242), fun _ _ h => nomatch h⟩

theorem Sys2Proof.Laws.Place.setag : ∀ x0, Sys2Proof.Laws.Place.Statement (.setag x0) :=
  fun _ => ⟨(by decide : 114 < 242), fun _ _ h => nomatch h⟩

theorem Sys2Proof.Laws.Place.setsb : ∀ x0, Sys2Proof.Laws.Place.Statement (.setsb x0) :=
  fun _ => ⟨(by decide : 115 < 242), fun _ _ h => nomatch h⟩

theorem Sys2Proof.Laws.Place.waits : ∀ x0, Sys2Proof.Laws.Place.Statement (.waits x0) :=
  fun _ => ⟨(by decide : 116 < 242), fun _ _ h => nomatch h⟩

theorem Sys2Proof.Laws.Place.coreSync : ∀ x0, Sys2Proof.Laws.Place.Statement (.coreSync x0) :=
  fun _ => ⟨(by decide : 117 < 242), fun _ _ h => nomatch h⟩

theorem Sys2Proof.Laws.Place.trace : ∀ x0, Sys2Proof.Laws.Place.Statement (.trace x0) :=
  fun _ => ⟨(by decide : 118 < 242), fun _ _ h => nomatch h⟩

theorem Sys2Proof.Laws.Place.movt : ∀ x0, Sys2Proof.Laws.Place.Statement (.movt x0) :=
  fun _ => ⟨(by decide : 119 < 242), fun _ _ h => nomatch h⟩

theorem Sys2Proof.Laws.Place.zero : ∀ x0, Sys2Proof.Laws.Place.Statement (.zero x0) :=
  fun _ => ⟨(by decide : 120 < 242), fun _ _ h => nomatch h⟩

theorem Sys2Proof.Laws.Place.fill : ∀ x0, Sys2Proof.Laws.Place.Statement (.fill x0) :=
  fun _ => ⟨(by decide : 121 < 242), fun _ _ h => nomatch h⟩

theorem Sys2Proof.Laws.Place.trn : ∀ x0, Sys2Proof.Laws.Place.Statement (.trn x0) :=
  fun _ => ⟨(by decide : 122 < 242), fun _ _ h => nomatch h⟩

theorem Sys2Proof.Laws.Place.sget : ∀ x0, Sys2Proof.Laws.Place.Statement (.sget x0) :=
  fun _ => ⟨(by decide : 123 < 242), fun _ _ h => nomatch h⟩

theorem Sys2Proof.Laws.Place.sput : ∀ x0, Sys2Proof.Laws.Place.Statement (.sput x0) :=
  fun _ => ⟨(by decide : 124 < 242), fun _ _ h => nomatch h⟩

theorem Sys2Proof.Laws.Place.sgets : ∀ x0, Sys2Proof.Laws.Place.Statement (.sgets x0) :=
  fun _ => ⟨(by decide : 125 < 242), fun _ _ h => nomatch h⟩

theorem Sys2Proof.Laws.Place.sputs : ∀ x0, Sys2Proof.Laws.Place.Statement (.sputs x0) :=
  fun _ => ⟨(by decide : 126 < 242), fun _ _ h => nomatch h⟩

theorem Sys2Proof.Laws.Place.mma : ∀ x0, Sys2Proof.Laws.Place.Statement (.mma x0) :=
  fun _ => ⟨(by decide : 127 < 242), fun _ _ h => nomatch h⟩

theorem Sys2Proof.Laws.Place.mma8 : ∀ x0, Sys2Proof.Laws.Place.Statement (.mma8 x0) :=
  fun _ => ⟨(by decide : 128 < 242), fun _ _ h => nomatch h⟩

theorem Sys2Proof.Laws.Place.add : ∀ x0, Sys2Proof.Laws.Place.Statement (.add x0) :=
  fun _ => ⟨(by decide : 129 < 242), fun _ _ h => nomatch h⟩

theorem Sys2Proof.Laws.Place.sub : ∀ x0, Sys2Proof.Laws.Place.Statement (.sub x0) :=
  fun _ => ⟨(by decide : 130 < 242), fun _ _ h => nomatch h⟩

theorem Sys2Proof.Laws.Place.mul : ∀ x0, Sys2Proof.Laws.Place.Statement (.mul x0) :=
  fun _ => ⟨(by decide : 131 < 242), fun _ _ h => nomatch h⟩

theorem Sys2Proof.Laws.Place.fma : ∀ x0, Sys2Proof.Laws.Place.Statement (.fma x0) :=
  fun _ => ⟨(by decide : 132 < 242), fun _ _ h => nomatch h⟩

theorem Sys2Proof.Laws.Place.max : ∀ x0, Sys2Proof.Laws.Place.Statement (.max x0) :=
  fun _ => ⟨(by decide : 133 < 242), fun _ _ h => nomatch h⟩

theorem Sys2Proof.Laws.Place.min : ∀ x0, Sys2Proof.Laws.Place.Statement (.min x0) :=
  fun _ => ⟨(by decide : 134 < 242), fun _ _ h => nomatch h⟩

theorem Sys2Proof.Laws.Place.abs : ∀ x0, Sys2Proof.Laws.Place.Statement (.abs x0) :=
  fun _ => ⟨(by decide : 135 < 242), fun _ _ h => nomatch h⟩

theorem Sys2Proof.Laws.Place.cmp : ∀ x0, Sys2Proof.Laws.Place.Statement (.cmp x0) :=
  fun _ => ⟨(by decide : 136 < 242), fun _ _ h => nomatch h⟩

theorem Sys2Proof.Laws.Place.sel : ∀ x0, Sys2Proof.Laws.Place.Statement (.sel x0) :=
  fun _ => ⟨(by decide : 137 < 242), fun _ _ h => nomatch h⟩

theorem Sys2Proof.Laws.Place.lut : ∀ x0, Sys2Proof.Laws.Place.Statement (.lut x0) :=
  fun _ => ⟨(by decide : 138 < 242), fun _ _ h => nomatch h⟩

theorem Sys2Proof.Laws.Place.rcp : ∀ x0, Sys2Proof.Laws.Place.Statement (.rcp x0) :=
  fun _ => ⟨(by decide : 139 < 242), fun _ _ h => nomatch h⟩

theorem Sys2Proof.Laws.Place.rsq : ∀ x0, Sys2Proof.Laws.Place.Statement (.rsq x0) :=
  fun _ => ⟨(by decide : 140 < 242), fun _ _ h => nomatch h⟩

theorem Sys2Proof.Laws.Place.rsum : ∀ x0, Sys2Proof.Laws.Place.Statement (.rsum x0) :=
  fun _ => ⟨(by decide : 141 < 242), fun _ _ h => nomatch h⟩

theorem Sys2Proof.Laws.Place.rmax : ∀ x0, Sys2Proof.Laws.Place.Statement (.rmax x0) :=
  fun _ => ⟨(by decide : 142 < 242), fun _ _ h => nomatch h⟩

theorem Sys2Proof.Laws.Place.rowop : ∀ x0, Sys2Proof.Laws.Place.Statement (.rowop x0) :=
  fun _ => ⟨(by decide : 143 < 242), fun _ _ h => nomatch h⟩

theorem Sys2Proof.Laws.Place.scl : ∀ x0, Sys2Proof.Laws.Place.Statement (.scl x0) :=
  fun _ => ⟨(by decide : 144 < 242), fun _ _ h => nomatch h⟩

theorem Sys2Proof.Laws.Place.cvt : ∀ x0, Sys2Proof.Laws.Place.Statement (.cvt x0) :=
  fun _ => ⟨(by decide : 145 < 242), fun _ _ h => nomatch h⟩

theorem Sys2Proof.Laws.Place.unpk : ∀ x0, Sys2Proof.Laws.Place.Statement (.unpk x0) :=
  fun _ => ⟨(by decide : 146 < 242), fun _ _ h => nomatch h⟩

theorem Sys2Proof.Laws.Place.cvti : ∀ x0, Sys2Proof.Laws.Place.Statement (.cvti x0) :=
  fun _ => ⟨(by decide : 147 < 242), fun _ _ h => nomatch h⟩

theorem Sys2Proof.Laws.Place.iadd : ∀ x0, Sys2Proof.Laws.Place.Statement (.iadd x0) :=
  fun _ => ⟨(by decide : 148 < 242), fun _ _ h => nomatch h⟩

theorem Sys2Proof.Laws.Place.streamArrival : ∀ x0, Sys2Proof.Laws.Place.Statement (.streamArrival x0) :=
  fun _ => ⟨(by decide : 149 < 242), fun _ _ h => nomatch h⟩

theorem Sys2Proof.Laws.Place.kernelComplete : ∀ x0 x1, Sys2Proof.Laws.Place.Statement (.kernelComplete x0 x1) :=
  fun _ _ => ⟨(by decide : 150 < 242), fun _ _ h => nomatch h⟩

theorem Sys2Proof.Laws.Place.clusterClear : ∀ x0 x1, Sys2Proof.Laws.Place.Statement (.clusterClear x0 x1) :=
  fun _ _ => ⟨(by decide : 151 < 242), fun _ _ h => nomatch h⟩

theorem Sys2Proof.Laws.Place.tableFetch : ∀ x0 x1, Sys2Proof.Laws.Place.Statement (.tableFetch x0 x1) :=
  fun _ _ => ⟨(by decide : 152 < 242), fun _ _ h => nomatch h⟩

theorem Sys2Proof.Laws.Place.queueDb : ∀ x0 x1, Sys2Proof.Laws.Place.Statement (.queueDb x0 x1) :=
  fun _ _ => ⟨(by decide : 153 < 242), fun _ _ h => nomatch h⟩

theorem Sys2Proof.Laws.Place.queueCplDb : ∀ x0 x1, Sys2Proof.Laws.Place.Statement (.queueCplDb x0 x1) :=
  fun _ _ => ⟨(by decide : 154 < 242), fun _ _ h => nomatch h⟩

theorem Sys2Proof.Laws.Place.commandFetch : ∀ x0, Sys2Proof.Laws.Place.Statement (.commandFetch x0) :=
  fun _ => ⟨(by decide : 155 < 242), fun _ _ h => nomatch h⟩

theorem Sys2Proof.Laws.Place.completionRecord : ∀ x0, Sys2Proof.Laws.Place.Statement (.completionRecord x0) :=
  fun _ => ⟨(by decide : 156 < 242), fun _ _ h => nomatch h⟩

theorem Sys2Proof.Laws.Place.engineNop : ∀ x0, Sys2Proof.Laws.Place.Statement (.engineNop x0) :=
  fun _ => ⟨(by decide : 157 < 242), fun _ _ h => nomatch h⟩

theorem Sys2Proof.Laws.Place.wait : ∀ x0, Sys2Proof.Laws.Place.Statement (.wait x0) :=
  fun _ => ⟨(by decide : 158 < 242), fun _ _ h => nomatch h⟩

theorem Sys2Proof.Laws.Place.signal : ∀ x0, Sys2Proof.Laws.Place.Statement (.signal x0) :=
  fun _ => ⟨(by decide : 159 < 242), fun _ _ h => nomatch h⟩

theorem Sys2Proof.Laws.Place.syncCnt : ∀ x0 x1 x2, Sys2Proof.Laws.Place.Statement (.syncCnt x0 x1 x2) :=
  fun _ _ _ => ⟨(by decide : 160 < 242), fun _ _ h => nomatch h⟩

theorem Sys2Proof.Laws.Place.dispatch : ∀ x0, Sys2Proof.Laws.Place.Statement (.dispatch x0) :=
  fun _ => ⟨(by decide : 161 < 242), fun _ _ h => nomatch h⟩

theorem Sys2Proof.Laws.Place.copy : ∀ x0, Sys2Proof.Laws.Place.Statement (.copy x0) :=
  fun _ => ⟨(by decide : 162 < 242), fun _ _ h => nomatch h⟩

theorem Sys2Proof.Laws.Place.moveFill : ∀ x0, Sys2Proof.Laws.Place.Statement (.moveFill x0) :=
  fun _ => ⟨(by decide : 163 < 242), fun _ _ h => nomatch h⟩

theorem Sys2Proof.Laws.Place.enable : ∀ x0, Sys2Proof.Laws.Place.Statement (.enable x0) :=
  fun _ => ⟨(by decide : 164 < 242), fun _ _ h => nomatch h⟩

theorem Sys2Proof.Laws.Place.restart : ∀ x0, Sys2Proof.Laws.Place.Statement (.restart x0) :=
  fun _ => ⟨(by decide : 165 < 242), fun _ _ h => nomatch h⟩

theorem Sys2Proof.Laws.Place.watchdog : ∀ x0, Sys2Proof.Laws.Place.Statement (.watchdog x0) :=
  fun _ => ⟨(by decide : 166 < 242), fun _ _ h => nomatch h⟩

theorem Sys2Proof.Laws.Place.poolInit : ∀ x0, Sys2Proof.Laws.Place.Statement (.poolInit x0) :=
  fun _ => ⟨(by decide : 167 < 242), fun _ _ h => nomatch h⟩

theorem Sys2Proof.Laws.Place.alloc : ∀ x0, Sys2Proof.Laws.Place.Statement (.alloc x0) :=
  fun _ => ⟨(by decide : 168 < 242), fun _ _ h => nomatch h⟩

theorem Sys2Proof.Laws.Place.free : ∀ x0, Sys2Proof.Laws.Place.Statement (.free x0) :=
  fun _ => ⟨(by decide : 169 < 242), fun _ _ h => nomatch h⟩

theorem Sys2Proof.Laws.Place.spill : ∀ x0, Sys2Proof.Laws.Place.Statement (.spill x0) :=
  fun _ => ⟨(by decide : 170 < 242), fun _ _ h => nomatch h⟩

theorem Sys2Proof.Laws.Place.prefetch : ∀ x0, Sys2Proof.Laws.Place.Statement (.prefetch x0) :=
  fun _ => ⟨(by decide : 171 < 242), fun _ _ h => nomatch h⟩

theorem Sys2Proof.Laws.Place.fetchDone : ∀ x0 x1 x2 x3, Sys2Proof.Laws.Place.Statement (.fetchDone x0 x1 x2 x3) :=
  fun _ _ _ _ => ⟨(by decide : 172 < 242), fun _ _ h => nomatch h⟩

theorem Sys2Proof.Laws.Place.prefetchWindow : ∀ x0 x1 x2, Sys2Proof.Laws.Place.Statement (.prefetchWindow x0 x1 x2) :=
  fun _ _ _ => ⟨(by decide : 173 < 242), fun _ _ h => nomatch h⟩

theorem Sys2Proof.Laws.Place.transportError : ∀ x0 x1 x2, Sys2Proof.Laws.Place.Statement (.transportError x0 x1 x2) :=
  fun _ _ _ => ⟨(by decide : 174 < 242), fun _ _ h => nomatch h⟩

theorem Sys2Proof.Laws.Place.ptInval : ∀ x0, Sys2Proof.Laws.Place.Statement (.ptInval x0) :=
  fun _ => ⟨(by decide : 175 < 242), fun _ _ h => nomatch h⟩

theorem Sys2Proof.Laws.Place.expLoad : ∀ x0, Sys2Proof.Laws.Place.Statement (.expLoad x0) :=
  fun _ => ⟨(by decide : 176 < 242), fun _ _ h => nomatch h⟩

theorem Sys2Proof.Laws.Place.expBind : ∀ x0, Sys2Proof.Laws.Place.Statement (.expBind x0) :=
  fun _ => ⟨(by decide : 177 < 242), fun _ _ h => nomatch h⟩

theorem Sys2Proof.Laws.Place.expRelease : ∀ x0, Sys2Proof.Laws.Place.Statement (.expRelease x0) :=
  fun _ => ⟨(by decide : 178 < 242), fun _ _ h => nomatch h⟩

theorem Sys2Proof.Laws.Place.tileDone : ∀ x0 x1, Sys2Proof.Laws.Place.Statement (.tileDone x0 x1) :=
  fun _ _ => ⟨(by decide : 179 < 242), fun _ _ h => nomatch h⟩

theorem Sys2Proof.Laws.Place.allReduce : ∀ x0, Sys2Proof.Laws.Place.Statement (.allReduce x0) :=
  fun _ => ⟨(by decide : 180 < 242), fun _ _ h => nomatch h⟩

theorem Sys2Proof.Laws.Place.reduceScatter : ∀ x0, Sys2Proof.Laws.Place.Statement (.reduceScatter x0) :=
  fun _ => ⟨(by decide : 181 < 242), fun _ _ h => nomatch h⟩

theorem Sys2Proof.Laws.Place.allGather : ∀ x0, Sys2Proof.Laws.Place.Statement (.allGather x0) :=
  fun _ => ⟨(by decide : 182 < 242), fun _ _ h => nomatch h⟩

theorem Sys2Proof.Laws.Place.broadcast : ∀ x0, Sys2Proof.Laws.Place.Statement (.broadcast x0) :=
  fun _ => ⟨(by decide : 183 < 242), fun _ _ h => nomatch h⟩

theorem Sys2Proof.Laws.Place.rotate : ∀ x0, Sys2Proof.Laws.Place.Statement (.rotate x0) :=
  fun _ => ⟨(by decide : 184 < 242), fun _ _ h => nomatch h⟩

theorem Sys2Proof.Laws.Place.shardPut : ∀ x0, Sys2Proof.Laws.Place.Statement (.shardPut x0) :=
  fun _ => ⟨(by decide : 185 < 242), fun _ _ h => nomatch h⟩

theorem Sys2Proof.Laws.Place.barrier : ∀ x0, Sys2Proof.Laws.Place.Statement (.barrier x0) :=
  fun _ => ⟨(by decide : 186 < 242), fun _ _ h => nomatch h⟩

theorem Sys2Proof.Laws.Place.collectiveDeadline : ∀ x0, Sys2Proof.Laws.Place.Statement (.collectiveDeadline x0) :=
  fun _ => ⟨(by decide : 187 < 242), fun _ _ h => nomatch h⟩

theorem Sys2Proof.Laws.Place.fenceAdd : ∀ x0, Sys2Proof.Laws.Place.Statement (.fenceAdd x0) :=
  fun _ => ⟨(by decide : 188 < 242), fun _ _ h => nomatch h⟩

theorem Sys2Proof.Laws.Place.fenceDel : ∀ x0, Sys2Proof.Laws.Place.Statement (.fenceDel x0) :=
  fun _ => ⟨(by decide : 189 < 242), fun _ _ h => nomatch h⟩

theorem Sys2Proof.Laws.Place.scrub : ∀ x0, Sys2Proof.Laws.Place.Statement (.scrub x0) :=
  fun _ => ⟨(by decide : 190 < 242), fun _ _ h => nomatch h⟩

theorem Sys2Proof.Laws.Place.repair : ∀ x0, Sys2Proof.Laws.Place.Statement (.repair x0) :=
  fun _ => ⟨(by decide : 191 < 242), fun _ _ h => nomatch h⟩

theorem Sys2Proof.Laws.Place.retrain : ∀ x0, Sys2Proof.Laws.Place.Statement (.retrain x0) :=
  fun _ => ⟨(by decide : 192 < 242), fun _ _ h => nomatch h⟩

theorem Sys2Proof.Laws.Place.march : ∀ x0, Sys2Proof.Laws.Place.Statement (.march x0) :=
  fun _ => ⟨(by decide : 193 < 242), fun _ _ h => nomatch h⟩

theorem Sys2Proof.Laws.Place.release : ∀ x0, Sys2Proof.Laws.Place.Statement (.release x0) :=
  fun _ => ⟨(by decide : 194 < 242), fun _ _ h => nomatch h⟩

theorem Sys2Proof.Laws.Place.hinge : ∀ x0, Sys2Proof.Laws.Place.Statement (.hinge x0) :=
  fun _ => ⟨(by decide : 195 < 242), fun _ _ h => nomatch h⟩

theorem Sys2Proof.Laws.Place.caseReset : ∀ x0, Sys2Proof.Laws.Place.Statement (.caseReset x0) :=
  fun _ => ⟨(by decide : 196 < 242), fun _ _ h => nomatch h⟩

theorem Sys2Proof.Laws.Place.portTraining : ∀ x0 x1 x2, Sys2Proof.Laws.Place.Statement (.portTraining x0 x1 x2) :=
  fun _ _ _ => ⟨(by decide : 197 < 242), fun _ _ h => nomatch h⟩

theorem Sys2Proof.Laws.Place.linkFail : ∀ x0 x1 x2, Sys2Proof.Laws.Place.Statement (.linkFail x0 x1 x2) :=
  fun _ _ _ => ⟨(by decide : 198 < 242), fun _ _ h => nomatch h⟩

theorem Sys2Proof.Laws.Place.trainingRetry : ∀ x0 x1, Sys2Proof.Laws.Place.Statement (.trainingRetry x0 x1) :=
  fun _ _ => ⟨(by decide : 199 < 242), fun _ _ h => nomatch h⟩

theorem Sys2Proof.Laws.Place.route : ∀ x0 x1, Sys2Proof.Laws.Place.Statement (.route x0 x1) :=
  fun _ _ => ⟨(by decide : 200 < 242), fun _ _ h => nomatch h⟩

theorem Sys2Proof.Laws.Place.rdreq : ∀ x0 x1 x2, Sys2Proof.Laws.Place.Statement (.rdreq x0 x1 x2) :=
  fun _ _ _ => ⟨(by decide : 201 < 242), fun _ _ h => nomatch h⟩

theorem Sys2Proof.Laws.Place.wrreq : ∀ x0 x1 x2, Sys2Proof.Laws.Place.Statement (.wrreq x0 x1 x2) :=
  fun _ _ _ => ⟨(by decide : 202 < 242), fun _ _ h => nomatch h⟩

theorem Sys2Proof.Laws.Place.rdrsp : ∀ x0 x1, Sys2Proof.Laws.Place.Statement (.rdrsp x0 x1) :=
  fun _ _ => ⟨(by decide : 203 < 242), fun _ _ h => nomatch h⟩

theorem Sys2Proof.Laws.Place.wrack : ∀ x0 x1, Sys2Proof.Laws.Place.Statement (.wrack x0 x1) :=
  fun _ _ => ⟨(by decide : 204 < 242), fun _ _ h => nomatch h⟩

theorem Sys2Proof.Laws.Place.coll : ∀ x0 x1, Sys2Proof.Laws.Place.Statement (.coll x0 x1) :=
  fun _ _ => ⟨(by decide : 205 < 242), fun _ _ h => nomatch h⟩

theorem Sys2Proof.Laws.Place.collReady : ∀ x0 x1, Sys2Proof.Laws.Place.Statement (.collReady x0 x1) :=
  fun _ _ => ⟨(by decide : 206 < 242), fun _ _ h => nomatch h⟩

theorem Sys2Proof.Laws.Place.stall : ∀ x0 x1, Sys2Proof.Laws.Place.Statement (.stall x0 x1) :=
  fun _ _ => ⟨(by decide : 207 < 242), fun _ _ h => nomatch h⟩

theorem Sys2Proof.Laws.Place.bar2Read : ∀ x0 x1 x2, Sys2Proof.Laws.Place.Statement (.bar2Read x0 x1 x2) :=
  fun _ _ _ => ⟨(by decide : 208 < 242), fun _ _ h => nomatch h⟩

theorem Sys2Proof.Laws.Place.bar2Write : ∀ x0 x1 x2, Sys2Proof.Laws.Place.Statement (.bar2Write x0 x1 x2) :=
  fun _ _ _ => ⟨(by decide : 209 < 242), fun _ _ h => nomatch h⟩

theorem Sys2Proof.Laws.Place.configurationRequest : ∀ x0 x1 x2, Sys2Proof.Laws.Place.Statement (.configurationRequest x0 x1 x2) :=
  fun _ _ _ => ⟨(by decide : 210 < 242), fun _ _ h => nomatch h⟩

theorem Sys2Proof.Laws.Place.flr : ∀ x0, Sys2Proof.Laws.Place.Statement (.flr x0) :=
  fun _ => ⟨(by decide : 211 < 242), fun _ _ h => nomatch h⟩

theorem Sys2Proof.Laws.Place.hostReadError : ∀ x0, Sys2Proof.Laws.Place.Statement (.hostReadError x0) :=
  fun _ => ⟨(by decide : 212 < 242), fun _ _ h => nomatch h⟩

theorem Sys2Proof.Laws.Place.rdBlk : ∀ x0 x1, Sys2Proof.Laws.Place.Statement (.rdBlk x0 x1) :=
  fun _ _ => ⟨(by decide : 213 < 242), fun _ _ h => nomatch h⟩

theorem Sys2Proof.Laws.Place.rdSec : ∀ x0 x1, Sys2Proof.Laws.Place.Statement (.rdSec x0 x1) :=
  fun _ _ => ⟨(by decide : 214 < 242), fun _ _ h => nomatch h⟩

theorem Sys2Proof.Laws.Place.wrBlk : ∀ x0 x1, Sys2Proof.Laws.Place.Statement (.wrBlk x0 x1) :=
  fun _ _ => ⟨(by decide : 215 < 242), fun _ _ h => nomatch h⟩

theorem Sys2Proof.Laws.Place.wrSec : ∀ x0 x1, Sys2Proof.Laws.Place.Statement (.wrSec x0 x1) :=
  fun _ _ => ⟨(by decide : 216 < 242), fun _ _ h => nomatch h⟩

theorem Sys2Proof.Laws.Place.pgRd : ∀ x0 x1, Sys2Proof.Laws.Place.Statement (.pgRd x0 x1) :=
  fun _ _ => ⟨(by decide : 217 < 242), fun _ _ h => nomatch h⟩

theorem Sys2Proof.Laws.Place.rdRsp : ∀ x0 x1, Sys2Proof.Laws.Place.Statement (.rdRsp x0 x1) :=
  fun _ _ => ⟨(by decide : 218 < 242), fun _ _ h => nomatch h⟩

theorem Sys2Proof.Laws.Place.wrRsp : ∀ x0 x1, Sys2Proof.Laws.Place.Statement (.wrRsp x0 x1) :=
  fun _ _ => ⟨(by decide : 219 < 242), fun _ _ h => nomatch h⟩

theorem Sys2Proof.Laws.Place.flitError : ∀ x0 x1 x2 x3 x4, Sys2Proof.Laws.Place.Statement (.flitError x0 x1 x2 x3 x4) :=
  fun _ _ _ _ _ => ⟨(by decide : 220 < 242), fun _ _ h => nomatch h⟩

theorem Sys2Proof.Laws.Place.nak : ∀ x0 x1 x2 x3, Sys2Proof.Laws.Place.Statement (.nak x0 x1 x2 x3) :=
  fun _ _ _ _ => ⟨(by decide : 221 < 242), fun _ _ h => nomatch h⟩

theorem Sys2Proof.Laws.Place.nakResend : ∀ x0 x1 x2, Sys2Proof.Laws.Place.Statement (.nakResend x0 x1 x2) :=
  fun _ _ _ => ⟨(by decide : 222 < 242), fun _ _ h => nomatch h⟩

theorem Sys2Proof.Laws.Place.aksalDown : ∀ x0, Sys2Proof.Laws.Place.Statement (.aksalDown x0) :=
  fun _ => ⟨(by decide : 223 < 242), fun _ _ h => nomatch h⟩

theorem Sys2Proof.Laws.Place.cdRstN : ∀ x0 x1, Sys2Proof.Laws.Place.Statement (.cdRstN x0 x1) :=
  fun _ _ => ⟨(by decide : 224 < 242), fun _ _ h => nomatch h⟩

theorem Sys2Proof.Laws.Place.cdPwrOk : ∀ x0 x1, Sys2Proof.Laws.Place.Statement (.cdPwrOk x0 x1) :=
  fun _ _ => ⟨(by decide : 225 < 242), fun _ _ h => nomatch h⟩

theorem Sys2Proof.Laws.Place.hbRstN : ∀ x0 x1, Sys2Proof.Laws.Place.Statement (.hbRstN x0 x1) :=
  fun _ _ => ⟨(by decide : 226 < 242), fun _ _ h => nomatch h⟩

theorem Sys2Proof.Laws.Place.hbPwrOk : ∀ x0 x1, Sys2Proof.Laws.Place.Statement (.hbPwrOk x0 x1) :=
  fun _ _ => ⟨(by decide : 227 < 242), fun _ _ h => nomatch h⟩

theorem Sys2Proof.Laws.Place.trainingState : ∀ x0 x1 x2, Sys2Proof.Laws.Place.Statement (.trainingState x0 x1 x2) :=
  fun _ _ _ => ⟨(by decide : 228 < 242), fun _ _ h => nomatch h⟩

theorem Sys2Proof.Laws.Place.stateTimeout : ∀ x0, Sys2Proof.Laws.Place.Statement (.stateTimeout x0) :=
  fun _ => ⟨(by decide : 229 < 242), fun _ _ h => nomatch h⟩

theorem Sys2Proof.Laws.Place.counterRead : ∀ x0, Sys2Proof.Laws.Place.Statement (.counterRead x0) :=
  fun _ => ⟨(by decide : 230 < 242), fun _ _ h => nomatch h⟩

theorem Sys2Proof.Laws.Place.freeze : ∀ x0, Sys2Proof.Laws.Place.Statement (.freeze x0) :=
  fun _ => ⟨(by decide : 231 < 242), fun _ _ h => nomatch h⟩

theorem Sys2Proof.Laws.Place.thaw : ∀ x0, Sys2Proof.Laws.Place.Statement (.thaw x0) :=
  fun _ => ⟨(by decide : 232 < 242), fun _ _ h => nomatch h⟩

theorem Sys2Proof.Laws.Place.fnCntCfg : ∀ x0 x1 x2, Sys2Proof.Laws.Place.Statement (.fnCntCfg x0 x1 x2) :=
  fun _ _ _ => ⟨(by decide : 233 < 242), fun _ _ h => nomatch h⟩

theorem Sys2Proof.Laws.Place.sampleRecord : ∀ x0, Sys2Proof.Laws.Place.Statement (.sampleRecord x0) :=
  fun _ => ⟨(by decide : 234 < 242), fun _ _ h => nomatch h⟩

theorem Sys2Proof.Laws.Place.traceRecord : ∀ x0, Sys2Proof.Laws.Place.Statement (.traceRecord x0) :=
  fun _ => ⟨(by decide : 235 < 242), fun _ _ h => nomatch h⟩

theorem Sys2Proof.Laws.Place.trcCtrl : ∀ x0 x1, Sys2Proof.Laws.Place.Statement (.trcCtrl x0 x1) :=
  fun _ _ => ⟨(by decide : 236 < 242), fun _ _ h => nomatch h⟩

theorem Sys2Proof.Laws.Place.registerRead : ∀ x0, Sys2Proof.Laws.Place.Statement (.registerRead x0) :=
  fun _ => ⟨(by decide : 237 < 242), fun _ _ h => nomatch h⟩

theorem Sys2Proof.Laws.Place.pwrGoodLoss : Sys2Proof.Laws.Place.Statement .pwrGoodLoss :=
  ⟨(by decide : 238 < 242), fun _ _ h => nomatch h⟩

theorem Sys2Proof.Laws.Place.hostReadCompletion : ∀ x0 x1, Sys2Proof.Laws.Place.Statement (.hostReadCompletion x0 x1) :=
  fun _ _ => ⟨(by decide : 239 < 242), fun _ _ h => nomatch h⟩

theorem Sys2Proof.Laws.Place.trowiryFlitRetry : ∀ x0 x1 x2, Sys2Proof.Laws.Place.Statement (.trowiryFlitRetry x0 x1 x2) :=
  fun _ _ _ => ⟨(by decide : 240 < 242), fun _ _ h => nomatch h⟩

theorem Sys2Proof.Laws.Place.msixUnmask : ∀ x0 x1, Sys2Proof.Laws.Place.Statement (.msixUnmask x0 x1) :=
  fun _ _ => ⟨(by decide : 241 < 242), fun _ _ h => nomatch h⟩
end

