-- ==== Sys2Proof/Laws/State.lean ====
section
/-! SUPPORT. What each update of State leaves: one lemma for each field and update, and a register read after a register write. -/

namespace Sys2Proof.Machine

/-! ## State.wr -/

@[simp] theorem State.wr_clk (s : State) (f : Fld) (d i j v : Nat) : (s.wr f d i j v).clk = s.clk := rfl
@[simp] theorem State.wr_fuse (s : State) (f : Fld) (d i j v : Nat) : (s.wr f d i j v).fuse = s.fuse := rfl
@[simp] theorem State.wr_half (s : State) (f : Fld) (d i j v : Nat) : (s.wr f d i j v).half = s.half := rfl
@[simp] theorem State.wr_cfg (s : State) (f : Fld) (d i j v : Nat) : (s.wr f d i j v).cfg = s.cfg := rfl
@[simp] theorem State.wr_staged (s : State) (f : Fld) (d i j v : Nat) : (s.wr f d i j v).staged = s.staged := rfl
@[simp] theorem State.wr_board (s : State) (f : Fld) (d i j v : Nat) : (s.wr f d i j v).board = s.board := rfl
@[simp] theorem State.wr_supply (s : State) (f : Fld) (d i j v : Nat) : (s.wr f d i j v).supply = s.supply := rfl
@[simp] theorem State.wr_boot (s : State) (f : Fld) (d i j v : Nat) : (s.wr f d i j v).boot = s.boot := rfl
@[simp] theorem State.wr_recov (s : State) (f : Fld) (d i j v : Nat) : (s.wr f d i j v).recov = s.recov := rfl
@[simp] theorem State.wr_doors (s : State) (f : Fld) (d i j v : Nat) : (s.wr f d i j v).doors = s.doors := rfl
@[simp] theorem State.wr_louvres (s : State) (f : Fld) (d i j v : Nat) : (s.wr f d i j v).louvres = s.louvres := rfl
@[simp] theorem State.wr_arbs (s : State) (f : Fld) (d i j v : Nat) : (s.wr f d i j v).arbs = s.arbs := rfl
@[simp] theorem State.wr_pcs (s : State) (f : Fld) (d i j v : Nat) : (s.wr f d i j v).pcs = s.pcs := rfl
@[simp] theorem State.wr_links (s : State) (f : Fld) (d i j v : Nat) : (s.wr f d i j v).links = s.links := rfl
@[simp] theorem State.wr_ring (s : State) (f : Fld) (d i j v : Nat) : (s.wr f d i j v).ring = s.ring := rfl
@[simp] theorem State.wr_mem (s : State) (f : Fld) (d i j v : Nat) : (s.wr f d i j v).mem = s.mem := rfl
@[simp] theorem State.wr_geom (s : State) (f : Fld) (d i j v : Nat) : (s.wr f d i j v).geom = s.geom := rfl
@[simp] theorem State.wr_outPane (s : State) (f : Fld) (d i j v : Nat) : (s.wr f d i j v).outPane = s.outPane := rfl
@[simp] theorem State.wr_outCas (s : State) (f : Fld) (d i j v : Nat) : (s.wr f d i j v).outCas = s.outCas := rfl
@[simp] theorem State.wr_nextId (s : State) (f : Fld) (d i j v : Nat) : (s.wr f d i j v).nextId = s.nextId := rfl
@[simp] theorem State.wr_closed (s : State) (f : Fld) (d i j v : Nat) : (s.wr f d i j v).closed = s.closed := rfl
@[simp] theorem State.wr_fences (s : State) (f : Fld) (d i j v : Nat) : (s.wr f d i j v).fences = s.fences := rfl
@[simp] theorem State.wr_logs (s : State) (f : Fld) (d i j v : Nat) : (s.wr f d i j v).logs = s.logs := rfl
@[simp] theorem State.wr_levels (s : State) (f : Fld) (d i j v : Nat) : (s.wr f d i j v).levels = s.levels := rfl
@[simp] theorem State.wr_leakAt (s : State) (f : Fld) (d i j v : Nat) : (s.wr f d i j v).leakAt = s.leakAt := rfl
@[simp] theorem State.wr_trims (s : State) (f : Fld) (d i j v : Nat) : (s.wr f d i j v).trims = s.trims := rfl
@[simp] theorem State.wr_lanes (s : State) (f : Fld) (d i j v : Nat) : (s.wr f d i j v).lanes = s.lanes := rfl
@[simp] theorem State.wr_therm (s : State) (f : Fld) (d i j v : Nat) : (s.wr f d i j v).therm = s.therm := rfl
@[simp] theorem State.wr_hinge (s : State) (f : Fld) (d i j v : Nat) : (s.wr f d i j v).hinge = s.hinge := rfl
@[simp] theorem State.wr_samplers (s : State) (f : Fld) (d i j v : Nat) : (s.wr f d i j v).samplers = s.samplers := rfl
@[simp] theorem State.wr_tracers (s : State) (f : Fld) (d i j v : Nat) : (s.wr f d i j v).tracers = s.tracers := rfl
@[simp] theorem State.wr_ports (s : State) (f : Fld) (d i j v : Nat) : (s.wr f d i j v).ports = s.ports := rfl
@[simp] theorem State.wr_fuseMap (s : State) (f : Fld) (d i j v : Nat) : (s.wr f d i j v).fuseMap = s.fuseMap := rfl
@[simp] theorem State.wr_spareUsed (s : State) (f : Fld) (d i j v : Nat) : (s.wr f d i j v).spareUsed = s.spareUsed := rfl
@[simp] theorem State.wr_turns (s : State) (f : Fld) (d i j v : Nat) : (s.wr f d i j v).turns = s.turns := rfl
@[simp] theorem State.wr_shiftBuf (s : State) (f : Fld) (d i j v : Nat) : (s.wr f d i j v).shiftBuf = s.shiftBuf := rfl
@[simp] theorem State.wr_queues (s : State) (f : Fld) (d i j v : Nat) : (s.wr f d i j v).queues = s.queues := rfl
@[simp] theorem State.wr_colls (s : State) (f : Fld) (d i j v : Nat) : (s.wr f d i j v).colls = s.colls := rfl
@[simp] theorem State.wr_notices (s : State) (f : Fld) (d i j v : Nat) : (s.wr f d i j v).notices = s.notices := rfl
@[simp] theorem State.wr_deadColls (s : State) (f : Fld) (d i j v : Nat) : (s.wr f d i j v).deadColls = s.deadColls := rfl
@[simp] theorem State.wr_cores (s : State) (f : Fld) (d i j v : Nat) : (s.wr f d i j v).cores = s.cores := rfl
@[simp] theorem State.wr_clusters (s : State) (f : Fld) (d i j v : Nat) : (s.wr f d i j v).clusters = s.clusters := rfl
@[simp] theorem State.wr_kernels (s : State) (f : Fld) (d i j v : Nat) : (s.wr f d i j v).kernels = s.kernels := rfl
@[simp] theorem State.wr_pools (s : State) (f : Fld) (d i j v : Nat) : (s.wr f d i j v).pools = s.pools := rfl
@[simp] theorem State.wr_copies (s : State) (f : Fld) (d i j v : Nat) : (s.wr f d i j v).copies = s.copies := rfl
@[simp] theorem State.wr_pgWaits (s : State) (f : Fld) (d i j v : Nat) : (s.wr f d i j v).pgWaits = s.pgWaits := rfl
@[simp] theorem State.wr_ptc (s : State) (f : Fld) (d i j v : Nat) : (s.wr f d i j v).ptc = s.ptc := rfl
@[simp] theorem State.wr_expanders (s : State) (f : Fld) (d i j v : Nat) : (s.wr f d i j v).expanders = s.expanders := rfl
@[simp] theorem State.wr_trw (s : State) (f : Fld) (d i j v : Nat) : (s.wr f d i j v).trw = s.trw := rfl
@[simp] theorem State.wr_fabTx (s : State) (f : Fld) (d i j v : Nat) : (s.wr f d i j v).fabTx = s.fabTx := rfl
@[simp] theorem State.wr_fabRx (s : State) (f : Fld) (d i j v : Nat) : (s.wr f d i j v).fabRx = s.fabRx := rfl
@[simp] theorem State.wr_timeAsk (s : State) (f : Fld) (d i j v : Nat) : (s.wr f d i j v).timeAsk = s.timeAsk := rfl
@[simp] theorem State.wr_joined (s : State) (f : Fld) (d i j v : Nat) : (s.wr f d i j v).joined = s.joined := rfl
@[simp] theorem State.wr_aks (s : State) (f : Fld) (d i j v : Nat) : (s.wr f d i j v).aks = s.aks := rfl
@[simp] theorem State.wr_slices (s : State) (f : Fld) (d i j v : Nat) : (s.wr f d i j v).slices = s.slices := rfl
@[simp] theorem State.wr_fns (s : State) (f : Fld) (d i j v : Nat) : (s.wr f d i j v).fns = s.fns := rfl
@[simp] theorem State.wr_msix (s : State) (f : Fld) (d i j v : Nat) : (s.wr f d i j v).msix = s.msix := rfl
@[simp] theorem State.wr_hostRds (s : State) (f : Fld) (d i j v : Nat) : (s.wr f d i j v).hostRds = s.hostRds := rfl
@[simp] theorem State.wr_hostWrs (s : State) (f : Fld) (d i j v : Nat) : (s.wr f d i j v).hostWrs = s.hostWrs := rfl
@[simp] theorem State.wr_heldRegs (s : State) (f : Fld) (d i j v : Nat) : (s.wr f d i j v).heldRegs = s.heldRegs := rfl
@[simp] theorem State.wr_slots (s : State) (f : Fld) (d i j v : Nat) : (s.wr f d i j v).slots = s.slots := rfl
@[simp] theorem State.wr_freezeArm (s : State) (f : Fld) (d i j v : Nat) : (s.wr f d i j v).freezeArm = s.freezeArm := rfl
@[simp] theorem State.wr_resetting (s : State) (f : Fld) (d i j v : Nat) : (s.wr f d i j v).resetting = s.resetting := rfl
@[simp] theorem State.wr_caseWait (s : State) (f : Fld) (d i j v : Nat) : (s.wr f d i j v).caseWait = s.caseWait := rfl
@[simp] theorem State.wr_answers (s : State) (f : Fld) (d i j v : Nat) : (s.wr f d i j v).answers = s.answers := rfl
@[simp] theorem State.wr_pf1 (s : State) (f : Fld) (d i j v : Nat) : (s.wr f d i j v).pf1 = s.pf1 := rfl
@[simp] theorem State.wr_pf2 (s : State) (f : Fld) (d i j v : Nat) : (s.wr f d i j v).pf2 = s.pf2 := rfl
@[simp] theorem State.wr_out (s : State) (f : Fld) (d i j v : Nat) : (s.wr f d i j v).out = s.out := rfl
@[simp] theorem State.wr_free (s : State) (f : Fld) (d i j v : Nat) : (s.wr f d i j v).free = s.free := rfl
@[simp] theorem State.wr_pending (s : State) (f : Fld) (d i j v : Nat) : (s.wr f d i j v).pending = s.pending := rfl

/-! ## State.note -/

@[simp] theorem State.note_clk (s : State) (f : Fld) (d i j n : Nat) : (s.note f d i j n).clk = s.clk := rfl
@[simp] theorem State.note_fuse (s : State) (f : Fld) (d i j n : Nat) : (s.note f d i j n).fuse = s.fuse := rfl
@[simp] theorem State.note_half (s : State) (f : Fld) (d i j n : Nat) : (s.note f d i j n).half = s.half := rfl
@[simp] theorem State.note_cfg (s : State) (f : Fld) (d i j n : Nat) : (s.note f d i j n).cfg = s.cfg := rfl
@[simp] theorem State.note_staged (s : State) (f : Fld) (d i j n : Nat) : (s.note f d i j n).staged = s.staged := rfl
@[simp] theorem State.note_board (s : State) (f : Fld) (d i j n : Nat) : (s.note f d i j n).board = s.board := rfl
@[simp] theorem State.note_supply (s : State) (f : Fld) (d i j n : Nat) : (s.note f d i j n).supply = s.supply := rfl
@[simp] theorem State.note_boot (s : State) (f : Fld) (d i j n : Nat) : (s.note f d i j n).boot = s.boot := rfl
@[simp] theorem State.note_recov (s : State) (f : Fld) (d i j n : Nat) : (s.note f d i j n).recov = s.recov := rfl
@[simp] theorem State.note_doors (s : State) (f : Fld) (d i j n : Nat) : (s.note f d i j n).doors = s.doors := rfl
@[simp] theorem State.note_louvres (s : State) (f : Fld) (d i j n : Nat) : (s.note f d i j n).louvres = s.louvres := rfl
@[simp] theorem State.note_arbs (s : State) (f : Fld) (d i j n : Nat) : (s.note f d i j n).arbs = s.arbs := rfl
@[simp] theorem State.note_pcs (s : State) (f : Fld) (d i j n : Nat) : (s.note f d i j n).pcs = s.pcs := rfl
@[simp] theorem State.note_links (s : State) (f : Fld) (d i j n : Nat) : (s.note f d i j n).links = s.links := rfl
@[simp] theorem State.note_ring (s : State) (f : Fld) (d i j n : Nat) : (s.note f d i j n).ring = s.ring := rfl
@[simp] theorem State.note_mem (s : State) (f : Fld) (d i j n : Nat) : (s.note f d i j n).mem = s.mem := rfl
@[simp] theorem State.note_geom (s : State) (f : Fld) (d i j n : Nat) : (s.note f d i j n).geom = s.geom := rfl
@[simp] theorem State.note_outPane (s : State) (f : Fld) (d i j n : Nat) : (s.note f d i j n).outPane = s.outPane := rfl
@[simp] theorem State.note_outCas (s : State) (f : Fld) (d i j n : Nat) : (s.note f d i j n).outCas = s.outCas := rfl
@[simp] theorem State.note_nextId (s : State) (f : Fld) (d i j n : Nat) : (s.note f d i j n).nextId = s.nextId := rfl
@[simp] theorem State.note_closed (s : State) (f : Fld) (d i j n : Nat) : (s.note f d i j n).closed = s.closed := rfl
@[simp] theorem State.note_fences (s : State) (f : Fld) (d i j n : Nat) : (s.note f d i j n).fences = s.fences := rfl
@[simp] theorem State.note_logs (s : State) (f : Fld) (d i j n : Nat) : (s.note f d i j n).logs = s.logs := rfl
@[simp] theorem State.note_levels (s : State) (f : Fld) (d i j n : Nat) : (s.note f d i j n).levels = s.levels := rfl
@[simp] theorem State.note_leakAt (s : State) (f : Fld) (d i j n : Nat) : (s.note f d i j n).leakAt = s.leakAt := rfl
@[simp] theorem State.note_trims (s : State) (f : Fld) (d i j n : Nat) : (s.note f d i j n).trims = s.trims := rfl
@[simp] theorem State.note_lanes (s : State) (f : Fld) (d i j n : Nat) : (s.note f d i j n).lanes = s.lanes := rfl
@[simp] theorem State.note_therm (s : State) (f : Fld) (d i j n : Nat) : (s.note f d i j n).therm = s.therm := rfl
@[simp] theorem State.note_hinge (s : State) (f : Fld) (d i j n : Nat) : (s.note f d i j n).hinge = s.hinge := rfl
@[simp] theorem State.note_samplers (s : State) (f : Fld) (d i j n : Nat) : (s.note f d i j n).samplers = s.samplers := rfl
@[simp] theorem State.note_tracers (s : State) (f : Fld) (d i j n : Nat) : (s.note f d i j n).tracers = s.tracers := rfl
@[simp] theorem State.note_ports (s : State) (f : Fld) (d i j n : Nat) : (s.note f d i j n).ports = s.ports := rfl
@[simp] theorem State.note_fuseMap (s : State) (f : Fld) (d i j n : Nat) : (s.note f d i j n).fuseMap = s.fuseMap := rfl
@[simp] theorem State.note_spareUsed (s : State) (f : Fld) (d i j n : Nat) : (s.note f d i j n).spareUsed = s.spareUsed := rfl
@[simp] theorem State.note_turns (s : State) (f : Fld) (d i j n : Nat) : (s.note f d i j n).turns = s.turns := rfl
@[simp] theorem State.note_shiftBuf (s : State) (f : Fld) (d i j n : Nat) : (s.note f d i j n).shiftBuf = s.shiftBuf := rfl
@[simp] theorem State.note_queues (s : State) (f : Fld) (d i j n : Nat) : (s.note f d i j n).queues = s.queues := rfl
@[simp] theorem State.note_colls (s : State) (f : Fld) (d i j n : Nat) : (s.note f d i j n).colls = s.colls := rfl
@[simp] theorem State.note_notices (s : State) (f : Fld) (d i j n : Nat) : (s.note f d i j n).notices = s.notices := rfl
@[simp] theorem State.note_deadColls (s : State) (f : Fld) (d i j n : Nat) : (s.note f d i j n).deadColls = s.deadColls := rfl
@[simp] theorem State.note_cores (s : State) (f : Fld) (d i j n : Nat) : (s.note f d i j n).cores = s.cores := rfl
@[simp] theorem State.note_clusters (s : State) (f : Fld) (d i j n : Nat) : (s.note f d i j n).clusters = s.clusters := rfl
@[simp] theorem State.note_kernels (s : State) (f : Fld) (d i j n : Nat) : (s.note f d i j n).kernels = s.kernels := rfl
@[simp] theorem State.note_pools (s : State) (f : Fld) (d i j n : Nat) : (s.note f d i j n).pools = s.pools := rfl
@[simp] theorem State.note_copies (s : State) (f : Fld) (d i j n : Nat) : (s.note f d i j n).copies = s.copies := rfl
@[simp] theorem State.note_pgWaits (s : State) (f : Fld) (d i j n : Nat) : (s.note f d i j n).pgWaits = s.pgWaits := rfl
@[simp] theorem State.note_ptc (s : State) (f : Fld) (d i j n : Nat) : (s.note f d i j n).ptc = s.ptc := rfl
@[simp] theorem State.note_expanders (s : State) (f : Fld) (d i j n : Nat) : (s.note f d i j n).expanders = s.expanders := rfl
@[simp] theorem State.note_trw (s : State) (f : Fld) (d i j n : Nat) : (s.note f d i j n).trw = s.trw := rfl
@[simp] theorem State.note_fabTx (s : State) (f : Fld) (d i j n : Nat) : (s.note f d i j n).fabTx = s.fabTx := rfl
@[simp] theorem State.note_fabRx (s : State) (f : Fld) (d i j n : Nat) : (s.note f d i j n).fabRx = s.fabRx := rfl
@[simp] theorem State.note_timeAsk (s : State) (f : Fld) (d i j n : Nat) : (s.note f d i j n).timeAsk = s.timeAsk := rfl
@[simp] theorem State.note_joined (s : State) (f : Fld) (d i j n : Nat) : (s.note f d i j n).joined = s.joined := rfl
@[simp] theorem State.note_aks (s : State) (f : Fld) (d i j n : Nat) : (s.note f d i j n).aks = s.aks := rfl
@[simp] theorem State.note_slices (s : State) (f : Fld) (d i j n : Nat) : (s.note f d i j n).slices = s.slices := rfl
@[simp] theorem State.note_fns (s : State) (f : Fld) (d i j n : Nat) : (s.note f d i j n).fns = s.fns := rfl
@[simp] theorem State.note_msix (s : State) (f : Fld) (d i j n : Nat) : (s.note f d i j n).msix = s.msix := rfl
@[simp] theorem State.note_hostRds (s : State) (f : Fld) (d i j n : Nat) : (s.note f d i j n).hostRds = s.hostRds := rfl
@[simp] theorem State.note_hostWrs (s : State) (f : Fld) (d i j n : Nat) : (s.note f d i j n).hostWrs = s.hostWrs := rfl
@[simp] theorem State.note_heldRegs (s : State) (f : Fld) (d i j n : Nat) : (s.note f d i j n).heldRegs = s.heldRegs := rfl
@[simp] theorem State.note_slots (s : State) (f : Fld) (d i j n : Nat) : (s.note f d i j n).slots = s.slots := rfl
@[simp] theorem State.note_freezeArm (s : State) (f : Fld) (d i j n : Nat) : (s.note f d i j n).freezeArm = s.freezeArm := rfl
@[simp] theorem State.note_resetting (s : State) (f : Fld) (d i j n : Nat) : (s.note f d i j n).resetting = s.resetting := rfl
@[simp] theorem State.note_caseWait (s : State) (f : Fld) (d i j n : Nat) : (s.note f d i j n).caseWait = s.caseWait := rfl
@[simp] theorem State.note_answers (s : State) (f : Fld) (d i j n : Nat) : (s.note f d i j n).answers = s.answers := rfl
@[simp] theorem State.note_pf1 (s : State) (f : Fld) (d i j n : Nat) : (s.note f d i j n).pf1 = s.pf1 := rfl
@[simp] theorem State.note_pf2 (s : State) (f : Fld) (d i j n : Nat) : (s.note f d i j n).pf2 = s.pf2 := rfl
@[simp] theorem State.note_out (s : State) (f : Fld) (d i j n : Nat) : (s.note f d i j n).out = s.out := rfl
@[simp] theorem State.note_free (s : State) (f : Fld) (d i j n : Nat) : (s.note f d i j n).free = s.free := rfl
@[simp] theorem State.note_pending (s : State) (f : Fld) (d i j n : Nat) : (s.note f d i j n).pending = s.pending := rfl
@[simp] theorem State.note_rd (s : State) (g : Fld) (d i j n : Nat) (fld : Fld) (a b c : Nat) : (s.note g d i j n).rd fld a b c = s.rd fld a b c := rfl

/-! ## State.emit -/

@[simp] theorem State.emit_clk (s : State) (o : Out) : (s.emit o).clk = s.clk := rfl
@[simp] theorem State.emit_fuse (s : State) (o : Out) : (s.emit o).fuse = s.fuse := rfl
@[simp] theorem State.emit_regs (s : State) (o : Out) : (s.emit o).regs = s.regs := rfl
@[simp] theorem State.emit_half (s : State) (o : Out) : (s.emit o).half = s.half := rfl
@[simp] theorem State.emit_cfg (s : State) (o : Out) : (s.emit o).cfg = s.cfg := rfl
@[simp] theorem State.emit_staged (s : State) (o : Out) : (s.emit o).staged = s.staged := rfl
@[simp] theorem State.emit_board (s : State) (o : Out) : (s.emit o).board = s.board := rfl
@[simp] theorem State.emit_supply (s : State) (o : Out) : (s.emit o).supply = s.supply := rfl
@[simp] theorem State.emit_boot (s : State) (o : Out) : (s.emit o).boot = s.boot := rfl
@[simp] theorem State.emit_recov (s : State) (o : Out) : (s.emit o).recov = s.recov := rfl
@[simp] theorem State.emit_doors (s : State) (o : Out) : (s.emit o).doors = s.doors := rfl
@[simp] theorem State.emit_louvres (s : State) (o : Out) : (s.emit o).louvres = s.louvres := rfl
@[simp] theorem State.emit_arbs (s : State) (o : Out) : (s.emit o).arbs = s.arbs := rfl
@[simp] theorem State.emit_pcs (s : State) (o : Out) : (s.emit o).pcs = s.pcs := rfl
@[simp] theorem State.emit_links (s : State) (o : Out) : (s.emit o).links = s.links := rfl
@[simp] theorem State.emit_ring (s : State) (o : Out) : (s.emit o).ring = s.ring := rfl
@[simp] theorem State.emit_mem (s : State) (o : Out) : (s.emit o).mem = s.mem := rfl
@[simp] theorem State.emit_geom (s : State) (o : Out) : (s.emit o).geom = s.geom := rfl
@[simp] theorem State.emit_outPane (s : State) (o : Out) : (s.emit o).outPane = s.outPane := rfl
@[simp] theorem State.emit_outCas (s : State) (o : Out) : (s.emit o).outCas = s.outCas := rfl
@[simp] theorem State.emit_nextId (s : State) (o : Out) : (s.emit o).nextId = s.nextId := rfl
@[simp] theorem State.emit_closed (s : State) (o : Out) : (s.emit o).closed = s.closed := rfl
@[simp] theorem State.emit_fences (s : State) (o : Out) : (s.emit o).fences = s.fences := rfl
@[simp] theorem State.emit_logs (s : State) (o : Out) : (s.emit o).logs = s.logs := rfl
@[simp] theorem State.emit_levels (s : State) (o : Out) : (s.emit o).levels = s.levels := rfl
@[simp] theorem State.emit_leakAt (s : State) (o : Out) : (s.emit o).leakAt = s.leakAt := rfl
@[simp] theorem State.emit_trims (s : State) (o : Out) : (s.emit o).trims = s.trims := rfl
@[simp] theorem State.emit_lanes (s : State) (o : Out) : (s.emit o).lanes = s.lanes := rfl
@[simp] theorem State.emit_therm (s : State) (o : Out) : (s.emit o).therm = s.therm := rfl
@[simp] theorem State.emit_hinge (s : State) (o : Out) : (s.emit o).hinge = s.hinge := rfl
@[simp] theorem State.emit_samplers (s : State) (o : Out) : (s.emit o).samplers = s.samplers := rfl
@[simp] theorem State.emit_tracers (s : State) (o : Out) : (s.emit o).tracers = s.tracers := rfl
@[simp] theorem State.emit_ports (s : State) (o : Out) : (s.emit o).ports = s.ports := rfl
@[simp] theorem State.emit_fuseMap (s : State) (o : Out) : (s.emit o).fuseMap = s.fuseMap := rfl
@[simp] theorem State.emit_spareUsed (s : State) (o : Out) : (s.emit o).spareUsed = s.spareUsed := rfl
@[simp] theorem State.emit_turns (s : State) (o : Out) : (s.emit o).turns = s.turns := rfl
@[simp] theorem State.emit_shiftBuf (s : State) (o : Out) : (s.emit o).shiftBuf = s.shiftBuf := rfl
@[simp] theorem State.emit_queues (s : State) (o : Out) : (s.emit o).queues = s.queues := rfl
@[simp] theorem State.emit_colls (s : State) (o : Out) : (s.emit o).colls = s.colls := rfl
@[simp] theorem State.emit_notices (s : State) (o : Out) : (s.emit o).notices = s.notices := rfl
@[simp] theorem State.emit_deadColls (s : State) (o : Out) : (s.emit o).deadColls = s.deadColls := rfl
@[simp] theorem State.emit_cores (s : State) (o : Out) : (s.emit o).cores = s.cores := rfl
@[simp] theorem State.emit_clusters (s : State) (o : Out) : (s.emit o).clusters = s.clusters := rfl
@[simp] theorem State.emit_kernels (s : State) (o : Out) : (s.emit o).kernels = s.kernels := rfl
@[simp] theorem State.emit_pools (s : State) (o : Out) : (s.emit o).pools = s.pools := rfl
@[simp] theorem State.emit_copies (s : State) (o : Out) : (s.emit o).copies = s.copies := rfl
@[simp] theorem State.emit_pgWaits (s : State) (o : Out) : (s.emit o).pgWaits = s.pgWaits := rfl
@[simp] theorem State.emit_ptc (s : State) (o : Out) : (s.emit o).ptc = s.ptc := rfl
@[simp] theorem State.emit_expanders (s : State) (o : Out) : (s.emit o).expanders = s.expanders := rfl
@[simp] theorem State.emit_trw (s : State) (o : Out) : (s.emit o).trw = s.trw := rfl
@[simp] theorem State.emit_fabTx (s : State) (o : Out) : (s.emit o).fabTx = s.fabTx := rfl
@[simp] theorem State.emit_fabRx (s : State) (o : Out) : (s.emit o).fabRx = s.fabRx := rfl
@[simp] theorem State.emit_timeAsk (s : State) (o : Out) : (s.emit o).timeAsk = s.timeAsk := rfl
@[simp] theorem State.emit_joined (s : State) (o : Out) : (s.emit o).joined = s.joined := rfl
@[simp] theorem State.emit_aks (s : State) (o : Out) : (s.emit o).aks = s.aks := rfl
@[simp] theorem State.emit_slices (s : State) (o : Out) : (s.emit o).slices = s.slices := rfl
@[simp] theorem State.emit_fns (s : State) (o : Out) : (s.emit o).fns = s.fns := rfl
@[simp] theorem State.emit_msix (s : State) (o : Out) : (s.emit o).msix = s.msix := rfl
@[simp] theorem State.emit_hostRds (s : State) (o : Out) : (s.emit o).hostRds = s.hostRds := rfl
@[simp] theorem State.emit_hostWrs (s : State) (o : Out) : (s.emit o).hostWrs = s.hostWrs := rfl
@[simp] theorem State.emit_heldRegs (s : State) (o : Out) : (s.emit o).heldRegs = s.heldRegs := rfl
@[simp] theorem State.emit_slots (s : State) (o : Out) : (s.emit o).slots = s.slots := rfl
@[simp] theorem State.emit_freezeArm (s : State) (o : Out) : (s.emit o).freezeArm = s.freezeArm := rfl
@[simp] theorem State.emit_resetting (s : State) (o : Out) : (s.emit o).resetting = s.resetting := rfl
@[simp] theorem State.emit_caseWait (s : State) (o : Out) : (s.emit o).caseWait = s.caseWait := rfl
@[simp] theorem State.emit_answers (s : State) (o : Out) : (s.emit o).answers = s.answers := rfl
@[simp] theorem State.emit_pf1 (s : State) (o : Out) : (s.emit o).pf1 = s.pf1 := rfl
@[simp] theorem State.emit_pf2 (s : State) (o : Out) : (s.emit o).pf2 = s.pf2 := rfl
@[simp] theorem State.emit_free (s : State) (o : Out) : (s.emit o).free = s.free := rfl
@[simp] theorem State.emit_pending (s : State) (o : Out) : (s.emit o).pending = s.pending := rfl
@[simp] theorem State.emit_rd (s : State) (o : Out) (fld : Fld) (a b c : Nat) : (s.emit o).rd fld a b c = s.rd fld a b c := rfl

/-! ## State.drawn -/

@[simp] theorem State.drawn_clk (s : State) : (s.drawn).clk = s.clk := rfl
@[simp] theorem State.drawn_fuse (s : State) : (s.drawn).fuse = s.fuse := rfl
@[simp] theorem State.drawn_regs (s : State) : (s.drawn).regs = s.regs := rfl
@[simp] theorem State.drawn_half (s : State) : (s.drawn).half = s.half := rfl
@[simp] theorem State.drawn_cfg (s : State) : (s.drawn).cfg = s.cfg := rfl
@[simp] theorem State.drawn_staged (s : State) : (s.drawn).staged = s.staged := rfl
@[simp] theorem State.drawn_board (s : State) : (s.drawn).board = s.board := rfl
@[simp] theorem State.drawn_supply (s : State) : (s.drawn).supply = s.supply := rfl
@[simp] theorem State.drawn_boot (s : State) : (s.drawn).boot = s.boot := rfl
@[simp] theorem State.drawn_recov (s : State) : (s.drawn).recov = s.recov := rfl
@[simp] theorem State.drawn_doors (s : State) : (s.drawn).doors = s.doors := rfl
@[simp] theorem State.drawn_louvres (s : State) : (s.drawn).louvres = s.louvres := rfl
@[simp] theorem State.drawn_arbs (s : State) : (s.drawn).arbs = s.arbs := rfl
@[simp] theorem State.drawn_pcs (s : State) : (s.drawn).pcs = s.pcs := rfl
@[simp] theorem State.drawn_links (s : State) : (s.drawn).links = s.links := rfl
@[simp] theorem State.drawn_ring (s : State) : (s.drawn).ring = s.ring := rfl
@[simp] theorem State.drawn_mem (s : State) : (s.drawn).mem = s.mem := rfl
@[simp] theorem State.drawn_geom (s : State) : (s.drawn).geom = s.geom := rfl
@[simp] theorem State.drawn_outPane (s : State) : (s.drawn).outPane = s.outPane := rfl
@[simp] theorem State.drawn_outCas (s : State) : (s.drawn).outCas = s.outCas := rfl
@[simp] theorem State.drawn_nextId (s : State) : (s.drawn).nextId = s.nextId := rfl
@[simp] theorem State.drawn_closed (s : State) : (s.drawn).closed = s.closed := rfl
@[simp] theorem State.drawn_fences (s : State) : (s.drawn).fences = s.fences := rfl
@[simp] theorem State.drawn_logs (s : State) : (s.drawn).logs = s.logs := rfl
@[simp] theorem State.drawn_levels (s : State) : (s.drawn).levels = s.levels := rfl
@[simp] theorem State.drawn_leakAt (s : State) : (s.drawn).leakAt = s.leakAt := rfl
@[simp] theorem State.drawn_trims (s : State) : (s.drawn).trims = s.trims := rfl
@[simp] theorem State.drawn_lanes (s : State) : (s.drawn).lanes = s.lanes := rfl
@[simp] theorem State.drawn_therm (s : State) : (s.drawn).therm = s.therm := rfl
@[simp] theorem State.drawn_hinge (s : State) : (s.drawn).hinge = s.hinge := rfl
@[simp] theorem State.drawn_samplers (s : State) : (s.drawn).samplers = s.samplers := rfl
@[simp] theorem State.drawn_tracers (s : State) : (s.drawn).tracers = s.tracers := rfl
@[simp] theorem State.drawn_ports (s : State) : (s.drawn).ports = s.ports := rfl
@[simp] theorem State.drawn_fuseMap (s : State) : (s.drawn).fuseMap = s.fuseMap := rfl
@[simp] theorem State.drawn_spareUsed (s : State) : (s.drawn).spareUsed = s.spareUsed := rfl
@[simp] theorem State.drawn_turns (s : State) : (s.drawn).turns = s.turns := rfl
@[simp] theorem State.drawn_shiftBuf (s : State) : (s.drawn).shiftBuf = s.shiftBuf := rfl
@[simp] theorem State.drawn_queues (s : State) : (s.drawn).queues = s.queues := rfl
@[simp] theorem State.drawn_colls (s : State) : (s.drawn).colls = s.colls := rfl
@[simp] theorem State.drawn_notices (s : State) : (s.drawn).notices = s.notices := rfl
@[simp] theorem State.drawn_deadColls (s : State) : (s.drawn).deadColls = s.deadColls := rfl
@[simp] theorem State.drawn_cores (s : State) : (s.drawn).cores = s.cores := rfl
@[simp] theorem State.drawn_clusters (s : State) : (s.drawn).clusters = s.clusters := rfl
@[simp] theorem State.drawn_kernels (s : State) : (s.drawn).kernels = s.kernels := rfl
@[simp] theorem State.drawn_pools (s : State) : (s.drawn).pools = s.pools := rfl
@[simp] theorem State.drawn_copies (s : State) : (s.drawn).copies = s.copies := rfl
@[simp] theorem State.drawn_pgWaits (s : State) : (s.drawn).pgWaits = s.pgWaits := rfl
@[simp] theorem State.drawn_ptc (s : State) : (s.drawn).ptc = s.ptc := rfl
@[simp] theorem State.drawn_expanders (s : State) : (s.drawn).expanders = s.expanders := rfl
@[simp] theorem State.drawn_trw (s : State) : (s.drawn).trw = s.trw := rfl
@[simp] theorem State.drawn_fabTx (s : State) : (s.drawn).fabTx = s.fabTx := rfl
@[simp] theorem State.drawn_fabRx (s : State) : (s.drawn).fabRx = s.fabRx := rfl
@[simp] theorem State.drawn_timeAsk (s : State) : (s.drawn).timeAsk = s.timeAsk := rfl
@[simp] theorem State.drawn_joined (s : State) : (s.drawn).joined = s.joined := rfl
@[simp] theorem State.drawn_aks (s : State) : (s.drawn).aks = s.aks := rfl
@[simp] theorem State.drawn_slices (s : State) : (s.drawn).slices = s.slices := rfl
@[simp] theorem State.drawn_fns (s : State) : (s.drawn).fns = s.fns := rfl
@[simp] theorem State.drawn_msix (s : State) : (s.drawn).msix = s.msix := rfl
@[simp] theorem State.drawn_hostRds (s : State) : (s.drawn).hostRds = s.hostRds := rfl
@[simp] theorem State.drawn_hostWrs (s : State) : (s.drawn).hostWrs = s.hostWrs := rfl
@[simp] theorem State.drawn_heldRegs (s : State) : (s.drawn).heldRegs = s.heldRegs := rfl
@[simp] theorem State.drawn_slots (s : State) : (s.drawn).slots = s.slots := rfl
@[simp] theorem State.drawn_freezeArm (s : State) : (s.drawn).freezeArm = s.freezeArm := rfl
@[simp] theorem State.drawn_resetting (s : State) : (s.drawn).resetting = s.resetting := rfl
@[simp] theorem State.drawn_caseWait (s : State) : (s.drawn).caseWait = s.caseWait := rfl
@[simp] theorem State.drawn_answers (s : State) : (s.drawn).answers = s.answers := rfl
@[simp] theorem State.drawn_pf1 (s : State) : (s.drawn).pf1 = s.pf1 := rfl
@[simp] theorem State.drawn_pf2 (s : State) : (s.drawn).pf2 = s.pf2 := rfl
@[simp] theorem State.drawn_out (s : State) : (s.drawn).out = s.out := rfl
@[simp] theorem State.drawn_pending (s : State) : (s.drawn).pending = s.pending := rfl
@[simp] theorem State.drawn_rd (s : State) (fld : Fld) (a b c : Nat) : (s.drawn).rd fld a b c = s.rd fld a b c := rfl

/-! ## State.setPc -/

@[simp] theorem State.setPc_clk (s : State) (h p : Nat) (x : PcSt) : (s.setPc h p x).clk = s.clk := rfl
@[simp] theorem State.setPc_fuse (s : State) (h p : Nat) (x : PcSt) : (s.setPc h p x).fuse = s.fuse := rfl
@[simp] theorem State.setPc_regs (s : State) (h p : Nat) (x : PcSt) : (s.setPc h p x).regs = s.regs := rfl
@[simp] theorem State.setPc_half (s : State) (h p : Nat) (x : PcSt) : (s.setPc h p x).half = s.half := rfl
@[simp] theorem State.setPc_cfg (s : State) (h p : Nat) (x : PcSt) : (s.setPc h p x).cfg = s.cfg := rfl
@[simp] theorem State.setPc_staged (s : State) (h p : Nat) (x : PcSt) : (s.setPc h p x).staged = s.staged := rfl
@[simp] theorem State.setPc_board (s : State) (h p : Nat) (x : PcSt) : (s.setPc h p x).board = s.board := rfl
@[simp] theorem State.setPc_supply (s : State) (h p : Nat) (x : PcSt) : (s.setPc h p x).supply = s.supply := rfl
@[simp] theorem State.setPc_boot (s : State) (h p : Nat) (x : PcSt) : (s.setPc h p x).boot = s.boot := rfl
@[simp] theorem State.setPc_recov (s : State) (h p : Nat) (x : PcSt) : (s.setPc h p x).recov = s.recov := rfl
@[simp] theorem State.setPc_doors (s : State) (h p : Nat) (x : PcSt) : (s.setPc h p x).doors = s.doors := rfl
@[simp] theorem State.setPc_louvres (s : State) (h p : Nat) (x : PcSt) : (s.setPc h p x).louvres = s.louvres := rfl
@[simp] theorem State.setPc_arbs (s : State) (h p : Nat) (x : PcSt) : (s.setPc h p x).arbs = s.arbs := rfl
@[simp] theorem State.setPc_links (s : State) (h p : Nat) (x : PcSt) : (s.setPc h p x).links = s.links := rfl
@[simp] theorem State.setPc_ring (s : State) (h p : Nat) (x : PcSt) : (s.setPc h p x).ring = s.ring := rfl
@[simp] theorem State.setPc_mem (s : State) (h p : Nat) (x : PcSt) : (s.setPc h p x).mem = s.mem := rfl
@[simp] theorem State.setPc_geom (s : State) (h p : Nat) (x : PcSt) : (s.setPc h p x).geom = s.geom := rfl
@[simp] theorem State.setPc_outPane (s : State) (h p : Nat) (x : PcSt) : (s.setPc h p x).outPane = s.outPane := rfl
@[simp] theorem State.setPc_outCas (s : State) (h p : Nat) (x : PcSt) : (s.setPc h p x).outCas = s.outCas := rfl
@[simp] theorem State.setPc_nextId (s : State) (h p : Nat) (x : PcSt) : (s.setPc h p x).nextId = s.nextId := rfl
@[simp] theorem State.setPc_closed (s : State) (h p : Nat) (x : PcSt) : (s.setPc h p x).closed = s.closed := rfl
@[simp] theorem State.setPc_fences (s : State) (h p : Nat) (x : PcSt) : (s.setPc h p x).fences = s.fences := rfl
@[simp] theorem State.setPc_logs (s : State) (h p : Nat) (x : PcSt) : (s.setPc h p x).logs = s.logs := rfl
@[simp] theorem State.setPc_levels (s : State) (h p : Nat) (x : PcSt) : (s.setPc h p x).levels = s.levels := rfl
@[simp] theorem State.setPc_leakAt (s : State) (h p : Nat) (x : PcSt) : (s.setPc h p x).leakAt = s.leakAt := rfl
@[simp] theorem State.setPc_trims (s : State) (h p : Nat) (x : PcSt) : (s.setPc h p x).trims = s.trims := rfl
@[simp] theorem State.setPc_lanes (s : State) (h p : Nat) (x : PcSt) : (s.setPc h p x).lanes = s.lanes := rfl
@[simp] theorem State.setPc_therm (s : State) (h p : Nat) (x : PcSt) : (s.setPc h p x).therm = s.therm := rfl
@[simp] theorem State.setPc_hinge (s : State) (h p : Nat) (x : PcSt) : (s.setPc h p x).hinge = s.hinge := rfl
@[simp] theorem State.setPc_samplers (s : State) (h p : Nat) (x : PcSt) : (s.setPc h p x).samplers = s.samplers := rfl
@[simp] theorem State.setPc_tracers (s : State) (h p : Nat) (x : PcSt) : (s.setPc h p x).tracers = s.tracers := rfl
@[simp] theorem State.setPc_ports (s : State) (h p : Nat) (x : PcSt) : (s.setPc h p x).ports = s.ports := rfl
@[simp] theorem State.setPc_fuseMap (s : State) (h p : Nat) (x : PcSt) : (s.setPc h p x).fuseMap = s.fuseMap := rfl
@[simp] theorem State.setPc_spareUsed (s : State) (h p : Nat) (x : PcSt) : (s.setPc h p x).spareUsed = s.spareUsed := rfl
@[simp] theorem State.setPc_turns (s : State) (h p : Nat) (x : PcSt) : (s.setPc h p x).turns = s.turns := rfl
@[simp] theorem State.setPc_shiftBuf (s : State) (h p : Nat) (x : PcSt) : (s.setPc h p x).shiftBuf = s.shiftBuf := rfl
@[simp] theorem State.setPc_queues (s : State) (h p : Nat) (x : PcSt) : (s.setPc h p x).queues = s.queues := rfl
@[simp] theorem State.setPc_colls (s : State) (h p : Nat) (x : PcSt) : (s.setPc h p x).colls = s.colls := rfl
@[simp] theorem State.setPc_notices (s : State) (h p : Nat) (x : PcSt) : (s.setPc h p x).notices = s.notices := rfl
@[simp] theorem State.setPc_deadColls (s : State) (h p : Nat) (x : PcSt) : (s.setPc h p x).deadColls = s.deadColls := rfl
@[simp] theorem State.setPc_cores (s : State) (h p : Nat) (x : PcSt) : (s.setPc h p x).cores = s.cores := rfl
@[simp] theorem State.setPc_clusters (s : State) (h p : Nat) (x : PcSt) : (s.setPc h p x).clusters = s.clusters := rfl
@[simp] theorem State.setPc_kernels (s : State) (h p : Nat) (x : PcSt) : (s.setPc h p x).kernels = s.kernels := rfl
@[simp] theorem State.setPc_pools (s : State) (h p : Nat) (x : PcSt) : (s.setPc h p x).pools = s.pools := rfl
@[simp] theorem State.setPc_copies (s : State) (h p : Nat) (x : PcSt) : (s.setPc h p x).copies = s.copies := rfl
@[simp] theorem State.setPc_pgWaits (s : State) (h p : Nat) (x : PcSt) : (s.setPc h p x).pgWaits = s.pgWaits := rfl
@[simp] theorem State.setPc_ptc (s : State) (h p : Nat) (x : PcSt) : (s.setPc h p x).ptc = s.ptc := rfl
@[simp] theorem State.setPc_expanders (s : State) (h p : Nat) (x : PcSt) : (s.setPc h p x).expanders = s.expanders := rfl
@[simp] theorem State.setPc_trw (s : State) (h p : Nat) (x : PcSt) : (s.setPc h p x).trw = s.trw := rfl
@[simp] theorem State.setPc_fabTx (s : State) (h p : Nat) (x : PcSt) : (s.setPc h p x).fabTx = s.fabTx := rfl
@[simp] theorem State.setPc_fabRx (s : State) (h p : Nat) (x : PcSt) : (s.setPc h p x).fabRx = s.fabRx := rfl
@[simp] theorem State.setPc_timeAsk (s : State) (h p : Nat) (x : PcSt) : (s.setPc h p x).timeAsk = s.timeAsk := rfl
@[simp] theorem State.setPc_joined (s : State) (h p : Nat) (x : PcSt) : (s.setPc h p x).joined = s.joined := rfl
@[simp] theorem State.setPc_aks (s : State) (h p : Nat) (x : PcSt) : (s.setPc h p x).aks = s.aks := rfl
@[simp] theorem State.setPc_slices (s : State) (h p : Nat) (x : PcSt) : (s.setPc h p x).slices = s.slices := rfl
@[simp] theorem State.setPc_fns (s : State) (h p : Nat) (x : PcSt) : (s.setPc h p x).fns = s.fns := rfl
@[simp] theorem State.setPc_msix (s : State) (h p : Nat) (x : PcSt) : (s.setPc h p x).msix = s.msix := rfl
@[simp] theorem State.setPc_hostRds (s : State) (h p : Nat) (x : PcSt) : (s.setPc h p x).hostRds = s.hostRds := rfl
@[simp] theorem State.setPc_hostWrs (s : State) (h p : Nat) (x : PcSt) : (s.setPc h p x).hostWrs = s.hostWrs := rfl
@[simp] theorem State.setPc_heldRegs (s : State) (h p : Nat) (x : PcSt) : (s.setPc h p x).heldRegs = s.heldRegs := rfl
@[simp] theorem State.setPc_slots (s : State) (h p : Nat) (x : PcSt) : (s.setPc h p x).slots = s.slots := rfl
@[simp] theorem State.setPc_freezeArm (s : State) (h p : Nat) (x : PcSt) : (s.setPc h p x).freezeArm = s.freezeArm := rfl
@[simp] theorem State.setPc_resetting (s : State) (h p : Nat) (x : PcSt) : (s.setPc h p x).resetting = s.resetting := rfl
@[simp] theorem State.setPc_caseWait (s : State) (h p : Nat) (x : PcSt) : (s.setPc h p x).caseWait = s.caseWait := rfl
@[simp] theorem State.setPc_answers (s : State) (h p : Nat) (x : PcSt) : (s.setPc h p x).answers = s.answers := rfl
@[simp] theorem State.setPc_pf1 (s : State) (h p : Nat) (x : PcSt) : (s.setPc h p x).pf1 = s.pf1 := rfl
@[simp] theorem State.setPc_pf2 (s : State) (h p : Nat) (x : PcSt) : (s.setPc h p x).pf2 = s.pf2 := rfl
@[simp] theorem State.setPc_out (s : State) (h p : Nat) (x : PcSt) : (s.setPc h p x).out = s.out := rfl
@[simp] theorem State.setPc_free (s : State) (h p : Nat) (x : PcSt) : (s.setPc h p x).free = s.free := rfl
@[simp] theorem State.setPc_pending (s : State) (h p : Nat) (x : PcSt) : (s.setPc h p x).pending = s.pending := rfl
@[simp] theorem State.setPc_rd (s : State) (h p : Nat) (x : PcSt) (fld : Fld) (a b c : Nat) : (s.setPc h p x).rd fld a b c = s.rd fld a b c := rfl

/-! ## State.setDoor -/

@[simp] theorem State.setDoor_clk (s : State) (h d : Nat) (x : DoorSt) : (s.setDoor h d x).clk = s.clk := rfl
@[simp] theorem State.setDoor_fuse (s : State) (h d : Nat) (x : DoorSt) : (s.setDoor h d x).fuse = s.fuse := rfl
@[simp] theorem State.setDoor_regs (s : State) (h d : Nat) (x : DoorSt) : (s.setDoor h d x).regs = s.regs := rfl
@[simp] theorem State.setDoor_half (s : State) (h d : Nat) (x : DoorSt) : (s.setDoor h d x).half = s.half := rfl
@[simp] theorem State.setDoor_cfg (s : State) (h d : Nat) (x : DoorSt) : (s.setDoor h d x).cfg = s.cfg := rfl
@[simp] theorem State.setDoor_staged (s : State) (h d : Nat) (x : DoorSt) : (s.setDoor h d x).staged = s.staged := rfl
@[simp] theorem State.setDoor_board (s : State) (h d : Nat) (x : DoorSt) : (s.setDoor h d x).board = s.board := rfl
@[simp] theorem State.setDoor_supply (s : State) (h d : Nat) (x : DoorSt) : (s.setDoor h d x).supply = s.supply := rfl
@[simp] theorem State.setDoor_boot (s : State) (h d : Nat) (x : DoorSt) : (s.setDoor h d x).boot = s.boot := rfl
@[simp] theorem State.setDoor_recov (s : State) (h d : Nat) (x : DoorSt) : (s.setDoor h d x).recov = s.recov := rfl
@[simp] theorem State.setDoor_louvres (s : State) (h d : Nat) (x : DoorSt) : (s.setDoor h d x).louvres = s.louvres := rfl
@[simp] theorem State.setDoor_arbs (s : State) (h d : Nat) (x : DoorSt) : (s.setDoor h d x).arbs = s.arbs := rfl
@[simp] theorem State.setDoor_pcs (s : State) (h d : Nat) (x : DoorSt) : (s.setDoor h d x).pcs = s.pcs := rfl
@[simp] theorem State.setDoor_links (s : State) (h d : Nat) (x : DoorSt) : (s.setDoor h d x).links = s.links := rfl
@[simp] theorem State.setDoor_ring (s : State) (h d : Nat) (x : DoorSt) : (s.setDoor h d x).ring = s.ring := rfl
@[simp] theorem State.setDoor_mem (s : State) (h d : Nat) (x : DoorSt) : (s.setDoor h d x).mem = s.mem := rfl
@[simp] theorem State.setDoor_geom (s : State) (h d : Nat) (x : DoorSt) : (s.setDoor h d x).geom = s.geom := rfl
@[simp] theorem State.setDoor_outPane (s : State) (h d : Nat) (x : DoorSt) : (s.setDoor h d x).outPane = s.outPane := rfl
@[simp] theorem State.setDoor_outCas (s : State) (h d : Nat) (x : DoorSt) : (s.setDoor h d x).outCas = s.outCas := rfl
@[simp] theorem State.setDoor_nextId (s : State) (h d : Nat) (x : DoorSt) : (s.setDoor h d x).nextId = s.nextId := rfl
@[simp] theorem State.setDoor_closed (s : State) (h d : Nat) (x : DoorSt) : (s.setDoor h d x).closed = s.closed := rfl
@[simp] theorem State.setDoor_fences (s : State) (h d : Nat) (x : DoorSt) : (s.setDoor h d x).fences = s.fences := rfl
@[simp] theorem State.setDoor_logs (s : State) (h d : Nat) (x : DoorSt) : (s.setDoor h d x).logs = s.logs := rfl
@[simp] theorem State.setDoor_levels (s : State) (h d : Nat) (x : DoorSt) : (s.setDoor h d x).levels = s.levels := rfl
@[simp] theorem State.setDoor_leakAt (s : State) (h d : Nat) (x : DoorSt) : (s.setDoor h d x).leakAt = s.leakAt := rfl
@[simp] theorem State.setDoor_trims (s : State) (h d : Nat) (x : DoorSt) : (s.setDoor h d x).trims = s.trims := rfl
@[simp] theorem State.setDoor_lanes (s : State) (h d : Nat) (x : DoorSt) : (s.setDoor h d x).lanes = s.lanes := rfl
@[simp] theorem State.setDoor_therm (s : State) (h d : Nat) (x : DoorSt) : (s.setDoor h d x).therm = s.therm := rfl
@[simp] theorem State.setDoor_hinge (s : State) (h d : Nat) (x : DoorSt) : (s.setDoor h d x).hinge = s.hinge := rfl
@[simp] theorem State.setDoor_samplers (s : State) (h d : Nat) (x : DoorSt) : (s.setDoor h d x).samplers = s.samplers := rfl
@[simp] theorem State.setDoor_tracers (s : State) (h d : Nat) (x : DoorSt) : (s.setDoor h d x).tracers = s.tracers := rfl
@[simp] theorem State.setDoor_ports (s : State) (h d : Nat) (x : DoorSt) : (s.setDoor h d x).ports = s.ports := rfl
@[simp] theorem State.setDoor_fuseMap (s : State) (h d : Nat) (x : DoorSt) : (s.setDoor h d x).fuseMap = s.fuseMap := rfl
@[simp] theorem State.setDoor_spareUsed (s : State) (h d : Nat) (x : DoorSt) : (s.setDoor h d x).spareUsed = s.spareUsed := rfl
@[simp] theorem State.setDoor_turns (s : State) (h d : Nat) (x : DoorSt) : (s.setDoor h d x).turns = s.turns := rfl
@[simp] theorem State.setDoor_shiftBuf (s : State) (h d : Nat) (x : DoorSt) : (s.setDoor h d x).shiftBuf = s.shiftBuf := rfl
@[simp] theorem State.setDoor_queues (s : State) (h d : Nat) (x : DoorSt) : (s.setDoor h d x).queues = s.queues := rfl
@[simp] theorem State.setDoor_colls (s : State) (h d : Nat) (x : DoorSt) : (s.setDoor h d x).colls = s.colls := rfl
@[simp] theorem State.setDoor_notices (s : State) (h d : Nat) (x : DoorSt) : (s.setDoor h d x).notices = s.notices := rfl
@[simp] theorem State.setDoor_deadColls (s : State) (h d : Nat) (x : DoorSt) : (s.setDoor h d x).deadColls = s.deadColls := rfl
@[simp] theorem State.setDoor_cores (s : State) (h d : Nat) (x : DoorSt) : (s.setDoor h d x).cores = s.cores := rfl
@[simp] theorem State.setDoor_clusters (s : State) (h d : Nat) (x : DoorSt) : (s.setDoor h d x).clusters = s.clusters := rfl
@[simp] theorem State.setDoor_kernels (s : State) (h d : Nat) (x : DoorSt) : (s.setDoor h d x).kernels = s.kernels := rfl
@[simp] theorem State.setDoor_pools (s : State) (h d : Nat) (x : DoorSt) : (s.setDoor h d x).pools = s.pools := rfl
@[simp] theorem State.setDoor_copies (s : State) (h d : Nat) (x : DoorSt) : (s.setDoor h d x).copies = s.copies := rfl
@[simp] theorem State.setDoor_pgWaits (s : State) (h d : Nat) (x : DoorSt) : (s.setDoor h d x).pgWaits = s.pgWaits := rfl
@[simp] theorem State.setDoor_ptc (s : State) (h d : Nat) (x : DoorSt) : (s.setDoor h d x).ptc = s.ptc := rfl
@[simp] theorem State.setDoor_expanders (s : State) (h d : Nat) (x : DoorSt) : (s.setDoor h d x).expanders = s.expanders := rfl
@[simp] theorem State.setDoor_trw (s : State) (h d : Nat) (x : DoorSt) : (s.setDoor h d x).trw = s.trw := rfl
@[simp] theorem State.setDoor_fabTx (s : State) (h d : Nat) (x : DoorSt) : (s.setDoor h d x).fabTx = s.fabTx := rfl
@[simp] theorem State.setDoor_fabRx (s : State) (h d : Nat) (x : DoorSt) : (s.setDoor h d x).fabRx = s.fabRx := rfl
@[simp] theorem State.setDoor_timeAsk (s : State) (h d : Nat) (x : DoorSt) : (s.setDoor h d x).timeAsk = s.timeAsk := rfl
@[simp] theorem State.setDoor_joined (s : State) (h d : Nat) (x : DoorSt) : (s.setDoor h d x).joined = s.joined := rfl
@[simp] theorem State.setDoor_aks (s : State) (h d : Nat) (x : DoorSt) : (s.setDoor h d x).aks = s.aks := rfl
@[simp] theorem State.setDoor_slices (s : State) (h d : Nat) (x : DoorSt) : (s.setDoor h d x).slices = s.slices := rfl
@[simp] theorem State.setDoor_fns (s : State) (h d : Nat) (x : DoorSt) : (s.setDoor h d x).fns = s.fns := rfl
@[simp] theorem State.setDoor_msix (s : State) (h d : Nat) (x : DoorSt) : (s.setDoor h d x).msix = s.msix := rfl
@[simp] theorem State.setDoor_hostRds (s : State) (h d : Nat) (x : DoorSt) : (s.setDoor h d x).hostRds = s.hostRds := rfl
@[simp] theorem State.setDoor_hostWrs (s : State) (h d : Nat) (x : DoorSt) : (s.setDoor h d x).hostWrs = s.hostWrs := rfl
@[simp] theorem State.setDoor_heldRegs (s : State) (h d : Nat) (x : DoorSt) : (s.setDoor h d x).heldRegs = s.heldRegs := rfl
@[simp] theorem State.setDoor_slots (s : State) (h d : Nat) (x : DoorSt) : (s.setDoor h d x).slots = s.slots := rfl
@[simp] theorem State.setDoor_freezeArm (s : State) (h d : Nat) (x : DoorSt) : (s.setDoor h d x).freezeArm = s.freezeArm := rfl
@[simp] theorem State.setDoor_resetting (s : State) (h d : Nat) (x : DoorSt) : (s.setDoor h d x).resetting = s.resetting := rfl
@[simp] theorem State.setDoor_caseWait (s : State) (h d : Nat) (x : DoorSt) : (s.setDoor h d x).caseWait = s.caseWait := rfl
@[simp] theorem State.setDoor_answers (s : State) (h d : Nat) (x : DoorSt) : (s.setDoor h d x).answers = s.answers := rfl
@[simp] theorem State.setDoor_pf1 (s : State) (h d : Nat) (x : DoorSt) : (s.setDoor h d x).pf1 = s.pf1 := rfl
@[simp] theorem State.setDoor_pf2 (s : State) (h d : Nat) (x : DoorSt) : (s.setDoor h d x).pf2 = s.pf2 := rfl
@[simp] theorem State.setDoor_out (s : State) (h d : Nat) (x : DoorSt) : (s.setDoor h d x).out = s.out := rfl
@[simp] theorem State.setDoor_free (s : State) (h d : Nat) (x : DoorSt) : (s.setDoor h d x).free = s.free := rfl
@[simp] theorem State.setDoor_pending (s : State) (h d : Nat) (x : DoorSt) : (s.setDoor h d x).pending = s.pending := rfl
@[simp] theorem State.setDoor_rd (s : State) (h d : Nat) (x : DoorSt) (fld : Fld) (a b c : Nat) : (s.setDoor h d x).rd fld a b c = s.rd fld a b c := rfl

/-! ## State.setArb -/

@[simp] theorem State.setArb_clk (s : State) (h p : Nat) (x : ArbSt) : (s.setArb h p x).clk = s.clk := rfl
@[simp] theorem State.setArb_fuse (s : State) (h p : Nat) (x : ArbSt) : (s.setArb h p x).fuse = s.fuse := rfl
@[simp] theorem State.setArb_regs (s : State) (h p : Nat) (x : ArbSt) : (s.setArb h p x).regs = s.regs := rfl
@[simp] theorem State.setArb_half (s : State) (h p : Nat) (x : ArbSt) : (s.setArb h p x).half = s.half := rfl
@[simp] theorem State.setArb_cfg (s : State) (h p : Nat) (x : ArbSt) : (s.setArb h p x).cfg = s.cfg := rfl
@[simp] theorem State.setArb_staged (s : State) (h p : Nat) (x : ArbSt) : (s.setArb h p x).staged = s.staged := rfl
@[simp] theorem State.setArb_board (s : State) (h p : Nat) (x : ArbSt) : (s.setArb h p x).board = s.board := rfl
@[simp] theorem State.setArb_supply (s : State) (h p : Nat) (x : ArbSt) : (s.setArb h p x).supply = s.supply := rfl
@[simp] theorem State.setArb_boot (s : State) (h p : Nat) (x : ArbSt) : (s.setArb h p x).boot = s.boot := rfl
@[simp] theorem State.setArb_recov (s : State) (h p : Nat) (x : ArbSt) : (s.setArb h p x).recov = s.recov := rfl
@[simp] theorem State.setArb_doors (s : State) (h p : Nat) (x : ArbSt) : (s.setArb h p x).doors = s.doors := rfl
@[simp] theorem State.setArb_louvres (s : State) (h p : Nat) (x : ArbSt) : (s.setArb h p x).louvres = s.louvres := rfl
@[simp] theorem State.setArb_pcs (s : State) (h p : Nat) (x : ArbSt) : (s.setArb h p x).pcs = s.pcs := rfl
@[simp] theorem State.setArb_links (s : State) (h p : Nat) (x : ArbSt) : (s.setArb h p x).links = s.links := rfl
@[simp] theorem State.setArb_ring (s : State) (h p : Nat) (x : ArbSt) : (s.setArb h p x).ring = s.ring := rfl
@[simp] theorem State.setArb_mem (s : State) (h p : Nat) (x : ArbSt) : (s.setArb h p x).mem = s.mem := rfl
@[simp] theorem State.setArb_geom (s : State) (h p : Nat) (x : ArbSt) : (s.setArb h p x).geom = s.geom := rfl
@[simp] theorem State.setArb_outPane (s : State) (h p : Nat) (x : ArbSt) : (s.setArb h p x).outPane = s.outPane := rfl
@[simp] theorem State.setArb_outCas (s : State) (h p : Nat) (x : ArbSt) : (s.setArb h p x).outCas = s.outCas := rfl
@[simp] theorem State.setArb_nextId (s : State) (h p : Nat) (x : ArbSt) : (s.setArb h p x).nextId = s.nextId := rfl
@[simp] theorem State.setArb_closed (s : State) (h p : Nat) (x : ArbSt) : (s.setArb h p x).closed = s.closed := rfl
@[simp] theorem State.setArb_fences (s : State) (h p : Nat) (x : ArbSt) : (s.setArb h p x).fences = s.fences := rfl
@[simp] theorem State.setArb_logs (s : State) (h p : Nat) (x : ArbSt) : (s.setArb h p x).logs = s.logs := rfl
@[simp] theorem State.setArb_levels (s : State) (h p : Nat) (x : ArbSt) : (s.setArb h p x).levels = s.levels := rfl
@[simp] theorem State.setArb_leakAt (s : State) (h p : Nat) (x : ArbSt) : (s.setArb h p x).leakAt = s.leakAt := rfl
@[simp] theorem State.setArb_trims (s : State) (h p : Nat) (x : ArbSt) : (s.setArb h p x).trims = s.trims := rfl
@[simp] theorem State.setArb_lanes (s : State) (h p : Nat) (x : ArbSt) : (s.setArb h p x).lanes = s.lanes := rfl
@[simp] theorem State.setArb_therm (s : State) (h p : Nat) (x : ArbSt) : (s.setArb h p x).therm = s.therm := rfl
@[simp] theorem State.setArb_hinge (s : State) (h p : Nat) (x : ArbSt) : (s.setArb h p x).hinge = s.hinge := rfl
@[simp] theorem State.setArb_samplers (s : State) (h p : Nat) (x : ArbSt) : (s.setArb h p x).samplers = s.samplers := rfl
@[simp] theorem State.setArb_tracers (s : State) (h p : Nat) (x : ArbSt) : (s.setArb h p x).tracers = s.tracers := rfl
@[simp] theorem State.setArb_ports (s : State) (h p : Nat) (x : ArbSt) : (s.setArb h p x).ports = s.ports := rfl
@[simp] theorem State.setArb_fuseMap (s : State) (h p : Nat) (x : ArbSt) : (s.setArb h p x).fuseMap = s.fuseMap := rfl
@[simp] theorem State.setArb_spareUsed (s : State) (h p : Nat) (x : ArbSt) : (s.setArb h p x).spareUsed = s.spareUsed := rfl
@[simp] theorem State.setArb_turns (s : State) (h p : Nat) (x : ArbSt) : (s.setArb h p x).turns = s.turns := rfl
@[simp] theorem State.setArb_shiftBuf (s : State) (h p : Nat) (x : ArbSt) : (s.setArb h p x).shiftBuf = s.shiftBuf := rfl
@[simp] theorem State.setArb_queues (s : State) (h p : Nat) (x : ArbSt) : (s.setArb h p x).queues = s.queues := rfl
@[simp] theorem State.setArb_colls (s : State) (h p : Nat) (x : ArbSt) : (s.setArb h p x).colls = s.colls := rfl
@[simp] theorem State.setArb_notices (s : State) (h p : Nat) (x : ArbSt) : (s.setArb h p x).notices = s.notices := rfl
@[simp] theorem State.setArb_deadColls (s : State) (h p : Nat) (x : ArbSt) : (s.setArb h p x).deadColls = s.deadColls := rfl
@[simp] theorem State.setArb_cores (s : State) (h p : Nat) (x : ArbSt) : (s.setArb h p x).cores = s.cores := rfl
@[simp] theorem State.setArb_clusters (s : State) (h p : Nat) (x : ArbSt) : (s.setArb h p x).clusters = s.clusters := rfl
@[simp] theorem State.setArb_kernels (s : State) (h p : Nat) (x : ArbSt) : (s.setArb h p x).kernels = s.kernels := rfl
@[simp] theorem State.setArb_pools (s : State) (h p : Nat) (x : ArbSt) : (s.setArb h p x).pools = s.pools := rfl
@[simp] theorem State.setArb_copies (s : State) (h p : Nat) (x : ArbSt) : (s.setArb h p x).copies = s.copies := rfl
@[simp] theorem State.setArb_pgWaits (s : State) (h p : Nat) (x : ArbSt) : (s.setArb h p x).pgWaits = s.pgWaits := rfl
@[simp] theorem State.setArb_ptc (s : State) (h p : Nat) (x : ArbSt) : (s.setArb h p x).ptc = s.ptc := rfl
@[simp] theorem State.setArb_expanders (s : State) (h p : Nat) (x : ArbSt) : (s.setArb h p x).expanders = s.expanders := rfl
@[simp] theorem State.setArb_trw (s : State) (h p : Nat) (x : ArbSt) : (s.setArb h p x).trw = s.trw := rfl
@[simp] theorem State.setArb_fabTx (s : State) (h p : Nat) (x : ArbSt) : (s.setArb h p x).fabTx = s.fabTx := rfl
@[simp] theorem State.setArb_fabRx (s : State) (h p : Nat) (x : ArbSt) : (s.setArb h p x).fabRx = s.fabRx := rfl
@[simp] theorem State.setArb_timeAsk (s : State) (h p : Nat) (x : ArbSt) : (s.setArb h p x).timeAsk = s.timeAsk := rfl
@[simp] theorem State.setArb_joined (s : State) (h p : Nat) (x : ArbSt) : (s.setArb h p x).joined = s.joined := rfl
@[simp] theorem State.setArb_aks (s : State) (h p : Nat) (x : ArbSt) : (s.setArb h p x).aks = s.aks := rfl
@[simp] theorem State.setArb_slices (s : State) (h p : Nat) (x : ArbSt) : (s.setArb h p x).slices = s.slices := rfl
@[simp] theorem State.setArb_fns (s : State) (h p : Nat) (x : ArbSt) : (s.setArb h p x).fns = s.fns := rfl
@[simp] theorem State.setArb_msix (s : State) (h p : Nat) (x : ArbSt) : (s.setArb h p x).msix = s.msix := rfl
@[simp] theorem State.setArb_hostRds (s : State) (h p : Nat) (x : ArbSt) : (s.setArb h p x).hostRds = s.hostRds := rfl
@[simp] theorem State.setArb_hostWrs (s : State) (h p : Nat) (x : ArbSt) : (s.setArb h p x).hostWrs = s.hostWrs := rfl
@[simp] theorem State.setArb_heldRegs (s : State) (h p : Nat) (x : ArbSt) : (s.setArb h p x).heldRegs = s.heldRegs := rfl
@[simp] theorem State.setArb_slots (s : State) (h p : Nat) (x : ArbSt) : (s.setArb h p x).slots = s.slots := rfl
@[simp] theorem State.setArb_freezeArm (s : State) (h p : Nat) (x : ArbSt) : (s.setArb h p x).freezeArm = s.freezeArm := rfl
@[simp] theorem State.setArb_resetting (s : State) (h p : Nat) (x : ArbSt) : (s.setArb h p x).resetting = s.resetting := rfl
@[simp] theorem State.setArb_caseWait (s : State) (h p : Nat) (x : ArbSt) : (s.setArb h p x).caseWait = s.caseWait := rfl
@[simp] theorem State.setArb_answers (s : State) (h p : Nat) (x : ArbSt) : (s.setArb h p x).answers = s.answers := rfl
@[simp] theorem State.setArb_pf1 (s : State) (h p : Nat) (x : ArbSt) : (s.setArb h p x).pf1 = s.pf1 := rfl
@[simp] theorem State.setArb_pf2 (s : State) (h p : Nat) (x : ArbSt) : (s.setArb h p x).pf2 = s.pf2 := rfl
@[simp] theorem State.setArb_out (s : State) (h p : Nat) (x : ArbSt) : (s.setArb h p x).out = s.out := rfl
@[simp] theorem State.setArb_free (s : State) (h p : Nat) (x : ArbSt) : (s.setArb h p x).free = s.free := rfl
@[simp] theorem State.setArb_pending (s : State) (h p : Nat) (x : ArbSt) : (s.setArb h p x).pending = s.pending := rfl
@[simp] theorem State.setArb_rd (s : State) (h p : Nat) (x : ArbSt) (fld : Fld) (a b c : Nat) : (s.setArb h p x).rd fld a b c = s.rd fld a b c := rfl

/-! ## State.setLvr -/

@[simp] theorem State.setLvr_clk (s : State) (h d k : Nat) (x : LouvreSt) : (s.setLvr h d k x).clk = s.clk := rfl
@[simp] theorem State.setLvr_fuse (s : State) (h d k : Nat) (x : LouvreSt) : (s.setLvr h d k x).fuse = s.fuse := rfl
@[simp] theorem State.setLvr_regs (s : State) (h d k : Nat) (x : LouvreSt) : (s.setLvr h d k x).regs = s.regs := rfl
@[simp] theorem State.setLvr_half (s : State) (h d k : Nat) (x : LouvreSt) : (s.setLvr h d k x).half = s.half := rfl
@[simp] theorem State.setLvr_cfg (s : State) (h d k : Nat) (x : LouvreSt) : (s.setLvr h d k x).cfg = s.cfg := rfl
@[simp] theorem State.setLvr_staged (s : State) (h d k : Nat) (x : LouvreSt) : (s.setLvr h d k x).staged = s.staged := rfl
@[simp] theorem State.setLvr_board (s : State) (h d k : Nat) (x : LouvreSt) : (s.setLvr h d k x).board = s.board := rfl
@[simp] theorem State.setLvr_supply (s : State) (h d k : Nat) (x : LouvreSt) : (s.setLvr h d k x).supply = s.supply := rfl
@[simp] theorem State.setLvr_boot (s : State) (h d k : Nat) (x : LouvreSt) : (s.setLvr h d k x).boot = s.boot := rfl
@[simp] theorem State.setLvr_recov (s : State) (h d k : Nat) (x : LouvreSt) : (s.setLvr h d k x).recov = s.recov := rfl
@[simp] theorem State.setLvr_doors (s : State) (h d k : Nat) (x : LouvreSt) : (s.setLvr h d k x).doors = s.doors := rfl
@[simp] theorem State.setLvr_arbs (s : State) (h d k : Nat) (x : LouvreSt) : (s.setLvr h d k x).arbs = s.arbs := rfl
@[simp] theorem State.setLvr_pcs (s : State) (h d k : Nat) (x : LouvreSt) : (s.setLvr h d k x).pcs = s.pcs := rfl
@[simp] theorem State.setLvr_links (s : State) (h d k : Nat) (x : LouvreSt) : (s.setLvr h d k x).links = s.links := rfl
@[simp] theorem State.setLvr_ring (s : State) (h d k : Nat) (x : LouvreSt) : (s.setLvr h d k x).ring = s.ring := rfl
@[simp] theorem State.setLvr_mem (s : State) (h d k : Nat) (x : LouvreSt) : (s.setLvr h d k x).mem = s.mem := rfl
@[simp] theorem State.setLvr_geom (s : State) (h d k : Nat) (x : LouvreSt) : (s.setLvr h d k x).geom = s.geom := rfl
@[simp] theorem State.setLvr_outPane (s : State) (h d k : Nat) (x : LouvreSt) : (s.setLvr h d k x).outPane = s.outPane := rfl
@[simp] theorem State.setLvr_outCas (s : State) (h d k : Nat) (x : LouvreSt) : (s.setLvr h d k x).outCas = s.outCas := rfl
@[simp] theorem State.setLvr_nextId (s : State) (h d k : Nat) (x : LouvreSt) : (s.setLvr h d k x).nextId = s.nextId := rfl
@[simp] theorem State.setLvr_closed (s : State) (h d k : Nat) (x : LouvreSt) : (s.setLvr h d k x).closed = s.closed := rfl
@[simp] theorem State.setLvr_fences (s : State) (h d k : Nat) (x : LouvreSt) : (s.setLvr h d k x).fences = s.fences := rfl
@[simp] theorem State.setLvr_logs (s : State) (h d k : Nat) (x : LouvreSt) : (s.setLvr h d k x).logs = s.logs := rfl
@[simp] theorem State.setLvr_levels (s : State) (h d k : Nat) (x : LouvreSt) : (s.setLvr h d k x).levels = s.levels := rfl
@[simp] theorem State.setLvr_leakAt (s : State) (h d k : Nat) (x : LouvreSt) : (s.setLvr h d k x).leakAt = s.leakAt := rfl
@[simp] theorem State.setLvr_trims (s : State) (h d k : Nat) (x : LouvreSt) : (s.setLvr h d k x).trims = s.trims := rfl
@[simp] theorem State.setLvr_lanes (s : State) (h d k : Nat) (x : LouvreSt) : (s.setLvr h d k x).lanes = s.lanes := rfl
@[simp] theorem State.setLvr_therm (s : State) (h d k : Nat) (x : LouvreSt) : (s.setLvr h d k x).therm = s.therm := rfl
@[simp] theorem State.setLvr_hinge (s : State) (h d k : Nat) (x : LouvreSt) : (s.setLvr h d k x).hinge = s.hinge := rfl
@[simp] theorem State.setLvr_samplers (s : State) (h d k : Nat) (x : LouvreSt) : (s.setLvr h d k x).samplers = s.samplers := rfl
@[simp] theorem State.setLvr_tracers (s : State) (h d k : Nat) (x : LouvreSt) : (s.setLvr h d k x).tracers = s.tracers := rfl
@[simp] theorem State.setLvr_ports (s : State) (h d k : Nat) (x : LouvreSt) : (s.setLvr h d k x).ports = s.ports := rfl
@[simp] theorem State.setLvr_fuseMap (s : State) (h d k : Nat) (x : LouvreSt) : (s.setLvr h d k x).fuseMap = s.fuseMap := rfl
@[simp] theorem State.setLvr_spareUsed (s : State) (h d k : Nat) (x : LouvreSt) : (s.setLvr h d k x).spareUsed = s.spareUsed := rfl
@[simp] theorem State.setLvr_turns (s : State) (h d k : Nat) (x : LouvreSt) : (s.setLvr h d k x).turns = s.turns := rfl
@[simp] theorem State.setLvr_shiftBuf (s : State) (h d k : Nat) (x : LouvreSt) : (s.setLvr h d k x).shiftBuf = s.shiftBuf := rfl
@[simp] theorem State.setLvr_queues (s : State) (h d k : Nat) (x : LouvreSt) : (s.setLvr h d k x).queues = s.queues := rfl
@[simp] theorem State.setLvr_colls (s : State) (h d k : Nat) (x : LouvreSt) : (s.setLvr h d k x).colls = s.colls := rfl
@[simp] theorem State.setLvr_notices (s : State) (h d k : Nat) (x : LouvreSt) : (s.setLvr h d k x).notices = s.notices := rfl
@[simp] theorem State.setLvr_deadColls (s : State) (h d k : Nat) (x : LouvreSt) : (s.setLvr h d k x).deadColls = s.deadColls := rfl
@[simp] theorem State.setLvr_cores (s : State) (h d k : Nat) (x : LouvreSt) : (s.setLvr h d k x).cores = s.cores := rfl
@[simp] theorem State.setLvr_clusters (s : State) (h d k : Nat) (x : LouvreSt) : (s.setLvr h d k x).clusters = s.clusters := rfl
@[simp] theorem State.setLvr_kernels (s : State) (h d k : Nat) (x : LouvreSt) : (s.setLvr h d k x).kernels = s.kernels := rfl
@[simp] theorem State.setLvr_pools (s : State) (h d k : Nat) (x : LouvreSt) : (s.setLvr h d k x).pools = s.pools := rfl
@[simp] theorem State.setLvr_copies (s : State) (h d k : Nat) (x : LouvreSt) : (s.setLvr h d k x).copies = s.copies := rfl
@[simp] theorem State.setLvr_pgWaits (s : State) (h d k : Nat) (x : LouvreSt) : (s.setLvr h d k x).pgWaits = s.pgWaits := rfl
@[simp] theorem State.setLvr_ptc (s : State) (h d k : Nat) (x : LouvreSt) : (s.setLvr h d k x).ptc = s.ptc := rfl
@[simp] theorem State.setLvr_expanders (s : State) (h d k : Nat) (x : LouvreSt) : (s.setLvr h d k x).expanders = s.expanders := rfl
@[simp] theorem State.setLvr_trw (s : State) (h d k : Nat) (x : LouvreSt) : (s.setLvr h d k x).trw = s.trw := rfl
@[simp] theorem State.setLvr_fabTx (s : State) (h d k : Nat) (x : LouvreSt) : (s.setLvr h d k x).fabTx = s.fabTx := rfl
@[simp] theorem State.setLvr_fabRx (s : State) (h d k : Nat) (x : LouvreSt) : (s.setLvr h d k x).fabRx = s.fabRx := rfl
@[simp] theorem State.setLvr_timeAsk (s : State) (h d k : Nat) (x : LouvreSt) : (s.setLvr h d k x).timeAsk = s.timeAsk := rfl
@[simp] theorem State.setLvr_joined (s : State) (h d k : Nat) (x : LouvreSt) : (s.setLvr h d k x).joined = s.joined := rfl
@[simp] theorem State.setLvr_aks (s : State) (h d k : Nat) (x : LouvreSt) : (s.setLvr h d k x).aks = s.aks := rfl
@[simp] theorem State.setLvr_slices (s : State) (h d k : Nat) (x : LouvreSt) : (s.setLvr h d k x).slices = s.slices := rfl
@[simp] theorem State.setLvr_fns (s : State) (h d k : Nat) (x : LouvreSt) : (s.setLvr h d k x).fns = s.fns := rfl
@[simp] theorem State.setLvr_msix (s : State) (h d k : Nat) (x : LouvreSt) : (s.setLvr h d k x).msix = s.msix := rfl
@[simp] theorem State.setLvr_hostRds (s : State) (h d k : Nat) (x : LouvreSt) : (s.setLvr h d k x).hostRds = s.hostRds := rfl
@[simp] theorem State.setLvr_hostWrs (s : State) (h d k : Nat) (x : LouvreSt) : (s.setLvr h d k x).hostWrs = s.hostWrs := rfl
@[simp] theorem State.setLvr_heldRegs (s : State) (h d k : Nat) (x : LouvreSt) : (s.setLvr h d k x).heldRegs = s.heldRegs := rfl
@[simp] theorem State.setLvr_slots (s : State) (h d k : Nat) (x : LouvreSt) : (s.setLvr h d k x).slots = s.slots := rfl
@[simp] theorem State.setLvr_freezeArm (s : State) (h d k : Nat) (x : LouvreSt) : (s.setLvr h d k x).freezeArm = s.freezeArm := rfl
@[simp] theorem State.setLvr_resetting (s : State) (h d k : Nat) (x : LouvreSt) : (s.setLvr h d k x).resetting = s.resetting := rfl
@[simp] theorem State.setLvr_caseWait (s : State) (h d k : Nat) (x : LouvreSt) : (s.setLvr h d k x).caseWait = s.caseWait := rfl
@[simp] theorem State.setLvr_answers (s : State) (h d k : Nat) (x : LouvreSt) : (s.setLvr h d k x).answers = s.answers := rfl
@[simp] theorem State.setLvr_pf1 (s : State) (h d k : Nat) (x : LouvreSt) : (s.setLvr h d k x).pf1 = s.pf1 := rfl
@[simp] theorem State.setLvr_pf2 (s : State) (h d k : Nat) (x : LouvreSt) : (s.setLvr h d k x).pf2 = s.pf2 := rfl
@[simp] theorem State.setLvr_out (s : State) (h d k : Nat) (x : LouvreSt) : (s.setLvr h d k x).out = s.out := rfl
@[simp] theorem State.setLvr_free (s : State) (h d k : Nat) (x : LouvreSt) : (s.setLvr h d k x).free = s.free := rfl
@[simp] theorem State.setLvr_pending (s : State) (h d k : Nat) (x : LouvreSt) : (s.setLvr h d k x).pending = s.pending := rfl
@[simp] theorem State.setLvr_rd (s : State) (h d k : Nat) (x : LouvreSt) (fld : Fld) (a b c : Nat) : (s.setLvr h d k x).rd fld a b c = s.rd fld a b c := rfl

/-! ## State.setLink -/

@[simp] theorem State.setLink_clk (s : State) (i : Nat) (x : LinkSt) : (s.setLink i x).clk = s.clk := rfl
@[simp] theorem State.setLink_fuse (s : State) (i : Nat) (x : LinkSt) : (s.setLink i x).fuse = s.fuse := rfl
@[simp] theorem State.setLink_regs (s : State) (i : Nat) (x : LinkSt) : (s.setLink i x).regs = s.regs := rfl
@[simp] theorem State.setLink_half (s : State) (i : Nat) (x : LinkSt) : (s.setLink i x).half = s.half := rfl
@[simp] theorem State.setLink_cfg (s : State) (i : Nat) (x : LinkSt) : (s.setLink i x).cfg = s.cfg := rfl
@[simp] theorem State.setLink_staged (s : State) (i : Nat) (x : LinkSt) : (s.setLink i x).staged = s.staged := rfl
@[simp] theorem State.setLink_board (s : State) (i : Nat) (x : LinkSt) : (s.setLink i x).board = s.board := rfl
@[simp] theorem State.setLink_supply (s : State) (i : Nat) (x : LinkSt) : (s.setLink i x).supply = s.supply := rfl
@[simp] theorem State.setLink_boot (s : State) (i : Nat) (x : LinkSt) : (s.setLink i x).boot = s.boot := rfl
@[simp] theorem State.setLink_recov (s : State) (i : Nat) (x : LinkSt) : (s.setLink i x).recov = s.recov := rfl
@[simp] theorem State.setLink_doors (s : State) (i : Nat) (x : LinkSt) : (s.setLink i x).doors = s.doors := rfl
@[simp] theorem State.setLink_louvres (s : State) (i : Nat) (x : LinkSt) : (s.setLink i x).louvres = s.louvres := rfl
@[simp] theorem State.setLink_arbs (s : State) (i : Nat) (x : LinkSt) : (s.setLink i x).arbs = s.arbs := rfl
@[simp] theorem State.setLink_pcs (s : State) (i : Nat) (x : LinkSt) : (s.setLink i x).pcs = s.pcs := rfl
@[simp] theorem State.setLink_ring (s : State) (i : Nat) (x : LinkSt) : (s.setLink i x).ring = s.ring := rfl
@[simp] theorem State.setLink_mem (s : State) (i : Nat) (x : LinkSt) : (s.setLink i x).mem = s.mem := rfl
@[simp] theorem State.setLink_geom (s : State) (i : Nat) (x : LinkSt) : (s.setLink i x).geom = s.geom := rfl
@[simp] theorem State.setLink_outPane (s : State) (i : Nat) (x : LinkSt) : (s.setLink i x).outPane = s.outPane := rfl
@[simp] theorem State.setLink_outCas (s : State) (i : Nat) (x : LinkSt) : (s.setLink i x).outCas = s.outCas := rfl
@[simp] theorem State.setLink_nextId (s : State) (i : Nat) (x : LinkSt) : (s.setLink i x).nextId = s.nextId := rfl
@[simp] theorem State.setLink_closed (s : State) (i : Nat) (x : LinkSt) : (s.setLink i x).closed = s.closed := rfl
@[simp] theorem State.setLink_fences (s : State) (i : Nat) (x : LinkSt) : (s.setLink i x).fences = s.fences := rfl
@[simp] theorem State.setLink_logs (s : State) (i : Nat) (x : LinkSt) : (s.setLink i x).logs = s.logs := rfl
@[simp] theorem State.setLink_levels (s : State) (i : Nat) (x : LinkSt) : (s.setLink i x).levels = s.levels := rfl
@[simp] theorem State.setLink_leakAt (s : State) (i : Nat) (x : LinkSt) : (s.setLink i x).leakAt = s.leakAt := rfl
@[simp] theorem State.setLink_trims (s : State) (i : Nat) (x : LinkSt) : (s.setLink i x).trims = s.trims := rfl
@[simp] theorem State.setLink_lanes (s : State) (i : Nat) (x : LinkSt) : (s.setLink i x).lanes = s.lanes := rfl
@[simp] theorem State.setLink_therm (s : State) (i : Nat) (x : LinkSt) : (s.setLink i x).therm = s.therm := rfl
@[simp] theorem State.setLink_hinge (s : State) (i : Nat) (x : LinkSt) : (s.setLink i x).hinge = s.hinge := rfl
@[simp] theorem State.setLink_samplers (s : State) (i : Nat) (x : LinkSt) : (s.setLink i x).samplers = s.samplers := rfl
@[simp] theorem State.setLink_tracers (s : State) (i : Nat) (x : LinkSt) : (s.setLink i x).tracers = s.tracers := rfl
@[simp] theorem State.setLink_ports (s : State) (i : Nat) (x : LinkSt) : (s.setLink i x).ports = s.ports := rfl
@[simp] theorem State.setLink_fuseMap (s : State) (i : Nat) (x : LinkSt) : (s.setLink i x).fuseMap = s.fuseMap := rfl
@[simp] theorem State.setLink_spareUsed (s : State) (i : Nat) (x : LinkSt) : (s.setLink i x).spareUsed = s.spareUsed := rfl
@[simp] theorem State.setLink_turns (s : State) (i : Nat) (x : LinkSt) : (s.setLink i x).turns = s.turns := rfl
@[simp] theorem State.setLink_shiftBuf (s : State) (i : Nat) (x : LinkSt) : (s.setLink i x).shiftBuf = s.shiftBuf := rfl
@[simp] theorem State.setLink_queues (s : State) (i : Nat) (x : LinkSt) : (s.setLink i x).queues = s.queues := rfl
@[simp] theorem State.setLink_colls (s : State) (i : Nat) (x : LinkSt) : (s.setLink i x).colls = s.colls := rfl
@[simp] theorem State.setLink_notices (s : State) (i : Nat) (x : LinkSt) : (s.setLink i x).notices = s.notices := rfl
@[simp] theorem State.setLink_deadColls (s : State) (i : Nat) (x : LinkSt) : (s.setLink i x).deadColls = s.deadColls := rfl
@[simp] theorem State.setLink_cores (s : State) (i : Nat) (x : LinkSt) : (s.setLink i x).cores = s.cores := rfl
@[simp] theorem State.setLink_clusters (s : State) (i : Nat) (x : LinkSt) : (s.setLink i x).clusters = s.clusters := rfl
@[simp] theorem State.setLink_kernels (s : State) (i : Nat) (x : LinkSt) : (s.setLink i x).kernels = s.kernels := rfl
@[simp] theorem State.setLink_pools (s : State) (i : Nat) (x : LinkSt) : (s.setLink i x).pools = s.pools := rfl
@[simp] theorem State.setLink_copies (s : State) (i : Nat) (x : LinkSt) : (s.setLink i x).copies = s.copies := rfl
@[simp] theorem State.setLink_pgWaits (s : State) (i : Nat) (x : LinkSt) : (s.setLink i x).pgWaits = s.pgWaits := rfl
@[simp] theorem State.setLink_ptc (s : State) (i : Nat) (x : LinkSt) : (s.setLink i x).ptc = s.ptc := rfl
@[simp] theorem State.setLink_expanders (s : State) (i : Nat) (x : LinkSt) : (s.setLink i x).expanders = s.expanders := rfl
@[simp] theorem State.setLink_trw (s : State) (i : Nat) (x : LinkSt) : (s.setLink i x).trw = s.trw := rfl
@[simp] theorem State.setLink_fabTx (s : State) (i : Nat) (x : LinkSt) : (s.setLink i x).fabTx = s.fabTx := rfl
@[simp] theorem State.setLink_fabRx (s : State) (i : Nat) (x : LinkSt) : (s.setLink i x).fabRx = s.fabRx := rfl
@[simp] theorem State.setLink_timeAsk (s : State) (i : Nat) (x : LinkSt) : (s.setLink i x).timeAsk = s.timeAsk := rfl
@[simp] theorem State.setLink_joined (s : State) (i : Nat) (x : LinkSt) : (s.setLink i x).joined = s.joined := rfl
@[simp] theorem State.setLink_aks (s : State) (i : Nat) (x : LinkSt) : (s.setLink i x).aks = s.aks := rfl
@[simp] theorem State.setLink_slices (s : State) (i : Nat) (x : LinkSt) : (s.setLink i x).slices = s.slices := rfl
@[simp] theorem State.setLink_fns (s : State) (i : Nat) (x : LinkSt) : (s.setLink i x).fns = s.fns := rfl
@[simp] theorem State.setLink_msix (s : State) (i : Nat) (x : LinkSt) : (s.setLink i x).msix = s.msix := rfl
@[simp] theorem State.setLink_hostRds (s : State) (i : Nat) (x : LinkSt) : (s.setLink i x).hostRds = s.hostRds := rfl
@[simp] theorem State.setLink_hostWrs (s : State) (i : Nat) (x : LinkSt) : (s.setLink i x).hostWrs = s.hostWrs := rfl
@[simp] theorem State.setLink_heldRegs (s : State) (i : Nat) (x : LinkSt) : (s.setLink i x).heldRegs = s.heldRegs := rfl
@[simp] theorem State.setLink_slots (s : State) (i : Nat) (x : LinkSt) : (s.setLink i x).slots = s.slots := rfl
@[simp] theorem State.setLink_freezeArm (s : State) (i : Nat) (x : LinkSt) : (s.setLink i x).freezeArm = s.freezeArm := rfl
@[simp] theorem State.setLink_resetting (s : State) (i : Nat) (x : LinkSt) : (s.setLink i x).resetting = s.resetting := rfl
@[simp] theorem State.setLink_caseWait (s : State) (i : Nat) (x : LinkSt) : (s.setLink i x).caseWait = s.caseWait := rfl
@[simp] theorem State.setLink_answers (s : State) (i : Nat) (x : LinkSt) : (s.setLink i x).answers = s.answers := rfl
@[simp] theorem State.setLink_pf1 (s : State) (i : Nat) (x : LinkSt) : (s.setLink i x).pf1 = s.pf1 := rfl
@[simp] theorem State.setLink_pf2 (s : State) (i : Nat) (x : LinkSt) : (s.setLink i x).pf2 = s.pf2 := rfl
@[simp] theorem State.setLink_out (s : State) (i : Nat) (x : LinkSt) : (s.setLink i x).out = s.out := rfl
@[simp] theorem State.setLink_free (s : State) (i : Nat) (x : LinkSt) : (s.setLink i x).free = s.free := rfl
@[simp] theorem State.setLink_pending (s : State) (i : Nat) (x : LinkSt) : (s.setLink i x).pending = s.pending := rfl
@[simp] theorem State.setLink_rd (s : State) (i : Nat) (x : LinkSt) (fld : Fld) (a b c : Nat) : (s.setLink i x).rd fld a b c = s.rd fld a b c := rfl

/-! ## State.setSrc -/

@[simp] theorem State.setSrc_clk (s : State) (k : Nat) (x : ThermSt) : (s.setSrc k x).clk = s.clk := rfl
@[simp] theorem State.setSrc_fuse (s : State) (k : Nat) (x : ThermSt) : (s.setSrc k x).fuse = s.fuse := rfl
@[simp] theorem State.setSrc_regs (s : State) (k : Nat) (x : ThermSt) : (s.setSrc k x).regs = s.regs := rfl
@[simp] theorem State.setSrc_half (s : State) (k : Nat) (x : ThermSt) : (s.setSrc k x).half = s.half := rfl
@[simp] theorem State.setSrc_cfg (s : State) (k : Nat) (x : ThermSt) : (s.setSrc k x).cfg = s.cfg := rfl
@[simp] theorem State.setSrc_staged (s : State) (k : Nat) (x : ThermSt) : (s.setSrc k x).staged = s.staged := rfl
@[simp] theorem State.setSrc_board (s : State) (k : Nat) (x : ThermSt) : (s.setSrc k x).board = s.board := rfl
@[simp] theorem State.setSrc_supply (s : State) (k : Nat) (x : ThermSt) : (s.setSrc k x).supply = s.supply := rfl
@[simp] theorem State.setSrc_boot (s : State) (k : Nat) (x : ThermSt) : (s.setSrc k x).boot = s.boot := rfl
@[simp] theorem State.setSrc_recov (s : State) (k : Nat) (x : ThermSt) : (s.setSrc k x).recov = s.recov := rfl
@[simp] theorem State.setSrc_doors (s : State) (k : Nat) (x : ThermSt) : (s.setSrc k x).doors = s.doors := rfl
@[simp] theorem State.setSrc_louvres (s : State) (k : Nat) (x : ThermSt) : (s.setSrc k x).louvres = s.louvres := rfl
@[simp] theorem State.setSrc_arbs (s : State) (k : Nat) (x : ThermSt) : (s.setSrc k x).arbs = s.arbs := rfl
@[simp] theorem State.setSrc_pcs (s : State) (k : Nat) (x : ThermSt) : (s.setSrc k x).pcs = s.pcs := rfl
@[simp] theorem State.setSrc_links (s : State) (k : Nat) (x : ThermSt) : (s.setSrc k x).links = s.links := rfl
@[simp] theorem State.setSrc_ring (s : State) (k : Nat) (x : ThermSt) : (s.setSrc k x).ring = s.ring := rfl
@[simp] theorem State.setSrc_mem (s : State) (k : Nat) (x : ThermSt) : (s.setSrc k x).mem = s.mem := rfl
@[simp] theorem State.setSrc_geom (s : State) (k : Nat) (x : ThermSt) : (s.setSrc k x).geom = s.geom := rfl
@[simp] theorem State.setSrc_outPane (s : State) (k : Nat) (x : ThermSt) : (s.setSrc k x).outPane = s.outPane := rfl
@[simp] theorem State.setSrc_outCas (s : State) (k : Nat) (x : ThermSt) : (s.setSrc k x).outCas = s.outCas := rfl
@[simp] theorem State.setSrc_nextId (s : State) (k : Nat) (x : ThermSt) : (s.setSrc k x).nextId = s.nextId := rfl
@[simp] theorem State.setSrc_closed (s : State) (k : Nat) (x : ThermSt) : (s.setSrc k x).closed = s.closed := rfl
@[simp] theorem State.setSrc_fences (s : State) (k : Nat) (x : ThermSt) : (s.setSrc k x).fences = s.fences := rfl
@[simp] theorem State.setSrc_logs (s : State) (k : Nat) (x : ThermSt) : (s.setSrc k x).logs = s.logs := rfl
@[simp] theorem State.setSrc_levels (s : State) (k : Nat) (x : ThermSt) : (s.setSrc k x).levels = s.levels := rfl
@[simp] theorem State.setSrc_leakAt (s : State) (k : Nat) (x : ThermSt) : (s.setSrc k x).leakAt = s.leakAt := rfl
@[simp] theorem State.setSrc_trims (s : State) (k : Nat) (x : ThermSt) : (s.setSrc k x).trims = s.trims := rfl
@[simp] theorem State.setSrc_lanes (s : State) (k : Nat) (x : ThermSt) : (s.setSrc k x).lanes = s.lanes := rfl
@[simp] theorem State.setSrc_hinge (s : State) (k : Nat) (x : ThermSt) : (s.setSrc k x).hinge = s.hinge := rfl
@[simp] theorem State.setSrc_samplers (s : State) (k : Nat) (x : ThermSt) : (s.setSrc k x).samplers = s.samplers := rfl
@[simp] theorem State.setSrc_tracers (s : State) (k : Nat) (x : ThermSt) : (s.setSrc k x).tracers = s.tracers := rfl
@[simp] theorem State.setSrc_ports (s : State) (k : Nat) (x : ThermSt) : (s.setSrc k x).ports = s.ports := rfl
@[simp] theorem State.setSrc_fuseMap (s : State) (k : Nat) (x : ThermSt) : (s.setSrc k x).fuseMap = s.fuseMap := rfl
@[simp] theorem State.setSrc_spareUsed (s : State) (k : Nat) (x : ThermSt) : (s.setSrc k x).spareUsed = s.spareUsed := rfl
@[simp] theorem State.setSrc_turns (s : State) (k : Nat) (x : ThermSt) : (s.setSrc k x).turns = s.turns := rfl
@[simp] theorem State.setSrc_shiftBuf (s : State) (k : Nat) (x : ThermSt) : (s.setSrc k x).shiftBuf = s.shiftBuf := rfl
@[simp] theorem State.setSrc_queues (s : State) (k : Nat) (x : ThermSt) : (s.setSrc k x).queues = s.queues := rfl
@[simp] theorem State.setSrc_colls (s : State) (k : Nat) (x : ThermSt) : (s.setSrc k x).colls = s.colls := rfl
@[simp] theorem State.setSrc_notices (s : State) (k : Nat) (x : ThermSt) : (s.setSrc k x).notices = s.notices := rfl
@[simp] theorem State.setSrc_deadColls (s : State) (k : Nat) (x : ThermSt) : (s.setSrc k x).deadColls = s.deadColls := rfl
@[simp] theorem State.setSrc_cores (s : State) (k : Nat) (x : ThermSt) : (s.setSrc k x).cores = s.cores := rfl
@[simp] theorem State.setSrc_clusters (s : State) (k : Nat) (x : ThermSt) : (s.setSrc k x).clusters = s.clusters := rfl
@[simp] theorem State.setSrc_kernels (s : State) (k : Nat) (x : ThermSt) : (s.setSrc k x).kernels = s.kernels := rfl
@[simp] theorem State.setSrc_pools (s : State) (k : Nat) (x : ThermSt) : (s.setSrc k x).pools = s.pools := rfl
@[simp] theorem State.setSrc_copies (s : State) (k : Nat) (x : ThermSt) : (s.setSrc k x).copies = s.copies := rfl
@[simp] theorem State.setSrc_pgWaits (s : State) (k : Nat) (x : ThermSt) : (s.setSrc k x).pgWaits = s.pgWaits := rfl
@[simp] theorem State.setSrc_ptc (s : State) (k : Nat) (x : ThermSt) : (s.setSrc k x).ptc = s.ptc := rfl
@[simp] theorem State.setSrc_expanders (s : State) (k : Nat) (x : ThermSt) : (s.setSrc k x).expanders = s.expanders := rfl
@[simp] theorem State.setSrc_trw (s : State) (k : Nat) (x : ThermSt) : (s.setSrc k x).trw = s.trw := rfl
@[simp] theorem State.setSrc_fabTx (s : State) (k : Nat) (x : ThermSt) : (s.setSrc k x).fabTx = s.fabTx := rfl
@[simp] theorem State.setSrc_fabRx (s : State) (k : Nat) (x : ThermSt) : (s.setSrc k x).fabRx = s.fabRx := rfl
@[simp] theorem State.setSrc_timeAsk (s : State) (k : Nat) (x : ThermSt) : (s.setSrc k x).timeAsk = s.timeAsk := rfl
@[simp] theorem State.setSrc_joined (s : State) (k : Nat) (x : ThermSt) : (s.setSrc k x).joined = s.joined := rfl
@[simp] theorem State.setSrc_aks (s : State) (k : Nat) (x : ThermSt) : (s.setSrc k x).aks = s.aks := rfl
@[simp] theorem State.setSrc_slices (s : State) (k : Nat) (x : ThermSt) : (s.setSrc k x).slices = s.slices := rfl
@[simp] theorem State.setSrc_fns (s : State) (k : Nat) (x : ThermSt) : (s.setSrc k x).fns = s.fns := rfl
@[simp] theorem State.setSrc_msix (s : State) (k : Nat) (x : ThermSt) : (s.setSrc k x).msix = s.msix := rfl
@[simp] theorem State.setSrc_hostRds (s : State) (k : Nat) (x : ThermSt) : (s.setSrc k x).hostRds = s.hostRds := rfl
@[simp] theorem State.setSrc_hostWrs (s : State) (k : Nat) (x : ThermSt) : (s.setSrc k x).hostWrs = s.hostWrs := rfl
@[simp] theorem State.setSrc_heldRegs (s : State) (k : Nat) (x : ThermSt) : (s.setSrc k x).heldRegs = s.heldRegs := rfl
@[simp] theorem State.setSrc_slots (s : State) (k : Nat) (x : ThermSt) : (s.setSrc k x).slots = s.slots := rfl
@[simp] theorem State.setSrc_freezeArm (s : State) (k : Nat) (x : ThermSt) : (s.setSrc k x).freezeArm = s.freezeArm := rfl
@[simp] theorem State.setSrc_resetting (s : State) (k : Nat) (x : ThermSt) : (s.setSrc k x).resetting = s.resetting := rfl
@[simp] theorem State.setSrc_caseWait (s : State) (k : Nat) (x : ThermSt) : (s.setSrc k x).caseWait = s.caseWait := rfl
@[simp] theorem State.setSrc_answers (s : State) (k : Nat) (x : ThermSt) : (s.setSrc k x).answers = s.answers := rfl
@[simp] theorem State.setSrc_pf1 (s : State) (k : Nat) (x : ThermSt) : (s.setSrc k x).pf1 = s.pf1 := rfl
@[simp] theorem State.setSrc_pf2 (s : State) (k : Nat) (x : ThermSt) : (s.setSrc k x).pf2 = s.pf2 := rfl
@[simp] theorem State.setSrc_out (s : State) (k : Nat) (x : ThermSt) : (s.setSrc k x).out = s.out := rfl
@[simp] theorem State.setSrc_free (s : State) (k : Nat) (x : ThermSt) : (s.setSrc k x).free = s.free := rfl
@[simp] theorem State.setSrc_pending (s : State) (k : Nat) (x : ThermSt) : (s.setSrc k x).pending = s.pending := rfl
@[simp] theorem State.setSrc_rd (s : State) (k : Nat) (x : ThermSt) (fld : Fld) (a b c : Nat) : (s.setSrc k x).rd fld a b c = s.rd fld a b c := rfl

/-! ## State.setFn -/

@[simp] theorem State.setFn_clk (s : State) (f : Nat) (x : FnSt) : (s.setFn f x).clk = s.clk := rfl
@[simp] theorem State.setFn_fuse (s : State) (f : Nat) (x : FnSt) : (s.setFn f x).fuse = s.fuse := rfl
@[simp] theorem State.setFn_regs (s : State) (f : Nat) (x : FnSt) : (s.setFn f x).regs = s.regs := rfl
@[simp] theorem State.setFn_half (s : State) (f : Nat) (x : FnSt) : (s.setFn f x).half = s.half := rfl
@[simp] theorem State.setFn_cfg (s : State) (f : Nat) (x : FnSt) : (s.setFn f x).cfg = s.cfg := rfl
@[simp] theorem State.setFn_staged (s : State) (f : Nat) (x : FnSt) : (s.setFn f x).staged = s.staged := rfl
@[simp] theorem State.setFn_board (s : State) (f : Nat) (x : FnSt) : (s.setFn f x).board = s.board := rfl
@[simp] theorem State.setFn_supply (s : State) (f : Nat) (x : FnSt) : (s.setFn f x).supply = s.supply := rfl
@[simp] theorem State.setFn_boot (s : State) (f : Nat) (x : FnSt) : (s.setFn f x).boot = s.boot := rfl
@[simp] theorem State.setFn_recov (s : State) (f : Nat) (x : FnSt) : (s.setFn f x).recov = s.recov := rfl
@[simp] theorem State.setFn_doors (s : State) (f : Nat) (x : FnSt) : (s.setFn f x).doors = s.doors := rfl
@[simp] theorem State.setFn_louvres (s : State) (f : Nat) (x : FnSt) : (s.setFn f x).louvres = s.louvres := rfl
@[simp] theorem State.setFn_arbs (s : State) (f : Nat) (x : FnSt) : (s.setFn f x).arbs = s.arbs := rfl
@[simp] theorem State.setFn_pcs (s : State) (f : Nat) (x : FnSt) : (s.setFn f x).pcs = s.pcs := rfl
@[simp] theorem State.setFn_links (s : State) (f : Nat) (x : FnSt) : (s.setFn f x).links = s.links := rfl
@[simp] theorem State.setFn_ring (s : State) (f : Nat) (x : FnSt) : (s.setFn f x).ring = s.ring := rfl
@[simp] theorem State.setFn_mem (s : State) (f : Nat) (x : FnSt) : (s.setFn f x).mem = s.mem := rfl
@[simp] theorem State.setFn_geom (s : State) (f : Nat) (x : FnSt) : (s.setFn f x).geom = s.geom := rfl
@[simp] theorem State.setFn_outPane (s : State) (f : Nat) (x : FnSt) : (s.setFn f x).outPane = s.outPane := rfl
@[simp] theorem State.setFn_outCas (s : State) (f : Nat) (x : FnSt) : (s.setFn f x).outCas = s.outCas := rfl
@[simp] theorem State.setFn_nextId (s : State) (f : Nat) (x : FnSt) : (s.setFn f x).nextId = s.nextId := rfl
@[simp] theorem State.setFn_closed (s : State) (f : Nat) (x : FnSt) : (s.setFn f x).closed = s.closed := rfl
@[simp] theorem State.setFn_fences (s : State) (f : Nat) (x : FnSt) : (s.setFn f x).fences = s.fences := rfl
@[simp] theorem State.setFn_logs (s : State) (f : Nat) (x : FnSt) : (s.setFn f x).logs = s.logs := rfl
@[simp] theorem State.setFn_levels (s : State) (f : Nat) (x : FnSt) : (s.setFn f x).levels = s.levels := rfl
@[simp] theorem State.setFn_leakAt (s : State) (f : Nat) (x : FnSt) : (s.setFn f x).leakAt = s.leakAt := rfl
@[simp] theorem State.setFn_trims (s : State) (f : Nat) (x : FnSt) : (s.setFn f x).trims = s.trims := rfl
@[simp] theorem State.setFn_lanes (s : State) (f : Nat) (x : FnSt) : (s.setFn f x).lanes = s.lanes := rfl
@[simp] theorem State.setFn_therm (s : State) (f : Nat) (x : FnSt) : (s.setFn f x).therm = s.therm := rfl
@[simp] theorem State.setFn_hinge (s : State) (f : Nat) (x : FnSt) : (s.setFn f x).hinge = s.hinge := rfl
@[simp] theorem State.setFn_samplers (s : State) (f : Nat) (x : FnSt) : (s.setFn f x).samplers = s.samplers := rfl
@[simp] theorem State.setFn_tracers (s : State) (f : Nat) (x : FnSt) : (s.setFn f x).tracers = s.tracers := rfl
@[simp] theorem State.setFn_ports (s : State) (f : Nat) (x : FnSt) : (s.setFn f x).ports = s.ports := rfl
@[simp] theorem State.setFn_fuseMap (s : State) (f : Nat) (x : FnSt) : (s.setFn f x).fuseMap = s.fuseMap := rfl
@[simp] theorem State.setFn_spareUsed (s : State) (f : Nat) (x : FnSt) : (s.setFn f x).spareUsed = s.spareUsed := rfl
@[simp] theorem State.setFn_turns (s : State) (f : Nat) (x : FnSt) : (s.setFn f x).turns = s.turns := rfl
@[simp] theorem State.setFn_shiftBuf (s : State) (f : Nat) (x : FnSt) : (s.setFn f x).shiftBuf = s.shiftBuf := rfl
@[simp] theorem State.setFn_queues (s : State) (f : Nat) (x : FnSt) : (s.setFn f x).queues = s.queues := rfl
@[simp] theorem State.setFn_colls (s : State) (f : Nat) (x : FnSt) : (s.setFn f x).colls = s.colls := rfl
@[simp] theorem State.setFn_notices (s : State) (f : Nat) (x : FnSt) : (s.setFn f x).notices = s.notices := rfl
@[simp] theorem State.setFn_deadColls (s : State) (f : Nat) (x : FnSt) : (s.setFn f x).deadColls = s.deadColls := rfl
@[simp] theorem State.setFn_cores (s : State) (f : Nat) (x : FnSt) : (s.setFn f x).cores = s.cores := rfl
@[simp] theorem State.setFn_clusters (s : State) (f : Nat) (x : FnSt) : (s.setFn f x).clusters = s.clusters := rfl
@[simp] theorem State.setFn_kernels (s : State) (f : Nat) (x : FnSt) : (s.setFn f x).kernels = s.kernels := rfl
@[simp] theorem State.setFn_pools (s : State) (f : Nat) (x : FnSt) : (s.setFn f x).pools = s.pools := rfl
@[simp] theorem State.setFn_copies (s : State) (f : Nat) (x : FnSt) : (s.setFn f x).copies = s.copies := rfl
@[simp] theorem State.setFn_pgWaits (s : State) (f : Nat) (x : FnSt) : (s.setFn f x).pgWaits = s.pgWaits := rfl
@[simp] theorem State.setFn_ptc (s : State) (f : Nat) (x : FnSt) : (s.setFn f x).ptc = s.ptc := rfl
@[simp] theorem State.setFn_expanders (s : State) (f : Nat) (x : FnSt) : (s.setFn f x).expanders = s.expanders := rfl
@[simp] theorem State.setFn_trw (s : State) (f : Nat) (x : FnSt) : (s.setFn f x).trw = s.trw := rfl
@[simp] theorem State.setFn_fabTx (s : State) (f : Nat) (x : FnSt) : (s.setFn f x).fabTx = s.fabTx := rfl
@[simp] theorem State.setFn_fabRx (s : State) (f : Nat) (x : FnSt) : (s.setFn f x).fabRx = s.fabRx := rfl
@[simp] theorem State.setFn_timeAsk (s : State) (f : Nat) (x : FnSt) : (s.setFn f x).timeAsk = s.timeAsk := rfl
@[simp] theorem State.setFn_joined (s : State) (f : Nat) (x : FnSt) : (s.setFn f x).joined = s.joined := rfl
@[simp] theorem State.setFn_aks (s : State) (f : Nat) (x : FnSt) : (s.setFn f x).aks = s.aks := rfl
@[simp] theorem State.setFn_slices (s : State) (f : Nat) (x : FnSt) : (s.setFn f x).slices = s.slices := rfl
@[simp] theorem State.setFn_msix (s : State) (f : Nat) (x : FnSt) : (s.setFn f x).msix = s.msix := rfl
@[simp] theorem State.setFn_hostRds (s : State) (f : Nat) (x : FnSt) : (s.setFn f x).hostRds = s.hostRds := rfl
@[simp] theorem State.setFn_hostWrs (s : State) (f : Nat) (x : FnSt) : (s.setFn f x).hostWrs = s.hostWrs := rfl
@[simp] theorem State.setFn_heldRegs (s : State) (f : Nat) (x : FnSt) : (s.setFn f x).heldRegs = s.heldRegs := rfl
@[simp] theorem State.setFn_slots (s : State) (f : Nat) (x : FnSt) : (s.setFn f x).slots = s.slots := rfl
@[simp] theorem State.setFn_freezeArm (s : State) (f : Nat) (x : FnSt) : (s.setFn f x).freezeArm = s.freezeArm := rfl
@[simp] theorem State.setFn_resetting (s : State) (f : Nat) (x : FnSt) : (s.setFn f x).resetting = s.resetting := rfl
@[simp] theorem State.setFn_caseWait (s : State) (f : Nat) (x : FnSt) : (s.setFn f x).caseWait = s.caseWait := rfl
@[simp] theorem State.setFn_answers (s : State) (f : Nat) (x : FnSt) : (s.setFn f x).answers = s.answers := rfl
@[simp] theorem State.setFn_pf1 (s : State) (f : Nat) (x : FnSt) : (s.setFn f x).pf1 = s.pf1 := rfl
@[simp] theorem State.setFn_pf2 (s : State) (f : Nat) (x : FnSt) : (s.setFn f x).pf2 = s.pf2 := rfl
@[simp] theorem State.setFn_out (s : State) (f : Nat) (x : FnSt) : (s.setFn f x).out = s.out := rfl
@[simp] theorem State.setFn_free (s : State) (f : Nat) (x : FnSt) : (s.setFn f x).free = s.free := rfl
@[simp] theorem State.setFn_pending (s : State) (f : Nat) (x : FnSt) : (s.setFn f x).pending = s.pending := rfl
@[simp] theorem State.setFn_rd (s : State) (f : Nat) (x : FnSt) (fld : Fld) (a b c : Nat) : (s.setFn f x).rd fld a b c = s.rd fld a b c := rfl

/-! ## State.setMsix -/

@[simp] theorem State.setMsix_clk (s : State) (k : Nat) (x : MsixSt) : (s.setMsix k x).clk = s.clk := rfl
@[simp] theorem State.setMsix_fuse (s : State) (k : Nat) (x : MsixSt) : (s.setMsix k x).fuse = s.fuse := rfl
@[simp] theorem State.setMsix_regs (s : State) (k : Nat) (x : MsixSt) : (s.setMsix k x).regs = s.regs := rfl
@[simp] theorem State.setMsix_half (s : State) (k : Nat) (x : MsixSt) : (s.setMsix k x).half = s.half := rfl
@[simp] theorem State.setMsix_cfg (s : State) (k : Nat) (x : MsixSt) : (s.setMsix k x).cfg = s.cfg := rfl
@[simp] theorem State.setMsix_staged (s : State) (k : Nat) (x : MsixSt) : (s.setMsix k x).staged = s.staged := rfl
@[simp] theorem State.setMsix_board (s : State) (k : Nat) (x : MsixSt) : (s.setMsix k x).board = s.board := rfl
@[simp] theorem State.setMsix_supply (s : State) (k : Nat) (x : MsixSt) : (s.setMsix k x).supply = s.supply := rfl
@[simp] theorem State.setMsix_boot (s : State) (k : Nat) (x : MsixSt) : (s.setMsix k x).boot = s.boot := rfl
@[simp] theorem State.setMsix_recov (s : State) (k : Nat) (x : MsixSt) : (s.setMsix k x).recov = s.recov := rfl
@[simp] theorem State.setMsix_doors (s : State) (k : Nat) (x : MsixSt) : (s.setMsix k x).doors = s.doors := rfl
@[simp] theorem State.setMsix_louvres (s : State) (k : Nat) (x : MsixSt) : (s.setMsix k x).louvres = s.louvres := rfl
@[simp] theorem State.setMsix_arbs (s : State) (k : Nat) (x : MsixSt) : (s.setMsix k x).arbs = s.arbs := rfl
@[simp] theorem State.setMsix_pcs (s : State) (k : Nat) (x : MsixSt) : (s.setMsix k x).pcs = s.pcs := rfl
@[simp] theorem State.setMsix_links (s : State) (k : Nat) (x : MsixSt) : (s.setMsix k x).links = s.links := rfl
@[simp] theorem State.setMsix_ring (s : State) (k : Nat) (x : MsixSt) : (s.setMsix k x).ring = s.ring := rfl
@[simp] theorem State.setMsix_mem (s : State) (k : Nat) (x : MsixSt) : (s.setMsix k x).mem = s.mem := rfl
@[simp] theorem State.setMsix_geom (s : State) (k : Nat) (x : MsixSt) : (s.setMsix k x).geom = s.geom := rfl
@[simp] theorem State.setMsix_outPane (s : State) (k : Nat) (x : MsixSt) : (s.setMsix k x).outPane = s.outPane := rfl
@[simp] theorem State.setMsix_outCas (s : State) (k : Nat) (x : MsixSt) : (s.setMsix k x).outCas = s.outCas := rfl
@[simp] theorem State.setMsix_nextId (s : State) (k : Nat) (x : MsixSt) : (s.setMsix k x).nextId = s.nextId := rfl
@[simp] theorem State.setMsix_closed (s : State) (k : Nat) (x : MsixSt) : (s.setMsix k x).closed = s.closed := rfl
@[simp] theorem State.setMsix_fences (s : State) (k : Nat) (x : MsixSt) : (s.setMsix k x).fences = s.fences := rfl
@[simp] theorem State.setMsix_logs (s : State) (k : Nat) (x : MsixSt) : (s.setMsix k x).logs = s.logs := rfl
@[simp] theorem State.setMsix_levels (s : State) (k : Nat) (x : MsixSt) : (s.setMsix k x).levels = s.levels := rfl
@[simp] theorem State.setMsix_leakAt (s : State) (k : Nat) (x : MsixSt) : (s.setMsix k x).leakAt = s.leakAt := rfl
@[simp] theorem State.setMsix_trims (s : State) (k : Nat) (x : MsixSt) : (s.setMsix k x).trims = s.trims := rfl
@[simp] theorem State.setMsix_lanes (s : State) (k : Nat) (x : MsixSt) : (s.setMsix k x).lanes = s.lanes := rfl
@[simp] theorem State.setMsix_therm (s : State) (k : Nat) (x : MsixSt) : (s.setMsix k x).therm = s.therm := rfl
@[simp] theorem State.setMsix_hinge (s : State) (k : Nat) (x : MsixSt) : (s.setMsix k x).hinge = s.hinge := rfl
@[simp] theorem State.setMsix_samplers (s : State) (k : Nat) (x : MsixSt) : (s.setMsix k x).samplers = s.samplers := rfl
@[simp] theorem State.setMsix_tracers (s : State) (k : Nat) (x : MsixSt) : (s.setMsix k x).tracers = s.tracers := rfl
@[simp] theorem State.setMsix_ports (s : State) (k : Nat) (x : MsixSt) : (s.setMsix k x).ports = s.ports := rfl
@[simp] theorem State.setMsix_fuseMap (s : State) (k : Nat) (x : MsixSt) : (s.setMsix k x).fuseMap = s.fuseMap := rfl
@[simp] theorem State.setMsix_spareUsed (s : State) (k : Nat) (x : MsixSt) : (s.setMsix k x).spareUsed = s.spareUsed := rfl
@[simp] theorem State.setMsix_turns (s : State) (k : Nat) (x : MsixSt) : (s.setMsix k x).turns = s.turns := rfl
@[simp] theorem State.setMsix_shiftBuf (s : State) (k : Nat) (x : MsixSt) : (s.setMsix k x).shiftBuf = s.shiftBuf := rfl
@[simp] theorem State.setMsix_queues (s : State) (k : Nat) (x : MsixSt) : (s.setMsix k x).queues = s.queues := rfl
@[simp] theorem State.setMsix_colls (s : State) (k : Nat) (x : MsixSt) : (s.setMsix k x).colls = s.colls := rfl
@[simp] theorem State.setMsix_notices (s : State) (k : Nat) (x : MsixSt) : (s.setMsix k x).notices = s.notices := rfl
@[simp] theorem State.setMsix_deadColls (s : State) (k : Nat) (x : MsixSt) : (s.setMsix k x).deadColls = s.deadColls := rfl
@[simp] theorem State.setMsix_cores (s : State) (k : Nat) (x : MsixSt) : (s.setMsix k x).cores = s.cores := rfl
@[simp] theorem State.setMsix_clusters (s : State) (k : Nat) (x : MsixSt) : (s.setMsix k x).clusters = s.clusters := rfl
@[simp] theorem State.setMsix_kernels (s : State) (k : Nat) (x : MsixSt) : (s.setMsix k x).kernels = s.kernels := rfl
@[simp] theorem State.setMsix_pools (s : State) (k : Nat) (x : MsixSt) : (s.setMsix k x).pools = s.pools := rfl
@[simp] theorem State.setMsix_copies (s : State) (k : Nat) (x : MsixSt) : (s.setMsix k x).copies = s.copies := rfl
@[simp] theorem State.setMsix_pgWaits (s : State) (k : Nat) (x : MsixSt) : (s.setMsix k x).pgWaits = s.pgWaits := rfl
@[simp] theorem State.setMsix_ptc (s : State) (k : Nat) (x : MsixSt) : (s.setMsix k x).ptc = s.ptc := rfl
@[simp] theorem State.setMsix_expanders (s : State) (k : Nat) (x : MsixSt) : (s.setMsix k x).expanders = s.expanders := rfl
@[simp] theorem State.setMsix_trw (s : State) (k : Nat) (x : MsixSt) : (s.setMsix k x).trw = s.trw := rfl
@[simp] theorem State.setMsix_fabTx (s : State) (k : Nat) (x : MsixSt) : (s.setMsix k x).fabTx = s.fabTx := rfl
@[simp] theorem State.setMsix_fabRx (s : State) (k : Nat) (x : MsixSt) : (s.setMsix k x).fabRx = s.fabRx := rfl
@[simp] theorem State.setMsix_timeAsk (s : State) (k : Nat) (x : MsixSt) : (s.setMsix k x).timeAsk = s.timeAsk := rfl
@[simp] theorem State.setMsix_joined (s : State) (k : Nat) (x : MsixSt) : (s.setMsix k x).joined = s.joined := rfl
@[simp] theorem State.setMsix_aks (s : State) (k : Nat) (x : MsixSt) : (s.setMsix k x).aks = s.aks := rfl
@[simp] theorem State.setMsix_slices (s : State) (k : Nat) (x : MsixSt) : (s.setMsix k x).slices = s.slices := rfl
@[simp] theorem State.setMsix_fns (s : State) (k : Nat) (x : MsixSt) : (s.setMsix k x).fns = s.fns := rfl
@[simp] theorem State.setMsix_hostRds (s : State) (k : Nat) (x : MsixSt) : (s.setMsix k x).hostRds = s.hostRds := rfl
@[simp] theorem State.setMsix_hostWrs (s : State) (k : Nat) (x : MsixSt) : (s.setMsix k x).hostWrs = s.hostWrs := rfl
@[simp] theorem State.setMsix_heldRegs (s : State) (k : Nat) (x : MsixSt) : (s.setMsix k x).heldRegs = s.heldRegs := rfl
@[simp] theorem State.setMsix_slots (s : State) (k : Nat) (x : MsixSt) : (s.setMsix k x).slots = s.slots := rfl
@[simp] theorem State.setMsix_freezeArm (s : State) (k : Nat) (x : MsixSt) : (s.setMsix k x).freezeArm = s.freezeArm := rfl
@[simp] theorem State.setMsix_resetting (s : State) (k : Nat) (x : MsixSt) : (s.setMsix k x).resetting = s.resetting := rfl
@[simp] theorem State.setMsix_caseWait (s : State) (k : Nat) (x : MsixSt) : (s.setMsix k x).caseWait = s.caseWait := rfl
@[simp] theorem State.setMsix_answers (s : State) (k : Nat) (x : MsixSt) : (s.setMsix k x).answers = s.answers := rfl
@[simp] theorem State.setMsix_pf1 (s : State) (k : Nat) (x : MsixSt) : (s.setMsix k x).pf1 = s.pf1 := rfl
@[simp] theorem State.setMsix_pf2 (s : State) (k : Nat) (x : MsixSt) : (s.setMsix k x).pf2 = s.pf2 := rfl
@[simp] theorem State.setMsix_out (s : State) (k : Nat) (x : MsixSt) : (s.setMsix k x).out = s.out := rfl
@[simp] theorem State.setMsix_free (s : State) (k : Nat) (x : MsixSt) : (s.setMsix k x).free = s.free := rfl
@[simp] theorem State.setMsix_pending (s : State) (k : Nat) (x : MsixSt) : (s.setMsix k x).pending = s.pending := rfl
@[simp] theorem State.setMsix_rd (s : State) (k : Nat) (x : MsixSt) (fld : Fld) (a b c : Nat) : (s.setMsix k x).rd fld a b c = s.rd fld a b c := rfl

/-! ## State.setQueue -/

@[simp] theorem State.setQueue_clk (s : State) (q : QueueId) (x : QSt) : (s.setQueue q x).clk = s.clk := rfl
@[simp] theorem State.setQueue_fuse (s : State) (q : QueueId) (x : QSt) : (s.setQueue q x).fuse = s.fuse := rfl
@[simp] theorem State.setQueue_regs (s : State) (q : QueueId) (x : QSt) : (s.setQueue q x).regs = s.regs := rfl
@[simp] theorem State.setQueue_half (s : State) (q : QueueId) (x : QSt) : (s.setQueue q x).half = s.half := rfl
@[simp] theorem State.setQueue_cfg (s : State) (q : QueueId) (x : QSt) : (s.setQueue q x).cfg = s.cfg := rfl
@[simp] theorem State.setQueue_staged (s : State) (q : QueueId) (x : QSt) : (s.setQueue q x).staged = s.staged := rfl
@[simp] theorem State.setQueue_board (s : State) (q : QueueId) (x : QSt) : (s.setQueue q x).board = s.board := rfl
@[simp] theorem State.setQueue_supply (s : State) (q : QueueId) (x : QSt) : (s.setQueue q x).supply = s.supply := rfl
@[simp] theorem State.setQueue_boot (s : State) (q : QueueId) (x : QSt) : (s.setQueue q x).boot = s.boot := rfl
@[simp] theorem State.setQueue_recov (s : State) (q : QueueId) (x : QSt) : (s.setQueue q x).recov = s.recov := rfl
@[simp] theorem State.setQueue_doors (s : State) (q : QueueId) (x : QSt) : (s.setQueue q x).doors = s.doors := rfl
@[simp] theorem State.setQueue_louvres (s : State) (q : QueueId) (x : QSt) : (s.setQueue q x).louvres = s.louvres := rfl
@[simp] theorem State.setQueue_arbs (s : State) (q : QueueId) (x : QSt) : (s.setQueue q x).arbs = s.arbs := rfl
@[simp] theorem State.setQueue_pcs (s : State) (q : QueueId) (x : QSt) : (s.setQueue q x).pcs = s.pcs := rfl
@[simp] theorem State.setQueue_links (s : State) (q : QueueId) (x : QSt) : (s.setQueue q x).links = s.links := rfl
@[simp] theorem State.setQueue_ring (s : State) (q : QueueId) (x : QSt) : (s.setQueue q x).ring = s.ring := rfl
@[simp] theorem State.setQueue_mem (s : State) (q : QueueId) (x : QSt) : (s.setQueue q x).mem = s.mem := rfl
@[simp] theorem State.setQueue_geom (s : State) (q : QueueId) (x : QSt) : (s.setQueue q x).geom = s.geom := rfl
@[simp] theorem State.setQueue_outPane (s : State) (q : QueueId) (x : QSt) : (s.setQueue q x).outPane = s.outPane := rfl
@[simp] theorem State.setQueue_outCas (s : State) (q : QueueId) (x : QSt) : (s.setQueue q x).outCas = s.outCas := rfl
@[simp] theorem State.setQueue_nextId (s : State) (q : QueueId) (x : QSt) : (s.setQueue q x).nextId = s.nextId := rfl
@[simp] theorem State.setQueue_closed (s : State) (q : QueueId) (x : QSt) : (s.setQueue q x).closed = s.closed := rfl
@[simp] theorem State.setQueue_fences (s : State) (q : QueueId) (x : QSt) : (s.setQueue q x).fences = s.fences := rfl
@[simp] theorem State.setQueue_logs (s : State) (q : QueueId) (x : QSt) : (s.setQueue q x).logs = s.logs := rfl
@[simp] theorem State.setQueue_levels (s : State) (q : QueueId) (x : QSt) : (s.setQueue q x).levels = s.levels := rfl
@[simp] theorem State.setQueue_leakAt (s : State) (q : QueueId) (x : QSt) : (s.setQueue q x).leakAt = s.leakAt := rfl
@[simp] theorem State.setQueue_trims (s : State) (q : QueueId) (x : QSt) : (s.setQueue q x).trims = s.trims := rfl
@[simp] theorem State.setQueue_lanes (s : State) (q : QueueId) (x : QSt) : (s.setQueue q x).lanes = s.lanes := rfl
@[simp] theorem State.setQueue_therm (s : State) (q : QueueId) (x : QSt) : (s.setQueue q x).therm = s.therm := rfl
@[simp] theorem State.setQueue_hinge (s : State) (q : QueueId) (x : QSt) : (s.setQueue q x).hinge = s.hinge := rfl
@[simp] theorem State.setQueue_samplers (s : State) (q : QueueId) (x : QSt) : (s.setQueue q x).samplers = s.samplers := rfl
@[simp] theorem State.setQueue_tracers (s : State) (q : QueueId) (x : QSt) : (s.setQueue q x).tracers = s.tracers := rfl
@[simp] theorem State.setQueue_ports (s : State) (q : QueueId) (x : QSt) : (s.setQueue q x).ports = s.ports := rfl
@[simp] theorem State.setQueue_fuseMap (s : State) (q : QueueId) (x : QSt) : (s.setQueue q x).fuseMap = s.fuseMap := rfl
@[simp] theorem State.setQueue_spareUsed (s : State) (q : QueueId) (x : QSt) : (s.setQueue q x).spareUsed = s.spareUsed := rfl
@[simp] theorem State.setQueue_turns (s : State) (q : QueueId) (x : QSt) : (s.setQueue q x).turns = s.turns := rfl
@[simp] theorem State.setQueue_shiftBuf (s : State) (q : QueueId) (x : QSt) : (s.setQueue q x).shiftBuf = s.shiftBuf := rfl
@[simp] theorem State.setQueue_colls (s : State) (q : QueueId) (x : QSt) : (s.setQueue q x).colls = s.colls := rfl
@[simp] theorem State.setQueue_notices (s : State) (q : QueueId) (x : QSt) : (s.setQueue q x).notices = s.notices := rfl
@[simp] theorem State.setQueue_deadColls (s : State) (q : QueueId) (x : QSt) : (s.setQueue q x).deadColls = s.deadColls := rfl
@[simp] theorem State.setQueue_cores (s : State) (q : QueueId) (x : QSt) : (s.setQueue q x).cores = s.cores := rfl
@[simp] theorem State.setQueue_clusters (s : State) (q : QueueId) (x : QSt) : (s.setQueue q x).clusters = s.clusters := rfl
@[simp] theorem State.setQueue_kernels (s : State) (q : QueueId) (x : QSt) : (s.setQueue q x).kernels = s.kernels := rfl
@[simp] theorem State.setQueue_pools (s : State) (q : QueueId) (x : QSt) : (s.setQueue q x).pools = s.pools := rfl
@[simp] theorem State.setQueue_copies (s : State) (q : QueueId) (x : QSt) : (s.setQueue q x).copies = s.copies := rfl
@[simp] theorem State.setQueue_pgWaits (s : State) (q : QueueId) (x : QSt) : (s.setQueue q x).pgWaits = s.pgWaits := rfl
@[simp] theorem State.setQueue_ptc (s : State) (q : QueueId) (x : QSt) : (s.setQueue q x).ptc = s.ptc := rfl
@[simp] theorem State.setQueue_expanders (s : State) (q : QueueId) (x : QSt) : (s.setQueue q x).expanders = s.expanders := rfl
@[simp] theorem State.setQueue_trw (s : State) (q : QueueId) (x : QSt) : (s.setQueue q x).trw = s.trw := rfl
@[simp] theorem State.setQueue_fabTx (s : State) (q : QueueId) (x : QSt) : (s.setQueue q x).fabTx = s.fabTx := rfl
@[simp] theorem State.setQueue_fabRx (s : State) (q : QueueId) (x : QSt) : (s.setQueue q x).fabRx = s.fabRx := rfl
@[simp] theorem State.setQueue_timeAsk (s : State) (q : QueueId) (x : QSt) : (s.setQueue q x).timeAsk = s.timeAsk := rfl
@[simp] theorem State.setQueue_joined (s : State) (q : QueueId) (x : QSt) : (s.setQueue q x).joined = s.joined := rfl
@[simp] theorem State.setQueue_aks (s : State) (q : QueueId) (x : QSt) : (s.setQueue q x).aks = s.aks := rfl
@[simp] theorem State.setQueue_slices (s : State) (q : QueueId) (x : QSt) : (s.setQueue q x).slices = s.slices := rfl
@[simp] theorem State.setQueue_fns (s : State) (q : QueueId) (x : QSt) : (s.setQueue q x).fns = s.fns := rfl
@[simp] theorem State.setQueue_msix (s : State) (q : QueueId) (x : QSt) : (s.setQueue q x).msix = s.msix := rfl
@[simp] theorem State.setQueue_hostRds (s : State) (q : QueueId) (x : QSt) : (s.setQueue q x).hostRds = s.hostRds := rfl
@[simp] theorem State.setQueue_hostWrs (s : State) (q : QueueId) (x : QSt) : (s.setQueue q x).hostWrs = s.hostWrs := rfl
@[simp] theorem State.setQueue_heldRegs (s : State) (q : QueueId) (x : QSt) : (s.setQueue q x).heldRegs = s.heldRegs := rfl
@[simp] theorem State.setQueue_slots (s : State) (q : QueueId) (x : QSt) : (s.setQueue q x).slots = s.slots := rfl
@[simp] theorem State.setQueue_freezeArm (s : State) (q : QueueId) (x : QSt) : (s.setQueue q x).freezeArm = s.freezeArm := rfl
@[simp] theorem State.setQueue_resetting (s : State) (q : QueueId) (x : QSt) : (s.setQueue q x).resetting = s.resetting := rfl
@[simp] theorem State.setQueue_caseWait (s : State) (q : QueueId) (x : QSt) : (s.setQueue q x).caseWait = s.caseWait := rfl
@[simp] theorem State.setQueue_answers (s : State) (q : QueueId) (x : QSt) : (s.setQueue q x).answers = s.answers := rfl
@[simp] theorem State.setQueue_pf1 (s : State) (q : QueueId) (x : QSt) : (s.setQueue q x).pf1 = s.pf1 := rfl
@[simp] theorem State.setQueue_pf2 (s : State) (q : QueueId) (x : QSt) : (s.setQueue q x).pf2 = s.pf2 := rfl
@[simp] theorem State.setQueue_out (s : State) (q : QueueId) (x : QSt) : (s.setQueue q x).out = s.out := rfl
@[simp] theorem State.setQueue_free (s : State) (q : QueueId) (x : QSt) : (s.setQueue q x).free = s.free := rfl
@[simp] theorem State.setQueue_pending (s : State) (q : QueueId) (x : QSt) : (s.setQueue q x).pending = s.pending := rfl
@[simp] theorem State.setQueue_rd (s : State) (q : QueueId) (x : QSt) (fld : Fld) (a b c : Nat) : (s.setQueue q x).rd fld a b c = s.rd fld a b c := rfl

/-! ## State.setCluster -/

@[simp] theorem State.setCluster_clk (s : State) (d k : Nat) (x : ClusterSt) : (s.setCluster d k x).clk = s.clk := rfl
@[simp] theorem State.setCluster_fuse (s : State) (d k : Nat) (x : ClusterSt) : (s.setCluster d k x).fuse = s.fuse := rfl
@[simp] theorem State.setCluster_regs (s : State) (d k : Nat) (x : ClusterSt) : (s.setCluster d k x).regs = s.regs := rfl
@[simp] theorem State.setCluster_half (s : State) (d k : Nat) (x : ClusterSt) : (s.setCluster d k x).half = s.half := rfl
@[simp] theorem State.setCluster_cfg (s : State) (d k : Nat) (x : ClusterSt) : (s.setCluster d k x).cfg = s.cfg := rfl
@[simp] theorem State.setCluster_staged (s : State) (d k : Nat) (x : ClusterSt) : (s.setCluster d k x).staged = s.staged := rfl
@[simp] theorem State.setCluster_board (s : State) (d k : Nat) (x : ClusterSt) : (s.setCluster d k x).board = s.board := rfl
@[simp] theorem State.setCluster_supply (s : State) (d k : Nat) (x : ClusterSt) : (s.setCluster d k x).supply = s.supply := rfl
@[simp] theorem State.setCluster_boot (s : State) (d k : Nat) (x : ClusterSt) : (s.setCluster d k x).boot = s.boot := rfl
@[simp] theorem State.setCluster_recov (s : State) (d k : Nat) (x : ClusterSt) : (s.setCluster d k x).recov = s.recov := rfl
@[simp] theorem State.setCluster_doors (s : State) (d k : Nat) (x : ClusterSt) : (s.setCluster d k x).doors = s.doors := rfl
@[simp] theorem State.setCluster_louvres (s : State) (d k : Nat) (x : ClusterSt) : (s.setCluster d k x).louvres = s.louvres := rfl
@[simp] theorem State.setCluster_arbs (s : State) (d k : Nat) (x : ClusterSt) : (s.setCluster d k x).arbs = s.arbs := rfl
@[simp] theorem State.setCluster_pcs (s : State) (d k : Nat) (x : ClusterSt) : (s.setCluster d k x).pcs = s.pcs := rfl
@[simp] theorem State.setCluster_links (s : State) (d k : Nat) (x : ClusterSt) : (s.setCluster d k x).links = s.links := rfl
@[simp] theorem State.setCluster_ring (s : State) (d k : Nat) (x : ClusterSt) : (s.setCluster d k x).ring = s.ring := rfl
@[simp] theorem State.setCluster_mem (s : State) (d k : Nat) (x : ClusterSt) : (s.setCluster d k x).mem = s.mem := rfl
@[simp] theorem State.setCluster_geom (s : State) (d k : Nat) (x : ClusterSt) : (s.setCluster d k x).geom = s.geom := rfl
@[simp] theorem State.setCluster_outPane (s : State) (d k : Nat) (x : ClusterSt) : (s.setCluster d k x).outPane = s.outPane := rfl
@[simp] theorem State.setCluster_outCas (s : State) (d k : Nat) (x : ClusterSt) : (s.setCluster d k x).outCas = s.outCas := rfl
@[simp] theorem State.setCluster_nextId (s : State) (d k : Nat) (x : ClusterSt) : (s.setCluster d k x).nextId = s.nextId := rfl
@[simp] theorem State.setCluster_closed (s : State) (d k : Nat) (x : ClusterSt) : (s.setCluster d k x).closed = s.closed := rfl
@[simp] theorem State.setCluster_fences (s : State) (d k : Nat) (x : ClusterSt) : (s.setCluster d k x).fences = s.fences := rfl
@[simp] theorem State.setCluster_logs (s : State) (d k : Nat) (x : ClusterSt) : (s.setCluster d k x).logs = s.logs := rfl
@[simp] theorem State.setCluster_levels (s : State) (d k : Nat) (x : ClusterSt) : (s.setCluster d k x).levels = s.levels := rfl
@[simp] theorem State.setCluster_leakAt (s : State) (d k : Nat) (x : ClusterSt) : (s.setCluster d k x).leakAt = s.leakAt := rfl
@[simp] theorem State.setCluster_trims (s : State) (d k : Nat) (x : ClusterSt) : (s.setCluster d k x).trims = s.trims := rfl
@[simp] theorem State.setCluster_lanes (s : State) (d k : Nat) (x : ClusterSt) : (s.setCluster d k x).lanes = s.lanes := rfl
@[simp] theorem State.setCluster_therm (s : State) (d k : Nat) (x : ClusterSt) : (s.setCluster d k x).therm = s.therm := rfl
@[simp] theorem State.setCluster_hinge (s : State) (d k : Nat) (x : ClusterSt) : (s.setCluster d k x).hinge = s.hinge := rfl
@[simp] theorem State.setCluster_samplers (s : State) (d k : Nat) (x : ClusterSt) : (s.setCluster d k x).samplers = s.samplers := rfl
@[simp] theorem State.setCluster_tracers (s : State) (d k : Nat) (x : ClusterSt) : (s.setCluster d k x).tracers = s.tracers := rfl
@[simp] theorem State.setCluster_ports (s : State) (d k : Nat) (x : ClusterSt) : (s.setCluster d k x).ports = s.ports := rfl
@[simp] theorem State.setCluster_fuseMap (s : State) (d k : Nat) (x : ClusterSt) : (s.setCluster d k x).fuseMap = s.fuseMap := rfl
@[simp] theorem State.setCluster_spareUsed (s : State) (d k : Nat) (x : ClusterSt) : (s.setCluster d k x).spareUsed = s.spareUsed := rfl
@[simp] theorem State.setCluster_turns (s : State) (d k : Nat) (x : ClusterSt) : (s.setCluster d k x).turns = s.turns := rfl
@[simp] theorem State.setCluster_shiftBuf (s : State) (d k : Nat) (x : ClusterSt) : (s.setCluster d k x).shiftBuf = s.shiftBuf := rfl
@[simp] theorem State.setCluster_queues (s : State) (d k : Nat) (x : ClusterSt) : (s.setCluster d k x).queues = s.queues := rfl
@[simp] theorem State.setCluster_colls (s : State) (d k : Nat) (x : ClusterSt) : (s.setCluster d k x).colls = s.colls := rfl
@[simp] theorem State.setCluster_notices (s : State) (d k : Nat) (x : ClusterSt) : (s.setCluster d k x).notices = s.notices := rfl
@[simp] theorem State.setCluster_deadColls (s : State) (d k : Nat) (x : ClusterSt) : (s.setCluster d k x).deadColls = s.deadColls := rfl
@[simp] theorem State.setCluster_cores (s : State) (d k : Nat) (x : ClusterSt) : (s.setCluster d k x).cores = s.cores := rfl
@[simp] theorem State.setCluster_kernels (s : State) (d k : Nat) (x : ClusterSt) : (s.setCluster d k x).kernels = s.kernels := rfl
@[simp] theorem State.setCluster_pools (s : State) (d k : Nat) (x : ClusterSt) : (s.setCluster d k x).pools = s.pools := rfl
@[simp] theorem State.setCluster_copies (s : State) (d k : Nat) (x : ClusterSt) : (s.setCluster d k x).copies = s.copies := rfl
@[simp] theorem State.setCluster_pgWaits (s : State) (d k : Nat) (x : ClusterSt) : (s.setCluster d k x).pgWaits = s.pgWaits := rfl
@[simp] theorem State.setCluster_ptc (s : State) (d k : Nat) (x : ClusterSt) : (s.setCluster d k x).ptc = s.ptc := rfl
@[simp] theorem State.setCluster_expanders (s : State) (d k : Nat) (x : ClusterSt) : (s.setCluster d k x).expanders = s.expanders := rfl
@[simp] theorem State.setCluster_trw (s : State) (d k : Nat) (x : ClusterSt) : (s.setCluster d k x).trw = s.trw := rfl
@[simp] theorem State.setCluster_fabTx (s : State) (d k : Nat) (x : ClusterSt) : (s.setCluster d k x).fabTx = s.fabTx := rfl
@[simp] theorem State.setCluster_fabRx (s : State) (d k : Nat) (x : ClusterSt) : (s.setCluster d k x).fabRx = s.fabRx := rfl
@[simp] theorem State.setCluster_timeAsk (s : State) (d k : Nat) (x : ClusterSt) : (s.setCluster d k x).timeAsk = s.timeAsk := rfl
@[simp] theorem State.setCluster_joined (s : State) (d k : Nat) (x : ClusterSt) : (s.setCluster d k x).joined = s.joined := rfl
@[simp] theorem State.setCluster_aks (s : State) (d k : Nat) (x : ClusterSt) : (s.setCluster d k x).aks = s.aks := rfl
@[simp] theorem State.setCluster_slices (s : State) (d k : Nat) (x : ClusterSt) : (s.setCluster d k x).slices = s.slices := rfl
@[simp] theorem State.setCluster_fns (s : State) (d k : Nat) (x : ClusterSt) : (s.setCluster d k x).fns = s.fns := rfl
@[simp] theorem State.setCluster_msix (s : State) (d k : Nat) (x : ClusterSt) : (s.setCluster d k x).msix = s.msix := rfl
@[simp] theorem State.setCluster_hostRds (s : State) (d k : Nat) (x : ClusterSt) : (s.setCluster d k x).hostRds = s.hostRds := rfl
@[simp] theorem State.setCluster_hostWrs (s : State) (d k : Nat) (x : ClusterSt) : (s.setCluster d k x).hostWrs = s.hostWrs := rfl
@[simp] theorem State.setCluster_heldRegs (s : State) (d k : Nat) (x : ClusterSt) : (s.setCluster d k x).heldRegs = s.heldRegs := rfl
@[simp] theorem State.setCluster_slots (s : State) (d k : Nat) (x : ClusterSt) : (s.setCluster d k x).slots = s.slots := rfl
@[simp] theorem State.setCluster_freezeArm (s : State) (d k : Nat) (x : ClusterSt) : (s.setCluster d k x).freezeArm = s.freezeArm := rfl
@[simp] theorem State.setCluster_resetting (s : State) (d k : Nat) (x : ClusterSt) : (s.setCluster d k x).resetting = s.resetting := rfl
@[simp] theorem State.setCluster_caseWait (s : State) (d k : Nat) (x : ClusterSt) : (s.setCluster d k x).caseWait = s.caseWait := rfl
@[simp] theorem State.setCluster_answers (s : State) (d k : Nat) (x : ClusterSt) : (s.setCluster d k x).answers = s.answers := rfl
@[simp] theorem State.setCluster_pf1 (s : State) (d k : Nat) (x : ClusterSt) : (s.setCluster d k x).pf1 = s.pf1 := rfl
@[simp] theorem State.setCluster_pf2 (s : State) (d k : Nat) (x : ClusterSt) : (s.setCluster d k x).pf2 = s.pf2 := rfl
@[simp] theorem State.setCluster_out (s : State) (d k : Nat) (x : ClusterSt) : (s.setCluster d k x).out = s.out := rfl
@[simp] theorem State.setCluster_free (s : State) (d k : Nat) (x : ClusterSt) : (s.setCluster d k x).free = s.free := rfl
@[simp] theorem State.setCluster_pending (s : State) (d k : Nat) (x : ClusterSt) : (s.setCluster d k x).pending = s.pending := rfl
@[simp] theorem State.setCluster_rd (s : State) (d k : Nat) (x : ClusterSt) (fld : Fld) (a b c : Nat) : (s.setCluster d k x).rd fld a b c = s.rd fld a b c := rfl

/-! ## State.setAksal -/

@[simp] theorem State.setAksal_clk (s : State) (d : Nat) (x : AksSt) : (s.setAksal d x).clk = s.clk := rfl
@[simp] theorem State.setAksal_fuse (s : State) (d : Nat) (x : AksSt) : (s.setAksal d x).fuse = s.fuse := rfl
@[simp] theorem State.setAksal_regs (s : State) (d : Nat) (x : AksSt) : (s.setAksal d x).regs = s.regs := rfl
@[simp] theorem State.setAksal_half (s : State) (d : Nat) (x : AksSt) : (s.setAksal d x).half = s.half := rfl
@[simp] theorem State.setAksal_cfg (s : State) (d : Nat) (x : AksSt) : (s.setAksal d x).cfg = s.cfg := rfl
@[simp] theorem State.setAksal_staged (s : State) (d : Nat) (x : AksSt) : (s.setAksal d x).staged = s.staged := rfl
@[simp] theorem State.setAksal_board (s : State) (d : Nat) (x : AksSt) : (s.setAksal d x).board = s.board := rfl
@[simp] theorem State.setAksal_supply (s : State) (d : Nat) (x : AksSt) : (s.setAksal d x).supply = s.supply := rfl
@[simp] theorem State.setAksal_boot (s : State) (d : Nat) (x : AksSt) : (s.setAksal d x).boot = s.boot := rfl
@[simp] theorem State.setAksal_recov (s : State) (d : Nat) (x : AksSt) : (s.setAksal d x).recov = s.recov := rfl
@[simp] theorem State.setAksal_doors (s : State) (d : Nat) (x : AksSt) : (s.setAksal d x).doors = s.doors := rfl
@[simp] theorem State.setAksal_louvres (s : State) (d : Nat) (x : AksSt) : (s.setAksal d x).louvres = s.louvres := rfl
@[simp] theorem State.setAksal_arbs (s : State) (d : Nat) (x : AksSt) : (s.setAksal d x).arbs = s.arbs := rfl
@[simp] theorem State.setAksal_pcs (s : State) (d : Nat) (x : AksSt) : (s.setAksal d x).pcs = s.pcs := rfl
@[simp] theorem State.setAksal_links (s : State) (d : Nat) (x : AksSt) : (s.setAksal d x).links = s.links := rfl
@[simp] theorem State.setAksal_ring (s : State) (d : Nat) (x : AksSt) : (s.setAksal d x).ring = s.ring := rfl
@[simp] theorem State.setAksal_mem (s : State) (d : Nat) (x : AksSt) : (s.setAksal d x).mem = s.mem := rfl
@[simp] theorem State.setAksal_geom (s : State) (d : Nat) (x : AksSt) : (s.setAksal d x).geom = s.geom := rfl
@[simp] theorem State.setAksal_outPane (s : State) (d : Nat) (x : AksSt) : (s.setAksal d x).outPane = s.outPane := rfl
@[simp] theorem State.setAksal_outCas (s : State) (d : Nat) (x : AksSt) : (s.setAksal d x).outCas = s.outCas := rfl
@[simp] theorem State.setAksal_nextId (s : State) (d : Nat) (x : AksSt) : (s.setAksal d x).nextId = s.nextId := rfl
@[simp] theorem State.setAksal_closed (s : State) (d : Nat) (x : AksSt) : (s.setAksal d x).closed = s.closed := rfl
@[simp] theorem State.setAksal_fences (s : State) (d : Nat) (x : AksSt) : (s.setAksal d x).fences = s.fences := rfl
@[simp] theorem State.setAksal_logs (s : State) (d : Nat) (x : AksSt) : (s.setAksal d x).logs = s.logs := rfl
@[simp] theorem State.setAksal_levels (s : State) (d : Nat) (x : AksSt) : (s.setAksal d x).levels = s.levels := rfl
@[simp] theorem State.setAksal_leakAt (s : State) (d : Nat) (x : AksSt) : (s.setAksal d x).leakAt = s.leakAt := rfl
@[simp] theorem State.setAksal_trims (s : State) (d : Nat) (x : AksSt) : (s.setAksal d x).trims = s.trims := rfl
@[simp] theorem State.setAksal_lanes (s : State) (d : Nat) (x : AksSt) : (s.setAksal d x).lanes = s.lanes := rfl
@[simp] theorem State.setAksal_therm (s : State) (d : Nat) (x : AksSt) : (s.setAksal d x).therm = s.therm := rfl
@[simp] theorem State.setAksal_hinge (s : State) (d : Nat) (x : AksSt) : (s.setAksal d x).hinge = s.hinge := rfl
@[simp] theorem State.setAksal_samplers (s : State) (d : Nat) (x : AksSt) : (s.setAksal d x).samplers = s.samplers := rfl
@[simp] theorem State.setAksal_tracers (s : State) (d : Nat) (x : AksSt) : (s.setAksal d x).tracers = s.tracers := rfl
@[simp] theorem State.setAksal_ports (s : State) (d : Nat) (x : AksSt) : (s.setAksal d x).ports = s.ports := rfl
@[simp] theorem State.setAksal_fuseMap (s : State) (d : Nat) (x : AksSt) : (s.setAksal d x).fuseMap = s.fuseMap := rfl
@[simp] theorem State.setAksal_spareUsed (s : State) (d : Nat) (x : AksSt) : (s.setAksal d x).spareUsed = s.spareUsed := rfl
@[simp] theorem State.setAksal_turns (s : State) (d : Nat) (x : AksSt) : (s.setAksal d x).turns = s.turns := rfl
@[simp] theorem State.setAksal_shiftBuf (s : State) (d : Nat) (x : AksSt) : (s.setAksal d x).shiftBuf = s.shiftBuf := rfl
@[simp] theorem State.setAksal_queues (s : State) (d : Nat) (x : AksSt) : (s.setAksal d x).queues = s.queues := rfl
@[simp] theorem State.setAksal_colls (s : State) (d : Nat) (x : AksSt) : (s.setAksal d x).colls = s.colls := rfl
@[simp] theorem State.setAksal_notices (s : State) (d : Nat) (x : AksSt) : (s.setAksal d x).notices = s.notices := rfl
@[simp] theorem State.setAksal_deadColls (s : State) (d : Nat) (x : AksSt) : (s.setAksal d x).deadColls = s.deadColls := rfl
@[simp] theorem State.setAksal_cores (s : State) (d : Nat) (x : AksSt) : (s.setAksal d x).cores = s.cores := rfl
@[simp] theorem State.setAksal_clusters (s : State) (d : Nat) (x : AksSt) : (s.setAksal d x).clusters = s.clusters := rfl
@[simp] theorem State.setAksal_kernels (s : State) (d : Nat) (x : AksSt) : (s.setAksal d x).kernels = s.kernels := rfl
@[simp] theorem State.setAksal_pools (s : State) (d : Nat) (x : AksSt) : (s.setAksal d x).pools = s.pools := rfl
@[simp] theorem State.setAksal_copies (s : State) (d : Nat) (x : AksSt) : (s.setAksal d x).copies = s.copies := rfl
@[simp] theorem State.setAksal_pgWaits (s : State) (d : Nat) (x : AksSt) : (s.setAksal d x).pgWaits = s.pgWaits := rfl
@[simp] theorem State.setAksal_ptc (s : State) (d : Nat) (x : AksSt) : (s.setAksal d x).ptc = s.ptc := rfl
@[simp] theorem State.setAksal_expanders (s : State) (d : Nat) (x : AksSt) : (s.setAksal d x).expanders = s.expanders := rfl
@[simp] theorem State.setAksal_trw (s : State) (d : Nat) (x : AksSt) : (s.setAksal d x).trw = s.trw := rfl
@[simp] theorem State.setAksal_fabTx (s : State) (d : Nat) (x : AksSt) : (s.setAksal d x).fabTx = s.fabTx := rfl
@[simp] theorem State.setAksal_fabRx (s : State) (d : Nat) (x : AksSt) : (s.setAksal d x).fabRx = s.fabRx := rfl
@[simp] theorem State.setAksal_timeAsk (s : State) (d : Nat) (x : AksSt) : (s.setAksal d x).timeAsk = s.timeAsk := rfl
@[simp] theorem State.setAksal_joined (s : State) (d : Nat) (x : AksSt) : (s.setAksal d x).joined = s.joined := rfl
@[simp] theorem State.setAksal_slices (s : State) (d : Nat) (x : AksSt) : (s.setAksal d x).slices = s.slices := rfl
@[simp] theorem State.setAksal_fns (s : State) (d : Nat) (x : AksSt) : (s.setAksal d x).fns = s.fns := rfl
@[simp] theorem State.setAksal_msix (s : State) (d : Nat) (x : AksSt) : (s.setAksal d x).msix = s.msix := rfl
@[simp] theorem State.setAksal_hostRds (s : State) (d : Nat) (x : AksSt) : (s.setAksal d x).hostRds = s.hostRds := rfl
@[simp] theorem State.setAksal_hostWrs (s : State) (d : Nat) (x : AksSt) : (s.setAksal d x).hostWrs = s.hostWrs := rfl
@[simp] theorem State.setAksal_heldRegs (s : State) (d : Nat) (x : AksSt) : (s.setAksal d x).heldRegs = s.heldRegs := rfl
@[simp] theorem State.setAksal_slots (s : State) (d : Nat) (x : AksSt) : (s.setAksal d x).slots = s.slots := rfl
@[simp] theorem State.setAksal_freezeArm (s : State) (d : Nat) (x : AksSt) : (s.setAksal d x).freezeArm = s.freezeArm := rfl
@[simp] theorem State.setAksal_resetting (s : State) (d : Nat) (x : AksSt) : (s.setAksal d x).resetting = s.resetting := rfl
@[simp] theorem State.setAksal_caseWait (s : State) (d : Nat) (x : AksSt) : (s.setAksal d x).caseWait = s.caseWait := rfl
@[simp] theorem State.setAksal_answers (s : State) (d : Nat) (x : AksSt) : (s.setAksal d x).answers = s.answers := rfl
@[simp] theorem State.setAksal_pf1 (s : State) (d : Nat) (x : AksSt) : (s.setAksal d x).pf1 = s.pf1 := rfl
@[simp] theorem State.setAksal_pf2 (s : State) (d : Nat) (x : AksSt) : (s.setAksal d x).pf2 = s.pf2 := rfl
@[simp] theorem State.setAksal_out (s : State) (d : Nat) (x : AksSt) : (s.setAksal d x).out = s.out := rfl
@[simp] theorem State.setAksal_free (s : State) (d : Nat) (x : AksSt) : (s.setAksal d x).free = s.free := rfl
@[simp] theorem State.setAksal_pending (s : State) (d : Nat) (x : AksSt) : (s.setAksal d x).pending = s.pending := rfl
@[simp] theorem State.setAksal_rd (s : State) (d : Nat) (x : AksSt) (fld : Fld) (a b c : Nat) : (s.setAksal d x).rd fld a b c = s.rd fld a b c := rfl

/-! ## State.setCore -/

@[simp] theorem State.setCore_clk (s : State) (p : CorePos) (x : CoreSt) : (s.setCore p x).clk = s.clk := rfl
@[simp] theorem State.setCore_fuse (s : State) (p : CorePos) (x : CoreSt) : (s.setCore p x).fuse = s.fuse := rfl
@[simp] theorem State.setCore_regs (s : State) (p : CorePos) (x : CoreSt) : (s.setCore p x).regs = s.regs := rfl
@[simp] theorem State.setCore_half (s : State) (p : CorePos) (x : CoreSt) : (s.setCore p x).half = s.half := rfl
@[simp] theorem State.setCore_cfg (s : State) (p : CorePos) (x : CoreSt) : (s.setCore p x).cfg = s.cfg := rfl
@[simp] theorem State.setCore_staged (s : State) (p : CorePos) (x : CoreSt) : (s.setCore p x).staged = s.staged := rfl
@[simp] theorem State.setCore_board (s : State) (p : CorePos) (x : CoreSt) : (s.setCore p x).board = s.board := rfl
@[simp] theorem State.setCore_supply (s : State) (p : CorePos) (x : CoreSt) : (s.setCore p x).supply = s.supply := rfl
@[simp] theorem State.setCore_boot (s : State) (p : CorePos) (x : CoreSt) : (s.setCore p x).boot = s.boot := rfl
@[simp] theorem State.setCore_recov (s : State) (p : CorePos) (x : CoreSt) : (s.setCore p x).recov = s.recov := rfl
@[simp] theorem State.setCore_doors (s : State) (p : CorePos) (x : CoreSt) : (s.setCore p x).doors = s.doors := rfl
@[simp] theorem State.setCore_louvres (s : State) (p : CorePos) (x : CoreSt) : (s.setCore p x).louvres = s.louvres := rfl
@[simp] theorem State.setCore_arbs (s : State) (p : CorePos) (x : CoreSt) : (s.setCore p x).arbs = s.arbs := rfl
@[simp] theorem State.setCore_pcs (s : State) (p : CorePos) (x : CoreSt) : (s.setCore p x).pcs = s.pcs := rfl
@[simp] theorem State.setCore_links (s : State) (p : CorePos) (x : CoreSt) : (s.setCore p x).links = s.links := rfl
@[simp] theorem State.setCore_ring (s : State) (p : CorePos) (x : CoreSt) : (s.setCore p x).ring = s.ring := rfl
@[simp] theorem State.setCore_mem (s : State) (p : CorePos) (x : CoreSt) : (s.setCore p x).mem = s.mem := rfl
@[simp] theorem State.setCore_geom (s : State) (p : CorePos) (x : CoreSt) : (s.setCore p x).geom = s.geom := rfl
@[simp] theorem State.setCore_outPane (s : State) (p : CorePos) (x : CoreSt) : (s.setCore p x).outPane = s.outPane := rfl
@[simp] theorem State.setCore_outCas (s : State) (p : CorePos) (x : CoreSt) : (s.setCore p x).outCas = s.outCas := rfl
@[simp] theorem State.setCore_nextId (s : State) (p : CorePos) (x : CoreSt) : (s.setCore p x).nextId = s.nextId := rfl
@[simp] theorem State.setCore_closed (s : State) (p : CorePos) (x : CoreSt) : (s.setCore p x).closed = s.closed := rfl
@[simp] theorem State.setCore_fences (s : State) (p : CorePos) (x : CoreSt) : (s.setCore p x).fences = s.fences := rfl
@[simp] theorem State.setCore_logs (s : State) (p : CorePos) (x : CoreSt) : (s.setCore p x).logs = s.logs := rfl
@[simp] theorem State.setCore_levels (s : State) (p : CorePos) (x : CoreSt) : (s.setCore p x).levels = s.levels := rfl
@[simp] theorem State.setCore_leakAt (s : State) (p : CorePos) (x : CoreSt) : (s.setCore p x).leakAt = s.leakAt := rfl
@[simp] theorem State.setCore_trims (s : State) (p : CorePos) (x : CoreSt) : (s.setCore p x).trims = s.trims := rfl
@[simp] theorem State.setCore_lanes (s : State) (p : CorePos) (x : CoreSt) : (s.setCore p x).lanes = s.lanes := rfl
@[simp] theorem State.setCore_therm (s : State) (p : CorePos) (x : CoreSt) : (s.setCore p x).therm = s.therm := rfl
@[simp] theorem State.setCore_hinge (s : State) (p : CorePos) (x : CoreSt) : (s.setCore p x).hinge = s.hinge := rfl
@[simp] theorem State.setCore_samplers (s : State) (p : CorePos) (x : CoreSt) : (s.setCore p x).samplers = s.samplers := rfl
@[simp] theorem State.setCore_tracers (s : State) (p : CorePos) (x : CoreSt) : (s.setCore p x).tracers = s.tracers := rfl
@[simp] theorem State.setCore_ports (s : State) (p : CorePos) (x : CoreSt) : (s.setCore p x).ports = s.ports := rfl
@[simp] theorem State.setCore_fuseMap (s : State) (p : CorePos) (x : CoreSt) : (s.setCore p x).fuseMap = s.fuseMap := rfl
@[simp] theorem State.setCore_spareUsed (s : State) (p : CorePos) (x : CoreSt) : (s.setCore p x).spareUsed = s.spareUsed := rfl
@[simp] theorem State.setCore_turns (s : State) (p : CorePos) (x : CoreSt) : (s.setCore p x).turns = s.turns := rfl
@[simp] theorem State.setCore_shiftBuf (s : State) (p : CorePos) (x : CoreSt) : (s.setCore p x).shiftBuf = s.shiftBuf := rfl
@[simp] theorem State.setCore_queues (s : State) (p : CorePos) (x : CoreSt) : (s.setCore p x).queues = s.queues := rfl
@[simp] theorem State.setCore_colls (s : State) (p : CorePos) (x : CoreSt) : (s.setCore p x).colls = s.colls := rfl
@[simp] theorem State.setCore_notices (s : State) (p : CorePos) (x : CoreSt) : (s.setCore p x).notices = s.notices := rfl
@[simp] theorem State.setCore_deadColls (s : State) (p : CorePos) (x : CoreSt) : (s.setCore p x).deadColls = s.deadColls := rfl
@[simp] theorem State.setCore_clusters (s : State) (p : CorePos) (x : CoreSt) : (s.setCore p x).clusters = s.clusters := rfl
@[simp] theorem State.setCore_kernels (s : State) (p : CorePos) (x : CoreSt) : (s.setCore p x).kernels = s.kernels := rfl
@[simp] theorem State.setCore_pools (s : State) (p : CorePos) (x : CoreSt) : (s.setCore p x).pools = s.pools := rfl
@[simp] theorem State.setCore_copies (s : State) (p : CorePos) (x : CoreSt) : (s.setCore p x).copies = s.copies := rfl
@[simp] theorem State.setCore_pgWaits (s : State) (p : CorePos) (x : CoreSt) : (s.setCore p x).pgWaits = s.pgWaits := rfl
@[simp] theorem State.setCore_ptc (s : State) (p : CorePos) (x : CoreSt) : (s.setCore p x).ptc = s.ptc := rfl
@[simp] theorem State.setCore_expanders (s : State) (p : CorePos) (x : CoreSt) : (s.setCore p x).expanders = s.expanders := rfl
@[simp] theorem State.setCore_trw (s : State) (p : CorePos) (x : CoreSt) : (s.setCore p x).trw = s.trw := rfl
@[simp] theorem State.setCore_fabTx (s : State) (p : CorePos) (x : CoreSt) : (s.setCore p x).fabTx = s.fabTx := rfl
@[simp] theorem State.setCore_fabRx (s : State) (p : CorePos) (x : CoreSt) : (s.setCore p x).fabRx = s.fabRx := rfl
@[simp] theorem State.setCore_timeAsk (s : State) (p : CorePos) (x : CoreSt) : (s.setCore p x).timeAsk = s.timeAsk := rfl
@[simp] theorem State.setCore_joined (s : State) (p : CorePos) (x : CoreSt) : (s.setCore p x).joined = s.joined := rfl
@[simp] theorem State.setCore_aks (s : State) (p : CorePos) (x : CoreSt) : (s.setCore p x).aks = s.aks := rfl
@[simp] theorem State.setCore_slices (s : State) (p : CorePos) (x : CoreSt) : (s.setCore p x).slices = s.slices := rfl
@[simp] theorem State.setCore_fns (s : State) (p : CorePos) (x : CoreSt) : (s.setCore p x).fns = s.fns := rfl
@[simp] theorem State.setCore_msix (s : State) (p : CorePos) (x : CoreSt) : (s.setCore p x).msix = s.msix := rfl
@[simp] theorem State.setCore_hostRds (s : State) (p : CorePos) (x : CoreSt) : (s.setCore p x).hostRds = s.hostRds := rfl
@[simp] theorem State.setCore_hostWrs (s : State) (p : CorePos) (x : CoreSt) : (s.setCore p x).hostWrs = s.hostWrs := rfl
@[simp] theorem State.setCore_heldRegs (s : State) (p : CorePos) (x : CoreSt) : (s.setCore p x).heldRegs = s.heldRegs := rfl
@[simp] theorem State.setCore_slots (s : State) (p : CorePos) (x : CoreSt) : (s.setCore p x).slots = s.slots := rfl
@[simp] theorem State.setCore_freezeArm (s : State) (p : CorePos) (x : CoreSt) : (s.setCore p x).freezeArm = s.freezeArm := rfl
@[simp] theorem State.setCore_resetting (s : State) (p : CorePos) (x : CoreSt) : (s.setCore p x).resetting = s.resetting := rfl
@[simp] theorem State.setCore_caseWait (s : State) (p : CorePos) (x : CoreSt) : (s.setCore p x).caseWait = s.caseWait := rfl
@[simp] theorem State.setCore_answers (s : State) (p : CorePos) (x : CoreSt) : (s.setCore p x).answers = s.answers := rfl
@[simp] theorem State.setCore_pf1 (s : State) (p : CorePos) (x : CoreSt) : (s.setCore p x).pf1 = s.pf1 := rfl
@[simp] theorem State.setCore_pf2 (s : State) (p : CorePos) (x : CoreSt) : (s.setCore p x).pf2 = s.pf2 := rfl
@[simp] theorem State.setCore_out (s : State) (p : CorePos) (x : CoreSt) : (s.setCore p x).out = s.out := rfl
@[simp] theorem State.setCore_free (s : State) (p : CorePos) (x : CoreSt) : (s.setCore p x).free = s.free := rfl
@[simp] theorem State.setCore_pending (s : State) (p : CorePos) (x : CoreSt) : (s.setCore p x).pending = s.pending := rfl
@[simp] theorem State.setCore_rd (s : State) (p : CorePos) (x : CoreSt) (fld : Fld) (a b c : Nat) : (s.setCore p x).rd fld a b c = s.rd fld a b c := rfl

/-! ## State.setExp -/

@[simp] theorem State.setExp_clk (s : State) (d e : Nat) (x : ExpSt) : (s.setExp d e x).clk = s.clk := rfl
@[simp] theorem State.setExp_fuse (s : State) (d e : Nat) (x : ExpSt) : (s.setExp d e x).fuse = s.fuse := rfl
@[simp] theorem State.setExp_regs (s : State) (d e : Nat) (x : ExpSt) : (s.setExp d e x).regs = s.regs := rfl
@[simp] theorem State.setExp_half (s : State) (d e : Nat) (x : ExpSt) : (s.setExp d e x).half = s.half := rfl
@[simp] theorem State.setExp_cfg (s : State) (d e : Nat) (x : ExpSt) : (s.setExp d e x).cfg = s.cfg := rfl
@[simp] theorem State.setExp_staged (s : State) (d e : Nat) (x : ExpSt) : (s.setExp d e x).staged = s.staged := rfl
@[simp] theorem State.setExp_board (s : State) (d e : Nat) (x : ExpSt) : (s.setExp d e x).board = s.board := rfl
@[simp] theorem State.setExp_supply (s : State) (d e : Nat) (x : ExpSt) : (s.setExp d e x).supply = s.supply := rfl
@[simp] theorem State.setExp_boot (s : State) (d e : Nat) (x : ExpSt) : (s.setExp d e x).boot = s.boot := rfl
@[simp] theorem State.setExp_recov (s : State) (d e : Nat) (x : ExpSt) : (s.setExp d e x).recov = s.recov := rfl
@[simp] theorem State.setExp_doors (s : State) (d e : Nat) (x : ExpSt) : (s.setExp d e x).doors = s.doors := rfl
@[simp] theorem State.setExp_louvres (s : State) (d e : Nat) (x : ExpSt) : (s.setExp d e x).louvres = s.louvres := rfl
@[simp] theorem State.setExp_arbs (s : State) (d e : Nat) (x : ExpSt) : (s.setExp d e x).arbs = s.arbs := rfl
@[simp] theorem State.setExp_pcs (s : State) (d e : Nat) (x : ExpSt) : (s.setExp d e x).pcs = s.pcs := rfl
@[simp] theorem State.setExp_links (s : State) (d e : Nat) (x : ExpSt) : (s.setExp d e x).links = s.links := rfl
@[simp] theorem State.setExp_ring (s : State) (d e : Nat) (x : ExpSt) : (s.setExp d e x).ring = s.ring := rfl
@[simp] theorem State.setExp_mem (s : State) (d e : Nat) (x : ExpSt) : (s.setExp d e x).mem = s.mem := rfl
@[simp] theorem State.setExp_geom (s : State) (d e : Nat) (x : ExpSt) : (s.setExp d e x).geom = s.geom := rfl
@[simp] theorem State.setExp_outPane (s : State) (d e : Nat) (x : ExpSt) : (s.setExp d e x).outPane = s.outPane := rfl
@[simp] theorem State.setExp_outCas (s : State) (d e : Nat) (x : ExpSt) : (s.setExp d e x).outCas = s.outCas := rfl
@[simp] theorem State.setExp_nextId (s : State) (d e : Nat) (x : ExpSt) : (s.setExp d e x).nextId = s.nextId := rfl
@[simp] theorem State.setExp_closed (s : State) (d e : Nat) (x : ExpSt) : (s.setExp d e x).closed = s.closed := rfl
@[simp] theorem State.setExp_fences (s : State) (d e : Nat) (x : ExpSt) : (s.setExp d e x).fences = s.fences := rfl
@[simp] theorem State.setExp_logs (s : State) (d e : Nat) (x : ExpSt) : (s.setExp d e x).logs = s.logs := rfl
@[simp] theorem State.setExp_levels (s : State) (d e : Nat) (x : ExpSt) : (s.setExp d e x).levels = s.levels := rfl
@[simp] theorem State.setExp_leakAt (s : State) (d e : Nat) (x : ExpSt) : (s.setExp d e x).leakAt = s.leakAt := rfl
@[simp] theorem State.setExp_trims (s : State) (d e : Nat) (x : ExpSt) : (s.setExp d e x).trims = s.trims := rfl
@[simp] theorem State.setExp_lanes (s : State) (d e : Nat) (x : ExpSt) : (s.setExp d e x).lanes = s.lanes := rfl
@[simp] theorem State.setExp_therm (s : State) (d e : Nat) (x : ExpSt) : (s.setExp d e x).therm = s.therm := rfl
@[simp] theorem State.setExp_hinge (s : State) (d e : Nat) (x : ExpSt) : (s.setExp d e x).hinge = s.hinge := rfl
@[simp] theorem State.setExp_samplers (s : State) (d e : Nat) (x : ExpSt) : (s.setExp d e x).samplers = s.samplers := rfl
@[simp] theorem State.setExp_tracers (s : State) (d e : Nat) (x : ExpSt) : (s.setExp d e x).tracers = s.tracers := rfl
@[simp] theorem State.setExp_ports (s : State) (d e : Nat) (x : ExpSt) : (s.setExp d e x).ports = s.ports := rfl
@[simp] theorem State.setExp_fuseMap (s : State) (d e : Nat) (x : ExpSt) : (s.setExp d e x).fuseMap = s.fuseMap := rfl
@[simp] theorem State.setExp_spareUsed (s : State) (d e : Nat) (x : ExpSt) : (s.setExp d e x).spareUsed = s.spareUsed := rfl
@[simp] theorem State.setExp_turns (s : State) (d e : Nat) (x : ExpSt) : (s.setExp d e x).turns = s.turns := rfl
@[simp] theorem State.setExp_shiftBuf (s : State) (d e : Nat) (x : ExpSt) : (s.setExp d e x).shiftBuf = s.shiftBuf := rfl
@[simp] theorem State.setExp_queues (s : State) (d e : Nat) (x : ExpSt) : (s.setExp d e x).queues = s.queues := rfl
@[simp] theorem State.setExp_colls (s : State) (d e : Nat) (x : ExpSt) : (s.setExp d e x).colls = s.colls := rfl
@[simp] theorem State.setExp_notices (s : State) (d e : Nat) (x : ExpSt) : (s.setExp d e x).notices = s.notices := rfl
@[simp] theorem State.setExp_deadColls (s : State) (d e : Nat) (x : ExpSt) : (s.setExp d e x).deadColls = s.deadColls := rfl
@[simp] theorem State.setExp_cores (s : State) (d e : Nat) (x : ExpSt) : (s.setExp d e x).cores = s.cores := rfl
@[simp] theorem State.setExp_clusters (s : State) (d e : Nat) (x : ExpSt) : (s.setExp d e x).clusters = s.clusters := rfl
@[simp] theorem State.setExp_kernels (s : State) (d e : Nat) (x : ExpSt) : (s.setExp d e x).kernels = s.kernels := rfl
@[simp] theorem State.setExp_pools (s : State) (d e : Nat) (x : ExpSt) : (s.setExp d e x).pools = s.pools := rfl
@[simp] theorem State.setExp_copies (s : State) (d e : Nat) (x : ExpSt) : (s.setExp d e x).copies = s.copies := rfl
@[simp] theorem State.setExp_pgWaits (s : State) (d e : Nat) (x : ExpSt) : (s.setExp d e x).pgWaits = s.pgWaits := rfl
@[simp] theorem State.setExp_ptc (s : State) (d e : Nat) (x : ExpSt) : (s.setExp d e x).ptc = s.ptc := rfl
@[simp] theorem State.setExp_trw (s : State) (d e : Nat) (x : ExpSt) : (s.setExp d e x).trw = s.trw := rfl
@[simp] theorem State.setExp_fabTx (s : State) (d e : Nat) (x : ExpSt) : (s.setExp d e x).fabTx = s.fabTx := rfl
@[simp] theorem State.setExp_fabRx (s : State) (d e : Nat) (x : ExpSt) : (s.setExp d e x).fabRx = s.fabRx := rfl
@[simp] theorem State.setExp_timeAsk (s : State) (d e : Nat) (x : ExpSt) : (s.setExp d e x).timeAsk = s.timeAsk := rfl
@[simp] theorem State.setExp_joined (s : State) (d e : Nat) (x : ExpSt) : (s.setExp d e x).joined = s.joined := rfl
@[simp] theorem State.setExp_aks (s : State) (d e : Nat) (x : ExpSt) : (s.setExp d e x).aks = s.aks := rfl
@[simp] theorem State.setExp_slices (s : State) (d e : Nat) (x : ExpSt) : (s.setExp d e x).slices = s.slices := rfl
@[simp] theorem State.setExp_fns (s : State) (d e : Nat) (x : ExpSt) : (s.setExp d e x).fns = s.fns := rfl
@[simp] theorem State.setExp_msix (s : State) (d e : Nat) (x : ExpSt) : (s.setExp d e x).msix = s.msix := rfl
@[simp] theorem State.setExp_hostRds (s : State) (d e : Nat) (x : ExpSt) : (s.setExp d e x).hostRds = s.hostRds := rfl
@[simp] theorem State.setExp_hostWrs (s : State) (d e : Nat) (x : ExpSt) : (s.setExp d e x).hostWrs = s.hostWrs := rfl
@[simp] theorem State.setExp_heldRegs (s : State) (d e : Nat) (x : ExpSt) : (s.setExp d e x).heldRegs = s.heldRegs := rfl
@[simp] theorem State.setExp_slots (s : State) (d e : Nat) (x : ExpSt) : (s.setExp d e x).slots = s.slots := rfl
@[simp] theorem State.setExp_freezeArm (s : State) (d e : Nat) (x : ExpSt) : (s.setExp d e x).freezeArm = s.freezeArm := rfl
@[simp] theorem State.setExp_resetting (s : State) (d e : Nat) (x : ExpSt) : (s.setExp d e x).resetting = s.resetting := rfl
@[simp] theorem State.setExp_caseWait (s : State) (d e : Nat) (x : ExpSt) : (s.setExp d e x).caseWait = s.caseWait := rfl
@[simp] theorem State.setExp_answers (s : State) (d e : Nat) (x : ExpSt) : (s.setExp d e x).answers = s.answers := rfl
@[simp] theorem State.setExp_pf1 (s : State) (d e : Nat) (x : ExpSt) : (s.setExp d e x).pf1 = s.pf1 := rfl
@[simp] theorem State.setExp_pf2 (s : State) (d e : Nat) (x : ExpSt) : (s.setExp d e x).pf2 = s.pf2 := rfl
@[simp] theorem State.setExp_out (s : State) (d e : Nat) (x : ExpSt) : (s.setExp d e x).out = s.out := rfl
@[simp] theorem State.setExp_free (s : State) (d e : Nat) (x : ExpSt) : (s.setExp d e x).free = s.free := rfl
@[simp] theorem State.setExp_pending (s : State) (d e : Nat) (x : ExpSt) : (s.setExp d e x).pending = s.pending := rfl
@[simp] theorem State.setExp_rd (s : State) (d e : Nat) (x : ExpSt) (fld : Fld) (a b c : Nat) : (s.setExp d e x).rd fld a b c = s.rd fld a b c := rfl

/-! ## State.setRing -/

@[simp] theorem State.setRing_clk (s : State) (h dir : Nat) (l : List Req) : (s.setRing h dir l).clk = s.clk := rfl
@[simp] theorem State.setRing_fuse (s : State) (h dir : Nat) (l : List Req) : (s.setRing h dir l).fuse = s.fuse := rfl
@[simp] theorem State.setRing_regs (s : State) (h dir : Nat) (l : List Req) : (s.setRing h dir l).regs = s.regs := rfl
@[simp] theorem State.setRing_half (s : State) (h dir : Nat) (l : List Req) : (s.setRing h dir l).half = s.half := rfl
@[simp] theorem State.setRing_cfg (s : State) (h dir : Nat) (l : List Req) : (s.setRing h dir l).cfg = s.cfg := rfl
@[simp] theorem State.setRing_staged (s : State) (h dir : Nat) (l : List Req) : (s.setRing h dir l).staged = s.staged := rfl
@[simp] theorem State.setRing_board (s : State) (h dir : Nat) (l : List Req) : (s.setRing h dir l).board = s.board := rfl
@[simp] theorem State.setRing_supply (s : State) (h dir : Nat) (l : List Req) : (s.setRing h dir l).supply = s.supply := rfl
@[simp] theorem State.setRing_boot (s : State) (h dir : Nat) (l : List Req) : (s.setRing h dir l).boot = s.boot := rfl
@[simp] theorem State.setRing_recov (s : State) (h dir : Nat) (l : List Req) : (s.setRing h dir l).recov = s.recov := rfl
@[simp] theorem State.setRing_doors (s : State) (h dir : Nat) (l : List Req) : (s.setRing h dir l).doors = s.doors := rfl
@[simp] theorem State.setRing_louvres (s : State) (h dir : Nat) (l : List Req) : (s.setRing h dir l).louvres = s.louvres := rfl
@[simp] theorem State.setRing_arbs (s : State) (h dir : Nat) (l : List Req) : (s.setRing h dir l).arbs = s.arbs := rfl
@[simp] theorem State.setRing_pcs (s : State) (h dir : Nat) (l : List Req) : (s.setRing h dir l).pcs = s.pcs := rfl
@[simp] theorem State.setRing_links (s : State) (h dir : Nat) (l : List Req) : (s.setRing h dir l).links = s.links := rfl
@[simp] theorem State.setRing_mem (s : State) (h dir : Nat) (l : List Req) : (s.setRing h dir l).mem = s.mem := rfl
@[simp] theorem State.setRing_geom (s : State) (h dir : Nat) (l : List Req) : (s.setRing h dir l).geom = s.geom := rfl
@[simp] theorem State.setRing_outPane (s : State) (h dir : Nat) (l : List Req) : (s.setRing h dir l).outPane = s.outPane := rfl
@[simp] theorem State.setRing_outCas (s : State) (h dir : Nat) (l : List Req) : (s.setRing h dir l).outCas = s.outCas := rfl
@[simp] theorem State.setRing_nextId (s : State) (h dir : Nat) (l : List Req) : (s.setRing h dir l).nextId = s.nextId := rfl
@[simp] theorem State.setRing_closed (s : State) (h dir : Nat) (l : List Req) : (s.setRing h dir l).closed = s.closed := rfl
@[simp] theorem State.setRing_fences (s : State) (h dir : Nat) (l : List Req) : (s.setRing h dir l).fences = s.fences := rfl
@[simp] theorem State.setRing_logs (s : State) (h dir : Nat) (l : List Req) : (s.setRing h dir l).logs = s.logs := rfl
@[simp] theorem State.setRing_levels (s : State) (h dir : Nat) (l : List Req) : (s.setRing h dir l).levels = s.levels := rfl
@[simp] theorem State.setRing_leakAt (s : State) (h dir : Nat) (l : List Req) : (s.setRing h dir l).leakAt = s.leakAt := rfl
@[simp] theorem State.setRing_trims (s : State) (h dir : Nat) (l : List Req) : (s.setRing h dir l).trims = s.trims := rfl
@[simp] theorem State.setRing_lanes (s : State) (h dir : Nat) (l : List Req) : (s.setRing h dir l).lanes = s.lanes := rfl
@[simp] theorem State.setRing_therm (s : State) (h dir : Nat) (l : List Req) : (s.setRing h dir l).therm = s.therm := rfl
@[simp] theorem State.setRing_hinge (s : State) (h dir : Nat) (l : List Req) : (s.setRing h dir l).hinge = s.hinge := rfl
@[simp] theorem State.setRing_samplers (s : State) (h dir : Nat) (l : List Req) : (s.setRing h dir l).samplers = s.samplers := rfl
@[simp] theorem State.setRing_tracers (s : State) (h dir : Nat) (l : List Req) : (s.setRing h dir l).tracers = s.tracers := rfl
@[simp] theorem State.setRing_ports (s : State) (h dir : Nat) (l : List Req) : (s.setRing h dir l).ports = s.ports := rfl
@[simp] theorem State.setRing_fuseMap (s : State) (h dir : Nat) (l : List Req) : (s.setRing h dir l).fuseMap = s.fuseMap := rfl
@[simp] theorem State.setRing_spareUsed (s : State) (h dir : Nat) (l : List Req) : (s.setRing h dir l).spareUsed = s.spareUsed := rfl
@[simp] theorem State.setRing_turns (s : State) (h dir : Nat) (l : List Req) : (s.setRing h dir l).turns = s.turns := rfl
@[simp] theorem State.setRing_shiftBuf (s : State) (h dir : Nat) (l : List Req) : (s.setRing h dir l).shiftBuf = s.shiftBuf := rfl
@[simp] theorem State.setRing_queues (s : State) (h dir : Nat) (l : List Req) : (s.setRing h dir l).queues = s.queues := rfl
@[simp] theorem State.setRing_colls (s : State) (h dir : Nat) (l : List Req) : (s.setRing h dir l).colls = s.colls := rfl
@[simp] theorem State.setRing_notices (s : State) (h dir : Nat) (l : List Req) : (s.setRing h dir l).notices = s.notices := rfl
@[simp] theorem State.setRing_deadColls (s : State) (h dir : Nat) (l : List Req) : (s.setRing h dir l).deadColls = s.deadColls := rfl
@[simp] theorem State.setRing_cores (s : State) (h dir : Nat) (l : List Req) : (s.setRing h dir l).cores = s.cores := rfl
@[simp] theorem State.setRing_clusters (s : State) (h dir : Nat) (l : List Req) : (s.setRing h dir l).clusters = s.clusters := rfl
@[simp] theorem State.setRing_kernels (s : State) (h dir : Nat) (l : List Req) : (s.setRing h dir l).kernels = s.kernels := rfl
@[simp] theorem State.setRing_pools (s : State) (h dir : Nat) (l : List Req) : (s.setRing h dir l).pools = s.pools := rfl
@[simp] theorem State.setRing_copies (s : State) (h dir : Nat) (l : List Req) : (s.setRing h dir l).copies = s.copies := rfl
@[simp] theorem State.setRing_pgWaits (s : State) (h dir : Nat) (l : List Req) : (s.setRing h dir l).pgWaits = s.pgWaits := rfl
@[simp] theorem State.setRing_ptc (s : State) (h dir : Nat) (l : List Req) : (s.setRing h dir l).ptc = s.ptc := rfl
@[simp] theorem State.setRing_expanders (s : State) (h dir : Nat) (l : List Req) : (s.setRing h dir l).expanders = s.expanders := rfl
@[simp] theorem State.setRing_trw (s : State) (h dir : Nat) (l : List Req) : (s.setRing h dir l).trw = s.trw := rfl
@[simp] theorem State.setRing_fabTx (s : State) (h dir : Nat) (l : List Req) : (s.setRing h dir l).fabTx = s.fabTx := rfl
@[simp] theorem State.setRing_fabRx (s : State) (h dir : Nat) (l : List Req) : (s.setRing h dir l).fabRx = s.fabRx := rfl
@[simp] theorem State.setRing_timeAsk (s : State) (h dir : Nat) (l : List Req) : (s.setRing h dir l).timeAsk = s.timeAsk := rfl
@[simp] theorem State.setRing_joined (s : State) (h dir : Nat) (l : List Req) : (s.setRing h dir l).joined = s.joined := rfl
@[simp] theorem State.setRing_aks (s : State) (h dir : Nat) (l : List Req) : (s.setRing h dir l).aks = s.aks := rfl
@[simp] theorem State.setRing_slices (s : State) (h dir : Nat) (l : List Req) : (s.setRing h dir l).slices = s.slices := rfl
@[simp] theorem State.setRing_fns (s : State) (h dir : Nat) (l : List Req) : (s.setRing h dir l).fns = s.fns := rfl
@[simp] theorem State.setRing_msix (s : State) (h dir : Nat) (l : List Req) : (s.setRing h dir l).msix = s.msix := rfl
@[simp] theorem State.setRing_hostRds (s : State) (h dir : Nat) (l : List Req) : (s.setRing h dir l).hostRds = s.hostRds := rfl
@[simp] theorem State.setRing_hostWrs (s : State) (h dir : Nat) (l : List Req) : (s.setRing h dir l).hostWrs = s.hostWrs := rfl
@[simp] theorem State.setRing_heldRegs (s : State) (h dir : Nat) (l : List Req) : (s.setRing h dir l).heldRegs = s.heldRegs := rfl
@[simp] theorem State.setRing_slots (s : State) (h dir : Nat) (l : List Req) : (s.setRing h dir l).slots = s.slots := rfl
@[simp] theorem State.setRing_freezeArm (s : State) (h dir : Nat) (l : List Req) : (s.setRing h dir l).freezeArm = s.freezeArm := rfl
@[simp] theorem State.setRing_resetting (s : State) (h dir : Nat) (l : List Req) : (s.setRing h dir l).resetting = s.resetting := rfl
@[simp] theorem State.setRing_caseWait (s : State) (h dir : Nat) (l : List Req) : (s.setRing h dir l).caseWait = s.caseWait := rfl
@[simp] theorem State.setRing_answers (s : State) (h dir : Nat) (l : List Req) : (s.setRing h dir l).answers = s.answers := rfl
@[simp] theorem State.setRing_pf1 (s : State) (h dir : Nat) (l : List Req) : (s.setRing h dir l).pf1 = s.pf1 := rfl
@[simp] theorem State.setRing_pf2 (s : State) (h dir : Nat) (l : List Req) : (s.setRing h dir l).pf2 = s.pf2 := rfl
@[simp] theorem State.setRing_out (s : State) (h dir : Nat) (l : List Req) : (s.setRing h dir l).out = s.out := rfl
@[simp] theorem State.setRing_free (s : State) (h dir : Nat) (l : List Req) : (s.setRing h dir l).free = s.free := rfl
@[simp] theorem State.setRing_pending (s : State) (h dir : Nat) (l : List Req) : (s.setRing h dir l).pending = s.pending := rfl
@[simp] theorem State.setRing_rd (s : State) (h dir : Nat) (l : List Req) (fld : Fld) (a b c : Nat) : (s.setRing h dir l).rd fld a b c = s.rd fld a b c := rfl

/-! ## State.setLog -/

@[simp] theorem State.setLog_clk (s : State) (h e : Nat) (x : Option LogEnt) : (s.setLog h e x).clk = s.clk := rfl
@[simp] theorem State.setLog_fuse (s : State) (h e : Nat) (x : Option LogEnt) : (s.setLog h e x).fuse = s.fuse := rfl
@[simp] theorem State.setLog_regs (s : State) (h e : Nat) (x : Option LogEnt) : (s.setLog h e x).regs = s.regs := rfl
@[simp] theorem State.setLog_half (s : State) (h e : Nat) (x : Option LogEnt) : (s.setLog h e x).half = s.half := rfl
@[simp] theorem State.setLog_cfg (s : State) (h e : Nat) (x : Option LogEnt) : (s.setLog h e x).cfg = s.cfg := rfl
@[simp] theorem State.setLog_staged (s : State) (h e : Nat) (x : Option LogEnt) : (s.setLog h e x).staged = s.staged := rfl
@[simp] theorem State.setLog_board (s : State) (h e : Nat) (x : Option LogEnt) : (s.setLog h e x).board = s.board := rfl
@[simp] theorem State.setLog_supply (s : State) (h e : Nat) (x : Option LogEnt) : (s.setLog h e x).supply = s.supply := rfl
@[simp] theorem State.setLog_boot (s : State) (h e : Nat) (x : Option LogEnt) : (s.setLog h e x).boot = s.boot := rfl
@[simp] theorem State.setLog_recov (s : State) (h e : Nat) (x : Option LogEnt) : (s.setLog h e x).recov = s.recov := rfl
@[simp] theorem State.setLog_doors (s : State) (h e : Nat) (x : Option LogEnt) : (s.setLog h e x).doors = s.doors := rfl
@[simp] theorem State.setLog_louvres (s : State) (h e : Nat) (x : Option LogEnt) : (s.setLog h e x).louvres = s.louvres := rfl
@[simp] theorem State.setLog_arbs (s : State) (h e : Nat) (x : Option LogEnt) : (s.setLog h e x).arbs = s.arbs := rfl
@[simp] theorem State.setLog_pcs (s : State) (h e : Nat) (x : Option LogEnt) : (s.setLog h e x).pcs = s.pcs := rfl
@[simp] theorem State.setLog_links (s : State) (h e : Nat) (x : Option LogEnt) : (s.setLog h e x).links = s.links := rfl
@[simp] theorem State.setLog_ring (s : State) (h e : Nat) (x : Option LogEnt) : (s.setLog h e x).ring = s.ring := rfl
@[simp] theorem State.setLog_mem (s : State) (h e : Nat) (x : Option LogEnt) : (s.setLog h e x).mem = s.mem := rfl
@[simp] theorem State.setLog_geom (s : State) (h e : Nat) (x : Option LogEnt) : (s.setLog h e x).geom = s.geom := rfl
@[simp] theorem State.setLog_outPane (s : State) (h e : Nat) (x : Option LogEnt) : (s.setLog h e x).outPane = s.outPane := rfl
@[simp] theorem State.setLog_outCas (s : State) (h e : Nat) (x : Option LogEnt) : (s.setLog h e x).outCas = s.outCas := rfl
@[simp] theorem State.setLog_nextId (s : State) (h e : Nat) (x : Option LogEnt) : (s.setLog h e x).nextId = s.nextId := rfl
@[simp] theorem State.setLog_closed (s : State) (h e : Nat) (x : Option LogEnt) : (s.setLog h e x).closed = s.closed := rfl
@[simp] theorem State.setLog_fences (s : State) (h e : Nat) (x : Option LogEnt) : (s.setLog h e x).fences = s.fences := rfl
@[simp] theorem State.setLog_levels (s : State) (h e : Nat) (x : Option LogEnt) : (s.setLog h e x).levels = s.levels := rfl
@[simp] theorem State.setLog_leakAt (s : State) (h e : Nat) (x : Option LogEnt) : (s.setLog h e x).leakAt = s.leakAt := rfl
@[simp] theorem State.setLog_trims (s : State) (h e : Nat) (x : Option LogEnt) : (s.setLog h e x).trims = s.trims := rfl
@[simp] theorem State.setLog_lanes (s : State) (h e : Nat) (x : Option LogEnt) : (s.setLog h e x).lanes = s.lanes := rfl
@[simp] theorem State.setLog_therm (s : State) (h e : Nat) (x : Option LogEnt) : (s.setLog h e x).therm = s.therm := rfl
@[simp] theorem State.setLog_hinge (s : State) (h e : Nat) (x : Option LogEnt) : (s.setLog h e x).hinge = s.hinge := rfl
@[simp] theorem State.setLog_samplers (s : State) (h e : Nat) (x : Option LogEnt) : (s.setLog h e x).samplers = s.samplers := rfl
@[simp] theorem State.setLog_tracers (s : State) (h e : Nat) (x : Option LogEnt) : (s.setLog h e x).tracers = s.tracers := rfl
@[simp] theorem State.setLog_ports (s : State) (h e : Nat) (x : Option LogEnt) : (s.setLog h e x).ports = s.ports := rfl
@[simp] theorem State.setLog_fuseMap (s : State) (h e : Nat) (x : Option LogEnt) : (s.setLog h e x).fuseMap = s.fuseMap := rfl
@[simp] theorem State.setLog_spareUsed (s : State) (h e : Nat) (x : Option LogEnt) : (s.setLog h e x).spareUsed = s.spareUsed := rfl
@[simp] theorem State.setLog_turns (s : State) (h e : Nat) (x : Option LogEnt) : (s.setLog h e x).turns = s.turns := rfl
@[simp] theorem State.setLog_shiftBuf (s : State) (h e : Nat) (x : Option LogEnt) : (s.setLog h e x).shiftBuf = s.shiftBuf := rfl
@[simp] theorem State.setLog_queues (s : State) (h e : Nat) (x : Option LogEnt) : (s.setLog h e x).queues = s.queues := rfl
@[simp] theorem State.setLog_colls (s : State) (h e : Nat) (x : Option LogEnt) : (s.setLog h e x).colls = s.colls := rfl
@[simp] theorem State.setLog_notices (s : State) (h e : Nat) (x : Option LogEnt) : (s.setLog h e x).notices = s.notices := rfl
@[simp] theorem State.setLog_deadColls (s : State) (h e : Nat) (x : Option LogEnt) : (s.setLog h e x).deadColls = s.deadColls := rfl
@[simp] theorem State.setLog_cores (s : State) (h e : Nat) (x : Option LogEnt) : (s.setLog h e x).cores = s.cores := rfl
@[simp] theorem State.setLog_clusters (s : State) (h e : Nat) (x : Option LogEnt) : (s.setLog h e x).clusters = s.clusters := rfl
@[simp] theorem State.setLog_kernels (s : State) (h e : Nat) (x : Option LogEnt) : (s.setLog h e x).kernels = s.kernels := rfl
@[simp] theorem State.setLog_pools (s : State) (h e : Nat) (x : Option LogEnt) : (s.setLog h e x).pools = s.pools := rfl
@[simp] theorem State.setLog_copies (s : State) (h e : Nat) (x : Option LogEnt) : (s.setLog h e x).copies = s.copies := rfl
@[simp] theorem State.setLog_pgWaits (s : State) (h e : Nat) (x : Option LogEnt) : (s.setLog h e x).pgWaits = s.pgWaits := rfl
@[simp] theorem State.setLog_ptc (s : State) (h e : Nat) (x : Option LogEnt) : (s.setLog h e x).ptc = s.ptc := rfl
@[simp] theorem State.setLog_expanders (s : State) (h e : Nat) (x : Option LogEnt) : (s.setLog h e x).expanders = s.expanders := rfl
@[simp] theorem State.setLog_trw (s : State) (h e : Nat) (x : Option LogEnt) : (s.setLog h e x).trw = s.trw := rfl
@[simp] theorem State.setLog_fabTx (s : State) (h e : Nat) (x : Option LogEnt) : (s.setLog h e x).fabTx = s.fabTx := rfl
@[simp] theorem State.setLog_fabRx (s : State) (h e : Nat) (x : Option LogEnt) : (s.setLog h e x).fabRx = s.fabRx := rfl
@[simp] theorem State.setLog_timeAsk (s : State) (h e : Nat) (x : Option LogEnt) : (s.setLog h e x).timeAsk = s.timeAsk := rfl
@[simp] theorem State.setLog_joined (s : State) (h e : Nat) (x : Option LogEnt) : (s.setLog h e x).joined = s.joined := rfl
@[simp] theorem State.setLog_aks (s : State) (h e : Nat) (x : Option LogEnt) : (s.setLog h e x).aks = s.aks := rfl
@[simp] theorem State.setLog_slices (s : State) (h e : Nat) (x : Option LogEnt) : (s.setLog h e x).slices = s.slices := rfl
@[simp] theorem State.setLog_fns (s : State) (h e : Nat) (x : Option LogEnt) : (s.setLog h e x).fns = s.fns := rfl
@[simp] theorem State.setLog_msix (s : State) (h e : Nat) (x : Option LogEnt) : (s.setLog h e x).msix = s.msix := rfl
@[simp] theorem State.setLog_hostRds (s : State) (h e : Nat) (x : Option LogEnt) : (s.setLog h e x).hostRds = s.hostRds := rfl
@[simp] theorem State.setLog_hostWrs (s : State) (h e : Nat) (x : Option LogEnt) : (s.setLog h e x).hostWrs = s.hostWrs := rfl
@[simp] theorem State.setLog_heldRegs (s : State) (h e : Nat) (x : Option LogEnt) : (s.setLog h e x).heldRegs = s.heldRegs := rfl
@[simp] theorem State.setLog_slots (s : State) (h e : Nat) (x : Option LogEnt) : (s.setLog h e x).slots = s.slots := rfl
@[simp] theorem State.setLog_freezeArm (s : State) (h e : Nat) (x : Option LogEnt) : (s.setLog h e x).freezeArm = s.freezeArm := rfl
@[simp] theorem State.setLog_resetting (s : State) (h e : Nat) (x : Option LogEnt) : (s.setLog h e x).resetting = s.resetting := rfl
@[simp] theorem State.setLog_caseWait (s : State) (h e : Nat) (x : Option LogEnt) : (s.setLog h e x).caseWait = s.caseWait := rfl
@[simp] theorem State.setLog_answers (s : State) (h e : Nat) (x : Option LogEnt) : (s.setLog h e x).answers = s.answers := rfl
@[simp] theorem State.setLog_pf1 (s : State) (h e : Nat) (x : Option LogEnt) : (s.setLog h e x).pf1 = s.pf1 := rfl
@[simp] theorem State.setLog_pf2 (s : State) (h e : Nat) (x : Option LogEnt) : (s.setLog h e x).pf2 = s.pf2 := rfl
@[simp] theorem State.setLog_out (s : State) (h e : Nat) (x : Option LogEnt) : (s.setLog h e x).out = s.out := rfl
@[simp] theorem State.setLog_free (s : State) (h e : Nat) (x : Option LogEnt) : (s.setLog h e x).free = s.free := rfl
@[simp] theorem State.setLog_pending (s : State) (h e : Nat) (x : Option LogEnt) : (s.setLog h e x).pending = s.pending := rfl
@[simp] theorem State.setLog_rd (s : State) (h e : Nat) (x : Option LogEnt) (fld : Fld) (a b c : Nat) : (s.setLog h e x).rd fld a b c = s.rd fld a b c := rfl

/-! ## State.setTracer -/

@[simp] theorem State.setTracer_clk (s : State) (h : Nat) (x : TracerSt) : (s.setTracer h x).clk = s.clk := rfl
@[simp] theorem State.setTracer_fuse (s : State) (h : Nat) (x : TracerSt) : (s.setTracer h x).fuse = s.fuse := rfl
@[simp] theorem State.setTracer_regs (s : State) (h : Nat) (x : TracerSt) : (s.setTracer h x).regs = s.regs := rfl
@[simp] theorem State.setTracer_half (s : State) (h : Nat) (x : TracerSt) : (s.setTracer h x).half = s.half := rfl
@[simp] theorem State.setTracer_cfg (s : State) (h : Nat) (x : TracerSt) : (s.setTracer h x).cfg = s.cfg := rfl
@[simp] theorem State.setTracer_staged (s : State) (h : Nat) (x : TracerSt) : (s.setTracer h x).staged = s.staged := rfl
@[simp] theorem State.setTracer_board (s : State) (h : Nat) (x : TracerSt) : (s.setTracer h x).board = s.board := rfl
@[simp] theorem State.setTracer_supply (s : State) (h : Nat) (x : TracerSt) : (s.setTracer h x).supply = s.supply := rfl
@[simp] theorem State.setTracer_boot (s : State) (h : Nat) (x : TracerSt) : (s.setTracer h x).boot = s.boot := rfl
@[simp] theorem State.setTracer_recov (s : State) (h : Nat) (x : TracerSt) : (s.setTracer h x).recov = s.recov := rfl
@[simp] theorem State.setTracer_doors (s : State) (h : Nat) (x : TracerSt) : (s.setTracer h x).doors = s.doors := rfl
@[simp] theorem State.setTracer_louvres (s : State) (h : Nat) (x : TracerSt) : (s.setTracer h x).louvres = s.louvres := rfl
@[simp] theorem State.setTracer_arbs (s : State) (h : Nat) (x : TracerSt) : (s.setTracer h x).arbs = s.arbs := rfl
@[simp] theorem State.setTracer_pcs (s : State) (h : Nat) (x : TracerSt) : (s.setTracer h x).pcs = s.pcs := rfl
@[simp] theorem State.setTracer_links (s : State) (h : Nat) (x : TracerSt) : (s.setTracer h x).links = s.links := rfl
@[simp] theorem State.setTracer_ring (s : State) (h : Nat) (x : TracerSt) : (s.setTracer h x).ring = s.ring := rfl
@[simp] theorem State.setTracer_mem (s : State) (h : Nat) (x : TracerSt) : (s.setTracer h x).mem = s.mem := rfl
@[simp] theorem State.setTracer_geom (s : State) (h : Nat) (x : TracerSt) : (s.setTracer h x).geom = s.geom := rfl
@[simp] theorem State.setTracer_outPane (s : State) (h : Nat) (x : TracerSt) : (s.setTracer h x).outPane = s.outPane := rfl
@[simp] theorem State.setTracer_outCas (s : State) (h : Nat) (x : TracerSt) : (s.setTracer h x).outCas = s.outCas := rfl
@[simp] theorem State.setTracer_nextId (s : State) (h : Nat) (x : TracerSt) : (s.setTracer h x).nextId = s.nextId := rfl
@[simp] theorem State.setTracer_closed (s : State) (h : Nat) (x : TracerSt) : (s.setTracer h x).closed = s.closed := rfl
@[simp] theorem State.setTracer_fences (s : State) (h : Nat) (x : TracerSt) : (s.setTracer h x).fences = s.fences := rfl
@[simp] theorem State.setTracer_logs (s : State) (h : Nat) (x : TracerSt) : (s.setTracer h x).logs = s.logs := rfl
@[simp] theorem State.setTracer_levels (s : State) (h : Nat) (x : TracerSt) : (s.setTracer h x).levels = s.levels := rfl
@[simp] theorem State.setTracer_leakAt (s : State) (h : Nat) (x : TracerSt) : (s.setTracer h x).leakAt = s.leakAt := rfl
@[simp] theorem State.setTracer_trims (s : State) (h : Nat) (x : TracerSt) : (s.setTracer h x).trims = s.trims := rfl
@[simp] theorem State.setTracer_lanes (s : State) (h : Nat) (x : TracerSt) : (s.setTracer h x).lanes = s.lanes := rfl
@[simp] theorem State.setTracer_therm (s : State) (h : Nat) (x : TracerSt) : (s.setTracer h x).therm = s.therm := rfl
@[simp] theorem State.setTracer_hinge (s : State) (h : Nat) (x : TracerSt) : (s.setTracer h x).hinge = s.hinge := rfl
@[simp] theorem State.setTracer_samplers (s : State) (h : Nat) (x : TracerSt) : (s.setTracer h x).samplers = s.samplers := rfl
@[simp] theorem State.setTracer_ports (s : State) (h : Nat) (x : TracerSt) : (s.setTracer h x).ports = s.ports := rfl
@[simp] theorem State.setTracer_fuseMap (s : State) (h : Nat) (x : TracerSt) : (s.setTracer h x).fuseMap = s.fuseMap := rfl
@[simp] theorem State.setTracer_spareUsed (s : State) (h : Nat) (x : TracerSt) : (s.setTracer h x).spareUsed = s.spareUsed := rfl
@[simp] theorem State.setTracer_turns (s : State) (h : Nat) (x : TracerSt) : (s.setTracer h x).turns = s.turns := rfl
@[simp] theorem State.setTracer_shiftBuf (s : State) (h : Nat) (x : TracerSt) : (s.setTracer h x).shiftBuf = s.shiftBuf := rfl
@[simp] theorem State.setTracer_queues (s : State) (h : Nat) (x : TracerSt) : (s.setTracer h x).queues = s.queues := rfl
@[simp] theorem State.setTracer_colls (s : State) (h : Nat) (x : TracerSt) : (s.setTracer h x).colls = s.colls := rfl
@[simp] theorem State.setTracer_notices (s : State) (h : Nat) (x : TracerSt) : (s.setTracer h x).notices = s.notices := rfl
@[simp] theorem State.setTracer_deadColls (s : State) (h : Nat) (x : TracerSt) : (s.setTracer h x).deadColls = s.deadColls := rfl
@[simp] theorem State.setTracer_cores (s : State) (h : Nat) (x : TracerSt) : (s.setTracer h x).cores = s.cores := rfl
@[simp] theorem State.setTracer_clusters (s : State) (h : Nat) (x : TracerSt) : (s.setTracer h x).clusters = s.clusters := rfl
@[simp] theorem State.setTracer_kernels (s : State) (h : Nat) (x : TracerSt) : (s.setTracer h x).kernels = s.kernels := rfl
@[simp] theorem State.setTracer_pools (s : State) (h : Nat) (x : TracerSt) : (s.setTracer h x).pools = s.pools := rfl
@[simp] theorem State.setTracer_copies (s : State) (h : Nat) (x : TracerSt) : (s.setTracer h x).copies = s.copies := rfl
@[simp] theorem State.setTracer_pgWaits (s : State) (h : Nat) (x : TracerSt) : (s.setTracer h x).pgWaits = s.pgWaits := rfl
@[simp] theorem State.setTracer_ptc (s : State) (h : Nat) (x : TracerSt) : (s.setTracer h x).ptc = s.ptc := rfl
@[simp] theorem State.setTracer_expanders (s : State) (h : Nat) (x : TracerSt) : (s.setTracer h x).expanders = s.expanders := rfl
@[simp] theorem State.setTracer_trw (s : State) (h : Nat) (x : TracerSt) : (s.setTracer h x).trw = s.trw := rfl
@[simp] theorem State.setTracer_fabTx (s : State) (h : Nat) (x : TracerSt) : (s.setTracer h x).fabTx = s.fabTx := rfl
@[simp] theorem State.setTracer_fabRx (s : State) (h : Nat) (x : TracerSt) : (s.setTracer h x).fabRx = s.fabRx := rfl
@[simp] theorem State.setTracer_timeAsk (s : State) (h : Nat) (x : TracerSt) : (s.setTracer h x).timeAsk = s.timeAsk := rfl
@[simp] theorem State.setTracer_joined (s : State) (h : Nat) (x : TracerSt) : (s.setTracer h x).joined = s.joined := rfl
@[simp] theorem State.setTracer_aks (s : State) (h : Nat) (x : TracerSt) : (s.setTracer h x).aks = s.aks := rfl
@[simp] theorem State.setTracer_slices (s : State) (h : Nat) (x : TracerSt) : (s.setTracer h x).slices = s.slices := rfl
@[simp] theorem State.setTracer_fns (s : State) (h : Nat) (x : TracerSt) : (s.setTracer h x).fns = s.fns := rfl
@[simp] theorem State.setTracer_msix (s : State) (h : Nat) (x : TracerSt) : (s.setTracer h x).msix = s.msix := rfl
@[simp] theorem State.setTracer_hostRds (s : State) (h : Nat) (x : TracerSt) : (s.setTracer h x).hostRds = s.hostRds := rfl
@[simp] theorem State.setTracer_hostWrs (s : State) (h : Nat) (x : TracerSt) : (s.setTracer h x).hostWrs = s.hostWrs := rfl
@[simp] theorem State.setTracer_heldRegs (s : State) (h : Nat) (x : TracerSt) : (s.setTracer h x).heldRegs = s.heldRegs := rfl
@[simp] theorem State.setTracer_slots (s : State) (h : Nat) (x : TracerSt) : (s.setTracer h x).slots = s.slots := rfl
@[simp] theorem State.setTracer_freezeArm (s : State) (h : Nat) (x : TracerSt) : (s.setTracer h x).freezeArm = s.freezeArm := rfl
@[simp] theorem State.setTracer_resetting (s : State) (h : Nat) (x : TracerSt) : (s.setTracer h x).resetting = s.resetting := rfl
@[simp] theorem State.setTracer_caseWait (s : State) (h : Nat) (x : TracerSt) : (s.setTracer h x).caseWait = s.caseWait := rfl
@[simp] theorem State.setTracer_answers (s : State) (h : Nat) (x : TracerSt) : (s.setTracer h x).answers = s.answers := rfl
@[simp] theorem State.setTracer_pf1 (s : State) (h : Nat) (x : TracerSt) : (s.setTracer h x).pf1 = s.pf1 := rfl
@[simp] theorem State.setTracer_pf2 (s : State) (h : Nat) (x : TracerSt) : (s.setTracer h x).pf2 = s.pf2 := rfl
@[simp] theorem State.setTracer_out (s : State) (h : Nat) (x : TracerSt) : (s.setTracer h x).out = s.out := rfl
@[simp] theorem State.setTracer_free (s : State) (h : Nat) (x : TracerSt) : (s.setTracer h x).free = s.free := rfl
@[simp] theorem State.setTracer_pending (s : State) (h : Nat) (x : TracerSt) : (s.setTracer h x).pending = s.pending := rfl
@[simp] theorem State.setTracer_rd (s : State) (h : Nat) (x : TracerSt) (fld : Fld) (a b c : Nat) : (s.setTracer h x).rd fld a b c = s.rd fld a b c := rfl

/-! ## State.setPort -/

@[simp] theorem State.setPort_clk (s : State) (h st : Nat) (x : PortSt) : (s.setPort h st x).clk = s.clk := rfl
@[simp] theorem State.setPort_fuse (s : State) (h st : Nat) (x : PortSt) : (s.setPort h st x).fuse = s.fuse := rfl
@[simp] theorem State.setPort_regs (s : State) (h st : Nat) (x : PortSt) : (s.setPort h st x).regs = s.regs := rfl
@[simp] theorem State.setPort_half (s : State) (h st : Nat) (x : PortSt) : (s.setPort h st x).half = s.half := rfl
@[simp] theorem State.setPort_cfg (s : State) (h st : Nat) (x : PortSt) : (s.setPort h st x).cfg = s.cfg := rfl
@[simp] theorem State.setPort_staged (s : State) (h st : Nat) (x : PortSt) : (s.setPort h st x).staged = s.staged := rfl
@[simp] theorem State.setPort_board (s : State) (h st : Nat) (x : PortSt) : (s.setPort h st x).board = s.board := rfl
@[simp] theorem State.setPort_supply (s : State) (h st : Nat) (x : PortSt) : (s.setPort h st x).supply = s.supply := rfl
@[simp] theorem State.setPort_boot (s : State) (h st : Nat) (x : PortSt) : (s.setPort h st x).boot = s.boot := rfl
@[simp] theorem State.setPort_recov (s : State) (h st : Nat) (x : PortSt) : (s.setPort h st x).recov = s.recov := rfl
@[simp] theorem State.setPort_doors (s : State) (h st : Nat) (x : PortSt) : (s.setPort h st x).doors = s.doors := rfl
@[simp] theorem State.setPort_louvres (s : State) (h st : Nat) (x : PortSt) : (s.setPort h st x).louvres = s.louvres := rfl
@[simp] theorem State.setPort_arbs (s : State) (h st : Nat) (x : PortSt) : (s.setPort h st x).arbs = s.arbs := rfl
@[simp] theorem State.setPort_pcs (s : State) (h st : Nat) (x : PortSt) : (s.setPort h st x).pcs = s.pcs := rfl
@[simp] theorem State.setPort_links (s : State) (h st : Nat) (x : PortSt) : (s.setPort h st x).links = s.links := rfl
@[simp] theorem State.setPort_ring (s : State) (h st : Nat) (x : PortSt) : (s.setPort h st x).ring = s.ring := rfl
@[simp] theorem State.setPort_mem (s : State) (h st : Nat) (x : PortSt) : (s.setPort h st x).mem = s.mem := rfl
@[simp] theorem State.setPort_geom (s : State) (h st : Nat) (x : PortSt) : (s.setPort h st x).geom = s.geom := rfl
@[simp] theorem State.setPort_outPane (s : State) (h st : Nat) (x : PortSt) : (s.setPort h st x).outPane = s.outPane := rfl
@[simp] theorem State.setPort_outCas (s : State) (h st : Nat) (x : PortSt) : (s.setPort h st x).outCas = s.outCas := rfl
@[simp] theorem State.setPort_nextId (s : State) (h st : Nat) (x : PortSt) : (s.setPort h st x).nextId = s.nextId := rfl
@[simp] theorem State.setPort_closed (s : State) (h st : Nat) (x : PortSt) : (s.setPort h st x).closed = s.closed := rfl
@[simp] theorem State.setPort_fences (s : State) (h st : Nat) (x : PortSt) : (s.setPort h st x).fences = s.fences := rfl
@[simp] theorem State.setPort_logs (s : State) (h st : Nat) (x : PortSt) : (s.setPort h st x).logs = s.logs := rfl
@[simp] theorem State.setPort_levels (s : State) (h st : Nat) (x : PortSt) : (s.setPort h st x).levels = s.levels := rfl
@[simp] theorem State.setPort_leakAt (s : State) (h st : Nat) (x : PortSt) : (s.setPort h st x).leakAt = s.leakAt := rfl
@[simp] theorem State.setPort_trims (s : State) (h st : Nat) (x : PortSt) : (s.setPort h st x).trims = s.trims := rfl
@[simp] theorem State.setPort_lanes (s : State) (h st : Nat) (x : PortSt) : (s.setPort h st x).lanes = s.lanes := rfl
@[simp] theorem State.setPort_therm (s : State) (h st : Nat) (x : PortSt) : (s.setPort h st x).therm = s.therm := rfl
@[simp] theorem State.setPort_hinge (s : State) (h st : Nat) (x : PortSt) : (s.setPort h st x).hinge = s.hinge := rfl
@[simp] theorem State.setPort_samplers (s : State) (h st : Nat) (x : PortSt) : (s.setPort h st x).samplers = s.samplers := rfl
@[simp] theorem State.setPort_tracers (s : State) (h st : Nat) (x : PortSt) : (s.setPort h st x).tracers = s.tracers := rfl
@[simp] theorem State.setPort_fuseMap (s : State) (h st : Nat) (x : PortSt) : (s.setPort h st x).fuseMap = s.fuseMap := rfl
@[simp] theorem State.setPort_spareUsed (s : State) (h st : Nat) (x : PortSt) : (s.setPort h st x).spareUsed = s.spareUsed := rfl
@[simp] theorem State.setPort_turns (s : State) (h st : Nat) (x : PortSt) : (s.setPort h st x).turns = s.turns := rfl
@[simp] theorem State.setPort_shiftBuf (s : State) (h st : Nat) (x : PortSt) : (s.setPort h st x).shiftBuf = s.shiftBuf := rfl
@[simp] theorem State.setPort_queues (s : State) (h st : Nat) (x : PortSt) : (s.setPort h st x).queues = s.queues := rfl
@[simp] theorem State.setPort_colls (s : State) (h st : Nat) (x : PortSt) : (s.setPort h st x).colls = s.colls := rfl
@[simp] theorem State.setPort_notices (s : State) (h st : Nat) (x : PortSt) : (s.setPort h st x).notices = s.notices := rfl
@[simp] theorem State.setPort_deadColls (s : State) (h st : Nat) (x : PortSt) : (s.setPort h st x).deadColls = s.deadColls := rfl
@[simp] theorem State.setPort_cores (s : State) (h st : Nat) (x : PortSt) : (s.setPort h st x).cores = s.cores := rfl
@[simp] theorem State.setPort_clusters (s : State) (h st : Nat) (x : PortSt) : (s.setPort h st x).clusters = s.clusters := rfl
@[simp] theorem State.setPort_kernels (s : State) (h st : Nat) (x : PortSt) : (s.setPort h st x).kernels = s.kernels := rfl
@[simp] theorem State.setPort_pools (s : State) (h st : Nat) (x : PortSt) : (s.setPort h st x).pools = s.pools := rfl
@[simp] theorem State.setPort_copies (s : State) (h st : Nat) (x : PortSt) : (s.setPort h st x).copies = s.copies := rfl
@[simp] theorem State.setPort_pgWaits (s : State) (h st : Nat) (x : PortSt) : (s.setPort h st x).pgWaits = s.pgWaits := rfl
@[simp] theorem State.setPort_ptc (s : State) (h st : Nat) (x : PortSt) : (s.setPort h st x).ptc = s.ptc := rfl
@[simp] theorem State.setPort_expanders (s : State) (h st : Nat) (x : PortSt) : (s.setPort h st x).expanders = s.expanders := rfl
@[simp] theorem State.setPort_trw (s : State) (h st : Nat) (x : PortSt) : (s.setPort h st x).trw = s.trw := rfl
@[simp] theorem State.setPort_fabTx (s : State) (h st : Nat) (x : PortSt) : (s.setPort h st x).fabTx = s.fabTx := rfl
@[simp] theorem State.setPort_fabRx (s : State) (h st : Nat) (x : PortSt) : (s.setPort h st x).fabRx = s.fabRx := rfl
@[simp] theorem State.setPort_timeAsk (s : State) (h st : Nat) (x : PortSt) : (s.setPort h st x).timeAsk = s.timeAsk := rfl
@[simp] theorem State.setPort_joined (s : State) (h st : Nat) (x : PortSt) : (s.setPort h st x).joined = s.joined := rfl
@[simp] theorem State.setPort_aks (s : State) (h st : Nat) (x : PortSt) : (s.setPort h st x).aks = s.aks := rfl
@[simp] theorem State.setPort_slices (s : State) (h st : Nat) (x : PortSt) : (s.setPort h st x).slices = s.slices := rfl
@[simp] theorem State.setPort_fns (s : State) (h st : Nat) (x : PortSt) : (s.setPort h st x).fns = s.fns := rfl
@[simp] theorem State.setPort_msix (s : State) (h st : Nat) (x : PortSt) : (s.setPort h st x).msix = s.msix := rfl
@[simp] theorem State.setPort_hostRds (s : State) (h st : Nat) (x : PortSt) : (s.setPort h st x).hostRds = s.hostRds := rfl
@[simp] theorem State.setPort_hostWrs (s : State) (h st : Nat) (x : PortSt) : (s.setPort h st x).hostWrs = s.hostWrs := rfl
@[simp] theorem State.setPort_heldRegs (s : State) (h st : Nat) (x : PortSt) : (s.setPort h st x).heldRegs = s.heldRegs := rfl
@[simp] theorem State.setPort_slots (s : State) (h st : Nat) (x : PortSt) : (s.setPort h st x).slots = s.slots := rfl
@[simp] theorem State.setPort_freezeArm (s : State) (h st : Nat) (x : PortSt) : (s.setPort h st x).freezeArm = s.freezeArm := rfl
@[simp] theorem State.setPort_resetting (s : State) (h st : Nat) (x : PortSt) : (s.setPort h st x).resetting = s.resetting := rfl
@[simp] theorem State.setPort_caseWait (s : State) (h st : Nat) (x : PortSt) : (s.setPort h st x).caseWait = s.caseWait := rfl
@[simp] theorem State.setPort_answers (s : State) (h st : Nat) (x : PortSt) : (s.setPort h st x).answers = s.answers := rfl
@[simp] theorem State.setPort_pf1 (s : State) (h st : Nat) (x : PortSt) : (s.setPort h st x).pf1 = s.pf1 := rfl
@[simp] theorem State.setPort_pf2 (s : State) (h st : Nat) (x : PortSt) : (s.setPort h st x).pf2 = s.pf2 := rfl
@[simp] theorem State.setPort_out (s : State) (h st : Nat) (x : PortSt) : (s.setPort h st x).out = s.out := rfl
@[simp] theorem State.setPort_free (s : State) (h st : Nat) (x : PortSt) : (s.setPort h st x).free = s.free := rfl
@[simp] theorem State.setPort_pending (s : State) (h st : Nat) (x : PortSt) : (s.setPort h st x).pending = s.pending := rfl
@[simp] theorem State.setPort_rd (s : State) (h st : Nat) (x : PortSt) (fld : Fld) (a b c : Nat) : (s.setPort h st x).rd fld a b c = s.rd fld a b c := rfl

/-! ## State.setPool -/

@[simp] theorem State.setPool_clk (s : State) (cas k : Nat) (x : PoolSt) : (s.setPool cas k x).clk = s.clk := rfl
@[simp] theorem State.setPool_fuse (s : State) (cas k : Nat) (x : PoolSt) : (s.setPool cas k x).fuse = s.fuse := rfl
@[simp] theorem State.setPool_regs (s : State) (cas k : Nat) (x : PoolSt) : (s.setPool cas k x).regs = s.regs := rfl
@[simp] theorem State.setPool_half (s : State) (cas k : Nat) (x : PoolSt) : (s.setPool cas k x).half = s.half := rfl
@[simp] theorem State.setPool_cfg (s : State) (cas k : Nat) (x : PoolSt) : (s.setPool cas k x).cfg = s.cfg := rfl
@[simp] theorem State.setPool_staged (s : State) (cas k : Nat) (x : PoolSt) : (s.setPool cas k x).staged = s.staged := rfl
@[simp] theorem State.setPool_board (s : State) (cas k : Nat) (x : PoolSt) : (s.setPool cas k x).board = s.board := rfl
@[simp] theorem State.setPool_supply (s : State) (cas k : Nat) (x : PoolSt) : (s.setPool cas k x).supply = s.supply := rfl
@[simp] theorem State.setPool_boot (s : State) (cas k : Nat) (x : PoolSt) : (s.setPool cas k x).boot = s.boot := rfl
@[simp] theorem State.setPool_recov (s : State) (cas k : Nat) (x : PoolSt) : (s.setPool cas k x).recov = s.recov := rfl
@[simp] theorem State.setPool_doors (s : State) (cas k : Nat) (x : PoolSt) : (s.setPool cas k x).doors = s.doors := rfl
@[simp] theorem State.setPool_louvres (s : State) (cas k : Nat) (x : PoolSt) : (s.setPool cas k x).louvres = s.louvres := rfl
@[simp] theorem State.setPool_arbs (s : State) (cas k : Nat) (x : PoolSt) : (s.setPool cas k x).arbs = s.arbs := rfl
@[simp] theorem State.setPool_pcs (s : State) (cas k : Nat) (x : PoolSt) : (s.setPool cas k x).pcs = s.pcs := rfl
@[simp] theorem State.setPool_links (s : State) (cas k : Nat) (x : PoolSt) : (s.setPool cas k x).links = s.links := rfl
@[simp] theorem State.setPool_ring (s : State) (cas k : Nat) (x : PoolSt) : (s.setPool cas k x).ring = s.ring := rfl
@[simp] theorem State.setPool_mem (s : State) (cas k : Nat) (x : PoolSt) : (s.setPool cas k x).mem = s.mem := rfl
@[simp] theorem State.setPool_geom (s : State) (cas k : Nat) (x : PoolSt) : (s.setPool cas k x).geom = s.geom := rfl
@[simp] theorem State.setPool_outPane (s : State) (cas k : Nat) (x : PoolSt) : (s.setPool cas k x).outPane = s.outPane := rfl
@[simp] theorem State.setPool_outCas (s : State) (cas k : Nat) (x : PoolSt) : (s.setPool cas k x).outCas = s.outCas := rfl
@[simp] theorem State.setPool_nextId (s : State) (cas k : Nat) (x : PoolSt) : (s.setPool cas k x).nextId = s.nextId := rfl
@[simp] theorem State.setPool_closed (s : State) (cas k : Nat) (x : PoolSt) : (s.setPool cas k x).closed = s.closed := rfl
@[simp] theorem State.setPool_fences (s : State) (cas k : Nat) (x : PoolSt) : (s.setPool cas k x).fences = s.fences := rfl
@[simp] theorem State.setPool_logs (s : State) (cas k : Nat) (x : PoolSt) : (s.setPool cas k x).logs = s.logs := rfl
@[simp] theorem State.setPool_levels (s : State) (cas k : Nat) (x : PoolSt) : (s.setPool cas k x).levels = s.levels := rfl
@[simp] theorem State.setPool_leakAt (s : State) (cas k : Nat) (x : PoolSt) : (s.setPool cas k x).leakAt = s.leakAt := rfl
@[simp] theorem State.setPool_trims (s : State) (cas k : Nat) (x : PoolSt) : (s.setPool cas k x).trims = s.trims := rfl
@[simp] theorem State.setPool_lanes (s : State) (cas k : Nat) (x : PoolSt) : (s.setPool cas k x).lanes = s.lanes := rfl
@[simp] theorem State.setPool_therm (s : State) (cas k : Nat) (x : PoolSt) : (s.setPool cas k x).therm = s.therm := rfl
@[simp] theorem State.setPool_hinge (s : State) (cas k : Nat) (x : PoolSt) : (s.setPool cas k x).hinge = s.hinge := rfl
@[simp] theorem State.setPool_samplers (s : State) (cas k : Nat) (x : PoolSt) : (s.setPool cas k x).samplers = s.samplers := rfl
@[simp] theorem State.setPool_tracers (s : State) (cas k : Nat) (x : PoolSt) : (s.setPool cas k x).tracers = s.tracers := rfl
@[simp] theorem State.setPool_ports (s : State) (cas k : Nat) (x : PoolSt) : (s.setPool cas k x).ports = s.ports := rfl
@[simp] theorem State.setPool_fuseMap (s : State) (cas k : Nat) (x : PoolSt) : (s.setPool cas k x).fuseMap = s.fuseMap := rfl
@[simp] theorem State.setPool_spareUsed (s : State) (cas k : Nat) (x : PoolSt) : (s.setPool cas k x).spareUsed = s.spareUsed := rfl
@[simp] theorem State.setPool_turns (s : State) (cas k : Nat) (x : PoolSt) : (s.setPool cas k x).turns = s.turns := rfl
@[simp] theorem State.setPool_shiftBuf (s : State) (cas k : Nat) (x : PoolSt) : (s.setPool cas k x).shiftBuf = s.shiftBuf := rfl
@[simp] theorem State.setPool_queues (s : State) (cas k : Nat) (x : PoolSt) : (s.setPool cas k x).queues = s.queues := rfl
@[simp] theorem State.setPool_colls (s : State) (cas k : Nat) (x : PoolSt) : (s.setPool cas k x).colls = s.colls := rfl
@[simp] theorem State.setPool_notices (s : State) (cas k : Nat) (x : PoolSt) : (s.setPool cas k x).notices = s.notices := rfl
@[simp] theorem State.setPool_deadColls (s : State) (cas k : Nat) (x : PoolSt) : (s.setPool cas k x).deadColls = s.deadColls := rfl
@[simp] theorem State.setPool_cores (s : State) (cas k : Nat) (x : PoolSt) : (s.setPool cas k x).cores = s.cores := rfl
@[simp] theorem State.setPool_clusters (s : State) (cas k : Nat) (x : PoolSt) : (s.setPool cas k x).clusters = s.clusters := rfl
@[simp] theorem State.setPool_kernels (s : State) (cas k : Nat) (x : PoolSt) : (s.setPool cas k x).kernels = s.kernels := rfl
@[simp] theorem State.setPool_copies (s : State) (cas k : Nat) (x : PoolSt) : (s.setPool cas k x).copies = s.copies := rfl
@[simp] theorem State.setPool_pgWaits (s : State) (cas k : Nat) (x : PoolSt) : (s.setPool cas k x).pgWaits = s.pgWaits := rfl
@[simp] theorem State.setPool_ptc (s : State) (cas k : Nat) (x : PoolSt) : (s.setPool cas k x).ptc = s.ptc := rfl
@[simp] theorem State.setPool_expanders (s : State) (cas k : Nat) (x : PoolSt) : (s.setPool cas k x).expanders = s.expanders := rfl
@[simp] theorem State.setPool_trw (s : State) (cas k : Nat) (x : PoolSt) : (s.setPool cas k x).trw = s.trw := rfl
@[simp] theorem State.setPool_fabTx (s : State) (cas k : Nat) (x : PoolSt) : (s.setPool cas k x).fabTx = s.fabTx := rfl
@[simp] theorem State.setPool_fabRx (s : State) (cas k : Nat) (x : PoolSt) : (s.setPool cas k x).fabRx = s.fabRx := rfl
@[simp] theorem State.setPool_timeAsk (s : State) (cas k : Nat) (x : PoolSt) : (s.setPool cas k x).timeAsk = s.timeAsk := rfl
@[simp] theorem State.setPool_joined (s : State) (cas k : Nat) (x : PoolSt) : (s.setPool cas k x).joined = s.joined := rfl
@[simp] theorem State.setPool_aks (s : State) (cas k : Nat) (x : PoolSt) : (s.setPool cas k x).aks = s.aks := rfl
@[simp] theorem State.setPool_slices (s : State) (cas k : Nat) (x : PoolSt) : (s.setPool cas k x).slices = s.slices := rfl
@[simp] theorem State.setPool_fns (s : State) (cas k : Nat) (x : PoolSt) : (s.setPool cas k x).fns = s.fns := rfl
@[simp] theorem State.setPool_msix (s : State) (cas k : Nat) (x : PoolSt) : (s.setPool cas k x).msix = s.msix := rfl
@[simp] theorem State.setPool_hostRds (s : State) (cas k : Nat) (x : PoolSt) : (s.setPool cas k x).hostRds = s.hostRds := rfl
@[simp] theorem State.setPool_hostWrs (s : State) (cas k : Nat) (x : PoolSt) : (s.setPool cas k x).hostWrs = s.hostWrs := rfl
@[simp] theorem State.setPool_heldRegs (s : State) (cas k : Nat) (x : PoolSt) : (s.setPool cas k x).heldRegs = s.heldRegs := rfl
@[simp] theorem State.setPool_slots (s : State) (cas k : Nat) (x : PoolSt) : (s.setPool cas k x).slots = s.slots := rfl
@[simp] theorem State.setPool_freezeArm (s : State) (cas k : Nat) (x : PoolSt) : (s.setPool cas k x).freezeArm = s.freezeArm := rfl
@[simp] theorem State.setPool_resetting (s : State) (cas k : Nat) (x : PoolSt) : (s.setPool cas k x).resetting = s.resetting := rfl
@[simp] theorem State.setPool_caseWait (s : State) (cas k : Nat) (x : PoolSt) : (s.setPool cas k x).caseWait = s.caseWait := rfl
@[simp] theorem State.setPool_answers (s : State) (cas k : Nat) (x : PoolSt) : (s.setPool cas k x).answers = s.answers := rfl
@[simp] theorem State.setPool_pf1 (s : State) (cas k : Nat) (x : PoolSt) : (s.setPool cas k x).pf1 = s.pf1 := rfl
@[simp] theorem State.setPool_pf2 (s : State) (cas k : Nat) (x : PoolSt) : (s.setPool cas k x).pf2 = s.pf2 := rfl
@[simp] theorem State.setPool_out (s : State) (cas k : Nat) (x : PoolSt) : (s.setPool cas k x).out = s.out := rfl
@[simp] theorem State.setPool_free (s : State) (cas k : Nat) (x : PoolSt) : (s.setPool cas k x).free = s.free := rfl
@[simp] theorem State.setPool_pending (s : State) (cas k : Nat) (x : PoolSt) : (s.setPool cas k x).pending = s.pending := rfl
@[simp] theorem State.setPool_rd (s : State) (cas k : Nat) (x : PoolSt) (fld : Fld) (a b c : Nat) : (s.setPool cas k x).rd fld a b c = s.rd fld a b c := rfl

/-! ## State.setKernel -/

@[simp] theorem State.setKernel_clk (s : State) (x : KernelSt) : (s.setKernel x).clk = s.clk := rfl
@[simp] theorem State.setKernel_fuse (s : State) (x : KernelSt) : (s.setKernel x).fuse = s.fuse := rfl
@[simp] theorem State.setKernel_regs (s : State) (x : KernelSt) : (s.setKernel x).regs = s.regs := rfl
@[simp] theorem State.setKernel_half (s : State) (x : KernelSt) : (s.setKernel x).half = s.half := rfl
@[simp] theorem State.setKernel_cfg (s : State) (x : KernelSt) : (s.setKernel x).cfg = s.cfg := rfl
@[simp] theorem State.setKernel_staged (s : State) (x : KernelSt) : (s.setKernel x).staged = s.staged := rfl
@[simp] theorem State.setKernel_board (s : State) (x : KernelSt) : (s.setKernel x).board = s.board := rfl
@[simp] theorem State.setKernel_supply (s : State) (x : KernelSt) : (s.setKernel x).supply = s.supply := rfl
@[simp] theorem State.setKernel_boot (s : State) (x : KernelSt) : (s.setKernel x).boot = s.boot := rfl
@[simp] theorem State.setKernel_recov (s : State) (x : KernelSt) : (s.setKernel x).recov = s.recov := rfl
@[simp] theorem State.setKernel_doors (s : State) (x : KernelSt) : (s.setKernel x).doors = s.doors := rfl
@[simp] theorem State.setKernel_louvres (s : State) (x : KernelSt) : (s.setKernel x).louvres = s.louvres := rfl
@[simp] theorem State.setKernel_arbs (s : State) (x : KernelSt) : (s.setKernel x).arbs = s.arbs := rfl
@[simp] theorem State.setKernel_pcs (s : State) (x : KernelSt) : (s.setKernel x).pcs = s.pcs := rfl
@[simp] theorem State.setKernel_links (s : State) (x : KernelSt) : (s.setKernel x).links = s.links := rfl
@[simp] theorem State.setKernel_ring (s : State) (x : KernelSt) : (s.setKernel x).ring = s.ring := rfl
@[simp] theorem State.setKernel_mem (s : State) (x : KernelSt) : (s.setKernel x).mem = s.mem := rfl
@[simp] theorem State.setKernel_geom (s : State) (x : KernelSt) : (s.setKernel x).geom = s.geom := rfl
@[simp] theorem State.setKernel_outPane (s : State) (x : KernelSt) : (s.setKernel x).outPane = s.outPane := rfl
@[simp] theorem State.setKernel_outCas (s : State) (x : KernelSt) : (s.setKernel x).outCas = s.outCas := rfl
@[simp] theorem State.setKernel_nextId (s : State) (x : KernelSt) : (s.setKernel x).nextId = s.nextId := rfl
@[simp] theorem State.setKernel_closed (s : State) (x : KernelSt) : (s.setKernel x).closed = s.closed := rfl
@[simp] theorem State.setKernel_fences (s : State) (x : KernelSt) : (s.setKernel x).fences = s.fences := rfl
@[simp] theorem State.setKernel_logs (s : State) (x : KernelSt) : (s.setKernel x).logs = s.logs := rfl
@[simp] theorem State.setKernel_levels (s : State) (x : KernelSt) : (s.setKernel x).levels = s.levels := rfl
@[simp] theorem State.setKernel_leakAt (s : State) (x : KernelSt) : (s.setKernel x).leakAt = s.leakAt := rfl
@[simp] theorem State.setKernel_trims (s : State) (x : KernelSt) : (s.setKernel x).trims = s.trims := rfl
@[simp] theorem State.setKernel_lanes (s : State) (x : KernelSt) : (s.setKernel x).lanes = s.lanes := rfl
@[simp] theorem State.setKernel_therm (s : State) (x : KernelSt) : (s.setKernel x).therm = s.therm := rfl
@[simp] theorem State.setKernel_hinge (s : State) (x : KernelSt) : (s.setKernel x).hinge = s.hinge := rfl
@[simp] theorem State.setKernel_samplers (s : State) (x : KernelSt) : (s.setKernel x).samplers = s.samplers := rfl
@[simp] theorem State.setKernel_tracers (s : State) (x : KernelSt) : (s.setKernel x).tracers = s.tracers := rfl
@[simp] theorem State.setKernel_ports (s : State) (x : KernelSt) : (s.setKernel x).ports = s.ports := rfl
@[simp] theorem State.setKernel_fuseMap (s : State) (x : KernelSt) : (s.setKernel x).fuseMap = s.fuseMap := rfl
@[simp] theorem State.setKernel_spareUsed (s : State) (x : KernelSt) : (s.setKernel x).spareUsed = s.spareUsed := rfl
@[simp] theorem State.setKernel_turns (s : State) (x : KernelSt) : (s.setKernel x).turns = s.turns := rfl
@[simp] theorem State.setKernel_shiftBuf (s : State) (x : KernelSt) : (s.setKernel x).shiftBuf = s.shiftBuf := rfl
@[simp] theorem State.setKernel_queues (s : State) (x : KernelSt) : (s.setKernel x).queues = s.queues := rfl
@[simp] theorem State.setKernel_colls (s : State) (x : KernelSt) : (s.setKernel x).colls = s.colls := rfl
@[simp] theorem State.setKernel_notices (s : State) (x : KernelSt) : (s.setKernel x).notices = s.notices := rfl
@[simp] theorem State.setKernel_deadColls (s : State) (x : KernelSt) : (s.setKernel x).deadColls = s.deadColls := rfl
@[simp] theorem State.setKernel_cores (s : State) (x : KernelSt) : (s.setKernel x).cores = s.cores := rfl
@[simp] theorem State.setKernel_clusters (s : State) (x : KernelSt) : (s.setKernel x).clusters = s.clusters := rfl
@[simp] theorem State.setKernel_pools (s : State) (x : KernelSt) : (s.setKernel x).pools = s.pools := rfl
@[simp] theorem State.setKernel_copies (s : State) (x : KernelSt) : (s.setKernel x).copies = s.copies := rfl
@[simp] theorem State.setKernel_pgWaits (s : State) (x : KernelSt) : (s.setKernel x).pgWaits = s.pgWaits := rfl
@[simp] theorem State.setKernel_ptc (s : State) (x : KernelSt) : (s.setKernel x).ptc = s.ptc := rfl
@[simp] theorem State.setKernel_expanders (s : State) (x : KernelSt) : (s.setKernel x).expanders = s.expanders := rfl
@[simp] theorem State.setKernel_trw (s : State) (x : KernelSt) : (s.setKernel x).trw = s.trw := rfl
@[simp] theorem State.setKernel_fabTx (s : State) (x : KernelSt) : (s.setKernel x).fabTx = s.fabTx := rfl
@[simp] theorem State.setKernel_fabRx (s : State) (x : KernelSt) : (s.setKernel x).fabRx = s.fabRx := rfl
@[simp] theorem State.setKernel_timeAsk (s : State) (x : KernelSt) : (s.setKernel x).timeAsk = s.timeAsk := rfl
@[simp] theorem State.setKernel_joined (s : State) (x : KernelSt) : (s.setKernel x).joined = s.joined := rfl
@[simp] theorem State.setKernel_aks (s : State) (x : KernelSt) : (s.setKernel x).aks = s.aks := rfl
@[simp] theorem State.setKernel_slices (s : State) (x : KernelSt) : (s.setKernel x).slices = s.slices := rfl
@[simp] theorem State.setKernel_fns (s : State) (x : KernelSt) : (s.setKernel x).fns = s.fns := rfl
@[simp] theorem State.setKernel_msix (s : State) (x : KernelSt) : (s.setKernel x).msix = s.msix := rfl
@[simp] theorem State.setKernel_hostRds (s : State) (x : KernelSt) : (s.setKernel x).hostRds = s.hostRds := rfl
@[simp] theorem State.setKernel_hostWrs (s : State) (x : KernelSt) : (s.setKernel x).hostWrs = s.hostWrs := rfl
@[simp] theorem State.setKernel_heldRegs (s : State) (x : KernelSt) : (s.setKernel x).heldRegs = s.heldRegs := rfl
@[simp] theorem State.setKernel_slots (s : State) (x : KernelSt) : (s.setKernel x).slots = s.slots := rfl
@[simp] theorem State.setKernel_freezeArm (s : State) (x : KernelSt) : (s.setKernel x).freezeArm = s.freezeArm := rfl
@[simp] theorem State.setKernel_resetting (s : State) (x : KernelSt) : (s.setKernel x).resetting = s.resetting := rfl
@[simp] theorem State.setKernel_caseWait (s : State) (x : KernelSt) : (s.setKernel x).caseWait = s.caseWait := rfl
@[simp] theorem State.setKernel_answers (s : State) (x : KernelSt) : (s.setKernel x).answers = s.answers := rfl
@[simp] theorem State.setKernel_pf1 (s : State) (x : KernelSt) : (s.setKernel x).pf1 = s.pf1 := rfl
@[simp] theorem State.setKernel_pf2 (s : State) (x : KernelSt) : (s.setKernel x).pf2 = s.pf2 := rfl
@[simp] theorem State.setKernel_out (s : State) (x : KernelSt) : (s.setKernel x).out = s.out := rfl
@[simp] theorem State.setKernel_free (s : State) (x : KernelSt) : (s.setKernel x).free = s.free := rfl
@[simp] theorem State.setKernel_pending (s : State) (x : KernelSt) : (s.setKernel x).pending = s.pending := rfl
@[simp] theorem State.setKernel_rd (s : State) (x : KernelSt) (fld : Fld) (a b c : Nat) : (s.setKernel x).rd fld a b c = s.rd fld a b c := rfl

/-! ## State.setColl -/

@[simp] theorem State.setColl_clk (s : State) (x : CollSt) : (s.setColl x).clk = s.clk := rfl
@[simp] theorem State.setColl_fuse (s : State) (x : CollSt) : (s.setColl x).fuse = s.fuse := rfl
@[simp] theorem State.setColl_regs (s : State) (x : CollSt) : (s.setColl x).regs = s.regs := rfl
@[simp] theorem State.setColl_half (s : State) (x : CollSt) : (s.setColl x).half = s.half := rfl
@[simp] theorem State.setColl_cfg (s : State) (x : CollSt) : (s.setColl x).cfg = s.cfg := rfl
@[simp] theorem State.setColl_staged (s : State) (x : CollSt) : (s.setColl x).staged = s.staged := rfl
@[simp] theorem State.setColl_board (s : State) (x : CollSt) : (s.setColl x).board = s.board := rfl
@[simp] theorem State.setColl_supply (s : State) (x : CollSt) : (s.setColl x).supply = s.supply := rfl
@[simp] theorem State.setColl_boot (s : State) (x : CollSt) : (s.setColl x).boot = s.boot := rfl
@[simp] theorem State.setColl_recov (s : State) (x : CollSt) : (s.setColl x).recov = s.recov := rfl
@[simp] theorem State.setColl_doors (s : State) (x : CollSt) : (s.setColl x).doors = s.doors := rfl
@[simp] theorem State.setColl_louvres (s : State) (x : CollSt) : (s.setColl x).louvres = s.louvres := rfl
@[simp] theorem State.setColl_arbs (s : State) (x : CollSt) : (s.setColl x).arbs = s.arbs := rfl
@[simp] theorem State.setColl_pcs (s : State) (x : CollSt) : (s.setColl x).pcs = s.pcs := rfl
@[simp] theorem State.setColl_links (s : State) (x : CollSt) : (s.setColl x).links = s.links := rfl
@[simp] theorem State.setColl_ring (s : State) (x : CollSt) : (s.setColl x).ring = s.ring := rfl
@[simp] theorem State.setColl_mem (s : State) (x : CollSt) : (s.setColl x).mem = s.mem := rfl
@[simp] theorem State.setColl_geom (s : State) (x : CollSt) : (s.setColl x).geom = s.geom := rfl
@[simp] theorem State.setColl_outPane (s : State) (x : CollSt) : (s.setColl x).outPane = s.outPane := rfl
@[simp] theorem State.setColl_outCas (s : State) (x : CollSt) : (s.setColl x).outCas = s.outCas := rfl
@[simp] theorem State.setColl_nextId (s : State) (x : CollSt) : (s.setColl x).nextId = s.nextId := rfl
@[simp] theorem State.setColl_closed (s : State) (x : CollSt) : (s.setColl x).closed = s.closed := rfl
@[simp] theorem State.setColl_fences (s : State) (x : CollSt) : (s.setColl x).fences = s.fences := rfl
@[simp] theorem State.setColl_logs (s : State) (x : CollSt) : (s.setColl x).logs = s.logs := rfl
@[simp] theorem State.setColl_levels (s : State) (x : CollSt) : (s.setColl x).levels = s.levels := rfl
@[simp] theorem State.setColl_leakAt (s : State) (x : CollSt) : (s.setColl x).leakAt = s.leakAt := rfl
@[simp] theorem State.setColl_trims (s : State) (x : CollSt) : (s.setColl x).trims = s.trims := rfl
@[simp] theorem State.setColl_lanes (s : State) (x : CollSt) : (s.setColl x).lanes = s.lanes := rfl
@[simp] theorem State.setColl_therm (s : State) (x : CollSt) : (s.setColl x).therm = s.therm := rfl
@[simp] theorem State.setColl_hinge (s : State) (x : CollSt) : (s.setColl x).hinge = s.hinge := rfl
@[simp] theorem State.setColl_samplers (s : State) (x : CollSt) : (s.setColl x).samplers = s.samplers := rfl
@[simp] theorem State.setColl_tracers (s : State) (x : CollSt) : (s.setColl x).tracers = s.tracers := rfl
@[simp] theorem State.setColl_ports (s : State) (x : CollSt) : (s.setColl x).ports = s.ports := rfl
@[simp] theorem State.setColl_fuseMap (s : State) (x : CollSt) : (s.setColl x).fuseMap = s.fuseMap := rfl
@[simp] theorem State.setColl_spareUsed (s : State) (x : CollSt) : (s.setColl x).spareUsed = s.spareUsed := rfl
@[simp] theorem State.setColl_turns (s : State) (x : CollSt) : (s.setColl x).turns = s.turns := rfl
@[simp] theorem State.setColl_shiftBuf (s : State) (x : CollSt) : (s.setColl x).shiftBuf = s.shiftBuf := rfl
@[simp] theorem State.setColl_queues (s : State) (x : CollSt) : (s.setColl x).queues = s.queues := rfl
@[simp] theorem State.setColl_notices (s : State) (x : CollSt) : (s.setColl x).notices = s.notices := rfl
@[simp] theorem State.setColl_deadColls (s : State) (x : CollSt) : (s.setColl x).deadColls = s.deadColls := rfl
@[simp] theorem State.setColl_cores (s : State) (x : CollSt) : (s.setColl x).cores = s.cores := rfl
@[simp] theorem State.setColl_clusters (s : State) (x : CollSt) : (s.setColl x).clusters = s.clusters := rfl
@[simp] theorem State.setColl_kernels (s : State) (x : CollSt) : (s.setColl x).kernels = s.kernels := rfl
@[simp] theorem State.setColl_pools (s : State) (x : CollSt) : (s.setColl x).pools = s.pools := rfl
@[simp] theorem State.setColl_copies (s : State) (x : CollSt) : (s.setColl x).copies = s.copies := rfl
@[simp] theorem State.setColl_pgWaits (s : State) (x : CollSt) : (s.setColl x).pgWaits = s.pgWaits := rfl
@[simp] theorem State.setColl_ptc (s : State) (x : CollSt) : (s.setColl x).ptc = s.ptc := rfl
@[simp] theorem State.setColl_expanders (s : State) (x : CollSt) : (s.setColl x).expanders = s.expanders := rfl
@[simp] theorem State.setColl_trw (s : State) (x : CollSt) : (s.setColl x).trw = s.trw := rfl
@[simp] theorem State.setColl_fabTx (s : State) (x : CollSt) : (s.setColl x).fabTx = s.fabTx := rfl
@[simp] theorem State.setColl_fabRx (s : State) (x : CollSt) : (s.setColl x).fabRx = s.fabRx := rfl
@[simp] theorem State.setColl_timeAsk (s : State) (x : CollSt) : (s.setColl x).timeAsk = s.timeAsk := rfl
@[simp] theorem State.setColl_joined (s : State) (x : CollSt) : (s.setColl x).joined = s.joined := rfl
@[simp] theorem State.setColl_aks (s : State) (x : CollSt) : (s.setColl x).aks = s.aks := rfl
@[simp] theorem State.setColl_slices (s : State) (x : CollSt) : (s.setColl x).slices = s.slices := rfl
@[simp] theorem State.setColl_fns (s : State) (x : CollSt) : (s.setColl x).fns = s.fns := rfl
@[simp] theorem State.setColl_msix (s : State) (x : CollSt) : (s.setColl x).msix = s.msix := rfl
@[simp] theorem State.setColl_hostRds (s : State) (x : CollSt) : (s.setColl x).hostRds = s.hostRds := rfl
@[simp] theorem State.setColl_hostWrs (s : State) (x : CollSt) : (s.setColl x).hostWrs = s.hostWrs := rfl
@[simp] theorem State.setColl_heldRegs (s : State) (x : CollSt) : (s.setColl x).heldRegs = s.heldRegs := rfl
@[simp] theorem State.setColl_slots (s : State) (x : CollSt) : (s.setColl x).slots = s.slots := rfl
@[simp] theorem State.setColl_freezeArm (s : State) (x : CollSt) : (s.setColl x).freezeArm = s.freezeArm := rfl
@[simp] theorem State.setColl_resetting (s : State) (x : CollSt) : (s.setColl x).resetting = s.resetting := rfl
@[simp] theorem State.setColl_caseWait (s : State) (x : CollSt) : (s.setColl x).caseWait = s.caseWait := rfl
@[simp] theorem State.setColl_answers (s : State) (x : CollSt) : (s.setColl x).answers = s.answers := rfl
@[simp] theorem State.setColl_pf1 (s : State) (x : CollSt) : (s.setColl x).pf1 = s.pf1 := rfl
@[simp] theorem State.setColl_pf2 (s : State) (x : CollSt) : (s.setColl x).pf2 = s.pf2 := rfl
@[simp] theorem State.setColl_out (s : State) (x : CollSt) : (s.setColl x).out = s.out := rfl
@[simp] theorem State.setColl_free (s : State) (x : CollSt) : (s.setColl x).free = s.free := rfl
@[simp] theorem State.setColl_pending (s : State) (x : CollSt) : (s.setColl x).pending = s.pending := rfl
@[simp] theorem State.setColl_rd (s : State) (x : CollSt) (fld : Fld) (a b c : Nat) : (s.setColl x).rd fld a b c = s.rd fld a b c := rfl

/-! ## State.setSlice -/

@[simp] theorem State.setSlice_clk (s : State) (d : Nat) (h2c : Bool) (n : Nat) (x : SliceSt) : (s.setSlice d h2c n x).clk = s.clk := rfl
@[simp] theorem State.setSlice_fuse (s : State) (d : Nat) (h2c : Bool) (n : Nat) (x : SliceSt) : (s.setSlice d h2c n x).fuse = s.fuse := rfl
@[simp] theorem State.setSlice_regs (s : State) (d : Nat) (h2c : Bool) (n : Nat) (x : SliceSt) : (s.setSlice d h2c n x).regs = s.regs := rfl
@[simp] theorem State.setSlice_half (s : State) (d : Nat) (h2c : Bool) (n : Nat) (x : SliceSt) : (s.setSlice d h2c n x).half = s.half := rfl
@[simp] theorem State.setSlice_cfg (s : State) (d : Nat) (h2c : Bool) (n : Nat) (x : SliceSt) : (s.setSlice d h2c n x).cfg = s.cfg := rfl
@[simp] theorem State.setSlice_staged (s : State) (d : Nat) (h2c : Bool) (n : Nat) (x : SliceSt) : (s.setSlice d h2c n x).staged = s.staged := rfl
@[simp] theorem State.setSlice_board (s : State) (d : Nat) (h2c : Bool) (n : Nat) (x : SliceSt) : (s.setSlice d h2c n x).board = s.board := rfl
@[simp] theorem State.setSlice_supply (s : State) (d : Nat) (h2c : Bool) (n : Nat) (x : SliceSt) : (s.setSlice d h2c n x).supply = s.supply := rfl
@[simp] theorem State.setSlice_boot (s : State) (d : Nat) (h2c : Bool) (n : Nat) (x : SliceSt) : (s.setSlice d h2c n x).boot = s.boot := rfl
@[simp] theorem State.setSlice_recov (s : State) (d : Nat) (h2c : Bool) (n : Nat) (x : SliceSt) : (s.setSlice d h2c n x).recov = s.recov := rfl
@[simp] theorem State.setSlice_doors (s : State) (d : Nat) (h2c : Bool) (n : Nat) (x : SliceSt) : (s.setSlice d h2c n x).doors = s.doors := rfl
@[simp] theorem State.setSlice_louvres (s : State) (d : Nat) (h2c : Bool) (n : Nat) (x : SliceSt) : (s.setSlice d h2c n x).louvres = s.louvres := rfl
@[simp] theorem State.setSlice_arbs (s : State) (d : Nat) (h2c : Bool) (n : Nat) (x : SliceSt) : (s.setSlice d h2c n x).arbs = s.arbs := rfl
@[simp] theorem State.setSlice_pcs (s : State) (d : Nat) (h2c : Bool) (n : Nat) (x : SliceSt) : (s.setSlice d h2c n x).pcs = s.pcs := rfl
@[simp] theorem State.setSlice_links (s : State) (d : Nat) (h2c : Bool) (n : Nat) (x : SliceSt) : (s.setSlice d h2c n x).links = s.links := rfl
@[simp] theorem State.setSlice_ring (s : State) (d : Nat) (h2c : Bool) (n : Nat) (x : SliceSt) : (s.setSlice d h2c n x).ring = s.ring := rfl
@[simp] theorem State.setSlice_mem (s : State) (d : Nat) (h2c : Bool) (n : Nat) (x : SliceSt) : (s.setSlice d h2c n x).mem = s.mem := rfl
@[simp] theorem State.setSlice_geom (s : State) (d : Nat) (h2c : Bool) (n : Nat) (x : SliceSt) : (s.setSlice d h2c n x).geom = s.geom := rfl
@[simp] theorem State.setSlice_outPane (s : State) (d : Nat) (h2c : Bool) (n : Nat) (x : SliceSt) : (s.setSlice d h2c n x).outPane = s.outPane := rfl
@[simp] theorem State.setSlice_outCas (s : State) (d : Nat) (h2c : Bool) (n : Nat) (x : SliceSt) : (s.setSlice d h2c n x).outCas = s.outCas := rfl
@[simp] theorem State.setSlice_nextId (s : State) (d : Nat) (h2c : Bool) (n : Nat) (x : SliceSt) : (s.setSlice d h2c n x).nextId = s.nextId := rfl
@[simp] theorem State.setSlice_closed (s : State) (d : Nat) (h2c : Bool) (n : Nat) (x : SliceSt) : (s.setSlice d h2c n x).closed = s.closed := rfl
@[simp] theorem State.setSlice_fences (s : State) (d : Nat) (h2c : Bool) (n : Nat) (x : SliceSt) : (s.setSlice d h2c n x).fences = s.fences := rfl
@[simp] theorem State.setSlice_logs (s : State) (d : Nat) (h2c : Bool) (n : Nat) (x : SliceSt) : (s.setSlice d h2c n x).logs = s.logs := rfl
@[simp] theorem State.setSlice_levels (s : State) (d : Nat) (h2c : Bool) (n : Nat) (x : SliceSt) : (s.setSlice d h2c n x).levels = s.levels := rfl
@[simp] theorem State.setSlice_leakAt (s : State) (d : Nat) (h2c : Bool) (n : Nat) (x : SliceSt) : (s.setSlice d h2c n x).leakAt = s.leakAt := rfl
@[simp] theorem State.setSlice_trims (s : State) (d : Nat) (h2c : Bool) (n : Nat) (x : SliceSt) : (s.setSlice d h2c n x).trims = s.trims := rfl
@[simp] theorem State.setSlice_lanes (s : State) (d : Nat) (h2c : Bool) (n : Nat) (x : SliceSt) : (s.setSlice d h2c n x).lanes = s.lanes := rfl
@[simp] theorem State.setSlice_therm (s : State) (d : Nat) (h2c : Bool) (n : Nat) (x : SliceSt) : (s.setSlice d h2c n x).therm = s.therm := rfl
@[simp] theorem State.setSlice_hinge (s : State) (d : Nat) (h2c : Bool) (n : Nat) (x : SliceSt) : (s.setSlice d h2c n x).hinge = s.hinge := rfl
@[simp] theorem State.setSlice_samplers (s : State) (d : Nat) (h2c : Bool) (n : Nat) (x : SliceSt) : (s.setSlice d h2c n x).samplers = s.samplers := rfl
@[simp] theorem State.setSlice_tracers (s : State) (d : Nat) (h2c : Bool) (n : Nat) (x : SliceSt) : (s.setSlice d h2c n x).tracers = s.tracers := rfl
@[simp] theorem State.setSlice_ports (s : State) (d : Nat) (h2c : Bool) (n : Nat) (x : SliceSt) : (s.setSlice d h2c n x).ports = s.ports := rfl
@[simp] theorem State.setSlice_fuseMap (s : State) (d : Nat) (h2c : Bool) (n : Nat) (x : SliceSt) : (s.setSlice d h2c n x).fuseMap = s.fuseMap := rfl
@[simp] theorem State.setSlice_spareUsed (s : State) (d : Nat) (h2c : Bool) (n : Nat) (x : SliceSt) : (s.setSlice d h2c n x).spareUsed = s.spareUsed := rfl
@[simp] theorem State.setSlice_turns (s : State) (d : Nat) (h2c : Bool) (n : Nat) (x : SliceSt) : (s.setSlice d h2c n x).turns = s.turns := rfl
@[simp] theorem State.setSlice_shiftBuf (s : State) (d : Nat) (h2c : Bool) (n : Nat) (x : SliceSt) : (s.setSlice d h2c n x).shiftBuf = s.shiftBuf := rfl
@[simp] theorem State.setSlice_queues (s : State) (d : Nat) (h2c : Bool) (n : Nat) (x : SliceSt) : (s.setSlice d h2c n x).queues = s.queues := rfl
@[simp] theorem State.setSlice_colls (s : State) (d : Nat) (h2c : Bool) (n : Nat) (x : SliceSt) : (s.setSlice d h2c n x).colls = s.colls := rfl
@[simp] theorem State.setSlice_notices (s : State) (d : Nat) (h2c : Bool) (n : Nat) (x : SliceSt) : (s.setSlice d h2c n x).notices = s.notices := rfl
@[simp] theorem State.setSlice_deadColls (s : State) (d : Nat) (h2c : Bool) (n : Nat) (x : SliceSt) : (s.setSlice d h2c n x).deadColls = s.deadColls := rfl
@[simp] theorem State.setSlice_cores (s : State) (d : Nat) (h2c : Bool) (n : Nat) (x : SliceSt) : (s.setSlice d h2c n x).cores = s.cores := rfl
@[simp] theorem State.setSlice_clusters (s : State) (d : Nat) (h2c : Bool) (n : Nat) (x : SliceSt) : (s.setSlice d h2c n x).clusters = s.clusters := rfl
@[simp] theorem State.setSlice_kernels (s : State) (d : Nat) (h2c : Bool) (n : Nat) (x : SliceSt) : (s.setSlice d h2c n x).kernels = s.kernels := rfl
@[simp] theorem State.setSlice_pools (s : State) (d : Nat) (h2c : Bool) (n : Nat) (x : SliceSt) : (s.setSlice d h2c n x).pools = s.pools := rfl
@[simp] theorem State.setSlice_copies (s : State) (d : Nat) (h2c : Bool) (n : Nat) (x : SliceSt) : (s.setSlice d h2c n x).copies = s.copies := rfl
@[simp] theorem State.setSlice_pgWaits (s : State) (d : Nat) (h2c : Bool) (n : Nat) (x : SliceSt) : (s.setSlice d h2c n x).pgWaits = s.pgWaits := rfl
@[simp] theorem State.setSlice_ptc (s : State) (d : Nat) (h2c : Bool) (n : Nat) (x : SliceSt) : (s.setSlice d h2c n x).ptc = s.ptc := rfl
@[simp] theorem State.setSlice_expanders (s : State) (d : Nat) (h2c : Bool) (n : Nat) (x : SliceSt) : (s.setSlice d h2c n x).expanders = s.expanders := rfl
@[simp] theorem State.setSlice_trw (s : State) (d : Nat) (h2c : Bool) (n : Nat) (x : SliceSt) : (s.setSlice d h2c n x).trw = s.trw := rfl
@[simp] theorem State.setSlice_fabTx (s : State) (d : Nat) (h2c : Bool) (n : Nat) (x : SliceSt) : (s.setSlice d h2c n x).fabTx = s.fabTx := rfl
@[simp] theorem State.setSlice_fabRx (s : State) (d : Nat) (h2c : Bool) (n : Nat) (x : SliceSt) : (s.setSlice d h2c n x).fabRx = s.fabRx := rfl
@[simp] theorem State.setSlice_timeAsk (s : State) (d : Nat) (h2c : Bool) (n : Nat) (x : SliceSt) : (s.setSlice d h2c n x).timeAsk = s.timeAsk := rfl
@[simp] theorem State.setSlice_joined (s : State) (d : Nat) (h2c : Bool) (n : Nat) (x : SliceSt) : (s.setSlice d h2c n x).joined = s.joined := rfl
@[simp] theorem State.setSlice_aks (s : State) (d : Nat) (h2c : Bool) (n : Nat) (x : SliceSt) : (s.setSlice d h2c n x).aks = s.aks := rfl
@[simp] theorem State.setSlice_fns (s : State) (d : Nat) (h2c : Bool) (n : Nat) (x : SliceSt) : (s.setSlice d h2c n x).fns = s.fns := rfl
@[simp] theorem State.setSlice_msix (s : State) (d : Nat) (h2c : Bool) (n : Nat) (x : SliceSt) : (s.setSlice d h2c n x).msix = s.msix := rfl
@[simp] theorem State.setSlice_hostRds (s : State) (d : Nat) (h2c : Bool) (n : Nat) (x : SliceSt) : (s.setSlice d h2c n x).hostRds = s.hostRds := rfl
@[simp] theorem State.setSlice_hostWrs (s : State) (d : Nat) (h2c : Bool) (n : Nat) (x : SliceSt) : (s.setSlice d h2c n x).hostWrs = s.hostWrs := rfl
@[simp] theorem State.setSlice_heldRegs (s : State) (d : Nat) (h2c : Bool) (n : Nat) (x : SliceSt) : (s.setSlice d h2c n x).heldRegs = s.heldRegs := rfl
@[simp] theorem State.setSlice_slots (s : State) (d : Nat) (h2c : Bool) (n : Nat) (x : SliceSt) : (s.setSlice d h2c n x).slots = s.slots := rfl
@[simp] theorem State.setSlice_freezeArm (s : State) (d : Nat) (h2c : Bool) (n : Nat) (x : SliceSt) : (s.setSlice d h2c n x).freezeArm = s.freezeArm := rfl
@[simp] theorem State.setSlice_resetting (s : State) (d : Nat) (h2c : Bool) (n : Nat) (x : SliceSt) : (s.setSlice d h2c n x).resetting = s.resetting := rfl
@[simp] theorem State.setSlice_caseWait (s : State) (d : Nat) (h2c : Bool) (n : Nat) (x : SliceSt) : (s.setSlice d h2c n x).caseWait = s.caseWait := rfl
@[simp] theorem State.setSlice_answers (s : State) (d : Nat) (h2c : Bool) (n : Nat) (x : SliceSt) : (s.setSlice d h2c n x).answers = s.answers := rfl
@[simp] theorem State.setSlice_pf1 (s : State) (d : Nat) (h2c : Bool) (n : Nat) (x : SliceSt) : (s.setSlice d h2c n x).pf1 = s.pf1 := rfl
@[simp] theorem State.setSlice_pf2 (s : State) (d : Nat) (h2c : Bool) (n : Nat) (x : SliceSt) : (s.setSlice d h2c n x).pf2 = s.pf2 := rfl
@[simp] theorem State.setSlice_out (s : State) (d : Nat) (h2c : Bool) (n : Nat) (x : SliceSt) : (s.setSlice d h2c n x).out = s.out := rfl
@[simp] theorem State.setSlice_free (s : State) (d : Nat) (h2c : Bool) (n : Nat) (x : SliceSt) : (s.setSlice d h2c n x).free = s.free := rfl
@[simp] theorem State.setSlice_pending (s : State) (d : Nat) (h2c : Bool) (n : Nat) (x : SliceSt) : (s.setSlice d h2c n x).pending = s.pending := rfl
@[simp] theorem State.setSlice_rd (s : State) (d : Nat) (h2c : Bool) (n : Nat) (x : SliceSt) (fld : Fld) (a b c : Nat) : (s.setSlice d h2c n x).rd fld a b c = s.rd fld a b c := rfl

/-! ## State.setHinge -/

@[simp] theorem State.setHinge_clk (s : State) (f : HingeSt → HingeSt) : (s.setHinge f).clk = s.clk := rfl
@[simp] theorem State.setHinge_fuse (s : State) (f : HingeSt → HingeSt) : (s.setHinge f).fuse = s.fuse := rfl
@[simp] theorem State.setHinge_regs (s : State) (f : HingeSt → HingeSt) : (s.setHinge f).regs = s.regs := rfl
@[simp] theorem State.setHinge_half (s : State) (f : HingeSt → HingeSt) : (s.setHinge f).half = s.half := rfl
@[simp] theorem State.setHinge_cfg (s : State) (f : HingeSt → HingeSt) : (s.setHinge f).cfg = s.cfg := rfl
@[simp] theorem State.setHinge_staged (s : State) (f : HingeSt → HingeSt) : (s.setHinge f).staged = s.staged := rfl
@[simp] theorem State.setHinge_board (s : State) (f : HingeSt → HingeSt) : (s.setHinge f).board = s.board := rfl
@[simp] theorem State.setHinge_supply (s : State) (f : HingeSt → HingeSt) : (s.setHinge f).supply = s.supply := rfl
@[simp] theorem State.setHinge_boot (s : State) (f : HingeSt → HingeSt) : (s.setHinge f).boot = s.boot := rfl
@[simp] theorem State.setHinge_recov (s : State) (f : HingeSt → HingeSt) : (s.setHinge f).recov = s.recov := rfl
@[simp] theorem State.setHinge_doors (s : State) (f : HingeSt → HingeSt) : (s.setHinge f).doors = s.doors := rfl
@[simp] theorem State.setHinge_louvres (s : State) (f : HingeSt → HingeSt) : (s.setHinge f).louvres = s.louvres := rfl
@[simp] theorem State.setHinge_arbs (s : State) (f : HingeSt → HingeSt) : (s.setHinge f).arbs = s.arbs := rfl
@[simp] theorem State.setHinge_pcs (s : State) (f : HingeSt → HingeSt) : (s.setHinge f).pcs = s.pcs := rfl
@[simp] theorem State.setHinge_links (s : State) (f : HingeSt → HingeSt) : (s.setHinge f).links = s.links := rfl
@[simp] theorem State.setHinge_ring (s : State) (f : HingeSt → HingeSt) : (s.setHinge f).ring = s.ring := rfl
@[simp] theorem State.setHinge_mem (s : State) (f : HingeSt → HingeSt) : (s.setHinge f).mem = s.mem := rfl
@[simp] theorem State.setHinge_geom (s : State) (f : HingeSt → HingeSt) : (s.setHinge f).geom = s.geom := rfl
@[simp] theorem State.setHinge_outPane (s : State) (f : HingeSt → HingeSt) : (s.setHinge f).outPane = s.outPane := rfl
@[simp] theorem State.setHinge_outCas (s : State) (f : HingeSt → HingeSt) : (s.setHinge f).outCas = s.outCas := rfl
@[simp] theorem State.setHinge_nextId (s : State) (f : HingeSt → HingeSt) : (s.setHinge f).nextId = s.nextId := rfl
@[simp] theorem State.setHinge_closed (s : State) (f : HingeSt → HingeSt) : (s.setHinge f).closed = s.closed := rfl
@[simp] theorem State.setHinge_fences (s : State) (f : HingeSt → HingeSt) : (s.setHinge f).fences = s.fences := rfl
@[simp] theorem State.setHinge_logs (s : State) (f : HingeSt → HingeSt) : (s.setHinge f).logs = s.logs := rfl
@[simp] theorem State.setHinge_levels (s : State) (f : HingeSt → HingeSt) : (s.setHinge f).levels = s.levels := rfl
@[simp] theorem State.setHinge_leakAt (s : State) (f : HingeSt → HingeSt) : (s.setHinge f).leakAt = s.leakAt := rfl
@[simp] theorem State.setHinge_trims (s : State) (f : HingeSt → HingeSt) : (s.setHinge f).trims = s.trims := rfl
@[simp] theorem State.setHinge_lanes (s : State) (f : HingeSt → HingeSt) : (s.setHinge f).lanes = s.lanes := rfl
@[simp] theorem State.setHinge_therm (s : State) (f : HingeSt → HingeSt) : (s.setHinge f).therm = s.therm := rfl
@[simp] theorem State.setHinge_samplers (s : State) (f : HingeSt → HingeSt) : (s.setHinge f).samplers = s.samplers := rfl
@[simp] theorem State.setHinge_tracers (s : State) (f : HingeSt → HingeSt) : (s.setHinge f).tracers = s.tracers := rfl
@[simp] theorem State.setHinge_ports (s : State) (f : HingeSt → HingeSt) : (s.setHinge f).ports = s.ports := rfl
@[simp] theorem State.setHinge_fuseMap (s : State) (f : HingeSt → HingeSt) : (s.setHinge f).fuseMap = s.fuseMap := rfl
@[simp] theorem State.setHinge_spareUsed (s : State) (f : HingeSt → HingeSt) : (s.setHinge f).spareUsed = s.spareUsed := rfl
@[simp] theorem State.setHinge_turns (s : State) (f : HingeSt → HingeSt) : (s.setHinge f).turns = s.turns := rfl
@[simp] theorem State.setHinge_shiftBuf (s : State) (f : HingeSt → HingeSt) : (s.setHinge f).shiftBuf = s.shiftBuf := rfl
@[simp] theorem State.setHinge_queues (s : State) (f : HingeSt → HingeSt) : (s.setHinge f).queues = s.queues := rfl
@[simp] theorem State.setHinge_colls (s : State) (f : HingeSt → HingeSt) : (s.setHinge f).colls = s.colls := rfl
@[simp] theorem State.setHinge_notices (s : State) (f : HingeSt → HingeSt) : (s.setHinge f).notices = s.notices := rfl
@[simp] theorem State.setHinge_deadColls (s : State) (f : HingeSt → HingeSt) : (s.setHinge f).deadColls = s.deadColls := rfl
@[simp] theorem State.setHinge_cores (s : State) (f : HingeSt → HingeSt) : (s.setHinge f).cores = s.cores := rfl
@[simp] theorem State.setHinge_clusters (s : State) (f : HingeSt → HingeSt) : (s.setHinge f).clusters = s.clusters := rfl
@[simp] theorem State.setHinge_kernels (s : State) (f : HingeSt → HingeSt) : (s.setHinge f).kernels = s.kernels := rfl
@[simp] theorem State.setHinge_pools (s : State) (f : HingeSt → HingeSt) : (s.setHinge f).pools = s.pools := rfl
@[simp] theorem State.setHinge_copies (s : State) (f : HingeSt → HingeSt) : (s.setHinge f).copies = s.copies := rfl
@[simp] theorem State.setHinge_pgWaits (s : State) (f : HingeSt → HingeSt) : (s.setHinge f).pgWaits = s.pgWaits := rfl
@[simp] theorem State.setHinge_ptc (s : State) (f : HingeSt → HingeSt) : (s.setHinge f).ptc = s.ptc := rfl
@[simp] theorem State.setHinge_expanders (s : State) (f : HingeSt → HingeSt) : (s.setHinge f).expanders = s.expanders := rfl
@[simp] theorem State.setHinge_trw (s : State) (f : HingeSt → HingeSt) : (s.setHinge f).trw = s.trw := rfl
@[simp] theorem State.setHinge_fabTx (s : State) (f : HingeSt → HingeSt) : (s.setHinge f).fabTx = s.fabTx := rfl
@[simp] theorem State.setHinge_fabRx (s : State) (f : HingeSt → HingeSt) : (s.setHinge f).fabRx = s.fabRx := rfl
@[simp] theorem State.setHinge_timeAsk (s : State) (f : HingeSt → HingeSt) : (s.setHinge f).timeAsk = s.timeAsk := rfl
@[simp] theorem State.setHinge_joined (s : State) (f : HingeSt → HingeSt) : (s.setHinge f).joined = s.joined := rfl
@[simp] theorem State.setHinge_aks (s : State) (f : HingeSt → HingeSt) : (s.setHinge f).aks = s.aks := rfl
@[simp] theorem State.setHinge_slices (s : State) (f : HingeSt → HingeSt) : (s.setHinge f).slices = s.slices := rfl
@[simp] theorem State.setHinge_fns (s : State) (f : HingeSt → HingeSt) : (s.setHinge f).fns = s.fns := rfl
@[simp] theorem State.setHinge_msix (s : State) (f : HingeSt → HingeSt) : (s.setHinge f).msix = s.msix := rfl
@[simp] theorem State.setHinge_hostRds (s : State) (f : HingeSt → HingeSt) : (s.setHinge f).hostRds = s.hostRds := rfl
@[simp] theorem State.setHinge_hostWrs (s : State) (f : HingeSt → HingeSt) : (s.setHinge f).hostWrs = s.hostWrs := rfl
@[simp] theorem State.setHinge_heldRegs (s : State) (f : HingeSt → HingeSt) : (s.setHinge f).heldRegs = s.heldRegs := rfl
@[simp] theorem State.setHinge_slots (s : State) (f : HingeSt → HingeSt) : (s.setHinge f).slots = s.slots := rfl
@[simp] theorem State.setHinge_freezeArm (s : State) (f : HingeSt → HingeSt) : (s.setHinge f).freezeArm = s.freezeArm := rfl
@[simp] theorem State.setHinge_resetting (s : State) (f : HingeSt → HingeSt) : (s.setHinge f).resetting = s.resetting := rfl
@[simp] theorem State.setHinge_caseWait (s : State) (f : HingeSt → HingeSt) : (s.setHinge f).caseWait = s.caseWait := rfl
@[simp] theorem State.setHinge_answers (s : State) (f : HingeSt → HingeSt) : (s.setHinge f).answers = s.answers := rfl
@[simp] theorem State.setHinge_pf1 (s : State) (f : HingeSt → HingeSt) : (s.setHinge f).pf1 = s.pf1 := rfl
@[simp] theorem State.setHinge_pf2 (s : State) (f : HingeSt → HingeSt) : (s.setHinge f).pf2 = s.pf2 := rfl
@[simp] theorem State.setHinge_out (s : State) (f : HingeSt → HingeSt) : (s.setHinge f).out = s.out := rfl
@[simp] theorem State.setHinge_free (s : State) (f : HingeSt → HingeSt) : (s.setHinge f).free = s.free := rfl
@[simp] theorem State.setHinge_pending (s : State) (f : HingeSt → HingeSt) : (s.setHinge f).pending = s.pending := rfl
@[simp] theorem State.setHinge_rd (s : State) (f : HingeSt → HingeSt) (fld : Fld) (a b c : Nat) : (s.setHinge f).rd fld a b c = s.rd fld a b c := rfl
@[simp] theorem State.setHinge_hinge (s : State) (f : HingeSt → HingeSt) : (s.setHinge f).hinge = f s.hinge := rfl

/-! ## State.setSupply -/

@[simp] theorem State.setSupply_clk (s : State) (f : SupplySt → SupplySt) : (s.setSupply f).clk = s.clk := rfl
@[simp] theorem State.setSupply_fuse (s : State) (f : SupplySt → SupplySt) : (s.setSupply f).fuse = s.fuse := rfl
@[simp] theorem State.setSupply_regs (s : State) (f : SupplySt → SupplySt) : (s.setSupply f).regs = s.regs := rfl
@[simp] theorem State.setSupply_half (s : State) (f : SupplySt → SupplySt) : (s.setSupply f).half = s.half := rfl
@[simp] theorem State.setSupply_cfg (s : State) (f : SupplySt → SupplySt) : (s.setSupply f).cfg = s.cfg := rfl
@[simp] theorem State.setSupply_staged (s : State) (f : SupplySt → SupplySt) : (s.setSupply f).staged = s.staged := rfl
@[simp] theorem State.setSupply_board (s : State) (f : SupplySt → SupplySt) : (s.setSupply f).board = s.board := rfl
@[simp] theorem State.setSupply_boot (s : State) (f : SupplySt → SupplySt) : (s.setSupply f).boot = s.boot := rfl
@[simp] theorem State.setSupply_recov (s : State) (f : SupplySt → SupplySt) : (s.setSupply f).recov = s.recov := rfl
@[simp] theorem State.setSupply_doors (s : State) (f : SupplySt → SupplySt) : (s.setSupply f).doors = s.doors := rfl
@[simp] theorem State.setSupply_louvres (s : State) (f : SupplySt → SupplySt) : (s.setSupply f).louvres = s.louvres := rfl
@[simp] theorem State.setSupply_arbs (s : State) (f : SupplySt → SupplySt) : (s.setSupply f).arbs = s.arbs := rfl
@[simp] theorem State.setSupply_pcs (s : State) (f : SupplySt → SupplySt) : (s.setSupply f).pcs = s.pcs := rfl
@[simp] theorem State.setSupply_links (s : State) (f : SupplySt → SupplySt) : (s.setSupply f).links = s.links := rfl
@[simp] theorem State.setSupply_ring (s : State) (f : SupplySt → SupplySt) : (s.setSupply f).ring = s.ring := rfl
@[simp] theorem State.setSupply_mem (s : State) (f : SupplySt → SupplySt) : (s.setSupply f).mem = s.mem := rfl
@[simp] theorem State.setSupply_geom (s : State) (f : SupplySt → SupplySt) : (s.setSupply f).geom = s.geom := rfl
@[simp] theorem State.setSupply_outPane (s : State) (f : SupplySt → SupplySt) : (s.setSupply f).outPane = s.outPane := rfl
@[simp] theorem State.setSupply_outCas (s : State) (f : SupplySt → SupplySt) : (s.setSupply f).outCas = s.outCas := rfl
@[simp] theorem State.setSupply_nextId (s : State) (f : SupplySt → SupplySt) : (s.setSupply f).nextId = s.nextId := rfl
@[simp] theorem State.setSupply_closed (s : State) (f : SupplySt → SupplySt) : (s.setSupply f).closed = s.closed := rfl
@[simp] theorem State.setSupply_fences (s : State) (f : SupplySt → SupplySt) : (s.setSupply f).fences = s.fences := rfl
@[simp] theorem State.setSupply_logs (s : State) (f : SupplySt → SupplySt) : (s.setSupply f).logs = s.logs := rfl
@[simp] theorem State.setSupply_levels (s : State) (f : SupplySt → SupplySt) : (s.setSupply f).levels = s.levels := rfl
@[simp] theorem State.setSupply_leakAt (s : State) (f : SupplySt → SupplySt) : (s.setSupply f).leakAt = s.leakAt := rfl
@[simp] theorem State.setSupply_trims (s : State) (f : SupplySt → SupplySt) : (s.setSupply f).trims = s.trims := rfl
@[simp] theorem State.setSupply_lanes (s : State) (f : SupplySt → SupplySt) : (s.setSupply f).lanes = s.lanes := rfl
@[simp] theorem State.setSupply_therm (s : State) (f : SupplySt → SupplySt) : (s.setSupply f).therm = s.therm := rfl
@[simp] theorem State.setSupply_hinge (s : State) (f : SupplySt → SupplySt) : (s.setSupply f).hinge = s.hinge := rfl
@[simp] theorem State.setSupply_samplers (s : State) (f : SupplySt → SupplySt) : (s.setSupply f).samplers = s.samplers := rfl
@[simp] theorem State.setSupply_tracers (s : State) (f : SupplySt → SupplySt) : (s.setSupply f).tracers = s.tracers := rfl
@[simp] theorem State.setSupply_ports (s : State) (f : SupplySt → SupplySt) : (s.setSupply f).ports = s.ports := rfl
@[simp] theorem State.setSupply_fuseMap (s : State) (f : SupplySt → SupplySt) : (s.setSupply f).fuseMap = s.fuseMap := rfl
@[simp] theorem State.setSupply_spareUsed (s : State) (f : SupplySt → SupplySt) : (s.setSupply f).spareUsed = s.spareUsed := rfl
@[simp] theorem State.setSupply_turns (s : State) (f : SupplySt → SupplySt) : (s.setSupply f).turns = s.turns := rfl
@[simp] theorem State.setSupply_shiftBuf (s : State) (f : SupplySt → SupplySt) : (s.setSupply f).shiftBuf = s.shiftBuf := rfl
@[simp] theorem State.setSupply_queues (s : State) (f : SupplySt → SupplySt) : (s.setSupply f).queues = s.queues := rfl
@[simp] theorem State.setSupply_colls (s : State) (f : SupplySt → SupplySt) : (s.setSupply f).colls = s.colls := rfl
@[simp] theorem State.setSupply_notices (s : State) (f : SupplySt → SupplySt) : (s.setSupply f).notices = s.notices := rfl
@[simp] theorem State.setSupply_deadColls (s : State) (f : SupplySt → SupplySt) : (s.setSupply f).deadColls = s.deadColls := rfl
@[simp] theorem State.setSupply_cores (s : State) (f : SupplySt → SupplySt) : (s.setSupply f).cores = s.cores := rfl
@[simp] theorem State.setSupply_clusters (s : State) (f : SupplySt → SupplySt) : (s.setSupply f).clusters = s.clusters := rfl
@[simp] theorem State.setSupply_kernels (s : State) (f : SupplySt → SupplySt) : (s.setSupply f).kernels = s.kernels := rfl
@[simp] theorem State.setSupply_pools (s : State) (f : SupplySt → SupplySt) : (s.setSupply f).pools = s.pools := rfl
@[simp] theorem State.setSupply_copies (s : State) (f : SupplySt → SupplySt) : (s.setSupply f).copies = s.copies := rfl
@[simp] theorem State.setSupply_pgWaits (s : State) (f : SupplySt → SupplySt) : (s.setSupply f).pgWaits = s.pgWaits := rfl
@[simp] theorem State.setSupply_ptc (s : State) (f : SupplySt → SupplySt) : (s.setSupply f).ptc = s.ptc := rfl
@[simp] theorem State.setSupply_expanders (s : State) (f : SupplySt → SupplySt) : (s.setSupply f).expanders = s.expanders := rfl
@[simp] theorem State.setSupply_trw (s : State) (f : SupplySt → SupplySt) : (s.setSupply f).trw = s.trw := rfl
@[simp] theorem State.setSupply_fabTx (s : State) (f : SupplySt → SupplySt) : (s.setSupply f).fabTx = s.fabTx := rfl
@[simp] theorem State.setSupply_fabRx (s : State) (f : SupplySt → SupplySt) : (s.setSupply f).fabRx = s.fabRx := rfl
@[simp] theorem State.setSupply_timeAsk (s : State) (f : SupplySt → SupplySt) : (s.setSupply f).timeAsk = s.timeAsk := rfl
@[simp] theorem State.setSupply_joined (s : State) (f : SupplySt → SupplySt) : (s.setSupply f).joined = s.joined := rfl
@[simp] theorem State.setSupply_aks (s : State) (f : SupplySt → SupplySt) : (s.setSupply f).aks = s.aks := rfl
@[simp] theorem State.setSupply_slices (s : State) (f : SupplySt → SupplySt) : (s.setSupply f).slices = s.slices := rfl
@[simp] theorem State.setSupply_fns (s : State) (f : SupplySt → SupplySt) : (s.setSupply f).fns = s.fns := rfl
@[simp] theorem State.setSupply_msix (s : State) (f : SupplySt → SupplySt) : (s.setSupply f).msix = s.msix := rfl
@[simp] theorem State.setSupply_hostRds (s : State) (f : SupplySt → SupplySt) : (s.setSupply f).hostRds = s.hostRds := rfl
@[simp] theorem State.setSupply_hostWrs (s : State) (f : SupplySt → SupplySt) : (s.setSupply f).hostWrs = s.hostWrs := rfl
@[simp] theorem State.setSupply_heldRegs (s : State) (f : SupplySt → SupplySt) : (s.setSupply f).heldRegs = s.heldRegs := rfl
@[simp] theorem State.setSupply_slots (s : State) (f : SupplySt → SupplySt) : (s.setSupply f).slots = s.slots := rfl
@[simp] theorem State.setSupply_freezeArm (s : State) (f : SupplySt → SupplySt) : (s.setSupply f).freezeArm = s.freezeArm := rfl
@[simp] theorem State.setSupply_resetting (s : State) (f : SupplySt → SupplySt) : (s.setSupply f).resetting = s.resetting := rfl
@[simp] theorem State.setSupply_caseWait (s : State) (f : SupplySt → SupplySt) : (s.setSupply f).caseWait = s.caseWait := rfl
@[simp] theorem State.setSupply_answers (s : State) (f : SupplySt → SupplySt) : (s.setSupply f).answers = s.answers := rfl
@[simp] theorem State.setSupply_pf1 (s : State) (f : SupplySt → SupplySt) : (s.setSupply f).pf1 = s.pf1 := rfl
@[simp] theorem State.setSupply_pf2 (s : State) (f : SupplySt → SupplySt) : (s.setSupply f).pf2 = s.pf2 := rfl
@[simp] theorem State.setSupply_out (s : State) (f : SupplySt → SupplySt) : (s.setSupply f).out = s.out := rfl
@[simp] theorem State.setSupply_free (s : State) (f : SupplySt → SupplySt) : (s.setSupply f).free = s.free := rfl
@[simp] theorem State.setSupply_pending (s : State) (f : SupplySt → SupplySt) : (s.setSupply f).pending = s.pending := rfl
@[simp] theorem State.setSupply_rd (s : State) (f : SupplySt → SupplySt) (fld : Fld) (a b c : Nat) : (s.setSupply f).rd fld a b c = s.rd fld a b c := rfl
@[simp] theorem State.setSupply_supply (s : State) (f : SupplySt → SupplySt) : (s.setSupply f).supply = f s.supply := rfl

/-! ## State.setBoard -/

@[simp] theorem State.setBoard_clk (s : State) (f : BoardSt → BoardSt) : (s.setBoard f).clk = s.clk := rfl
@[simp] theorem State.setBoard_fuse (s : State) (f : BoardSt → BoardSt) : (s.setBoard f).fuse = s.fuse := rfl
@[simp] theorem State.setBoard_regs (s : State) (f : BoardSt → BoardSt) : (s.setBoard f).regs = s.regs := rfl
@[simp] theorem State.setBoard_half (s : State) (f : BoardSt → BoardSt) : (s.setBoard f).half = s.half := rfl
@[simp] theorem State.setBoard_cfg (s : State) (f : BoardSt → BoardSt) : (s.setBoard f).cfg = s.cfg := rfl
@[simp] theorem State.setBoard_staged (s : State) (f : BoardSt → BoardSt) : (s.setBoard f).staged = s.staged := rfl
@[simp] theorem State.setBoard_supply (s : State) (f : BoardSt → BoardSt) : (s.setBoard f).supply = s.supply := rfl
@[simp] theorem State.setBoard_boot (s : State) (f : BoardSt → BoardSt) : (s.setBoard f).boot = s.boot := rfl
@[simp] theorem State.setBoard_recov (s : State) (f : BoardSt → BoardSt) : (s.setBoard f).recov = s.recov := rfl
@[simp] theorem State.setBoard_doors (s : State) (f : BoardSt → BoardSt) : (s.setBoard f).doors = s.doors := rfl
@[simp] theorem State.setBoard_louvres (s : State) (f : BoardSt → BoardSt) : (s.setBoard f).louvres = s.louvres := rfl
@[simp] theorem State.setBoard_arbs (s : State) (f : BoardSt → BoardSt) : (s.setBoard f).arbs = s.arbs := rfl
@[simp] theorem State.setBoard_pcs (s : State) (f : BoardSt → BoardSt) : (s.setBoard f).pcs = s.pcs := rfl
@[simp] theorem State.setBoard_links (s : State) (f : BoardSt → BoardSt) : (s.setBoard f).links = s.links := rfl
@[simp] theorem State.setBoard_ring (s : State) (f : BoardSt → BoardSt) : (s.setBoard f).ring = s.ring := rfl
@[simp] theorem State.setBoard_mem (s : State) (f : BoardSt → BoardSt) : (s.setBoard f).mem = s.mem := rfl
@[simp] theorem State.setBoard_geom (s : State) (f : BoardSt → BoardSt) : (s.setBoard f).geom = s.geom := rfl
@[simp] theorem State.setBoard_outPane (s : State) (f : BoardSt → BoardSt) : (s.setBoard f).outPane = s.outPane := rfl
@[simp] theorem State.setBoard_outCas (s : State) (f : BoardSt → BoardSt) : (s.setBoard f).outCas = s.outCas := rfl
@[simp] theorem State.setBoard_nextId (s : State) (f : BoardSt → BoardSt) : (s.setBoard f).nextId = s.nextId := rfl
@[simp] theorem State.setBoard_closed (s : State) (f : BoardSt → BoardSt) : (s.setBoard f).closed = s.closed := rfl
@[simp] theorem State.setBoard_fences (s : State) (f : BoardSt → BoardSt) : (s.setBoard f).fences = s.fences := rfl
@[simp] theorem State.setBoard_logs (s : State) (f : BoardSt → BoardSt) : (s.setBoard f).logs = s.logs := rfl
@[simp] theorem State.setBoard_levels (s : State) (f : BoardSt → BoardSt) : (s.setBoard f).levels = s.levels := rfl
@[simp] theorem State.setBoard_leakAt (s : State) (f : BoardSt → BoardSt) : (s.setBoard f).leakAt = s.leakAt := rfl
@[simp] theorem State.setBoard_trims (s : State) (f : BoardSt → BoardSt) : (s.setBoard f).trims = s.trims := rfl
@[simp] theorem State.setBoard_lanes (s : State) (f : BoardSt → BoardSt) : (s.setBoard f).lanes = s.lanes := rfl
@[simp] theorem State.setBoard_therm (s : State) (f : BoardSt → BoardSt) : (s.setBoard f).therm = s.therm := rfl
@[simp] theorem State.setBoard_hinge (s : State) (f : BoardSt → BoardSt) : (s.setBoard f).hinge = s.hinge := rfl
@[simp] theorem State.setBoard_samplers (s : State) (f : BoardSt → BoardSt) : (s.setBoard f).samplers = s.samplers := rfl
@[simp] theorem State.setBoard_tracers (s : State) (f : BoardSt → BoardSt) : (s.setBoard f).tracers = s.tracers := rfl
@[simp] theorem State.setBoard_ports (s : State) (f : BoardSt → BoardSt) : (s.setBoard f).ports = s.ports := rfl
@[simp] theorem State.setBoard_fuseMap (s : State) (f : BoardSt → BoardSt) : (s.setBoard f).fuseMap = s.fuseMap := rfl
@[simp] theorem State.setBoard_spareUsed (s : State) (f : BoardSt → BoardSt) : (s.setBoard f).spareUsed = s.spareUsed := rfl
@[simp] theorem State.setBoard_turns (s : State) (f : BoardSt → BoardSt) : (s.setBoard f).turns = s.turns := rfl
@[simp] theorem State.setBoard_shiftBuf (s : State) (f : BoardSt → BoardSt) : (s.setBoard f).shiftBuf = s.shiftBuf := rfl
@[simp] theorem State.setBoard_queues (s : State) (f : BoardSt → BoardSt) : (s.setBoard f).queues = s.queues := rfl
@[simp] theorem State.setBoard_colls (s : State) (f : BoardSt → BoardSt) : (s.setBoard f).colls = s.colls := rfl
@[simp] theorem State.setBoard_notices (s : State) (f : BoardSt → BoardSt) : (s.setBoard f).notices = s.notices := rfl
@[simp] theorem State.setBoard_deadColls (s : State) (f : BoardSt → BoardSt) : (s.setBoard f).deadColls = s.deadColls := rfl
@[simp] theorem State.setBoard_cores (s : State) (f : BoardSt → BoardSt) : (s.setBoard f).cores = s.cores := rfl
@[simp] theorem State.setBoard_clusters (s : State) (f : BoardSt → BoardSt) : (s.setBoard f).clusters = s.clusters := rfl
@[simp] theorem State.setBoard_kernels (s : State) (f : BoardSt → BoardSt) : (s.setBoard f).kernels = s.kernels := rfl
@[simp] theorem State.setBoard_pools (s : State) (f : BoardSt → BoardSt) : (s.setBoard f).pools = s.pools := rfl
@[simp] theorem State.setBoard_copies (s : State) (f : BoardSt → BoardSt) : (s.setBoard f).copies = s.copies := rfl
@[simp] theorem State.setBoard_pgWaits (s : State) (f : BoardSt → BoardSt) : (s.setBoard f).pgWaits = s.pgWaits := rfl
@[simp] theorem State.setBoard_ptc (s : State) (f : BoardSt → BoardSt) : (s.setBoard f).ptc = s.ptc := rfl
@[simp] theorem State.setBoard_expanders (s : State) (f : BoardSt → BoardSt) : (s.setBoard f).expanders = s.expanders := rfl
@[simp] theorem State.setBoard_trw (s : State) (f : BoardSt → BoardSt) : (s.setBoard f).trw = s.trw := rfl
@[simp] theorem State.setBoard_fabTx (s : State) (f : BoardSt → BoardSt) : (s.setBoard f).fabTx = s.fabTx := rfl
@[simp] theorem State.setBoard_fabRx (s : State) (f : BoardSt → BoardSt) : (s.setBoard f).fabRx = s.fabRx := rfl
@[simp] theorem State.setBoard_timeAsk (s : State) (f : BoardSt → BoardSt) : (s.setBoard f).timeAsk = s.timeAsk := rfl
@[simp] theorem State.setBoard_joined (s : State) (f : BoardSt → BoardSt) : (s.setBoard f).joined = s.joined := rfl
@[simp] theorem State.setBoard_aks (s : State) (f : BoardSt → BoardSt) : (s.setBoard f).aks = s.aks := rfl
@[simp] theorem State.setBoard_slices (s : State) (f : BoardSt → BoardSt) : (s.setBoard f).slices = s.slices := rfl
@[simp] theorem State.setBoard_fns (s : State) (f : BoardSt → BoardSt) : (s.setBoard f).fns = s.fns := rfl
@[simp] theorem State.setBoard_msix (s : State) (f : BoardSt → BoardSt) : (s.setBoard f).msix = s.msix := rfl
@[simp] theorem State.setBoard_hostRds (s : State) (f : BoardSt → BoardSt) : (s.setBoard f).hostRds = s.hostRds := rfl
@[simp] theorem State.setBoard_hostWrs (s : State) (f : BoardSt → BoardSt) : (s.setBoard f).hostWrs = s.hostWrs := rfl
@[simp] theorem State.setBoard_heldRegs (s : State) (f : BoardSt → BoardSt) : (s.setBoard f).heldRegs = s.heldRegs := rfl
@[simp] theorem State.setBoard_slots (s : State) (f : BoardSt → BoardSt) : (s.setBoard f).slots = s.slots := rfl
@[simp] theorem State.setBoard_freezeArm (s : State) (f : BoardSt → BoardSt) : (s.setBoard f).freezeArm = s.freezeArm := rfl
@[simp] theorem State.setBoard_resetting (s : State) (f : BoardSt → BoardSt) : (s.setBoard f).resetting = s.resetting := rfl
@[simp] theorem State.setBoard_caseWait (s : State) (f : BoardSt → BoardSt) : (s.setBoard f).caseWait = s.caseWait := rfl
@[simp] theorem State.setBoard_answers (s : State) (f : BoardSt → BoardSt) : (s.setBoard f).answers = s.answers := rfl
@[simp] theorem State.setBoard_pf1 (s : State) (f : BoardSt → BoardSt) : (s.setBoard f).pf1 = s.pf1 := rfl
@[simp] theorem State.setBoard_pf2 (s : State) (f : BoardSt → BoardSt) : (s.setBoard f).pf2 = s.pf2 := rfl
@[simp] theorem State.setBoard_out (s : State) (f : BoardSt → BoardSt) : (s.setBoard f).out = s.out := rfl
@[simp] theorem State.setBoard_free (s : State) (f : BoardSt → BoardSt) : (s.setBoard f).free = s.free := rfl
@[simp] theorem State.setBoard_pending (s : State) (f : BoardSt → BoardSt) : (s.setBoard f).pending = s.pending := rfl
@[simp] theorem State.setBoard_rd (s : State) (f : BoardSt → BoardSt) (fld : Fld) (a b c : Nat) : (s.setBoard f).rd fld a b c = s.rd fld a b c := rfl
@[simp] theorem State.setBoard_board (s : State) (f : BoardSt → BoardSt) : (s.setBoard f).board = f s.board := rfl

/-! ## State.setBoot -/

@[simp] theorem State.setBoot_clk (s : State) (f : BootSt → BootSt) : (s.setBoot f).clk = s.clk := rfl
@[simp] theorem State.setBoot_fuse (s : State) (f : BootSt → BootSt) : (s.setBoot f).fuse = s.fuse := rfl
@[simp] theorem State.setBoot_regs (s : State) (f : BootSt → BootSt) : (s.setBoot f).regs = s.regs := rfl
@[simp] theorem State.setBoot_half (s : State) (f : BootSt → BootSt) : (s.setBoot f).half = s.half := rfl
@[simp] theorem State.setBoot_cfg (s : State) (f : BootSt → BootSt) : (s.setBoot f).cfg = s.cfg := rfl
@[simp] theorem State.setBoot_staged (s : State) (f : BootSt → BootSt) : (s.setBoot f).staged = s.staged := rfl
@[simp] theorem State.setBoot_board (s : State) (f : BootSt → BootSt) : (s.setBoot f).board = s.board := rfl
@[simp] theorem State.setBoot_supply (s : State) (f : BootSt → BootSt) : (s.setBoot f).supply = s.supply := rfl
@[simp] theorem State.setBoot_recov (s : State) (f : BootSt → BootSt) : (s.setBoot f).recov = s.recov := rfl
@[simp] theorem State.setBoot_doors (s : State) (f : BootSt → BootSt) : (s.setBoot f).doors = s.doors := rfl
@[simp] theorem State.setBoot_louvres (s : State) (f : BootSt → BootSt) : (s.setBoot f).louvres = s.louvres := rfl
@[simp] theorem State.setBoot_arbs (s : State) (f : BootSt → BootSt) : (s.setBoot f).arbs = s.arbs := rfl
@[simp] theorem State.setBoot_pcs (s : State) (f : BootSt → BootSt) : (s.setBoot f).pcs = s.pcs := rfl
@[simp] theorem State.setBoot_links (s : State) (f : BootSt → BootSt) : (s.setBoot f).links = s.links := rfl
@[simp] theorem State.setBoot_ring (s : State) (f : BootSt → BootSt) : (s.setBoot f).ring = s.ring := rfl
@[simp] theorem State.setBoot_mem (s : State) (f : BootSt → BootSt) : (s.setBoot f).mem = s.mem := rfl
@[simp] theorem State.setBoot_geom (s : State) (f : BootSt → BootSt) : (s.setBoot f).geom = s.geom := rfl
@[simp] theorem State.setBoot_outPane (s : State) (f : BootSt → BootSt) : (s.setBoot f).outPane = s.outPane := rfl
@[simp] theorem State.setBoot_outCas (s : State) (f : BootSt → BootSt) : (s.setBoot f).outCas = s.outCas := rfl
@[simp] theorem State.setBoot_nextId (s : State) (f : BootSt → BootSt) : (s.setBoot f).nextId = s.nextId := rfl
@[simp] theorem State.setBoot_closed (s : State) (f : BootSt → BootSt) : (s.setBoot f).closed = s.closed := rfl
@[simp] theorem State.setBoot_fences (s : State) (f : BootSt → BootSt) : (s.setBoot f).fences = s.fences := rfl
@[simp] theorem State.setBoot_logs (s : State) (f : BootSt → BootSt) : (s.setBoot f).logs = s.logs := rfl
@[simp] theorem State.setBoot_levels (s : State) (f : BootSt → BootSt) : (s.setBoot f).levels = s.levels := rfl
@[simp] theorem State.setBoot_leakAt (s : State) (f : BootSt → BootSt) : (s.setBoot f).leakAt = s.leakAt := rfl
@[simp] theorem State.setBoot_trims (s : State) (f : BootSt → BootSt) : (s.setBoot f).trims = s.trims := rfl
@[simp] theorem State.setBoot_lanes (s : State) (f : BootSt → BootSt) : (s.setBoot f).lanes = s.lanes := rfl
@[simp] theorem State.setBoot_therm (s : State) (f : BootSt → BootSt) : (s.setBoot f).therm = s.therm := rfl
@[simp] theorem State.setBoot_hinge (s : State) (f : BootSt → BootSt) : (s.setBoot f).hinge = s.hinge := rfl
@[simp] theorem State.setBoot_samplers (s : State) (f : BootSt → BootSt) : (s.setBoot f).samplers = s.samplers := rfl
@[simp] theorem State.setBoot_tracers (s : State) (f : BootSt → BootSt) : (s.setBoot f).tracers = s.tracers := rfl
@[simp] theorem State.setBoot_ports (s : State) (f : BootSt → BootSt) : (s.setBoot f).ports = s.ports := rfl
@[simp] theorem State.setBoot_fuseMap (s : State) (f : BootSt → BootSt) : (s.setBoot f).fuseMap = s.fuseMap := rfl
@[simp] theorem State.setBoot_spareUsed (s : State) (f : BootSt → BootSt) : (s.setBoot f).spareUsed = s.spareUsed := rfl
@[simp] theorem State.setBoot_turns (s : State) (f : BootSt → BootSt) : (s.setBoot f).turns = s.turns := rfl
@[simp] theorem State.setBoot_shiftBuf (s : State) (f : BootSt → BootSt) : (s.setBoot f).shiftBuf = s.shiftBuf := rfl
@[simp] theorem State.setBoot_queues (s : State) (f : BootSt → BootSt) : (s.setBoot f).queues = s.queues := rfl
@[simp] theorem State.setBoot_colls (s : State) (f : BootSt → BootSt) : (s.setBoot f).colls = s.colls := rfl
@[simp] theorem State.setBoot_notices (s : State) (f : BootSt → BootSt) : (s.setBoot f).notices = s.notices := rfl
@[simp] theorem State.setBoot_deadColls (s : State) (f : BootSt → BootSt) : (s.setBoot f).deadColls = s.deadColls := rfl
@[simp] theorem State.setBoot_cores (s : State) (f : BootSt → BootSt) : (s.setBoot f).cores = s.cores := rfl
@[simp] theorem State.setBoot_clusters (s : State) (f : BootSt → BootSt) : (s.setBoot f).clusters = s.clusters := rfl
@[simp] theorem State.setBoot_kernels (s : State) (f : BootSt → BootSt) : (s.setBoot f).kernels = s.kernels := rfl
@[simp] theorem State.setBoot_pools (s : State) (f : BootSt → BootSt) : (s.setBoot f).pools = s.pools := rfl
@[simp] theorem State.setBoot_copies (s : State) (f : BootSt → BootSt) : (s.setBoot f).copies = s.copies := rfl
@[simp] theorem State.setBoot_pgWaits (s : State) (f : BootSt → BootSt) : (s.setBoot f).pgWaits = s.pgWaits := rfl
@[simp] theorem State.setBoot_ptc (s : State) (f : BootSt → BootSt) : (s.setBoot f).ptc = s.ptc := rfl
@[simp] theorem State.setBoot_expanders (s : State) (f : BootSt → BootSt) : (s.setBoot f).expanders = s.expanders := rfl
@[simp] theorem State.setBoot_trw (s : State) (f : BootSt → BootSt) : (s.setBoot f).trw = s.trw := rfl
@[simp] theorem State.setBoot_fabTx (s : State) (f : BootSt → BootSt) : (s.setBoot f).fabTx = s.fabTx := rfl
@[simp] theorem State.setBoot_fabRx (s : State) (f : BootSt → BootSt) : (s.setBoot f).fabRx = s.fabRx := rfl
@[simp] theorem State.setBoot_timeAsk (s : State) (f : BootSt → BootSt) : (s.setBoot f).timeAsk = s.timeAsk := rfl
@[simp] theorem State.setBoot_joined (s : State) (f : BootSt → BootSt) : (s.setBoot f).joined = s.joined := rfl
@[simp] theorem State.setBoot_aks (s : State) (f : BootSt → BootSt) : (s.setBoot f).aks = s.aks := rfl
@[simp] theorem State.setBoot_slices (s : State) (f : BootSt → BootSt) : (s.setBoot f).slices = s.slices := rfl
@[simp] theorem State.setBoot_fns (s : State) (f : BootSt → BootSt) : (s.setBoot f).fns = s.fns := rfl
@[simp] theorem State.setBoot_msix (s : State) (f : BootSt → BootSt) : (s.setBoot f).msix = s.msix := rfl
@[simp] theorem State.setBoot_hostRds (s : State) (f : BootSt → BootSt) : (s.setBoot f).hostRds = s.hostRds := rfl
@[simp] theorem State.setBoot_hostWrs (s : State) (f : BootSt → BootSt) : (s.setBoot f).hostWrs = s.hostWrs := rfl
@[simp] theorem State.setBoot_heldRegs (s : State) (f : BootSt → BootSt) : (s.setBoot f).heldRegs = s.heldRegs := rfl
@[simp] theorem State.setBoot_slots (s : State) (f : BootSt → BootSt) : (s.setBoot f).slots = s.slots := rfl
@[simp] theorem State.setBoot_freezeArm (s : State) (f : BootSt → BootSt) : (s.setBoot f).freezeArm = s.freezeArm := rfl
@[simp] theorem State.setBoot_resetting (s : State) (f : BootSt → BootSt) : (s.setBoot f).resetting = s.resetting := rfl
@[simp] theorem State.setBoot_caseWait (s : State) (f : BootSt → BootSt) : (s.setBoot f).caseWait = s.caseWait := rfl
@[simp] theorem State.setBoot_answers (s : State) (f : BootSt → BootSt) : (s.setBoot f).answers = s.answers := rfl
@[simp] theorem State.setBoot_pf1 (s : State) (f : BootSt → BootSt) : (s.setBoot f).pf1 = s.pf1 := rfl
@[simp] theorem State.setBoot_pf2 (s : State) (f : BootSt → BootSt) : (s.setBoot f).pf2 = s.pf2 := rfl
@[simp] theorem State.setBoot_out (s : State) (f : BootSt → BootSt) : (s.setBoot f).out = s.out := rfl
@[simp] theorem State.setBoot_free (s : State) (f : BootSt → BootSt) : (s.setBoot f).free = s.free := rfl
@[simp] theorem State.setBoot_pending (s : State) (f : BootSt → BootSt) : (s.setBoot f).pending = s.pending := rfl
@[simp] theorem State.setBoot_rd (s : State) (f : BootSt → BootSt) (fld : Fld) (a b c : Nat) : (s.setBoot f).rd fld a b c = s.rd fld a b c := rfl
@[simp] theorem State.setBoot_boot (s : State) (f : BootSt → BootSt) : (s.setBoot f).boot = f s.boot := rfl

/-! ## Registers -/

theorem regFind_regErase_ne {l : List (FKey × Nat)} {k k' : FKey} (h : k ≠ k') : regFind (regErase l k) k' = regFind l k' := by
  induction l with
  | nil => rfl
  | cons x t ih =>
    simp only [regErase, regFind]
    split
    · next e => rw [ih, if_neg (by rw [e]; exact h)]
    · simp only [regFind, ih]

/-- A field reads what was written to it. -/
@[simp] theorem State.rd_wr_self (s : State) (f : Fld) (d i j v : Nat) : (s.wr f d i j v).rd f d i j = v := by
  simp [State.rd, State.wr, regFind]

/-- A write leaves every other field as it was. -/
theorem State.rd_wr_ne (s : State) {f g : Fld} {d i j v e k m : Nat} (h : (⟨f, d, i, j⟩ : FKey) ≠ ⟨g, e, k, m⟩) :
    (s.wr f d i j v).rd g e k m = s.rd g e k m := by
  simp only [State.rd, State.wr, regFind, if_neg h]
  exact regFind_regErase_ne h

/-- A write leaves the fields of other names as they were. -/
theorem State.rd_wr_fld (s : State) {f g : Fld} {d i j v e k m : Nat} (h : f ≠ g) : (s.wr f d i j v).rd g e k m = s.rd g e k m :=
  s.rd_wr_ne fun e => h (congrArg FKey.f e)

/-- Read after write, as one equation. -/
theorem State.rd_wr (s : State) (f g : Fld) (d i j v e k m : Nat) :
    (s.wr f d i j v).rd g e k m = if f = g ∧ d = e ∧ i = k ∧ j = m then v else s.rd g e k m := by
  split
  · next h => obtain ⟨rfl, rfl, rfl, rfl⟩ := h; simp
  · next h => exact s.rd_wr_ne fun e => h (by injection e; simp [*])

end Sys2Proof.Machine
end

