-- ==== Sys2Proof/Laws/Settle.lean ====
section
/-! SUPPORT. What the end of a step does: nothing, on a package with nothing under way. -/

namespace Sys2Proof.Machine

theorem sweepColls_of_nil {s : State} (h : s.colls = []) : s.sweepColls = s := by
  have e1 : s.fabRx.filter (fun _ => true) = s.fabRx := List.filter_eq_self.mpr fun _ _ => rfl
  have e2 : s.deadColls.filter (fun _ => true) = s.deadColls := List.filter_eq_self.mpr fun _ _ => rfl
  unfold State.sweepColls
  simp only [h, List.filter_nil, List.map_nil, List.contains_nil, Bool.and_false, Bool.not_false, List.append_nil, e1, e2]
  rw [← h]

theorem pump_of_idle {s : State} (hq : s.queues = []) (hc : s.colls = []) (hx : s.expanders = [])
    (hp : (s.pools.all fun x => x.2.held.isEmpty) = true) : s.pump = s := by
  have hb : ∀ e, s.busyQueues e = [] := fun e => by simp [State.busyQueues, hq]
  have hh : s.pools.filter (fun x => !x.2.held.isEmpty) = [] := by
    simp only [List.filter_eq_nil_iff, Bool.not_eq_true', Bool.not_eq_false]
    exact fun x hx => List.all_eq_true.mp hp x hx
  have hk : ∀ d, (if s.expanders.any (fun x => x.1 / 8 == d) then s.expKickAll d else s) = s := fun d => by simp [hx]
  unfold State.pump
  simp only [hb, List.foldl_nil, hc, sweepColls_of_nil hc, hh, List.isEmpty_nil, if_true, allDies, List.foldl_cons, hk]

theorem hostCut_of_idle {s : State} (hr : s.hostRds = []) (hw : s.hostWrs = []) (hh : s.heldRegs = []) : s.hostCut = s := by
  have e1 : ({ s with hostRds := [], hostWrs := [], heldRegs := [] } : State) = s := by rw [← hr, ← hw, ← hh]
  have e2 : ({ s with hostWrs := [] } : State) = s := by rw [← hw]
  unfold State.hostCut
  rw [e1, e2, hr]
  simp

theorem hostPump_of_idle {s : State} (hr : s.hostRds = []) (hw : s.hostWrs = []) : s.hostPump = s := by
  simp [State.hostPump, hr, hw]

theorem settle_of_idle {s : State} (h : s.Idle) : s.settle = s := by
  obtain ⟨ha, hq, hc, hx, hr, hw, hh, hp⟩ := h
  have e : ({ s with answers := [] } : State) = s := by rw [← ha]
  unfold State.settle
  rw [e, ha]
  simp only [State.deliverAll, pump_of_idle hq hc hx hp, hostCut_of_idle hr hw hh, hostPump_of_idle hr hw]

/-- On a package with nothing under way the end of a step changes nothing. -/
theorem done_of_idle {s : State} (h : s.Idle) : s.done = s := by
  have hh : s.heldRegs = [] := h.2.2.2.2.2.2.1
  unfold State.done
  rw [settle_of_idle h]
  unfold State.replayHeld
  rw [hh, List.foldl_nil, ← hh]

/-- What keeps the seven lists and the pools keeps the package idle. -/
theorem idle_of_eq {s t : State} (h : s.Idle) (ha : t.answers = s.answers) (hq : t.queues = s.queues) (hc : t.colls = s.colls)
    (hx : t.expanders = s.expanders) (hr : t.hostRds = s.hostRds) (hw : t.hostWrs = s.hostWrs) (hh : t.heldRegs = s.heldRegs)
    (hp : t.pools = s.pools) : t.Idle := by
  obtain ⟨a, q, c, x, r, w, g, p⟩ := h
  exact ⟨ha ▸ a, hq ▸ q, hc ▸ c, hx ▸ x, hr ▸ r, hw ▸ w, hh ▸ g, hp ▸ p⟩

/-- A command whose effect keeps the seven lists and the pools of an idle package answers that effect. -/
theorem done_of_eq {s t : State} (h : s.Idle) (ha : t.answers = s.answers) (hq : t.queues = s.queues) (hc : t.colls = s.colls)
    (hx : t.expanders = s.expanders) (hr : t.hostRds = s.hostRds) (hw : t.hostWrs = s.hostWrs) (hh : t.heldRegs = s.heldRegs)
    (hp : t.pools = s.pools) : t.done = t :=
  done_of_idle (idle_of_eq h ha hq hc hx hr hw hh hp)

end Sys2Proof.Machine
end

