-- ==== Sys2Proof/Tests/Slice0.lean ====
section
/-! SUPPORT. Tests: each check of well-formedness refuses an ill-formed term; single steps on small states; and for every statement a state and operands that meet its hypotheses together (names wit_<statement>_<clause>). -/

open Sys2Proof Sys2Proof.Machine

namespace Sys2Proof.Tests

set_option Elab.async false

/-! ## Well-formedness refuses -/

/-- A lane whose eyes are wide enough for every step of R228. -/
def wEye (l : Nat) : LaneEye := { lane := l, delayLo := 0, delayHi := 60, vrefLo := 0, vrefHi := 30, wLo := 0, wHi := 60, wvLo := 0, wvHi := 30, margin := 0 }

def ak : AkReq := { mtype := 0, cls := 1, cas := 0, srcTag := 0, tag := 0, masked := false, pool := 0, block := 0, uc := false, addr := 0, mask := 0, lpage := 0, data := 0 }
def akR : AkRsp := { mtype := 4, status := .done, srcTag := 0, tag := 0, poison := 0, pkind := 0, data := 0 }
def pk : Packet := blankPacket
def bar4 (off width : Nat) : Access := { bar := .bar4, fn := 0, off := off, width := width }
def moveQ (n : Fin 32) : QueueId := { engine := .move, inst := 0, idx := n }

theorem test_wf_accepts : (Instr.registerWrite (bar4 0x3FFFF 8) 0).wf = true ∧ (Instr.rdBlk 0 ak).wf = true ∧ (Instr.rdRsp 0 akR).wf = true ∧
    (Instr.route 0 pk).wf = true ∧ (Instr.queueDb (moveQ 15) 0).wf = true ∧ (Instr.bar2Read 0 (2 ^ 36 - 8) 8).wf = true ∧
    (Instr.configurationRequest 0 4092 none).wf = true := by decide

theorem test_wf_access_width : (Instr.registerWrite (bar4 0 9) 0).wf = false ∧ (Instr.registerRead (bar4 0 0)).wf = false ∧
    (Instr.halfRead (bar4 0 9)).wf = false ∧ (Instr.counterRead (bar4 0 0)).wf = false := by decide

theorem test_wf_access_offset : (Instr.registerRead (bar4 0x40000 8)).wf = false ∧ (Instr.registerRead { bar := .bar0, fn := 1, off := 0x10000, width := 4 }).wf = false := by decide

theorem test_wf_eye : ∀ e ∈ [{ wEye 58 with wHi := 0 }, { wEye 0 with delayLo := 128 }, { wEye 0 with delayHi := 128 }, { wEye 0 with vrefLo := 128 }, { wEye 0 with vrefHi := 128 },
    { wEye 0 with wLo := 128 }, { wEye 0 with wHi := 128 }, { wEye 0 with wvLo := 128 }, { wEye 0 with wvHi := 128 }],
    let t : PcTraining := { hub := 0, pc := 0, eyes := [e], again := [] }
    (Instr.training [t]).wf = false ∧ (Instr.training [{ t with eyes := [], again := [e] }]).wf = false ∧ (Instr.selfRefreshExitCheck [] { first := [], found := [t], second := [] }).wf = false ∧
    (Instr.compareDone 0 0 { errs := [], eyes := [e] }).wf = false := by decide

theorem test_wf_move : let m : LaneMove := { lane := 36, read := 0, write := 0 }
    let r : PauseRes := { hub := 0, pc := 0, moves := [m], err := false }
    (Instr.retrainPauseEnd 0 0 [m] false).wf = false ∧ (Instr.hingeRelease [{ hub := 0, pc := 0, moves := [m] }] []).wf = false ∧
    (Instr.selfRefreshExitCheck [] { first := [r], found := [], second := [] }).wf = false ∧
    (Instr.selfRefreshExitCheck [] { first := [], found := [], second := [r] }).wf = false := by decide

theorem test_wf_errors : (Instr.readReturn 0 0 [[(36, 1)]]).wf = false ∧ (Instr.merge 0 0 [[(36, 1)]]).wf = false := by decide

theorem test_wf_packet : ∀ p ∈ [{ pk with dest := 2 ^ 17 }, { pk with src := 2 ^ 17 }, { pk with cas := 32 }, { pk with cls := 5 }, { pk with tag := 2 ^ 13 }, { pk with addr := 2 ^ 48 },
    { pk with mclass := 16 }, { pk with flits := 5 }, { pk with set := 16 }, { pk with status := 256 }, { pk with step := 16 }],
    (Instr.timePacket p).wf = false ∧ (Instr.route 0 p).wf = false ∧ (Instr.rdreq 0 0 p).wf = false ∧ (Instr.wrreq 0 0 p).wf = false ∧ (Instr.rdrsp 0 p).wf = false ∧
    (Instr.wrack 0 p).wf = false ∧ (Instr.coll 0 p).wf = false ∧ (Instr.collReady 0 p).wf = false ∧ (Instr.stall 0 p).wf = false := by decide

theorem test_wf_aksal_request : ∀ m ∈ [{ ak with cls := 5 }, { ak with cas := 32 }, { ak with srcTag := 2 ^ 15 }, { ak with tag := 256 }, { ak with addr := 2 ^ 48 }, { ak with pool := 16 },
    { ak with block := 256 }, { ak with lpage := 2 ^ 32 }, { ak with mtype := 16 }],
    (Instr.rdBlk 0 m).wf = false ∧ (Instr.rdSec 0 m).wf = false ∧ (Instr.wrBlk 0 m).wf = false ∧ (Instr.wrSec 0 m).wf = false ∧ (Instr.pgRd 0 m).wf = false := by decide

theorem test_wf_aksal_response : ∀ m ∈ [{ akR with srcTag := 2 ^ 15 }, { akR with tag := 256 }, { akR with poison := 256 }, { akR with pkind := 256 }, { akR with mtype := 16 }],
    (Instr.rdRsp 0 m).wf = false ∧ (Instr.wrRsp 0 m).wf = false := by decide

theorem test_wf_host : (Instr.bar2Read 0 0 0).wf = false ∧ (Instr.bar2Read 0 0 4097).wf = false ∧ (Instr.bar2Read 0 (2 ^ 36 - 7) 8).wf = false ∧ (Instr.bar2Write 0 0 []).wf = false ∧
    (Instr.bar2Write 0 (2 ^ 36) [0]).wf = false ∧ (Instr.configurationRequest 0 4096 none).wf = false ∧ (Instr.configurationRequest 0 2 none).wf = false := by decide

theorem test_wf_pages_and_queues : (Instr.fetchDone 0 0 (2 ^ 32) []).wf = false ∧ (Instr.queueDb (moveQ 16) 0).wf = false ∧ (Instr.queueCplDb (moveQ 16) 0).wf = false ∧
    (Instr.commandFetch (moveQ 16)).wf = false ∧ (Instr.completionRecord (moveQ 16)).wf = false := by decide

/-- The table gives no row bits (R13 lists names), so no word spells a command. -/
theorem test_no_word_spells_a_command : ∀ n w : Nat, decodeTableWord n w = none := by intros; rfl

/-! ## Single steps -/

def field (o : Host.Outcome State Fault Refusal) (f : Fld) : Option Nat :=
  match o with
  | .next t => some (t.rd f 0 0 0)
  | _ => none

/-- BUS_SAMPLE of 39.0 V keeps the least value (R60). -/
theorem test_bus_sample : field (exec (.busSample 390) State.reset) .SVC_BUS_VOLT_MIN = some 390 := by decide +kernel

/-- RATE of STRAP_SLEW 2 is 8 A (R66). -/
theorem test_strap_slew : field (exec (.pkgRstN true { boot := 0, slew := 2, i3cAddr := 0 }) State.reset) .SVC_SLEW_LIMIT_RATE = some 8 := by decide +kernel

/-- An empty queue lets one tick of TIME64 pass while CCLK stands (log entry 1). -/
theorem test_idle_tick : (match step State.reset with | .next t => some t.now | _ => none) = some 1 := by decide +kernel

/-- 1 + 1 is 2 in fp32, and the tie 1 + 2^-24 rounds to even (R299). -/
theorem test_add32 : add32 0x3F800000 0x3F800000 = 0x40000000 ∧ add32 0x3F800000 0x33800000 = 0x3F800000 := by decide +kernel

/-! ## States that meet the hypotheses -/

/-- A package that runs: CCLK on, bring-up complete, every board signal good, 10 s after power-up. -/
def wRun : State :=
  { State.reset with
    clk := { State.reset.clk with run := true, t64 := 1000000000, cclk := 5000, kclk := 5000, fclk := 5000 }
    boot := { State.reset.boot with stage := .running, cleared := true }
    board := { State.reset.board with kaPg := true, pwrGood := true, pkgRst := true } }

/-- Every door of every hub unmasked. -/
def wDoorsUp : Tab DoorSt := (List.range 36).map fun k => (doorKey (k / 9) (k % 9), { DoorSt.reset with masked := false })

/-- A package in a cold bring-up, in phase n. -/
def wUp (n : Nat) : State :=
  (({ wRun with boot := { wRun.boot with stage := .bringUp, cleared := false } } : State).wr .SVC_BOOT_STATUS_PHASE 0 0 0 n).wr .SVC_CLK_STATUS_PLL_LOCK 0 0 0 511

/-- A running package with a configuration of the frames given. -/
def wCfg (fs : List FrameBody) : State :=
  { wRun with cfg := some { id := 1, rollback := 3, frames := fs.map fun b => { target := 0xFFFFFFFF, body := b }, activeSets := [] } }

theorem wit_IdleStepIsOneCycle :
    (State.reset.pending = [] ∧ State.reset.clk.run = false ∧ State.reset.hinge.step = 0 ∧ State.reset.clk.steer = 0 ∧ State.reset.counting = false) ∧
    (∀ n ∈ [Config.rootMult 4 - 5, Config.rootMult 4 - 4], let s : State := { wRun with clk := { wRun.clk with tPhase := n } }
      s.pending = [] ∧ s.clk.run = true ∧ s.hinge.step = 0 ∧ s.clk.steer = 0 ∧ s.counting = false ∧
      (n = Config.rootMult 4 - 5 → s.clk.tPhase + 4 < Config.rootMult s.clk.hp) ∧ (n ≠ Config.rootMult 4 - 5 → Config.rootMult s.clk.hp ≤ s.clk.tPhase + 4)) := by
  decide +kernel

/-- A command that answers a next state from a state in canonical form: StepKeepsMemoryCanonical, FusesOnlyAdvance, CommandsKeepTime64. -/
theorem wit_step_answers : Inv State.reset ∧ (match step { State.reset with pending := [.kaPg] } with | .next _ => true | _ => false) = true ∧
    (match exec .kaPg State.reset with | .next _ => true | _ => false) = true := by
  refine ⟨?_, by decide +kernel, by decide +kernel⟩
  unfold Inv; decide +kernel

theorem wit_MemoryReadsBackWrites : Memory.wf [] ∧ Memory.wf (memWrite [] 5 7) := by decide +kernel

theorem wit_BusSampleRunsFilters : State.reset.Idle ∧ wRun.Idle := by unfold State.Idle; decide

theorem wit_SteeringIsRare : let c : Clk := { State.reset.clk with steer := 1, t64 := 4096, steerAt := some 3072 }
    c.tick.t64 ≠ c.t64 + 1 ∧ c.steerAt = some 3072 := by decide +kernel

theorem wit_SupplyRowsWithOneEffect :
    (let s : State := { wRun with supply := { wRun.supply with surgeAt := some (wRun.now - 2000) } }
     s.Idle ∧ s.supply.surgeAt = some (s.now - 2000) ∧ s.now - 2000 + 2000 ≤ s.now) ∧
    (let s : State := { wRun with pf2 := true, boot := { wRun.boot with stage := .drained }, fuse := { wRun.fuse with hubMask := 1, stackMask := 1 },
                                  pcs := (List.range 32).map fun p => (p, { PcSt.reset with sr := .inSr }) }
     s.Idle ∧ s.pf2 = true ∧ s.boot.stage = .drained ∧ s.supply.drainedAt = none ∧ s.allPcs ≠ [] ∧ ∀ q ∈ s.allPcs, (s.pc q.1 q.2).sr = .inSr) ∧
    (wRun.Idle ∧ wRun.dropsLoad = false) ∧
    (let s : State := { wRun with pf1 := true, supply := { wRun.supply with estimate := 100 } }
     s.Idle ∧ s.dropsLoad = true ∧ 100 ≤ s.supply.estimate) ∧
    (State.reset.Idle ∧ State.reset.board.pwrGood = false) ∧
    (let s : State := { wRun with board := { wRun.board with warmRst := false, perst := false, refAt := none } }
     s.Idle ∧ s.board.warmRst = false ∧ s.board.perst = false ∧ s.board.refAt = none) := by
  unfold State.Idle; decide +kernel

theorem wit_PowerFailOneComesAndGoes :
    (let s : State := { wRun with supply := { wRun.supply with pf1Filt := some (wRun.now - 2000, 2000) } }
     s.Idle ∧ s.supply.pf1Filt = some (s.now - 2000, 2000) ∧ s.now - 2000 + 2000 ≤ s.now ∧ s.pf1 = false) ∧
    (let s : State := { wRun with pf1 := true, supply := { wRun.supply with recovAt := some (wRun.now - 100000) } }
     s.Idle ∧ s.pf1 = true ∧ s.pf2 = false ∧ s.supply.recovAt = some (s.now - 100000) ∧ s.now - 100000 + 100000 ≤ s.now) := by
  unfold State.Idle; decide +kernel

theorem wit_PowerFailTwoStarts :
    (let s : State := { wRun with supply := { wRun.supply with pf2Filt := some (wRun.now - 200, 200) } }
     s.pf2 = false ∧ s.supply.pf2Filt = some (s.now - 200, 200) ∧ s.now - 200 + 200 ≤ s.now ∧ s.boot.stage ≠ .cold ∧ s.holdsData = true ∧ s.boot.stage ≠ .drained) ∧
    (let s : State := { wRun with pf1 := true, supply := { wRun.supply with pf1At := some (wRun.now - 1000000) } }
     s.pf2 = false ∧ s.pf1 = true ∧ s.supply.pf1At = some (s.now - 1000000) ∧ s.now - 1000000 + 1000000 ≤ s.now) ∧
    (State.reset.pf2 = false ∧ 200 ≤ 200 ∧ State.reset.board.refAt.isSome = true ∧ State.reset.boot.stage = .cold) ∧
    ((wUp 5).pf2 = false ∧ (wUp 5).boot.stage ≠ .cold ∧ (wUp 5).holdsData = false) := by
  decide +kernel

/-! ### Resets and bring-up -/

theorem wit_BeforeMemoryClearStartsAreCold :
    (∀ s ∈ [State.reset, wUp 10, { wUp 10 with boot := { (wUp 10).boot with stage := .coldNext } }],
      (s.boot.stage = .cold ∨ s.boot.stage = .coldNext ∨ (s.boot.warm = false ∧ s.boot.cleared = false)) ∧ s.pf2 = false ∧ s.board.warmRst = true ∧ s.board.perst = true) ∧
    (0x5AC30001#32).toNat / 65536 = 0x5AC3 ∧ (0x5AC30001#32).getLsbD 0 = true ∧ (0x5AC30001#32).getLsbD 1 = false ∧
    (let s : State := { wUp 10 with supply := { wRun.supply with pf2Filt := some (1000000000 - 200, 200) } }
     s.boot.warm = false ∧ s.boot.cleared = false ∧ s.pf2 = false ∧ s.supply.pf2Filt = some (s.now - 200, 200) ∧ s.now - 200 + 200 ≤ s.now) := by
  decide +kernel

theorem wit_ColdResetsKeepTimeAndFuses :
    wRun.board.pkgRst = true ∧ wRun.board.kaPg = true ∧ (0x5AC30003#32).toNat / 65536 = 0x5AC3 ∧ (0x5AC30003#32).getLsbD 1 = true ∧
    (0x5AC20003#32).toNat / 65536 ≠ 0x5AC3 ∧ wRun.Idle := by
  unfold State.Idle; decide +kernel

theorem wit_WarmResetsDrainAndKeep :
    wRun.boot.stage = .running ∧ wRun.boot.cleared = true ∧ wRun.pf2 = false ∧ wRun.board.warmRst = true ∧ wRun.board.perst = true ∧ wRun.board.pwrGood = true ∧
    (0x5AC30001#32).toNat / 65536 = 0x5AC3 ∧ (0x5AC30001#32).getLsbD 0 = true ∧ (0x5AC30001#32).getLsbD 1 = false := by decide +kernel

theorem wit_ColdBringUpBegins :
    (State.reset.Idle ∧ State.reset.board.pkgRst = false ∧ State.reset.pinLive 65 20 = true ∧ State.reset.pinLive 65 21 = true) ∧
    (let s : State := { wRun with boot := State.reset.boot }
     s.Idle ∧ s.boot.stage = .cold ∧ s.board.pkgRst = true ∧ s.board.warmRst = true ∧ s.board.perst = true ∧ s.board.kaPg = true ∧ s.board.pwrGood = true ∧
     s.board.refAt.isSome = true ∧ s.pf2 = false ∧ s.rd .SVC_BOOT_STATUS_ATTEMPT 0 0 0 = 0) ∧
    (∀ s ∈ [wUp 1, wUp 8], s.Idle ∧ s.boot.stage = .bringUp ∧ (s.phase = 1 ∨ s.phase = 8) ∧ s.presentDies.testBit 0 = true ∧ s.presentDies.testBit 8 = true ∧ s.board.refAt.isSome = true) := by
  unfold State.Idle; decide +kernel


/-- The n low bytes of a number, the least significant first. -/
def wBytes : Nat → Nat → List Byte
  | 0, _ => []
  | n + 1, x => BitVec.ofNat 8 (x % 256) :: wBytes n (x / 256)

/-- The SHA-384 digest of the public key of the tests. -/
def wKey : Nat := 0x4938B309EFCA0E50CAB9F949AB849D045C5A676AC0163690AB822A7A4E19D90650792C29353C5BF4461F331495630270

/-- A container of service firmware with no code, signed with the key of the tests. -/
def wFw0 : List Byte := wBytes 264 0xC87A2969486682FB66FE37BB41EE581C415BEF33199CED4863650D95936C6DC282AD87935D0E5B8AEE426D2491B85ED4745E8D9CF8883B8E54DA268CE52050788DE967E5CC8C38C7411EC5247A2C1A4CA2F2C5849527EF373A0A24D597A1AF484FE7F6BBCCA6F363ED48394579ED47BB140FDB71A561D099940BB05CEB3636EE0D9A394B03D83815240DD84C4421ACD82B3003436FFD5058B43F4ED8E4F20075B95DEDC336CD4EA4E8FB08460F24666C1F19E51B07EFC1704C796011DBE1E97A000000004753494B0000000000000000000000000000000000000000000000000000000000000000000000000000000000000000000000000000000000000000000000005746534B

/-- A container of hub firmware. -/
def wFw1 : List Byte := wBytes 264 0x100B484E83BF32234B890E01B507B6448CA68DC8F56ADF5AF2B5E339ED03D5E58BC4B4A81BB1648BBB899E67C77ABE6E745E8D9CF8883B8E54DA268CE52050788DE967E5CC8C38C7411EC5247A2C1A4CA2F2C5849527EF373A0A24D597A1AF484FE7F6BBCCA6F363ED48394579ED47BB140FDB71A561D099940BB05CEB3636EE0D9A394B03D83815240DD84C4421ACD82B3003436FFD5058B43F4ED8E4F20075B95DEDC336CD4EA4E8FB08460F24666C1F19E51B07EFC1704C796011DBE1E97A000000004753494B0000000000000000000000000000000000000000000000000000000000000000000000000000000000000000000000000000000000000000000000015746534B

/-- A full image (HINGE, THERMAL, CASEMENT 0) for a package whose fuses name no hub and no compute die. -/
def wImg : List Byte := wBytes 456 0x2D3532EC8C5C2509AABFAD1B59DE3194482E3ECC3411D9FDE31E9183E00907436F2559256FFBCA9BBA66E81E2C19E74C745E8D9CF8883B8E54DA268CE52050788DE967E5CC8C38C7411EC5247A2C1A4CA2F2C5849527EF373A0A24D597A1AF484FE7F6BBCCA6F363ED48394579ED47BB140FDB71A561D099940BB05CEB3636EE0D9A394B03D83815240DD84C4421ACD82B3003436FFD5058B43F4ED8E4F20075B95DEDC336CD4EA4E8FB08460F24666C1F19E51B07EFC1704C796011DBE1E97A000000004753494B00000000000000000000000000000000FFFFFFFFFFFFFFFFFFFFFFFFFFFFFFFFFFFFFFFFFFFFFFFFFFFFFFFFFFFFFFFFFFFFFFFFFFFFFFFFFFFFFFFFFFFFFFFFFFFFFFFFFFFFFFFFFFFFFFFFFFFFFFFF0000000000000000000000000000000000000000000000000000000000000000B6D3B77600000100000000700101070000000000000000000000000000000000002A292800010001430A35D20000010000000018000104000000000000010410DAA5676800000100000000080001010000000000C6D7315E0000000000000100000000000000000000000000000000000000000000000001000000030000000000040003000001C8004000014D49534B


/-- The package as it is fused, with the key of the tests in every key slot 0. -/
def wSigned (s : State) : State := { s with fuse := { s.fuse with keys := List.replicate 5 [wKey, 0, 0, 0] } }

/-- A package of hub 0, compute die 0 and stack 0 alone. -/
def wOne (s : State) : State := { s with fuse := { s.fuse with hubMask := 1, cdieMask := 1, stackMask := 1 } }

/-- A stack's answer to identification. -/
def wId : StackId := { bankCode := 0, dies := 4, capacityGib := 16, maxRate := 64, vendor := 1, softLeft := 1, hardLeft := 1, laneLeft := 1, pgmMs := 10 }

theorem wit_BringUpPhasesTwoToSix_firstStage : let s := wSigned (wUp 1)
    s.boot.stage = .bringUp ∧ s.boot.warm = false ∧ s.phase = 1 ∧ s.locked = true ∧ s.board.straps.boot ≠ 3 ∧ wFw0 ≠ [] ∧ s.fwCheck 0 0 wFw0 = none ∧
    s.board.straps.boot = 0 ∧ s.rd .SVC_BOOT_STATUS_FALLBACK 0 0 0 = 0 ∧ s.fwCheck 0 0 [0] = some .verify := by decide +kernel

theorem wit_BringUpPhasesTwoToSix_hubFirmware : let s := wSigned (wOne (wUp 3))
    s.boot.stage = .bringUp ∧ s.boot.warm = false ∧ s.phase = 3 ∧ s.board.straps.boot ≠ 3 ∧ wFw1 ≠ [] ∧ s.hubs = [0] ∧ ∀ h ∈ s.hubs, s.fwCheck (1 + h) 1 wFw1 = none := by decide +kernel

theorem wit_BringUpPhasesTwoToSix_recovery :
    let s : State := { wSigned (wUp 3) with recov := wFw0, board := { wRun.board with straps := { boot := 3, slew := 0, i3cAddr := 0 } } }
    s.boot.stage = .bringUp ∧ s.boot.warm = false ∧ s.phase = 3 ∧ s.board.straps.boot = 3 ∧ s.fwCheck 0 0 s.recov = none := by decide +kernel

theorem wit_BringUpPhasesTwoToSix_others :
    (∀ n ∈ [2, 4], (wUp n).boot.stage = .bringUp ∧ (wUp n).boot.warm = false ∧ (wUp n).phase = n) ∧
    (let s := wOne (wUp 5)
     s.boot.stage = .bringUp ∧ s.boot.warm = false ∧ s.phase = 5 ∧ s.allStacks = [(0, 0)] ∧ ∀ x ∈ s.allStacks, (foundStack [(0, 0, wId)] x.1 x.2).isSome = true) := by decide +kernel

/-- A pseudo-channel that passes training with no lane to repair. -/
def wPass (p : Fin 96) : PcTraining :=
  { hub := 0, pc := p, eyes := (List.range 58).map wEye, again := [] }

/-- A package whose fuses name no hub and no compute die, before its image. -/
def wBare (n : Nat) : State := { wSigned (wUp n) with fuse := { (wSigned (wUp n)).fuse with hubMask := 0, cdieMask := 0, stackMask := 0, imgRollback := 3 } }

theorem wit_BringUpPhasesSevenToFifteen_imageLoad : let s := wBare 6
    s.boot.stage = .bringUp ∧ s.boot.warm = false ∧ s.phase = 6 ∧ wImg ≠ [] ∧ (((s.setPhase 7).readFlash .image).loadFull wImg).2 = true := by decide +kernel

theorem wit_BringUpPhasesSevenToFifteen_training : let s := wOne (wUp 9)
    let l := (List.finRange 96).map wPass
    s.boot.stage = .bringUp ∧ s.boot.warm = false ∧ s.phase = 9 ∧ s.allPcs.length = 32 ∧
    ∀ q ∈ s.allPcs, (l.find? (fun x => x.hub.val = q.1 && x.pc.val = q.2)).any (fun x => (laneFails eyePasses x.eyes (trainedLanes q.2)).isEmpty) = true := by decide +kernel

theorem wit_BringUpPhasesSevenToFifteen_others :
    (∀ n ∈ [7, 10, 13, 14], (wUp n).boot.stage = .bringUp ∧ (wUp n).boot.warm = false ∧ (wUp n).phase = n) ∧
    ((wUp 8).boot.stage = .bringUp ∧ (wUp 8).boot.warm = false ∧ (wUp 8).phase = 8 ∧ (wUp 8).locked = true ∧ ∀ h ∈ (wUp 8).hubs, (wUp 8).recordsInForce h = []) ∧
    ((wUp 11).phase = 11 ∧ (wUp 11).boot.stage = .bringUp ∧ (wUp 11).boot.warm = false ∧ ∀ d ∈ (wUp 11).cdies, ((wUp 11).aksal d).state = 0 ∧ ((wUp 11).aksal d).ready = true) ∧
    (let s : State := { wUp 12 with aks := [0, 1, 2, 3].map fun d => (d, { AksSt.reset with state := 6 }) }
     s.phase = 12 ∧ s.boot.stage = .bringUp ∧ s.boot.warm = false ∧ (∀ d ∈ s.cdies, (s.aksal d).state = 6) ∧ s.cdieIn 3 = true) := by decide +kernel

/-- A warm bring-up in phase n, of one stack. -/
def wWarm (n : Nat) : State :=
  let s := wOne (wUp n)
  (({ s with boot := { s.boot with warm := true, cleared := true } } : State).wr .SVC_CLK_STATUS_PLL_LOCK 0 0 0 s.presentDies)

/-- A drain that has ended: one stack, every pseudo-channel in self-refresh. -/
def wDrained (cause : Nat) : State :=
  let s := wOne wRun
  { s with boot := { s.boot with stage := .drained }, supply := { s.supply with cause := cause }, pcs := (List.range 32).map fun p => (p, { PcSt.reset with sr := .inSr }),
           board := { s.board with riseAt := s.now - 1000 } }

theorem wit_WarmBringUpKeepsTheStacks :
    (let s := wDrained 2
     s.boot.stage = .drained ∧ s.allInSr = true ∧ s.board.pkgRst = true ∧ s.board.warmRst = true ∧ s.board.perst = true ∧ s.board.kaPg = true ∧ s.board.pwrGood = true ∧
     s.board.refAt.isSome = true ∧ s.pf2 = false ∧ s.board.riseAt + 1000 ≤ s.now ∧ s.supply.cause = 2) ∧
    (∀ n ∈ [5, 8, 13], (wWarm n).boot.stage = .bringUp ∧ (wWarm n).boot.warm = true ∧ (wWarm n).phase = n ∧ (wWarm n).hubIn 0 = true ∧ (wWarm n).locked = true ∧
      ∀ q ∈ (wWarm n).allPcs, (wWarm n).drifted q.1 q.2 = false) := by decide +kernel

theorem wit_BootWatchdogRestartsOnce :
    (∀ k ∈ [0, 1], let s : State := ({ wUp 4 with boot := { (wUp 4).boot with wdog := some (0, 1000000000) } } : State).wr .SVC_BOOT_STATUS_ATTEMPT 0 0 0 k
      s.boot.wdog = some (0, 1000000000) ∧ s.boot.stage = .bringUp ∧ s.boot.warm = false ∧ 0 + 1000000000 ≤ s.now ∧ s.rd .SVC_BOOT_STATUS_ATTEMPT 0 0 0 = k ∧ s.board.straps.boot = 0) ∧
    (let s : State := { wUp 4 with boot := { (wUp 4).boot with wdog := some (0, 1000000001) }, board := { wRun.board with straps := { boot := 1, slew := 0, i3cAddr := 0 } } }
     s.boot.wdog = some (0, 1000000001) ∧ s.boot.stage = .bringUp ∧ s.boot.warm = false ∧ s.now < 0 + 1000000001 ∧ s.board.straps.boot ≠ 0) := by decide +kernel

/-- For the first clause the image of wit_BringUpPhasesSevenToFifteen_imageLoad serves, for the second that of wit_PartialImagesAreStagedOrRejected_staged. -/
theorem wit_RollbackFusesFollowTheImage : (wCfg []).Idle ∧ (wCfg []).cfg.isSome = true ∧ ∀ c ∈ (wCfg []).cfg, (wCfg []).fuse.imgRollback ≤ c.rollback := by
  unfold State.Idle; decide +kernel

/-! ### Registers and the host -/

/-- A CASEMENT frame: casement c of function f, MSI-X block 2, every pane, clusters 0 to 3 of compute die 0, counters of every bank. -/
def wCas (c f : Nat) : CasementCfg :=
  { cas := c, fn := f, msixBlock := 2, panes := BitVec.allOnes 64, clusters := [(0, 4), (0, 0), (0, 0), (0, 0)], counterPerm := 0x000000000F0810FF, queues := [], pools := [], louvres := [] }

/-- Function 0 with memory space and bus mastering on. -/
def wHost : State := { wRun with fns := [(0, { FnSt.reset with mse := true, bme := true, msixEn := true })] }

theorem wit_RegisterReadsAnswer :
    wHost.Idle ∧
    (let a := svcAccess 0x2000 4
     let r : RegAt := { reg := .SVC_BUS_VOLT, d := 0, i := 0, j := 0 }
     wHost.regGate a = .ok ∧ wHost.regHeld a false = false ∧ wHost.reachOf a = .reg r .whole ∧ r.reg ≠ .CMP_SRAM_WIN ∧ wHost.countedBank r = none) ∧
    (let a := svcAccess 0x3000 4
     let b := svcAccess 0x3004 4
     let r : RegAt := { reg := .SVC_TIME64, d := 0, i := 0, j := 0 }
     let s : State := { wHost with half := [(r, 5)] }
     wHost.regGate a = .ok ∧ wHost.regHeld a false = false ∧ wHost.reachOf a = .reg r .low ∧ r.reg ≠ .CMP_SRAM_WIN ∧ wHost.countedBank r = none ∧
     s.Idle ∧ s.regGate b = .ok ∧ s.regHeld b false = false ∧ s.reachOf b = .reg r .high ∧ s.latched r = some 5) ∧
    (let a := hubAccess 3 0xA01F8 8
     wHost.regGate a = .ok ∧ wHost.regHeld a false = false ∧ wHost.reachOf a = .reg { reg := .CNT_VALUE, d := 3, i := 31, j := 0 } .whole) ∧
    (let a := svcAccess 0x3002 4
     wHost.regGate a = .ok ∧ wHost.regHeld a false = false ∧ wHost.reachOf a = .fault 0) := by
  unfold State.Idle; decide +kernel

theorem wit_RegisterWritesFollowAccessCodes :
    wHost.Idle ∧
    (let a := svcAccess 0x3008 4
     let r : RegAt := { reg := .SVC_TIME_SYNC, d := 0, i := 0, j := 0 }
     wHost.regGate a = .ok ∧ wHost.regHeld a true = false ∧ wHost.reachOf a = .reg r .whole ∧
     wHost.outOfRange r .whole ((0x20000 + 10000#64).toNat % 2 ^ (8 * a.width)) = false ∧ wHost.outOfRange r .whole ((10001#64).toNat % 2 ^ (8 * a.width)) = true) := by
  unfold State.Idle; decide +kernel

theorem wit_AccessErrorHoldsTheFirst :
    (∀ k ∈ [0, 1], let s : State := wHost.wr .SVC_ACC_ERR_VALID 0 0 0 k
      let a := svcAccess 0x3002 4
      let b := svcAccess 0x108 8
      s.Idle ∧ s.regGate a = .ok ∧ s.regHeld a false = false ∧ s.reachOf a = .fault 0 ∧ s.rd .SVC_ACC_ERR_VALID 0 0 0 = k ∧
      s.regGate b = .ok ∧ s.regHeld b true = false ∧ b.width = 8 ∧ s.reachOf b = .reg { reg := .SVC_ACC_ERR, d := 0, i := 0, j := 0 } .whole ∧
      (0x8000000000000000#64).getLsbD 63 = true ∧ s.rd .SVC_ACC_ERR_VALID 0 0 0 ≤ 1 ∧ s.freshBits .SVC_ACC_ERR_VALID 0 0 0 = 0) ∧
    (wDrained 2).mayWarmStart = true ∧
    (wRun.boot.stage = .running ∧ wRun.boot.cleared = true ∧ wRun.pf2 = false ∧ wRun.board.warmRst = true) := by
  unfold State.Idle; decide +kernel

theorem wit_HostRequestsAreAnswered :
    (let s : State := { wHost with hinge := { HingeSt.reset with step := 1 } }
     s.Idle ∧ s.hostGate 0 false = .ok ∧ s.hinge.step ≠ 0) ∧
    (let s : State := { wHost with pf2 := true }
     s.Idle ∧ s.hostGate 0 false = .ones) ∧
    (wRun.Idle ∧ wRun.linkUp = true ∧ wRun.hostReady = true ∧ (wRun.fnSt 0).mse = false ∧ wRun.fnResetting 0 = false ∧ (wRun.cfgValue 0 4).isSome = true) ∧
    (let s := wUp 2
     s.Idle ∧ s.linkUp = true ∧ s.hostReady = false) ∧
    (let s : State := { wHost with msix := [(191, { MsixSt.reset with pend := true })], cfg := (wCfg [.casement (wCas 0 0)]).cfg }
     s.Idle ∧ s.msixKey 0 63 = some 191 ∧ (s.msixAt 191).pend = true ∧ (s.fnSt 0).msixEn = true ∧ (s.fnSt 0).fmask = false ∧ (s.fnSt 0).bme = true) := by
  unfold State.Idle; decide +kernel

/-! ### Counters and records -/

theorem wit_CountersFreezeAndAllocate :
    (let s : State := { wRun.wr .CNT_FREEZE_AT_TICK 7 0 0 1000000000 with freezeArm := [(7, true)] }
     s.Idle ∧ Tab.get false s.freezeArm 7 = true ∧ s.rd .CNT_FREEZE_AT_TICK 7 0 0 ≤ s.time64 ∧ s.bankIn 7 = true ∧
     ({ s with fuse := { s.fuse with cdieMask := 0 } } : State).bankIn 7 = false) ∧
    (let s := wCfg [.casement (wCas 0 0), .casement { wCas 1 1 with msixBlock := 3 }, .casement { wCas 2 2 with counterPerm := 0 }]
     s.Idle ∧
     (∀ x ∈ [(0, 0), (1, 1)], let v := 0x28000047#32
       s.casOfFn x.1 = some x.2 ∧ eventListed (v.toNat % 256) = true ∧ v.getLsbD 27 = true ∧ s.slotHolds x.1 63 = none ∧ s.freeCounter (v.toNat / 2 ^ 29) = some 0 ∧
       permBank (s.permOf x.2) (v.toNat / 2 ^ 29) = true ∧ s.bankIn (v.toNat / 2 ^ 29) = true ∧ s.heldIn x.1 (v.toNat / 2 ^ 29) < permLimit (s.permOf x.2) (v.toNat / 2 ^ 29) ∧
       eventHasCas (v.toNat % 256) = true) ∧
     ((0x20000047#32).getLsbD 27 = false ∧ eventListed ((0x20000047#32).toNat % 256) = true) ∧
     (s.casOfFn 2 = some 2 ∧ permBank (s.permOf 2) ((0x28000047#32).toNat / 2 ^ 29) = false) ∧
     ((s.casOfFn 31).isSome = false ∧ (s.casOfFn 2).isSome = true ∧ eventListed ((0x28000014#32).toNat % 256) = false)) := by
  unfold State.Idle; decide +kernel

/-- A running package whose door D5 of hub 3 is open. -/
def wOpen5 : State := { wRun with doors := [(doorKey 3 5, { DoorSt.reset with masked := false })] }

/-- A package that has no hub. -/
def wNoHub : State := { wRun with fuse := { wRun.fuse with hubMask := 0 } }

/-- A finished sample record. -/
def wRec : SampleRec :=
  { kind := 0, seq := 1, cas := 0, cls := 0, door := 0, pc := 0, hp := 4, hinge := false, status := 0, addr := 0, arrT := 0, arrC := 0, admC := 0, firstC := 0, lastC := 0, respC := 0, done := true }

theorem wit_RecordsReachTheirRings :
    (∀ rp ∈ [0, 1], let s : State := ({ wOpen5 with samplers := [(3, { SamplerSt.reset with recs := [wRec] })] } : State).wr .SMP_RP_RP 3 0 0 rp
      s.Idle ∧ s.recordsFlow = true ∧ s.hubIn 3 = true ∧
      s.viaOpen (recordVia 3 .normal (s.rd .SMP_CTRL_CASEMENT 3 0 0)) (s.rd .SMP_BASE_ADDR 3 0 0 * 32 + 32 * s.rd .SMP_PTR_WP 3 0 0) true = true ∧ (Tab.get SamplerSt.reset s.samplers 3).recs.find? (fun x => x.done) = some wRec ∧
      (decide ((s.rd .SMP_PTR_WP 3 0 0 + 1) % 2 ^ s.rd .SMP_CTRL_SIZE_LOG2 3 0 0 = s.rd .SMP_RP_RP 3 0 0) = decide (rp = 1))) ∧
    (let r : TraceRec := { time := 0, typ := 1, die := 0, cas := 0, unit := 0, payload := [] }
     let s : State := (({ wOpen5 with tracers := [(3, { TracerSt.reset with fifo := List.replicate 8 r })] } : State).wr .TRC_CTRL_ENABLE 3 0 0 1).wr .TRC_CTRL_SIZE_LOG2 3 0 0 6
     s.Idle ∧ s.recordsFlow = true ∧ s.hubIn 3 = true ∧ s.rd .TRC_CTRL_ENABLE 3 0 0 = 1 ∧ s.clusters = [] ∧ s.pf2 = false ∧
     s.viaOpen (recordVia 3 .bulk (s.rd .TRC_CTRL_CASEMENT 3 0 0)) (s.rd .TRC_BASE_ADDR 3 0 0 * 256 + 32 * s.rd .TRC_PTR_WP 3 0 0) true = true ∧ (s.tracer 3).dieFifo = [] ∧ 8 ≤ (s.tracer 3).fifo.length ∧
     (s.rd .TRC_PTR_WP 3 0 0 + 2 ^ s.rd .TRC_CTRL_SIZE_LOG2 3 0 0 - s.rd .TRC_RP_RP 3 0 0) % 2 ^ s.rd .TRC_CTRL_SIZE_LOG2 3 0 0 + 8 < 2 ^ s.rd .TRC_CTRL_SIZE_LOG2 3 0 0) ∧
    (wNoHub.Idle ∧ wNoHub.hubIn 3 = false ∧ wRun.hubIn 3 = true) ∧
    (∀ n ∈ [6, 24], let v := BitVec.ofNat 32 (256 * n); 6 ≤ v.toNat / 2 ^ 8 % 32 ∧ v.toNat / 2 ^ 8 % 32 ≤ 24 ∧ v.getLsbD 0 = false) ∧
    (∀ n ∈ [5, 25], let v := BitVec.ofNat 32 (256 * n); v.toNat / 2 ^ 8 % 32 < 6 ∨ 24 < v.toNat / 2 ^ 8 % 32) := by
  unfold State.Idle; decide +kernel

/-! ### Images, windows and casements -/

/-- A command entry of a profile with no insertion. -/
def wCmd (code : Nat) (column : Bool) (effect : Nat) : CmdEntry :=
  { code := code, column := column, words := 1, tclass := code, effect := effect, pattern := 0, inserts := [] }

/-- A profile of 16 banks and rows of 512 bytes: code 1 an activate, 2 a close of every row, 3 a read, 4 a refresh. -/
def wProfile : ProfileCfg :=
  { index := 0, vendors := [1], bankMask := 1, rowLog2 := 9, rateMin := 40, rateMax := 64, banksPerGroup := 4, parity := true, rfm := true, mr := [],
    cmds := [wCmd 1 false 1, wCmd 2 false 3, wCmd 3 true 4, wCmd 4 false 6] }

/-- Every operation begins with a row command; a wait stands at step 3. -/
def wSteps : StepTableCfg :=
  { profile := 0, dispatch := List.replicate 48 0, steps := [.row 1 0, .event 2, .fin, .wait 4, .row 1 0, .fin] }

/-- One pane of casement 0 over pseudo-channel 0 of hub 0: 2 MiB from address 0. -/
def wPane : PaneDef :=
  { id := 0, order := 0, granLog2 := 8, guarded := false, bucket := false, allBank := false, cas := 0, group := none, pcCount := 1, base := 0, size := 2097152, mask := 1, rowFirst := 0, rowCount := 256 }

def wHp : HingeCfg := { enabled := 0x10, boot := 4, dwellMs := 1 }
def wTiming : TimingCfg := { profile := 0, hinge := 4, rl := 8, wl := 2, parLat := 8, rules := [] }

/-- A package of one hub, one compute die and one stack that runs with further frames. -/
def wPkg (fs : List FrameBody) : State :=
  let s := wCfg ([.hinge wHp, .profile wProfile, .timing wTiming, .steps wSteps, .pane wPane] ++ fs)
  { wOne s with geom := [(0, some wId)], doors := wDoorsUp }

/-- A partial image that replaces CASEMENT 0. -/
def wPart : List Byte := wBytes 392 0xCB1F587275B6EB94A21D9AE1EA9FF9BD483139B74F2285359B21EAF5176CE31192BC46BDB2B430C16DB4BE95605615F6745E8D9CF8883B8E54DA268CE52050788DE967E5CC8C38C7411EC5247A2C1A4CA2F2C5849527EF373A0A24D597A1AF484FE7F6BBCCA6F363ED48394579ED47BB140FDB71A561D099940BB05CEB3636EE0D9A394B03D83815240DD84C4421ACD82B3003436FFD5058B43F4ED8E4F20075B95DEDC336CD4EA4E8FB08460F24666C1F19E51B07EFC1704C796011DBE1E97A000000004753494B00000000000000000000000000000000FFFFFFFFFFFFFFFFFFFFFFFFFFFFFFFFFFFFFFFFFFFFFFFFFFFFFFFFFFFFFFFFFFFFFFFFFFFFFFFFFFFFFFFFFFFFFFFFFFFFFFFFFFFFFFFFFFFFFFFFFFFFFFFF0000000000000000000000000000000000000000000000000000000000000000CCEC985100000111000000700101070000000000306698EC00000000000000C000000000000000000000000000000001000000000000000200000103000101010004000100000188004000014D49534B

/-- The partial image lies in sectors from address 0. -/
def wLoaded : State :=
  let s := wSigned (wPkg [.casement { wCas 0 0 with panes := 1 }])
  let t := (List.range 13).foldr (fun k t => t.storeSector (sectorKey 0 0 0 0 k) (BitVec.ofNat 256 (leN 32 (wPart.drop (32 * k))))) s
  ((t.wr .IMG_PART_LEN_LEN 0 0 0 392).wr .IMG_ID_ID 0 0 0 1).wr .IMG_QUIESCED_PANES 0 0 0 1

/-- The panes that a partial image affects, where it is accepted. -/
def wStaged (s : State) (l : List Byte) : Option Nat :=
  match s.parseImage l 1 with
  | .inl _ => none
  | .inr own => match s.amended l own with
    | .inr (.image _ panes _ _, _) => some panes.toNat
    | _ => none

theorem wit_PartialImagesAreStagedOrRejected_bytes : wLoaded.partialBytes = wPart := by decide +kernel

theorem wit_PartialImagesAreStagedOrRejected_staged :
    wLoaded.Idle ∧ wLoaded.staged = [] ∧ wLoaded.rd .IMG_CTRL_BUSY 0 0 0 = 0 ∧ wLoaded.rd .IMG_LAYOUT_CTRL_BUSY 0 0 0 = 0 ∧
    wStaged wLoaded wLoaded.partialBytes = some 1 ∧ wLoaded.quiescedAll 1 = true := by
  rw [wit_PartialImagesAreStagedOrRejected_bytes]
  unfold State.Idle; decide +kernel

theorem wit_PartialImagesAreStagedOrRejected_refused :
    (let s := wLoaded.wr .IMG_QUIESCED_PANES 0 0 0 0
     wStaged s wPart = some 1 ∧ s.quiescedAll 1 = false) ∧
    (let s : State := { wLoaded with cfg := (wPkg [.casement { wCas 0 0 with panes := 1 }, .casement { wCas 1 1 with msixBlock := 0 }]).cfg }
     (s.parseImage wPart 1).isLeft = false ∧ (match s.parseImage wPart 1 with
       | .inr own => (s.amended wPart own).isLeft
       | .inl _ => false) = true) ∧
    ((wRun.wr .IMG_CTRL_BUSY 0 0 0 1).rd .IMG_CTRL_BUSY 0 0 0 = 1 ∧ (wRun.wr .IMG_CTRL_BUSY 0 0 0 1).Idle) := by
  unfold State.Idle
  refine ⟨?_, ?_, ?_⟩ <;> decide +kernel

theorem wit_PartialImagesAreStagedOrRejected_others :
    (let s : State := wRun.wr .IMG_QUIESCE_PANES 0 0 0 (2 ^ 63)
     s.Idle ∧ (s.rd .IMG_QUIESCE_PANES 0 0 0).testBit 63 = true ∧ Tab.get 0 s.outPane 63 = 0 ∧ s.staged = []) ∧
    (let s := wCfg []
     s.Idle ∧ s.staged = [] ∧ s.rd .IMG_CTRL_BUSY 0 0 0 = 0 ∧ s.rd .IMG_LAYOUT_CTRL_BUSY 0 0 0 = 0 ∧ (s.parseImage s.partialBytes 1).isLeft = true) ∧
    (let c : RunCfg := { id := 2, rollback := 0, frames := [], activeSets := [] }
     let s : State := { wCfg [] with staged := [{ change := .image c 0 0 [], ready := [], tick := none }] }
     s.Idle ∧ s.imagesStaged = true ∧ s.rd .IMG_LAYOUT_CTRL_BUSY 0 0 0 = 0) := by
  unfold State.Idle; decide +kernel

/-- Two layout sets of group 15. -/
def wLayouts : State :=
  { wCfg [.layoutSet { group := 15, set := 0, active := true, entries := [{ wPane with group := some 15 }] },
          .layoutSet { group := 15, set := 3, active := false, entries := [{ wPane with group := some 15 }] }] with staged := [] }

theorem wit_StagedChangesCommitAtTheirTick :
    (let c : RunCfg := { id := 2, rollback := 0, frames := [], activeSets := [] }
     let x : Staged := { change := .image c 0 0 [], ready := [0, 1, 2], tick := none }
     let y : Staged := { x with ready := [0, 1] }
     let s : State := { wCfg [] with staged := [x] }
     let t : State := { wCfg [] with staged := [y] }
     s.Idle ∧ s.staged = [x] ∧ x.isImage = true ∧ x.tick = none ∧ x.ready.contains 3 = false ∧ (∀ g ∈ s.hubs, g = 3 ∨ x.ready.contains g = true) ∧
     t.Idle ∧ t.staged = [y] ∧ y.isImage = true ∧ y.tick = none ∧ y.ready.contains 3 = false ∧ ∃ g ∈ t.hubs, g ≠ 3 ∧ y.ready.contains g = false) ∧
    (let s : State := ((wLayouts.wr .IMG_LAYOUT_CTRL_GROUP 0 0 0 15).wr .IMG_LAYOUT_CTRL_SET 0 0 0 3).wr .IMG_QUIESCED_PANES 0 0 0 1
     s.Idle ∧ s.imagesStaged = false ∧ s.rd .IMG_LAYOUT_CTRL_BUSY 0 0 0 = 0 ∧ s.rd .IMG_CTRL_BUSY 0 0 0 = 0 ∧ s.rd .IMG_LAYOUT_CTRL_GROUP 0 0 0 < 16 ∧ s.rd .IMG_LAYOUT_CTRL_SET 0 0 0 < 4 ∧
     (layoutIn s.layouts (s.rd .IMG_LAYOUT_CTRL_GROUP 0 0 0) (s.rd .IMG_LAYOUT_CTRL_SET 0 0 0)).isSome = true ∧
     s.activeSet (s.rd .IMG_LAYOUT_CTRL_GROUP 0 0 0) ≠ s.rd .IMG_LAYOUT_CTRL_SET 0 0 0 ∧
     s.quiescedAll (s.switchPanes (s.rd .IMG_LAYOUT_CTRL_GROUP 0 0 0) (s.rd .IMG_LAYOUT_CTRL_SET 0 0 0)) = true) ∧
    (∀ n ∈ [1000000000, 1000000001], let s : State := { wLayouts with staged := [{ change := .layout 15 3, ready := [], tick := some n }] }
     s.Idle ∧ s.cfg.isSome = true ∧ s.staged = [{ change := .layout 15 3, ready := [], tick := some n }] ∧ s.rd .IMG_CTRL_BUSY 0 0 0 = 0 ∧ s.hinge.step = 0 ∧
     (n = 1000000000 → n ≤ s.now) ∧ (n ≠ 1000000000 → s.now < n ∧ ∀ x ∈ s.staged, x.due s.now = false)) ∧
    (let c : RunCfg := { id := 2, rollback := 0, frames := [], activeSets := [] }
     let s : State := { wCfg [] with staged := [{ change := .image c 1 1 [(3, 8)], ready := [], tick := some 1000000000 }] }
     s.Idle ∧ s.staged = [{ change := .image c 1 1 [(3, 8)], ready := [], tick := some 1000000000 }] ∧ s.rd .IMG_LAYOUT_CTRL_BUSY 0 0 0 = 0 ∧ s.hinge.step = 0 ∧ 1000000000 ≤ s.now) := by
  unfold State.Idle
  refine ⟨?_, ?_, ?_, ?_⟩ <;> decide +kernel

theorem wit_CasementResetStartsAndEnds :
    (31 < 32 ∧ (0x80000000#32).getLsbD 31 = true ∧ wRun.draining = false ∧ wRun.Idle) ∧
    (let s : State := { wCfg [.casement (wCas 0 0), .casement { wCas 31 31 with msixBlock := 3 }] with fns := [(0, { FnSt.reset with vfEnable := true })] }
     s.casOfFn 31 = some 31 ∧ s.casOfFn 0 = some 0 ∧ s.draining = false ∧ (31 : FnNo) ≠ 0 ∧ s.linkUp = true ∧ s.boot.stage = .running ∧ (s.fnSt 0).vfEnable = true ∧ s.hostReady = true) ∧
    (∀ n ∈ [0, 1], let s : State := { wCfg [.casement (wCas 31 31)] with resetting := [(31, true)], outCas := Tab.put 0 [] 31 n }
     s.isResetting 31 = true ∧ s.fnOfCas 31 = some 31 ∧ s.casIdle 31 = decide (n = 0)) := by
  unfold State.Idle; decide +kernel

/-! ### The ring, doors and arbiters -/

/-- A NORMAL read of block 0 by casement 0 that hub 0 decoded to its own first pseudo-channel. -/
def wReq : Req :=
  { id := 7, org := .debug 0, cls := .normal, cas := 0, stag := 0, addr := 0, pane := 0, guarded := false, bucket := false, home := 0, hub := 0, pc := 0, bank := 0, row := 0, col := 0,
    write := false, sector := false, mask := 0, data := 0, poison := 0, xfer := 0, latch := 0, uc := false }

/-- Nine doors in use, one reserved entry for URGENT and one for MAINT. -/
def wDoors : List DoorCfg := (List.range 9).map fun d => { enable := true, firm := false, urgentCred := 1, maintCred := if d = 0 then 0 else 1, srcValid := 0, srcMap := [] }

/-- Every temperature source at 50 degrees Celsius and fresh. -/
def wCool : Tab ThermSt := (List.range 21).map fun k => (k, { reading := 50, avg := 50, tier := 0, at_ := some 0, stale := false })

/-- Every link of the ring up. -/
def wRing : State := { wRun with doors := wDoorsUp, links := [0, 1, 2, 3].map fun i => (i, { LinkSt.reset with up := true }) }

theorem wit_RingArrivalsUseTheDoorOfTheirOrigin :
    (∀ x ∈ [(0, RingDir.up, 0, 1), (3, RingDir.up, 3, 0), (0, RingDir.down, 2, 3)],
     let r : Req := { wReq with home := x.2.2.1, hub := x.2.2.2 }
     let s : State := { wRing with ring := [(ringKey x.1 (match x.2.1 with | .up => 0 | .down => 1), [r])] }
     let n := portPeer x.1 (match x.2.1 with | .up => 0 | .down => 1)
     let k := (r.home + 4 - n) % 4
     firstUrgent (s.portWaiters x.1 (match x.2.1 with | .up => 0 | .down => 1)) = some r ∧ s.hinge.step = 0 ∧
     (s.link (portLink x.1 (match x.2.1 with | .up => 0 | .down => 1))).failed = false ∧ (s.link (portLink x.1 (match x.2.1 with | .up => 0 | .down => 1))).up = true ∧
     r.hub = n ∧ r.home < 4 ∧ r.home ≠ n ∧ s.doorRoom n k r.cls = true) := by decide +kernel

theorem wit_RingLinksForwardRetryAndFail :
    (let r : Req := { wReq with home := 3, hub := 1 }
     let s : State := { wRing with ring := [(ringKey 3 0, [r])] }
     let t : State := { s with links := [(3, { LinkSt.reset with failed := true })] }
     firstUrgent (s.portWaiters 3 0) = some r ∧ s.hinge.step = 0 ∧ (s.link (portLink 3 0)).failed = false ∧ (s.link (portLink 3 0)).up = true ∧ r.hub ≠ portPeer 3 0 ∧
     firstUrgent (t.portWaiters 3 0) = some r ∧ t.hinge.step = 0 ∧ (t.link (portLink 3 0)).failed = true) ∧
    (wRing.Idle ∧ (wRing.link 3).up = true ∧ (wRing.link ((3 + 3) % 4)).up = true ∧ ∀ k < 4, (wRun.link k).up = false) ∧
    (∀ x ∈ [(15, 15), (16, 0), (0, 16)], let s : State := { wRing with links := [(3, { LinkSt.reset with up := true, streak := x.1, streakBack := x.2 })] }
     (s.link 3).up = true ∧ (x.1 = 16 → 16 ≤ (s.link 3).streak) ∧ (x.2 = 16 → 16 ≤ (s.link 3).streakBack) ∧
     (x.1 = 15 → (s.link 3).streak < 16 ∧ (s.link 3).streakBack < 16) ∧ s.atPhaseStep = false ∧
     ({ s with hinge := { s.hinge with step := 8, switchAt := some s.now } } : State).atPhaseStep = true) := by
  unfold State.Idle; decide +kernel

theorem wit_DoorsTakeArrivalsAndWindows :
    (let s : State := { wRun with doors := [(doorKey 3 8, { DoorSt.reset with transit := [{ wReq with home := 3, hub := 3, pc := 95 }], masked := false })] }
     s.Idle ∧ (s.door 3 8).transit = [{ wReq with home := 3, hub := 3, pc := 95 }] ∧ (s.door 3 8).masked = false ∧ s.draining = false ∧ s.clk.run = true ∧ s.knowsClosed 3 3 (stackOf 95) = false ∧
     ∀ h < 4, s.hubIn h = true) ∧
    (let s : State := { wRun with doors := [(doorKey 3 8, { DoorSt.reset with transit := [wReq] })] }
     s.Idle ∧ (s.door 3 8).transit = [wReq] ∧ (s.door 3 8).masked = true) ∧
    (let s := wCfg [.doorMap wDoors]
     s.Idle ∧ s.hubIn 3 = true ∧ s.doorMustMask 3 8 = false ∧ s.draining = false) ∧
    (State.reset.Idle ∧ State.reset.hubIn 3 = true ∧ State.reset.doorMustMask 3 0 = true) ∧
    (∀ p ∈ wRun.pcsOf 3, (wRun.arb 3 p).hold.isLatch = false ∧ (wRun.arb 3 p).prioOld = []) ∧ (wNoHub.Idle ∧ wNoHub.hubIn 3 = false) ∧
    (let s : State := ({ wRun with therm := wCool, louvres := [(slotKey 3 8 15, { LouvreSt.reset with start := 4936, len := 64 })] } : State).wr .LVR_SLOT_CFG_VALID 3 8 15 1
     s.Idle ∧ s.rd .LVR_SLOT_CFG_VALID 3 8 15 = 1 ∧ (s.lvr 3 8 15).start + (s.lvr 3 8 15).len ≤ s.cyc ∧ (s.lvr 3 8 15).len ≠ 0 ∧ s.clk.run = true ∧ s.hinge.step < 5 ∧
     s.hubTier 3 = 0 ∧ s.riseHeld = false) := by
  unfold State.Idle
  refine ⟨?_, ?_, ?_, ?_, ?_, ?_, ?_⟩ <;> decide +kernel

/-- A door entry. -/
def wEnt : DoorEnt := { r := wReq, grp := none, arrT := 0, arrC := 0 }

theorem wit_AdmitTakesTheWinner :
    (let s : State := { wPkg [] with doors := [(doorKey 0 8, { DoorSt.reset with buf := [wEnt], masked := false })] }
     s.pcIn 0 0 = true ∧ (s.arb 0 0).evalAt ≠ s.cyc + 1 ∧ (s.arb 0 0).hold = .none ∧ s.clk.run = true ∧ s.hinge.step = 0 ∧
     s.winner 0 0 (s.candidates 0 0) = some (8, wEnt) ∧ ((s.pc 0 0).room s.cyc wEnt.r).isSome = true ∧ s.doorCanServe 0 8 0 = true) ∧
    (let s := wPkg []
     s.pcIn 0 31 = true ∧ (s.arb 0 31).evalAt ≠ s.cyc + 1 ∧ (s.arb 0 31).hold = .none ∧ s.clk.run = true ∧ s.hinge.step = 0 ∧ s.winner 0 31 (s.candidates 0 31) = none) := by
  decide +kernel

/-! ### Pseudo-channels -/

/-- A configured package whose first pseudo-channel is as given. -/
def wPc (x : PcSt) : State :=
  { wPkg [.refresh { windowMs := 16, refs := 1024, postponeMax := 8, srIdleUs := 1 }, .disturb { threshold := 64, method := 0, radius := 0 },
          .adjacency { profile := 0, rowBits := 16, subLog2 := 0, perm := List.range 16, rules := [] }] with pcs := [(0, x)] }

/-- The same with method 1 of R201 and a radius. -/
def wPcAct (n : Nat) (x : PcSt) : State :=
  { wPkg [.refresh { windowMs := 16, refs := 1024, postponeMax := 8, srIdleUs := 1 }, .disturb { threshold := 64, method := 1, radius := n },
          .adjacency { profile := 0, rowBits := 16, subLog2 := 0, perm := List.range 16, rules := [] }] with pcs := [(0, x)] }

/-- An awake pseudo-channel at the timing set of HP4 whose schedules began at tick 1. -/
def wAwake : PcSt := { PcSt.reset with tset := 4, refStart := some 1, clearLast := some 1 }

def wBurst : Burst := { req := 7, sec := 0, also := [], data := 0, chk := checkOf 0, ready := 5000 }

theorem wit_DebugHaltsAndInjects :
    ((wPc { wAwake with halt := true }).Idle ∧ ((wPc { wAwake with halt := true }).pc 0 0).halt = true ∧ ((wPc { wAwake with halt := true }).pc 0 0).flight = [] ∧
     ((wPc { wAwake with flight := [wBurst] }).pc 0 0).flight ≠ [] ∧ (wPc wAwake).pcIn 0 0 = true ∧ (wPc wAwake).pcIn 3 95 = false ∧ (wPc wAwake).Idle) ∧
    (((wPc wAwake).profileOf 0 0).bind (fun f => f.cmd ((9#64).toNat % 32)) = none ∧
     (0x401#64).getLsbD 5 = false ∧ (wPc wAwake).banksOf 0 0 ≤ (0x401#64).toNat / 2 ^ 6 % 64) ∧
    (((wPc { wAwake with dbg := some 1 }).pc 0 0).dbg.isSome = true ∧ ((wPc wAwake).pc 0 0).dbg = none ∧ (wPc wAwake).profileOf 0 0 = some wProfile ∧
     (wProfile.cmd ((0x3C1#64).toNat % 32)).isSome = true ∧ (0x3C1#64).toNat / 2 ^ 6 % 64 < (wPc wAwake).banksOf 0 0) ∧
    (let s := wPc { wAwake with halt := true, dbg := some 1, dbgOps := 1 }
     s.hinge.step = 0 ∧ (s.debugMay 0 0 false).any (fun x => x.1.e.column == false) = true ∧ (s.pc 0 0).halt = true ∧ (s.pc 0 0).queue = [] ∧ (s.pc 0 0).ptrs = [] ∧ (s.pc 0 0).wideNext = [] ∧
     (s.pc 0 0).sr = .awake ∧ (s.pc 0 0).retry.length < 64 ∧ (s.pc 0 0).grantAt ≠ s.cyc + 1 ∧ s.clk.run = true ∧ s.pcIn 0 0 = true) ∧
    (let s := wPc { wAwake with grantAt := 5001 }
     s.hinge.step = 0 ∧ (s.pc 0 0).grantAt = s.cyc + 1) := by
  unfold State.Idle
  refine ⟨?_, ?_, ?_, ?_, ?_⟩ <;> decide +kernel

/-- A pointer in the wait at step 3. -/
def wWaiting : Ptr := { op := 5, step := 3, req := 0, bank := 0, row := 0, pass := 0, sec := 0, waitTo := 5000, emerg := false }

theorem wit_QueueMarksAndWaits :
    (∀ n ∈ [5000, 5001], let q : Ptr := { wWaiting with waitTo := n }
     let s := wPc { wAwake with banks := [(0, { BankSt.reset with ptr := some q })] }
     s.Idle ∧ s.hinge.step = 0 ∧ ((s.pc 0 0).bank 0).ptr = some q ∧ q.bank = 0 ∧ q.waitTo ≠ 0 ∧ (n = 5001 → s.cyc < q.waitTo) ∧ (n = 5000 → q.waitTo ≤ s.cyc) ∧ q.op ≤ 5 ∧
     s.stepsOf 0 0 = some wSteps ∧ wSteps.steps[q.step]? = some (.wait 4) ∧ wSteps.steps[q.step + 1]? = some (.row 1 0)) := by
  unfold State.Idle; decide +kernel

/-- A bank with a debt. -/
def wOwing (n : Nat) : BankSt := { BankSt.reset with debt := n }

theorem wit_BankRefreshes_due :
    (∀ b ∈ [0, 15], let s := wPc wAwake
     s.Idle ∧ (s.pc 0 0).allBank = false ∧ s.pcIn 0 0 = true ∧ b < s.banksOf 0 0 ∧ (s.dueTick 0 0 b 1).any (fun t => decide (t ≤ s.now)) = true ∧ (s.pc 0 0).sr ≠ .inSr ∧
     ((s.pc 0 0).bank b).debt < s.postponeMax 0) ∧
    (let s := wPc { wAwake with banks := [(0, { wOwing 8 with dueFrom := some 999999999 })] }
     s.Idle ∧ (s.pc 0 0).allBank = false ∧ s.pcIn 0 0 = true ∧ (s.dueTick 0 0 0 1).any (fun t => decide (s.now < t)) = true ∧ s.postponeMax 0 ≤ ((s.pc 0 0).bank 0).debt) := by
  unfold State.Idle; decide +kernel

theorem wit_BankRefreshes_refPb :
    let s := wPc { wAwake with banks := [(0, wOwing 1), (15, wOwing 2)] }
    (s.Idle ∧ s.pcIn 0 0 = true ∧ (s.pc 0 0).allBank = false ∧ (s.pc 0 0).refreshes = true ∧ (s.pc 0 0).pauseDue = false ∧ (s.pc 0 0).nbrPending = false ∧ s.hinge.step = 0 ∧ 15 < s.banksOf 0 0 ∧ (s.pc 0 0).idle 15 = true ∧
     1 ≤ ((s.pc 0 0).bank 15).debt ∧
     (∀ c < s.banksOf 0 0, (s.pc 0 0).idle c = true →
      ((s.pc 0 0).bank c).debt ≤ ((s.pc 0 0).bank 15).debt ∧ (c < 15 → ((s.pc 0 0).bank c).debt < ((s.pc 0 0).bank 15).debt)) ∧
     ((s.pc 0 0).bank 15).row.isSome = false) ∧ s.beginsAt 0 0 5 1 0 := by
  refine ⟨?_, wSteps, 1, 0, ?_⟩
  · unfold State.Idle; decide +kernel
  · decide +kernel

/-- Bank 15 at its greatest debt with a row open, and its pointer as given. -/
def wUrged (latch : Option Nat) (q : Option Ptr) : State := wPc { wAwake with banks := [(0, wOwing 7), (15, { wOwing 8 with row := some 5, latch := latch, ptr := q })] }

theorem wit_BankRefreshes_emergency :
    (∀ x ∈ [(none, some wWaiting), (some 7, some { wWaiting with op := 1 }), (none, none)], let s := wUrged x.1 x.2
     s.Idle ∧ s.pcIn 0 0 = true ∧ (s.pc 0 0).allBank = false ∧ (s.pc 0 0).sr = .awake ∧ (s.pc 0 0).pauseFrom = none ∧ (s.pc 0 0).replay = none ∧ (s.pc 0 0).wide = none ∧
     (s.pc 0 0).emergRuns = false ∧ 15 < s.banksOf 0 0 ∧ ((s.pc 0 0).bank 15).debt = s.postponeMax 0 ∧ ((s.pc 0 0).bank 15).saved = none ∧
     (∀ c < 15, ((s.pc 0 0).bank c).debt ≠ s.postponeMax 0) ∧ ((s.pc 0 0).bank 15).row.isSome = true ∧ ((s.pc 0 0).bank 15).latch = x.1 ∧ ((s.pc 0 0).bank 15).ptr = x.2 ∧
     s.stepsOf 0 0 = some wSteps ∧ wSteps.entry 5 2 = some 0) ∧ (wUrged none none).beginsAt 0 0 5 2 0 := by
  refine ⟨?_, wSteps, 1, 0, ?_⟩
  · unfold State.Idle; decide +kernel
  · decide +kernel

/-- A request in the queue of a pseudo-channel. -/
def wQEnt : QEnt :=
  { r := wReq, door := 0, arrT := 0, arrC := 0, firstC := 0, adm := 0, res := .shared, aged := false, grp := none, rdIssued := 0, merged := 0, bad := 0, wrIssued := 0, ended := false, drop := false, tag := none }

theorem wit_WideRefreshAndDisturbance_wide :
    (let s := wPc { wAwake with allBank := true, banks := [(0, wOwing 1)] }
     s.Idle ∧ s.pcIn 0 0 = true ∧ (s.pc 0 0).allBank = true ∧ (s.pc 0 0).refreshes = true ∧ s.hinge.step = 0 ∧ (s.pc 0 0).queue = [] ∧
     (∀ x ∈ (s.pc 0 0).banks, x.2.yields = true ∧ x.2.nbr = []) ∧ 1 ≤ (s.pc 0 0).maxDebt ∧ s.stepsOf 0 0 = some wSteps ∧ wSteps.entry 6 0 = some 0 ∧ wSteps.entry 10 0 = some 0 ∧
     wSteps.steps[0]? = some (.row 1 0)) ∧
    (let s := wPc { wAwake with allBank := true, pauseDue := true, queue := [wQEnt], banks := [(0, { wOwing 8 with ptr := some { wWaiting with op := 0 } })] }
     s.Idle ∧ (s.pc 0 0).refreshes = true ∧ s.hinge.step = 0 ∧ (s.pc 0 0).pauseDue = true ∧ s.pauseOpen 0 0 = false ∧ (∀ x ∈ (s.pc 0 0).banks, x.2.yields = true ∧ x.2.nbr = []) ∧
     1 ≤ (s.pc 0 0).maxDebt ∧ s.stepsOf 0 0 = some wSteps ∧ wSteps.entry 6 0 = some 0) ∧
    (let s := wPc { wAwake with allBank := true, idleFrom := 999999900 }
     s.Idle ∧ s.pcIn 0 0 = true ∧ (s.pc 0 0).allBank = true ∧ (s.pc 0 0).refreshes = true ∧ s.hinge.step = 0 ∧ (s.pc 0 0).queue = [] ∧ (s.pc 0 0).nbrPending = false ∧ (s.pc 0 0).maxDebt = 0 ∧ s.clk.run = true ∧
     (s.pc 0 0).idleFrom + Config.usTicks (((s.refreshCfg 0).map (·.srIdleUs)).getD 0) ≤ s.now) ∧
    (let s := wPc { wAwake with sr := .inSr, srAuto := true, queue := [wQEnt] }
     s.Idle ∧ (s.pc 0 0).srAuto = true ∧ (s.pc 0 0).queue ≠ [] ∧ (s.pc 0 0).sr = .inSr ∧ (s.pc 0 0).wide = none ∧ s.clk.run = true) ∧
    (∀ c ∈ [1000000000 - 1600000, 1000000001 - 1600000], let s := wPc { wAwake with clearLast := some c }
     s.Idle ∧ (s.pc 0 0).clearFrom = some c ∧ s.window 0 0 = 1600000 ∧ (c = 1000000000 - 1600000 → c + s.window 0 0 ≤ s.now) ∧ (c ≠ 1000000000 - 1600000 → s.now < c + s.window 0 0)) := by
  unfold State.Idle
  refine ⟨?_, ?_, ?_, ?_, ?_⟩ <;> decide +kernel

theorem wit_WideRefreshAndDisturbance_neighbours :
    (let s := wPc { wAwake with banks := [(15, { BankSt.reset with nbr := [9, 8], row := some 3 })] }
     s.Idle ∧ (s.disturbCfg 0).any (fun d => d.method == 0) = true ∧ ((s.pc 0 0).bank 15).nbr = [9, 8] ∧ (s.pc 0 0).mitigates = true ∧ s.nbrMet 0 0 15 = false ∧
     s.stepsOf 0 0 = some wSteps ∧ wSteps.entry 7 2 = some 0) ∧
    (∀ left ∈ [none, some [8, 10]], let s := wPcAct 1 { wAwake with banks := [(0, { BankSt.reset with nbr := [9], nbrLeft := left })] }
     s.Idle ∧ (s.disturbCfg 0).any (fun d => d.method != 0 && d.radius == 1) = true ∧ ((s.pc 0 0).bank 0).nbr = [9] ∧ (s.pc 0 0).mitigates = true ∧ s.nbrMet 0 0 0 = false ∧
     s.stepsOf 0 0 = some wSteps ∧ wSteps.entry 8 1 = some 0 ∧ ((s.pc 0 0).bank 0).nbrLeft = left ∧ (s.adjacencyOf 0 0).any (fun a => a.neighbours 9 (s.rowsOf 0 0) 1 != []) = true) ∧
    (let s := wPcAct 0 { wAwake with banks := [(0, { BankSt.reset with nbr := [9] })] }
     s.Idle ∧ (s.disturbCfg 0).any (fun d => d.method != 0 && d.radius == 0) = true ∧ ((s.pc 0 0).bank 0).nbrLeft = none ∧ (s.pc 0 0).mitigates = true ∧ s.nbrMet 0 0 0 = false ∧
     (s.adjacencyOf 0 0).any (fun a => a.neighbours 9 (s.rowsOf 0 0) 0 == []) = true) := by
  unfold State.Idle; decide +kernel

theorem wit_TrainingAndPauses :
    ((wUp 10).Idle ∧ (wUp 10).pcIn 3 95 = true ∧ (wUp 10).trnAllowed 3 95 (wUp 10).phase = true) ∧
    (wRun.Idle ∧ wRun.pcIn 3 95 = true ∧ wRun.trnAllowed 3 95 wRun.phase = false) ∧
    ((wPc wAwake).Idle ∧ (wPc wAwake).pcIn 3 95 = false ∧ ((wPc wAwake).pc 0 0).trnGen = none ∧ ((wPc wAwake).pc 0 0).trnRun = none) ∧
    (let r : TrnRun := { step := 5, start := 4000, bursts := 2 }
     let s := (wPc { wAwake with trnGen := some r }).wr .PC_TRN_CTRL_BUSY 0 0 0 1
     s.Idle ∧ (s.pc 0 0).trnGen = some r ∧ ([(0, 17), (35, 1)].filter fun e => (trainedLanes 0).contains e.1 && e.2 != 0) ≠ []) ∧
    (∀ n ∈ [1000000000, 1000000001], let s := wPc { wAwake with pauseRetryAt := some n }
     s.Idle ∧ (s.pc 0 0).sr = .awake ∧ (s.pc 0 0).refStart ≠ none ∧ (s.pc 0 0).trnHalted = false ∧ (n = 1000000000 → s.pauseTick 0 0 ≤ s.now) ∧ (n ≠ 1000000000 → s.now < s.pauseTick 0 0)) ∧
    (let s := wPc { wAwake with pauseDue := true, refStart := some 1000000000, banks := [(0, BankSt.reset)] }
     s.Idle ∧ s.pauseWanted 0 0 = true ∧ (s.pc 0 0).refreshes = true ∧ (s.pc 0 0).halt = false ∧ (s.pc 0 0).nbrPending = false ∧ ∀ x ∈ (s.pc 0 0).banks, x.2.yields = true) ∧
    (let s := wPc { wAwake with pauseFrom := some 999999940, pauseLen := 60 }
     s.Idle ∧ (s.pc 0 0).pauseFrom = some 999999940 ∧ 999999940 + (s.pc 0 0).pauseLen ≤ s.now ∧ (s.pc 0 0).wide = none ∧ (s.pc 0 0).wideNext = [] ∧
     (s.moveTrims 0 0 [{ lane := 35, read := -3, write := 1 }]).drifted 0 0 = false) := by
  unfold State.Idle
  refine ⟨?_, ?_, ?_, ?_, ?_, ?_, ?_⟩ <;> decide +kernel

theorem wit_ParityAlertsReplay :
    (let s := wPc wAwake
     s.Idle ∧ s.profileOf 0 0 = some wProfile ∧ wProfile.parity = true ∧ (s.pc 0 0).replay = none ∧ (s.pc 0 1).replay = none) ∧
    (let s : State := { wCfg [.profile { wProfile with parity := false }] with geom := [(0, some wId)] }
     s.Idle ∧ (s.profileOf 0 0).any (fun f => !f.parity) = true) ∧
    (let r : ReplaySt := { start := 4000, phase := 2, rows := [], restore := [], held := [] }
     let s := (wPc { wAwake with replay := some r }).wr .PC_REPLAY_STREAK 0 0 0 3
     s.Idle ∧ s.profileOf 0 0 = some wProfile ∧ (s.pc 0 0).replay.isSome = true ∧ 3 ≤ s.rd .PC_REPLAY_STREAK 0 0 0) ∧
    (∀ x ∈ [(5000, 5000), (5001, 5000), (5000, 5001)], let r : ReplaySt := { start := 4000, phase := 0, rows := [], restore := [], held := [], alertTo := x.2 }
     let s := wPc { wAwake with replay := some r, rowBusy := x.1 }
     let u := s.retryTrim 0 0
     s.Idle ∧ s.profileOf 0 0 = some wProfile ∧ (u.pc 0 0).replay = some r ∧ (u.pc 0 0).retry.length < 64 ∧ r.phase = 0 ∧ wProfile.cmdByEffect 3 = some (wCmd 2 false 3) ∧
     u.replayWaited 0 0 r = decide (x.2 = 5000) ∧ u.emergBank 0 0 = none ∧ (u.pc 0 0).emergRuns = false ∧
     (u.pc 0 0).slotFree s.cyc (wCmd 2 false 3).column = decide (x.1 = 5000) ∧ u.legal 0 0 (wCmd 2 false 3).tclass none = true) ∧
    (∀ n ∈ [5000, 5001], let r : ReplaySt := { start := 4000, phase := 2, rows := [(15, 9)], restore := [(15, 9)], held := [] }
     let s := wPc { wAwake with replay := some r, rowBusy := n }
     let u := s.retryTrim 0 0
     s.Idle ∧ s.profileOf 0 0 = some wProfile ∧ (u.pc 0 0).replay = some r ∧ r.phase ≠ 0 ∧ r.restore = [(15, 9)] ∧ wProfile.cmdByEffect 1 = some (wCmd 1 false 1) ∧
     (u.pc 0 0).slotFree s.cyc (wCmd 1 false 1).column = decide (n = 5000) ∧ u.legal 0 0 (wCmd 1 false 1).tclass (some 15) = true) ∧
    (∀ n ∈ [5000, 5001], let y : RetryEnt := { at_ := 3990, words := 1, code := 1, op := 0, raw := false, bank := some 15, row := 9, col := 0, req := 7, sec := 0, also := [], data := 0, poison := false }
     let r : ReplaySt := { start := 4000, phase := 2, rows := [], restore := [], held := [y] }
     let s := wPc { wAwake with replay := some r, rowBusy := n }
     let u := s.retryTrim 0 0
     s.Idle ∧ (u.pc 0 0).replay = some r ∧ (u.pc 0 0).retry.length < 64 ∧ r.restore = [] ∧ wProfile.cmd y.code = some (wCmd 1 false 1) ∧ (wCmd 1 false 1).effect ≠ 5 ∧
     (u.pc 0 0).slotFree s.cyc (wCmd 1 false 1).column = decide (n = 5000) ∧ u.legal 0 0 (wCmd 1 false 1).tclass y.bank = true) ∧
    (let r : ReplaySt := { start := 4000, phase := 2, rows := [], restore := [], held := [] }
     let s := wPc { wAwake with replay := some r }
     s.Idle ∧ s.hinge.step = 0 ∧ (s.pc 0 0).replay = some r ∧ r.phase = 2 ∧ r.restore = [] ∧ r.held = []) := by
  unfold State.Idle
  refine ⟨?_, ?_, ?_, ?_, ?_, ?_, ?_⟩ <;> decide +kernel

/-- One symbol in error: data symbols 0 and 31, check symbols 0 and 3. -/
theorem wit_CodeCorrectsOneSymbol : (31 < 32 ∧ 0 < 255 ∧ 255 < 256 ∧ 3 < 4) ∧
    (decodeSector (xorSymbol 5 31 255) (checkOf 5)).2 = 5 ∧ (decodeSector 5 (checkOf 5 ^^^ BitVec.ofNat 32 (255 * 256 ^ 3))).2 = 5 := by decide +kernel

theorem wit_ReadsReturnAndMerge :
    (let e : QEnt := { wQEnt with r := { wReq with sector := true } }
     let s := wPc { wAwake with queue := [e], flight := [wBurst] }
     s.hinge.step = 0 ∧ s.readReady 0 0 = some e ∧ e.drop = false ∧ s.routeUp e.r = true ∧
     (let e : QEnt := { e with r := { e.r with home := 2 } }
      let s : State := { wPc { wAwake with queue := [e], flight := [wBurst] } with links := [0, 1, 2, 3].map fun i => (i, { LinkSt.reset with failed := true }) }
      s.readReady 0 0 = some e ∧ s.routeUp e.r = false) ∧ (wPc wAwake).readReady 0 0 = none ∧ (wPc wAwake).hinge.step = 0) ∧
    (let e : QEnt := { wQEnt with r := { wReq with sector := true, write := true, mask := 1 } }
     (wPc { wAwake with queue := [e], flight := [wBurst] }).mergeReady 0 0 = some e ∧ (wPc wAwake).mergeReady 0 0 = none) ∧
    (wNoHub.Idle ∧ wNoHub.hubIn 3 = false) ∧
    (∀ n ∈ [0, 1], let s : State := { wRun with leakAt := Tab.put 0 [] 3 (1000000000 - 100000000 + n), levels := [(3 * 96 + 95, 4)] }
     s.Idle ∧ s.hubIn 3 = true ∧ (n = 0 → Tab.get 0 s.leakAt 3 + Config.msTicks (s.eccCfg 3).leakMs ≤ s.now) ∧ (n = 1 → s.now < Tab.get 0 s.leakAt 3 + Config.msTicks (s.eccCfg 3).leakMs)) := by
  unfold State.Idle
  refine ⟨?_, ?_, ?_, ?_⟩ <;> decide +kernel

/-! ### Hinges, power states, ports and heat -/

/-- A package of one stack, cool, whose image enables HP1 and HP4. -/
def wHinge (x : HingeSt) : State :=
  { wOne (wCfg [.hinge { enabled := 0x12, boot := 4, dwellMs := 1 }]) with therm := wCool, hinge := x }

theorem wit_HingesRunTheirSteps_request :
    ((wHinge HingeSt.reset).Idle ∧ 4 < (5 : Fin 8).val ∧ (4 : Fin 8).val ≤ 4 ∧ (wHinge HingeSt.reset).hpEnabled 4 = true ∧ (wHinge HingeSt.reset).hpEnabled 0 = false ∧
     (wHinge HingeSt.reset).hinge.step = 0 ∧ (wHinge HingeSt.reset).clk.hp = 4 ∧ (wHinge HingeSt.reset).hpEnabled 1 = true) ∧
    (let s := wHinge { HingeSt.reset with pend := some 1 }
     s.Idle ∧ s.hinge.pend = some 1 ∧ s.hingeMayStart = true ∧ s.clampHp 1 = 1 ∧ s.hpEnabled (s.clampHp 1) = true ∧ s.clampHp 1 ≠ s.clk.hp ∧
     ({ s with ring := [(1, [{ wReq with home := 3 }])] } : State).ringClear = false ∧ ({ s with ring := [(1, [{ wReq with home := 3 }])] } : State).hingeMayStart = true) ∧
    (let s := wHinge { HingeSt.reset with pend := some 1, doneAt := some 999900001 }
     s.Idle ∧ s.hinge.pend = some 1 ∧ s.hingeMayStart = false) ∧
    (let s := (wHinge { HingeSt.reset with pend := some 1 }).wr .SVC_HINGE_STATUS_CAP 0 0 0 4
     s.Idle ∧ s.hinge.pend = some 1 ∧ s.hingeMayStart = true ∧ s.clampHp 1 ≠ 1 ∧ s.hpEnabled (s.clampHp 1) = true ∧ s.clampHp 1 = s.clk.hp ∧
     (s.wr .SVC_HINGE_STATUS_CAP 0 0 0 3).hingeMayStart = true ∧ (s.wr .SVC_HINGE_STATUS_CAP 0 0 0 3).hpEnabled ((s.wr .SVC_HINGE_STATUS_CAP 0 0 0 3).clampHp 1) = false) := by
  unfold State.Idle
  refine ⟨?_, ?_, ?_, ?_⟩ <;> decide +kernel

theorem wit_HingesRunTheirSteps_switch :
    (∀ n ∈ [1000000000, 1000000001], let s := wHinge { HingeSt.reset with step := 6, target := 1, switchAt := some n }
     s.hinge.switchAt = some n ∧ s.hinge.step = 6 ∧ (n = 1000000000 → n ≤ s.now) ∧ (n ≠ 1000000000 → s.now < n)) ∧
    (let s := wHinge { HingeSt.reset with step := 8, target := 1 }
     s.hinge.step = 8 ∧ s.allPcs ≠ [] ∧ (∀ q ∈ s.allPcs, s.exitedPc q.1 q.2 = true) ∧ s.hinge.runners = [] ∧ s.hinge.waiters = [] ∧ s.hinge.pend = none ∧ s.hinge.pwrTo = none) := by decide +kernel

/-- A running package with clusters as given. -/
def wClusters (l : Tab ClusterSt) : State := { wCfg [.hinge wHp] with clusters := l, fuse := { Fuses.reset with cdieMask := 8, hubMask := 8 } }

theorem wit_GatesAndPowerStates :
    (let s := wClusters []
     s.Idle ∧ s.hinge.pwrTo = none ∧ s.cdieIn 3 = true ∧ s.clk.run = true ∧ (s.cluster 3 99).kernel = none ∧ s.kernelQueued 3 99 = false ∧ (s.cluster 3 99).gated = false ∧ s.rd .CMP_GATE_CFG_ENABLE 3 0 0 = 1 ∧ s.fallHeld = false) ∧
    ((wClusters []).wr .CMP_GATE_CFG_ENABLE 3 0 0 0).rd .CMP_GATE_CFG_ENABLE 3 0 0 = 0 ∧
    (let s := wClusters [(3 * 100 + 99, { ClusterSt.reset with gated := true, kernel := some (0, 0) })]
     (s.cluster 3 99).gated = true ∧ (s.cluster 3 99).kernel.isSome = true ∧ s.riseHeld = false) ∧
    (let s := wClusters []
     s.hpEnabled 4 = true ∧ s.rd .SVC_PWR_STATUS_STATE 0 0 0 = 0 ∧ s.rd .SVC_PWR_CAP_CMP_OFF 0 0 0 = 0 ∧ s.allGated = false ∧
     (∀ v ∈ [16, 17, 18], v % 4 ≤ 2 ∧ v / 4 % 8 ≤ 4) ∧ ∀ v ∈ [19, 23, 20], v % 4 = 3 ∨ 4 < v / 4 % 8) ∧
    (let s := ((wClusters []).wr .SVC_PWR_CAP_CMP_OFF 0 0 0 1).wr .SVC_PWR_STATUS_STATE 0 0 0 1
     s.Idle ∧ s.rd .SVC_PWR_STATUS_STATE 0 0 0 = 1 ∧ s.rd .SVC_PWR_CAP_CMP_OFF 0 0 0 = 1 ∧ s.hpEnabled 4 = true ∧ s.pmbusLive = true ∧ s.matrixOff = true ∧
     (s.wr .SVC_PWR_STATUS_STATE 0 0 0 2).rd .SVC_PWR_STATUS_STATE 0 0 0 = 2 ∧ (s.wr .SVC_PWR_STATUS_STATE 0 0 0 2).rd .SVC_PWR_CAP_CMP_OFF 0 0 0 ≠ 0) ∧
    ((wCfg []).Idle ∧ (wCfg []).hpEnabled 4 = false) ∧
    (let s := (wCfg [.hinge wHp, .pins [{ row := 64, col := 20, func := 0, attr := 0 }]]).wr .SVC_PWR_CAP_CMP_OFF 0 0 0 1
     s.Idle ∧ s.hpEnabled 4 = true ∧ s.pmbusLive = false) := by
  unfold State.Idle
  refine ⟨?_, ?_, ?_, ?_, ?_, ?_, ?_⟩ <;> decide +kernel

/-- A repair in a port with n operations left. -/
def wRepair (kind n : Nat) : RepairSt := { q := { engine := .hub, inst := 3, idx := 7 }, idx := 0, pc := 95, bank := 0, row := 0, lane := 0, kind := kind, persist := false, left := n }

theorem wit_PortsServeTheirUsers :
    (wRun.Idle ∧ (wRun.port 3 2).program = false ∧ (wRun.port 3 2).owner = 0 ∧ (wRun.port 3 2).repair = none ∧ wRun.hinge.step = 0 ∧ wRun.readoutDue 3 2 = true) ∧
    (∀ x ∈ [(2, 2), (2, 3), (1, 2)], let s : State := { wRun with ports := [(3 * 3 + 2, { PortSt.reset with owner := repairOwner x.1, repair := some (wRepair x.1 x.2) })] }
     s.Idle ∧ (s.port 3 2).program = false ∧ 2 ≤ (s.port 3 2).owner ∧ (s.port 3 2).owner ≠ 6 ∧ (s.port 3 2).repair = some (wRepair x.1 x.2) ∧ s.hinge.step = 0 ∧ (s.pc 3 95).anyOpen = false ∧ 1 < x.2) ∧
    (∀ n ∈ [0, 1], let s : State := { wRun with geom := [(3 * 3 + 2, some wId)], ports := [(3 * 3 + 2, { PortSt.reset with program := true, programAt := 999000000 + n, repair := some (wRepair 2 1) })] }
     s.Idle ∧ (s.port 3 2).program = true ∧ s.stackId 3 2 = some wId ∧ (s.port 3 2).direct = none ∧
     (n = 0 → (s.port 3 2).programAt + Config.msTicks wId.pgmMs ≤ s.now) ∧ (n = 1 → s.now < (s.port 3 2).programAt + Config.msTicks wId.pgmMs)) ∧
    (wRun.stackHalted 3 0 = false ∧
     (let s : State := (({ wRun with pcs := (List.range 32).map (fun k => (3 * 96 + 64 + k, { PcSt.reset with halted := true })), therm := [(3 * 3 + 2, { ThermSt.reset with at_ := some 1000000000 })] } : State).wr
        .HUB_1500_DIRECT_CTRL_STACK 3 0 0 2).wr .HUB_1500_DIRECT_CTRL_LEN 3 0 0 4096
      s.Idle ∧ s.rd .HUB_1500_DIRECT_CTRL_STACK 3 0 0 = 2 ∧ s.stackIn 3 2 = true ∧ s.stackHalted 3 2 = true ∧ (s.port 3 2).owner = 0 ∧ (s.port 3 2).repair = none ∧ s.hinge.step = 0 ∧
      s.hubIn 3 = true ∧ s.readoutDue 3 2 = false ∧ s.rd .HUB_1500_DIRECT_CTRL_LEN 3 0 0 ≤ 4096)) ∧
    (wNoHub.Idle ∧ wNoHub.hubIn 3 = false ∧ (wRun.wr .HUB_1500_DIRECT_CTRL_STACK 3 0 0 3).rd .HUB_1500_DIRECT_CTRL_STACK 3 0 0 = 3 ∧ wRun.hubIn 3 = true) := by
  unfold State.Idle
  refine ⟨?_, ?_, ?_, ?_, ?_⟩ <;> decide +kernel

theorem wit_HeatIsReadAndActedOn :
    ((wRun.port 3 2).program = false ∧ (wRun.port 3 2).owner ≤ 1 ∧ wRun.hinge.step = 0 ∧ wRun.stackIn 3 2 = true ∧ wRun.hubIn 3 = true ∧ (wRun.src (3 * 3 + 2)).at_ = none ∧ wRun.tooOld 3 2 = true) ∧
    ([(-40 : Int), 150].length ≤ sensorsOf 8 ∧ (∀ x ∈ [(-41 : Int), 151], x < -40 ∨ 150 < x) ∧ (150 : Int) ∈ [(-40 : Int), 150] ∧ ∀ y ∈ [(-40 : Int), 150], y ≤ 150 ∨ 150 < y) ∧
    (let s : State := { wRun with therm := [(3 * 3 + 2, { ThermSt.reset with at_ := some 999000000 })] }
     s.stackIn 3 2 = true ∧ s.hubIn 3 = true ∧ s.tooOld 3 2 = false) ∧
    (let s : State := { wRun with therm := wCool }
     s.Idle ∧ s.cdieIn 3 = true ∧ s.throttleOut 3 = 0 ∧ s.throttleHeld 3 (s.throttleWanted 3 0) = false ∧ 7 ≠ s.throttleOut 3) ∧
    (let s : State := { wCfg [.thermal { avgMs := 1, hyst := 1, dieEntry := [], stackEntry := [], actions := List.replicate 3 ⟨16, 0, 5, 0⟩ }] with therm := wCool.map (fun x => if x.1 = 19 then (19, { x.2 with tier := 2 }) else x), supply := { wRun.supply with estimate := 1, wanted := 0 } }
     s.Idle ∧ s.throttleOut 3 = 0 ∧ s.throttleHeld 3 (s.throttleWanted 3 0) = true) ∧
    (wClusters []).cdieIn 2 = false := by
  unfold State.Idle
  refine ⟨?_, ?_, ?_, ?_, ?_, ?_⟩ <;> decide +kernel

/-! ### The cores -/

/-- The last core of the package. -/
def wCoreId : CoreId := { die := 3, cluster := 99, core := 63 }

/-- An instruction word from its fields (R295). -/
def wInsn (op mod dst src1 src2 : Nat) : BitVec 64 := BitVec.ofNat 64 (op + mod * 2 ^ 8 + dst * 2 ^ 16 + src1 * 2 ^ 32 + src2 * 2 ^ 48)

def wKernel : KernelSt := { die := 3, q := 0, idx := 0, cas := 0, table := 0, count := 1, argAt := 0, perCore := 0, first := 99, clusters := 1, stop := none, sawBad := false, sawPoison := false }

/-- A core about to issue an instruction, with one argument 256 and the state given. -/
def wCtx (w : BitVec 64) (x : CoreSt) : CoreCtx := { p := posOf wCoreId, x := { x with icache := [w], args := [256] }, kn := wKernel, w := w }

def wCore (w : BitVec 64) (x : CoreSt) : State :=
  { wRun with clusters := [(399, { ClusterSt.reset with kernel := some (0, 0), cleared := true, loaded := true })], kernels := [wKernel],
              cores := [(coreKey (posOf wCoreId), (wCtx w x).x)], therm := wCool }

/-- A stream that has not arrived. -/
def wStream (tag : Nat) (write : Bool) : StreamSt := { tag := tag, write := write, sector := false, slot := 0, sec := 0, msg := ak, marks := 0, sent := true, arrived := none }

theorem wit_SequencerInstructions :
    (∀ i ∈ [(0x00, 0, 0), (0x01, 0, 0), (0x02, 0, 0), (0x02, 1, 0), (0x03, 0x27, 0), (0x04, 7, 0), (0x05, 15, 0), (0x06, 0, 0), (0x07, 255, 0)],
      let w := wInsn i.1 i.2.1 0 1 0
      (wCore w CoreSt.reset).Idle ∧ (wCore w CoreSt.reset).ReadyFor wCoreId (wCtx w CoreSt.reset) i.1 ∧ (wCtx w CoreSt.reset).x.streams = []) ∧
    ((wCtx (wInsn 0x02 0 0 1 0) CoreSt.reset).bits 16 16 = 0 ∧ (wCtx (wInsn 0x02 1 0 1 0) CoreSt.reset).x.args.getD 0 0 ≠ 0 ∧ (wCtx (wInsn 0x04 7 0 0 0) CoreSt.reset).x.args.getD 0 0 % 256 = 0) ∧
    (let x : CoreSt := { CoreSt.reset with streams := [wStream 0 false] }
     (wCore (wInsn 1 0 0 0 0) x).ReadyFor wCoreId (wCtx (wInsn 1 0 0 0 0) x) 1 ∧ (wCtx (wInsn 1 0 0 0 0) x).x.streams ≠ [] ∧
     (wCore (wInsn 5 0 0 0 0) x).ReadyFor wCoreId (wCtx (wInsn 5 0 0 0 0) x) 5 ∧ (wCtx (wInsn 5 0 0 0 0) x).bits 8 4 < x.streams.length) ∧
    (let w := wInsn 6 0 0 0 0
     let s := wCore w CoreSt.reset
     let t : State := { s with cores := s.cores ++ [], clusters := s.clusters }
     t.ReadyFor wCoreId (wCtx w CoreSt.reset) 6 ∧ (t.core { posOf wCoreId with c := 0 }).ended = false ∧ (t.core { posOf wCoreId with c := 0 }).syncs < CoreSt.reset.syncs + 1) ∧
    (let w := wInsn 6 0 0 0 0
     let s : State := { wCore w CoreSt.reset with cores := (List.range 63).map (fun n => (399 * 64 + n, { CoreSt.reset with ended := true })) ++ [(399 * 64 + 63, (wCtx w CoreSt.reset).x)] }
     s.ReadyFor wCoreId (wCtx w CoreSt.reset) 6 ∧ ∀ n < 64, n = 63 ∨ (s.core { posOf wCoreId with c := n }).ended = true) ∧
    (let w := wInsn 8 0 0 0 0
     (wCore w CoreSt.reset).coreCtx (posOf wCoreId) = some (wCtx w CoreSt.reset) ∧ knownOp (wCtx w CoreSt.reset).op = false) := by
  unfold State.Idle State.ReadyFor
  refine ⟨?_, ?_, ?_, ?_, ?_, ?_⟩ <;> decide +kernel

theorem wit_MoverAndElementwiseInstructions :
    ∀ i ∈ [(0x10, 0, 1), (0x11, 0, 0), (0x12, 0, 0), (0x13, 0, 1), (0x30, 0, 2), (0x31, 0, 2), (0x32, 0, 2), (0x33, 0, 3), (0x34, 0, 2), (0x35, 0, 2), (0x36, 0, 1), (0x37, 5, 2),
           (0x38, 0, 3), (0x3E, 2, 2), (0x3F, 0, 1), (0x42, 0, 1), (0x44, 0, 2)],
      let w := wInsn i.1 i.2.1 223 (if i.1 = 0x11 ∨ i.1 = 0x12 then 0 else 0x402F) 0x802F
      let c := wCtx w CoreSt.reset
      let reads := (match i.2.2 with | 0 => [] | 1 => [(c.src1, 0)] | 2 => [(c.src1, 0), (c.src2, 0)] | _ => [(c.dst, 0), (c.src1, 0), (c.src2, 0)])
      let rs := (match i.2.2 with | 0 => [] | 1 => [256 + 47] | 2 => [256 + 47, 512 + 47] | _ => [223, 256 + 47, 512 + 47])
      (wCore w CoreSt.reset).Idle ∧ (wCore w CoreSt.reset).ReadyFor wCoreId c i.1 ∧
      (wCore w CoreSt.reset).OperandsAt c (if i.1 < 0x20 then moverInsn reads (i.1 == 0x13) else tileInsn reads false) 223 rs := by
  unfold State.Idle State.ReadyFor State.OperandsAt
  decide +kernel

theorem wit_TableReductionAndConversionInstructions :
    (∀ i ∈ [(0x3A, 0), (0x3B, 0), (0x3C, 0), (0x3D, 0)],
      let w := wInsn i.1 i.2 223 222 0
      let c := wCtx w CoreSt.reset
      (wCore w CoreSt.reset).Idle ∧ (wCore w CoreSt.reset).ReadyFor wCoreId c i.1 ∧ (wCore w CoreSt.reset).OperandsAt c (slowInsn [(c.src1, 0)] (decide (0x3C ≤ i.1))) 223 [222]) ∧
    (let w := wInsn 0x39 0 223 222 0
     let c := wCtx w CoreSt.reset
     (wCore w CoreSt.reset).ReadyFor wCoreId c 0x39 ∧ (wCore w CoreSt.reset).OperandsAt c (slowInsn [(c.src1, 0), (c.src2, 0), (c.src2, 1), (c.src2, 2)] true) 223 [222, 0, 1, 2] ∧
     dec32 (word32 (c.x.slot 222).data 0) ≠ .nan) ∧
    (let w := wInsn 0x41 0x1C 223 222 0
     let c := wCtx w CoreSt.reset
     (wCore w CoreSt.reset).ReadyFor wCoreId c 0x41 ∧ (wCore w CoreSt.reset).OperandsAt c (tileInsn [(c.src1, 0)] true) 223 [222]) ∧
    (let w := wInsn 0x40 1 223 222 0
     let c := wCtx w CoreSt.reset
     (wCore w CoreSt.reset).ReadyFor wCoreId c 0x40 ∧ c.bits 8 3 < 2 ∧
     (wCore w CoreSt.reset).OperandsAt c { unit := .tile, occupies := 8, usable := 12, reads := [(c.src1, 0), (c.src2, 0)], spread := true } 223 [222, 0]) ∧
    (let w := wInsn 0x40 4 223 221 0
     let c := wCtx w CoreSt.reset
     (wCore w CoreSt.reset).ReadyFor wCoreId c 0x40 ∧ 2 ≤ c.bits 8 3 ∧
     (wCore w CoreSt.reset).OperandsAt c { unit := .tile, occupies := 16, usable := 20, reads := [(c.src1, 0), (c.src1, 1), (c.src2, 0), (c.src2, 1)], spread := true } 223 [221, 222, 0, 1]) ∧
    (∀ t < 4, (formatOf t).top < 2 ^ (formatOf t).width ∧ (formatOf t).top % 2 ^ ((formatOf t).width - 1) ≤ (formatOf t).top) := by
  unfold State.Idle State.ReadyFor State.OperandsAt
  refine ⟨?_, ?_, ?_, ?_, ?_, ?_⟩ <;> decide +kernel

theorem wit_ArraysAndStreams_arrays :
    ∀ i ∈ [(0x20, 0), (0x20, 3), (0x21, 0), (0x21, 0x1F)], ∀ last ∈ [0, 4985, 4986],
      let w := wInsn i.1 i.2 0x402F 0x402E 0x4000
      let x : CoreSt := { CoreSt.reset with arrA := last }
      let s := wCore w x
      let c := wCtx w x
      s.Idle ∧ c.dst / 2 ^ 14 = 1 ∧ c.src1 / 2 ^ 14 = 1 ∧ c.src2 / 2 ^ 14 = 1 ∧ c.x.slotOf c.dst 0 = some 303 ∧ c.x.slotOf c.src1 0 = some 302 ∧ c.x.slotOf c.src2 0 = some 256 ∧
      s.ReadyFor wCoreId c i.1 ∧ (135 - s.throttleLevel wCoreId.die.val) / (8 - s.throttleLevel wCoreId.die.val) = 16 ∧
      (last = 4985 → last + 15 ≤ s.clk.kclk ∧ last + 16 ≤ s.clk.kclk + 1) ∧ (last = 4986 → s.clk.kclk < last + 15) ∧
      c.x.awaits 302 s.clk.kclk = false ∧ c.x.awaits 256 s.clk.kclk = false ∧ c.x.awaits 303 s.clk.kclk = false ∧ c.x.readDue 303 = false := by
  unfold State.Idle State.ReadyFor
  decide +kernel

theorem wit_ArraysAndStreams_throttled :
    let w := wInsn 0x20 0 0x802F 0x802E 0x8000
    let x : CoreSt := { CoreSt.reset with arrB := 4985 }
    let s : State := { wCore w x with aks := [(3, { AksSt.reset with level := 7 })] }
    s.Idle ∧ s.ReadyFor wCoreId (wCtx w x) 0x20 ∧ 4985 + 15 ≤ s.clk.kclk ∧ s.clk.kclk + 1 < 4985 + (135 - s.throttleLevel wCoreId.die.val) / (8 - s.throttleLevel wCoreId.die.val) := by
  unfold State.Idle State.ReadyFor
  decide +kernel

theorem wit_ArraysAndStreams_streams :
    (∀ i ∈ [(0x18, false), (0x19, false), (0x1A, true), (0x1B, true)],
      let w := wInsn i.1 2 223 0 0
      let s := wCore w CoreSt.reset
      let c := wCtx w CoreSt.reset
      s.Idle ∧ c.x.streams = [] ∧ c.x.slotOf (c.bits 16 16) 0 = some 223 ∧ c.x.awaits 223 s.clk.kclk = false ∧ s.ReadyFor wCoreId c i.1 ∧ c.streamAddr i.2 < 2 ^ 47) ∧
    (let y : StreamSt := { wStream 255 false with arrived := some (1, 1), sector := true, sec := 7 }
     let s := wCore 0 { CoreSt.reset with streams := [y] }
     ((s.core (posOf wCoreId)).streams.find? fun y => y.arrived.isSome) = some y ∧ y.arrived = some (1, 1) ∧ y.sector = true ∧ y.sec < 8 ∧ s.kernelOn 3 99 = some wKernel ∧ wKernel.stop = none) ∧
    (let y : StreamSt := { wStream 255 false with arrived := some (1, 2) }
     let s := wCore 0 { CoreSt.reset with streams := [wStream 0 false, y] }
     ((s.core (posOf wCoreId)).streams.find? fun y => y.arrived.isSome) = some y ∧ y.arrived = some (1, 2) ∧ y.sector = false ∧ s.kernelOn 3 99 = some wKernel ∧ wKernel.stop = none) := by
  unfold State.Idle State.ReadyFor
  decide +kernel

/-! ### Kernels, queues and the commands of the engines -/

def wQ (e : Engine) (n : Nat) : QueueId := { engine := e, inst := 0, idx := ⟨n % 32, Nat.mod_lt n (by decide)⟩ }

/-- An entry (R317) from its words, word 0 first. -/
def wEntry : List Nat → Nat
  | [] => 0
  | a :: l => a + 2 ^ 64 * wEntry l

def wCmdOf (idx : Nat) (l : List Nat) : Cmd := newCmd idx (BitVec.ofNat 512 (wEntry l))

/-- The configuration of the queue tests: casement 0 owns the queues given, pool 0 is pane 0's at hub 0, and every temperature is good. -/
def wOwner (qs : List QueueId) (fs : List FrameBody) : State :=
  { wPkg (.doorMap wDoors :: .casement { wCas 0 0 with queues := qs.map queueCode, pools := [0] } :: fs) with
    fns := [(0, { FnSt.reset with mse := true, bme := true })], therm := wCool }

/-- Queue q enabled and holding the commands given. -/
def wHeld (s : State) (q : QueueId) (x : QSt) : State := ({ s with queues := [(queueKey q, x)] } : State).qwr q .QUEUE_CTRL_ENABLE 1

def wServed (q : QueueId) (cs : List Cmd) : State := wHeld (wOwner [q] []) q { QSt.reset with cmds := cs }

def wMx : QueueId := wQ .matrix 31

/-- A DISPATCH of clusters 1 to 3 with a table of one instruction at 256 and arguments at 512. -/
def wDisp : Cmd := wCmdOf 65535 [0x1010, 256 + 2 ^ 48, 512, 0, 1 + 2 ^ 8 * 3]

def wKn : KernelSt := { die := 0, q := 31, idx := 65535, cas := 0, table := 256, count := 1, argAt := 512, perCore := 0, first := 1, clusters := 3, stop := none, sawBad := false, sawPoison := false }

theorem wit_KernelsRunAndComplete :
    (let s := wServed wMx [wDisp]
     s.Starts wMx wDisp 0x10 (s.dispatchChecks wMx) ∧ s.clustersFree 0 wDisp = true ∧ s.dispatchOpen 0 = true ∧ s.hasTurn wMx s.dispatchReady = true) ∧
    (let s : State := { wServed wMx [wDisp] with clusters := [(3, { ClusterSt.reset with kernel := some (0, 0) })] }
     s.Starts wMx wDisp 0x10 (s.dispatchChecks wMx) ∧ s.clustersFree 0 wDisp = false) ∧
    (let s : State := { wRun with clusters := [(399, { ClusterSt.reset with kernel := some (0, 0), cleared := false })] }
     s.Idle ∧ (s.cluster 3 99).kernel.isSome = true ∧ (s.cluster 3 99).cleared = false ∧ s.clusterRuns 3 99 = true) ∧
    (let s : State := { wServed wMx [] with kernels := [wKn], clusters := [(1, { ClusterSt.reset with kernel := some (31, 65535), cleared := true })] }
     let f := s.fetchSectors wKn.via (8 * ((8 * wKn.count + 255) / 256)) wKn.table
     let g := f.1.fetchSectors wKn.via 4 wKn.argAt
     let table := ((wordsOf f.2.2).take wKn.count).map (BitVec.ofNat 64)
     s.kernelOn 0 1 = some wKn ∧ (s.cluster 0 1).cleared = true ∧ (s.cluster 0 1).loaded = false ∧ wKn.stop = none ∧ s.clusterRuns 0 1 = true ∧ s.engineRuns = true ∧
     s.pf1 = false ∧ s.pf2 = false ∧ s.viaOpen wKn.via wKn.table false = true ∧ wKn.perCore = 0 ∧ f.2.1 = .done ∧ g.2.1 = .done ∧ tableBad table = false ∧ ∀ i ∈ countArgs table, (wordsOf g.2.2).getD i 0 ≤ 65535) ∧
    (let kn := { wKn with perCore := 4096 }
     let s : State := { wServed wMx [] with kernels := [kn], clusters := [(1, { ClusterSt.reset with kernel := some (31, 65535), cleared := true })] }
     let f := s.fetchSectors kn.via (8 * ((8 * kn.count + 255) / 256)) kn.table
     let g := f.1.fetchSectors kn.via 4 kn.argAt
     let table := ((wordsOf f.2.2).take kn.count).map (BitVec.ofNat 64)
     s.kernelOn 0 1 = some kn ∧ s.viaOpen kn.via kn.table false = true ∧ kn.perCore ≠ 0 ∧ f.2.1 = .done ∧ g.2.1 = .done ∧ tableBad table = false ∧
     (g.1.startCores kn 1 table (wordsOf g.2.2) 64).2 = .done) ∧
    (let s : State := { wServed wMx [{ wDisp with started := true }] with kernels := [{ wKn with clusters := 0 }] }
     (s.kernels.find? fun y => y.die == 0 && y.q == 31 && (if y.stop.isSome then y.set.all (s.clusterQuiet 0) else y.set.all (s.clusterEnded 0))) = some { wKn with clusters := 0 } ∧
     s.cmd (matrixQ 0 31) 65535 = some { wDisp with started := true } ∧ ({ wDisp with started := true } : Cmd).ended = none) ∧
    (let q := wQ .matrix 5
     let s : State := { wOwner [wMx, q] [] with queues := [(queueKey q, { QSt.reset with cmds := [wDisp] }), (queueKey wMx, { QSt.reset with cmds := [wDisp] })] }
     let t := (s.qwr q .QUEUE_CTRL_ENABLE 1).qwr wMx .QUEUE_CTRL_ENABLE 1
     t.Starts wMx wDisp 0x10 (t.dispatchChecks wMx) ∧ t.hasTurn wMx t.dispatchReady = false) := by
  unfold State.Idle State.Starts
  refine ⟨?_, ?_, ?_, ?_, ?_, ?_, ?_⟩ <;> decide +kernel

def wMv : QueueId := wQ .move 15

/-- Queue q of casement 0 with the registers given: its command ring 2^15 entries, its completion ring 2^5. -/
def wSized (q : QueueId) (x : QSt) : State := ((wHeld (wOwner [q] []) q x).qwr q .QUEUE_SIZE_CMD_LOG2 15).qwr q .QUEUE_SIZE_CPL_LOG2 5

def wNop : Cmd := wCmdOf 32767 [0x1000 + 2 ^ 32 * 0xABCD]

theorem wit_QueuesTakeAndReport :
    (let s := wSized wMv QSt.reset
     s.queueIn wMv = true ∧ Tab.get false s.resetting (s.casOf wMv) = false ∧ 32767 < s.cmdRing wMv ∧ s.cmdRing wMv ≤ 32768 ∧ 31 < s.cplRing wMv ∧ s.cplRing wMv ≤ 32 ∧
     s.qrd wMv .QUEUE_CTRL_ENABLE = 1 ∧ (s.qwr wMv .QUEUE_CTRL_ENABLE 0).qrd wMv .QUEUE_CTRL_ENABLE ≠ 1) ∧
    (let s := wSized wMv { QSt.reset with tail := 32767 }
     let r := s.fetchSectors (s.queueVia wMv) (2 * s.fetchCount wMv) (s.qrd wMv .QUEUE_BASE_ADDR * 64 + 64 * s.qrd wMv .QUEUE_STATUS_HEAD)
     s.queueLive wMv = true ∧ s.engineRuns = true ∧ s.stopped wMv = false ∧ s.pf1 = false ∧ s.pf2 = false ∧ s.pendingCmds wMv = 32767 ∧ (s.queue wMv).dbAt ≠ s.cyc + 1 ∧ s.fetchCount wMv = 4 ∧
     s.viaOpen (s.queueVia wMv) (s.qrd wMv .QUEUE_BASE_ADDR * 64 + 64 * s.qrd wMv .QUEUE_STATUS_HEAD) false = true ∧ refusal r.2.1 = false ∧ (s.queue wMv).cmds = []) ∧
    (let s := (wSized wMv { QSt.reset with tail := 1 }).qwr wMv .QUEUE_BASE_ADDR 32768
     let r := s.fetchSectors (s.queueVia wMv) (2 * s.fetchCount wMv) (s.qrd wMv .QUEUE_BASE_ADDR * 64 + 64 * s.qrd wMv .QUEUE_STATUS_HEAD)
     s.queueLive wMv = true ∧ s.engineRuns = true ∧ s.stopped wMv = false ∧ s.pf1 = false ∧ s.pf2 = false ∧ s.pendingCmds wMv = 1 ∧
     s.viaOpen (s.queueVia wMv) (s.qrd wMv .QUEUE_BASE_ADDR * 64 + 64 * s.qrd wMv .QUEUE_STATUS_HEAD) false = true ∧ refusal r.2.1 = true) ∧
    (∀ i ∈ [(0, 31, false), (1024, 31, false), (0, 0, true)], let c := { wCmdOf 3 [0x1000 + i.1] with ended := some .done }
     let s := (wSized wMv { QSt.reset with cmds := [c], cplHead := i.2.1 }).qwr wMv .QUEUE_STATUS_CPL_TAIL (if i.2.2 then 31 else 0)
     (s.queue wMv).cmds = [c] ∧ c.ended = some .done ∧ (s.queue wMv).nextCmd = none ∧ decide (c.fld 0 10 1 = 1 ∧ Status.done = .done ∧ c.unread = false) = decide (i.1 = 1024) ∧
     s.cplFull wMv = i.2.2 ∧ s.engineRuns = true ∧ s.queueLive wMv = true ∧ (i.2.2 = false →
       s.viaOpen (s.queueVia wMv) (s.qrd wMv .QUEUE_CPL_BASE_ADDR * 16 + 16 * s.qrd wMv .QUEUE_STATUS_CPL_TAIL) true = true ∧ (s.writeRecord wMv c .done).2 = true)) ∧
    (let w : Cmd := { wCmdOf 3 [0x1001] with started := true, wdog := 1000000000 }
     let s := wSized wMv { QSt.reset with cmds := [w] }
     s.boot.stage ≠ .drained ∧ s.cmd wMv w.idx = some w ∧ w.started = true ∧ w.ended = none ∧ w.fault = none ∧ w.startAt + w.wdog ≤ s.now ∧ w.opcode = 1 ∧ wMv.engine ≠ .matrix ∧
     (∀ d ∈ (s.queue wMv).cmds, d.idx ≠ w.idx → s.now < d.startAt + d.wdog) ∧ (wDrained 6).boot.stage = .drained ∧
     ∀ c ∈ (wSized wMv { QSt.reset with cmds := [{ w with wdog := 1000000001 }] } |>.queue wMv).cmds, s.now < c.startAt + c.wdog) ∧
    (let c : Cmd := { wCmdOf 3 [0x1020, 0, 2 ^ 48, 256 + 2 ^ 32] with started := true, flight := 1, next := 1 }
     let s := wSized wMv { QSt.reset with cmds := [c], hostRd := [(3, 0)] }
     (s.queue wMv).hostRd = (c.idx, 0) :: [] ∧ s.cmd wMv c.idx = some c ∧ c.fault = none ∧ c.dst.host = true ∧ s.busMaster (s.casOf wMv) = true ∧ c.started = true ∧ c.ended = none ∧ c.flight = 1) := by
  refine ⟨?_, ?_, ?_, ?_, ?_, ?_⟩ <;> decide +kernel

/-- The request that decode answers, if it takes the offer. -/
def wTaken {α : Type} (x : Sum α Req) : Option Req := match x with | .inr r => some r | .inl _ => none

/-- A COPY of two blocks from 0 to 1024, and a FILL of the last block of the pane. -/
def wCopy : Cmd := wCmdOf 15 [0x1020, 0, 1024, 512 + 2 ^ 32, 0]
def wFill : Cmd := wCmdOf 15 [0x1021, 0, 2096896, 256 + 2 ^ 32, 0, 0x0123456789ABCDEF]

theorem wit_EngineCommandsRun :
    (∀ i ∈ [(0x1000, 0x00), (0x1002, 0x02), (0x1001, 0x01)], ∀ v ∈ [0, 2 ^ 63, 2 ^ 64 - 1], let c := wCmdOf 15 [i.1, 15, v]
      let s := wServed wMv [c]
      s.Starts wMv c i.2 (fun _ => []) ∧ (v = 0 → (syncGet s (s.casOf wMv) (c.fld 1 0 4) + 2 ^ 64 - c.word 2) % 2 ^ 64 < 2 ^ 63) ∧
      (v = 2 ^ 63 → 2 ^ 63 ≤ (syncGet s (s.casOf wMv) (c.fld 1 0 4) + 2 ^ 64 - c.word 2) % 2 ^ 64)) ∧
    (∀ i ∈ [(0x1800, 0x00, Status.badCommand), (0x11002, 0x02, .denied)], let c := wCmdOf 15 [i.1]
      let s := wServed wMv [c]
      (s.queue wMv).nextCmd = some c ∧ s.mayStart wMv c = true ∧ s.startVerdict wMv c [] = some i.2.2 ∧ c.opcode = i.2.1) ∧
    (∀ i ∈ [(wCopy, 0x20, false, 0), (wFill, 0x21, true, 2096896)], let c := i.1
      let s := wServed wMv [c]
      let data : Block := if i.2.2.1 then BitVec.ofNat 2048 (wEntry (List.replicate 32 (c.word 5))) else 0
      ((s.atStart wMv c).queue wMv).issuing = some (s.begun wMv c) ∧ ((s.atStart wMv c).queue wMv).inFlight < 64 ∧ s.doorRoom 0 6 c.reqClass = true ∧
      s.Starts wMv c i.2.1 (s.moveChecks wMv) ∧ c.src.host = false ∧ c.dst.host = false ∧
      (wTaken (s.decode 0 { r := { s.cmdReq wMv c (if i.2.2.1 then 1 else 0) i.2.2.2 i.2.2.1 with data := data }, ovr := none, ovrMay := true })).map
        (fun r => (r.hub == r.home, r.write, r.data)) = some (true, i.2.2.1, data) ∧
      (i.2.2.1 = true → ∀ k < 32, elem data 64 k = c.word 5)) := by
  unfold State.Starts
  refine ⟨?_, ?_, ?_⟩ <;> decide +kernel

/-! ### Pages and expanders -/

def wPq : QueueId := wQ .page 31

/-- A PAGE command over one entry of the table at 1024. -/
def wPgCmd (op first : Nat) : Cmd := wCmdOf 7 [0x1000 + op, 0, 1024, first + 2 ^ 32]

/-- A pool of two pages of one block, which spills to the host. -/
def wPool : PoolSt := { PoolSt.reset with init := true, base := 4096, blocks := 1, pages := 2, spillKind := 1, spillSlots := 4, spillBase := 65536, fresh := 1 }

/-- A package whose pool is wPool and whose entry n of the table is e, with a PAGE command. -/
def wPaged (c : Cmd) (n : Nat) (e : Pte) : State :=
  ((({ wServed wPq [c] with pools := [(0, wPool)] } : State).pteWrite 0 .normal 0 1024 n e).1)

theorem wit_PagesAndExpanders_pages :
    (∀ i ∈ [(1, 4096, 1), (256, 65536 * 28, 1)], let c := wCmdOf 7 [0x1030, 0, i.2.1, i.1 + 2 ^ 32 * i.2.2, 2 ^ 32]
      let s := wServed wPq [c]
      s.Starts wPq c 0x30 (s.poolChecks wPq) ∧ s.poolDecl 0 0 = some (0, 0) ∧ s.paneDef 0 = some wPane ∧ 1 ≤ c.fld 3 0 9 ∧ c.fld 3 0 9 ≤ 256 ∧ c.fld 4 32 2 ≠ 3 ∧ c.fld 2 0 48 % 256 = 0 ∧
      wPane.base ≤ c.fld 2 0 48 ∧ (poolFrom c).end_ ≤ wPane.base + wPane.size ∧ (s.pool (s.casOf wPq) c.pgPool).init = false) ∧
    (let c := wPgCmd 0x31 3
     let s := wPaged c 0 { index := 0, state := 0, pool := 0, slot := 0 }
     let a := s.atStart wPq c
     let y : PoolSt := { wPool with fresh := 2 }
     s.StartsPage wPq c 0x31 ∧ s.poolRefusal 0 0 0 = none ∧ (s.pool 0 0).reserve < (s.pool 0 0).freePages ∧ (s.pool 0 0).takePage = some (1, y) ∧ (a.allUnused wPq c 1).2 = (.done, true) ∧
     (a.allUnused wPq c 1).1.viaOpen (pageVia 0 c.reqClass 0) (c.pgTable + 8 * c.pgFirst) false = true ∧
     (((a.allUnused wPq c 1).1.setPool 0 0 y).pteWrite 0 c.reqClass 0 c.pgTable c.pgFirst { index := 1, state := 1, pool := 0, slot := 0 }).2 = .done) ∧
    (∀ i ∈ [(0x32, 0), (0x32, 1), (0x32, 2), (0x32, 3), (0x32, 4), (0x33, 1), (0x34, 2)], let c := wPgCmd i.1 3
      let s := wPaged c 3 { index := 0, state := i.2, pool := 0, slot := 0 }
      let r := (s.atStart wPq c).pteRead 0 c.reqClass 0 c.pgTable c.pgFirst
      let e := pteOf r.2.2.1
      (s.atStart wPq c).viaOpen (pageVia 0 c.reqClass 0) (c.pgTable + 8 * c.pgFirst) false = true ∧ s.StartsPage wPq c i.1 ∧ r.2.1 = .done ∧ r.2.2.2 = false ∧ e.state = i.2 ∧ s.poolRefusal 0 0 e.pool = none ∧ c.fld 1 5 1 = 0 ∧ (s.pool 0 0).spillKind = 1 ∧ s.busMaster 0 = true ∧
      (i.1 = 0x32 → (r.1.pteWrite 0 c.reqClass 0 c.pgTable c.pgFirst { index := 0, state := 0, pool := 0, slot := 0 }).2 = .done) ∧
      (i.1 = 0x33 → let w := r.1.pteWrite 0 c.reqClass 0 c.pgTable c.pgFirst { e with state := 3, slot := 0 }
        let y : PoolSt := { wPool with slotFresh := 1 }
        (s.pool 0 0).takeSlot = some (0, y) ∧ w.2 = .done ∧ ((w.1.setPool 0 0 y).readPage (pageVia 0 c.reqClass 0) (y.pageAddr 0) y.blocks).2.1 = .done) ∧
      (i.1 = 0x34 → (s.pool 0 0).reserve < (s.pool 0 0).freePages ∧ (s.pool 0 0).takePage = some (1, { wPool with fresh := 2 }) ∧
        ((r.1.setPool 0 0 { wPool with fresh := 2 }).pteWrite 0 c.reqClass 0 c.pgTable c.pgFirst { index := 1, state := 4, pool := 0, slot := 0 }).2 = .done)) ∧
    (let c := wPgCmd 0x35 3
     let s := wServed wPq [c]
     s.Starts wPq c 0x35 (s.tableChecks wPq) ∧ c.pgCount ≠ 0) := by
  unfold State.StartsPage State.Starts
  refine ⟨?_, ?_, ?_, ?_⟩ <;> decide +kernel

/-- An expander of rank 32 that casement 0 owns, with 32 tokens bound in slot 31. -/
def wExp : ExpSt :=
  { ExpSt.reset with owner := some 0, rank := 32, latType := 1, wType := 1, heads := 1, headDim := 16, binds := [(31, some { pt := 1024, pool := 0, len := 32, qbase := 0 })] }

def wExps (c : Cmd) : State := { wServed wPq [c] with expanders := [(7, wExp)], pools := [(0, wPool)] }

theorem wit_PagesAndExpanders_expanders :
    (let c := wCmdOf 7 [0x1036, 7, 2048, 32 + 2 ^ 10 + 2 ^ 12 + 2 ^ 14 + 2 ^ 21 * 16, 0]
     let s := wExps c
     let x := expFrom 0 c
     let w := (s.atStart wPq c).fetchSectors (pageVia 0 c.reqClass 0) (x.weightBytes / 32) c.expWeights
     let b := w.1.fetchSectors (pageVia 0 c.reqClass 0) (if x.hasBias then biasBytes / 32 else 0) c.expBias
     s.ExpQuiet 0 ∧ s.Starts wPq c 0x36 (s.expLoadChecks wPq) ∧ (s.exp 0 c.exp).reqs = [] ∧ w.2.1 = .done ∧ b.2.1 = .done) ∧
    (∀ u ∈ [0, 1], let c := wCmdOf 7 [0x1037, 7 + 2 ^ 4 * 31 + 2 ^ 16 * u, 1024, 2097152]
      let s := wExps c
      s.ExpQuiet 0 ∧ s.Starts wPq c 0x37 (s.expBindChecks wPq) ∧ (∀ r ∈ (s.exp 0 c.exp).reqs, apSlot r.addr ≠ c.bindSlot) ∧ c.fld 1 16 1 = u ∧ s.poolDecl 0 (c.fld 1 12 4) = some (0, 0)) ∧
    (let c := wCmdOf 7 [0x1038, 7]
     let s := wExps c
     s.ExpQuiet 0 ∧ s.Starts wPq c 0x38 (s.expReleaseChecks wPq) ∧ (s.exp 0 c.exp).reqs = []) ∧
    (∀ at_ ∈ [5001, 5002], let r : TileReq := { rank := 6399, tag := 5, addr := 0, cls := 1, cas := 0 }
      let s : State := { wCore 0 { CoreSt.reset with streams := [wStream 5 false] } with expanders := [(31, { wExp with reqs := [r], doneAt := at_ })] }
      (s.exp 3 7).reqs = [r] ∧ (s.exp 3 7).doneAt ≠ 0 ∧ s.clk.run = true ∧ s.pf2 = false ∧ (s.core (rankPos 3 r.rank)).streams = [wStream 5 false] ∧ (wStream 5 false).arrived = none ∧
      s.kernelOn 3 99 = some wKernel ∧ (at_ = 5001 → (s.exp 3 7).doneAt ≤ s.clk.fclk + 1) ∧ (at_ = 5002 → s.clk.fclk + 1 < (s.exp 3 7).doneAt)) := by
  have quiet (c : Cmd) (h : c.started = false) : (wExps c).ExpQuiet 0 := by
    intro p hp hi d hd hs
    have : (wExps c).queue p = { QSt.reset with cmds := [c] } ∨ (wExps c).queue p = QSt.reset := by
      have e : (wExps c).queue p = Tab.get QSt.reset [(queueKey wPq, { QSt.reset with cmds := [c] })] (queueKey p) := rfl
      rw [e]; by_cases k : queueKey wPq = queueKey p <;> simp [Tab.get, Tab.find, k]
    rcases this with g | g <;> rw [g] at hd <;> simp [QSt.reset] at hd
    subst hd; simp [h] at hs
  unfold State.Starts
  refine ⟨⟨quiet _ rfl, ?_⟩, ?_, ⟨quiet _ rfl, ?_⟩, ?_⟩
  · decide +kernel
  · intro u hu c s
    refine ⟨quiet _ rfl, ?_⟩
    have : ∀ u ∈ [0, 1], let c := wCmdOf 7 [0x1037, 7 + 2 ^ 4 * 31 + 2 ^ 16 * u, 1024, 2097152]
      let s := wExps c
      ((s.queue wPq).nextCmd = some c ∧ c.opcode = 0x37 ∧ s.mayStart wPq c = true ∧ s.startVerdict wPq c (s.expBindChecks wPq c) = none) ∧
      (∀ r ∈ (s.exp 0 c.exp).reqs, apSlot r.addr ≠ c.bindSlot) ∧ c.fld 1 16 1 = u ∧ s.poolDecl 0 (c.fld 1 12 4) = some (0, 0) := by decide +kernel
    exact this u hu
  · decide +kernel
  · decide +kernel

/-- A fetch under way for entry 3 of the table at 1024 into page 0. -/
def wFetch : CopySt :=
  { hub := 0, cas := 0, pool := 0, pt := 1024, lpage := 3, page := 0, slot := 0, fetch := true, cmd := none, cls := 1, tag := 4096, left := 1, got := [] }

/-- An expander's page-indirect read that waits for it since t. -/
def wPgWait (t : Nat) : PgWait := { die := 0, msg := { ak with mtype := 4, srcTag := 0x1A20, addr := 1024, lpage := 3 }, at_ := t, len := 100 }

def wCopies (l : List PgWait) : State :=
  { wOwner [wPq] [] with pools := [(0, { wPool with slotFresh := 1 })], copies := [wFetch], pgWaits := l, aks := [(0, { AksSt.reset with state := 6 })] }

theorem wit_PagesAndExpanders_copies :
    (let s := wCopies []
     let x := s.pool 0 0
     s.queues = [] ∧ s.copyAt 0 1024 3 = some wFetch ∧ wFetch.fetch = true ∧ s.pgWaits = [] ∧ wFetch.got = [] ∧ s.hinge.step = 0 ∧ [(0 : Block)].length = x.blocks ∧
     (s.writePage (pageVia 0 .normal 0) (x.pageAddr 0) (fun k => (([0] : List Block)[k]?).getD 0) x.blocks).2 = .done) ∧
    (let s := wCopies [wPgWait 0]
     s.queues = [] ∧ s.copyAt 0 1024 3 = some wFetch ∧ wFetch.fetch = true ∧ s.pgWaits = [wPgWait 0] ∧ (wPgWait 0).msg.addr = 1024 ∧ (wPgWait 0).msg.lpage = 3 ∧ (s.aksal 0).state = 6 ∧ (s.pool 0 0).held = []) ∧
    (∀ late ∈ [0, 1], let g := wPgWait (999999901 - late)
      let s := wCopies [g]
      s.queues = [] ∧ s.pgWaits = [g] ∧ g.die = 0 ∧ (s.aksal 0).state = 6 ∧
      (late = 0 → s.now < g.at_ + g.len) ∧ (late = 1 → g.at_ + g.len ≤ s.now)) := by
  refine ⟨?_, ?_, ?_⟩ <;> decide +kernel

/-! ### Collectives -/

def wRq : QueueId := wQ .ring 15

/-- A RING command of COLL_ID 9 from its opcode, SIZE and RANK: SRC 0, DST 4096, 512 bytes. -/
def wColl (op size rank : Nat) : Cmd := wCmdOf 7 [0x3000 + op, 9 + 2 ^ 32 * size, rank + 2 ^ 17 * 3 + 2 ^ 34 * 4, 0, 4096, 512]

theorem wit_CollectivesRun_starts :
    (∀ i ∈ [(0x40, 1), (0x41, 0), (0x42, 1), (0x43, 0), (0x43, 1), (0x44, 1), (0x45, 0), (0x46, 0), (0x46, 1)], let op := i.1
      let c := if op = 0x42 ∨ op = 0x43 then wCmdOf 7 [0x3000 + op, 9 + 2 ^ 33, i.2 + 2 ^ 17 * 3 + 2 ^ 34 * 4, 0, 4096, 256] else wColl op 2 i.2
      let s := wServed wRq [c]
      let t := s.collStart wRq c
      let own := t.copyOwn wRq c c.ringSrc (if op = 0x42 then c.ringDst + c.rank * c.ringLen else c.ringDst) (if op = 0x42 ∨ op = 0x43 then c.stepBlocks else 0)
      s.notices = [] ∧ s.fabRx = [] ∧ s.coll wRq c.idx = none ∧ s.Starts wRq c op (s.ringChecks wRq) ∧ (op = 0x43 → decide (c.rank = 0) = decide (i.2 = 0) ∧ c.ringSrc ≠ c.ringDst) ∧
      refusal own.2 = false ∧ (op < 0x45 → c.rank = i.2 → own.1.viaOpen (s.ringVia wRq none) (c.sendAt 0) false = true ∧ refusal (own.1.fetchBlock (s.ringVia wRq none) (c.sendAt 0)).2.1 = false) ∧
      (op = 0x46 → decide (c.rank = 0) = decide (i.2 = 0)) ∧
      (op = 0x45 → c.fault = none ∧ c.next < c.putBlocks ∧ c.flight < 64 ∧ s.doorRoom 0 4 ((Config.classOf c.cls).getD .collective) = true ∧
        (wTaken (s.decode 0 { r := s.cmdReq wRq c c.next (c.ringSrc + 256 * c.next) false, ovr := none, ovrMay := true })).map (fun r => r.hub == r.home) = some true)) ∧
    (let c := wCmdOf 7 [0x3043, 9 + 2 ^ 33, 2 ^ 17 * 3 + 2 ^ 34 * 4, 0, 0, 256]
     let s := wServed wRq [c]
     let t := s.collStart wRq c
     s.Starts wRq c 0x43 (s.ringChecks wRq) ∧ c.rank = 0 ∧ c.ringSrc = c.ringDst ∧ t.viaOpen (s.ringVia wRq none) (c.sendAt 0) false = true ∧
     refusal (t.fetchBlock (s.ringVia wRq none) (c.sendAt 0)).2.1 = false) := by
  unfold State.Starts
  refine ⟨?_, ?_⟩ <;> decide +kernel

/-- An ALL_GATHER of two ranks under way that has sent its part and received n blocks. -/
def wGather : Cmd := { wColl 0x42 2 0 with started := true }
def wCollSt (sent recvBlk : Nat) : CollSt :=
  { q := wRq, idx := 7, coll := 9, sent := sent, sentBlk := 0, recv := 0, recvBlk := recvBlk, ready := [], readyTo := 1, deadline := 1000000000, limit := 1000000010, extended := false, tier := 0 }

def wColls (c : Cmd) (x : CollSt) (p : Packet) : State := { wServed wRq [c] with colls := [x], fabRx := [(0, p)] }

theorem wit_CollectivesRun_packets :
    (let p := { pk with mclass := 4, addr := 9, src := 3 }
     (∀ dead ∈ [true, false], let s : State := { wColls wGather (wCollSt 1 0) p with colls := [], deadColls := if dead then [9] else [] }
       s.collFor 0 p = none ∧ s.deadColls.contains (p.addr % 2 ^ 32) = dead) ∧
     (∀ k ∈ [0, 1], let x := wCollSt 1 k
       let s := wColls wGather x p
       s.collFor 0 p = some x ∧ s.coll wRq 7 = some x ∧ s.cmd wRq 7 = some wGather ∧ wGather.opcode = 0x42 ∧ wGather.ended = none ∧ wGather.sendSteps ≤ x.sent ∧ x.recv < wGather.recvSteps ∧ p.step = x.recv % 16 ∧
       s.viaOpen (s.ringVia wRq wGather.dstOvr) (wGather.recvAt x.recv + 256 * x.recvBlk) true = true ∧
       refusal (({ s with fabRx := [] } : State).storeBlock (s.ringVia wRq wGather.dstOvr) (wGather.recvAt x.recv + 256 * x.recvBlk) p.data 0).2 = false ∧
       (k = 0 → x.recvBlk + 1 < wGather.stepBlocks) ∧ (k = 1 → wGather.stepBlocks ≤ x.recvBlk + 1 ∧ x.recv + 1 = wGather.recvSteps ∧ wGather.fault = none))) ∧
    (let p := { pk with mclass := 5, addr := 9, src := 4, step := 2 }
     let c : Cmd := { wColl 0x44 5 1 with started := true }
     let x : CollSt := { wCollSt 1 0 with sentBlk := 0 }
     let s := wColls c x p
     s.collFor 0 p = some x ∧ s.coll wRq 7 = some x ∧ s.cmd wRq 7 = some c ∧ c.ended = none ∧ c.opcode ≠ 0x45 ∧ x.sent < c.sendSteps ∧ x.recv < c.recvSteps ∧ x.recv < 2 ∧
     canSend c { x with ready := x.ready ++ [stepNamed x.sent p.step] } x.sent x.sentBlk = false) ∧
    (let p := { pk with mclass := 6, addr := 9, src := 3, data := noticeBlock 3 0 false 0 }
     let x := wCollSt 1 0
     let s := wColls wGather x p
     s.collFor 0 p = some x ∧ s.coll wRq 7 = some x ∧ s.cmd wRq 7 = some wGather ∧ (s.notices.filter fun n => n.hub == 0).length < 64 ∧ x.tier < noticeTier p) ∧
    (let x := wCollSt 1 0
     let s := wColls wGather x pk
     x.deadline ≤ s.now ∧ (∀ y ∈ s.colls, y.q = wRq → y.idx = 7 → y = x) ∧ (s.cmd wRq 7).map (fun c => (c.ended, c.fault)) = some (none, none) ∧ s.boot.stage ≠ .drained ∧ (wDrained 6).boot.stage = .drained ∧
     ∀ y ∈ (wColls wGather { x with deadline := 1000000001 } pk).colls, s.now < y.deadline) := by
  refine ⟨?_, ?_, ?_, ?_⟩ <;> decide +kernel

/-! ### The commands of the hubs -/

def wHq : QueueId := wQ .hub 7

/-- A HUB command of class MAINT from its opcode and its words 1 and 2. -/
def wHubCmd (op w1 w2 : Nat) : Cmd := wCmdOf 7 [0x4000 + op, w1, w2]

/-- Its state, with pane 0 quiesced and the first pseudo-channel as given. -/
def wMaint (c : Cmd) (x : PcSt) : State := ({ wServed wHq [c] with pcs := [(0, x)] } : State).wr .IMG_QUIESCED_PANES 0 0 0 1

theorem wit_HubCommandsRun_fences :
    (∀ n ∈ [63, 64], let c := wHubCmd 0x60 65536 (2 ^ 36)
      let s : State := { wMaint c wAwake with fences := List.replicate n (0, 65536 + 256 * (64 - n), 2 ^ 36) }
      s.Starts wHq c 0x60 fenceChecks ∧ s.fencesUsed = n) ∧
    (let c := wHubCmd 0x61 65536 (2 ^ 36)
     let s : State := { wMaint c wAwake with fences := [(0, 65536, 2 ^ 36)] }
     s.Starts wHq c 0x61 s.fenceDelChecks) ∧
    (let c := wHubCmd 0x61 65536 (2 ^ 36)
     let s : State := { wMaint c wAwake with fences := [(0, 65792, 2 ^ 36)] }
     (s.queue wHq).nextCmd = some c ∧ c.opcode = 0x61 ∧ s.mayStart wHq c = true ∧ (∀ f ∈ s.fences, f.2 ≠ (65536, 2 ^ 36)) ∧ c.malformed .hub = false ∧ s.cmdDenied wHq c = false ∧ fenceChecks c = []) ∧
    (let c := wHubCmd 0x62 2096896 256
     let s := wMaint c wAwake
     s.Starts wHq c 0x62 (s.scrubChecks wHq) ∧ c.fault = none ∧ c.next < c.scrubBlocks ∧ s.doorRoom 0 5 .maint = true ∧ s.fenced (c.scrubBase + 256 * c.next) 256 = false ∧
     (wTaken (s.decode 0 { r := { s.cmdReq wHq c c.next (c.scrubBase + 256 * c.next) false with cls := .maint }, ovr := none, ovrMay := false })).map (fun r => r.hub == r.home) = some true) := by
  unfold State.Starts
  refine ⟨?_, ?_, ?_, ?_⟩ <;> decide +kernel

theorem wit_HubCommandsRun_stacks :
    (∀ busy ∈ [false, true], let c := wHubCmd 0x63 (2 ^ 7 * 15 + 2 ^ 37) 0
      let s0 := wMaint c wAwake
      let s := if busy then s0.setPort 0 0 { s0.port 0 0 with repair := some (wRepair 1 3) } else s0
      s.Starts wHq c 0x63 (s.repairChecks wHq) ∧ (busy = true → (s.port 0 (stackOf 0)).repair ≠ none) ∧ (busy = false → (s.port 0 (stackOf 0)).repair = none)) ∧
    (let c := wHubCmd 0x64 0 0
     let s := wMaint c { wAwake with trnHalted := true }
     s.Starts wHq c 0x64 (s.retrainChecks wHq) ∧ (∀ k < 2, (s.pc 0 k).trnRun = none) ∧
     (let t := wMaint c { wAwake with trnHalted := true, trnRun := some { step := 0, start := 0 } }
      t.Starts wHq c 0x64 (t.retrainChecks wHq) ∧ (t.pc 0 0).trnRun ≠ none)) ∧
    (let c := wHubCmd 0x65 (2 ^ 7 * 15 + 2 ^ 13 * 255 + 2 ^ 31) 5
     let s := wMaint c wAwake
     s.Starts wHq c 0x65 (s.marchChecks wHq) ∧ ((s.atStart wHq c).marchRows 0 0 5 (s.marchBanks 0 0 c) 1 255).2 = none) ∧
    (let c := wHubCmd 0x65 (2 ^ 7 * 15 + 2 ^ 13 * 255 + 2 ^ 31) 5
     let s := (wMaint c wAwake).wr .IMG_QUIESCED_PANES 0 0 0 0
     (s.queue wHq).nextCmd = some c ∧ c.opcode = 0x65 ∧ s.mayStart wHq c = true ∧ s.cmdDenied wHq c = false ∧ s.startVerdict wHq c (s.marchChecks wHq c) = some .denied) ∧
    (∀ x ∈ [false, true], let c := wHubCmd 0x66 0 0
      let s := wMaint c { wAwake with trnHalted := x }
      s.Starts wHq c 0x66 (s.releaseChecks wHq) ∧ (s.pc 0 0).trnHalted = x) := by
  unfold State.Starts
  refine ⟨?_, ?_, ?_, ?_, ?_⟩ <;> decide +kernel

theorem wit_HubCommandsRun_package :
    (∀ n ∈ [(7, false), (4, true)], let c := wHubCmd 0x67 n.1 0
      let s : State := { wMaint c wAwake with clk := { wRun.clk with hp := 4 } }
      s.Starts wHq c 0x67 (fun _ => []) ∧ c.fld 1 0 3 = n.1 ∧ s.hpEnabled n.1 = n.2 ∧ s.hinge.step = 0 ∧ (n.1 = 4 → n.1 = s.clk.hp)) ∧
    (let c := wHubCmd 0x67 4 0
     let s : State := { wMaint c wAwake with clk := { wRun.clk with hp := 3 } }
     s.Starts wHq c 0x67 (fun _ => []) ∧ s.hpEnabled 4 = true ∧ ¬(s.hinge.step = 0 ∧ 4 = s.clk.hp)) ∧
    (∀ n ∈ [1, 31], let c := wHubCmd 0x68 n 0
      (wMaint c wAwake).Starts wHq c 0x68 caseResetChecks) := by
  unfold State.Starts
  refine ⟨?_, ?_, ?_⟩ <;> decide +kernel

/-! ### The fabric -/

/-- Node 0 of a ring of four in dimension 0: port 3 of the package leads in the + direction; the time reference is node n. -/
def wRoute (n : Nat) : RouteCfg :=
  { nodeId := 0, dimBits := [2, 0, 0, 0], dimSize := [4, 1, 1, 1], timeRef := n, dirMask := List.replicate 4 0, portMap := [255, 255, 255, 0] ++ List.replicate 12 255, accept := 1 }

/-- A package of one pane on that ring with its port 3 as given. -/
def wFab (n : Nat) (x : TrwSt) : State := { wOwner [] [.route (wRoute n)] with trw := [(3, x)] }

def wUpPort : TrwSt := { TrwSt.reset with up := true, streak := 15 }

theorem wit_FabricMovesPackets_ports :
    (let s := (wFab 1 { TrwSt.reset with trying := true }).wr .TRW_PORT_CTRL_ENABLE 0 3 0 1
     s.portsOn 0 = true ∧ s.portEnabled 0 3 = true ∧ (s.port4 0 3).trying = true ∧ (s.port4 0 3).up = false) ∧
    (∀ k ∈ [15, 16], let s := wFab 1 { wUpPort with streak := k }
      (s.port4 0 3).up = true ∧ (k = 16 → 16 ≤ (s.port4 0 3).streak) ∧ (k = 15 → (s.port4 0 3).streak < 16)) ∧
    (∀ late ∈ [0, 1], let s := (wFab 1 { TrwSt.reset with retryAt := 1000000001 - late }).wr .TRW_PORT_CTRL_ENABLE 0 3 0 1
      s.portsOn 0 = true ∧ s.portEnabled 0 3 = true ∧ (s.port4 0 3).up = false ∧ (late = 0 → s.now < (s.port4 0 3).retryAt) ∧ (late = 1 → (s.port4 0 3).retryAt ≤ s.now)) := by
  refine ⟨?_, ?_, ?_⟩ <;> decide +kernel

theorem wit_FabricMovesPackets_routes :
    (∀ i ∈ [(0, true, RouteTo.here), (1, true, .port 3 0 false), (1, false, .none)], let p := { pk with dest := i.1 }
      let s : State := { wFab 1 (if i.2.1 then wUpPort else TrwSt.reset) with fabTx := [(0, p)] }
      s.fabTx = [(0, p)] ∧ p.mclass < 2 ∧ s.routeCfg = some (wRoute 1) ∧ s.routeOf p = i.2.2 ∧ (∀ l ∈ ringRoute 0 0 3, (s.link l).failed = false) ∧
      8 ≤ ({ p with mclass := 8 } : Packet).mclass ∧ { p with tag := 1 } ≠ p ∧ p.wf = true) ∧
    (∀ i ∈ [(0, 1, 0, 0), (1, 1, 2096896, 0), (1, 3, 0, 0), (0, 4, 0, 0), (0, 1, 128, 0), (0, 1, 0, 31)], let p := { pk with mclass := i.1, cls := i.2.1, addr := i.2.2.1, cas := i.2.2.2 }
      let s : State := { wFab 1 wUpPort with fabRx := [(0, p)] }
      let accept := ((s.routeCfg).map (·.accept)).getD 0
      s.fabRx = [(0, p)] ∧ s.fabTx = [] ∧ p.dest = s.ownNode ∧ s.hubIn 0 = true ∧ s.clk.run = true ∧ s.hinge.step = 0 ∧ (i.2.1 = 4 → 4 ≤ p.cls) ∧ (i.2.1 ≤ 3 → p.cls < 4) ∧
      decide (p.addr % 256 = 0) = decide (i.2.2.1 ≠ 128) ∧ accept.getLsbD p.cas = decide (i.2.2.2 = 0) ∧ s.doorRoom 0 4 ((Config.classOf p.cls).getD .normal) = true ∧
      (i.2.1 ≤ 3 → i.2.2.1 ≠ 128 → i.2.2.2 = 0 →
        (wTaken (s.decode 0 { r := requestOf p 0 3 (p.mclass == 1), ovr := overrideOf p, ovrMay := p.mclass == 1 })).map (fun r => r.hub == r.home) = some true)) ∧
    (let p := { pk with mclass := 2, tag := 4096, addr := 65536 }
     let s : State := { wCopies [] with fabRx := [(0, p)] }
     s.fabRx = [(0, p)] ∧ (s.copies.find? fun c => c.tag = p.tag ∧ c.fetch = true) = some wFetch ∧ s.hinge.step = 0 ∧ p.status = 0 ∧ ({ s with hinge := { s.hinge with step := 8 } } : State).hinge.step ≠ 0) ∧
    (let p := { pk with mclass := 3, tag := 64 * 15 + 7 }
     let c : Cmd := { wColl 0x45 2 0 with started := true, next := 2, flight := 1 }
     let s : State := { wServed wRq [c] with fabRx := [(0, p)] }
     s.fabRx = [(0, p)] ∧ p.tag < 4096 ∧ s.putFor p.tag = some (wRq, c) ∧ s.cmd wRq c.idx = some c ∧ c.flight = 1 ∧ c.putBlocks ≤ c.next ∧ c.fault = none ∧ c.detail = 0 ∧ statusOf p.status = .done) := by
  refine ⟨?_, ?_, ?_, ?_⟩ <;> decide +kernel

/-- A TIME packet with the stamps given. -/
def wTime (x : TimeStamps) : Packet := { pk with mclass := 7, src := 1, data := stampData x }

theorem wit_FabricMovesPackets_time :
    (∀ late ∈ [0, 1], let s0 := wFab 1 wUpPort
      let s : State := { s0 with timeAsk := some (999999901 - late, 100) }
      s.boot.stage = .running ∧ (late = 0 → s.now < 999999901 - late + 100) ∧ (late = 1 → 999999901 - late + 100 ≤ s.now)) ∧
    ((wFab 0 wUpPort).timeAsk = none ∧ (wFab 0 wUpPort).isTimeRef = true ∧ (wFab 1 wUpPort).isTimeRef = false ∧ (wFab 1 wUpPort).timeParent = some (1, 0)) ∧
    (let p := wTime { t1 := 2 ^ 64 - 1, t2 := 0, t3 := 0, p := 0, answer := false, aligned := false }
     let s : State := { wFab 1 wUpPort with fabRx := [(0, p)] }
     s.fabRx = [(0, p)] ∧ p.mclass = 7 ∧ p.dest = s.ownNode ∧ (stampsOf p).answer = false ∧ s.time64 < 2 ^ 64) ∧
    (∀ i ∈ [(5 : Int), 6, -5, -6], let p := wTime { t1 := 1000000000, t2 := 1000000000, t3 := 1000000000, p := i, answer := true, aligned := true }
      let s : State := ({ wFab 1 wUpPort with fabRx := [(0, p)], timeAsk := some (1000000000, 100), joined := true } : State).wr .SVC_TIME_SYNC_ALIGNED 0 0 0 1
      (stampsOf p).answer = true ∧ (stampsOf p).aligned = true ∧ (1000000000 : Int) + s.clk.stepped = (stampsOf p).t1 ∧ s.isTimeRef = false ∧ s.joined = true ∧ s.rd .SVC_TIME_SYNC_ALIGNED 0 0 0 = 1 ∧
      i = (((stampsOf p).t2 - (stampsOf p).t1 : Int) - ((s.time64 : Int) - (stampsOf p).t3)) / 2 + (stampsOf p).p) ∧
    (let s := wFab 1 wUpPort
     s.joined = false ∧ s.bit .SVC_TIME_SYNC_ALIGNED 0 0 0 = false ∧ s.traceOff = true) ∧
    (∀ i ∈ [(false, 0), (true, 3999), (true, 4000)], let w : QEnt := { wQEnt with r := { wReq with write := true } }
      let s0 := wPc { wAwake with queue := if i.1 then [w] else [] }
      let t0 := s0.now - i.2
      let s : State := { s0 with boot := { s0.boot with stage := .drained }, supply := { s0.supply with drainFrom := some t0 } }
      s.supply.drainFrom = some t0 ∧ s.draining = true ∧ (s.pc 0 0).drained = false ∧ s.pcIn 0 0 = true ∧ (s.pc 0 0).sr = .awake ∧ decide (s.writesLeft 0 0 = []) = !i.1 ∧
      decide (s.now < t0 + Config.usTicks 40) = decide (i.2 < 4000)) := by
  refine ⟨?_, ?_, ?_, ?_, ?_, ?_⟩ <;> decide +kernel

/-! ### The Aksal links -/

/-- A package on whose link to compute die 0, ACTIVE, a request waits. -/
def wLink (m : AkReq) : State := { wOwner [] [] with aks := [(0, { AksSt.reset with state := 6, tx := [m] })] }

theorem wit_AksalCarriesRequests_requests :
    (∀ i ∈ [(3, 0), (0, 128), (0, 16)], let m := { ak with mtype := i.1, cls := if i.1 = 3 then 3 else 1, addr := i.2 }
      (wLink m).takesIn 0 m = true ∧ (i.1 = 3 → msgBad m 256 = some .badCommand ∧ msgBad m 32 = some .badCommand ∧ msgBad m 1 = some .badCommand) ∧
      (i.2 = 128 → msgBad m 256 = some .badAlignment ∧ msgBad m 32 = none) ∧ (i.2 = 16 → msgBad m 32 = some .badAlignment)) ∧
    (∀ i ∈ [(2, 0), (0, 2096896)], let m := { ak with mtype := i.1, addr := i.2 }
      let s := wLink m
      s.takesIn 0 m = true ∧ s.draining = false ∧ s.isResetting m.cas = false ∧ msgBad m 256 = none ∧ msgBad m 32 = none ∧
      ∀ w ∈ [(true, true), (true, false), (false, true), (false, false)],
        (wTaken (s.decode 0 { r := State.dieReq 0 m m.addr w.1 w.2, ovr := none, ovrMay := false })).isSome = true) ∧
    (let m := { ak with addr := 2097152 }
     let s := wLink m
     s.takesIn 0 m = true ∧ msgBad m 256 = none ∧ (wTaken (s.decode 0 { r := State.dieReq 0 m m.addr true false, ovr := none, ovrMay := false })).isSome = false) ∧
    (ak.wf = true ∧ akR.wf = true ∧ ({ ak with mtype := 3, lpage := 3 } : AkReq).wf = true ∧ (2 ^ 464 - 1 < 2 ^ 464)) := by
  refine ⟨?_, ?_, ?_, ?_⟩ <;> decide +kernel

theorem wit_AksalCarriesRequests_pages :
    (let m := { ak with mtype := 4, pool := 1, addr := 1024 }
     (wLink m).takesIn 0 m = true ∧ msgBad m 1 = none ∧ (wLink m).poolDecl m.cas m.pool = none) ∧
    (∀ b ∈ [0, 1], ∀ st ∈ [0, 4, 1], let m := { ak with mtype := 4, addr := 1024, block := b, lpage := 3 }
      let s := (({ wLink m with pools := [(0, wPool)] } : State).pteWrite 0 .normal 0 1024 3 { index := 0, state := st, pool := 0, slot := 0 }).1
      let r := (s.takeTx 0 m).pteRead 0 .normal m.cas m.addr m.lpage
      let e := pteOf r.2.2.1
      s.takesIn 0 m = true ∧ s.draining = false ∧ s.isResetting m.cas = false ∧ msgBad m 1 = none ∧ (s.poolDecl m.cas m.pool).isSome = true ∧
      decide (m.block < (s.pool m.cas m.pool).blocks) = decide (b = 0) ∧
      r.2.1 = .done ∧ r.2.2.2 = false ∧ s.poolDecl m.cas e.pool ≠ none ∧ e.state = st ∧
      (b = 0 → (wTaken (s.decode 0 { r := State.dieReq 0 m ((s.pool m.cas e.pool).pageAddr e.index + 256 * m.block) false false, ovr := none, ovrMay := false })).isSome = true)) := by
  refine ⟨?_, ?_⟩ <;> decide +kernel

theorem wit_AksalCarriesRequests_links :
    (∀ w ∈ [false, true], let m := { akR with srcTag := 0x18FF, tag := 5 }
      let s : State := { wCore 0 { CoreSt.reset with streams := [wStream 5 w] } with aks := [(3, { AksSt.reset with state := 6, rx := [m] })] }
      let p := rankPos 3 m.srcTag
      m ∈ (s.aksal 3).rx ∧ (s.aksal 3).state = 6 ∧ m.srcTag < 0x1900 ∧ m.status = .done ∧ (s.core p).streams = [wStream 5 w] ∧ (wStream 5 w).sent = true ∧ (wStream 5 w).arrived = none ∧
      s.kernelOn p.d p.k = some wKernel ∧ (wStream 5 w).write = w) ∧
    (∀ late ∈ [0, 1], let s : State := { wLink ak with slices := [(23, { SliceSt.reset with want := some 63, nakAt := 4969 - late })] }
      (s.aksal 0).state = 6 ∧ s.clk.run = true ∧ (s.slice 0 false 7).want = some 63 ∧ (late = 0 → s.cyc < (s.slice 0 false 7).nakAt + 32) ∧ (late = 1 → (s.slice 0 false 7).nakAt + 32 ≤ s.cyc)) ∧
    (∀ k ∈ [15, 16], let s : State := { wLink ak with slices := [(31, { SliceSt.reset with streak := k })] }
      (s.aksal 0).state = 6 ∧ (s.slices.any fun x => x.1 / 32 == 0 && decide (16 ≤ x.2.streak)) = decide (k = 16) ∧ s.atPhaseStep = false ∧
      (s.aksal 0).cdRst = true ∧ (s.aksal 0).cdPwr = true ∧ (s.aksal 0).hbRst = true ∧ (s.aksal 0).hbPwr = true) ∧
    (∀ k < 4, let s : State := { wRun with aks := [(3, { AksSt.reset with cdPwr := k != 0, cdRst := k != 1, hbPwr := k != 2, hbRst := k != 3 })] }
      (s.aksal 3).state = 0 ∧ s.linksLive = true ∧ (s.aksal 3).cdPwr = (k != 0) ∧ (s.aksal 3).cdRst = (k != 1) ∧ (s.aksal 3).hbPwr = (k != 2) ∧ (s.aksal 3).hbRst = (k != 3)) ∧
    (∀ st ∈ [1, 2, 5], ∀ ok ∈ [false, true], ∀ late ∈ [0, 1], let s : State := { wRun with aks := [(3, { AksSt.reset with state := st, dieOk := ok, hubOk := ok, stateAt := 1000000001 - Config.msTicks 4 - late })] }
      1 ≤ (s.aksal 3).state ∧ (s.aksal 3).state ≤ 5 ∧ (s.aksal 3).state = st ∧ (s.aksal 3).dieOk = ok ∧ (s.aksal 3).hubOk = ok ∧ s.boot.stage ≠ .bringUp ∧ 4 < [0, 1, 2, 3, 4].length ∧
      decide (s.now < (s.aksal 3).stateAt + Config.msTicks 4) = decide (late = 0)) := by
  refine ⟨?_, ?_, ?_, ?_, ?_⟩ <;> decide +kernel

end Sys2Proof.Tests
end

section
/-! SUPPORT. Memory as a map from keys to bytes: what a write leaves, and why the canonical form is one list for each map (R3, R118). -/

namespace Sys2Proof.Machine

/-- A byte reads what was written at its key, and elsewhere as before. -/
theorem memRead_memWrite (m : List Host.Cell) (a b : Nat) (v : Byte) : memRead (memWrite m a v) b = if b = a then v else memRead m b := by
  simp only [memRead, memWrite, Tab.get_put, eq_comm]

/-- Reading a list whose first entry is known. -/
theorem memRead_cons (a b : Nat) (x : Byte) (t : List Host.Cell) : memRead ((a, x) :: t) b = if a = b then x else memRead t b := by
  simp only [memRead, Tab.get, Tab.find]
  split <;> rfl

/-- A canonical list: its first byte is not the unwritten one, the keys behind it are greater, and the rest is canonical. -/
theorem memory_wf_cons {a : Nat} {x : Byte} {t : List Host.Cell} (h : Memory.wf ((a, x) :: t)) :
    x ≠ unwritten ∧ (∀ c ∈ t, a < c.1) ∧ Memory.wf t := by
  obtain ⟨hrise, hall⟩ := h
  obtain ⟨hgt, htail⟩ := (keysRise_cons a x t).mp hrise
  simp only [List.all_cons, Bool.and_eq_true, bne_iff_ne] at hall
  exact ⟨hall.1, hgt, htail, hall.2⟩

/-- A key below every listed one reads as unwritten. -/
theorem memRead_below {m : List Host.Cell} {b : Nat} (h : ∀ c ∈ m, b < c.1) : memRead m b = unwritten := by
  induction m with
  | nil => rfl
  | cons e t ih =>
    obtain ⟨a, x⟩ := e
    have hlt : b < a := h (a, x) List.mem_cons_self
    rw [memRead_cons, if_neg (Nat.ne_of_gt hlt)]
    exact ih fun c hc => h c (List.mem_cons_of_mem _ hc)

/-- In two canonical lists that read alike, no key stands first in one and below every key of the other. -/
theorem first_key_not_below {a : Nat} {x : Byte} {t n : List Host.Cell} (hm : Memory.wf ((a, x) :: t))
    (h : ∀ b, memRead ((a, x) :: t) b = memRead n b) : ¬ ∀ c ∈ n, a < c.1 := by
  intro hlt
  have hread := h a
  rw [memRead_cons, if_pos rfl, memRead_below hlt] at hread
  exact (memory_wf_cons hm).1 hread

/-- In two canonical lists that read alike, neither first key is below the other. -/
theorem first_key_le {a b : Nat} {x y : Byte} {t t' : List Host.Cell} (hm : Memory.wf ((a, x) :: t)) (hn : Memory.wf ((b, y) :: t'))
    (h : ∀ c, memRead ((a, x) :: t) c = memRead ((b, y) :: t') c) : b ≤ a := by
  obtain ⟨-, hbt, -⟩ := memory_wf_cons hn
  by_contra hlt
  refine first_key_not_below hm h fun c hc => ?_
  rcases List.mem_cons.mp hc with rfl | hc
  · exact Nat.lt_of_not_le hlt
  · exact Nat.lt_trans (Nat.lt_of_not_le hlt) (hbt c hc)

/-- Two canonical lists that read alike at every key are one list. -/
theorem memory_ext {m n : List Host.Cell} (hm : Memory.wf m) (hn : Memory.wf n) (h : ∀ a, memRead m a = memRead n a) : m = n := by
  induction m generalizing n with
  | nil =>
    cases n with
    | nil => rfl
    | cons e t => exact absurd (fun c hc => nomatch hc) (first_key_not_below hn fun b => (h b).symm)
  | cons e t ih =>
    obtain ⟨a, x⟩ := e
    obtain ⟨-, hat, ht⟩ := memory_wf_cons hm
    cases n with
    | nil => exact absurd (fun c hc => nomatch hc) (first_key_not_below hm h)
    | cons e' t' =>
      obtain ⟨b, y⟩ := e'
      obtain ⟨-, hbt, ht'⟩ := memory_wf_cons hn
      have hab : a = b := Nat.le_antisymm (first_key_le hn hm fun c => (h c).symm) (first_key_le hm hn h)
      subst hab
      have hxy : x = y := by simpa [memRead_cons] using h a
      have htt : ∀ c, memRead t c = memRead t' c := fun c => by
        by_cases hc : a = c
        · rw [← hc, memRead_below hat, memRead_below hbt]
        · simpa [memRead_cons, hc] using h c
      rw [hxy, ih ht ht' htt]

/-- Settles O8: a write is one put of the sparse table, and the canonical form lists each written key once, in order. -/
theorem memoryReadsBackWrites : Obligations.MemoryReadsBackWrites :=
  ⟨fun m a b v hm => ⟨memRead_memWrite m a b v, memWrite_wf a v hm⟩, fun _ _ hm hn h => memory_ext hm hn h⟩

end Sys2Proof.Machine
end

section
/-! SUPPORT. Cold resets: what a cold reset leaves of the registers, and that it leaves a package with nothing under way (R8, R82, R90). -/

namespace Sys2Proof.Machine

/-! ## Registers after a reset -/

/-- A stored field whose key is filtered out reads its Reset value, any other reads as before. -/
theorem regFind_filter (l : List (FKey × Nat)) (p : FKey → Bool) (k : FKey) :
    regFind (l.filter fun x => p x.1) k = if p k = true then regFind l k else resetOf k.f := by
  induction l with
  | nil => simp [regFind]
  | cons e t ih =>
    obtain ⟨k', v⟩ := e
    by_cases hk : k' = k
    · subst hk
      by_cases hp : p k' = true <;> simp [regFind, hp, ih]
    · by_cases hp : p k' = true <;> simp [regFind, hp, hk, ih]

/-- The fields that a cold reset keeps, as a list. -/
def coldKeptFields : List Fld :=
  [.SVC_TIME_SYNC_PERIOD_US, .SVC_TIME_SYNC_ALIGNED, .SVC_TIME_SYNC_DRIFT, .SVC_TIME_SYNC_OFFSET, .SVC_CLK_STATUS_REF_LOSS, .SVC_BOOT_SEL_PREFER]

theorem keptCold_iff (f : Fld) : keptCold f = true ↔ f ∈ coldKeptFields := by
  unfold keptCold
  split <;> simp_all [coldKeptFields]

/-- The registers of a cold reset before CAUSE and RATE are set: the kept fields, and the error of an abandoned hinge. -/
theorem coldReset_rd_other (s : State) (cause : Nat) {f : Fld} (d i j : Nat) (hc : f ≠ .SVC_BOOT_STATUS_CAUSE) (hr : f ≠ .SVC_SLEW_LIMIT_RATE)
    (he : f = .SVC_HINGE_STATUS_ERROR → s.hinge.step = 0) :
    (s.coldReset cause false).rd f d i j = if f ∈ coldKeptFields then s.rd f d i j else resetOf f := by
  unfold State.coldReset
  simp only [State.rd_wr_fld _ hc.symm, State.rd_wr_fld _ hr.symm]
  have hbase : ∀ t : State, t.regs = s.regs.keep (fun k => keptCold k.f || (false && keptWatchdog k.f)) →
      t.rd f d i j = if f ∈ coldKeptFields then s.rd f d i j else resetOf f := fun t ht => by
    simp only [State.rd, ht, RegFile.keep, Bool.false_and, Bool.or_false, regFind_filter s.regs.vals (fun k => keptCold k.f), keptCold_iff]
  split
  · exact hbase _ rfl
  · next hstep =>
    rw [State.hingeError, State.rd_wr_fld _ fun e => hstep (he e.symm)]
    exact hbase _ rfl

theorem coldReset_cause (s : State) (cause : Nat) (errs : Bool) : (s.coldReset cause errs).rd .SVC_BOOT_STATUS_CAUSE 0 0 0 = cause := by
  unfold State.coldReset
  rw [State.rd_wr_fld _ (by decide), State.rd_wr_self]

theorem coldReset_rate (s : State) (cause : Nat) (errs : Bool) :
    (s.coldReset cause errs).rd .SVC_SLEW_LIMIT_RATE 0 0 0 = 2 * 2 ^ s.board.straps.slew.val := by
  unfold State.coldReset
  rw [State.rd_wr_self, strapRate]

/-- A hinge that a cold reset abandons leaves its error. -/
theorem coldReset_hinge_error {s : State} (cause : Nat) (errs : Bool) (h : s.hinge.step ≠ 0) :
    (s.coldReset cause errs).rd .SVC_HINGE_STATUS_ERROR 0 0 0 = 2 := by
  unfold State.coldReset
  rw [State.rd_wr_fld _ (by decide), State.rd_wr_fld _ (by decide), if_neg h, State.hingeError, State.rd_wr_self]

/-! ## The rest of the package -/

/-- A cold reset, up to its registers: what it keeps of the state, everything else as at reset. -/
theorem coldReset_parts (s : State) (cause : Nat) (errs : Bool) : ∃ R : RegFile,
    s.coldReset cause errs = { State.reset with
      clk := { State.reset.clk with t64 := s.clk.t64, steerAt := s.clk.steerAt, stepped := s.clk.stepped }
      fuse := s.fuse, fuseMap := s.fuseMap, regs := R
      board := { s.board with trip := false }
      supply := { State.reset.supply with pf1Filt := s.supply.pf1Filt, pf2Filt := s.supply.pf2Filt, recovAt := s.supply.recovAt, surgeAt := s.supply.surgeAt,
                                          pf1At := s.supply.pf1At, cause := cause, keep := s.supply.keep && cause != 1 }
      pf1 := s.pf1, out := s.out, free := s.free, pending := s.pending } := by
  unfold State.coldReset
  split <;> exact ⟨_, rfl⟩

theorem coldReset_board (s : State) (cause : Nat) (errs : Bool) : (s.coldReset cause errs).board = { s.board with trip := false } := by
  obtain ⟨R, hR⟩ := coldReset_parts s cause errs
  rw [hR]

theorem coldReset_idle (s : State) (cause : Nat) (errs : Bool) : (s.coldReset cause errs).Idle := by
  obtain ⟨R, hR⟩ := coldReset_parts s cause errs
  rw [hR]
  exact ⟨rfl, rfl, rfl, rfl, rfl, rfl, rfl, rfl⟩

theorem coldReset_done (s : State) (cause : Nat) (errs : Bool) : (s.coldReset cause errs).done = s.coldReset cause errs :=
  done_of_idle (coldReset_idle s cause errs)

theorem vaonPowerUp_done (s : State) : s.vaonPowerUp.done = s.vaonPowerUp := done_of_idle ⟨rfl, rfl, rfl, rfl, rfl, rfl, rfl, rfl⟩

/-! ## Writes of SVC_RST_CTRL -/

theorem rst_key_field (v : BitVec 32) : v.toNat / 2 ^ 16 % 2 ^ 16 = v.toNat / 65536 := by
  have := v.isLt
  omega

/-- Without its key a write of SVC_RST_CTRL does nothing. -/
theorem rstCtrl_without_key (s : State) {v : BitVec 32} (h : v.toNat / 65536 ≠ 0x5AC3) : s.rstCtrl v.toNat = s := by
  rw [State.rstCtrl, rst_key_field, rstKey, if_pos h]

/-- With its key and COLD it is a cold reset, whatever WARM says. -/
theorem rstCtrl_cold (s : State) {v : BitVec 32} (h : v.toNat / 65536 = 0x5AC3) (hc : v.getLsbD 1 = true) :
    s.rstCtrl v.toNat = s.coldReset 5 false := by
  rw [State.rstCtrl, rst_key_field, rstKey, if_neg (not_not_intro h), BitVec.testBit_toNat, if_pos hc]

/-! ## Who starts a cold reset -/

theorem exec_pkgRstN_fall {s : State} (st : Straps) (h : s.board.pkgRst = true) :
    exec (.pkgRstN false st) s = .next ((s.setBoard fun x => { x with pkgRst := false }).coldReset 1 false) := by
  show Host.Outcome.next (s.pkgRstN false st).done = _
  rw [State.pkgRstN, h, if_neg (by decide), if_neg (by decide), coldReset_done]

theorem exec_kaPgLoss_fall {s : State} (h : s.board.kaPg = true) :
    exec .kaPgLoss s = .next ((s.setBoard fun x => { x with kaPg := false }).coldReset 0 false) := by
  show Host.Outcome.next s.kaPgLoss.done = _
  rw [State.kaPgLoss, if_pos h, coldReset_done]

theorem exec_cold_with_key (s : State) {v : BitVec 32} (h : v.toNat / 65536 = 0x5AC3) (hc : v.getLsbD 1 = true) :
    exec (.cold v) s = .next (s.coldReset 5 false) := by
  show Host.Outcome.next (s.rstCtrl v.toNat).done = _
  rw [rstCtrl_cold s h hc, coldReset_done]

theorem exec_rst_without_key {s : State} {v : BitVec 32} (h : v.toNat / 65536 ≠ 0x5AC3) (hi : s.Idle) :
    exec (.cold v) s = .next s ∧ exec (.warm v) s = .next s := by
  have hdone : (s.rstCtrl v.toNat).done = s := by rw [rstCtrl_without_key s h, done_of_idle hi]
  exact ⟨congrArg Host.Outcome.next hdone, congrArg Host.Outcome.next hdone⟩

theorem exec_vaonPowerUp (s : State) : exec .vaonPowerUp s = .next s.vaonPowerUp := congrArg Host.Outcome.next (vaonPowerUp_done s)

/-- What a cold reset keeps and leaves, between the state it starts from and the state after it (R8, R82, R90). -/
def State.ColdFrom (s t : State) (cause : Nat) : Prop :=
  t.rd .SVC_BOOT_STATUS_CAUSE 0 0 0 = cause ∧ t.rd .SVC_SLEW_LIMIT_RATE 0 0 0 = 2 * 2 ^ s.board.straps.slew.val ∧
  (∀ f d i j, f ∈ coldKeptFields → t.rd f d i j = s.rd f d i j) ∧
  (∀ f d i j, f ∉ coldKeptFields → f ≠ .SVC_BOOT_STATUS_CAUSE → f ≠ .SVC_SLEW_LIMIT_RATE → (f = .SVC_HINGE_STATUS_ERROR → s.hinge.step = 0) →
    t.rd f d i j = resetOf f) ∧
  (s.hinge.step ≠ 0 → t.rd .SVC_HINGE_STATUS_ERROR 0 0 0 = 2) ∧ t.pf1 = s.pf1 ∧ t.supply.pf1At = s.supply.pf1At ∧
  t.now = s.now ∧ t.time64 = s.time64 ∧ t.fuse = s.fuse ∧ t.fuseMap = s.fuseMap ∧ t.cfg = none ∧ t.mem = [] ∧ t.Idle ∧ t.boot.stage = .cold ∧ t.pending = s.pending

theorem coldReset_coldFrom (s : State) (cause : Nat) : s.ColdFrom (s.coldReset cause false) cause := by
  have hkept : ∀ f ∈ coldKeptFields, f ≠ .SVC_BOOT_STATUS_CAUSE ∧ f ≠ .SVC_SLEW_LIMIT_RATE ∧ f ≠ .SVC_HINGE_STATUS_ERROR := by decide
  refine ⟨coldReset_cause s cause _, coldReset_rate s cause _, fun f d i j hf => ?_, fun f d i j hf hc hr he => ?_, coldReset_hinge_error cause _, ?_⟩
  · obtain ⟨hc, hr, he⟩ := hkept f hf
    rw [coldReset_rd_other s cause d i j hc hr fun e => absurd e he, if_pos hf]
  · rw [coldReset_rd_other s cause d i j hc hr he, if_neg hf]
  · have hidle := coldReset_idle s cause false
    obtain ⟨R, hR⟩ := coldReset_parts s cause false
    rw [hR] at hidle ⊢
    exact ⟨rfl, rfl, rfl, rfl, rfl, rfl, rfl, rfl, hidle, rfl, rfl⟩

/-- Settles O15: each cause runs the one cold reset, whose registers are the kept ones of the state before; VAON_POWER_UP starts from the reset state itself. -/
theorem coldResetsKeepTimeAndFuses : Obligations.ColdResetsKeepTimeAndFuses := by
  intro s
  exact ⟨fun st h => ⟨_, exec_pkgRstN_fall st h, coldReset_coldFrom _ 1, congrArg BoardSt.pkgRst (coldReset_board _ 1 false)⟩,
    fun h => ⟨_, exec_kaPgLoss_fall h, coldReset_coldFrom _ 0, congrArg BoardSt.kaPg (coldReset_board _ 0 false)⟩,
    fun v hk hc => ⟨_, exec_cold_with_key s hk hc, coldReset_coldFrom s 5⟩,
    fun v hk hi => exec_rst_without_key hk hi,
    ⟨_, exec_vaonPowerUp s, fun f d i j => rfl, rfl, rfl, rfl, rfl⟩⟩

end Sys2Proof.Machine
end

section
/-! SUPPORT. Accesses of the host to registers: what passes the gates, what a read answers, and the effects that reach no part of the package but its registers (R4, R5, R411). -/

namespace Sys2Proof.Machine

/-! ## Effects on the registers alone -/

/-- Nothing but the register file differs. -/
def State.RegsOnly (s t : State) : Prop := ∃ R : RegFile, t = { s with regs := R }

theorem State.RegsOnly.refl (s : State) : s.RegsOnly s := ⟨s.regs, rfl⟩

theorem State.RegsOnly.trans {s t u : State} (h : s.RegsOnly t) (g : t.RegsOnly u) : s.RegsOnly u := by
  obtain ⟨R, rfl⟩ := h
  obtain ⟨Q, rfl⟩ := g
  exact ⟨Q, rfl⟩

theorem State.RegsOnly.eq {s t : State} (h : s.RegsOnly t) : t = { s with regs := t.regs } := by
  obtain ⟨R, rfl⟩ := h
  rfl

theorem State.RegsOnly.wr {s t : State} (h : s.RegsOnly t) {f : Fld} {d i j v : Nat} : s.RegsOnly (t.wr f d i j v) := h.trans ⟨_, rfl⟩

theorem State.RegsOnly.note {s t : State} (h : s.RegsOnly t) {f : Fld} {d i j n : Nat} : s.RegsOnly (t.note f d i j n) := h.trans ⟨_, rfl⟩

theorem State.RegsOnly.flag {s t : State} (h : s.RegsOnly t) {f : Fld} {d i j : Nat} : s.RegsOnly (t.flag f d i j) := h.wr.note

theorem State.RegsOnly.count {s t : State} (h : s.RegsOnly t) {f : Fld} {top d i j n : Nat} : s.RegsOnly (t.count f top d i j n) := h.wr.note

theorem State.accErr_regsOnly (s : State) (a : Access) (write : Bool) (n : Nat) : s.RegsOnly (s.accErr a write n) := by
  unfold State.accErr
  split
  · exact (State.RegsOnly.refl s).count
  · exact (State.RegsOnly.refl s).wr.wr.wr.wr.wr.wr.flag

/-- A recorded access leaves VALID set. -/
theorem State.accErr_valid (s : State) (a : Access) (write : Bool) (n : Nat) : (s.accErr a write n).rd .SVC_ACC_ERR_VALID 0 0 0 ≠ 0 := by
  unfold State.accErr
  split
  · next h =>
    rw [State.count, State.note_rd, State.rd_wr_fld _ (by decide)]
    exact bne_iff_ne.mp h
  · rw [State.flag, State.note_rd, State.rd_wr_self]
    exact Nat.one_ne_zero

/-- On a package with nothing under way, the end of a step leaves an effect on the registers, the latched halves and the output as it is. -/
theorem done_of_hostSide {s : State} (h : s.Idle) (R : RegFile) (H : List (RegAt × Nat)) (O : List Out) :
    ({ s with regs := R, half := H, out := O } : State).done = { s with regs := R, half := H, out := O } :=
  done_of_idle h

theorem State.RegsOnly.done {s t : State} (h : s.RegsOnly t) (hi : s.Idle) : t.done = t := by
  obtain ⟨R, rfl⟩ := h
  exact done_of_hostSide hi R s.half s.out

/-! ## Past the gates -/

theorem regRead_past_gates {s : State} {a : Access} (hg : s.regGate a = .ok) (hh : s.regHeld a false = false) : s.regRead a = s.readNow a := by
  simp [State.regRead, hg, hh]

theorem regWrite_past_gates {s : State} {a : Access} (v : Word) (hg : s.regGate a = .ok) (hh : s.regHeld a true = false) :
    s.regWrite a v = s.writeNow a v.toNat := by
  simp [State.regWrite, hg, hh]

/-- A read of a register that is no SRAM window answers what the part of the register shows. -/
theorem readNow_reg {s : State} {a : Access} {r : RegAt} {p : Part} (hr : s.reachOf a = .reg r p) (hw : r.reg ≠ .CMP_SRAM_WIN) :
    s.readNow a = (s.readReg r p).1.answered a (s.readReg r p).2 := by
  simp [State.readNow, hr, State.sramShut, hw]

theorem readNow_fault {s : State} {a : Access} {n : Nat} (hr : s.reachOf a = .fault n) : s.readNow a = s.readFault a n := by
  simp only [State.readNow, hr]

theorem halfRead_low {s : State} {a : Access} {r : RegAt} (hr : s.reachOf a = .reg r .low) : s.halfRead a = s.regRead a := by
  simp only [State.halfRead, hr]

theorem halfRead_high {s : State} {a : Access} {r : RegAt} (hr : s.reachOf a = .reg r .high) : s.halfRead a = s.regRead a := by
  simp only [State.halfRead, hr]

theorem counterRead_value {s : State} {a : Access} {r : RegAt} {p : Part} (hr : s.reachOf a = .reg r p) (hc : r.reg = .CNT_VALUE) :
    s.counterRead a = s.regRead a := by
  simp only [State.counterRead, hr, hc, true_or, if_true]

/-! ## The latch of a half read (R4) -/

theorem noteCount_of_no_counter {s : State} {r : RegAt} (h : s.countedBank r = none) : s.noteCount r = s := by
  simp only [State.noteCount, h]

theorem noteCount_value {s : State} {r : RegAt} (h : r.reg = .CNT_VALUE) : s.noteCount r = s.wr .CNT_READ_TIME_TICK r.d 0 0 s.time64 := by
  simp only [State.noteCount, State.countedBank, h, State.readCounter]

theorem unlatch_latched_self (s : State) (r : RegAt) : (s.unlatch r).latched r = none := by
  simp [State.latched, State.unlatch, List.find?_filter]

theorem unlatch_latched_ne (s : State) {r r' : RegAt} (h : r' ≠ r) : (s.unlatch r).latched r' = s.latched r' := by
  have hp : ∀ x : RegAt × Nat, ((x.1 != r) = true ∧ x.1 = r') ↔ x.1 = r' := fun x => ⟨And.right, fun e => ⟨by simp [e, h], e⟩⟩
  simp only [State.latched, State.unlatch, List.find?_filter, decide_eq_true_eq, hp]

/-- A read of the low half: the whole value is latched, anew. -/
theorem readReg_low {s : State} {r : RegAt} (h : s.countedBank r = none) :
    s.readReg r .low = ({ s with half := (r, s.regValue r) :: (s.unlatch r).half }, s.regValue r % 2 ^ 32) := by
  simp only [State.readReg, noteCount_of_no_counter h]
  rfl

/-- A read of the high half of a latched register takes the latched value and releases the latch. -/
theorem readReg_high {s : State} {r : RegAt} {v : Nat} (h : s.latched r = some v) : s.readReg r .high = (s.unlatch r, v / 2 ^ 32) := by
  simp only [State.readReg, h]

/-! ## What the four reads answer -/

theorem exec_registerRead (s : State) (a : Access) : exec (.registerRead a) s = .next (s.regRead a).done := rfl
theorem exec_halfRead (s : State) (a : Access) : exec (.halfRead a) s = .next (s.halfRead a).done := rfl
theorem exec_counterRead (s : State) (a : Access) : exec (.counterRead a) s = .next (s.counterRead a).done := rfl

section
variable {s : State} {a : Access} {r : RegAt} (hi : s.Idle) (hg : s.regGate a = .ok) (hh : s.regHeld a false = false)
include hi hg hh

theorem exec_registerRead_whole (hr : s.reachOf a = .reg r .whole) (hw : r.reg ≠ .CMP_SRAM_WIN) (hc : s.countedBank r = none) :
    exec (.registerRead a) s = .next { s with out := s.out ++ [.regRead a (BitVec.ofNat 64 (s.regValue r))] } := by
  rw [exec_registerRead, regRead_past_gates hg hh, readNow_reg hr hw, State.readReg, noteCount_of_no_counter hc]
  exact congrArg Host.Outcome.next (done_of_hostSide hi s.regs s.half _)

theorem exec_halfRead_low (hr : s.reachOf a = .reg r .low) (hw : r.reg ≠ .CMP_SRAM_WIN) (hc : s.countedBank r = none) :
    exec (.halfRead a) s = .next { s with
      half := (r, s.regValue r) :: (s.unlatch r).half, out := s.out ++ [.regRead a (BitVec.ofNat 64 (s.regValue r % 2 ^ 32))] } := by
  rw [exec_halfRead, halfRead_low hr, regRead_past_gates hg hh, readNow_reg hr hw, readReg_low hc]
  exact congrArg Host.Outcome.next (done_of_hostSide hi s.regs _ _)

theorem exec_halfRead_high {v : Nat} (hr : s.reachOf a = .reg r .high) (hw : r.reg ≠ .CMP_SRAM_WIN) (hv : s.latched r = some v) :
    exec (.halfRead a) s = .next { s with
      half := (s.unlatch r).half, out := s.out ++ [.regRead a (BitVec.ofNat 64 (v / 2 ^ 32))] } := by
  rw [exec_halfRead, halfRead_high hr, regRead_past_gates hg hh, readNow_reg hr hw, readReg_high hv]
  exact congrArg Host.Outcome.next (done_of_hostSide hi s.regs _ _)

theorem exec_counterRead_value (hr : s.reachOf a = .reg r .whole) (hc : r.reg = .CNT_VALUE) :
    exec (.counterRead a) s = .next { s.wr .CNT_READ_TIME_TICK r.d 0 0 s.time64 with
      out := s.out ++ [.regRead a (BitVec.ofNat 64 (s.regValue r))] } := by
  have hw : r.reg ≠ .CMP_SRAM_WIN := by rw [hc]; decide
  rw [exec_counterRead, counterRead_value hr hc, regRead_past_gates hg hh, readNow_reg hr hw, State.readReg, noteCount_value hc]
  exact congrArg Host.Outcome.next (done_of_hostSide hi _ s.half _)

theorem exec_registerRead_fault {n : Nat} (hr : s.reachOf a = .fault n) :
    exec (.registerRead a) s = .next { s.accErr a false n with out := s.out ++ [.regRead a (onesOf a.width)] } := by
  obtain ⟨R, hR⟩ := s.accErr_regsOnly a false n
  rw [exec_registerRead, regRead_past_gates hg hh, readNow_fault hr, State.readFault, hR]
  exact congrArg Host.Outcome.next (done_of_hostSide hi R s.half _)

end

/-- After a low read the register is latched with its value, any other as before. -/
theorem latched_after_low (s : State) (r : RegAt) (O : List Out) (r' : RegAt) :
    ({ s with half := (r, s.regValue r) :: (s.unlatch r).half, out := O } : State).latched r' = if r' = r then some (s.regValue r) else s.latched r' := by
  split
  · next h => simp [State.latched, h]
  · next h => rw [← unlatch_latched_ne s h]; simp [State.latched, Ne.symm h]

/-- Settles O23: each read is its answer, the latch or the counter's tick it leaves, and nothing else. -/
theorem registerReadsAnswer : Obligations.RegisterReadsAnswer := by
  intro s a hi hg hh
  refine ⟨fun r hr hw hc => exec_registerRead_whole hi hg hh hr hw hc,
    fun r hr hw hc => ⟨_, exec_halfRead_low hi hg hh hr hw hc, rfl, ?_, fun r' hne => ?_⟩,
    fun r v hr hw hv => ⟨_, exec_halfRead_high hi hg hh hr hw hv, rfl, unlatch_latched_self s r, fun r' hne => unlatch_latched_ne s hne⟩,
    fun r hr hc => ⟨_, exec_counterRead_value hi hg hh hr hc, rfl, State.rd_wr_self s .CNT_READ_TIME_TICK r.d 0 0 s.time64, fun f d i j hf => ?_⟩,
    fun n hr => ⟨_, exec_registerRead_fault hi hg hh hr, rfl, s.accErr_valid a false n, ?_⟩⟩
  · rw [latched_after_low, if_pos rfl]
  · rw [latched_after_low, if_neg hne]
  · exact s.rd_wr_fld fun e => hf (List.mem_singleton.mpr e.symm)
  · obtain ⟨R, hR⟩ := s.accErr_regsOnly a false n
    rw [hR]

end Sys2Proof.Machine
end

section
/-! SUPPORT. Writes of a register that has no effect of its own: each field by its access code (R5 to R9, R88). -/

namespace Sys2Proof.Machine

/-! ## The register tables -/

/-- No register names a field twice. -/
theorem fieldsOf_nodup (r : Reg) : ((fieldsOf r).map (·.f)).Nodup := by
  cases r <;> decide

/-- The value of a synchronisation counter is a field of SYNC_CNT alone. -/
theorem syncValue_only {r : Reg} (h : r ≠ .SYNC_CNT) : ∀ x ∈ fieldsOf r, x.f ≠ .SYNC_CNT_VALUE := by
  revert h
  cases r <;> decide

/-- The registers whose write does more, or less, than give each field what was written. -/
def actingRegs : List Reg :=
  [.IMG_CTRL, .IMG_ROLLBACK, .IMG_QUIESCE, .IMG_LAYOUT_CTRL, .SVC_BUS_VOLT, .SVC_RST_CTRL, .SVC_CASE_RST, .SVC_RECOV_GO,
    .SVC_RECOV_BUF, .FN_WIN_BASE, .SVC_HINGE_CTRL, .SVC_PWR_CTRL, .DARB_PRIO, .PC_DEBUG, .PC_DEBUG_CMD, .PC_TRN_CTRL, .PC_TRN_TRIM, .ECC_LOG_LOC,
    .ECC_XLATE, .HUB_1500_DIRECT_CTRL, .HUB_1500_BUF, .CMP_SRAM_WIN, .QUEUE_DB, .QUEUE_CPL_DB, .QUEUE_BASE, .QUEUE_CPL_BASE, .QUEUE_SIZE, .QUEUE_CTRL,
    .SYNC_CNT, .SVC_PWR_CAP, .TRW_PORT_CTRL, .FN_RESET, .CNT_CFG, .CNT_CTRL, .CNT_FREEZE_AT, .SMP_CTRL, .CMP_SMP_CTRL, .TRC_CTRL, .CMP_CCNT_CFG, .FN_CNT_CFG, .SVC_ACC_ERR]

/-- Every other register takes what was written, field by field. -/
theorem writeActs_of_not_acting (s : State) {a : RegAt} (p : Part) (n v : Nat) (h : a.reg ∉ actingRegs) : s.writeActs a p n v = .inl (s.setFields a p v) := by
  unfold State.writeActs
  split
  on_goal -1 => rfl
  all_goals next e => exact absurd (by rw [e]; decide) h

theorem key_of_not_acting {a : RegAt} (h : a.reg ∉ actingRegs) : a.key = (a.d, a.i, a.j) := by
  unfold RegAt.key
  split
  · next e => exact absurd (by rw [e]; decide) h
  · rfl

/-! ## One field -/

/-- What a field reads after a write of v to the whole of its register, by its access code (R6, R9). -/
def State.fieldAfter (s : State) (k : Nat × Nat × Nat) (v : Nat) (x : FieldRow) : Nat :=
  let old := s.rd x.f k.1 k.2.1 k.2.2
  match x.acc with
  | .rw => x.of v
  | .w1c => (old - (old &&& x.of v)) ||| (old &&& s.freshBits x.f k.1 k.2.1 k.2.2)
  | .cnt => if x.of v = 2 ^ x.width - 1 then min x.max (s.freshCount x.f k.1 k.2.1 k.2.2) else old
  | _ => old

theorem nat_or_and_self (a b : Nat) : a ||| (a &&& b) = a := by
  refine Nat.eq_of_testBit_eq fun i => ?_
  rw [Nat.testBit_or, Nat.testBit_and]
  cases a.testBit i <;> simp

/-- A field's own write: its register file entry becomes its value after the write, where it does not read that already. -/
theorem setField_eq (s : State) (k : Nat × Nat × Nat) (v : Nat) {x : FieldRow} (hx : x.f ≠ .SYNC_CNT_VALUE) :
    s.setField k .whole v v x = s.wr x.f k.1 k.2.1 k.2.2 (s.fieldAfter k v x) ∨
    s.setField k .whole v v x = s ∧ s.fieldAfter k v x = s.rd x.f k.1 k.2.1 k.2.2 := by
  unfold State.setField State.fieldAfter
  cases x.acc with
  | rw => exact .inl (by simp [Part.touches, hx])
  | w1c =>
    by_cases hw : x.of v = 0
    · exact .inr (by simp [Part.over, hw, nat_or_and_self])
    · exact .inl (by simp [Part.over, hw])
  | cnt =>
    by_cases hw : x.of v = 2 ^ x.width - 1
    · exact .inl (by simp [Part.over, hw])
    · exact .inr (by simp [Part.over, hw])
  | ro => exact .inr ⟨rfl, rfl⟩
  | wo => exact .inr ⟨rfl, rfl⟩
  | img => exact .inr ⟨rfl, rfl⟩

theorem setField_rd_self (s : State) (k : Nat × Nat × Nat) (v : Nat) {x : FieldRow} (hx : x.f ≠ .SYNC_CNT_VALUE) :
    (s.setField k .whole v v x).rd x.f k.1 k.2.1 k.2.2 = s.fieldAfter k v x := by
  rcases setField_eq s k v hx with h | ⟨h, hv⟩
  · rw [h, State.rd_wr_self]
  · rw [h, hv]

theorem setField_rd_ne (s : State) (k : Nat × Nat × Nat) (v : Nat) {x : FieldRow} (hx : x.f ≠ .SYNC_CNT_VALUE) {f : Fld} (hf : x.f ≠ f) (d i j : Nat) :
    (s.setField k .whole v v x).rd f d i j = s.rd f d i j := by
  rcases setField_eq s k v hx with h | ⟨h, -⟩
  · rw [h, State.rd_wr_fld _ hf]
  · rw [h]

theorem setField_freshNow (s : State) (k : Nat × Nat × Nat) (v : Nat) {x : FieldRow} (hx : x.f ≠ .SYNC_CNT_VALUE) :
    (s.setField k .whole v v x).freshNow = s.freshNow := by
  rcases setField_eq s k v hx with h | ⟨h, -⟩ <;> rw [h]
  rfl

theorem setField_regsOnly (s : State) (k : Nat × Nat × Nat) (v : Nat) {x : FieldRow} (hx : x.f ≠ .SYNC_CNT_VALUE) :
    s.RegsOnly (s.setField k .whole v v x) := by
  rcases setField_eq s k v hx with h | ⟨h, -⟩ <;> rw [h]
  · exact (State.RegsOnly.refl s).wr
  · exact .refl s

/-- What a field becomes does not depend on the write of another field. -/
theorem fieldAfter_setField_ne (s : State) (k : Nat × Nat × Nat) (v : Nat) {x y : FieldRow} (hx : x.f ≠ .SYNC_CNT_VALUE) (hf : x.f ≠ y.f) :
    (s.setField k .whole v v x).fieldAfter k v y = s.fieldAfter k v y := by
  simp only [State.fieldAfter, State.freshBits, State.freshCount, setField_rd_ne s k v hx hf, setField_freshNow s k v hx]

/-! ## All fields of a register -/

/-- The fields of a list, each written in turn. -/
def State.setRows (s : State) (k : Nat × Nat × Nat) (v : Nat) (l : List FieldRow) : State :=
  l.foldl (fun t x => t.setField k .whole v v x) s

theorem setFields_whole (s : State) (a : RegAt) (v : Nat) : s.setFields a .whole v = s.setRows a.key v (fieldsOf a.reg) := rfl

theorem setRows_regsOnly (k : Nat × Nat × Nat) (v : Nat) {l : List FieldRow} (hl : ∀ x ∈ l, x.f ≠ .SYNC_CNT_VALUE) (s : State) :
    s.RegsOnly (s.setRows k v l) := by
  induction l generalizing s with
  | nil => exact .refl s
  | cons x t ih =>
    obtain ⟨hx, ht⟩ := List.forall_mem_cons.mp hl
    exact (setField_regsOnly s k v hx).trans (ih ht _)

/-- Fields that the list does not name stay. -/
theorem setRows_rd_other (k : Nat × Nat × Nat) (v : Nat) {l : List FieldRow} (hl : ∀ x ∈ l, x.f ≠ .SYNC_CNT_VALUE) (s : State) {f : Fld}
    (hf : f ∉ l.map (·.f)) (d i j : Nat) : (s.setRows k v l).rd f d i j = s.rd f d i j := by
  induction l generalizing s with
  | nil => rfl
  | cons x t ih =>
    obtain ⟨hx, ht⟩ := List.forall_mem_cons.mp hl
    obtain ⟨hfx, hft⟩ := not_or.mp fun h => hf (List.mem_cons.mpr h)
    exact (ih ht _ hft).trans (setField_rd_ne s k v hx (Ne.symm hfx) d i j)

/-- Each field of a list without repetition reads what its access code makes of the write. -/
theorem setRows_rd (k : Nat × Nat × Nat) (v : Nat) {l : List FieldRow} (hl : ∀ x ∈ l, x.f ≠ .SYNC_CNT_VALUE) (hn : (l.map (·.f)).Nodup) (s : State)
    {x : FieldRow} (hx : x ∈ l) : (s.setRows k v l).rd x.f k.1 k.2.1 k.2.2 = s.fieldAfter k v x := by
  induction l generalizing s with
  | nil => exact nomatch hx
  | cons y t ih =>
    obtain ⟨hy, ht⟩ := List.forall_mem_cons.mp hl
    obtain ⟨hyt, hnt⟩ := List.nodup_cons.mp hn
    rcases List.mem_cons.mp hx with rfl | hxt
    · exact (setRows_rd_other k v ht _ hyt _ _ _).trans (setField_rd_self s k v hy)
    · have hne : y.f ≠ x.f := fun e => hyt (List.mem_map.mpr ⟨x, hxt, e.symm⟩)
      exact (ih ht hnt _ hxt).trans (fieldAfter_setField_ne s k v hy hne)

/-! ## REGISTER_WRITE -/

theorem exec_registerWrite (s : State) (a : Access) (v : Word) : exec (.registerWrite a v) s = .next (s.regWrite a v).done := rfl

theorem writeNow_reg {s : State} {a : Access} {r : RegAt} {p : Part} (v : Nat) (hr : s.reachOf a = .reg r p) :
    s.writeNow a v = s.settleWrite a (s.writeReg r p (v % 2 ^ (8 * a.width))) := by
  simp only [State.writeNow, hr]

section
variable {s : State} {a : Access} {r : RegAt} (v : Word) (hi : s.Idle) (hg : s.regGate a = .ok) (hh : s.regHeld a true = false)
include hi hg hh

/-- A write of a whole register that has no effect of its own writes its fields. -/
theorem exec_registerWrite_fields (hr : s.reachOf a = .reg r .whole) (ha : r.reg ∉ actingRegs)
    (hin : s.outOfRange r .whole (v.toNat % 2 ^ (8 * a.width)) = false) :
    exec (.registerWrite a v) s = .next (s.setRows (r.d, r.i, r.j) (v.toNat % 2 ^ (8 * a.width)) (fieldsOf r.reg)) := by
  have hsync : r.reg ≠ .SYNC_CNT := fun e => ha (by rw [e]; decide)
  rw [exec_registerWrite, regWrite_past_gates v hg hh, writeNow_reg _ hr, State.writeReg, hin, if_neg Bool.false_ne_true,
    writeActs_of_not_acting s _ _ _ ha, State.settleWrite, setFields_whole, key_of_not_acting ha,
    (setRows_regsOnly _ _ (syncValue_only hsync) s).done hi]

/-- A write that would leave a field's range is discarded and recorded. -/
theorem exec_registerWrite_outOfRange (hr : s.reachOf a = .reg r .whole) (hout : s.outOfRange r .whole (v.toNat % 2 ^ (8 * a.width)) = true) :
    exec (.registerWrite a v) s = .next (s.accErr a true accRange) := by
  rw [exec_registerWrite, regWrite_past_gates v hg hh, writeNow_reg _ hr, State.writeReg, if_pos hout, State.settleWrite,
    (s.accErr_regsOnly a true accRange).done hi]

end

/-- Settles O24: the fields of a register are distinct, so each takes its own part of the write, in whatever order they are written. -/
theorem registerWritesFollowAccessCodes : Obligations.RegisterWritesFollowAccessCodes := by
  intro s a v r hi hg hh hr
  refine ⟨fun ha hin => ?_, fun hout => exec_registerWrite_outOfRange v hi hg hh hr hout⟩
  have hsync : ∀ x ∈ fieldsOf r.reg, x.f ≠ .SYNC_CNT_VALUE := syncValue_only fun e => ha (by rw [e]; decide)
  exact ⟨_, exec_registerWrite_fields v hi hg hh hr ha hin, (setRows_regsOnly _ _ hsync s).eq,
    fun f d i j hf => setRows_rd_other _ _ hsync s hf d i j,
    fun x hx => setRows_rd (r.d, r.i, r.j) _ hsync (fieldsOf_nodup r.reg) s hx⟩

end Sys2Proof.Machine
end

section
/-! SUPPORT. The sash ring: what a hop takes from a port and where it puts it, the streaks of a link, and what a failing link leaves (R18 to R21). -/

namespace Sys2Proof.Machine

/-! ## Doors, ports and links under an update -/

theorem State.door_setDoor (s : State) (h d g e : Nat) (x : DoorSt) :
    (s.setDoor h d x).door g e = if doorKey h d = doorKey g e then x else s.door g e := Tab.get_put ..

theorem State.ringAt_setRing (s : State) (h dir g : Nat) (l : List Req) :
    (s.setRing h dir l).ringAt g dir = if h = g then l else s.ringAt g dir := by
  have hkey : ringKey h dir = ringKey g dir ↔ h = g := by unfold ringKey; omega
  simp only [State.ringAt, State.setRing, Tab.get_put, hkey]

theorem State.link_setLink_self (s : State) (i : Nat) (x : LinkSt) : (s.setLink i x).link i = x :=
  (Tab.get_put ..).trans (if_pos rfl)

theorem State.setLink_done {s : State} (hi : s.Idle) (i : Nat) (x : LinkSt) : (s.setLink i x).done = s.setLink i x :=
  done_of_eq hi rfl rfl rfl rfl rfl rfl rfl rfl

/-- A request sent to a door stands last in its transit, and in no other transit of the hub. -/
theorem State.sendDoor_transit (s : State) (h d e : Nat) (r : Req) :
    ((s.sendDoor h d r).door h e).transit = if e = d then (s.door h d).transit ++ [r] else (s.door h e).transit := by
  have hkey : doorKey h d = doorKey h e ↔ e = d := by unfold doorKey; omega
  simp only [State.sendDoor, State.door_setDoor, hkey]
  split <;> rfl

/-! ## The neighbours of a hub (R18) -/

theorem portPeer_lt (h dir : Nat) : portPeer h dir < 4 := by
  unfold portPeer
  split <;> omega

theorem portPeer_ne (h dir : Nat) : portPeer h dir ≠ h := by
  unfold portPeer
  split <;> omega

/-- The door of an arrival from another hub is one of D1 to D3, and tells the hub of origin. -/
theorem ringDoor_spec {g n : Nat} (hg : g < 4) (hn : n < 4) (hne : g ≠ n) :
    (ringDoor g n + n) % 4 = g % 4 ∧ 1 ≤ ringDoor g n ∧ ringDoor g n ≤ 3 := by
  unfold ringDoor
  omega

/-! ## What stands at a port -/

theorem mem_portAll_of_mem_portWaiters {s : State} {h dir : Nat} {x : Req} (hx : x ∈ s.portWaiters h dir) : x ∈ s.portAll h dir := by
  rcases List.mem_append.mp hx with hx | hx
  · exact List.mem_append_left _ (List.mem_of_mem_filter hx)
  · obtain ⟨e, he, rfl⟩ := List.mem_map.mp hx
    exact List.mem_append_right _ (List.mem_map_of_mem (List.mem_of_mem_filter he))

/-- A request that does not stand at a port does not wait there. -/
theorem portWaiters_lack {t u : State} {h dir n : Nat} (hu : u.portAll h dir = t.portAll h dir) (ht : ∀ x ∈ t.portAll h dir, x.id ≠ n) :
    ∀ x ∈ u.portWaiters h dir, x.id ≠ n :=
  fun x hx => ht x (hu ▸ mem_portAll_of_mem_portWaiters hx)

/-- A port holds what its ring buffer and D0 of its hub hold. -/
theorem portAll_congr {s t : State} {h dir : Nat} (hr : t.ringAt h dir = s.ringAt h dir) (hd : t.door h 0 = s.door h 0) :
    t.portAll h dir = s.portAll h dir := by
  unfold State.portAll State.doorWaiters
  rw [hr, hd]

/-- What is sent to a door of another hub stands at no port of hub g. -/
theorem sendDoor_portAll (s : State) {g h d : Nat} (dir : Nat) (r : Req) (hne : h ≠ g) (hd : d < 9) :
    (s.sendDoor h d r).portAll g dir = s.portAll g dir :=
  portAll_congr rfl ((s.door_setDoor ..).trans (if_neg (by unfold doorKey; omega)))

/-- What enters a port of another hub stands at no port of hub g. -/
theorem setRing_portAll (s : State) {g h : Nat} (dir : Nat) (l : List Req) (hne : h ≠ g) :
    (s.setRing h dir l).portAll g dir = s.portAll g dir :=
  portAll_congr ((s.ringAt_setRing ..).trans (if_neg hne)) rfl

/-- A request taken from a port stands there no more. -/
theorem takePort_portAll (s : State) (h dir : Nat) (r : Req) : ∀ x ∈ (s.takePort h dir r).portAll h dir, x.id ≠ r.id := by
  intro x hx
  have hdoor : (s.takePort h dir r).door h 0 = (s.door h 0).release s.cyc fun x => x.id == r.id :=
    (State.door_setDoor ..).trans (if_pos rfl)
  rcases List.mem_append.mp hx with hx | hx
  · have hring : (s.takePort h dir r).ringAt h dir = (s.ringAt h dir).filter fun x => x.id != r.id :=
      (s.ringAt_setRing ..).trans (if_pos rfl)
    rw [hring] at hx
    exact bne_iff_ne.mp (List.mem_filter.mp hx).2
  · obtain ⟨e, he, rfl⟩ := List.mem_map.mp hx
    have hbuf := List.mem_of_mem_filter he
    rw [hdoor] at hbuf
    simpa using (List.mem_filter.mp hbuf).2

/-- Taking a request from a port of h leaves the ports of every other hub. -/
theorem takePort_ringAt_other (s : State) {h g : Nat} (dir : Nat) (r : Req) (hne : h ≠ g) :
    (s.takePort h dir r).ringAt g dir = s.ringAt g dir :=
  (s.ringAt_setRing ..).trans (if_neg hne)

/-- Taking a request from a port leaves what is in transit to each door. -/
theorem takePort_transit (s : State) (h dir : Nat) (r : Req) (g d : Nat) :
    ((s.takePort h dir r).door g d).transit = (s.door g d).transit := by
  unfold State.takePort
  rw [State.door_setDoor]
  split
  · next e =>
    have hdoor : s.door g d = s.door h 0 := congrArg (Tab.get DoorSt.reset s.doors) e.symm
    rw [hdoor]
    rfl
  · rfl

/-! ## Events are counted in registers -/

theorem State.RegsOnly.counterUp {s t : State} (h : s.RegsOnly t) {bank k n : Nat} : s.RegsOnly (t.counterUp bank k n) := by
  unfold State.counterUp
  dsimp only
  split
  · exact h.wr.flag
  · exact h.wr

theorem State.tally_regsOnly (s : State) (bank ev : Nat) (unit : Option Nat) (subs : List Nat) (cas : Option Nat) (n : Nat) :
    s.RegsOnly (s.tally bank ev unit subs cas n) := by
  unfold State.tally
  split
  · exact .refl s
  · refine List.foldlRecOn _ _ (.refl s) fun t ht k _ => ?_
    split
    · exact ht.counterUp
    · exact ht

/-! ## Requests that a port gives up (R21) -/

/-- Nothing but requests in hand and their answers differs. -/
def State.RequestsOnly (s t : State) : Prop :=
  ∃ (D : Tab DoorSt) (R : Tab (List Req)) (P C : Tab Nat) (A : List Answer),
    t = { s with doors := D, ring := R, outPane := P, outCas := C, answers := A }

theorem State.RequestsOnly.refl (s : State) : s.RequestsOnly s := ⟨_, _, _, _, _, rfl⟩

theorem State.RequestsOnly.trans {s t u : State} (h : s.RequestsOnly t) (g : t.RequestsOnly u) : s.RequestsOnly u := by
  obtain ⟨D, R, P, C, A, rfl⟩ := h
  obtain ⟨D', R', P', C', A', rfl⟩ := g
  exact ⟨D', R', P', C', A', rfl⟩

/-- What differs in requests alone keeps the links, the registers, the stacks and the fuses. -/
theorem State.RequestsOnly.frame {s t : State} (h : s.RequestsOnly t) :
    (∀ i, t.link i = s.link i) ∧ (∀ f d i j, t.rd f d i j = s.rd f d i j) ∧ t.mem = s.mem ∧ t.fuse = s.fuse := by
  obtain ⟨D, R, P, C, A, rfl⟩ := h
  exact ⟨fun _ => rfl, fun _ _ _ _ => rfl, rfl, rfl⟩

/-- A request leaves its port and ends with HALTED. -/
def State.haltAt (s : State) (h dir : Nat) (r : Req) : State := (s.takePort h dir r).finishBare r .halted

theorem takePort_requestsOnly (s : State) (h dir : Nat) (r : Req) : s.RequestsOnly (s.takePort h dir r) := ⟨_, _, _, _, _, rfl⟩

theorem finish_requestsOnly (s : State) (r : Req) (st : Status) (data : Block) (poison pkind : BitVec 8) :
    s.RequestsOnly (s.finish r st data poison pkind) := ⟨_, _, _, _, _, rfl⟩

theorem haltAt_requestsOnly (s : State) (h dir : Nat) (r : Req) : s.RequestsOnly (s.haltAt h dir r) :=
  (takePort_requestsOnly s h dir r).trans (finish_requestsOnly ..)

/-- Whatever the way back, a request that ends with HALTED answers HALTED. -/
theorem haltAt_answers (s : State) (h dir : Nat) (r : Req) : ∃ a ∈ (s.haltAt h dir r).answers, a.r = r ∧ a.st = .halted := by
  refine ⟨_, List.mem_append_right _ (List.mem_singleton.mpr rfl), ?_⟩
  split <;> exact ⟨rfl, rfl⟩

theorem haltAt_portAll (s : State) (h dir : Nat) (r : Req) : ∀ x ∈ (s.haltAt h dir r).portAll h dir, x.id ≠ r.id :=
  takePort_portAll s h dir r

/-! ## One hop (R19) -/

/-- A request leaves a port of hub h over a link in service, and the hop is counted. -/
def State.leavePort (s : State) (h dir : Nat) (r : Req) : State := (s.takePort h dir r).tally h 0x11 none [dir] none 1

theorem leavePort_regsOnly (s : State) (h dir : Nat) (r : Req) : (s.takePort h dir r).RegsOnly (s.leavePort h dir r) :=
  State.tally_regsOnly ..

theorem leavePort_portAll (s : State) (h dir : Nat) (r : Req) : ∀ x ∈ (s.leavePort h dir r).portAll h dir, x.id ≠ r.id := by
  rw [(leavePort_regsOnly s h dir r).eq]
  exact takePort_portAll s h dir r

theorem leavePort_ringAt_other (s : State) {h g : Nat} (dir : Nat) (r : Req) (hne : h ≠ g) :
    (s.leavePort h dir r).ringAt g dir = s.ringAt g dir := by
  rw [(leavePort_regsOnly s h dir r).eq]
  exact takePort_ringAt_other s dir r hne

theorem leavePort_transit (s : State) (h dir : Nat) (r : Req) (g d : Nat) :
    ((s.leavePort h dir r).door g d).transit = (s.door g d).transit := by
  rw [(leavePort_regsOnly s h dir r).eq]
  exact takePort_transit s h dir r g d

theorem leavePort_mem_fuse (s : State) (h dir : Nat) (r : Req) : (s.leavePort h dir r).mem = s.mem ∧ (s.leavePort h dir r).fuse = s.fuse := by
  rw [(leavePort_regsOnly s h dir r).eq]
  exact ⟨rfl, rfl⟩

section
variable {s : State} {h dir : Nat} {r : Req} (hf : firstUrgent (s.portWaiters h dir) = some r) (hs : s.hinge.step = 0)
include hf hs

/-- With no hinge the first request of the port is the one that moves. -/
theorem firstUrgent_no_hinge : firstUrgent ((s.portWaiters h dir).filter fun r => s.hinge.step == 0 || r.home != h) = some r := by
  simpa [hs] using hf

theorem ringHop_failed (hk : (s.link (portLink h dir)).failed = true) : s.ringHop h dir = s.haltAt h dir r := by
  simp only [State.ringHop, firstUrgent_no_hinge hf hs, hk, if_true, State.haltAt]

variable (hk : (s.link (portLink h dir)).failed = false) (hu : (s.link (portLink h dir)).up = true)
include hk hu

theorem ringHop_arrives (hr : r.hub = portPeer h dir) :
    s.ringHop h dir = (s.leavePort h dir r).sendDoor (portPeer h dir) (ringDoor r.home (portPeer h dir)) { r with hopAt := 0 } := by
  simp only [State.ringHop, firstUrgent_no_hinge hf hs, hk, hu, hr, Bool.not_true, Bool.false_eq_true, if_false, if_true, State.leavePort]

theorem ringHop_passes (hr : r.hub ≠ portPeer h dir) :
    s.ringHop h dir = (s.leavePort h dir r).setRing (portPeer h dir) dir
      ((s.leavePort h dir r).ringAt (portPeer h dir) dir ++ [{ r with hopAt := s.cyc + 1 }]) := by
  simp only [State.ringHop, firstUrgent_no_hinge hf hs, hk, hu, hr, Bool.not_true, Bool.false_eq_true, if_false, State.leavePort]

end

theorem exec_ringForward {s u : State} {h : Hub} {dir : RingDir} (hop : s.ringHop h.val (dirNo dir) = u) :
    exec (.ringForward h dir) s = .next u.done := congrArg (fun t : State => Host.Outcome.next t.done) hop

/-- Settles O32: the hop takes the request from its port and puts it last in the transit of the door that R18 names. -/
theorem ringArrivalsUseTheDoorOfTheirOrigin : Obligations.RingArrivalsUseTheDoorOfTheirOrigin := by
  intro s h dir r n k hf hs hk hu hr hg hne
  obtain ⟨horigin, hlow, hhigh⟩ := ringDoor_spec hg (portPeer_lt h.val (dirNo dir)) hne
  have hd9 : ringDoor r.home n < 9 := Nat.lt_of_le_of_lt hhigh (by decide)
  refine ⟨_, exec_ringForward (ringHop_arrives hf hs hk hu hr), ?_, horigin, hlow, hhigh, fun d hd => ?_, ?_⟩
  · exact (State.sendDoor_transit ..).trans ((if_pos rfl).trans (congrArg (· ++ _) (leavePort_transit ..)))
  · exact (State.sendDoor_transit ..).trans ((if_neg hd).trans (leavePort_transit ..))
  · exact portWaiters_lack (sendDoor_portAll _ _ _ (portPeer_ne h.val _) hd9) (leavePort_portAll s h.val _ r)

/-! ## A link goes down (R21, R212) -/

/-- Giving up the requests of a link touches requests alone. -/
theorem dropLinkUsers_requestsOnly (s : State) (i : Nat) : s.RequestsOnly (s.dropLinkUsers i) := by
  refine List.foldlRecOn _ _ (.refl s) fun t ht h _ => ?_
  refine List.foldlRecOn _ _ ht fun t ht dir _ => ?_
  exact List.foldlRecOn _ _ ht fun t ht r _ => ht.trans (haltAt_requestsOnly t h dir r)

theorem State.rd_flag (s : State) (f g : Fld) (d i j e k m : Nat) :
    (s.flag f d i j).rd g e k m = if f = g ∧ d = e ∧ i = k ∧ j = m then 1 else s.rd g e k m := s.rd_wr ..

/-- A link taken out of service, with RING_LINK_DOWN set on both its hubs. -/
def State.markLinkDown (s : State) (i : Nat) : State :=
  ((s.setLink i { s.link i with up := false, failed := true }).flag .HUB_INT_STATUS_RING_LINK_DOWN i 0 0).flag
    .HUB_INT_STATUS_RING_LINK_DOWN ((i + 1) % 4) 0 0

theorem failLink_requestsOnly (s : State) (i : Nat) : (s.markLinkDown i).RequestsOnly (s.failLink i) := dropLinkUsers_requestsOnly ..

theorem markLinkDown_link (s : State) (i : Nat) : (s.markLinkDown i).link i = { s.link i with up := false, failed := true } :=
  s.link_setLink_self i { s.link i with up := false, failed := true }

/-- Each of the two hubs reads RING_LINK_DOWN. -/
theorem markLinkDown_rd_hubs (s : State) (i : Nat) :
    (s.markLinkDown i).rd .HUB_INT_STATUS_RING_LINK_DOWN i 0 0 = 1 ∧
    (s.markLinkDown i).rd .HUB_INT_STATUS_RING_LINK_DOWN ((i + 1) % 4) 0 0 = 1 := by
  constructor <;> simp [State.markLinkDown, State.rd_flag]

theorem markLinkDown_regsBut (s : State) (i : Nat) : s.RegsBut (s.markLinkDown i) [.HUB_INT_STATUS_RING_LINK_DOWN] := by
  intro f d j k hf
  have hne : Fld.HUB_INT_STATUS_RING_LINK_DOWN ≠ f := fun e => hf (List.mem_singleton.mpr e.symm)
  simp [State.markLinkDown, State.rd_flag, hne]

theorem linkDown_fails {s : State} {i : Nat} (hu : (s.link i).up = true)
    (hc : 16 ≤ (s.link i).streak ∨ 16 ≤ (s.link i).streakBack ∨ s.atPhaseStep = true) : s.linkDown i = s.failLink i := by
  rcases hc with h | h | h <;> simp [State.linkDown, hu, h]

theorem linkDown_stays {s : State} {i : Nat} (hs : (s.link i).streak < 16) (hb : (s.link i).streakBack < 16)
    (hp : s.atPhaseStep = false) : s.linkDown i = s := by
  simp [State.linkDown, Nat.not_le.mpr hs, Nat.not_le.mpr hb, hp]

theorem exec_ringLinkDown {s u : State} {h : Hub} (hd : s.linkDown h.val = u) : exec (.ringLinkDown h) s = .next u.done :=
  congrArg (fun t : State => Host.Outcome.next t.done) hd

/-! ## Retries of a flit (R21) -/

theorem exec_ringFlitRetry {s u : State} {h : Hub} {f : RingFlit} (hr : s.linkRetry h.val (dirNo f.dir) f.good = u) :
    exec (.ringFlitRetry h f) s = .next u.done := congrArg (fun t : State => Host.Outcome.next t.done) hr

section
variable {s : State} {h : Nat} (ok : Bool)

theorem linkRetry_ascending (hu : (s.link h).up = true) :
    s.linkRetry h 0 ok = s.setLink h { s.link h with streak := streakAfter (s.link h).streak ok } := by
  simp [State.linkRetry, portLink, hu]

theorem linkRetry_descending (hu : (s.link ((h + 3) % 4)).up = true) :
    s.linkRetry h 1 ok = s.setLink ((h + 3) % 4) { s.link ((h + 3) % 4) with streakBack := streakAfter (s.link ((h + 3) % 4)).streakBack ok } := by
  simp [State.linkRetry, portLink, hu]

/-- A link out of service counts nothing. -/
theorem linkRetry_out_of_service {dir : Nat} (hu : (s.link (portLink h dir)).up = false) : s.linkRetry h dir ok = s := by
  simp [State.linkRetry, hu]

end

/-- Settles O33: a hop over a link in service moves the request and one over a failed link ends it; a link's streaks, or its phase step, decide whether it fails. -/
theorem ringLinksForwardRetryAndFail : Obligations.RingLinksForwardRetryAndFail := by
  refine ⟨?_, ?_, ?_⟩
  · intro s h dir r d hf hs
    refine ⟨fun hk hu hr => ?_, fun hk => ?_⟩
    · have hpeer : portPeer h.val d ≠ h.val := portPeer_ne h.val d
      refine ⟨_, exec_ringForward (ringHop_passes hf hs hk hu hr), ?_, ?_, leavePort_mem_fuse ..⟩
      · exact (State.ringAt_setRing ..).trans ((if_pos rfl).trans (congrArg (· ++ _) (leavePort_ringAt_other s d r hpeer.symm)))
      · exact portWaiters_lack (setRing_portAll _ _ _ hpeer) (leavePort_portAll s h.val _ r)
    · obtain ⟨-, -, hmem, hfuse⟩ := (haltAt_requestsOnly s h.val d r).frame
      exact ⟨_, exec_ringForward (ringHop_failed hf hs hk), haltAt_answers .., portWaiters_lack rfl (haltAt_portAll s h.val _ r), hmem, hfuse⟩
  · intro s h ok hi
    refine ⟨fun hu => ?_, fun hu => ?_, fun dir hu => ?_⟩
    · exact (exec_ringFlitRetry (linkRetry_ascending ok hu)).trans (congrArg Host.Outcome.next (State.setLink_done hi ..))
    · exact (exec_ringFlitRetry (linkRetry_descending ok hu)).trans (congrArg Host.Outcome.next (State.setLink_done hi ..))
    · exact (exec_ringFlitRetry (linkRetry_out_of_service ok hu)).trans (congrArg Host.Outcome.next (done_of_idle hi))
  · intro s h hu
    refine ⟨fun hc => ?_, fun hs hb hp => exec_ringLinkDown (linkDown_stays hs hb hp)⟩
    obtain ⟨hlink, hrd, hmem, hfuse⟩ := (failLink_requestsOnly s h.val).frame
    obtain ⟨hnear, hfar⟩ := markLinkDown_rd_hubs s h.val
    have hdown := (hlink h.val).trans (markLinkDown_link s h.val)
    exact ⟨_, exec_ringLinkDown (linkDown_fails hu hc), congrArg LinkSt.up hdown, congrArg LinkSt.failed hdown,
      (hrd ..).trans hnear, (hrd ..).trans hfar, fun f d i j hf => (hrd ..).trans (markLinkDown_regsBut s h.val f d i j hf), hmem, hfuse⟩

end Sys2Proof.Machine
end

section
/-! SUPPORT. How the fuses of a state are followed through loops, branches, results and writes (R43). -/

namespace Sys2Proof.Machine

/-- A function of the state that keeps the fuses: what a loop asks of each round, and a command of its own work. -/
def KeepsFuses (f : State → State) : Prop := ∀ s, (f s).fuse = s.fuse

@[simp] theorem keepsFuses_iff (f : State → State) : KeepsFuses f ↔ ∀ s, (f s).fuse = s.fuse := by rw [KeepsFuses]

@[simp] theorem foldl_fuse {α : Type} (f : State → α → State) (l : List α) (s : State) (h : ∀ x, KeepsFuses (f · x)) : (l.foldl f s).fuse = s.fuse := by
  induction l generalizing s with
  | nil => rfl
  | cons x t ih => exact (ih _).trans (h x s)

theorem foldl_fst_fuse {α β : Type} {f : State × β → α → State × β} (h : ∀ r x, (f r x).1.fuse = r.1.fuse) (l : List α) (r : State × β) :
    (l.foldl f r).1.fuse = r.1.fuse := by
  induction l generalizing r with
  | nil => rfl
  | cons x t ih => exact (ih _).trans (h r x)

@[simp] theorem State.fuse_ite (c : Prop) [Decidable c] (s t : State) : (if c then s else t).fuse = if c then s.fuse else t.fuse := apply_ite _ _ _ _

@[simp] theorem fst_fuse_ite {α : Type} (c : Prop) [Decidable c] (p q : State × α) : (if c then p else q).1.fuse = if c then p.1.fuse else q.1.fuse :=
  apply_ite (fun p : State × α => p.1.fuse) _ _ _

theorem fuse_of_pair {α : Type} {s t : State} {p : State × α} {a : α} (h : p = (t, a)) (hp : p.1.fuse = s.fuse) : t.fuse = s.fuse := by
  rw [← hp, h]

/-- What holds of the state that a write leaves, where it is not refused. -/
def WriteResult.Leaves (r : WriteResult) (P : State → Prop) : Prop :=
  match r with
  | .inl t => P t
  | .inr _ => True

@[simp] theorem WriteResult.leaves_inl (t : State) (P : State → Prop) : WriteResult.Leaves (.inl t) P ↔ P t := Iff.rfl
@[simp] theorem WriteResult.leaves_inr (n : Nat) (P : State → Prop) : WriteResult.Leaves (.inr n) P ↔ True := Iff.rfl

theorem WriteResult.Leaves.mono {r : WriteResult} {P Q : State → Prop} (h : r.Leaves P) (hPQ : ∀ t, P t → Q t) : r.Leaves Q := by
  cases r with
  | inl t => exact hPQ t h
  | inr n => trivial

/-- The state with which a PAGE command goes on, waits or ends. -/
def Going.state : Going → State
  | .on s => s
  | .wait s => s
  | .ended s => s

@[simp] theorem Going.state_on (s : State) : (Going.on s).state = s := rfl
@[simp] theorem Going.state_wait (s : State) : (Going.wait s).state = s := rfl
@[simp] theorem Going.state_ended (s : State) : (Going.ended s).state = s := rfl

end Sys2Proof.Machine
end

section
/-! SUPPORT. The fuses on the way from a door to a stack (R43): none of these operations touches them. -/

namespace Sys2Proof.Machine

/-! ## Parts and registers -/

@[simp] theorem State.syncSet_fuse (s : State) (c k v : Nat) : (s.syncSet c k v).fuse = s.fuse := by simp [State.syncSet]
@[simp] theorem State.count_fuse (s : State) (f : Fld) (top d i j n : Nat) : (s.count f top d i j n).fuse = s.fuse := by simp [State.count]
@[simp] theorem State.orBits_fuse (s : State) (f : Fld) (d i j n : Nat) : (s.orBits f d i j n).fuse = s.fuse := by simp [State.orBits]
@[simp] theorem State.setBit_fuse (s : State) (f : Fld) (d i j b : Nat) : (s.setBit f d i j b).fuse = s.fuse := by simp [State.setBit]
@[simp] theorem State.flag_fuse (s : State) (f : Fld) (d i j : Nat) : (s.flag f d i j).fuse = s.fuse := by simp [State.flag]
@[simp] theorem State.clearBit_fuse (s : State) (f : Fld) (d i j b : Nat) : (s.clearBit f d i j b).fuse = s.fuse := by simp [State.clearBit]
@[simp] theorem State.mapPcs_fuse (s : State) (h : Nat) (f : PcSt → PcSt) : (s.mapPcs h f).fuse = s.fuse := by simp [State.mapPcs]
@[simp] theorem State.beginReq_fuse (s : State) (r : Req) : (s.beginReq r).1.fuse = s.fuse := by simp [State.beginReq]
@[simp] theorem State.endReq_fuse (s : State) (r : Req) : (s.endReq r).fuse = s.fuse := by simp [State.endReq]

@[simp] theorem State.finish_fuse (s : State) (r : Req) (st : Status) (data : Block) (poison pkind : BitVec 8) :
    (s.finish r st data poison pkind).fuse = s.fuse := s.endReq_fuse r

@[simp] theorem State.finishBare_fuse (s : State) (r : Req) (st : Status) : (s.finishBare r st).fuse = s.fuse := by simp [State.finishBare]

/-! ## Counters and trace -/

@[simp] theorem State.counterUp_fuse (s : State) (bank k n : Nat) : (s.counterUp bank k n).fuse = s.fuse := by simp [State.counterUp]

@[simp] theorem State.tally_fuse (s : State) (bank ev : Nat) (unit : Option Nat) (subs : List Nat) (cas : Option Nat) (n : Nat) :
    (s.tally bank ev unit subs cas n).fuse = s.fuse := by
  simp [State.tally]

@[simp] theorem State.pushTrace_fuse (s : State) (h : Nat) (r : TraceRec) : (s.pushTrace h r).fuse = s.fuse := by simp [State.pushTrace]

@[simp] theorem State.traceHub_fuse (s : State) (h typ cas unit : Nat) (payload : List Nat) : (s.traceHub h typ cas unit payload).fuse = s.fuse := by
  simp [State.traceHub]

@[simp] theorem State.pushDie_fuse (s : State) (d : Nat) (r : TraceRec) : (s.pushDie d r).fuse = s.fuse := by simp [State.pushDie]

@[simp] theorem State.traceDie_fuse (s : State) (d typ cas unit : Nat) (payload : List Nat) : (s.traceDie d typ cas unit payload).fuse = s.fuse := by
  simp [State.traceDie]

/-! ## Stored-data protection -/

@[simp] theorem State.storeWord_fuse (s : State) (key : Nat) (data : BitVec 256) (chk : BitVec 32) : (s.storeWord key data chk).fuse = s.fuse := by
  simp [State.storeWord]

@[simp] theorem State.storeSector_fuse (s : State) (key : Nat) (data : BitVec 256) : (s.storeSector key data).fuse = s.fuse := by simp [State.storeSector]
@[simp] theorem State.storePoison_fuse (s : State) (key : Nat) : (s.storePoison key).fuse = s.fuse := by simp [State.storePoison]
@[simp] theorem State.logPut_fuse (s : State) (h e : Nat) (x : LogEnt) : (s.logPut h e x).fuse = s.fuse := by simp [State.logPut]
@[simp] theorem State.logDrop_fuse (s : State) (h : Nat) : (s.logDrop h).fuse = s.fuse := by simp [State.logDrop]

@[simp] theorem State.logEvent_fuse (s : State) (h : Nat) (ev : LogEnt) : (s.logEvent h ev).fuse = s.fuse := by
  simp only [State.logEvent]
  (repeat' split) <;> simp

@[simp] theorem State.bucketUp_fuse (s : State) (h p : Nat) (policy : Bool) : (s.bucketUp h p policy).fuse = s.fuse := by simp [State.bucketUp]

@[simp] theorem State.noteRead_fuse (s : State) (r : Req) (n : Nat) (o : SectorOutcome) : (s.noteRead r n o).fuse = s.fuse := by
  unfold State.noteRead
  split <;> simp

@[simp] theorem State.noteMerge_fuse (s : State) (r : Req) (n : Nat) (o : SectorOutcome) : (s.noteMerge r n o).fuse = s.fuse := by
  unfold State.noteMerge
  split <;> simp

@[simp] theorem State.leak_fuse (s : State) (h : Nat) : (s.leak h).fuse = s.fuse := by simp [State.leak]
@[simp] theorem State.leakDue_fuse (s : State) (h : Nat) : (s.leakDue h).fuse = s.fuse := by simp [State.leakDue]

/-! ## Addresses -/

@[simp] theorem State.recordRefusal_fuse (s : State) (h door : Nat) (r : Req) (x : DecodeRefusal) : (s.recordRefusal h door r x).fuse = s.fuse := by
  unfold State.recordRefusal
  split <;> simp

/-! ## The ring, doors and arbiters -/

@[simp] theorem State.sendDoor_fuse (s : State) (h d : Nat) (r : Req) : (s.sendDoor h d r).fuse = s.fuse := by simp [State.sendDoor]
@[simp] theorem State.dispatchReq_fuse (s : State) (door : Nat) (r : Req) : (s.dispatchReq door r).fuse = s.fuse := by simp [State.dispatchReq]
@[simp] theorem State.takePort_fuse (s : State) (h dir : Nat) (r : Req) : (s.takePort h dir r).fuse = s.fuse := by simp [State.takePort]

@[simp] theorem State.ringHop_fuse (s : State) (h dir : Nat) : (s.ringHop h dir).fuse = s.fuse := by
  simp only [State.ringHop]
  (repeat' split) <;> simp

@[simp] theorem State.linkRetry_fuse (s : State) (h dir : Nat) (ok : Bool) : (s.linkRetry h dir ok).fuse = s.fuse := by simp [State.linkRetry]
@[simp] theorem State.dropLinkUsers_fuse (s : State) (i : Nat) : (s.dropLinkUsers i).fuse = s.fuse := by simp [State.dropLinkUsers]
@[simp] theorem State.failLink_fuse (s : State) (i : Nat) : (s.failLink i).fuse = s.fuse := by simp [State.failLink]
@[simp] theorem State.linkDown_fuse (s : State) (i : Nat) : (s.linkDown i).fuse = s.fuse := by simp [State.linkDown]

@[simp] theorem State.doorArrival_fuse (s : State) (h d latch : Nat) : (s.doorArrival h d latch).fuse = s.fuse := by
  simp only [State.doorArrival]
  (repeat' split) <;> simp

@[simp] theorem State.louvreCharge_fuse (s : State) (h d : Nat) (e : DoorEnt) : (s.louvreCharge h d e).fuse = s.fuse := by
  unfold State.louvreCharge
  split <;> simp

@[simp] theorem State.louvreWindow_fuse (s : State) (h d k : Nat) : (s.louvreWindow h d k).fuse = s.fuse := by simp [State.louvreWindow]
@[simp] theorem State.endRun_fuse (s : State) (h p d : Nat) (run : RunRecord) : (s.endRun h p d run).fuse = s.fuse := by simp [State.endRun]
@[simp] theorem State.preempt_fuse (s : State) (h p d : Nat) (run : RunRecord) : (s.preempt h p d run).fuse = s.fuse := by simp [State.preempt]

@[simp] theorem State.freeDoneRun_fuse (s : State) (h p d : Nat) (e : DoorEnt) (after : Hold) : (s.freeDoneRun h p d e after).fuse = s.fuse := by
  simp [State.freeDoneRun]

@[simp] theorem State.enqueue_fuse (s : State) (h p d : Nat) (e : DoorEnt) (v : Reserve) (tag : Option Nat) : (s.enqueue h p d e v tag).fuse = s.fuse := by
  simp [State.enqueue]

@[simp] theorem State.sampleTag_fuse (s : State) (h : Nat) (e : DoorEnt) (d : Nat) : (s.sampleTag h e d).1.fuse = s.fuse := by
  simp only [State.sampleTag]
  (repeat' split) <;> simp

@[simp] theorem State.admitOne_fuse (s : State) (h p d : Nat) (e : DoorEnt) (v : Reserve) : (s.admitOne h p d e v).fuse = s.fuse := by simp [State.admitOne]

@[simp] theorem State.tryAdmit_fuse (s : State) (h p : Nat) (w : Nat × DoorEnt) : (s.tryAdmit h p w).fuse = s.fuse := by
  unfold State.tryAdmit
  split <;> simp

@[simp] theorem State.noteHeld_fuse (s : State) (h p d : Nat) : (s.noteHeld h p d).fuse = s.fuse := by
  unfold State.noteHeld
  split <;> simp

@[simp] theorem State.contest_fuse (s : State) (h p : Nat) : (s.contest h p).fuse = s.fuse := by
  unfold State.contest
  split <;> simp

@[simp] theorem State.contestBeside_fuse (s : State) (h p d : Nat) (run : RunRecord) : (s.contestBeside h p d run).fuse = s.fuse := by
  simp only [State.contestBeside]
  (repeat' split) <;> simp

@[simp] theorem State.evaluate_fuse (s : State) (h p : Nat) : (s.evaluate h p).fuse = s.fuse := by
  unfold State.evaluate
  (repeat' split) <;> simp

@[simp] theorem State.evaluateHeld_fuse (s : State) (h p : Nat) : (s.evaluateHeld h p).fuse = s.fuse := by
  unfold State.evaluateHeld
  (repeat' split) <;> simp

@[simp] theorem State.admitNext_fuse (s : State) (h p : Nat) : (s.admitNext h p).fuse = s.fuse := by simp [State.admitNext]
@[simp] theorem State.writePrio_fuse (s : State) (h n v : Nat) : (s.writePrio h n v).fuse = s.fuse := by simp [State.writePrio]
@[simp] theorem State.maskDoor_fuse (s : State) (h d : Nat) : (s.maskDoor h d).fuse = s.fuse := by simp [State.maskDoor]
@[simp] theorem State.unmaskDoor_fuse (s : State) (h d : Nat) : (s.unmaskDoor h d).fuse = s.fuse := by simp [State.unmaskDoor]
@[simp] theorem State.dropDoor_fuse (s : State) (h d : Nat) (gone : Req → Bool) (st : Status) : (s.dropDoor h d gone st).fuse = s.fuse := by simp [State.dropDoor]

@[simp] theorem State.endDeadLatch_fuse (s : State) (h p : Nat) : (s.endDeadLatch h p).fuse = s.fuse := by
  unfold State.endDeadLatch
  split <;> simp

@[simp] theorem State.dropTransit_fuse (s : State) (h d : Nat) (st : Status) : (s.dropTransit h d st).fuse = s.fuse := by simp [State.dropTransit]
@[simp] theorem State.dropDoors_fuse (s : State) (h : Nat) (gone : Req → Bool) (st : Status) : (s.dropDoors h gone st).fuse = s.fuse := by simp [State.dropDoors]
@[simp] theorem State.dropRing_fuse (s : State) (h : Nat) (gone : Req → Bool) (st : Status) : (s.dropRing h gone st).fuse = s.fuse := by simp [State.dropRing]

/-! ## The pseudo-channel controller -/

@[simp] theorem State.countAct_fuse (s : State) (h p b row : Nat) : (s.countAct h p b row).fuse = s.fuse := by
  unfold State.countAct
  split <;> simp

@[simp] theorem State.retryTrim_fuse (s : State) (h p : Nat) : (s.retryTrim h p).fuse = s.fuse := by
  unfold State.retryTrim
  split <;> simp

@[simp] theorem State.writeSectorOf_fuse (s : State) (e : QEnt) (n : Nat) : (s.writeSectorOf e n).fuse = s.fuse := by simp [State.writeSectorOf]
@[simp] theorem State.issueRead_fuse (s : State) (h p : Nat) (e : QEnt) (n rl : Nat) : (s.issueRead h p e n rl).fuse = s.fuse := by simp [State.issueRead]
@[simp] theorem State.drive_fuse (s : State) (h p : Nat) (e : CmdEntry) (r : RetryEnt) : (s.drive h p e r).fuse = s.fuse := by simp [State.drive]

@[simp] theorem State.issue_fuse (s : State) (h p : Nat) (w : Wanted) (who : Issuer) (q : Option Ptr) (raw : Bool) :
    (s.issue h p w who q raw).fuse = s.fuse := by
  unfold State.issue
  dsimp only
  split
  case h_1 => split <;> simp
  case h_2 => split <;> simp
  case h_4 => split <;> simp
  case h_5 => split <;> simp
  all_goals simp

@[simp] theorem State.freeEntry_fuse (s : State) (h p : Nat) (e : QEnt) : (s.freeEntry h p e).fuse = s.fuse := by simp [State.freeEntry]

@[simp] theorem State.sampleDone_fuse (s : State) (e : QEnt) (st : Status) : (s.sampleDone e st).fuse = s.fuse := by
  unfold State.sampleDone
  split <;> simp

@[simp] theorem State.endRequest_fuse (s : State) (h p id : Nat) : (s.endRequest h p id).fuse = s.fuse := by
  unfold State.endRequest
  split <;> simp

@[simp] theorem State.refDone_fuse (s : State) (h p : Nat) (q : Ptr) : (s.refDone h p q).fuse = s.fuse := by simp [State.refDone]

@[simp] theorem State.event_fuse (s : State) (h p : Nat) (q : Ptr) (e : Nat) : (s.event h p q e).fuse = s.fuse := by
  unfold State.event
  split <;> simp

@[simp] theorem State.events_fuse (s : State) (h p : Nat) (q : Ptr) (l : List Nat) : (s.events h p q l).fuse = s.fuse := by simp [State.events]

@[simp] theorem State.nbrDone_fuse (s : State) (h p b : Nat) : (s.nbrDone h p b).fuse = s.fuse := by
  simp only [State.nbrDone]
  (repeat' split) <;> simp

@[simp] theorem State.endOp_fuse (s : State) (h p : Nat) (q : Ptr) : (s.endOp h p q).fuse = s.fuse := by simp [State.endOp]

@[simp] theorem State.advanceAt_fuse (s : State) (h p : Nat) (q : Ptr) (now : Nat) : (s.advanceAt h p q now).fuse = s.fuse := by
  unfold State.advanceAt
  (repeat' split) <;> simp

@[simp] theorem State.advance_fuse (s : State) (h p : Nat) (q : Ptr) : (s.advance h p q).fuse = s.fuse := by simp [State.advance]
@[simp] theorem State.advanceAll_fuse (s : State) (h p : Nat) : (s.advanceAll h p).fuse = s.fuse := by simp [State.advanceAll]

@[simp] theorem State.issuePtr_fuse (s : State) (h p : Nat) (q : Ptr) (w : Wanted) (who : Issuer) : (s.issuePtr h p q w who).fuse = s.fuse := by
  simp only [State.issuePtr]
  (repeat' split) <;> simp

@[simp] theorem State.schedule_fuse (s : State) (h p : Nat) : (s.schedule h p).fuse = s.fuse := by
  simp only [State.schedule]
  (repeat' split) <;> simp

@[simp] theorem State.issueDebug_fuse (s : State) (h p : Nat) (w : Wanted) (raw : Bool) : (s.issueDebug h p w raw).fuse = s.fuse := by simp [State.issueDebug]

@[simp] theorem State.grantSlot_fuse (s : State) (h p : Nat) (column : Bool) (used : List Ptr) : (s.grantSlot h p column used).1.fuse = s.fuse := by
  simp only [State.grantSlot]
  (repeat' split) <;> simp

@[simp] theorem State.loadWide_fuse (s : State) (h p op : Nat) (emerg : Bool) : (s.loadWide h p op emerg).fuse = s.fuse := by
  unfold State.loadWide
  split <;> simp

@[simp] theorem State.runPtr_fuse (s : State) (h p : Nat) (tbl : List Step) (n : Nat) (q : Ptr) : (s.runPtr h p tbl n q).fuse = s.fuse := by
  induction n generalizing s q with
  | zero => rfl
  | succ n ih =>
    unfold State.runPtr
    split
    · simp
    · dsimp only
      split <;> simp [ih]

@[simp] theorem State.runWide_fuse (s : State) (h p op : Nat) : (s.runWide h p op).fuse = s.fuse := by
  unfold State.runWide
  (repeat' split) <;> simp

@[simp] theorem State.runWides_fuse (s : State) (h p : Nat) (ops : List Nat) : (s.runWides h p ops).fuse = s.fuse := by simp [State.runWides]

@[simp] theorem State.wideProgress_fuse (s : State) (h p : Nat) : (s.wideProgress h p).fuse = s.fuse := by
  simp only [State.wideProgress]
  (repeat' split) <;> simp

@[simp] theorem State.srProgress_fuse (s : State) (h p : Nat) : (s.srProgress h p).fuse = s.fuse := by simp [State.srProgress]
@[simp] theorem State.ageMarks_fuse (s : State) (h p : Nat) : (s.ageMarks h p).fuse = s.fuse := by simp [State.ageMarks]

@[simp] theorem State.waitDone_fuse (s : State) (h p b : Nat) : (s.waitDone h p b).fuse = s.fuse := by
  unfold State.waitDone
  split <;> simp

@[simp] theorem State.mergeWindow_fuse (s : State) (h p b : Nat) : (s.mergeWindow h p b).fuse = s.fuse := by simp [State.mergeWindow]

@[simp] theorem State.answerRead_fuse (s : State) (h p : Nat) (e : QEnt) (l : List (Nat × SectorOutcome × BitVec 256)) : (s.answerRead h p e l).fuse = s.fuse := by
  simp [State.answerRead]

@[simp] theorem State.rewrite_fuse (s : State) (r : Req) (b : Burst) (x : Nat × SectorOutcome × BitVec 256) : (s.rewrite r b x).fuse = s.fuse := by
  unfold State.rewrite
  split <;> simp

@[simp] theorem State.readReturn_fuse (s : State) (h p : Nat) (errs : List BurstError) (sweep : Req → Bool) : (s.readReturn h p errs sweep).fuse = s.fuse := by
  unfold State.readReturn
  split <;> simp

@[simp] theorem State.merge_fuse (s : State) (h p : Nat) (errs : List BurstError) : (s.merge h p errs).fuse = s.fuse := by
  unfold State.merge
  split <;> simp

@[simp] theorem State.debugHalted_fuse (s : State) (h p : Nat) : (s.debugHalted h p).fuse = s.fuse := by simp [State.debugHalted]
@[simp] theorem State.debugCmd_fuse (s : State) (h p : Nat) (v : Word) : (s.debugCmd h p v).fuse = s.fuse := by simp [State.debugCmd]

/-! ## Refresh, disturbance and replay -/

@[simp] theorem State.newRate_fuse (s : State) (h p : Nat) : (s.newRate h p).fuse = s.fuse := by simp [State.newRate]
@[simp] theorem State.setRate_fuse (s : State) (h st : Nat) (hot stale : Bool) : (s.setRate h st hot stale).fuse = s.fuse := by simp [State.setRate]
@[simp] theorem State.overdue_fuse (s : State) (h p b : Nat) : (s.overdue h p b).fuse = s.fuse := by simp [State.overdue]

@[simp] theorem State.due_fuse (s : State) (h p b : Nat) : (s.due h p b).fuse = s.fuse := by
  unfold State.due
  (repeat' split) <;> simp

@[simp] theorem State.loadRefresh_fuse (s : State) (h p b : Nat) (emerg : Bool) : (s.loadRefresh h p b emerg).fuse = s.fuse := by
  simp only [State.loadRefresh]
  (repeat' split) <;> simp

@[simp] theorem State.refPb_fuse (s : State) (h p : Nat) : (s.refPb h p).fuse = s.fuse := by
  simp only [State.refPb]
  (repeat' split) <;> simp

@[simp] theorem State.emergPb_fuse (s : State) (h p b : Nat) : (s.emergPb h p b).fuse = s.fuse := by
  simp only [State.emergPb]
  (repeat' split) <;> simp

@[simp] theorem State.emergAb_fuse (s : State) (h p : Nat) : (s.emergAb h p).fuse = s.fuse := by
  simp only [State.emergAb]
  (repeat' split) <;> simp

@[simp] theorem State.emergency_fuse (s : State) (h p : Nat) : (s.emergency h p).fuse = s.fuse := by
  unfold State.emergency
  split <;> simp

@[simp] theorem State.refAb_fuse (s : State) (h p : Nat) : (s.refAb h p).fuse = s.fuse := by simp [State.refAb]
@[simp] theorem State.enterSr_fuse (s : State) (h p : Nat) (auto : Bool) : (s.enterSr h p auto).fuse = s.fuse := by simp [State.enterSr]
@[simp] theorem State.autoSr_fuse (s : State) (h p : Nat) : (s.autoSr h p).fuse = s.fuse := by simp [State.autoSr]
@[simp] theorem State.exitSr_fuse (s : State) (h p : Nat) : (s.exitSr h p).fuse = s.fuse := by simp [State.exitSr]
@[simp] theorem State.autoExit_fuse (s : State) (h p : Nat) : (s.autoExit h p).fuse = s.fuse := by simp [State.autoExit]

@[simp] theorem State.clearTables_fuse (s : State) (h p : Nat) : (s.clearTables h p).fuse = s.fuse := by
  simp only [State.clearTables]
  (repeat' split) <;> simp

@[simp] theorem State.neighbourRefresh_fuse (s : State) (h p b : Nat) : (s.neighbourRefresh h p b).fuse = s.fuse := by
  simp only [State.neighbourRefresh]
  (repeat' split) <;> simp

@[simp] theorem State.haltPc_fuse (s : State) (h p : Nat) : (s.haltPc h p).fuse = s.fuse := by simp [State.haltPc]

@[simp] theorem State.alert_fuse (s : State) (h p len : Nat) : (s.alert h p len).fuse = s.fuse := by
  simp only [State.alert]
  (repeat' split) <;> simp

@[simp] theorem State.haltReplay_fuse (s : State) (h p : Nat) : (s.haltReplay h p).fuse = s.fuse := by simp [State.haltReplay]
@[simp] theorem State.parityAlert_fuse (s : State) (h n len : Nat) : (s.parityAlert h n len).fuse = s.fuse := by simp [State.parityAlert]

@[simp] theorem State.replayClose_fuse (s : State) (h p : Nat) (r : ReplaySt) : (s.replayClose h p r).fuse = s.fuse := by
  unfold State.replayClose
  split <;> simp

@[simp] theorem State.replayRestore_fuse (s : State) (h p b row : Nat) (rest : List (Nat × Nat)) (r : ReplaySt) : (s.replayRestore h p b row rest r).fuse = s.fuse := by
  unfold State.replayRestore
  split <;> simp

@[simp] theorem State.reissue_fuse (s : State) (h p : Nat) (e : CmdEntry) (y : RetryEnt) : (s.reissue h p e y).fuse = s.fuse := by
  unfold State.reissue
  split <;> simp

@[simp] theorem State.replayNext_fuse (s : State) (h p : Nat) (y : RetryEnt) (rest : List RetryEnt) (r : ReplaySt) : (s.replayNext h p y rest r).fuse = s.fuse := by
  unfold State.replayNext
  split <;> simp

@[simp] theorem State.retryStall_fuse (s : State) (h p : Nat) : (s.retryStall h p).fuse = s.fuse := by simp [State.retryStall]

@[simp] theorem State.replayStep_fuse (s : State) (h p : Nat) : (s.replayStep h p).fuse = s.fuse := by
  simp only [State.replayStep]
  (repeat' split) <;> simp

@[simp] theorem State.replayEnd_fuse (s : State) (h p : Nat) : (s.replayEnd h p).fuse = s.fuse := by
  simp only [State.replayEnd]
  (repeat' split) <;> simp

@[simp] theorem State.slotGrant_fuse (s : State) (h p : Nat) : (s.slotGrant h p).fuse = s.fuse := by simp [State.slotGrant]

/-! ## Training -/

@[simp] theorem State.setTrim_fuse (s : State) (h p lane hp : Nat) (x : TrimRec) : (s.setTrim h p lane hp x).fuse = s.fuse := by simp [State.setTrim]
@[simp] theorem State.useTrims_fuse (s : State) (h p hp : Nat) : (s.useTrims h p hp).fuse = s.fuse := by simp [State.useTrims]
@[simp] theorem State.writeTrimRec_fuse (s : State) (h p lane hp : Nat) (x : TrimRec) : (s.writeTrimRec h p lane hp x).fuse = s.fuse := by simp [State.writeTrimRec]
@[simp] theorem State.scaleTrims_fuse (s : State) (h p b : Nat) : (s.scaleTrims h p b).fuse = s.fuse := by simp [State.scaleTrims]

@[simp] theorem State.trimLanes_fuse (s : State) (h p : Nat) (ok : LaneEye → Bool) (eyes : List LaneEye) (lanes : List Nat) :
    (s.trimLanes h p ok eyes lanes).fuse = s.fuse := by
  simp only [State.trimLanes, State.useTrims_fuse]
  exact foldl_fuse _ _ _ fun l t => by dsimp only; split <;> simp

@[simp] theorem State.moveTrims_fuse (s : State) (h p : Nat) (moves : List LaneMove) : (s.moveTrims h p moves).fuse = s.fuse := by
  simp only [State.moveTrims, State.useTrims_fuse]
  exact foldl_fuse _ _ _ fun lane t => by dsimp only; split <;> simp

@[simp] theorem State.retrainDue_fuse (s : State) (h p : Nat) : (s.retrainDue h p).fuse = s.fuse := by simp [State.retrainDue]
@[simp] theorem State.retrainPause_fuse (s : State) (h p : Nat) : (s.retrainPause h p).fuse = s.fuse := by simp [State.retrainPause]

@[simp] theorem State.pauseRun_fuse (s : State) (h p : Nat) (moves : List LaneMove) (err : Bool) : (s.pauseRun h p moves err).1.fuse = s.fuse := by
  simp [State.pauseRun]

@[simp] theorem State.pauseFailed_fuse (s : State) (h p : Nat) : (s.pauseFailed h p).fuse = s.fuse := by simp [State.pauseFailed]

@[simp] theorem State.pauseResult_fuse (s : State) (h p start : Nat) (moves : List LaneMove) (err atOnce : Bool) :
    (s.pauseResult h p start moves err atOnce).fuse = s.fuse := by
  simp [State.pauseResult]

@[simp] theorem State.retrainPauseEnd_fuse (s : State) (h p : Nat) (moves : List LaneMove) (err : Bool) : (s.retrainPauseEnd h p moves err).fuse = s.fuse := by
  simp only [State.retrainPauseEnd]
  (repeat' split) <;> simp

@[simp] theorem State.trnStart_fuse (s : State) (h p phase : Nat) : (s.trnStart h p phase).fuse = s.fuse := by simp [State.trnStart]

@[simp] theorem State.noteErrors_fuse (s : State) (h p : Nat) (top : Option Nat) (errs : List (Nat × Nat)) : (s.noteErrors h p top errs).fuse = s.fuse := by
  simp [State.noteErrors]

@[simp] theorem State.compareDone_fuse (s : State) (h p : Nat) (errs : List (Nat × Nat)) : (s.compareDone h p errs).fuse = s.fuse := by
  unfold State.compareDone
  split <;> simp

@[simp] theorem State.engineCompared_fuse (s : State) (h p : Nat) (errs : List (Nat × Nat)) : (s.engineCompared h p errs).fuse = s.fuse := by
  simp [State.engineCompared]

end Sys2Proof.Machine
end

section
/-! SUPPORT. The fuses under signals, images, hinges and heat (R43): only ADVANCE raises one. -/

namespace Sys2Proof.Machine

/-! ## Signals, queues and traffic made in one step -/

@[simp] theorem State.signal_fuse (s : State) (f vec : Nat) : (s.signal f vec).fuse = s.fuse := by
  unfold State.signal
  split <;> simp

@[simp] theorem State.fnEvent_fuse (s : State) (f : Nat) (e : FnEvent) : (s.fnEvent f e).fuse = s.fuse := by simp [State.fnEvent]
@[simp] theorem State.fnEventAll_fuse (s : State) (e : FnEvent) : (s.fnEventAll e).fuse = s.fuse := by simp [State.fnEventAll]
@[simp] theorem State.qwr_fuse (s : State) (q : QueueId) (f : Fld) (v : Nat) : (s.qwr q f v).fuse = s.fuse := by simp [State.qwr]
@[simp] theorem State.setCmd_fuse (s : State) (q : QueueId) (c : Cmd) : (s.setCmd q c).fuse = s.fuse := by simp [State.setCmd]

@[simp] theorem State.signalQueue_fuse (s : State) (q : QueueId) : (s.signalQueue q).fuse = s.fuse := by
  unfold State.signalQueue
  split <;> simp

@[simp] theorem State.stopQueue_fuse (s : State) (q : QueueId) (st : Status) : (s.stopQueue q st).fuse = s.fuse := by simp [State.stopQueue]

@[simp] theorem State.endCmd_fuse (s : State) (q : QueueId) (idx : Nat) (st : Status) : (s.endCmd q idx st).fuse = s.fuse := by
  unfold State.endCmd
  split <;> simp

@[simp] theorem State.endCmdWith_fuse (s : State) (q : QueueId) (idx : Nat) (st : Status) (detail : Nat) : (s.endCmdWith q idx st detail).fuse = s.fuse := by
  unfold State.endCmdWith
  split <;> simp

@[simp] theorem State.coverPending_fuse (s : State) (pl : Place) (m : BitVec 32) : (s.coverPending pl m).fuse = s.fuse := by simp [State.coverPending]

@[simp] theorem State.pokeSector_fuse (s : State) (pl : Place) (data : BitVec 256) (m : BitVec 32) : (s.pokeSector pl data m).1.fuse = s.fuse := by
  unfold State.pokeSector
  (repeat' split) <;> simp

@[simp] theorem State.pass_fuse (s : State) (v : Via) (r : Req) (first : Bool) : (s.pass v r first).fuse = s.fuse := by
  unfold State.pass
  (repeat' split) <;> simp

@[simp] theorem State.fetchSector_fuse (s : State) (v : Via) (addr : Nat) (first : Bool) : (s.fetchSector v addr first).1.fuse = s.fuse := by
  simp only [State.fetchSector]
  (repeat' split) <;> simp

@[simp] theorem State.storeBytes_fuse (s : State) (v : Via) (addr : Nat) (data : BitVec 256) (m : BitVec 32) (bad first : Bool) :
    (s.storeBytes v addr data m bad first).1.fuse = s.fuse := by
  unfold State.storeBytes
  (repeat' split) <;> simp

@[simp] theorem State.fetchMore_fuse (s : State) (v : Via) (n addr : Nat) (first : Bool) : (s.fetchMore v n addr first).1.fuse = s.fuse := by
  induction n generalizing s addr first with
  | zero => rfl
  | succ n ih => simp [State.fetchMore, ih]

@[simp] theorem State.fetchSectors_fuse (s : State) (v : Via) (n addr : Nat) : (s.fetchSectors v n addr).1.fuse = s.fuse := by simp [State.fetchSectors]
@[simp] theorem State.fetchBlock_fuse (s : State) (v : Via) (addr : Nat) : (s.fetchBlock v addr).1.fuse = s.fuse := by simp [State.fetchBlock]

@[simp] theorem State.storeBlockN_fuse (s : State) (v : Via) (addr : Nat) (data : Block) (marks : BitVec 8) (n : Nat) :
    (s.storeBlockN v addr data marks n).1.fuse = s.fuse := by
  induction n with
  | zero => rfl
  | succ n ih => simp [State.storeBlockN, ih]

@[simp] theorem State.storeBlock_fuse (s : State) (v : Via) (addr : Nat) (data : Block) (marks : BitVec 8) : (s.storeBlock v addr data marks).1.fuse = s.fuse := by
  simp [State.storeBlock]

/-! ## The structure image -/

@[simp] theorem State.hubImage_fuse (s : State) (h state code frame : Nat) : (s.hubImage h state code frame).fuse = s.fuse := by simp [State.hubImage]
@[simp] theorem State.imageState_fuse (s : State) (state kind : Nat) : (s.imageState state kind).fuse = s.fuse := by simp [State.imageState]

@[simp] theorem State.imageStatus_fuse (s : State) (state kind code frame hub : Nat) : (s.imageStatus state kind code frame hub).fuse = s.fuse := by
  simp [State.imageStatus]

@[simp] theorem State.rejectImage_fuse (s : State) (kind : Nat) (e : LoadErr) (found : List (Nat × Nat)) : (s.rejectImage kind e found).fuse = s.fuse := by
  simp [State.rejectImage]

@[simp] theorem State.loadSlots_fuse (s : State) (h d : Nat) (c : Option LouvreCfg) : (s.loadSlots h d c).fuse = s.fuse := by simp [State.loadSlots]

@[simp] theorem State.loadArbiter_fuse (s : State) (h : Nat) : (s.loadArbiter h).fuse = s.fuse := by
  unfold State.loadArbiter
  split <;> simp

@[simp] theorem State.loadFields_fuse (s : State) : (s.loadFields).fuse = s.fuse := by simp [State.loadFields]
@[simp] theorem State.setMode_fuse (s : State) (h p : Nat) : (s.setMode h p).fuse = s.fuse := by simp [State.setMode]
@[simp] theorem State.setModes_fuse (s : State) : (s.setModes).fuse = s.fuse := by simp [State.setModes]

@[simp] theorem State.loadFull_fuse (s : State) (l : List Byte) : (s.loadFull l).1.fuse = s.fuse := by
  simp only [State.loadFull]
  (repeat' split) <;> simp

@[simp] theorem State.setTicks_fuse (s : State) : (s.setTicks).fuse = s.fuse := by simp [State.setTicks]
@[simp] theorem State.stage_fuse (s : State) (c : Change) : (s.stage c).fuse = s.fuse := by simp [State.stage]

@[simp] theorem State.beginPartial_fuse (s : State) : (s.beginPartial).fuse = s.fuse := by
  simp only [State.beginPartial]
  (repeat' split) <;> simp

@[simp] theorem State.endLayout_fuse (s : State) (code : Nat) : (s.endLayout code).fuse = s.fuse := by simp [State.endLayout]
@[simp] theorem State.beginLayout_fuse (s : State) : (s.beginLayout).fuse = s.fuse := by simp [State.beginLayout]
@[simp] theorem State.startHeld_fuse (s : State) : (s.startHeld).fuse = s.fuse := by simp [State.startHeld]
@[simp] theorem State.startImage_fuse (s : State) : (s.startImage).fuse = s.fuse := by simp [State.startImage]
@[simp] theorem State.startLayout_fuse (s : State) : (s.startLayout).fuse = s.fuse := by simp [State.startLayout]
@[simp] theorem State.endImage_fuse (s : State) (code : Nat) : (s.endImage code).fuse = s.fuse := by simp [State.endImage]
@[simp] theorem State.abortLayout_fuse (s : State) (code : Nat) : (s.abortLayout code).fuse = s.fuse := by simp [State.abortLayout]
@[simp] theorem State.abortStaged_fuse (s : State) : (s.abortStaged).fuse = s.fuse := by simp [State.abortStaged]
@[simp] theorem State.abortFor_fuse (s : State) (c : Nat) : (s.abortFor c).fuse = s.fuse := by simp [State.abortFor]
@[simp] theorem State.quiesceLost_fuse (s : State) : (s.quiesceLost).fuse = s.fuse := by simp [State.quiesceLost]
@[simp] theorem State.quiesce_fuse (s : State) (v : Nat) : (s.quiesce v).fuse = s.fuse := by simp [State.quiesce]
@[simp] theorem State.quiesced_fuse (s : State) (n : Nat) : (s.quiesced n).fuse = s.fuse := by simp [State.quiesced]

@[simp] theorem State.fenceApply_fuse (s : State) (base len : Nat) : (s.fenceApply base len).fuse = s.fuse := by
  unfold State.fenceApply
  split <;> simp

@[simp] theorem State.targetReady_fuse (s : State) (h : Nat) : (s.targetReady h).fuse = s.fuse := by simp [State.targetReady]
@[simp] theorem State.commitImage_fuse (s : State) (c : RunCfg) (doors : List (Nat × Nat)) : (s.commitImage c doors).fuse = s.fuse := by simp [State.commitImage]

@[simp] theorem State.commitOne_fuse (s : State) (x : Staged) : (s.commitOne x).fuse = s.fuse := by
  unfold State.commitOne
  split <;> simp

@[simp] theorem State.commit_fuse (s : State) : (s.commit).fuse = s.fuse := by simp [State.commit]
@[simp] theorem State.moveTicks_fuse (s : State) : (s.moveTicks).fuse = s.fuse := by simp [State.moveTicks]

/-! ## Hinges and power states -/

@[simp] theorem State.hingeError_fuse (s : State) (e : Nat) : (s.hingeError e).fuse = s.fuse := by simp [State.hingeError]

@[simp] theorem State.hingeRequest_fuse (s : State) (t : Nat) : (s.hingeRequest t).fuse = s.fuse := by
  unfold State.hingeRequest
  split <;> simp

@[simp] theorem State.endHinges_fuse (s : State) (l : List QueueId) (st : Status) : (s.endHinges l st).fuse = s.fuse :=
  foldl_fuse _ _ _ fun q t => by dsimp only; split <;> simp

@[simp] theorem State.hingeEnter_fuse (s : State) (h p : Nat) : (s.hingeEnter h p).fuse = s.fuse := by simp [State.hingeEnter]

@[simp] theorem State.hingeProgress_fuse (s : State) : (s.hingeProgress).fuse = s.fuse := by
  unfold State.hingeProgress
  split <;> simp

@[simp] theorem State.hingeRun_fuse (s : State) : (s.hingeRun).fuse = s.fuse := by simp [State.hingeRun]

@[simp] theorem State.hingeStart_fuse (s : State) : (s.hingeStart).fuse = s.fuse := by
  unfold State.hingeStart
  split <;> simp

@[simp] theorem State.switchPc_fuse (s : State) (h p : Nat) : (s.switchPc h p).fuse = s.fuse := by simp [State.switchPc]

@[simp] theorem State.switchTick_fuse (s : State) : (s.switchTick).fuse = s.fuse := by
  unfold State.switchTick
  split <;> simp

@[simp] theorem State.shiftTimers_fuse (s : State) (n : Nat) : (s.shiftTimers n).fuse = s.fuse := by simp [State.shiftTimers]
@[simp] theorem State.hingePause_fuse (s : State) (h p : Nat) (l : List PauseRes) : (s.hingePause h p l).fuse = s.fuse := by simp [State.hingePause]
@[simp] theorem State.hingeRelease_fuse (s : State) (pauses : List PauseRes) : (s.hingeRelease pauses).fuse = s.fuse := by simp [State.hingeRelease]
@[simp] theorem State.abandonHinge_fuse (s : State) : (s.abandonHinge).fuse = s.fuse := by simp [State.abandonHinge]
@[simp] theorem State.pwrDone_fuse (s : State) (st err : Nat) : (s.pwrDone st err).fuse = s.fuse := by simp [State.pwrDone]
@[simp] theorem State.compOff_fuse (s : State) : (s.compOff).fuse = s.fuse := by simp [State.compOff]
@[simp] theorem State.pwrHinge_fuse (s : State) (hp st : Nat) : (s.pwrHinge hp st).fuse = s.fuse := by simp [State.pwrHinge]

@[simp] theorem State.pwrProgress_fuse (s : State) : (s.pwrProgress).fuse = s.fuse := by
  unfold State.pwrProgress
  split <;> simp

@[simp] theorem State.pwrRequest_fuse (s : State) (st : Nat) : (s.pwrRequest st).fuse = s.fuse := by simp [State.pwrRequest]

/-! ## Ports, repairs and heat -/

@[simp] theorem State.blowOnce_fuse (s : State) (h : Nat) (v : Word) : (s.blowOnce h v).fuse = s.fuse := by simp [State.blowOnce]

@[simp] theorem State.blowTries_fuse (s : State) (h : Nat) (v : Word) (n : Nat) : (s.blowTries h v n).fuse = s.fuse := by
  induction n generalizing s with
  | zero => simp [State.blowTries]
  | succ n ih => simp [State.blowTries, ih]

@[simp] theorem State.blow_fuse (s : State) (h : Nat) (r : FuseRec) : (s.blow h r).fuse = s.fuse := by simp [State.blow]
@[simp] theorem State.useSpare_fuse (s : State) (h p b kind : Nat) : (s.useSpare h p b kind).fuse = s.fuse := by simp [State.useSpare]
@[simp] theorem State.shiftThrough_fuse (s : State) (h st : Nat) (inp : List Byte) : (s.shiftThrough h st inp).fuse = s.fuse := by simp [State.shiftThrough]

@[simp] theorem State.portNext_fuse (s : State) (h st : Nat) (gap : Bool) : (s.portNext h st gap).fuse = s.fuse := by
  simp only [State.portNext]
  (repeat' split) <;> simp

@[simp] theorem State.poisonRow_fuse (s : State) (h p b row : Nat) : (s.poisonRow h p b row).fuse = s.fuse := by simp [State.poisonRow]
@[simp] theorem State.repairDone_fuse (s : State) (r : RepairSt) : (s.repairDone r).fuse = s.fuse := by simp [State.repairDone]
@[simp] theorem State.repairFailed_fuse (s : State) (r : RepairSt) : (s.repairFailed r).fuse = s.fuse := by simp [State.repairFailed]
@[simp] theorem State.engineTraining_fuse (s : State) (h p : Nat) : (s.engineTraining h p).fuse = s.fuse := by simp [State.engineTraining]
@[simp] theorem State.repairLast_fuse (s : State) (h st : Nat) (r : RepairSt) : (s.repairLast h st r).fuse = s.fuse := by simp [State.repairLast]

@[simp] theorem State.portOperation_fuse (s : State) (h st : Nat) : (s.portOperation h st).fuse = s.fuse := by
  simp only [State.portOperation]
  (repeat' split) <;> simp

@[simp] theorem State.programStep_fuse (s : State) (h st : Nat) : (s.programStep h st).fuse = s.fuse := by simp [State.programStep]
@[simp] theorem State.directAccess_fuse (s : State) (h : Nat) (inp : List Byte) : (s.directAccess h inp).fuse = s.fuse := by simp [State.directAccess]

@[simp] theorem State.cutRepairs_fuse (s : State) : s.cutRepairs.fuse = s.fuse :=
  foldl_fuse _ _ _ fun x t => by dsimp only; split <;> simp

@[simp] theorem State.closedCount_fuse (s : State) (h n : Nat) : (s.closedCount h n).fuse = s.fuse := by simp [State.closedCount]
@[simp] theorem State.closeStack_fuse (s : State) (h st : Nat) : (s.closeStack h st).fuse = s.fuse := by simp [State.closeStack]
@[simp] theorem State.openStack_fuse (s : State) (h st : Nat) : (s.openStack h st).fuse = s.fuse := by simp [State.openStack]
@[simp] theorem State.announce_fuse (s : State) (d h st : Nat) : (s.announce d h st).fuse = s.fuse := by simp [State.announce]
@[simp] theorem State.tierEvents_fuse (s old : State) (h : Nat) : (s.tierEvents old h).fuse = s.fuse := by simp [State.tierEvents]
@[simp] theorem State.capFollow_fuse (s : State) : (s.capFollow).fuse = s.fuse := by simp [State.capFollow]
@[simp] theorem State.heatChanged_fuse (s old : State) : (s.heatChanged old).fuse = s.fuse := by simp [State.heatChanged]
@[simp] theorem State.readStack_fuse (s : State) (h st : Nat) (x : Int) : (s.readStack h st x).fuse = s.fuse := by simp [State.readStack]
@[simp] theorem State.temperatureReadout_fuse (s : State) (h st : Nat) (x : Int) : (s.temperatureReadout h st x).fuse = s.fuse := by simp [State.temperatureReadout]

@[simp] theorem State.dieReading_fuse (s : State) (d : Nat) (l : List Int) : (s.dieReading d l).fuse = s.fuse := by
  simp only [State.dieReading]
  (repeat' split) <;> simp

@[simp] theorem State.goStale_fuse (s : State) (h st : Nat) : (s.goStale h st).fuse = s.fuse := by simp [State.goStale]
@[simp] theorem State.throttle_fuse (s : State) (d level : Nat) : (s.throttle d level).fuse = s.fuse := by simp [State.throttle]

end Sys2Proof.Machine
end

section
/-! SUPPORT. The fuses under the engines, the cores and the fabric (R43). -/

namespace Sys2Proof.Machine

/-! ## Queues, MOVE and HUB commands -/

@[simp] theorem State.ringDoorbell_fuse (s : State) (q : QueueId) (v : Nat) : (s.ringDoorbell q v).fuse = s.fuse := by simp [State.ringDoorbell]
@[simp] theorem State.cplDoorbell_fuse (s : State) (q : QueueId) (v : Nat) : (s.cplDoorbell q v).fuse = s.fuse := by simp [State.cplDoorbell]
@[simp] theorem State.enableQueue_fuse (s : State) (q : QueueId) : (s.enableQueue q).fuse = s.fuse := by simp [State.enableQueue]
@[simp] theorem State.restartQueue_fuse (s : State) (q : QueueId) : (s.restartQueue q).fuse = s.fuse := by simp [State.restartQueue]
@[simp] theorem State.served_fuse (s : State) (q : QueueId) : (s.served q).fuse = s.fuse := by simp [State.served]

/-- A command that starts keeps the fuses where its own work does. -/
@[simp] theorem State.startCmd_fuse (s : State) (q : QueueId) (op : Nat) (own : Cmd → List Status) (run : State → Cmd → State) (detail : Cmd → Status → Nat)
    (hrun : ∀ c, KeepsFuses (run · c)) : (s.startCmd q op own run detail).fuse = s.fuse := by
  unfold State.startCmd
  split
  · rfl
  · next c _ =>
    dsimp only
    split
    · split
      · simp
      · exact (hrun _ _).trans (by simp)
    · rfl

@[simp] theorem State.reapOne_fuse (s : State) (q : QueueId) : (s.reapOne q).fuse = s.fuse := by
  unfold State.reapOne
  split <;> simp

@[simp] theorem State.reapN_fuse (s : State) (q : QueueId) (n : Nat) : (s.reapN q n).fuse = s.fuse := by
  induction n generalizing s with
  | zero => rfl
  | succ n ih => simp [State.reapN, ih]

@[simp] theorem State.reap_fuse (s : State) (q : QueueId) : (s.reap q).fuse = s.fuse := by simp [State.reap]
@[simp] theorem State.commandFetch_fuse (s : State) (q : QueueId) : (s.commandFetch q).fuse = s.fuse := by simp [State.commandFetch]

@[simp] theorem State.writeRecord_fuse (s : State) (q : QueueId) (c : Cmd) (st : Status) : (s.writeRecord q c st).1.fuse = s.fuse := by
  simp only [State.writeRecord]
  (repeat' split) <;> simp

@[simp] theorem State.retire_fuse (s : State) (q : QueueId) (c : Cmd) (st : Status) : (s.retire q c st).fuse = s.fuse := by simp [State.retire]

@[simp] theorem State.completionRecord_fuse (s : State) (q : QueueId) : (s.completionRecord q).fuse = s.fuse := by
  simp only [State.completionRecord]
  (repeat' split) <;> simp

@[simp] theorem State.syncAdd_fuse (s : State) (c k v : Nat) : (s.syncAdd c k v).fuse = s.fuse := by simp [State.syncAdd]
@[simp] theorem State.runNop_fuse (s : State) (q : QueueId) (c : Cmd) : (s.runNop q c).fuse = s.fuse := by simp [State.runNop]
@[simp] theorem State.runSignal_fuse (s : State) (q : QueueId) (c : Cmd) : (s.runSignal q c).fuse = s.fuse := by simp [State.runSignal]

@[simp] theorem State.waitProgress_fuse (s : State) (q : QueueId) : (s.waitProgress q).fuse = s.fuse := by
  unfold State.waitProgress
  split <;> simp

@[simp] theorem State.offer_fuse (s : State) (h door : Nat) (r : Req) (ovr : Option Nat) (may : Bool) : (s.offer h door r ovr may).1.fuse = s.fuse := by
  unfold State.offer
  split <;> simp

@[simp] theorem State.moveWrite_fuse (s : State) (q : QueueId) (c : Cmd) (k : Nat) (data : Block) (poison : BitVec 8) :
    (s.moveWrite q c k data poison).fuse = s.fuse := by
  simp only [State.moveWrite]
  split
  · simp
  · split <;> next ho => simp [fuse_of_pair ho (State.offer_fuse ..)]

@[simp] theorem State.endIfDone_fuse (s : State) (q : QueueId) (idx total : Nat) : (s.endIfDone q idx total).fuse = s.fuse := by
  unfold State.endIfDone
  split <;> simp

@[simp] theorem State.moveIssue_fuse (s : State) (q : QueueId) (c : Cmd) : (s.moveIssue q c).fuse = s.fuse := by
  simp only [State.moveIssue]
  split
  · split
    · simp
    · split <;> next ho => simp [fuse_of_pair ho (State.offer_fuse ..)]
  · exact (State.moveWrite_fuse ..).trans (State.setCmd_fuse ..)

@[simp] theorem State.movePump1_fuse (s : State) (q : QueueId) : (s.movePump1 q).fuse = s.fuse := by
  simp only [State.movePump1]
  (repeat' split) <;> simp

@[simp] theorem State.movePumpN_fuse (s : State) (q : QueueId) (n : Nat) : (s.movePumpN q n).fuse = s.fuse := by
  induction n generalizing s with
  | zero => rfl
  | succ n ih => simp [State.movePumpN, ih]

@[simp] theorem State.movePump_fuse (s : State) (q : QueueId) : (s.movePump q).fuse = s.fuse := by simp [State.movePump]

@[simp] theorem State.moveData_fuse (s : State) (q : QueueId) (idx k : Nat) (st : Status) (data : Block) (poison : BitVec 8) :
    (s.moveData q idx k st data poison).fuse = s.fuse := by
  unfold State.moveData
  split <;> simp

@[simp] theorem State.moveWritten_fuse (s : State) (q : QueueId) (idx k : Nat) (st : Status) : (s.moveWritten q idx k st).fuse = s.fuse := by
  unfold State.moveWritten
  split <;> simp

@[simp] theorem State.hostReadDone_fuse (s : State) (q : QueueId) (data : Option Block) : (s.hostReadDone q data).fuse = s.fuse := by
  simp only [State.hostReadDone]
  (repeat' split) <;> simp

@[simp] theorem State.runFenceAdd_fuse (s : State) (q : QueueId) (c : Cmd) : (s.runFenceAdd q c).fuse = s.fuse := by simp [State.runFenceAdd]
@[simp] theorem State.runFenceDel_fuse (s : State) (q : QueueId) (c : Cmd) : (s.runFenceDel q c).fuse = s.fuse := by simp [State.runFenceDel]

@[simp] theorem State.scrubPump1_fuse (s : State) (q : QueueId) (idx : Nat) : (s.scrubPump1 q idx).fuse = s.fuse := by
  unfold State.scrubPump1
  split
  · rfl
  · dsimp only
    split
    · split
      · simp
      · split <;> next ho => simp [fuse_of_pair ho (State.offer_fuse ..)]
    · rfl

@[simp] theorem State.scrubPumpN_fuse (s : State) (q : QueueId) (idx n : Nat) : (s.scrubPumpN q idx n).fuse = s.fuse := by
  induction n generalizing s with
  | zero => rfl
  | succ n ih => simp [State.scrubPumpN, ih]

@[simp] theorem State.scrubPump_fuse (s : State) (q : QueueId) (idx : Nat) : (s.scrubPump q idx).fuse = s.fuse := by
  unfold State.scrubPump
  split <;> simp

@[simp] theorem State.scrubRead_fuse (s : State) (q : QueueId) (idx k : Nat) (st : Status) : (s.scrubRead q idx k st).fuse = s.fuse := by
  unfold State.scrubRead
  split <;> simp

@[simp] theorem State.runRepair_fuse (s : State) (q : QueueId) (c : Cmd) : (s.runRepair q c).fuse = s.fuse := by simp [State.runRepair]
@[simp] theorem State.runRetrain_fuse (s : State) (q : QueueId) (c : Cmd) : (s.runRetrain q c).fuse = s.fuse := by simp [State.runRetrain]

@[simp] theorem State.laneTrained_fuse (s : State) (r : RepairSt) (h p : Nat) (eyes : List LaneEye) : (s.laneTrained r h p eyes).fuse = s.fuse := by
  simp [State.laneTrained]

@[simp] theorem State.unhalt_fuse (s : State) (h p : Nat) : (s.unhalt h p).fuse = s.fuse := by simp [State.unhalt]

@[simp] theorem State.retrained_fuse (s : State) (q : QueueId) (c : Cmd) (h p : Nat) (eyes : List LaneEye) : (s.retrained q c h p eyes).fuse = s.fuse := by
  simp [State.retrained]

@[simp] theorem State.engineTrained_fuse (s : State) (h p : Nat) (eyes : List LaneEye) : (s.engineTrained h p eyes).fuse = s.fuse := by
  unfold State.engineTrained
  (repeat' split) <;> simp

@[simp] theorem State.marchRow_fuse (s : State) (h p b row w : Nat) : (s.marchRow h p b row w).1.fuse = s.fuse := by simp [State.marchRow]

@[simp] theorem State.marchRows_fuse (s : State) (h p w : Nat) (banks : List Nat) (n r : Nat) : (s.marchRows h p w banks n r).1.fuse = s.fuse := by
  induction n generalizing s r with
  | zero => rfl
  | succ n ih =>
    have hbanks : ∀ (l : List Nat) (a : State × Bool),
        (l.foldl (fun a b => ((a.1.marchRow h p b r w).1, a.2 && (a.1.marchRow h p b r w).2)) a).1.fuse = a.1.fuse :=
      foldl_fst_fuse fun a b => by simp
    exact (ih ..).trans (hbanks ..)

@[simp] theorem State.runMarch_fuse (s : State) (q : QueueId) (c : Cmd) : (s.runMarch q c).fuse = s.fuse := by
  simp only [State.runMarch]
  (repeat' split) <;> simp

@[simp] theorem State.march_fuse (s : State) (q : QueueId) : (s.march q).fuse = s.fuse := by
  unfold State.march
  split <;> simp

@[simp] theorem State.releasePc_fuse (s : State) (h p : Nat) : (s.releasePc h p).fuse = s.fuse := by simp [State.releasePc]
@[simp] theorem State.runRelease_fuse (s : State) (q : QueueId) (c : Cmd) : (s.runRelease q c).fuse = s.fuse := by simp [State.runRelease]

@[simp] theorem State.runHinge_fuse (s : State) (q : QueueId) (c : Cmd) : (s.runHinge q c).fuse = s.fuse := by
  simp only [State.runHinge]
  (repeat' split) <;> simp

/-! ## The matrix cores -/

@[simp] theorem State.stopKernel_fuse (s : State) (x : KernelSt) (st : Status) : (s.stopKernel x st).fuse = s.fuse := by simp [State.stopKernel]
@[simp] theorem State.recordFault_fuse (s : State) (p : CorePos) (st : Status) (ip : Nat) : (s.recordFault p st ip).fuse = s.fuse := by simp [State.recordFault]
@[simp] theorem State.coreFault_fuse (s : State) (c : CoreCtx) (st : Status) : (s.coreFault c st).fuse = s.fuse := by simp [State.coreFault]
@[simp] theorem State.coreCount_fuse (s : State) (p : CorePos) (ev n : Nat) : (s.coreCount p ev n).fuse = s.fuse := by simp [State.coreCount]
@[simp] theorem State.sampleInsn_fuse (s : State) (c : CoreCtx) (usable : Nat) : (s.sampleInsn c usable).fuse = s.fuse := by simp [State.sampleInsn]

@[simp] theorem State.sampleStream_fuse (s : State) (p : CorePos) : (s.sampleStream p).fuse = s.fuse := by
  simp only [State.sampleStream]
  (repeat' split) <;> simp

@[simp] theorem State.coreIssued_fuse (s : State) (c : CoreCtx) (x : CoreSt) (usable : Nat) : (s.coreIssued c x usable).fuse = s.fuse := by simp [State.coreIssued]
@[simp] theorem State.coreStall_fuse (s : State) (c : CoreCtx) (why : Nat) : (s.coreStall c why).fuse = s.fuse := by simp [State.coreStall]

/-- An instruction of a core keeps the fuses where its own work does. -/
@[simp] theorem State.coreStep_fuse (s : State) (i : CoreId) (op : Nat) (run : State → CoreCtx → State) (hrun : ∀ c, KeepsFuses (run · c)) :
    (s.coreStep i op run).fuse = s.fuse := by
  unfold State.coreStep
  split
  · rfl
  · next c _ => simp [hrun c s]

@[simp] theorem State.plain_fuse (s : State) (c : CoreCtx) (f : CoreSt → CoreSt) : (s.plain c f).fuse = s.fuse := by simp [State.plain]
@[simp] theorem State.runLoop_fuse (s : State) (c : CoreCtx) : (s.runLoop c).fuse = s.fuse := by simp [State.runLoop]
@[simp] theorem State.runSetag_fuse (s : State) (c : CoreCtx) : (s.runSetag c).fuse = s.fuse := by simp [State.runSetag]
@[simp] theorem State.runSetsb_fuse (s : State) (c : CoreCtx) : (s.runSetsb c).fuse = s.fuse := by simp [State.runSetsb]
@[simp] theorem State.runWaits_fuse (s : State) (c : CoreCtx) : (s.runWaits c).fuse = s.fuse := by simp [State.runWaits]
@[simp] theorem State.runEnd_fuse (s : State) (c : CoreCtx) : (s.runEnd c).fuse = s.fuse := by simp [State.runEnd]
@[simp] theorem State.runSync_fuse (s : State) (c : CoreCtx) : (s.runSync c).fuse = s.fuse := by simp [State.runSync]
@[simp] theorem State.pushCluster_fuse (s : State) (d k : Nat) (r : TraceRec) : (s.pushCluster d k r).fuse = s.fuse := by simp [State.pushCluster]
@[simp] theorem State.runTrace_fuse (s : State) (c : CoreCtx) : (s.runTrace c).fuse = s.fuse := by simp [State.runTrace]

@[simp] theorem State.compute_fuse (s : State) (c : CoreCtx) (n : TileInsn) (f : List Block → Block) : (s.compute c n f).fuse = s.fuse := by
  simp only [State.compute]
  (repeat' split) <;> simp

@[simp] theorem State.unary_fuse (s : State) (c : CoreCtx) (n : TileInsn) (f : BitVec 32 → BitVec 32) : (s.unary c n f).fuse = s.fuse := by simp [State.unary]
@[simp] theorem State.binary_fuse (s : State) (c : CoreCtx) (f : BitVec 32 → BitVec 32 → BitVec 32) : (s.binary c f).fuse = s.fuse := by simp [State.binary]
@[simp] theorem State.runCvt_fuse (s : State) (c : CoreCtx) : (s.runCvt c).fuse = s.fuse := by simp [State.runCvt]
@[simp] theorem State.runUnpk_fuse (s : State) (c : CoreCtx) : (s.runUnpk c).fuse = s.fuse := by simp [State.runUnpk]
@[simp] theorem State.runFill_fuse (s : State) (c : CoreCtx) : (s.runFill c).fuse = s.fuse := by simp [State.runFill]
@[simp] theorem State.runZero_fuse (s : State) (c : CoreCtx) : (s.runZero c).fuse = s.fuse := by simp [State.runZero]
@[simp] theorem State.runMovt_fuse (s : State) (c : CoreCtx) : (s.runMovt c).fuse = s.fuse := by simp [State.runMovt]
@[simp] theorem State.runTrn_fuse (s : State) (c : CoreCtx) : (s.runTrn c).fuse = s.fuse := by simp [State.runTrn]
@[simp] theorem State.runFma_fuse (s : State) (c : CoreCtx) : (s.runFma c).fuse = s.fuse := by simp [State.runFma]
@[simp] theorem State.runSel_fuse (s : State) (c : CoreCtx) : (s.runSel c).fuse = s.fuse := by simp [State.runSel]
@[simp] theorem State.runLut_fuse (s : State) (c : CoreCtx) : (s.runLut c).fuse = s.fuse := by simp [State.runLut]
@[simp] theorem State.runRsum_fuse (s : State) (c : CoreCtx) : (s.runRsum c).fuse = s.fuse := by simp [State.runRsum]
@[simp] theorem State.runRmax_fuse (s : State) (c : CoreCtx) : (s.runRmax c).fuse = s.fuse := by simp [State.runRmax]
@[simp] theorem State.runRowop_fuse (s : State) (c : CoreCtx) : (s.runRowop c).fuse = s.fuse := by simp [State.runRowop]
@[simp] theorem State.runScl_fuse (s : State) (c : CoreCtx) : (s.runScl c).fuse = s.fuse := by simp [State.runScl]

@[simp] theorem State.runMma_fuse (s : State) (c : CoreCtx) (zero : Bool) (f : Block → Block → Block → Block) : (s.runMma c zero f).fuse = s.fuse := by
  unfold State.runMma
  split <;> simp

@[simp] theorem State.runMma16_fuse (s : State) (c : CoreCtx) : (s.runMma16 c).fuse = s.fuse := by simp [State.runMma16]
@[simp] theorem State.runMma8_fuse (s : State) (c : CoreCtx) : (s.runMma8 c).fuse = s.fuse := by simp [State.runMma8]
@[simp] theorem State.sendUp_fuse (s : State) (d : Nat) (m : AkReq) : (s.sendUp d m).fuse = s.fuse := by simp [State.sendUp]

@[simp] theorem State.sendStream_fuse (s : State) (p : CorePos) : (s.sendStream p).fuse = s.fuse := by
  simp only [State.sendStream]
  (repeat' split) <;> simp

@[simp] theorem State.runStream_fuse (s : State) (c : CoreCtx) (write sector : Bool) : (s.runStream c write sector).fuse = s.fuse := by
  unfold State.runStream
  split <;> simp

@[simp] theorem State.endStream_fuse (s : State) (p : CorePos) (tag : Nat) : (s.endStream p tag).fuse = s.fuse := by simp [State.endStream]

@[simp] theorem State.streamArrival_fuse (s : State) (p : CorePos) : (s.streamArrival p).fuse = s.fuse := by
  simp only [State.streamArrival]
  (repeat' split) <;> simp

@[simp] theorem State.streamAnswer_fuse (s : State) (p : CorePos) (tag : Nat) (st : Status) (data : Block) (marks pkind : BitVec 8) :
    (s.streamAnswer p tag st data marks pkind).fuse = s.fuse := by
  simp only [State.streamAnswer]
  (repeat' split) <;> simp

@[simp] theorem State.takeCluster_fuse (s : State) (d : Nat) (q : QueueId) (idx cas k : Nat) : (s.takeCluster d q idx cas k).fuse = s.fuse := by
  simp [State.takeCluster]

@[simp] theorem State.runDispatch_fuse (s : State) (q : QueueId) (c : Cmd) : (s.runDispatch q c).fuse = s.fuse := by simp [State.runDispatch]

@[simp] theorem State.dispatch_fuse (s : State) (q : QueueId) : (s.dispatch q).fuse = s.fuse := by
  unfold State.dispatch
  split <;> simp

@[simp] theorem State.clusterClear_fuse (s : State) (d k : Nat) : (s.clusterClear d k).fuse = s.fuse := by
  unfold State.clusterClear
  extract_lets y t
  split
  · exact (State.setCluster_fuse ..).trans (foldl_fuse _ _ _ fun c t => State.setCore_fuse ..)
  · rfl

@[simp] theorem State.fetchFault_fuse (s : State) (kn : KernelSt) (k : Nat) (st : Status) : (s.fetchFault kn k st).fuse = s.fuse := by simp [State.fetchFault]

@[simp] theorem State.coreArgs_fuse (s : State) (kn : KernelSt) (args : List Nat) (r : Nat) : (s.coreArgs kn args r).1.fuse = s.fuse := by
  unfold State.coreArgs
  split <;> simp

@[simp] theorem State.startCores_fuse (s : State) (kn : KernelSt) (k : Nat) (table : List (BitVec 64)) (args : List Nat) (n : Nat) :
    (s.startCores kn k table args n).1.fuse = s.fuse := by
  induction n with
  | zero => rfl
  | succ n ih => simp [State.startCores, ih]

@[simp] theorem State.tableFetch_fuse (s : State) (d k : Nat) : (s.tableFetch d k).fuse = s.fuse := by
  unfold State.tableFetch
  split <;> simp

@[simp] theorem State.freeCluster_fuse (s : State) (d k : Nat) : (s.freeCluster d k).fuse = s.fuse := by
  unfold State.freeCluster
  extract_lets t
  exact (State.setCluster_fuse ..).trans (foldl_fuse _ _ _ fun c t => State.setCore_fuse ..)

@[simp] theorem State.untag_fuse (s : State) (d : Nat) (ks : List Nat) : (s.untag d ks).fuse = s.fuse := by simp [State.untag]

@[simp] theorem State.finishKernel_fuse (s : State) (kn : KernelSt) (st : Status) : (s.finishKernel kn st).fuse = s.fuse := by
  simp only [State.finishKernel]
  (repeat' split) <;> simp

@[simp] theorem State.kernelComplete_fuse (s : State) (d q : Nat) : (s.kernelComplete d q).fuse = s.fuse := by
  unfold State.kernelComplete
  split <;> simp

@[simp] theorem State.drainCluster_fuse (s : State) (d k : Nat) : (s.drainCluster d k).fuse = s.fuse := by simp [State.drainCluster]
@[simp] theorem State.clusterGate_fuse (s : State) (d k : Nat) : (s.clusterGate d k).fuse = s.fuse := by simp [State.clusterGate]
@[simp] theorem State.clusterUngate_fuse (s : State) (d k : Nat) : (s.clusterUngate d k).fuse = s.fuse := by simp [State.clusterUngate]

/-! ## Pools and pages -/

@[simp] theorem State.pteRead_fuse (s : State) (h : Nat) (cls : ReqClass) (cas pt n : Nat) : (s.pteRead h cls cas pt n).1.fuse = s.fuse := by
  simp only [State.pteRead]
  (repeat' split) <;> simp

@[simp] theorem State.ptcDrop_fuse (s : State) (line : Nat) : (s.ptcDrop line).fuse = s.fuse := by simp [State.ptcDrop]

@[simp] theorem State.pteWrite_fuse (s : State) (h : Nat) (cls : ReqClass) (cas pt n : Nat) (e : Pte) : (s.pteWrite h cls cas pt n e).1.fuse = s.fuse := by
  simp [State.pteWrite]

@[simp] theorem State.poolInit_fuse (s : State) (q : QueueId) (c : Cmd) : (s.poolInit q c).fuse = s.fuse := by simp [State.poolInit]
@[simp] theorem State.sendPacket_fuse (s : State) (h : Nat) (p : Packet) : (s.sendPacket h p).fuse = s.fuse := by simp [State.sendPacket]
@[simp] theorem State.sendFetch_fuse (s : State) (x : PoolSt) (c : CopySt) : (s.sendFetch x c).fuse = s.fuse := by simp [State.sendFetch]

@[simp] theorem State.beginFetch_fuse (s : State) (h : Nat) (cls : ReqClass) (cas pt n : Nat) (e : Pte) (page : Nat) (cmd : Option (QueueId × Nat)) :
    (s.beginFetch h cls cas pt n e page cmd).1.fuse = s.fuse := by
  simp only [State.beginFetch]
  (repeat' split) <;> simp

@[simp] theorem State.noteCmd_fuse (s : State) (q : QueueId) (idx : Nat) (st : Status) : (s.noteCmd q idx st).fuse = s.fuse := by
  unfold State.noteCmd
  split <;> simp

@[simp] theorem State.stepCmd_fuse (s : State) (q : QueueId) (idx : Nat) (handled : Bool) : (s.stepCmd q idx handled).fuse = s.fuse := by
  unfold State.stepCmd
  split <;> simp

@[simp] theorem State.allocOne_fuse (s : State) (q : QueueId) (c : Cmd) : (s.allocOne q c).state.fuse = s.fuse := by
  simp only [State.allocOne]
  (repeat' split) <;> simp

@[simp] theorem State.freeOne_fuse (s : State) (q : QueueId) (c : Cmd) (e : Pte) : (s.freeOne q c e).state.fuse = s.fuse := by
  simp only [State.freeOne]
  (repeat' split) <;> simp

@[simp] theorem State.readPage_fuse (s : State) (v : Via) (a n : Nat) : (s.readPage v a n).1.fuse = s.fuse := by
  induction n with
  | zero => rfl
  | succ n ih => simp [State.readPage, ih]

@[simp] theorem State.spillOne_fuse (s : State) (q : QueueId) (c : Cmd) (n : Nat) (e : Pte) : (s.spillOne q c n e).state.fuse = s.fuse := by
  simp only [State.spillOne]
  (repeat' split) <;> simp

@[simp] theorem State.prefetchOne_fuse (s : State) (q : QueueId) (c : Cmd) (n : Nat) (e : Pte) : (s.prefetchOne q c n e).state.fuse = s.fuse := by
  simp only [State.prefetchOne]
  (repeat' split) <;> simp

@[simp] theorem State.pgStep_fuse (s : State) (q : QueueId) (c : Cmd) : (s.pgStep q c).state.fuse = s.fuse := by
  simp only [State.pgStep]
  (repeat' split) <;> simp

@[simp] theorem State.pgFinish_fuse (s : State) (q : QueueId) (c : Cmd) : (s.pgFinish q c).fuse = s.fuse := by simp [State.pgFinish]

@[simp] theorem State.pgRun_fuse (s : State) (q : QueueId) (idx n : Nat) : (s.pgRun q idx n).fuse = s.fuse := by
  induction n generalizing s with
  | zero => rfl
  | succ n ih =>
    unfold State.pgRun
    split
    · rfl
    · next c _ =>
      have hstep := s.pgStep_fuse q c
      split
      · rfl
      · split
        · simp
        · split <;> next hg => simp_all

@[simp] theorem State.pgGo_fuse (s : State) (q : QueueId) (idx : Nat) : (s.pgGo q idx).fuse = s.fuse := by
  unfold State.pgGo
  split <;> simp

@[simp] theorem State.allUnused_fuse (s : State) (q : QueueId) (c : Cmd) (n : Nat) : (s.allUnused q c n).1.fuse = s.fuse := by
  induction n with
  | zero => rfl
  | succ n ih => simp [State.allUnused, ih]

@[simp] theorem State.runAlloc_fuse (s : State) (q : QueueId) (c : Cmd) : (s.runAlloc q c).fuse = s.fuse := by simp [State.runAlloc]
@[simp] theorem State.runPtInval_fuse (s : State) (q : QueueId) (c : Cmd) : (s.runPtInval q c).fuse = s.fuse := by simp [State.runPtInval]
@[simp] theorem State.answerDie_fuse (s : State) (d : Nat) (m : AkRsp) : (s.answerDie d m).fuse = s.fuse := by simp [State.answerDie]

@[simp] theorem State.readPageBlock_fuse (s : State) (d : Nat) (m : AkReq) (e : Pte) : (s.readPageBlock d m e).fuse = s.fuse := by
  simp only [State.readPageBlock]
  split <;> next ho => simp [fuse_of_pair ho (State.offer_fuse ..)]

@[simp] theorem State.demand_fuse (s : State) (h door cas pt n : Nat) (e : Pte) : (s.demand h door cas pt n e).fuse = s.fuse := by
  simp only [State.demand]
  (repeat' split) <;> simp

@[simp] theorem State.resolve_fuse (s : State) (d : Nat) (m : AkReq) : (s.resolve d m).fuse = s.fuse := by
  simp only [State.resolve]
  (repeat' split) <;> simp

@[simp] theorem State.serveOne_fuse (s : State) (cas k : Nat) : (s.serveOne cas k).fuse = s.fuse := by
  simp only [State.serveOne]
  (repeat' split) <;> simp

@[simp] theorem State.serveN_fuse (s : State) (cas k n : Nat) : (s.serveN cas k n).fuse = s.fuse := by
  induction n generalizing s with
  | zero => rfl
  | succ n ih => simp [State.serveN, ih]

@[simp] theorem State.serveHeld_fuse (s : State) (cas k : Nat) : (s.serveHeld cas k).fuse = s.fuse := by simp [State.serveHeld]
@[simp] theorem State.pgWake_fuse (s : State) : (s.pgWake).fuse = s.fuse := by simp [State.pgWake]
@[simp] theorem State.wakeReads_fuse (s : State) (pt n : Nat) : (s.wakeReads pt n).fuse = s.fuse := by simp [State.wakeReads]
@[simp] theorem State.endReads_fuse (s : State) (pt n : Nat) (st : Status) : (s.endReads pt n st).fuse = s.fuse := by simp [State.endReads]
@[simp] theorem State.dropCopy_fuse (s : State) (c : CopySt) : (s.dropCopy c).fuse = s.fuse := by simp [State.dropCopy]

@[simp] theorem State.copyFails_fuse (s : State) (c : CopySt) : (s.copyFails c).fuse = s.fuse := by
  unfold State.copyFails
  split <;> simp

@[simp] theorem State.pageHandled_fuse (s : State) (c : CopySt) : (s.pageHandled c).fuse = s.fuse := by
  unfold State.pageHandled
  (repeat' split) <;> simp

@[simp] theorem State.spillDone_fuse (s : State) (c : CopySt) (st : Status) : (s.spillDone c st).fuse = s.fuse := by
  unfold State.spillDone
  (repeat' split) <;> simp

@[simp] theorem State.writePage_fuse (s : State) (v : Via) (a : Nat) (f : Nat → Block) (n : Nat) : (s.writePage v a f n).1.fuse = s.fuse := by
  induction n with
  | zero => rfl
  | succ n ih => simp [State.writePage, ih]

@[simp] theorem State.fetchDone_fuse (s : State) (h pt n : Nat) (blocks : List Block) : (s.fetchDone h pt n blocks).fuse = s.fuse := by
  unfold State.fetchDone
  split <;> simp

@[simp] theorem State.prefetchWindow_fuse (s : State) (h pt n : Nat) : (s.prefetchWindow h pt n).fuse = s.fuse := by simp [State.prefetchWindow]

@[simp] theorem State.transportError_fuse (s : State) (h pt n : Nat) : (s.transportError h pt n).fuse = s.fuse := by
  unfold State.transportError
  split <;> simp

@[simp] theorem State.pageHostRead_fuse (s : State) (q : QueueId) (data : Option Block) : (s.pageHostRead q data).fuse = s.fuse := by
  unfold State.pageHostRead
  (repeat' split) <;> simp

@[simp] theorem State.undoCopy_fuse (s : State) (c : CopySt) : (s.undoCopy c).fuse = s.fuse := by simp [State.undoCopy]
@[simp] theorem State.undoCopies_fuse (s : State) (p : CopySt → Bool) : (s.undoCopies p).fuse = s.fuse := by simp [State.undoCopies]

/-! ## Expanders -/

@[simp] theorem State.expLoadNow_fuse (s : State) (q : QueueId) (c : Cmd) : (s.expLoadNow q c).fuse = s.fuse := by simp [State.expLoadNow]
@[simp] theorem State.expBindNow_fuse (s : State) (q : QueueId) (c : Cmd) : (s.expBindNow q c).fuse = s.fuse := by simp [State.expBindNow]

@[simp] theorem State.expGo_fuse (s : State) (q : QueueId) (c : Cmd) : (s.expGo q c).fuse = s.fuse := by
  unfold State.expGo
  split <;> simp

@[simp] theorem State.kickCores_fuse (s : State) (d : Nat) : (s.kickCores d).fuse = s.fuse := by simp [State.kickCores]
@[simp] theorem State.expWake_fuse (s : State) (d : Nat) : (s.expWake d).fuse = s.fuse := by simp [State.expWake]
@[simp] theorem State.runExp_fuse (s : State) (q : QueueId) (c : Cmd) : (s.runExp q c).fuse = s.fuse := by simp [State.runExp]
@[simp] theorem State.fetchLatents_fuse (s : State) (d e : Nat) (r : TileReq) : (s.fetchLatents d e r).fuse = s.fuse := by simp [State.fetchLatents]

@[simp] theorem State.expKick_fuse (s : State) (d e : Nat) : (s.expKick d e).fuse = s.fuse := by
  simp only [State.expKick]
  (repeat' split) <;> simp

@[simp] theorem State.tileDone_fuse (s : State) (d e : Nat) : (s.tileDone d e).fuse = s.fuse := by
  simp only [State.tileDone]
  (repeat' split) <;> simp

@[simp] theorem State.expAnswer_fuse (s : State) (d e : Nat) (m : AkRsp) : (s.expAnswer d e m).fuse = s.fuse := by
  simp only [State.expAnswer]
  (repeat' split) <;> simp

@[simp] theorem State.freeExpander_fuse (s : State) (key : Nat) (st : Status) : (s.freeExpander key st).fuse = s.fuse := by simp [State.freeExpander]
@[simp] theorem State.freeExpanders_fuse (s : State) (who : ExpSt → Bool) (st : Status) : (s.freeExpanders who st).fuse = s.fuse := by simp [State.freeExpanders]
@[simp] theorem State.expKickAll_fuse (s : State) (d : Nat) : (s.expKickAll d).fuse = s.fuse := by simp [State.expKickAll]

/-! ## The fabric and collectives -/

@[simp] theorem State.setPort4_fuse (s : State) (h j : Nat) (x : TrwSt) : (s.setPort4 h j x).fuse = s.fuse := by simp [State.setPort4]
@[simp] theorem State.portTrained_fuse (s : State) (h j : Nat) (lanes8 : Bool) : (s.portTrained h j lanes8).fuse = s.fuse := by simp [State.portTrained]
@[simp] theorem State.portFailed_fuse (s : State) (h j silent : Nat) : (s.portFailed h j silent).fuse = s.fuse := by simp [State.portFailed]
@[simp] theorem State.portRetry_fuse (s : State) (h j : Nat) : (s.portRetry h j).fuse = s.fuse := by simp [State.portRetry]
@[simp] theorem State.portFlitRetry_fuse (s : State) (h j : Nat) (ok : Bool) : (s.portFlitRetry h j ok).fuse = s.fuse := by simp [State.portFlitRetry]
@[simp] theorem State.portCtrl_fuse (s : State) (h j : Nat) : (s.portCtrl h j).fuse = s.fuse := by simp [State.portCtrl]
@[simp] theorem State.dropPacket_fuse (s : State) (h : Nat) (p : Packet) (counted : Bool) : (s.dropPacket h p counted).fuse = s.fuse := by simp [State.dropPacket]

@[simp] theorem State.route_fuse (s : State) (h : Nat) (p : Packet) : (s.route h p).fuse = s.fuse := by
  simp only [State.route]
  (repeat' split) <;> simp

@[simp] theorem State.taken_fuse (s : State) (h : Nat) (p : Packet) : (s.taken h p).fuse = s.fuse := by simp [State.taken]

@[simp] theorem State.fabricRequest_fuse (s : State) (h j : Nat) (p : Packet) : (s.fabricRequest h j p).fuse = s.fuse := by
  simp only [State.fabricRequest]
  split
  · rfl
  · split
    · simp
    · split
      · simp
      · split
        · simp
        · split
          · rfl
          · split <;> next ho => simp [fuse_of_pair ho (State.offer_fuse ..)]

@[simp] theorem State.fabricAnswer_fuse (s : State) (h node tag : Nat) (a : Answer) : (s.fabricAnswer h node tag a).fuse = s.fuse := by simp [State.fabricAnswer]
@[simp] theorem State.sweepColls_fuse (s : State) : (s.sweepColls).fuse = s.fuse := by simp [State.sweepColls]
@[simp] theorem State.endColl_fuse (s : State) (q : QueueId) (idx : Nat) (st : Status) : (s.endColl q idx st).fuse = s.fuse := by simp [State.endColl]

theorem collSend_fuse {s t : State} {c : Cmd} {x : CollSt} (h : s.collSend c x = some t) : t.fuse = s.fuse := by
  simp only [State.collSend, Option.ite_none_left_eq_some] at h
  obtain ⟨-, h⟩ := h
  by_cases hop : c.opcode = 0x46
  · rw [if_pos hop] at h
    rw [← Option.some.inj h]
    simp
  · rw [if_neg hop, Option.ite_none_left_eq_some] at h
    obtain ⟨-, h⟩ := h
    rw [← apply_ite some] at h
    rw [← Option.some.inj h]
    simp

@[simp] theorem State.sendAll_fuse (s : State) (q : QueueId) (idx n : Nat) : (s.sendAll q idx n).fuse = s.fuse := by
  induction n generalizing s with
  | zero => rfl
  | succ n ih =>
    unfold State.sendAll
    split
    · split
      · next ht => exact (ih _).trans (collSend_fuse ht)
      · rfl
    · rfl

@[simp] theorem State.rotateReady_fuse (s : State) (c : Cmd) (x : CollSt) : (s.rotateReady c x).fuse = s.fuse := by simp [State.rotateReady]

@[simp] theorem State.collDone_fuse (s : State) (q : QueueId) (idx : Nat) : (s.collDone q idx).fuse = s.fuse := by
  unfold State.collDone
  split <;> simp

@[simp] theorem State.collPump_fuse (s : State) (q : QueueId) (idx : Nat) : (s.collPump q idx).fuse = s.fuse := by
  simp only [State.collPump]
  (repeat' split) <;> simp

@[simp] theorem State.collTake_fuse (s : State) (x : CollSt) (c : Cmd) (p : Packet) : (s.collTake x c p).fuse = s.fuse := by
  unfold State.collTake
  (repeat' split) <;> simp

@[simp] theorem State.collDrainN_fuse (s : State) (q : QueueId) (idx n : Nat) : (s.collDrainN q idx n).fuse = s.fuse := by
  induction n generalizing s with
  | zero => rfl
  | succ n ih =>
    unfold State.collDrainN
    split
    · split <;> simp [ih]
    · rfl

@[simp] theorem State.collDrain_fuse (s : State) (q : QueueId) (idx : Nat) : (s.collDrain q idx).fuse = s.fuse := by simp [State.collDrain]
@[simp] theorem State.collWake_fuse (s : State) : (s.collWake).fuse = s.fuse := by simp [State.collWake]

@[simp] theorem State.collPacket_fuse (s : State) (h : Nat) (p : Packet) : (s.collPacket h p).fuse = s.fuse := by
  simp only [State.collPacket]
  (repeat' split) <;> simp

@[simp] theorem State.collReady_fuse (s : State) (h : Nat) (p : Packet) : (s.collReady h p).fuse = s.fuse := by
  simp only [State.collReady]
  (repeat' split) <;> simp

@[simp] theorem State.sendNotice_fuse (s : State) (x : CollSt) (dest tier reason : Nat) (back : Bool) : (s.sendNotice x dest tier reason back).fuse = s.fuse := by
  simp [State.sendNotice]

@[simp] theorem State.emitNotice_fuse (s : State) (x : CollSt) (tier reason : Nat) : (s.emitNotice x tier reason).fuse = s.fuse := by
  unfold State.emitNotice
  split <;> simp

@[simp] theorem State.emitNotices_fuse (s : State) (tier reason : Nat) : (s.emitNotices tier reason).fuse = s.fuse := by simp [State.emitNotices]
@[simp] theorem State.stallCheck_fuse (s old : State) : (s.stallCheck old).fuse = s.fuse := by simp [State.stallCheck]
@[simp] theorem State.forwardNotice_fuse (s : State) (c : Cmd) (h : Nat) (p : Packet) : (s.forwardNotice c h p).fuse = s.fuse := by simp [State.forwardNotice]

@[simp] theorem State.stallPacket_fuse (s : State) (h : Nat) (p : Packet) : (s.stallPacket h p).fuse = s.fuse := by
  simp only [State.stallPacket]
  (repeat' split) <;> simp

@[simp] theorem State.copyOwn_fuse (s : State) (q : QueueId) (c : Cmd) (a b n : Nat) : (s.copyOwn q c a b n).1.fuse = s.fuse := by
  induction n with
  | zero => rfl
  | succ n ih => simp [State.copyOwn, ih]

@[simp] theorem State.forwardKept_fuse (s : State) (q : QueueId) (c : Cmd) : (s.forwardKept q c).fuse = s.fuse := by simp [State.forwardKept]

@[simp] theorem State.runColl_fuse (s : State) (q : QueueId) (c : Cmd) : (s.runColl q c).fuse = s.fuse := by
  unfold State.runColl
  (repeat' split) <;> simp

@[simp] theorem State.putPump1_fuse (s : State) (q : QueueId) (idx : Nat) : (s.putPump1 q idx).fuse = s.fuse := by
  unfold State.putPump1
  split
  · rfl
  · dsimp only
    split
    · split <;> next ho => simp [fuse_of_pair ho (State.offer_fuse ..)]
    · rfl

@[simp] theorem State.putPumpN_fuse (s : State) (q : QueueId) (idx n : Nat) : (s.putPumpN q idx n).fuse = s.fuse := by
  induction n generalizing s with
  | zero => rfl
  | succ n ih => simp [State.putPumpN, ih]

@[simp] theorem State.putGo_fuse (s : State) (q : QueueId) (idx : Nat) : (s.putGo q idx).fuse = s.fuse := by
  unfold State.putGo
  split <;> simp

@[simp] theorem State.runPut_fuse (s : State) (q : QueueId) (c : Cmd) : (s.runPut q c).fuse = s.fuse := by simp [State.runPut]

@[simp] theorem State.putRead_fuse (s : State) (q : QueueId) (idx k : Nat) (st : Status) (data : Block) : (s.putRead q idx k st data).fuse = s.fuse := by
  unfold State.putRead
  split <;> simp

@[simp] theorem State.putAck_fuse (s : State) (q : QueueId) (c : Cmd) (st : Status) : (s.putAck q c st).fuse = s.fuse := by simp [State.putAck]
@[simp] theorem State.collDeadline_fuse (s : State) (q : QueueId) : (s.collDeadline q).fuse = s.fuse := by simp [State.collDeadline]

@[simp] theorem State.readResponse_fuse (s : State) (h : Nat) (p : Packet) : (s.readResponse h p).fuse = s.fuse := by
  simp only [State.readResponse]
  (repeat' split) <;> simp

@[simp] theorem State.writeAck_fuse (s : State) (h : Nat) (p : Packet) : (s.writeAck h p).fuse = s.fuse := by
  simp only [State.writeAck]
  (repeat' split) <;> simp

end Sys2Proof.Machine
end

section
/-! SUPPORT. The fuses through resets and bring-up, and under the host and the Aksal links (R24, R43, R90). -/

namespace Sys2Proof.Machine

/-! ## The supply -/

@[simp] theorem State.busSample_fuse (s : State) (v : Nat) : (s.busSample v).fuse = s.fuse := by simp [State.busSample]
@[simp] theorem State.powerRecord_fuse (s : State) (e : Nat) : (s.powerRecord e).fuse = s.fuse := by simp [State.powerRecord]
@[simp] theorem State.pf1Assert_fuse (s : State) : (s.pf1Assert).fuse = s.fuse := by simp [State.pf1Assert]
@[simp] theorem State.pf1Clear_fuse (s : State) : (s.pf1Clear).fuse = s.fuse := by simp [State.pf1Clear]
@[simp] theorem State.dropReads_fuse (s : State) : (s.dropReads).fuse = s.fuse := by simp [State.dropReads]
@[simp] theorem State.startDrain_fuse (s : State) : (s.startDrain).fuse = s.fuse := by simp [State.startDrain]
@[simp] theorem State.startColdNext_fuse (s : State) : (s.startColdNext).fuse = s.fuse := by simp [State.startColdNext]
@[simp] theorem State.startPf2_fuse (s : State) (cause : Nat) : (s.startPf2 cause).fuse = s.fuse := by simp [State.startPf2]
@[simp] theorem State.pf2Assert_fuse (s : State) : (s.pf2Assert).fuse = s.fuse := by simp [State.pf2Assert]
@[simp] theorem State.pfN_fuse (s : State) (lowNs : Nat) : (s.pfN lowNs).fuse = s.fuse := by simp [State.pfN]
@[simp] theorem State.brownout_fuse (s : State) : (s.brownout).fuse = s.fuse := by simp [State.brownout]
@[simp] theorem State.surge_fuse (s : State) : (s.surge).fuse = s.fuse := by simp [State.surge]
@[simp] theorem State.loseWrite_fuse (s : State) (h : Nat) (r : Req) : (s.loseWrite h r).fuse = s.fuse := by simp [State.loseWrite]

@[simp] theorem State.loseWrites_fuse (s : State) (h p : Nat) : (s.loseWrites h p).fuse = s.fuse := by
  unfold State.loseWrites
  split <;> simp

@[simp] theorem State.writeDrainEnd_fuse (s : State) (h p : Nat) : (s.writeDrainEnd h p).fuse = s.fuse := by
  unfold State.writeDrainEnd
  split <;> simp

@[simp] theorem State.keepReq_fuse (s : State) : (s.keepReq).fuse = s.fuse := by simp [State.keepReq]
@[simp] theorem State.slewEstimate_fuse (s : State) (deciAmp : Nat) : (s.slewEstimate deciAmp).fuse = s.fuse := by simp [State.slewEstimate]
@[simp] theorem State.thermTrip_fuse (s : State) (d : Nat) : (s.thermTrip d).fuse = s.fuse := by simp [State.thermTrip]

/-! ## Resets and bring-up -/

@[simp] theorem State.setPhase_fuse (s : State) (n : Nat) : (s.setPhase n).fuse = s.fuse := by simp [State.setPhase]
@[simp] theorem State.coldReset_fuse (s : State) (cause : Nat) (errs : Bool) : (s.coldReset cause errs).fuse = s.fuse := by simp [State.coldReset]
@[simp] theorem State.vaonPowerUp_fuse (s : State) : (s.vaonPowerUp).fuse = s.fuse := by simp [State.vaonPowerUp]

@[simp] theorem State.warmReset_fuse (s : State) (cause : Nat) : (s.warmReset cause).fuse = s.fuse := by
  simp only [State.warmReset]
  (repeat' split) <;> simp

@[simp] theorem State.rstCtrl_fuse (s : State) (v : Nat) : (s.rstCtrl v).fuse = s.fuse := by simp [State.rstCtrl]
@[simp] theorem State.pkgRstN_fuse (s : State) (high : Bool) (st : Straps) : (s.pkgRstN high st).fuse = s.fuse := by simp [State.pkgRstN]
@[simp] theorem State.warmRstN_fuse (s : State) (high : Bool) : (s.warmRstN high).fuse = s.fuse := by simp [State.warmRstN]
@[simp] theorem State.perstN_fuse (s : State) (high : Bool) : (s.perstN high).fuse = s.fuse := by simp [State.perstN]
@[simp] theorem State.kaPg_fuse (s : State) : (s.kaPg).fuse = s.fuse := by simp [State.kaPg]
@[simp] theorem State.kaPgLoss_fuse (s : State) : (s.kaPgLoss).fuse = s.fuse := by simp [State.kaPgLoss]
@[simp] theorem State.pwrGood_fuse (s : State) : (s.pwrGood).fuse = s.fuse := by simp [State.pwrGood]
@[simp] theorem State.pwrGoodLoss_fuse (s : State) : (s.pwrGoodLoss).fuse = s.fuse := by simp [State.pwrGoodLoss]
@[simp] theorem State.unlock_fuse (s : State) (hp : Nat) : (s.unlock hp).fuse = s.fuse := by simp [State.unlock]
@[simp] theorem State.pllLock_fuse (s : State) (d : Nat) : (s.pllLock d).fuse = s.fuse := by simp [State.pllLock]
@[simp] theorem State.dropAligned_fuse (s : State) : (s.dropAligned).fuse = s.fuse := by simp [State.dropAligned]
@[simp] theorem State.refLoss_fuse (s : State) (silentNs : Nat) : (s.refLoss silentNs).fuse = s.fuse := by simp [State.refLoss]
@[simp] theorem State.refReturn_fuse (s : State) : (s.refReturn).fuse = s.fuse := by simp [State.refReturn]
@[simp] theorem State.sleepPc_fuse (s : State) (h p : Nat) : (s.sleepPc h p).fuse = s.fuse := by simp [State.sleepPc]
@[simp] theorem State.bootStop_fuse (s : State) (code unit : Nat) : (s.bootStop code unit).fuse = s.fuse := by simp [State.bootStop]
@[simp] theorem State.bootFail_fuse (s : State) (code unit : Nat) : (s.bootFail code unit).fuse = s.fuse := by simp [State.bootFail]
@[simp] theorem State.markStale_fuse (s : State) : (s.markStale).fuse = s.fuse := by simp [State.markStale]
@[simp] theorem State.coldBringup_fuse (s : State) : (s.coldBringup).fuse = s.fuse := by simp [State.coldBringup]
@[simp] theorem State.readFlash_fuse (s : State) (c : FlashPart) : (s.readFlash c).fuse = s.fuse := by simp [State.readFlash]

@[simp] theorem State.firstStage_fuse (s : State) (l : List Byte) : (s.firstStage l).fuse = s.fuse := by
  unfold State.firstStage
  (repeat' split) <;> simp

@[simp] theorem State.pcieReadiness_fuse (s : State) : (s.pcieReadiness).fuse = s.fuse := by simp [State.pcieReadiness]

@[simp] theorem State.recovGo_fuse (s : State) : (s.recovGo).fuse = s.fuse := by
  unfold State.recovGo
  (repeat' split) <;> simp

@[simp] theorem State.hubFirmware_fuse (s : State) (l : List Byte) : (s.hubFirmware l).fuse = s.fuse := by
  unfold State.hubFirmware
  (repeat' split) <;> simp

@[simp] theorem State.ringLinkUp_fuse (s : State) (fails : List Nat) : (s.ringLinkUp fails).fuse = s.fuse := by
  simp only [State.ringLinkUp]
  (repeat' split) <;> simp

@[simp] theorem State.identifyAgain_fuse (s : State) (h st : Nat) (x : StackId) : (s.identifyAgain h st x).fuse = s.fuse := by simp [State.identifyAgain]

@[simp] theorem State.stackIdentification_fuse (s : State) (l : List (Hub × StackNo × StackId)) : (s.stackIdentification l).fuse = s.fuse := by
  unfold State.stackIdentification
  (repeat' split) <;> simp

@[simp] theorem State.imageLoad_fuse (s : State) (l : List Byte) : (s.imageLoad l).fuse = s.fuse := by simp [State.imageLoad]
@[simp] theorem State.relock_fuse (s : State) : (s.relock).fuse = s.fuse := by simp [State.relock]

@[simp] theorem State.applyRecords_fuse (s : State) (refused : List (Nat × Nat)) (l : List (Nat × Nat × FuseRec)) : (s.applyRecords refused l).1.fuse = s.fuse := by
  induction l generalizing s with
  | nil => rfl
  | cons x t ih =>
    unfold State.applyRecords
    split <;> simp [ih]

@[simp] theorem State.softRepairs_fuse (s : State) (refused : List (Nat × Nat)) : (s.softRepairs refused).fuse = s.fuse := by
  simp only [State.softRepairs]
  (repeat' split) <;> simp

@[simp] theorem State.repairLanes_fuse (s : State) (h p : Nat) (l : List Nat) : (s.repairLanes h p l).1.fuse = s.fuse := by
  induction l generalizing s with
  | nil => rfl
  | cons x t ih =>
    unfold State.repairLanes
    split <;> simp [ih]

@[simp] theorem State.trainPc_fuse (s : State) (found : List PcTraining) (h p : Nat) : (s.trainPc found h p).1.fuse = s.fuse := by
  simp only [State.trainPc]
  (repeat' split) <;> simp

@[simp] theorem State.trainAll_fuse (s : State) (found : List PcTraining) (l : List (Nat × Nat)) : (s.trainAll found l).1.fuse = s.fuse := by
  induction l generalizing s with
  | nil => rfl
  | cons x t ih => simp [State.trainAll, ih]

@[simp] theorem State.training_fuse (s : State) (found : List PcTraining) : (s.training found).fuse = s.fuse := by
  simp only [State.training]
  (repeat' split) <;> simp

@[simp] theorem State.memoryClear_fuse (s : State) : (s.memoryClear).fuse = s.fuse := by simp [State.memoryClear]
@[simp] theorem State.linkStart_fuse (s : State) (d : Nat) : (s.linkStart d).fuse = s.fuse := by simp [State.linkStart]
@[simp] theorem State.aksalLinkUp_fuse (s : State) : (s.aksalLinkUp).fuse = s.fuse := by simp [State.aksalLinkUp]
@[simp] theorem State.clearDie_fuse (s : State) (d : Nat) : (s.clearDie d).fuse = s.fuse := by simp [State.clearDie]

@[simp] theorem State.computeRelease_fuse (s : State) (fails : List Nat) : (s.computeRelease fails).fuse = s.fuse := by
  unfold State.computeRelease
  (repeat' split) <;> simp

@[simp] theorem State.enginesSet_fuse (s : State) : (s.enginesSet).fuse = s.fuse := by simp [State.enginesSet]
@[simp] theorem State.resumeQueues_fuse (s : State) : (s.resumeQueues).fuse = s.fuse := by simp [State.resumeQueues]
@[simp] theorem State.capAtReady_fuse (s : State) : (s.capAtReady).fuse = s.fuse := by simp [State.capAtReady]
@[simp] theorem State.ready_fuse (s : State) : (s.ready).fuse = s.fuse := by simp [State.ready]
@[simp] theorem State.warmClear_fuse (s : State) : (s.warmClear).fuse = s.fuse := by simp [State.warmClear]
@[simp] theorem State.warmBringup_fuse (s : State) : (s.warmBringup).fuse = s.fuse := by simp [State.warmBringup]
@[simp] theorem State.loseKeepAlive_fuse (s : State) : (s.loseKeepAlive).fuse = s.fuse := by simp [State.loseKeepAlive]

@[simp] theorem State.configurationCrc_fuse (s : State) (fails : List Nat) : (s.configurationCrc fails).fuse = s.fuse := by
  unfold State.configurationCrc
  (repeat' split) <;> simp

@[simp] theorem State.reapply_fuse (s : State) (latched : List (Nat × Word)) : (s.reapply latched).fuse = s.fuse := by simp [State.reapply]

@[simp] theorem State.warmPause_fuse (s : State) (h p : Nat) (l : List PauseRes) : (s.warmPause h p l).1.fuse = s.fuse := by
  simp only [State.warmPause]
  (repeat' split) <;> simp

@[simp] theorem State.warmPc_fuse (s : State) (first second : List PauseRes) (found : List PcTraining) (h p : Nat) :
    (s.warmPc first second found h p).1.fuse = s.fuse := by
  simp only [State.warmPc]
  (repeat' split) <;> simp

@[simp] theorem State.selfRefreshExit_fuse (s : State) (latched : List (Nat × Word)) (first second : List PauseRes) (found : List PcTraining) :
    (s.selfRefreshExit latched first second found).fuse = s.fuse := by
  have hpcs : ∀ (l : List (Nat × Nat)) (r : State × List (Nat × Nat)),
      (l.foldl (fun r q => ((r.1.warmPc first second found q.1 q.2).1, if (r.1.warmPc first second found q.1 q.2).2 then r.2 else r.2 ++ [q])) r).1.fuse = r.1.fuse :=
    foldl_fst_fuse fun r q => by simp
  unfold State.selfRefreshExit
  split
  · dsimp only
    split <;> simp [hpcs]
  · rfl

@[simp] theorem State.restoreCmd_fuse (s : State) (q : QueueId) (c : Cmd) : (s.restoreCmd q c).fuse = s.fuse := by simp [State.restoreCmd]
@[simp] theorem State.enginesRestored_fuse (s : State) : (s.enginesRestored).fuse = s.fuse := by simp [State.enginesRestored]

@[simp] theorem State.bootWatchdog_fuse (s : State) : (s.bootWatchdog).fuse = s.fuse := by
  unfold State.bootWatchdog
  split <;> simp

/-! ## Time over the fabric -/

@[simp] theorem State.timeExchange_fuse (s : State) : (s.timeExchange).fuse = s.fuse := by
  unfold State.timeExchange
  (repeat' split) <;> simp

@[simp] theorem State.measured_fuse (s : State) (off : Int) : (s.measured off).fuse = s.fuse := by simp [State.measured]
@[simp] theorem State.timePacket_fuse (s : State) (p : Packet) : (s.timePacket p).fuse = s.fuse := by simp [State.timePacket]

/-! ## Counters, samples and trace records -/

@[simp] theorem State.accErr_fuse (s : State) (a : Access) (write : Bool) (reason : Nat) : (s.accErr a write reason).fuse = s.fuse := by simp [State.accErr]

/-- A write's result has the fuses that the state it leaves has; a refused one those from before. -/
@[simp] theorem State.settleWrite_fuse (s : State) (a : Access) (r : WriteResult) (h : r.Leaves fun t => t.fuse = s.fuse) : (s.settleWrite a r).fuse = s.fuse := by
  cases r with
  | inl t => exact h
  | inr n => simp [State.settleWrite]

@[simp] theorem State.freeSlot_fuse (s : State) (f k : Nat) : (s.freeSlot f k).fuse = s.fuse := by
  unfold State.freeSlot
  split <;> simp

@[simp] theorem State.setCounter_fuse (s : State) (bank n c v : Nat) : (s.setCounter bank n c v).fuse = s.fuse := by simp [State.setCounter]

@[simp] theorem State.fnCntCfg_fuse (s : State) (f k v : Nat) : (s.fnCntCfg f k v).Leaves fun t => t.fuse = s.fuse := by
  simp only [State.fnCntCfg]
  (repeat' split) <;> simp

@[simp] theorem State.freeSlots_fuse (s : State) (f : Nat) : (s.freeSlots f).fuse = s.fuse := by simp [State.freeSlots]
@[simp] theorem State.readCounter_fuse (s : State) (bank : Nat) : (s.readCounter bank).fuse = s.fuse := by simp [State.readCounter]
@[simp] theorem State.freezeAt_fuse (s : State) (bank v : Nat) : (s.freezeAt bank v).fuse = s.fuse := by simp [State.freezeAt]
@[simp] theorem State.freeze_fuse (s : State) (bank : Nat) : (s.freeze bank).fuse = s.fuse := by simp [State.freeze]
@[simp] theorem State.thaw_fuse (s : State) (bank : Nat) : (s.thaw bank).fuse = s.fuse := by simp [State.thaw]

@[simp] theorem State.startSampler_fuse (s : State) (k seed period jitter : Nat) : (s.startSampler k seed period jitter).fuse = s.fuse := by
  simp [State.startSampler]

@[simp] theorem State.smpCtrl_fuse (s : State) (h en cas size : Nat) : (s.smpCtrl h en cas size).Leaves fun t => t.fuse = s.fuse := by
  simp only [State.smpCtrl]
  (repeat' split) <;> simp

@[simp] theorem State.cmpSmpCtrl_fuse (s : State) (d en cas : Nat) : (s.cmpSmpCtrl d en cas).Leaves fun t => t.fuse = s.fuse := by
  simp only [State.cmpSmpCtrl]
  (repeat' split) <;> simp

theorem takeRecord_fuse {s : State} {k : Nat} {r : SampleRec × State} (h : s.takeRecord k = some r) : r.2.fuse = s.fuse := by
  obtain ⟨x, -, rfl⟩ := Option.map_eq_some_iff.mp h
  rfl

@[simp] theorem State.sampleRecord_fuse (s : State) (h : Nat) : (s.sampleRecord h).fuse = s.fuse := by
  unfold State.sampleRecord
  split
  · split
    · rfl
    · next r t ht =>
      have hfuse : t.fuse = s.fuse := by
        rcases hk : s.takeRecord h with _ | x
        · rw [hk] at ht
          exact takeRecord_fuse ht
        · rw [hk] at ht
          exact takeRecord_fuse (hk.trans ht)
      simp [hfuse]
  · rfl

@[simp] theorem State.forwardTrace_fuse (s : State) (d : Nat) : (s.forwardTrace d).fuse = s.fuse := by simp [State.forwardTrace]
@[simp] theorem State.traceRecord_fuse (s : State) (h : Nat) : (s.traceRecord h).fuse = s.fuse := by simp [State.traceRecord]

@[simp] theorem State.trcCtrl_fuse (s : State) (h v : Nat) : (s.trcCtrl h v).Leaves fun t => t.fuse = s.fuse := by
  simp only [State.trcCtrl]
  (repeat' split) <;> simp

@[simp] theorem State.stopRecorders_fuse (s : State) (c : Nat) : (s.stopRecorders c).fuse = s.fuse := by simp [State.stopRecorders]

/-! ## Casement resets -/

@[simp] theorem State.cutQueue_fuse (s : State) (q : QueueId) : (s.cutQueue q).fuse = s.fuse := by simp [State.cutQueue]
@[simp] theorem State.dropWaits_fuse (s : State) (q : QueueId) : (s.dropWaits q).fuse = s.fuse := by simp [State.dropWaits]
@[simp] theorem State.cutColls_fuse (s : State) (q : QueueId) : (s.cutColls q).fuse = s.fuse := by simp [State.cutColls]
@[simp] theorem State.cutPgWaits_fuse (s : State) (c : Nat) : (s.cutPgWaits c).fuse = s.fuse := by simp [State.cutPgWaits]
@[simp] theorem State.startCasReset_fuse (s : State) (c : Nat) : (s.startCasReset c).fuse = s.fuse := by simp [State.startCasReset]
@[simp] theorem State.resetQueue_fuse (s : State) (q : QueueId) : (s.resetQueue q).fuse = s.fuse := by simp [State.resetQueue]
@[simp] theorem State.closeQueue_fuse (s : State) (q : QueueId) : (s.closeQueue q).fuse = s.fuse := by simp [State.closeQueue]

@[simp] theorem State.resetVectors_fuse (s : State) (c : Nat) : (s.resetVectors c).fuse = s.fuse := by
  unfold State.resetVectors
  split <;> simp

@[simp] theorem State.resetSync_fuse (s : State) (c : Nat) : (s.resetSync c).fuse = s.fuse := by simp [State.resetSync]
@[simp] theorem State.casWaiters_fuse (s : State) (c : Nat) : (s.casWaiters c).fuse = s.fuse := by simp [State.casWaiters]

@[simp] theorem State.casResetComplete_fuse (s : State) (c : Nat) : (s.casResetComplete c).fuse = s.fuse := by
  simp only [State.casResetComplete]
  (repeat' split) <;> simp

@[simp] theorem State.caseRst_fuse (s : State) (v : Nat) : (s.caseRst v).fuse = s.fuse := by simp [State.caseRst]

@[simp] theorem State.caseSelfRst_fuse (s : State) (f : Nat) : (s.caseSelfRst f).fuse = s.fuse := by
  unfold State.caseSelfRst
  split <;> simp

@[simp] theorem State.runCaseReset_fuse (s : State) (q : QueueId) (c : Cmd) : (s.runCaseReset q c).fuse = s.fuse := by simp [State.runCaseReset]
@[simp] theorem State.resetFn_fuse (s : State) (f : Nat) : (s.resetFn f).fuse = s.fuse := by simp [State.resetFn]
@[simp] theorem State.flr_fuse (s : State) (f : Nat) : (s.flr f).fuse = s.fuse := by simp [State.flr]

/-! ## The host -/

@[simp] theorem State.release_fuse (s : State) (f : Nat) : (s.release f).fuse = s.fuse :=
  foldl_fuse _ _ _ fun v t => by dsimp only; split <;> simp

@[simp] theorem State.msixUnmask_fuse (s : State) (f v : Nat) : (s.msixUnmask f v).fuse = s.fuse := by
  unfold State.msixUnmask
  split <;> simp

@[simp] theorem State.cfgWrite_fuse (s : State) (f off : Nat) (v : BitVec 32) : (s.cfgWrite f off v).fuse = s.fuse := by
  unfold State.cfgWrite
  split <;> simp

@[simp] theorem State.configRequest_fuse (s : State) (f off : Nat) (w : Option (BitVec 32)) : (s.configRequest f off w).fuse = s.fuse := by
  unfold State.configRequest
  (repeat' split) <;> simp

@[simp] theorem State.flrRequest_fuse (s : State) (f : Nat) : (s.flrRequest f).fuse = s.fuse := by simp [State.flrRequest]

theorem hostSend_fuse {s : State} {r : Req} {x : State × Bool} (h : s.hostSend r = some x) : x.1.fuse = s.fuse := by
  simp only [State.hostSend] at h
  split at h
  · exact absurd h (by simp)
  · split at h
    · rw [← Option.some.inj h]
      simp
    · split at h
      · rw [← Option.some.inj h]
        simp
      · exact absurd h (by simp)

@[simp] theorem State.refusedAt_fuse (s : State) (f : Nat) : (s.refusedAt f).fuse = s.fuse := by simp [State.refusedAt]

theorem sendParts_fuse {s : State} {f no k : Nat} {l : List (Nat × Nat)} {x : State × List (Nat × Block × Bool × Bool)}
    (h : s.sendParts f no k l = some x) : x.1.fuse = s.fuse := by
  induction l generalizing s k x with
  | nil => rw [← Option.some.inj h]
  | cons y t ih =>
    unfold State.sendParts at h
    split at h
    · exact absurd h (by simp)
    · next u refused hu =>
      split at h
      · exact absurd h (by simp)
      · next v r hv =>
        rw [← Option.some.inj h]
        exact (ih hv).trans (hostSend_fuse hu)

@[simp] theorem State.hostFinish_fuse (s : State) (x : HostRd) : (s.hostFinish x).fuse = s.fuse := by simp [State.hostFinish]

@[simp] theorem State.hostTry_fuse (s : State) (x : HostRd) : (s.hostTry x).fuse = s.fuse := by
  unfold State.hostTry
  split
  · simp
  · split
    · split
      · rfl
      · next t l ht =>
        have hfuse : t.fuse = s.fuse := sendParts_fuse ht
        simp [hfuse]
    · rfl

theorem writeParts_fuse {s : State} {f no k : Nat} {data : List Byte} {l : List (Nat × Nat)} {x : State × Bool}
    (h : s.writeParts f no data k l = some x) : x.1.fuse = s.fuse := by
  induction l generalizing s data k x with
  | nil => rw [← Option.some.inj h]
  | cons y t ih =>
    unfold State.writeParts at h
    split at h
    · exact absurd h (by simp)
    · next u refused hu =>
      split at h
      · exact absurd h (by simp)
      · next v r hv =>
        rw [← Option.some.inj h]
        exact (ih hv).trans (hostSend_fuse hu)

@[simp] theorem State.hostPush_fuse (s : State) (x : HostWr) : (s.hostPush x).fuse = s.fuse := by
  simp only [State.hostPush]
  split
  · simp
  · split
    · split
      · rfl
      · next u refused hu =>
        have hfuse : u.fuse = s.fuse := writeParts_fuse hu
        simp [hfuse]
    · rfl

@[simp] theorem State.hostPump_fuse (s : State) : (s.hostPump).fuse = s.fuse := by simp [State.hostPump]
@[simp] theorem State.takeNo_fuse (s : State) (f : Nat) : (s.takeNo f).fuse = s.fuse := by simp [State.takeNo]

@[simp] theorem State.bar2Read_fuse (s : State) (f : FnNo) (off len : Nat) : (s.bar2Read f off len).fuse = s.fuse := by
  unfold State.bar2Read
  split <;> simp

@[simp] theorem State.bar2Write_fuse (s : State) (f : FnNo) (off : Nat) (data : List Byte) : (s.bar2Write f off data).fuse = s.fuse := by
  unfold State.bar2Write
  split <;> simp

@[simp] theorem State.hostAnswer_fuse (s : State) (f no k : Nat) (a : Answer) : (s.hostAnswer f no k a).fuse = s.fuse := by
  simp only [State.hostAnswer]
  (repeat' split) <;> simp

@[simp] theorem State.hostCut_fuse (s : State) : (s.hostCut).fuse = s.fuse := by simp [State.hostCut]
@[simp] theorem State.engineHostRead_fuse (s : State) (q : QueueId) (data : Option Block) : (s.engineHostRead q data).fuse = s.fuse := by simp [State.engineHostRead]

/-! ## The Aksal links -/

@[simp] theorem State.takeTx_fuse (s : State) (d : Nat) (m : AkReq) : (s.takeTx d m).fuse = s.fuse := by simp [State.takeTx]

@[simp] theorem State.dieAccess_fuse (s : State) (d : Nat) (m : AkReq) (write sector : Bool) : (s.dieAccess d m write sector).fuse = s.fuse := by
  simp only [State.dieAccess]
  split
  · split
    · simp
    · split
      · simp
      · split
        · split <;> simp
        · split <;> next ho => simp [fuse_of_pair ho (State.offer_fuse ..)]
  · rfl

@[simp] theorem State.diePage_fuse (s : State) (d : Nat) (m : AkReq) : (s.diePage d m).fuse = s.fuse := by
  unfold State.diePage
  (repeat' split) <;> simp

@[simp] theorem State.dieAnswer_fuse (s : State) (d srcTag tag : Nat) (a : Answer) : (s.dieAnswer d srcTag tag a).fuse = s.fuse := by simp [State.dieAnswer]
@[simp] theorem State.dieResponse_fuse (s : State) (d : Nat) (m : AkRsp) : (s.dieResponse d m).fuse = s.fuse := by simp [State.dieResponse]
@[simp] theorem State.haltCore_fuse (s : State) (p : CorePos) : (s.haltCore p).fuse = s.fuse := by simp [State.haltCore]
@[simp] theorem State.haltExp_fuse (s : State) (d e : Nat) : (s.haltExp d e).fuse = s.fuse := by simp [State.haltExp]
@[simp] theorem State.dieHalted_fuse (s : State) (d : Nat) : (s.dieHalted d).fuse = s.fuse := by simp [State.dieHalted]
@[simp] theorem State.stopDie_fuse (s : State) (d : Nat) : (s.stopDie d).fuse = s.fuse := by simp [State.stopDie]
@[simp] theorem State.closeDoor0_fuse (s : State) (d : Nat) : (s.closeDoor0 d).fuse = s.fuse := by simp [State.closeDoor0]
@[simp] theorem State.setLinkState_fuse (s : State) (d st : Nat) : (s.setLinkState d st).fuse = s.fuse := by simp [State.setLinkState]
@[simp] theorem State.aksalLost_fuse (s : State) (d : Nat) : (s.aksalLost d).fuse = s.fuse := by simp [State.aksalLost]

@[simp] theorem State.flitError_fuse (s : State) (d : Nat) (h2c : Bool) (n : Nat) (crcBad : Bool) (seq : Nat) : (s.flitError d h2c n crcBad seq).fuse = s.fuse := by
  simp [State.flitError]

@[simp] theorem State.nak_fuse (s : State) (d : Nat) (h2c : Bool) (n seq : Nat) : (s.nak d h2c n seq).fuse = s.fuse := by simp [State.nak]

@[simp] theorem State.nakResend_fuse (s : State) (d : Nat) (h2c : Bool) (n : Nat) : (s.nakResend d h2c n).fuse = s.fuse := by
  simp only [State.nakResend]
  (repeat' split) <;> simp

@[simp] theorem State.aksalDown_fuse (s : State) (d : Nat) : (s.aksalDown d).fuse = s.fuse := by simp [State.aksalDown]
@[simp] theorem State.freshSlices_fuse (s : State) (d : Nat) : (s.freshSlices d).fuse = s.fuse := by simp [State.freshSlices]
@[simp] theorem State.trainFail_fuse (s : State) (d side slice : Nat) : (s.trainFail d side slice).fuse = s.fuse := by simp [State.trainFail]

theorem mapSpares_fuse {s t : State} {d : Nat} {h2c : Bool} {spares : List (Fin 24 × List Nat)} (h : s.mapSpares d h2c spares = .inl t) : t.fuse = s.fuse := by
  simp only [State.mapSpares] at h
  split at h
  · exact absurd h (by simp)
  · rw [← Sum.inl.inj h]
    simp

@[simp] theorem State.trainNext_fuse (s : State) (d : Nat) : (s.trainNext d).fuse = s.fuse := by simp [State.trainNext]

@[simp] theorem State.trainingState_fuse (s : State) (d : Nat) (die : Bool) (spares : List (Fin 24 × List Nat)) : (s.trainingState d die spares).fuse = s.fuse := by
  simp only [State.trainingState]
  split
  · split
    · simp
    · next t ht =>
      have hfuse : t.fuse = s.fuse := by
        split at ht
        · exact mapSpares_fuse ht
        · rw [← Sum.inl.inj ht]
      simp [hfuse]
  · rfl

@[simp] theorem State.trainTimeout_fuse (s : State) (d : Nat) : (s.trainTimeout d).fuse = s.fuse := by simp [State.trainTimeout]
@[simp] theorem State.sideDown_fuse (s : State) (d : Nat) (dieSide : Bool) : (s.sideDown d dieSide).fuse = s.fuse := by simp [State.sideDown]
@[simp] theorem State.sideUp_fuse (s : State) (d : Nat) : (s.sideUp d).fuse = s.fuse := by simp [State.sideUp]
@[simp] theorem State.cdRstN_fuse (s : State) (d : Nat) (high : Bool) : (s.cdRstN d high).fuse = s.fuse := by simp [State.cdRstN]
@[simp] theorem State.cdPwrOk_fuse (s : State) (d : Nat) (high : Bool) : (s.cdPwrOk d high).fuse = s.fuse := by simp [State.cdPwrOk]
@[simp] theorem State.hbRstN_fuse (s : State) (d : Nat) (high : Bool) : (s.hbRstN d high).fuse = s.fuse := by simp [State.hbRstN]
@[simp] theorem State.hbPwrOk_fuse (s : State) (d : Nat) (high : Bool) : (s.hbPwrOk d high).fuse = s.fuse := by simp [State.hbPwrOk]
@[simp] theorem State.doorMask_fuse (s : State) (h d : Nat) : (s.doorMask h d).fuse = s.fuse := by simp [State.doorMask]
@[simp] theorem State.doorUnmask_fuse (s : State) (h d : Nat) : (s.doorUnmask h d).fuse = s.fuse := by simp [State.doorUnmask]

end Sys2Proof.Machine
end

section
/-! SUPPORT. The fuses at the end of a step, in the clocks and under register accesses, and in every step (R43). -/

namespace Sys2Proof.Machine

/-! ## The end of a step -/

@[simp] theorem State.cmdAnswer_fuse (s : State) (q : QueueId) (idx part : Nat) (a : Answer) : (s.cmdAnswer q idx part a).fuse = s.fuse := by
  unfold State.cmdAnswer
  split <;> simp

@[simp] theorem State.deliver_fuse (s : State) (a : Answer) : (s.deliver a).fuse = s.fuse := by
  unfold State.deliver
  (repeat' split) <;> simp

@[simp] theorem State.deliverAll_fuse (s : State) (l : List Answer) : (s.deliverAll l).fuse = s.fuse := by
  induction l generalizing s with
  | nil => rfl
  | cons a t ih => simp [State.deliverAll, ih]

@[simp] theorem State.pump_fuse (s : State) : (s.pump).fuse = s.fuse := by simp [State.pump]
@[simp] theorem State.settle_fuse (s : State) : (s.settle).fuse = s.fuse := by simp [State.settle]
@[simp] theorem State.cutTraining_fuse (s : State) (h p : Nat) : (s.cutTraining h p).fuse = s.fuse := by simp [State.cutTraining]

@[simp] theorem State.timeoutRepair_fuse (s : State) (q : QueueId) (idx : Nat) : (s.timeoutRepair q idx).fuse = s.fuse := by
  unfold State.timeoutRepair
  (repeat' split) <;> simp

@[simp] theorem State.timeoutPages_fuse (s : State) (q : QueueId) (c : Cmd) : (s.timeoutPages q c).fuse = s.fuse := by simp [State.timeoutPages]

@[simp] theorem State.timeout_fuse (s : State) (q : QueueId) (c : Cmd) : (s.timeout q c).fuse = s.fuse := by
  unfold State.timeout
  (repeat' split) <;> simp

@[simp] theorem State.watchdog_fuse (s : State) (q : QueueId) : (s.watchdog q).fuse = s.fuse := by
  unfold State.watchdog
  split <;> simp

/-! ## The clocks -/

@[simp] theorem State.countCclk_fuse (s : State) : (s.countCclk).fuse = s.fuse := by simp [State.countCclk]
@[simp] theorem State.countStall_fuse (s : State) (key : Nat) (x : CoreSt) : (s.countStall key x).fuse = s.fuse := by simp [State.countStall]
@[simp] theorem State.countKclk_fuse (s : State) : (s.countKclk).fuse = s.fuse := by simp [State.countKclk]
@[simp] theorem State.countTick_fuse (s : State) : (s.countTick).fuse = s.fuse := by simp [State.countTick]
@[simp] theorem State.timeTick_fuse (s : State) : (s.timeTick).fuse = s.fuse := by simp [State.timeTick]
@[simp] theorem State.cclkEdge_fuse (s : State) : (s.cclkEdge).fuse = s.fuse := by simp [State.cclkEdge]
@[simp] theorem State.hingeTick_fuse (s : State) : (s.hingeTick).fuse = s.fuse := by simp [State.hingeTick]
@[simp] theorem State.tick_fuse (s : State) : (s.tick).fuse = s.fuse := by simp [State.tick]

/-! ## Register accesses -/

@[simp] theorem State.unlatch_fuse (s : State) (a : RegAt) : (s.unlatch a).fuse = s.fuse := by simp [State.unlatch]

@[simp] theorem State.noteCount_fuse (s : State) (a : RegAt) : (s.noteCount a).fuse = s.fuse := by
  unfold State.noteCount
  split <;> simp

@[simp] theorem State.readReg_fuse (s : State) (a : RegAt) (p : Part) : (s.readReg a p).1.fuse = s.fuse := by
  unfold State.readReg
  (repeat' split) <;> simp

@[simp] theorem State.answered_fuse (s : State) (a : Access) (v : Nat) : (s.answered a v).fuse = s.fuse := by simp [State.answered]
@[simp] theorem State.readFault_fuse (s : State) (a : Access) (reason : Nat) : (s.readFault a reason).fuse = s.fuse := by simp [State.readFault]

@[simp] theorem State.readNow_fuse (s : State) (a : Access) : (s.readNow a).fuse = s.fuse := by
  unfold State.readNow
  split <;> simp

@[simp] theorem State.regRead_fuse (s : State) (a : Access) : (s.regRead a).fuse = s.fuse := by
  unfold State.regRead
  split <;> simp

@[simp] theorem State.setField_fuse (s : State) (k : Nat × Nat × Nat) (p : Part) (img v : Nat) (r : FieldRow) : (s.setField k p img v r).fuse = s.fuse := by
  unfold State.setField
  split <;> simp

@[simp] theorem State.setFields_fuse (s : State) (a : RegAt) (p : Part) (v : Nat) : (s.setFields a p v).fuse = s.fuse := by simp [State.setFields]

@[simp] theorem State.writeImgCtrl_fuse (s : State) (n : Nat) : (s.writeImgCtrl n).Leaves fun t => t.fuse = s.fuse := by
  simp only [State.writeImgCtrl]
  (repeat' split) <;> simp

@[simp] theorem State.writeLayoutCtrl_fuse (s : State) (a : RegAt) (n : Nat) : (s.writeLayoutCtrl a n).Leaves fun t => t.fuse = s.fuse := by
  simp only [State.writeLayoutCtrl]
  (repeat' split) <;> simp

@[simp] theorem State.writeHingeCtrl_fuse (s : State) (a : RegAt) (n : Nat) : (s.writeHingeCtrl a n).fuse = s.fuse := by simp [State.writeHingeCtrl]
@[simp] theorem State.writePwrCtrl_fuse (s : State) (a : RegAt) (n : Nat) : (s.writePwrCtrl a n).fuse = s.fuse := by simp [State.writePwrCtrl]
@[simp] theorem State.writeDebug_fuse (s : State) (h p : Nat) (halt : Bool) : (s.writeDebug h p halt).fuse = s.fuse := by simp [State.writeDebug]

@[simp] theorem State.writeDebugCmd_fuse (s : State) (h p : Nat) (v : Word) : (s.writeDebugCmd h p v).Leaves fun t => t.fuse = s.fuse := by
  simp only [State.writeDebugCmd]
  (repeat' split) <;> simp

@[simp] theorem State.writeTrnCtrl_fuse (s : State) (a : RegAt) (n : Nat) : (s.writeTrnCtrl a n).fuse = s.fuse := by simp [State.writeTrnCtrl]
@[simp] theorem State.writeTrim_fuse (s : State) (h p n : Nat) : (s.writeTrim h p n).fuse = s.fuse := by simp [State.writeTrim]
@[simp] theorem State.writeXlate_fuse (s : State) (a : RegAt) (p : Part) (v : Nat) : (s.writeXlate a p v).fuse = s.fuse := by simp [State.writeXlate]
@[simp] theorem State.writeDirect_fuse (s : State) (a : RegAt) (n : Nat) : (s.writeDirect a n).fuse = s.fuse := by simp [State.writeDirect]
@[simp] theorem State.writeShiftBuf_fuse (s : State) (h i n : Nat) : (s.writeShiftBuf h i n).fuse = s.fuse := by simp [State.writeShiftBuf]
@[simp] theorem State.writeRecov_fuse (s : State) (i n : Nat) : (s.writeRecov i n).fuse = s.fuse := by simp [State.writeRecov]

@[simp] theorem State.writeSram_fuse (s : State) (d w n : Nat) : (s.writeSram d w n).fuse = s.fuse := by
  unfold State.writeSram
  split <;> simp

@[simp] theorem State.writeQueueCtrl_fuse (s : State) (a : RegAt) (n : Nat) : (s.writeQueueCtrl a n).fuse = s.fuse := by simp [State.writeQueueCtrl]

@[simp] theorem State.writeQueueCfg_fuse (s : State) (a : RegAt) (p : Part) (v : Nat) : (s.writeQueueCfg a p v).Leaves fun t => t.fuse = s.fuse := by
  simp only [State.writeQueueCfg]
  (repeat' split) <;> simp

@[simp] theorem State.writeCntCfg_fuse (s : State) (a : RegAt) (n : Nat) : (s.writeCntCfg a n).Leaves fun t => t.fuse = s.fuse := by
  simp only [State.writeCntCfg]
  (repeat' split) <;> simp

@[simp] theorem State.writeCcntCfg_fuse (s : State) (a : RegAt) (n : Nat) : (s.writeCcntCfg a n).Leaves fun t => t.fuse = s.fuse := by
  simp only [State.writeCcntCfg]
  (repeat' split) <;> simp

@[simp] theorem State.writeAccErr_fuse (s : State) (a : RegAt) (p : Part) (v : Nat) : (s.writeAccErr a p v).fuse = s.fuse := by simp [State.writeAccErr]

@[simp] theorem State.writeFnWin_fuse (s : State) (f n : Nat) : (s.writeFnWin f n).Leaves fun t => t.fuse = s.fuse := by
  simp only [State.writeFnWin]
  (repeat' split) <;> simp

/-- Of all registers only IMG_ROLLBACK has an effect on the fuses (R43). -/
@[simp] theorem State.writeActs_fuse (s : State) (a : RegAt) (p : Part) (n v : Nat) (ha : a.reg ≠ .IMG_ROLLBACK) :
    (s.writeActs a p n v).Leaves fun t => t.fuse = s.fuse := by
  unfold State.writeActs
  split
  case h_2 h => exact absurd h ha
  case h_22 => split <;> simp
  all_goals simp

@[simp] theorem State.writeReg_fuse (s : State) (a : RegAt) (p : Part) (v : Nat) (ha : a.reg ≠ .IMG_ROLLBACK) :
    (s.writeReg a p v).Leaves fun t => t.fuse = s.fuse := by
  unfold State.writeReg
  split <;> simp [ha]

@[simp] theorem State.writeMsix_fuse (s : State) (f vec k v : Nat) : (s.writeMsix f vec k v).fuse = s.fuse := by
  unfold State.writeMsix
  cases s.msixKey f vec with
  | none => rfl
  | some key =>
    rcases k with _ | _ | _ | k
    · exact State.setMsix_fuse ..
    · exact State.setMsix_fuse ..
    · exact State.setMsix_fuse ..
    · exact (State.fuse_ite ..).trans (by rw [State.setMsix_fuse, State.msixUnmask_fuse, ite_self])

@[simp] theorem State.halfRead_fuse (s : State) (a : Access) : (s.halfRead a).fuse = s.fuse := by
  unfold State.halfRead
  split <;> simp

@[simp] theorem State.counterRead_fuse (s : State) (a : Access) : (s.counterRead a).fuse = s.fuse := by
  unfold State.counterRead
  split <;> simp

@[simp] theorem State.gateWrite_fuse (s : State) (a : Access) (here : Bool) (r : WriteResult) (h : r.Leaves fun t => t.fuse = s.fuse) :
    (s.gateWrite a here r).fuse = s.fuse := by
  unfold State.gateWrite
  split <;> simp [h]

/-! ## The phase step of a hinge -/

@[simp] theorem State.phaseSteps_fuse (s : State) : (s.phaseSteps).fuse = s.fuse := by simp [State.phaseSteps]

/-! ## The fuses rise -/

/-- From the one state to the other the fuses are the same but for FUSED of IMG_ROLLBACK, which has not fallen. -/
def State.FusesRise (s t : State) : Prop := t.fuse = { s.fuse with imgRollback := t.fuse.imgRollback } ∧ s.fuse.imgRollback ≤ t.fuse.imgRollback

theorem State.FusesRise.of_fuse {s t : State} (h : t.fuse = s.fuse) : s.FusesRise t := ⟨by rw [h], by rw [h]⟩

theorem State.FusesRise.trans {s t u : State} (h : s.FusesRise t) (h' : t.FusesRise u) : s.FusesRise u := by
  obtain ⟨hst, hle⟩ := h
  obtain ⟨htu, hle'⟩ := h'
  refine ⟨?_, hle.trans hle'⟩
  rw [htu, hst]

theorem State.advanceFuses_rises (s : State) : s.FusesRise s.advanceFuses := by
  unfold State.advanceFuses
  split
  · exact ⟨rfl, Nat.le_max_left ..⟩
  · exact .of_fuse rfl

theorem State.writeReg_rises (s : State) (a : RegAt) (p : Part) (v : Nat) : (s.writeReg a p v).Leaves s.FusesRise := by
  by_cases ha : a.reg = .IMG_ROLLBACK
  · unfold State.writeReg State.writeActs
    rw [ha]
    split
    · trivial
    · show s.FusesRise _
      split
      · exact s.advanceFuses_rises
      · exact .of_fuse rfl
  · exact (s.writeReg_fuse a p v ha).mono fun _ => .of_fuse

theorem State.settleWrite_rises {s : State} {r : WriteResult} (h : r.Leaves s.FusesRise) (a : Access) : s.FusesRise (s.settleWrite a r) := by
  cases r with
  | inl t => exact h
  | inr n => exact .of_fuse (s.accErr_fuse ..)

theorem State.writeNow_rises (s : State) (a : Access) (v : Nat) : s.FusesRise (s.writeNow a v) := by
  unfold State.writeNow
  split
  case h_4 => exact settleWrite_rises (s.writeReg_rises ..) a
  all_goals exact .of_fuse (by simp)

theorem State.regWrite_rises (s : State) (a : Access) (v : Word) : s.FusesRise (s.regWrite a v) := by
  unfold State.regWrite
  split
  case h_6 =>
    split
    · exact .of_fuse rfl
    · exact s.writeNow_rises a _
  all_goals exact .of_fuse (by simp)

theorem State.retryHeld_rises (s : State) (x : Access × Option Word) : s.FusesRise (s.retryHeld x) := by
  unfold State.retryHeld
  split
  · exact s.regWrite_rises _ _
  · exact .of_fuse (by simp)

theorem foldl_rises {α : Type} {f : State → α → State} (h : ∀ (t : State) x, t.FusesRise (f t x)) (l : List α) (s : State) : s.FusesRise (l.foldl f s) := by
  induction l generalizing s with
  | nil => exact .of_fuse rfl
  | cons x t ih => exact (h s x).trans (ih _)

/-- A held write of IMG_ROLLBACK can go on at the end of any step. -/
theorem State.done_rises (s : State) : s.FusesRise s.done := by
  have hset : s.FusesRise { s.settle with heldRegs := [] } := .of_fuse (by simp)
  unfold State.done State.replayHeld
  exact hset.trans (foldl_rises State.retryHeld_rises _ _)

/-- ADVANCE and a register write raise the fuses or keep them, and every other command keeps them, before the end of its step. -/
theorem exec_rises (c : Instr) (s : State) : ∃ u : State, exec c s = .next u.done ∧ s.FusesRise u := by
  cases c
  case advance => exact ⟨_, rfl, s.advanceFuses_rises⟩
  case registerWrite a v => exact ⟨_, rfl, s.regWrite_rises a v⟩
  all_goals exact ⟨_, rfl, .of_fuse (by simp)⟩

/-- Settles O6: ADVANCE and a register write raise the fuses or keep them, every other command keeps them, and so does the end of a step but for a held register write. -/
theorem fusesOnlyAdvance : Obligations.FusesOnlyAdvance := by
  intro s t h
  unfold step at h
  split at h
  · rw [← Host.Outcome.next.inj h]
    exact State.FusesRise.of_fuse s.tick_fuse
  · next c rest hp =>
    obtain ⟨u, hu, hrise⟩ := exec_rises c { s with pending := rest }
    rw [hu] at h
    rw [← Host.Outcome.next.inj h]
    exact hrise.trans u.done_rises

end Sys2Proof.Machine
end

section
/-! SUPPORT. The rollback count of an image (R30, R43): an image that is accepted carries at least FUSED, and ADVANCE raises FUSED to it. -/

namespace Sys2Proof.Machine

/-- A one-byte field of an image is the byte at its offset. -/
theorem u_byte (l : List Byte) (o : Nat) : u l o 1 = (l.getD o 0).toNat := by
  simp [u, leN, List.head?_drop, List.getD_eq_getElem?_getD]

/-- A chain of checks that reports no error has passed its first check. -/
theorem of_ite_some_eq_none {α : Type} {p : Prop} [Decidable p] {e : α} {x : Option α} (h : (if p then some e else x) = none) : ¬ p ∧ x = none := by
  by_cases hp : p
  · simp [hp] at h
  · exact ⟨hp, by simpa [hp] using h⟩

/-- A header that passes its checks carries a ROLLBACK of at least FUSED: the check of ROLLBACK is the eighth of the chain. -/
theorem headerCheck_rollback {s : State} {l : List Byte} {kind : Nat} (h : s.headerCheck l kind = none) : s.fuse.imgRollback ≤ (l.getD 0x14 0).toNat := by
  rw [← u_byte]
  unfold State.headerCheck at h
  obtain ⟨-, h⟩ := of_ite_some_eq_none h
  obtain ⟨-, h⟩ := of_ite_some_eq_none h
  obtain ⟨-, h⟩ := of_ite_some_eq_none h
  obtain ⟨-, h⟩ := of_ite_some_eq_none h
  obtain ⟨-, h⟩ := of_ite_some_eq_none h
  obtain ⟨-, h⟩ := of_ite_some_eq_none h
  obtain ⟨-, h⟩ := of_ite_some_eq_none h
  exact Nat.le_of_not_lt (of_ite_some_eq_none h).1

/-- An image whose header, signature and frames are accepted has a header that passes its checks. -/
theorem parseImage_header {s : State} {l : List Byte} {kind : Nat} {fs : List RawFrame} (h : s.parseImage l kind = .inr fs) : s.headerCheck l kind = none := by
  unfold State.parseImage at h
  split at h
  · exact absurd h (by simp)
  · assumption

theorem parseImage_rollback {s : State} {l : List Byte} {kind : Nat} {fs : List RawFrame} (h : s.parseImage l kind = .inr fs) :
    s.fuse.imgRollback ≤ (l.getD 0x14 0).toNat := headerCheck_rollback (parseImage_header h)

/-- A full image that loads has been accepted. -/
theorem loadFull_parsed {s : State} {l : List Byte} (h : (s.loadFull l).2 = true) : ∃ fs, s.parseImage (l.take 0x1000000) 0 = .inr fs := by
  unfold State.loadFull at h
  dsimp only at h
  split at h
  · exact absurd h (by simp)
  · next fs hfs => exact ⟨fs, hfs⟩

/-- ADVANCE on a package with nothing under way, with a full image running. -/
theorem exec_advance {s : State} {c : RunCfg} (hi : s.Idle) (hc : s.cfg = some c) :
    exec .advance s = .next { s with fuse := { s.fuse with imgRollback := max s.fuse.imgRollback c.rollback } } := by
  show Host.Outcome.next s.advanceFuses.done = _
  rw [State.advanceFuses, hc]
  exact congrArg Host.Outcome.next (done_of_idle hi)

/-- Settles O22: the header check of a load compares ROLLBACK with FUSED, and what ADVANCE does is one fuse update; O6 says that no step lowers FUSED. -/
theorem rollbackFusesFollowTheImage : Obligations.RollbackFusesFollowTheImage := by
  refine ⟨fun s l h => ?_, fun s l fs h => parseImage_rollback h, fun s c hi hc => ⟨exec_advance hi hc, fun hle => ⟨_, exec_advance hi hc, max_eq_right hle⟩⟩,
    fun s t h => (fusesOnlyAdvance s t h).2⟩
  obtain ⟨fs, hfs⟩ := loadFull_parsed h
  exact parseImage_rollback hfs

end Sys2Proof.Machine
end

section
/-! SUPPORT. Staging of a configuration (R51 to R55, R126, R127): what starting, rejecting and ending a change can touch. -/

namespace Sys2Proof.Machine

/-! ## What staging can touch -/

/-- The fields of a hub's image status. -/
def hubImageFlds : List Fld := [.HUB_IMG_STATUS_STATE, .HUB_IMG_STATUS_ERROR, .HUB_IMG_STATUS_FRAME_IDX]

/-- The fields that report the progress of an image or a layout switch. -/
def stagingFlds : List Fld :=
  hubImageFlds ++ [.IMG_CTRL_BUSY, .IMG_STATUS_STATE, .IMG_STATUS_KIND, .IMG_STATUS_ERROR, .IMG_STATUS_FRAME_IDX, .IMG_STATUS_HUB,
    .IMG_LAYOUT_CTRL_BUSY, .IMG_LAYOUT_CTRL_ERROR]

theorem State.RegsBut.refl (s : State) (l : List Fld) : s.RegsBut s l := fun _ _ _ _ _ => rfl

theorem State.RegsBut.trans {s t u : State} {l : List Fld} (h : s.RegsBut t l) (g : t.RegsBut u l) : s.RegsBut u l :=
  fun f d i j hf => (g f d i j hf).trans (h f d i j hf)

theorem State.RegsBut.wr {s t : State} {l : List Fld} (h : s.RegsBut t l) {f : Fld} (hf : f ∈ l) {d i j v : Nat} : s.RegsBut (t.wr f d i j v) l :=
  fun g _ _ _ hg => (t.rd_wr_fld (fun e : f = g => hg (e ▸ hf))).trans (h g _ _ _ hg)

theorem State.RegsBut.foldl {α : Type} {l : List Fld} {F : State → α → State} (hF : ∀ (t : State) (x : α), t.RegsBut (F t x) l) (xs : List α) (s : State) :
    s.RegsBut (xs.foldl F s) l := by
  induction xs generalizing s with
  | nil => exact .refl s l
  | cons x xs ih => exact (hF s x).trans (ih _)

theorem State.RegsOnly.foldl {α : Type} {F : State → α → State} (hF : ∀ (t : State) (x : α), t.RegsOnly (F t x)) (xs : List α) (s : State) : s.RegsOnly (xs.foldl F s) := by
  induction xs generalizing s with
  | nil => exact .refl s
  | cons x xs ih => exact (hF s x).trans (ih _)

/-- Nothing but the staged changes and the fields that report on them differs. -/
def State.Restaged (s t : State) : Prop := (∃ R S, t = { s with regs := R, staged := S }) ∧ s.RegsBut t stagingFlds

theorem State.Restaged.refl (s : State) : s.Restaged s := ⟨⟨s.regs, s.staged, rfl⟩, .refl s _⟩

theorem State.Restaged.trans {s t u : State} (h : s.Restaged t) (g : t.Restaged u) : s.Restaged u := by
  obtain ⟨⟨R, S, rfl⟩, hr⟩ := h
  obtain ⟨⟨Q, T, rfl⟩, gr⟩ := g
  exact ⟨⟨Q, T, rfl⟩, hr.trans gr⟩

theorem State.Restaged.wr {s t : State} (h : s.Restaged t) {f : Fld} (hf : f ∈ stagingFlds) {d i j v : Nat} : s.Restaged (t.wr f d i j v) :=
  h.trans ⟨⟨_, _, rfl⟩, (State.RegsBut.refl t _).wr hf⟩

theorem State.Restaged.staged {s t : State} (h : s.Restaged t) (S : List Staged) : s.Restaged { t with staged := S } :=
  h.trans ⟨⟨t.regs, S, rfl⟩, fun _ _ _ _ _ => rfl⟩

theorem State.Restaged.of_regsOnly {s t : State} (h : s.RegsOnly t) (hr : s.RegsBut t stagingFlds) : s.Restaged t := by
  obtain ⟨R, rfl⟩ := h
  exact ⟨⟨R, s.staged, rfl⟩, hr⟩

theorem State.Restaged.eq {s t : State} (h : s.Restaged t) : t = { s with regs := t.regs, staged := t.staged } := by
  obtain ⟨⟨R, S, rfl⟩, -⟩ := h
  rfl

/-- On a package with nothing under way the end of a step leaves a change of what is staged as it is. -/
theorem State.Restaged.done {s t : State} (h : s.Restaged t) (hi : s.Idle) : t.done = t := by
  obtain ⟨⟨R, S, rfl⟩, -⟩ := h
  exact done_of_idle hi

/-! ## The status of an image -/

theorem hubImage_regsBut (s : State) (h state code frame : Nat) : s.RegsBut (s.hubImage h state code frame) hubImageFlds :=
  (((State.RegsBut.refl s _).wr (by decide)).wr (by decide)).wr (by decide)

theorem hubImage_regsOnly (s : State) (h state code frame : Nat) : s.RegsOnly (s.hubImage h state code frame) := (State.RegsOnly.refl s).wr.wr.wr

theorem rejectImage_regsOnly (s : State) (kind : Nat) (e : LoadErr) (found : List (Nat × Nat)) : s.RegsOnly (s.rejectImage kind e found) :=
  State.RegsOnly.trans (State.RegsOnly.refl s).wr.wr.wr.wr.wr.wr (.foldl (fun t _ => hubImage_regsOnly t _ _ _ _) _ _)

theorem rejectImage_rd (s : State) (kind : Nat) (e : LoadErr) (found : List (Nat × Nat)) {f : Fld} (hf : f ∉ hubImageFlds) (d i j : Nat) :
    (s.rejectImage kind e found).rd f d i j = ((s.imageStatus 4 kind e.code e.frame e.hub).wr .IMG_CTRL_BUSY 0 0 0 0).rd f d i j :=
  State.RegsBut.foldl (l := hubImageFlds) (fun t _ => hubImage_regsBut t _ _ _ _) found _ f d i j hf

theorem rejectImage_restaged (s : State) (kind : Nat) (e : LoadErr) (found : List (Nat × Nat)) : s.Restaged (s.rejectImage kind e found) :=
  .of_regsOnly (rejectImage_regsOnly ..) fun f d i j hf =>
    (rejectImage_rd s kind e found (fun h => hf (List.mem_append_left _ h)) d i j).trans
      (((((((State.RegsBut.refl s stagingFlds).wr (by decide)).wr (by decide)).wr (by decide)).wr (by decide)).wr (by decide)).wr (by decide) f d i j hf)

/-- What a rejected image reports: REJECTED, with the error, its frame and its hub, and not busy. -/
def State.Rejected (t : State) (code frame hub : Nat) : Prop :=
  t.rd .IMG_CTRL_BUSY 0 0 0 = 0 ∧ t.rd .IMG_STATUS_STATE 0 0 0 = 4 ∧ t.rd .IMG_STATUS_ERROR 0 0 0 = code ∧ t.rd .IMG_STATUS_FRAME_IDX 0 0 0 = frame ∧
    t.rd .IMG_STATUS_HUB 0 0 0 = hub

theorem rejectImage_rejected (s : State) (kind : Nat) (e : LoadErr) (found : List (Nat × Nat)) :
    (s.rejectImage kind e found).Rejected e.code e.frame e.hub := by
  unfold State.Rejected
  simp only [rejectImage_rd _ _ _ _ (show Fld.IMG_CTRL_BUSY ∉ hubImageFlds by decide),
    rejectImage_rd _ _ _ _ (show Fld.IMG_STATUS_STATE ∉ hubImageFlds by decide), rejectImage_rd _ _ _ _ (show Fld.IMG_STATUS_ERROR ∉ hubImageFlds by decide),
    rejectImage_rd _ _ _ _ (show Fld.IMG_STATUS_FRAME_IDX ∉ hubImageFlds by decide), rejectImage_rd _ _ _ _ (show Fld.IMG_STATUS_HUB ∉ hubImageFlds by decide),
    State.imageStatus, State.rd_wr]
  simp

theorem rejectImage_layoutBusy (s : State) (kind : Nat) (e : LoadErr) (found : List (Nat × Nat)) :
    (s.rejectImage kind e found).rd .IMG_LAYOUT_CTRL_BUSY 0 0 0 = s.rd .IMG_LAYOUT_CTRL_BUSY 0 0 0 := by
  rw [rejectImage_rd _ _ _ _ (by decide)]
  simp [State.imageStatus, State.rd_wr]

/-! ## Changes begin and end -/

theorem endLayout_restaged (s : State) (code : Nat) : s.Restaged (s.endLayout code) :=
  (((State.Restaged.refl s).staged _).wr (by decide)).wr (by decide)

theorem beginLayout_restaged (s : State) : s.Restaged s.beginLayout := by
  unfold State.beginLayout
  dsimp only
  split
  · exact endLayout_restaged ..
  · split
    · exact endLayout_restaged ..
    · split
      · exact endLayout_restaged ..
      · exact (((State.Restaged.refl s).wr (by decide)).wr (by decide)).staged _

/-- The hubs of a staged image report STAGED, after the package itself. -/
def State.markStaged (s : State) (hubs : List Nat) : State :=
  hubs.foldl (fun t h => t.wr .HUB_IMG_STATUS_STATE h 0 0 5) ((s.imageState 5 1).wr .IMG_CTRL_BUSY 0 0 0 1)

/-- An accepted partial image whose panes are quiesced, staged. -/
def State.stageImage (s : State) (c : Change) (hubs : List Nat) : State :=
  let t := s.markStaged hubs
  ({ t with staged := t.staged ++ [{ change := c, ready := s.hubs.filter fun h => !hubs.contains h, tick := none }] } : State).setTicks

theorem markStaged_rd (s : State) (hubs : List Nat) {f : Fld} (hf : f ∉ hubImageFlds) (d i j : Nat) :
    (s.markStaged hubs).rd f d i j = ((s.imageState 5 1).wr .IMG_CTRL_BUSY 0 0 0 1).rd f d i j :=
  State.RegsBut.foldl (l := hubImageFlds) (fun t _ => (State.RegsBut.refl t _).wr (by decide)) hubs _ f d i j hf

theorem markStaged_restaged (s : State) (hubs : List Nat) : s.Restaged (s.markStaged hubs) := by
  refine .of_regsOnly (State.RegsOnly.trans (State.RegsOnly.refl s).wr.wr.wr (.foldl (fun t _ => (State.RegsOnly.refl t).wr) _ _)) fun f d i j hf => ?_
  exact (markStaged_rd s hubs (fun h => hf (List.mem_append_left _ h)) d i j).trans
    ((((State.RegsBut.refl s stagingFlds).wr (by decide)).wr (by decide)).wr (by decide) f d i j hf)

theorem stageImage_restaged (s : State) (c : Change) (hubs : List Nat) : s.Restaged (s.stageImage c hubs) := ((markStaged_restaged s hubs).staged _).staged _

theorem stageImage_rd (s : State) (c : Change) (hubs : List Nat) {f : Fld} (hf : f ∉ hubImageFlds) (d i j : Nat) :
    (s.stageImage c hubs).rd f d i j = ((s.imageState 5 1).wr .IMG_CTRL_BUSY 0 0 0 1).rd f d i j := markStaged_rd s hubs hf d i j

/-- A staged image is among the staged changes, whatever ticks the changes take. -/
theorem setTicks_imagesStaged (s : State) : s.setTicks.imagesStaged = s.imagesStaged := by
  unfold State.setTicks State.imagesStaged
  rw [List.any_map]
  congr 1
  funext x
  dsimp only [Function.comp]
  split <;> rfl

theorem stageImage_imagesStaged (s : State) (c : RunCfg) (panes : Word) (cs : BitVec 32) (doors : List (Nat × Nat)) (hubs : List Nat) :
    (s.stageImage (.image c panes cs doors) hubs).imagesStaged = true := by
  unfold State.stageImage
  rw [setTicks_imagesStaged]
  simp [State.imagesStaged, Staged.isImage]

section
variable {s : State}

/-! GO's ends: rejected by its own frames, rejected by the configuration it would make, staged or rejected by its panes. -/

theorem beginPartial_of_bad_frames {e : LoadErr} {hs : List (Nat × Nat)} (h : s.parseImage s.partialBytes 1 = .inl (e, hs)) :
    s.beginPartial = s.rejectImage 1 e hs := by
  simp only [State.beginPartial, h]

theorem beginPartial_of_bad_cfg {own : List RawFrame} {e : LoadErr} (h : s.parseImage s.partialBytes 1 = .inr own)
    (ha : s.amended s.partialBytes own = .inl e) : s.beginPartial = s.rejectImage 1 e (e.on s.hubs) := by
  simp only [State.beginPartial, h, ha]

theorem beginPartial_of_accepted {own : List RawFrame} {c : RunCfg} {panes : Word} {cs : BitVec 32} {doors : List (Nat × Nat)} {hubs : List Nat}
    (h : s.parseImage s.partialBytes 1 = .inr own) (ha : s.amended s.partialBytes own = .inr (.image c panes cs doors, hubs)) :
    s.beginPartial = if s.quiescedAll panes.toNat then s.stageImage (.image c panes cs doors) hubs else s.rejectImage 1 (loadErr errNotQuiesced) [] := by
  simp only [State.beginPartial, h, ha]
  rfl

end

theorem beginPartial_restaged (s : State) : s.Restaged s.beginPartial := by
  unfold State.beginPartial
  dsimp only
  split
  · exact rejectImage_restaged ..
  · split
    · exact rejectImage_restaged ..
    · split
      · split
        · exact stageImage_restaged ..
        · exact rejectImage_restaged ..
      · exact .refl s

/-- A layout switch that was held starts once nothing is staged. -/
def State.startHeldLayout (s : State) : State :=
  if s.rd .IMG_LAYOUT_CTRL_BUSY 0 0 0 == 1 && !s.layoutsStaged && !s.imagesStaged then s.beginLayout else s

theorem startHeldLayout_restaged (s : State) : s.Restaged s.startHeldLayout := by
  unfold State.startHeldLayout
  split
  · exact beginLayout_restaged s
  · exact .refl s

theorem startHeld_eq (s : State) : s.startHeld =
    if s.startHeldLayout.rd .IMG_CTRL_BUSY 0 0 0 == 1 && !s.startHeldLayout.layoutsStaged && !s.startHeldLayout.imagesStaged
    then s.startHeldLayout.beginPartial else s.startHeldLayout := rfl

theorem startHeld_restaged (s : State) : s.Restaged s.startHeld := by
  rw [startHeld_eq]
  split
  · exact (startHeldLayout_restaged s).trans (beginPartial_restaged _)
  · exact startHeldLayout_restaged s

/-- No held change starts where neither kind is busy, or where an image is staged and no layout switch is busy. -/
theorem startHeld_of_layout_idle {s : State} (hl : s.rd .IMG_LAYOUT_CTRL_BUSY 0 0 0 = 0) (hi : s.rd .IMG_CTRL_BUSY 0 0 0 = 0 ∨ s.imagesStaged = true) :
    s.startHeld = s := by
  unfold State.startHeld
  rcases hi with hi | hi <;> simp [hl, hi]

theorem endImage_restaged (s : State) (code : Nat) : s.Restaged (s.endImage code) := by
  unfold State.endImage
  split
  · exact (((State.Restaged.refl s).staged _).trans (rejectImage_restaged ..)).trans (startHeld_restaged _)
  · exact .refl s

theorem abortLayout_restaged (s : State) (code : Nat) : s.Restaged (s.abortLayout code) := by
  unfold State.abortLayout
  split
  · exact (endLayout_restaged s code).trans (startHeld_restaged _)
  · exact .refl s

theorem quiesceLost_restaged (s : State) : s.Restaged s.quiesceLost := by
  have hi : s.Restaged (if s.staged.any (fun x => match x.change with | .image _ ps _ _ => !(subBits ps.toNat (s.rd .IMG_QUIESCE_PANES 0 0 0)) | _ => false)
      then s.endImage errNotQuiesced else s) := by
    split
    · exact endImage_restaged ..
    · exact .refl s
  unfold State.quiesceLost
  dsimp only
  split
  · exact hi.trans (abortLayout_restaged ..)
  · exact hi

theorem quiesceLost_of_no_staged {s : State} (h : s.staged = []) : s.quiesceLost = s := by
  unfold State.quiesceLost
  simp [h]

/-- Nothing of an image is staged once it has ended, and where no layout switch is held none starts. -/
theorem endImage_ends {s : State} (code : Nat) (hs : s.imagesStaged = true) (hl : s.rd .IMG_LAYOUT_CTRL_BUSY 0 0 0 = 0) :
    (s.endImage code).Rejected code noFrame 0 ∧ (s.endImage code).imagesStaged = false := by
  let t : State := { s with staged := s.staged.filter fun x => !x.isImage }
  have he : s.endImage code = t.rejectImage 1 (loadErr code) [] := by
    unfold State.endImage
    rw [hs, Bool.true_or, if_pos rfl]
    exact startHeld_of_layout_idle ((rejectImage_layoutBusy ..).trans hl) (.inl (rejectImage_rejected ..).1)
  rw [he]
  refine ⟨rejectImage_rejected t 1 (loadErr code) [], ?_⟩
  show (s.staged.filter fun x => !x.isImage).any Staged.isImage = false
  simp [List.any_filter]

theorem endLayout_regsBut (s : State) (code : Nat) : s.RegsBut (s.endLayout code) [.IMG_LAYOUT_CTRL_BUSY, .IMG_LAYOUT_CTRL_ERROR] :=
  State.RegsBut.wr (State.RegsBut.wr (fun _ _ _ _ _ => rfl) (by decide)) (by decide)

theorem State.Rejected.endLayout {t : State} {code frame hub n : Nat} (h : t.Rejected code frame hub) : (t.endLayout n).Rejected code frame hub := by
  have hk : ∀ f, f ∉ [Fld.IMG_LAYOUT_CTRL_BUSY, Fld.IMG_LAYOUT_CTRL_ERROR] → (t.endLayout n).rd f 0 0 0 = t.rd f 0 0 0 :=
    fun f hf => endLayout_regsBut t n f 0 0 0 hf
  obtain ⟨hb, hs, he, hf, hh⟩ := h
  exact ⟨(hk _ (by decide)).trans hb, (hk _ (by decide)).trans hs, (hk _ (by decide)).trans he, (hk _ (by decide)).trans hf, (hk _ (by decide)).trans hh⟩

theorem endLayout_imagesStaged {s : State} (h : s.imagesStaged = false) (code : Nat) : (s.endLayout code).imagesStaged = false := by
  show (s.staged.filter fun x => !x.isLayout).any Staged.isImage = false
  exact List.any_eq_false.mpr fun x hx => List.any_eq_false.mp h x (List.mem_of_mem_filter hx)

/-- The end of a layout switch starts no image where none is held. -/
theorem abortLayout_of_image_idle {s : State} {code : Nat} (h : s.rd .IMG_CTRL_BUSY 0 0 0 = 0) :
    s.abortLayout code = if s.layoutsStaged || s.rd .IMG_LAYOUT_CTRL_BUSY 0 0 0 == 1 then s.endLayout code else s := by
  unfold State.abortLayout
  split
  · refine startHeld_of_layout_idle ?_ (.inl ?_)
    · simp [State.endLayout, State.rd_wr]
    · exact (endLayout_regsBut s code _ 0 0 0 (by decide)).trans h
  · rfl

/-! ## The commands -/

section
variable {s : State}

/-- QUIESCE's own writes, before what it ends. -/
def State.writeQuiesce (s : State) (v : Nat) : State :=
  (s.wr .IMG_QUIESCE_PANES 0 0 0 v).wr .IMG_QUIESCED_PANES 0 0 0 (s.rd .IMG_QUIESCED_PANES 0 0 0 &&& v)

theorem exec_quiesce (hi : s.Idle) (v : Word) : exec (.quiesce v) s = .next (s.writeQuiesce v.toNat).quiesceLost :=
  congrArg Host.Outcome.next ((quiesceLost_restaged _).done (s := s.writeQuiesce v.toNat) hi)

/-- What QUIESCE ends leaves its own two fields as it wrote them. -/
theorem writeQuiesce_quiesceLost_panes (s : State) (v : Nat) : (s.writeQuiesce v).quiesceLost.rd .IMG_QUIESCE_PANES 0 0 0 = v ∧
    (s.writeQuiesce v).quiesceLost.rd .IMG_QUIESCED_PANES 0 0 0 = s.rd .IMG_QUIESCED_PANES 0 0 0 &&& v := by
  obtain ⟨-, hr⟩ := quiesceLost_restaged (s.writeQuiesce v)
  refine ⟨(hr _ 0 0 0 (by decide)).trans ?_, (hr _ 0 0 0 (by decide)).trans ?_⟩
  · rw [State.writeQuiesce, State.rd_wr_fld _ (by decide), State.rd_wr_self]
  · rw [State.writeQuiesce, State.rd_wr_self]

theorem exec_quiesced (hi : s.Idle) {n : PaneNo} (hq : (s.rd .IMG_QUIESCE_PANES 0 0 0).testBit n.val = true) (ho : Tab.get 0 s.outPane n.val = 0) :
    exec (.quiesced n) s = .next (s.wr .IMG_QUIESCED_PANES 0 0 0 (s.rd .IMG_QUIESCED_PANES 0 0 0 ||| 2 ^ n.val)) := by
  show Host.Outcome.next (s.quiesced n.val).done = _
  rw [State.quiesced, hq, ho, Bool.true_and, beq_self_eq_true, if_pos rfl, (State.RegsOnly.refl s).wr.done hi]

/-- GO with nothing staged or held. -/
theorem exec_imgGo (hi : s.Idle) (hs : s.staged = []) (hb : s.rd .IMG_CTRL_BUSY 0 0 0 = 0) : exec .imgGo s = .next s.beginPartial.startHeld := by
  have hw : s.writeImgCtrl 1 = .inl s.beginPartial.startHeld := by
    simp [State.writeImgCtrl, State.startImage, State.layoutsStaged, hs, hb]
  show Host.Outcome.next (s.settleWrite _ (s.writeImgCtrl 1)).done = _
  rw [hw]
  exact congrArg Host.Outcome.next (((beginPartial_restaged s).trans (startHeld_restaged _)).done hi)

/-- GO while an image is under way. -/
theorem exec_imgGo_busy (hi : s.Idle) (hb : s.rd .IMG_CTRL_BUSY 0 0 0 = 1) : exec .imgGo s = .next (s.accErr (svcAccess 0x1004 4) true 3) := by
  show Host.Outcome.next (s.settleWrite _ (s.writeImgCtrl 1)).done = _
  rw [State.writeImgCtrl, if_pos ⟨rfl, hb⟩]
  exact congrArg Host.Outcome.next ((s.accErr_regsOnly ..).done hi)

/-- GO of an image that is rejected. -/
theorem exec_imgGo_rejected {e : LoadErr} {hs : List (Nat × Nat)} (hi : s.Idle) (h0 : s.staged = []) (hb : s.rd .IMG_CTRL_BUSY 0 0 0 = 0)
    (hl : s.rd .IMG_LAYOUT_CTRL_BUSY 0 0 0 = 0) (he : s.beginPartial = s.rejectImage 1 e hs) :
    ∃ t : State, exec .imgGo s = .next t ∧ t.Rejected e.code e.frame e.hub ∧ t = { s with regs := t.regs } := by
  have hr := rejectImage_rejected s 1 e hs
  refine ⟨_, ?_, hr, (rejectImage_regsOnly s 1 e hs).eq⟩
  rw [exec_imgGo hi h0 hb, he, startHeld_of_layout_idle ((rejectImage_layoutBusy ..).trans hl) (.inl hr.1)]

/-- GO of an image that is staged. -/
theorem exec_imgGo_staged {c : RunCfg} {panes : Word} {cs : BitVec 32} {doors : List (Nat × Nat)} {hubs : List Nat} (hi : s.Idle) (h0 : s.staged = [])
    (hb : s.rd .IMG_CTRL_BUSY 0 0 0 = 0) (hl : s.rd .IMG_LAYOUT_CTRL_BUSY 0 0 0 = 0) (he : s.beginPartial = s.stageImage (.image c panes cs doors) hubs) :
    exec .imgGo s = .next (s.stageImage (.image c panes cs doors) hubs) := by
  have hl' : (s.stageImage (.image c panes cs doors) hubs).rd .IMG_LAYOUT_CTRL_BUSY 0 0 0 = 0 := by
    rw [stageImage_rd _ _ _ (by decide)]
    simp [State.imageState, State.rd_wr, hl]
  rw [exec_imgGo hi h0 hb, he, startHeld_of_layout_idle hl' (.inr (stageImage_imagesStaged ..))]

/-- ABORT ends the image; a staged layout switch ends too, and nothing held starts. -/
theorem exec_imgAbort (hi : s.Idle) (hs : s.imagesStaged = true) (hl : s.rd .IMG_LAYOUT_CTRL_BUSY 0 0 0 = 0) :
    ∃ t : State, exec .imgAbort s = .next t ∧ t.imagesStaged = false ∧ t.Rejected errAborted noFrame 0 ∧ s.Restaged t := by
  obtain ⟨hr, hn⟩ := endImage_ends errAborted hs hl
  refine ⟨_, congrArg Host.Outcome.next (((endImage_restaged s _).trans (abortLayout_restaged ..)).done hi), ?_, ?_,
    (endImage_restaged s _).trans (abortLayout_restaged ..)⟩
  · rw [abortLayout_of_image_idle hr.1]
    split
    · exact endLayout_imagesStaged hn _
    · exact hn
  · rw [abortLayout_of_image_idle hr.1]
    split
    · exact hr.endLayout
    · exact hr

end

/-- Settles O29: staging touches the staged changes and the fields that report on them, and each command ends in one of its cases. -/
theorem partialImagesAreStagedOrRejected : Obligations.PartialImagesAreStagedOrRejected := by
  refine ⟨fun s v hi => ?_, fun s n hi hq ho => exec_quiesced hi hq ho, fun s hi h0 hb hl => ⟨?_, ?_, ?_, ?_⟩, fun s hi hb => exec_imgGo_busy hi hb,
    fun s hi hs hl => ?_⟩
  · obtain ⟨hq, hd⟩ := writeQuiesce_quiesceLost_panes s v.toNat
    have hr := (quiesceLost_restaged (s.writeQuiesce v.toNat)).eq
    refine ⟨_, exec_quiesce hi v, hq, hd, by rw [hr]; rfl, by rw [hr]; rfl, by rw [hr]; rfl, fun h0 => ?_⟩
    rw [quiesceLost_of_no_staged (s := s.writeQuiesce v.toNat) h0]
    exact ⟨rfl, ((State.RegsBut.refl s _).wr (by decide)).wr (by decide)⟩
  · intro own c panes cs doors hubs hp ha hq
    refine ⟨_, exec_imgGo_staged hi h0 hb hl ((beginPartial_of_accepted hp ha).trans (if_pos hq)), stageImage_imagesStaged .., ?_⟩
    simp only [stageImage_rd _ _ _ (show Fld.IMG_CTRL_BUSY ∉ hubImageFlds by decide), stageImage_rd _ _ _ (show Fld.IMG_STATUS_STATE ∉ hubImageFlds by decide),
      stageImage_rd _ _ _ (show Fld.IMG_STATUS_KIND ∉ hubImageFlds by decide), State.imageState, State.rd_wr]
    exact ⟨rfl, rfl, rfl, (stageImage_restaged ..).eq⟩
  · intro e hs hp
    obtain ⟨t, ht, ⟨hbusy, hst, herr, hfr, hhub⟩, hreg⟩ := exec_imgGo_rejected hi h0 hb hl (beginPartial_of_bad_frames hp)
    exact ⟨t, ht, hbusy, hst, herr, hfr, hhub, hreg⟩
  · intro own e hp ha
    obtain ⟨t, ht, ⟨hbusy, hst, herr, hfr, hhub⟩, hreg⟩ := exec_imgGo_rejected hi h0 hb hl (beginPartial_of_bad_cfg hp ha)
    exact ⟨t, ht, hbusy, hst, herr, hfr, hhub, hreg⟩
  · intro own c panes cs doors hubs hp ha hq
    obtain ⟨t, ht, ⟨hbusy, hst, herr, -, -⟩, hreg⟩ := exec_imgGo_rejected hi h0 hb hl ((beginPartial_of_accepted hp ha).trans (if_neg (by simp [hq])))
    exact ⟨t, ht, hbusy, hst, herr, hreg⟩
  · obtain ⟨t, ht, hn, ⟨hbusy, hst, herr, -, -⟩, hr⟩ := exec_imgAbort hi hs hl
    exact ⟨t, ht, hn, hbusy, hst, herr, hr.eq⟩

end Sys2Proof.Machine
end

section
/-! SUPPORT. The commit of staged changes (R54, R55, R126): the tick that the last report sets, the layout switch that is staged, and what a commit replaces. -/

namespace Sys2Proof.Machine

/-! ## Ticks -/

/-- The report of one more hub on the only staged change: where every hub has then reported, its tick is set, 200 ticks ahead (log entry 47). -/
theorem targetReady_of_single {s : State} {x : Staged} {h : Nat} (hs : s.staged = [x]) (ht : x.tick = none) (hr : x.ready.contains h = false) :
    s.targetReady h = { s with staged :=
      [if s.hubs.all (fun g => (x.ready ++ [h]).contains g) then { x with ready := x.ready ++ [h], tick := some (s.now + 200) }
       else { x with ready := x.ready ++ [h] }] } := by
  have he : s.staged.map (fun x => if x.tick.isNone && !x.ready.contains h then { x with ready := x.ready ++ [h] } else x) =
      [{ x with ready := x.ready ++ [h] }] := by
    rw [hs, List.map_singleton, ht, hr]
    rfl
  unfold State.targetReady
  dsimp only
  rw [he]
  simp only [State.setTicks, List.map_singleton, ht, Option.isNone_none, Bool.true_and]
  rfl

theorem exec_targetReady {s : State} (hi : s.Idle) (h : Hub) : exec (.targetReady h) s = .next (s.targetReady h.val) :=
  congrArg Host.Outcome.next (done_of_idle (s := s.targetReady h.val) hi)

/-! ## A layout switch -/

/-- The register of the layout switch. -/
def layoutCtrl : RegAt := { reg := .IMG_LAYOUT_CTRL, d := 0, i := 0, j := 0 }

/-- The value that LAYOUT_SWITCH writes: the register's group and set, with GO. -/
theorem rwImage_layoutCtrl (s : State) :
    s.rwImage layoutCtrl = s.rd .IMG_LAYOUT_CTRL_GROUP 0 0 0 % 16 + s.rd .IMG_LAYOUT_CTRL_SET 0 0 0 % 4 * 16 := by
  have h : s.rwImage layoutCtrl = 0 + s.rd .IMG_LAYOUT_CTRL_GROUP 0 0 0 % 16 * 2 ^ 0 + s.rd .IMG_LAYOUT_CTRL_SET 0 0 0 % 4 * 2 ^ 4 := rfl
  omega

/-- GO is set in what LAYOUT_SWITCH writes, and its group and set read back as they are. -/
theorem layoutCtrl_write {g st : Nat} (hg : g < 16) (hs : st < 4) : (g % 16 + st % 4 * 16 + 2 ^ 8).testBit 8 = true ∧
    (g % 16 + st % 4 * 16 + 2 ^ 8) / 2 ^ 0 % 2 ^ 4 = g ∧ (g % 16 + st % 4 * 16 + 2 ^ 8) / 2 ^ 4 % 2 ^ 2 = st := by
  refine ⟨?_, by omega, by omega⟩
  rw [Nat.testBit_eq_decide_div_mod_eq]
  exact decide_eq_true (by omega)

/-- The write of LAYOUT_SWITCH leaves every field of the registers as it was. -/
theorem setFields_layoutCtrl_rd {s : State} (hg : s.rd .IMG_LAYOUT_CTRL_GROUP 0 0 0 < 16) (hs : s.rd .IMG_LAYOUT_CTRL_SET 0 0 0 < 4) (f : Fld) (d i j : Nat) :
    (s.setFields layoutCtrl .whole (s.rwImage layoutCtrl + 2 ^ 8)).rd f d i j = s.rd f d i j := by
  obtain ⟨-, hwg, hws⟩ := layoutCtrl_write hg hs
  have he : s.setFields layoutCtrl .whole (s.rwImage layoutCtrl + 2 ^ 8) =
      (s.wr .IMG_LAYOUT_CTRL_GROUP 0 0 0 ((s.rwImage layoutCtrl + 2 ^ 8) / 2 ^ 0 % 2 ^ 4)).wr .IMG_LAYOUT_CTRL_SET 0 0 0
        ((s.rwImage layoutCtrl + 2 ^ 8) / 2 ^ 4 % 2 ^ 2) := rfl
  rw [he, rwImage_layoutCtrl, hwg, hws, State.rd_wr, State.rd_wr]
  split
  · next h => obtain ⟨rfl, rfl, rfl, rfl⟩ := h; rfl
  · split
    · next h => obtain ⟨rfl, rfl, rfl, rfl⟩ := h; rfl
    · rfl

/-- A layout switch that passes its checks is staged, with BUSY 1. -/
theorem beginLayout_of_ready {s : State} (hl : (layoutIn s.layouts (s.rd .IMG_LAYOUT_CTRL_GROUP 0 0 0) (s.rd .IMG_LAYOUT_CTRL_SET 0 0 0)).isSome = true)
    (ha : s.activeSet (s.rd .IMG_LAYOUT_CTRL_GROUP 0 0 0) ≠ s.rd .IMG_LAYOUT_CTRL_SET 0 0 0)
    (hq : s.quiescedAll (s.switchPanes (s.rd .IMG_LAYOUT_CTRL_GROUP 0 0 0) (s.rd .IMG_LAYOUT_CTRL_SET 0 0 0)) = true) :
    s.beginLayout = ((s.wr .IMG_LAYOUT_CTRL_BUSY 0 0 0 1).wr .IMG_LAYOUT_CTRL_ERROR 0 0 0 0).stage
      (.layout (s.rd .IMG_LAYOUT_CTRL_GROUP 0 0 0) (s.rd .IMG_LAYOUT_CTRL_SET 0 0 0)) := by
  have hn : (layoutIn s.layouts (s.rd .IMG_LAYOUT_CTRL_GROUP 0 0 0) (s.rd .IMG_LAYOUT_CTRL_SET 0 0 0)).isNone = false := by
    rw [← Option.not_isSome, hl]
    rfl
  simp only [State.beginLayout, hn, ha, hq, if_false, Bool.false_eq_true, reduceCtorEq]

/-! ## A commit -/

theorem commit_of_none_due {s : State} (h : (∀ x ∈ s.staged, x.due s.now = false) ∨ s.hinge.step ≠ 0) : s.commit = s := by
  unfold State.commit
  rcases h with h | h
  · have he : s.staged.filter (fun x => x.due s.now) = [] := List.filter_eq_nil_iff.mpr fun x hx => by simp [h x hx]
    simp [he]
  · rw [if_pos h]

/-- The commit of the only staged change at its tick. -/
theorem commit_of_due {s : State} {x : Staged} (hs : s.staged = [x]) (hd : x.due s.now = true) (hh : s.hinge.step = 0) :
    s.commit = (({ s with staged := [] } : State).commitOne x).startHeld := by
  unfold State.commit
  simp [hs, hd, hh]

theorem exec_commitTick_of_none_due {s : State} (hi : s.Idle) (h : (∀ x ∈ s.staged, x.due s.now = false) ∨ s.hinge.step ≠ 0) :
    exec .commitTick s = .next s := by
  show Host.Outcome.next s.commit.done = _
  rw [commit_of_none_due h, done_of_idle hi]

/-! ## The commit of a layout switch -/

/-- A configuration with set st of group g active. -/
def RunCfg.withSet (c : RunCfg) (g st : Nat) : RunCfg := { c with activeSets := (c.activeSets.filter fun y => y.1 != g) ++ [(g, st)] }

theorem withSet_find (c : RunCfg) (g st k : Nat) :
    (c.withSet g st).activeSets.find? (fun x => x.1 = k) = if k = g then some (g, st) else c.activeSets.find? fun x => x.1 = k := by
  show ((c.activeSets.filter fun y => y.1 != g) ++ [(g, st)]).find? _ = _
  rw [List.find?_append, List.find?_filter]
  split
  · next h =>
    have hn : c.activeSets.find? (fun a => decide ((a.1 != g) = true ∧ decide (a.1 = k) = true)) = none :=
      List.find?_eq_none.mpr fun x _ => by simp [h]
    rw [hn]
    simp [h]
  · next h =>
    have hp : (fun a : Nat × Nat => decide ((a.1 != g) = true ∧ decide (a.1 = k) = true)) = fun a => decide (a.1 = k) := by
      funext a
      simp only [bne_iff_ne, decide_eq_true_eq, decide_eq_decide, and_iff_right_iff_imp]
      rintro rfl
      exact h
    have hl : [(g, st)].find? (fun a : Nat × Nat => decide (a.1 = k)) = none := by simp [Ne.symm h]
    rw [hp, hl, Option.or_none]

/-- What the commit of a layout switch leaves: the set active, and not busy. -/
def State.switched (s : State) (c : RunCfg) (g st : Nat) : State :=
  (({ s with staged := [], cfg := some (c.withSet g st) } : State).wr .IMG_LAYOUT_CTRL_BUSY 0 0 0 0).wr .IMG_LAYOUT_CTRL_ERROR 0 0 0 0

theorem switched_activeSet {s : State} {c : RunCfg} (hc : s.cfg = some c) (g st k : Nat) :
    (s.switched c g st).activeSet k = if k = g then st else s.activeSet k := by
  show (((c.withSet g st).activeSets.find? fun x => x.1 = k).map (·.2)).getD 0 = _
  rw [withSet_find, State.activeSet, hc]
  split <;> rfl

theorem switched_regsBut (s : State) (c : RunCfg) (g st : Nat) : s.RegsBut (s.switched c g st) [.IMG_LAYOUT_CTRL_BUSY, .IMG_LAYOUT_CTRL_ERROR] :=
  State.RegsBut.wr (State.RegsBut.wr (fun _ _ _ _ _ => rfl) (by decide)) (by decide)

theorem exec_commitTick_layout {s : State} {c : RunCfg} {g st n : Nat} {r : List Nat} (hi : s.Idle) (hc : s.cfg = some c)
    (hs : s.staged = [{ change := .layout g st, ready := r, tick := some n }]) (hb : s.rd .IMG_CTRL_BUSY 0 0 0 = 0) (hh : s.hinge.step = 0) (hn : n ≤ s.now) :
    exec .commitTick s = .next (s.switched c g st) := by
  have hone : ({ s with staged := [] } : State).commitOne { change := .layout g st, ready := r, tick := some n } = s.switched c g st := by
    simp only [State.commitOne, hc]
    rfl
  have hl : (s.switched c g st).rd .IMG_LAYOUT_CTRL_BUSY 0 0 0 = 0 := by
    rw [State.switched, State.rd_wr_fld _ (by decide), State.rd_wr_self]
  show Host.Outcome.next s.commit.done = _
  rw [commit_of_due hs (decide_eq_true hn) hh, hone,
    startHeld_of_layout_idle hl (.inl ((switched_regsBut s c g st _ 0 0 0 (by decide)).trans hb)), done_of_idle (s := s.switched c g st) hi]

/-! ## The commit of an image -/

/-- The fields that a committed image gives to its hubs and its slots. -/
def reloadFlds : List Fld :=
  [.HUB_IMG_STATUS_STATE, .LVR_SLOT_CFG_SRC_GROUP, .LVR_SLOT_CFG_CASEMENT, .LVR_SLOT_CFG_VALID, .LVR_SLOT_WINDOW_CYCLES, .LVR_BUDGET_UNITS, .LVR_URGENT_UNITS]

/-- Nothing but those fields, the slots and the pseudo-channels differs. -/
def State.Reloaded (s t : State) : Prop := (∃ R L P, t = { s with regs := R, louvres := L, pcs := P }) ∧ s.RegsBut t reloadFlds

theorem State.Reloaded.refl (s : State) : s.Reloaded s := ⟨⟨s.regs, s.louvres, s.pcs, rfl⟩, .refl s _⟩

theorem State.Reloaded.trans {s t u : State} (h : s.Reloaded t) (g : t.Reloaded u) : s.Reloaded u := by
  obtain ⟨⟨R, L, P, rfl⟩, hr⟩ := h
  obtain ⟨⟨Q, M, O, rfl⟩, gr⟩ := g
  exact ⟨⟨Q, M, O, rfl⟩, hr.trans gr⟩

theorem State.Reloaded.foldl {α : Type} {F : State → α → State} (hF : ∀ (t : State) (x : α), t.Reloaded (F t x)) (xs : List α) (s : State) :
    s.Reloaded (xs.foldl F s) := by
  induction xs generalizing s with
  | nil => exact .refl s
  | cons x xs ih => exact (hF s x).trans (ih _)

theorem State.Reloaded.wr {s t : State} (h : s.Reloaded t) {f : Fld} (hf : f ∈ reloadFlds) {d i j v : Nat} : s.Reloaded (t.wr f d i j v) :=
  h.trans ⟨⟨_, t.louvres, t.pcs, rfl⟩, (State.RegsBut.refl t _).wr hf⟩

theorem setLvr_reloaded (s : State) (h d k : Nat) (x : LouvreSt) : s.Reloaded (s.setLvr h d k x) := ⟨⟨s.regs, _, s.pcs, rfl⟩, fun _ _ _ _ _ => rfl⟩

theorem setPc_reloaded (s : State) (h p : Nat) (x : PcSt) : s.Reloaded (s.setPc h p x) := ⟨⟨s.regs, s.louvres, _, rfl⟩, fun _ _ _ _ _ => rfl⟩

theorem loadSlots_reloaded (s : State) (h d : Nat) (c : Option LouvreCfg) : s.Reloaded (s.loadSlots h d c) :=
  .foldl (fun t _ => .trans (((((((State.Reloaded.refl t).wr (by decide)).wr (by decide)).wr (by decide)).wr (by decide)).wr (by decide)).wr (by decide))
    (setLvr_reloaded ..)) _ s

theorem setModes_reloaded (s : State) : s.Reloaded s.setModes := by
  refine .foldl (fun t q => ?_) _ s
  unfold State.setMode
  dsimp only
  split
  · exact .refl t
  · exact setPc_reloaded ..

/-- The package's own part of a commit: the configuration, its identity, and not busy. -/
def State.takeCfg (s : State) (c : RunCfg) : State :=
  ((({ s with staged := [], cfg := some c } : State).imageState 3 1).wr .IMG_CTRL_BUSY 0 0 0 0).wr .IMG_ID_ID 0 0 0 c.id.toNat

theorem commitImage_reloaded (s : State) (c : RunCfg) (doors : List (Nat × Nat)) :
    (s.takeCfg c).Reloaded (({ s with staged := [] } : State).commitImage c doors) := by
  have hhub : (s.takeCfg c).Reloaded ((s.takeCfg c).hubs.foldl
      (fun t h => if t.rd .HUB_IMG_STATUS_STATE h 0 0 = 5 then t.wr .HUB_IMG_STATUS_STATE h 0 0 3 else t) (s.takeCfg c)) := by
    refine .foldl (fun t h => ?_) _ _
    split
    · exact (State.Reloaded.refl t).wr (by decide)
    · exact .refl t
  exact (hhub.trans (.foldl (fun t d => loadSlots_reloaded t ..) doors _)).trans (setModes_reloaded _)

theorem exec_commitTick_image {s : State} {c : RunCfg} {ps : Word} {cs : BitVec 32} {ds : List (Nat × Nat)} {n : Nat} {r : List Nat} (hi : s.Idle)
    (hs : s.staged = [{ change := .image c ps cs ds, ready := r, tick := some n }]) (hl : s.rd .IMG_LAYOUT_CTRL_BUSY 0 0 0 = 0) (hh : s.hinge.step = 0)
    (hn : n ≤ s.now) : ∃ t, exec .commitTick s = .next t ∧ (s.takeCfg c).Reloaded t := by
  have hr := commitImage_reloaded s c ds
  refine ⟨_, ?_, hr⟩
  obtain ⟨⟨R, L, P, he⟩, hk⟩ := hr
  have hlay : (({ s with staged := [] } : State).commitImage c ds).rd .IMG_LAYOUT_CTRL_BUSY 0 0 0 = 0 := by
    rw [hk _ 0 0 0 (by decide)]
    exact Eq.trans (by simp [State.takeCfg, State.imageState, State.rd_wr]; rfl) hl
  have himg : (({ s with staged := [] } : State).commitImage c ds).rd .IMG_CTRL_BUSY 0 0 0 = 0 := by
    rw [hk _ 0 0 0 (by decide), State.takeCfg, State.rd_wr_fld _ (by decide), State.rd_wr_self]
  show Host.Outcome.next s.commit.done = _
  rw [commit_of_due hs (decide_eq_true hn) hh]
  show Host.Outcome.next ((({ s with staged := [] } : State).commitImage c ds).startHeld).done = _
  rw [startHeld_of_layout_idle hlay (.inl himg), he]
  exact congrArg Host.Outcome.next (done_of_idle hi)

/-! ## LAYOUT_SWITCH -/

/-- A staged layout switch starts no held change where no image is held. -/
theorem startHeld_of_layout_staged {s : State} (hl : s.layoutsStaged = true) (hb : s.rd .IMG_CTRL_BUSY 0 0 0 = 0) : s.startHeld = s := by
  unfold State.startHeld
  simp [hl, hb]

theorem stage_layoutsStaged (s : State) (g st : Nat) : (s.stage (.layout g st)).layoutsStaged = true := by
  simp [State.stage, State.layoutsStaged, Staged.isLayout]

/-- A layout switch staged, with BUSY 1. -/
def State.stageLayout (s : State) (g st : Nat) : State := ((s.wr .IMG_LAYOUT_CTRL_BUSY 0 0 0 1).wr .IMG_LAYOUT_CTRL_ERROR 0 0 0 0).stage (.layout g st)

theorem stageLayout_regsBut (s : State) (g st : Nat) : s.RegsBut (s.stageLayout g st) [.IMG_LAYOUT_CTRL_BUSY, .IMG_LAYOUT_CTRL_ERROR] :=
  ((State.RegsBut.refl s _).wr (by decide)).wr (by decide)

section
variable {s : State} {g st : Nat} (hi : s.Idle) (hn : s.imagesStaged = false) (hl : s.rd .IMG_LAYOUT_CTRL_BUSY 0 0 0 = 0)
  (hb : s.rd .IMG_CTRL_BUSY 0 0 0 = 0) (hg : s.rd .IMG_LAYOUT_CTRL_GROUP 0 0 0 = g) (hs : s.rd .IMG_LAYOUT_CTRL_SET 0 0 0 = st)
  (hx : (layoutIn s.layouts g st).isSome = true) (ha : s.activeSet g ≠ st) (hq : s.quiescedAll (s.switchPanes g st) = true)
include hn hb hg hs hx ha hq

theorem startLayout_of_ready : s.startLayout = s.stageLayout g st := by
  subst hg hs
  rw [State.startLayout, if_neg (by simp [hn]), beginLayout_of_ready hx ha hq]
  exact startHeld_of_layout_staged (stage_layoutsStaged ..) ((stageLayout_regsBut s _ _ _ 0 0 0 (by decide)).trans hb)

include hi hl

/-- LAYOUT_SWITCH of a set that exists and is not active, its panes quiesced and no image staged or held: the write itself leaves every register as it reads. -/
theorem exec_layoutSwitch (hg4 : g < 16) (hs2 : st < 4) : ∃ R : RegFile, (∀ f d i j, ({ s with regs := R } : State).rd f d i j = s.rd f d i j) ∧
    exec .layoutSwitch s = .next (({ s with regs := R } : State).stageLayout g st) := by
  have hrd := setFields_layoutCtrl_rd (hg.trans_lt hg4) (hs.trans_lt hs2)
  have hbit : (s.rwImage layoutCtrl + 2 ^ 8).testBit 8 = true := by
    rw [rwImage_layoutCtrl, hg, hs]
    exact (layoutCtrl_write hg4 hs2).1
  obtain ⟨R, hR⟩ : s.RegsOnly (s.setFields layoutCtrl .whole (s.rwImage layoutCtrl + 2 ^ 8)) := setRows_regsOnly _ _ (by decide) s
  rw [hR] at hrd
  refine ⟨R, hrd, ?_⟩
  have hw : s.writeLayoutCtrl layoutCtrl (s.rwImage layoutCtrl + 2 ^ 8) = .inl (({ s with regs := R } : State).stageLayout g st) := by
    have hq' : ({ s with regs := R } : State).quiescedAll (s.switchPanes g st) = true := by
      rw [State.quiescedAll, hrd]
      exact hq
    simp only [State.writeLayoutCtrl, hbit, hl, hR, Bool.true_and, if_true, (by decide : ((0 : Nat) == 1) = false), Bool.false_eq_true, if_false]
    exact congrArg Sum.inl (startLayout_of_ready (s := { s with regs := R }) hn ((hrd ..).trans hb) ((hrd ..).trans hg) ((hrd ..).trans hs) hx ha hq')
  show Host.Outcome.next (s.settleWrite _ (s.writeLayoutCtrl layoutCtrl (s.rwImage layoutCtrl + 2 ^ 8))).done = _
  rw [hw]
  exact congrArg Host.Outcome.next (done_of_idle (s := ({ s with regs := R } : State).stageLayout g st) hi)

end

/-- Settles O30: reports and switches change what is staged, and a commit replaces the active set or the running configuration. -/
theorem stagedChangesCommitAtTheirTick : Obligations.StagedChangesCommitAtTheirTick := by
  refine ⟨fun s x h hi hs ht hr => ⟨fun hall => ?_, fun ⟨g, hg, hne, hgr⟩ => ?_⟩, fun s hi hn hl hb hg hst hx ha hq => ?_,
    fun s c g st n r hi hc hs hb => ⟨fun hh hn => ?_, fun hlate => ?_⟩, fun s hi h => exec_commitTick_of_none_due hi h,
    fun s c ps cs ds n r hi hs hl hh hn => ?_⟩
  · have ha : s.hubs.all (fun g => (x.ready ++ [h.val]).contains g) = true :=
      List.all_eq_true.mpr fun g hg => by simpa [or_comm] using hall g hg
    rw [exec_targetReady hi, targetReady_of_single hs ht hr, ha]
    rfl
  · have ha : s.hubs.all (fun g => (x.ready ++ [h.val]).contains g) = false :=
      List.all_eq_false.mpr ⟨g, hg, by simpa [hne] using hgr⟩
    rw [exec_targetReady hi, targetReady_of_single hs ht hr, ha]
    rfl
  · obtain ⟨R, hR, he⟩ := exec_layoutSwitch hi hn hl hb rfl rfl hx ha hq hg hst
    refine ⟨_, he, ?_, State.rd_wr_self .., rfl, fun f d i j hf => (stageLayout_regsBut _ _ _ f d i j hf).trans (hR f d i j), rfl⟩
    exact (State.rd_wr_fld _ (by decide)).trans (State.rd_wr_self ..)
  · refine ⟨_, exec_commitTick_layout hi hc hs hb hh hn, by rw [switched_activeSet hc, if_pos rfl], fun k hk => by rw [switched_activeSet hc, if_neg hk], ?_,
      rfl, ?_, State.rd_wr_self .., switched_regsBut s c g st, rfl⟩
    · rw [State.frames, State.frames, hc]
      rfl
    · exact (State.rd_wr_fld _ (by decide)).trans (State.rd_wr_self ..)
  · refine exec_commitTick_of_none_due hi (hlate.imp_left fun hlt x hx => ?_)
    rw [hs, List.mem_singleton] at hx
    rw [hx]
    exact decide_eq_false (Nat.not_le.mpr hlt)
  · obtain ⟨t, he, ⟨R, L, P, rfl⟩, hk⟩ := exec_commitTick_image hi hs hl hh hn
    refine ⟨_, he, rfl, rfl, (hk _ 0 0 0 (by decide)).trans ?_, (hk _ 0 0 0 (by decide)).trans ?_, (hk _ 0 0 0 (by decide)).trans ?_, rfl, rfl, rfl⟩ <;>
    simp [State.takeCfg, State.imageState, State.rd_wr]

end Sys2Proof.Machine
end

section
/-! SUPPORT. How the memory of a package without panes is followed through loops, branches and results. -/

namespace Sys2Proof.Machine

/-- The memory of the stacks, on a package whose configuration names no pane; nothing otherwise. -/
def unmappedMem (c : Option RunCfg) (m : List Host.Cell) : Option (List Host.Cell) :=
  if c.isSome && ({ State.reset with cfg := c } : State).panes.isEmpty then some m else none

/-- That memory of a state. simp spells it out in the configuration and the memory, so that an update of other parts of the state falls away. -/
@[reducible] def State.unmapped (s : State) : Option (List Host.Cell) := unmappedMem s.cfg s.mem

@[simp] theorem State.unmapped_eq (s : State) : s.unmapped = unmappedMem s.cfg s.mem := rfl

/-- A function of the state that keeps that memory: what a loop asks of each round, and a command of its own work. -/
def KeepsUnmapped (f : State → State) : Prop := ∀ s, (f s).unmapped = s.unmapped

@[simp] theorem keepsUnmapped_iff (f : State → State) : KeepsUnmapped f ↔ ∀ s, (f s).unmapped = s.unmapped := by rw [KeepsUnmapped]

@[simp] theorem foldl_unmapped {α : Type} (f : State → α → State) (l : List α) (s : State) (h : ∀ x, KeepsUnmapped (f · x)) :
    (l.foldl f s).unmapped = s.unmapped := by
  induction l generalizing s with
  | nil => rfl
  | cons x t ih => exact (ih _).trans (h x s)

theorem foldl_fst_unmapped {α β : Type} {f : State × β → α → State × β} (h : ∀ r x, (f r x).1.unmapped = r.1.unmapped) (l : List α) (r : State × β) :
    (l.foldl f r).1.unmapped = r.1.unmapped := by
  induction l generalizing r with
  | nil => rfl
  | cons x t ih => exact (ih _).trans (h r x)

@[simp] theorem State.unmapped_ite (c : Prop) [Decidable c] (s t : State) : (if c then s else t).unmapped = if c then s.unmapped else t.unmapped :=
  apply_ite _ _ _ _

@[simp] theorem fst_unmapped_ite {α : Type} (c : Prop) [Decidable c] (p q : State × α) :
    (if c then p else q).1.unmapped = if c then p.1.unmapped else q.1.unmapped :=
  apply_ite (fun p : State × α => p.1.unmapped) _ _ _

theorem unmapped_of_pair {α : Type} {s t : State} {p : State × α} {a : α} (h : p = (t, a)) (hp : p.1.unmapped = s.unmapped) : t.unmapped = s.unmapped := by
  rw [← hp, h]

end Sys2Proof.Machine
end

section
/-! SUPPORT. The memory of a package without panes, on the way from a door to a stack (R113): none of these operations writes it. -/

namespace Sys2Proof.Machine

/-! ## Parts and registers -/

@[simp] theorem State.syncSet_unmapped (s : State) (c k v : Nat) : (s.syncSet c k v).unmapped = s.unmapped := by simp [State.syncSet]
@[simp] theorem State.count_unmapped (s : State) (f : Fld) (top d i j n : Nat) : (s.count f top d i j n).unmapped = s.unmapped := by simp [State.count]
@[simp] theorem State.orBits_unmapped (s : State) (f : Fld) (d i j n : Nat) : (s.orBits f d i j n).unmapped = s.unmapped := by simp [State.orBits]
@[simp] theorem State.setBit_unmapped (s : State) (f : Fld) (d i j b : Nat) : (s.setBit f d i j b).unmapped = s.unmapped := by simp [State.setBit]
@[simp] theorem State.flag_unmapped (s : State) (f : Fld) (d i j : Nat) : (s.flag f d i j).unmapped = s.unmapped := by simp [State.flag]
@[simp] theorem State.mapPcs_unmapped (s : State) (h : Nat) (f : PcSt → PcSt) : (s.mapPcs h f).unmapped = s.unmapped := by simp [State.mapPcs]
@[simp] theorem State.beginReq_unmapped (s : State) (r : Req) : (s.beginReq r).1.unmapped = s.unmapped := by simp [State.beginReq]
@[simp] theorem State.endReq_unmapped (s : State) (r : Req) : (s.endReq r).unmapped = s.unmapped := by simp [State.endReq]

@[simp] theorem State.finish_unmapped (s : State) (r : Req) (st : Status) (data : Block) (poison pkind : BitVec 8) :
    (s.finish r st data poison pkind).unmapped = s.unmapped := s.endReq_unmapped r

@[simp] theorem State.finishBare_unmapped (s : State) (r : Req) (st : Status) : (s.finishBare r st).unmapped = s.unmapped := by simp [State.finishBare]

/-! ## Counters and trace -/

@[simp] theorem State.counterUp_unmapped (s : State) (bank k n : Nat) : (s.counterUp bank k n).unmapped = s.unmapped := by simp [State.counterUp]

@[simp] theorem State.tally_unmapped (s : State) (bank ev : Nat) (unit : Option Nat) (subs : List Nat) (cas : Option Nat) (n : Nat) :
    (s.tally bank ev unit subs cas n).unmapped = s.unmapped := by
  simp [State.tally]

@[simp] theorem State.pushTrace_unmapped (s : State) (h : Nat) (r : TraceRec) : (s.pushTrace h r).unmapped = s.unmapped := by simp [State.pushTrace]

@[simp] theorem State.traceHub_unmapped (s : State) (h typ cas unit : Nat) (payload : List Nat) : (s.traceHub h typ cas unit payload).unmapped = s.unmapped := by
  simp [State.traceHub]

/-! ## Stored-data protection -/

@[simp] theorem State.logPut_unmapped (s : State) (h e : Nat) (x : LogEnt) : (s.logPut h e x).unmapped = s.unmapped := by simp [State.logPut]
@[simp] theorem State.logDrop_unmapped (s : State) (h : Nat) : (s.logDrop h).unmapped = s.unmapped := by simp [State.logDrop]

@[simp] theorem State.logEvent_unmapped (s : State) (h : Nat) (ev : LogEnt) : (s.logEvent h ev).unmapped = s.unmapped := by
  simp only [State.logEvent]
  (repeat' split) <;> simp

@[simp] theorem State.bucketUp_unmapped (s : State) (h p : Nat) (policy : Bool) : (s.bucketUp h p policy).unmapped = s.unmapped := by simp [State.bucketUp]

@[simp] theorem State.noteRead_unmapped (s : State) (r : Req) (n : Nat) (o : SectorOutcome) : (s.noteRead r n o).unmapped = s.unmapped := by
  unfold State.noteRead
  split <;> simp

@[simp] theorem State.noteMerge_unmapped (s : State) (r : Req) (n : Nat) (o : SectorOutcome) : (s.noteMerge r n o).unmapped = s.unmapped := by
  unfold State.noteMerge
  split <;> simp

/-! ## Addresses -/

@[simp] theorem State.recordRefusal_unmapped (s : State) (h door : Nat) (r : Req) (x : DecodeRefusal) : (s.recordRefusal h door r x).unmapped = s.unmapped := by
  unfold State.recordRefusal
  split <;> simp

/-! ## The ring, doors and arbiters -/

@[simp] theorem State.sendDoor_unmapped (s : State) (h d : Nat) (r : Req) : (s.sendDoor h d r).unmapped = s.unmapped := by simp [State.sendDoor]
@[simp] theorem State.dispatchReq_unmapped (s : State) (door : Nat) (r : Req) : (s.dispatchReq door r).unmapped = s.unmapped := by simp [State.dispatchReq]
@[simp] theorem State.writePrio_unmapped (s : State) (h n v : Nat) : (s.writePrio h n v).unmapped = s.unmapped := by simp [State.writePrio]
@[simp] theorem State.maskDoor_unmapped (s : State) (h d : Nat) : (s.maskDoor h d).unmapped = s.unmapped := by simp [State.maskDoor]

@[simp] theorem State.dropDoor_unmapped (s : State) (h d : Nat) (gone : Req → Bool) (st : Status) :
    (s.dropDoor h d gone st).unmapped = s.unmapped := by simp [State.dropDoor]

@[simp] theorem State.endDeadLatch_unmapped (s : State) (h p : Nat) : (s.endDeadLatch h p).unmapped = s.unmapped := by
  unfold State.endDeadLatch
  split <;> simp

@[simp] theorem State.dropTransit_unmapped (s : State) (h d : Nat) (st : Status) : (s.dropTransit h d st).unmapped = s.unmapped := by simp [State.dropTransit]

@[simp] theorem State.dropDoors_unmapped (s : State) (h : Nat) (gone : Req → Bool) (st : Status) :
    (s.dropDoors h gone st).unmapped = s.unmapped := by simp [State.dropDoors]

@[simp] theorem State.dropRing_unmapped (s : State) (h : Nat) (gone : Req → Bool) (st : Status) :
    (s.dropRing h gone st).unmapped = s.unmapped := by simp [State.dropRing]

/-! ## The pseudo-channel controller -/

@[simp] theorem State.debugCmd_unmapped (s : State) (h p : Nat) (v : Word) : (s.debugCmd h p v).unmapped = s.unmapped := by simp [State.debugCmd]

/-! ## Training -/

@[simp] theorem State.setTrim_unmapped (s : State) (h p lane hp : Nat) (x : TrimRec) : (s.setTrim h p lane hp x).unmapped = s.unmapped := by simp [State.setTrim]
@[simp] theorem State.useTrims_unmapped (s : State) (h p hp : Nat) : (s.useTrims h p hp).unmapped = s.unmapped := by simp [State.useTrims]

@[simp] theorem State.writeTrimRec_unmapped (s : State) (h p lane hp : Nat) (x : TrimRec) :
    (s.writeTrimRec h p lane hp x).unmapped = s.unmapped := by simp [State.writeTrimRec]

@[simp] theorem State.trnStart_unmapped (s : State) (h p phase : Nat) : (s.trnStart h p phase).unmapped = s.unmapped := by simp [State.trnStart]

end Sys2Proof.Machine
end

section
/-! SUPPORT. That memory under signals, images, hinges and heat: a store reaches the stacks through a pane alone (R113). -/

namespace Sys2Proof.Machine

/-! ## Signals, queues and traffic made in one step -/

@[simp] theorem State.signal_unmapped (s : State) (f vec : Nat) : (s.signal f vec).unmapped = s.unmapped := by
  unfold State.signal
  split <;> simp

@[simp] theorem State.fnEvent_unmapped (s : State) (f : Nat) (e : FnEvent) : (s.fnEvent f e).unmapped = s.unmapped := by simp [State.fnEvent]
@[simp] theorem State.qwr_unmapped (s : State) (q : QueueId) (f : Fld) (v : Nat) : (s.qwr q f v).unmapped = s.unmapped := by simp [State.qwr]
@[simp] theorem State.setCmd_unmapped (s : State) (q : QueueId) (c : Cmd) : (s.setCmd q c).unmapped = s.unmapped := by simp [State.setCmd]

@[simp] theorem State.signalQueue_unmapped (s : State) (q : QueueId) : (s.signalQueue q).unmapped = s.unmapped := by
  unfold State.signalQueue
  split <;> simp

@[simp] theorem State.stopQueue_unmapped (s : State) (q : QueueId) (st : Status) : (s.stopQueue q st).unmapped = s.unmapped := by simp [State.stopQueue]

@[simp] theorem State.endCmd_unmapped (s : State) (q : QueueId) (idx : Nat) (st : Status) : (s.endCmd q idx st).unmapped = s.unmapped := by
  unfold State.endCmd
  split <;> simp

@[simp] theorem State.endCmdWith_unmapped (s : State) (q : QueueId) (idx : Nat) (st : Status) (detail : Nat) :
    (s.endCmdWith q idx st detail).unmapped = s.unmapped := by
  unfold State.endCmdWith
  split <;> simp

@[simp] theorem State.coverPending_unmapped (s : State) (pl : Place) (m : BitVec 32) : (s.coverPending pl m).unmapped = s.unmapped := by simp [State.coverPending]

@[simp] theorem State.pass_unmapped (s : State) (v : Via) (r : Req) (first : Bool) : (s.pass v r first).unmapped = s.unmapped := by
  unfold State.pass
  (repeat' split) <;> simp

@[simp] theorem State.fetchSector_unmapped (s : State) (v : Via) (addr : Nat) (first : Bool) : (s.fetchSector v addr first).1.unmapped = s.unmapped := by
  simp only [State.fetchSector]
  (repeat' split) <;> simp

@[simp] theorem State.fetchMore_unmapped (s : State) (v : Via) (n addr : Nat) (first : Bool) : (s.fetchMore v n addr first).1.unmapped = s.unmapped := by
  induction n generalizing s addr first with
  | zero => rfl
  | succ n ih => simp [State.fetchMore, ih]

@[simp] theorem State.fetchSectors_unmapped (s : State) (v : Via) (n addr : Nat) : (s.fetchSectors v n addr).1.unmapped = s.unmapped := by simp [State.fetchSectors]
@[simp] theorem State.fetchBlock_unmapped (s : State) (v : Via) (addr : Nat) : (s.fetchBlock v addr).1.unmapped = s.unmapped := by simp [State.fetchBlock]

/-- A request that decodes lies in a pane. -/
theorem unmapped_of_decode {s : State} {h : Nat} {o : Offer} {r : Req} (hr : s.decode h o = .inr r) : s.unmapped = none := by
  have hp : s.panes ≠ [] := by
    intro h0
    have hn : s.panesAt o.r.addr = [] := by simp [State.panesAt, h0]
    simp [State.decode, hn] at hr
  have he : s.panes.isEmpty = false := by simpa using hp
  show (if s.cfg.isSome && s.panes.isEmpty then some s.mem else none) = none
  simp [he]

theorem storeWord_unmapped_none {s : State} (h : s.unmapped = none) (key : Nat) (data : BitVec 256) (chk : BitVec 32) :
    (s.storeWord key data chk).unmapped = none := by
  unfold State.unmapped unmappedMem at h ⊢
  show (if s.cfg.isSome && ({ State.reset with cfg := s.cfg } : State).panes.isEmpty then _ else none) = none
  split
  · next hc => simp [hc] at h
  · rfl

theorem pokeSector_unmapped_none {s : State} (h : s.unmapped = none) (pl : Place) (data : BitVec 256) (m : BitVec 32) :
    (s.pokeSector pl data m).1.unmapped = none := by
  have hcov : ∀ x, (s.coverPending pl x).unmapped = none := fun x => (s.coverPending_unmapped pl x).trans h
  unfold State.pokeSector
  dsimp only
  split
  · exact storeWord_unmapped_none (hcov _) ..
  · split <;> exact storeWord_unmapped_none (hcov _) ..

/-- A store reaches the stacks through a pane alone. -/
@[simp] theorem State.storeBytes_unmapped (s : State) (v : Via) (addr : Nat) (data : BitVec 256) (m : BitVec 32) (bad first : Bool) :
    (s.storeBytes v addr data m bad first).1.unmapped = s.unmapped := by
  unfold State.storeBytes
  split
  · simp
  · next r hr =>
    have h : s.unmapped = none := unmapped_of_decode hr
    have hp : (s.pass v r first).unmapped = none := (s.pass_unmapped v r first).trans h
    rw [h]
    dsimp only
    split
    · exact storeWord_unmapped_none ((State.coverPending_unmapped ..).trans hp) ..
    · refine pokeSector_unmapped_none ?_ ..
      split
      · exact hp
      · exact (State.noteMerge_unmapped ..).trans hp

@[simp] theorem State.storeBlockN_unmapped (s : State) (v : Via) (addr : Nat) (data : Block) (marks : BitVec 8) (n : Nat) :
    (s.storeBlockN v addr data marks n).1.unmapped = s.unmapped := by
  induction n with
  | zero => rfl
  | succ n ih => simp [State.storeBlockN, ih]

@[simp] theorem State.storeBlock_unmapped (s : State) (v : Via) (addr : Nat) (data : Block) (marks : BitVec 8) :
    (s.storeBlock v addr data marks).1.unmapped = s.unmapped := by
  simp [State.storeBlock]

/-! ## The structure image -/

@[simp] theorem State.hubImage_unmapped (s : State) (h state code frame : Nat) : (s.hubImage h state code frame).unmapped = s.unmapped := by simp [State.hubImage]
@[simp] theorem State.imageState_unmapped (s : State) (state kind : Nat) : (s.imageState state kind).unmapped = s.unmapped := by simp [State.imageState]

@[simp] theorem State.imageStatus_unmapped (s : State) (state kind code frame hub : Nat) : (s.imageStatus state kind code frame hub).unmapped = s.unmapped := by
  simp [State.imageStatus]

@[simp] theorem State.rejectImage_unmapped (s : State) (kind : Nat) (e : LoadErr) (found : List (Nat × Nat)) : (s.rejectImage kind e found).unmapped = s.unmapped := by
  simp [State.rejectImage]

@[simp] theorem State.setTicks_unmapped (s : State) : (s.setTicks).unmapped = s.unmapped := by simp [State.setTicks]
@[simp] theorem State.stage_unmapped (s : State) (c : Change) : (s.stage c).unmapped = s.unmapped := by simp [State.stage]

@[simp] theorem State.beginPartial_unmapped (s : State) : (s.beginPartial).unmapped = s.unmapped := by
  simp only [State.beginPartial]
  (repeat' split) <;> simp

@[simp] theorem State.endLayout_unmapped (s : State) (code : Nat) : (s.endLayout code).unmapped = s.unmapped := by simp [State.endLayout]
@[simp] theorem State.beginLayout_unmapped (s : State) : (s.beginLayout).unmapped = s.unmapped := by simp [State.beginLayout]
@[simp] theorem State.startHeld_unmapped (s : State) : (s.startHeld).unmapped = s.unmapped := by simp [State.startHeld]
@[simp] theorem State.startImage_unmapped (s : State) : (s.startImage).unmapped = s.unmapped := by simp [State.startImage]
@[simp] theorem State.startLayout_unmapped (s : State) : (s.startLayout).unmapped = s.unmapped := by simp [State.startLayout]
@[simp] theorem State.endImage_unmapped (s : State) (code : Nat) : (s.endImage code).unmapped = s.unmapped := by simp [State.endImage]
@[simp] theorem State.abortLayout_unmapped (s : State) (code : Nat) : (s.abortLayout code).unmapped = s.unmapped := by simp [State.abortLayout]
@[simp] theorem State.abortStaged_unmapped (s : State) : (s.abortStaged).unmapped = s.unmapped := by simp [State.abortStaged]
@[simp] theorem State.abortFor_unmapped (s : State) (c : Nat) : (s.abortFor c).unmapped = s.unmapped := by simp [State.abortFor]
@[simp] theorem State.quiesceLost_unmapped (s : State) : (s.quiesceLost).unmapped = s.unmapped := by simp [State.quiesceLost]
@[simp] theorem State.quiesce_unmapped (s : State) (v : Nat) : (s.quiesce v).unmapped = s.unmapped := by simp [State.quiesce]

/-! ## Hinges and power states -/

@[simp] theorem State.hingeError_unmapped (s : State) (e : Nat) : (s.hingeError e).unmapped = s.unmapped := by simp [State.hingeError]

@[simp] theorem State.hingeRequest_unmapped (s : State) (t : Nat) : (s.hingeRequest t).unmapped = s.unmapped := by
  unfold State.hingeRequest
  split <;> simp

@[simp] theorem State.endHinges_unmapped (s : State) (l : List QueueId) (st : Status) : (s.endHinges l st).unmapped = s.unmapped :=
  foldl_unmapped _ _ _ fun q t => by dsimp only; split <;> simp

@[simp] theorem State.abandonHinge_unmapped (s : State) : (s.abandonHinge).unmapped = s.unmapped := by simp [State.abandonHinge]
@[simp] theorem State.pwrDone_unmapped (s : State) (st err : Nat) : (s.pwrDone st err).unmapped = s.unmapped := by simp [State.pwrDone]
@[simp] theorem State.compOff_unmapped (s : State) : (s.compOff).unmapped = s.unmapped := by simp [State.compOff]
@[simp] theorem State.pwrHinge_unmapped (s : State) (hp st : Nat) : (s.pwrHinge hp st).unmapped = s.unmapped := by simp [State.pwrHinge]

@[simp] theorem State.pwrProgress_unmapped (s : State) : (s.pwrProgress).unmapped = s.unmapped := by
  unfold State.pwrProgress
  split <;> simp

@[simp] theorem State.pwrRequest_unmapped (s : State) (st : Nat) : (s.pwrRequest st).unmapped = s.unmapped := by simp [State.pwrRequest]

/-! ## Ports, repairs and heat -/

@[simp] theorem State.shiftThrough_unmapped (s : State) (h st : Nat) (inp : List Byte) : (s.shiftThrough h st inp).unmapped = s.unmapped := by simp [State.shiftThrough]

@[simp] theorem State.portNext_unmapped (s : State) (h st : Nat) (gap : Bool) : (s.portNext h st gap).unmapped = s.unmapped := by
  simp only [State.portNext]
  (repeat' split) <;> simp

@[simp] theorem State.directAccess_unmapped (s : State) (h : Nat) (inp : List Byte) : (s.directAccess h inp).unmapped = s.unmapped := by simp [State.directAccess]

@[simp] theorem State.cutRepairs_unmapped (s : State) : s.cutRepairs.unmapped = s.unmapped :=
  foldl_unmapped _ _ _ fun x t => by dsimp only; split <;> simp

end Sys2Proof.Machine
end

section
/-! SUPPORT. That memory under the engines, the cores and the fabric. -/

namespace Sys2Proof.Machine

/-! ## Queues, MOVE and HUB commands -/

@[simp] theorem State.ringDoorbell_unmapped (s : State) (q : QueueId) (v : Nat) : (s.ringDoorbell q v).unmapped = s.unmapped := by simp [State.ringDoorbell]
@[simp] theorem State.cplDoorbell_unmapped (s : State) (q : QueueId) (v : Nat) : (s.cplDoorbell q v).unmapped = s.unmapped := by simp [State.cplDoorbell]
@[simp] theorem State.enableQueue_unmapped (s : State) (q : QueueId) : (s.enableQueue q).unmapped = s.unmapped := by simp [State.enableQueue]
@[simp] theorem State.restartQueue_unmapped (s : State) (q : QueueId) : (s.restartQueue q).unmapped = s.unmapped := by simp [State.restartQueue]
@[simp] theorem State.syncAdd_unmapped (s : State) (c k v : Nat) : (s.syncAdd c k v).unmapped = s.unmapped := by simp [State.syncAdd]

@[simp] theorem State.offer_unmapped (s : State) (h door : Nat) (r : Req) (ovr : Option Nat) (may : Bool) : (s.offer h door r ovr may).1.unmapped = s.unmapped := by
  unfold State.offer
  split <;> simp

@[simp] theorem State.moveWrite_unmapped (s : State) (q : QueueId) (c : Cmd) (k : Nat) (data : Block) (poison : BitVec 8) :
    (s.moveWrite q c k data poison).unmapped = s.unmapped := by
  simp only [State.moveWrite]
  split
  · simp
  · split <;> next ho => simp [unmapped_of_pair ho (State.offer_unmapped ..)]

@[simp] theorem State.endIfDone_unmapped (s : State) (q : QueueId) (idx total : Nat) : (s.endIfDone q idx total).unmapped = s.unmapped := by
  unfold State.endIfDone
  split <;> simp

@[simp] theorem State.moveIssue_unmapped (s : State) (q : QueueId) (c : Cmd) : (s.moveIssue q c).unmapped = s.unmapped := by
  simp only [State.moveIssue]
  split
  · split
    · simp
    · split <;> next ho => simp [unmapped_of_pair ho (State.offer_unmapped ..)]
  · exact (State.moveWrite_unmapped ..).trans (State.setCmd_unmapped ..)

@[simp] theorem State.movePump1_unmapped (s : State) (q : QueueId) : (s.movePump1 q).unmapped = s.unmapped := by
  simp only [State.movePump1]
  (repeat' split) <;> simp

@[simp] theorem State.movePumpN_unmapped (s : State) (q : QueueId) (n : Nat) : (s.movePumpN q n).unmapped = s.unmapped := by
  induction n generalizing s with
  | zero => rfl
  | succ n ih => simp [State.movePumpN, ih]

@[simp] theorem State.movePump_unmapped (s : State) (q : QueueId) : (s.movePump q).unmapped = s.unmapped := by simp [State.movePump]

@[simp] theorem State.moveData_unmapped (s : State) (q : QueueId) (idx k : Nat) (st : Status) (data : Block) (poison : BitVec 8) :
    (s.moveData q idx k st data poison).unmapped = s.unmapped := by
  unfold State.moveData
  split <;> simp

@[simp] theorem State.moveWritten_unmapped (s : State) (q : QueueId) (idx k : Nat) (st : Status) : (s.moveWritten q idx k st).unmapped = s.unmapped := by
  unfold State.moveWritten
  split <;> simp

@[simp] theorem State.scrubPump1_unmapped (s : State) (q : QueueId) (idx : Nat) : (s.scrubPump1 q idx).unmapped = s.unmapped := by
  unfold State.scrubPump1
  split
  · rfl
  · dsimp only
    split
    · split
      · simp
      · split <;> next ho => simp [unmapped_of_pair ho (State.offer_unmapped ..)]
    · rfl

@[simp] theorem State.scrubPumpN_unmapped (s : State) (q : QueueId) (idx n : Nat) : (s.scrubPumpN q idx n).unmapped = s.unmapped := by
  induction n generalizing s with
  | zero => rfl
  | succ n ih => simp [State.scrubPumpN, ih]

@[simp] theorem State.scrubPump_unmapped (s : State) (q : QueueId) (idx : Nat) : (s.scrubPump q idx).unmapped = s.unmapped := by
  unfold State.scrubPump
  split <;> simp

@[simp] theorem State.scrubRead_unmapped (s : State) (q : QueueId) (idx k : Nat) (st : Status) : (s.scrubRead q idx k st).unmapped = s.unmapped := by
  unfold State.scrubRead
  split <;> simp

/-! ## The matrix cores -/

@[simp] theorem State.stopKernel_unmapped (s : State) (x : KernelSt) (st : Status) : (s.stopKernel x st).unmapped = s.unmapped := by simp [State.stopKernel]

@[simp] theorem State.recordFault_unmapped (s : State) (p : CorePos) (st : Status) (ip : Nat) :
    (s.recordFault p st ip).unmapped = s.unmapped := by simp [State.recordFault]

@[simp] theorem State.sendUp_unmapped (s : State) (d : Nat) (m : AkReq) : (s.sendUp d m).unmapped = s.unmapped := by simp [State.sendUp]

@[simp] theorem State.sendStream_unmapped (s : State) (p : CorePos) : (s.sendStream p).unmapped = s.unmapped := by
  simp only [State.sendStream]
  (repeat' split) <;> simp

@[simp] theorem State.endStream_unmapped (s : State) (p : CorePos) (tag : Nat) : (s.endStream p tag).unmapped = s.unmapped := by simp [State.endStream]

@[simp] theorem State.streamAnswer_unmapped (s : State) (p : CorePos) (tag : Nat) (st : Status) (data : Block) (marks pkind : BitVec 8) :
    (s.streamAnswer p tag st data marks pkind).unmapped = s.unmapped := by
  simp only [State.streamAnswer]
  (repeat' split) <;> simp

/-! ## Pools and pages -/

@[simp] theorem State.pteRead_unmapped (s : State) (h : Nat) (cls : ReqClass) (cas pt n : Nat) : (s.pteRead h cls cas pt n).1.unmapped = s.unmapped := by
  simp only [State.pteRead]
  (repeat' split) <;> simp

@[simp] theorem State.ptcDrop_unmapped (s : State) (line : Nat) : (s.ptcDrop line).unmapped = s.unmapped := by simp [State.ptcDrop]

@[simp] theorem State.pteWrite_unmapped (s : State) (h : Nat) (cls : ReqClass) (cas pt n : Nat) (e : Pte) : (s.pteWrite h cls cas pt n e).1.unmapped = s.unmapped := by
  simp [State.pteWrite]

@[simp] theorem State.sendPacket_unmapped (s : State) (h : Nat) (p : Packet) : (s.sendPacket h p).unmapped = s.unmapped := by simp [State.sendPacket]
@[simp] theorem State.sendFetch_unmapped (s : State) (x : PoolSt) (c : CopySt) : (s.sendFetch x c).unmapped = s.unmapped := by simp [State.sendFetch]

@[simp] theorem State.beginFetch_unmapped (s : State) (h : Nat) (cls : ReqClass) (cas pt n : Nat) (e : Pte) (page : Nat) (cmd : Option (QueueId × Nat)) :
    (s.beginFetch h cls cas pt n e page cmd).1.unmapped = s.unmapped := by
  simp only [State.beginFetch]
  (repeat' split) <;> simp

@[simp] theorem State.noteCmd_unmapped (s : State) (q : QueueId) (idx : Nat) (st : Status) : (s.noteCmd q idx st).unmapped = s.unmapped := by
  unfold State.noteCmd
  split <;> simp

@[simp] theorem State.stepCmd_unmapped (s : State) (q : QueueId) (idx : Nat) (handled : Bool) : (s.stepCmd q idx handled).unmapped = s.unmapped := by
  unfold State.stepCmd
  split <;> simp

@[simp] theorem State.allocOne_unmapped (s : State) (q : QueueId) (c : Cmd) : (s.allocOne q c).state.unmapped = s.unmapped := by
  simp only [State.allocOne]
  (repeat' split) <;> simp

@[simp] theorem State.freeOne_unmapped (s : State) (q : QueueId) (c : Cmd) (e : Pte) : (s.freeOne q c e).state.unmapped = s.unmapped := by
  simp only [State.freeOne]
  (repeat' split) <;> simp

@[simp] theorem State.readPage_unmapped (s : State) (v : Via) (a n : Nat) : (s.readPage v a n).1.unmapped = s.unmapped := by
  induction n with
  | zero => rfl
  | succ n ih => simp [State.readPage, ih]

@[simp] theorem State.spillOne_unmapped (s : State) (q : QueueId) (c : Cmd) (n : Nat) (e : Pte) : (s.spillOne q c n e).state.unmapped = s.unmapped := by
  simp only [State.spillOne]
  (repeat' split) <;> simp

@[simp] theorem State.prefetchOne_unmapped (s : State) (q : QueueId) (c : Cmd) (n : Nat) (e : Pte) : (s.prefetchOne q c n e).state.unmapped = s.unmapped := by
  simp only [State.prefetchOne]
  (repeat' split) <;> simp

@[simp] theorem State.pgStep_unmapped (s : State) (q : QueueId) (c : Cmd) : (s.pgStep q c).state.unmapped = s.unmapped := by
  simp only [State.pgStep]
  (repeat' split) <;> simp

@[simp] theorem State.pgFinish_unmapped (s : State) (q : QueueId) (c : Cmd) : (s.pgFinish q c).unmapped = s.unmapped := by simp [State.pgFinish]

@[simp] theorem State.pgRun_unmapped (s : State) (q : QueueId) (idx n : Nat) : (s.pgRun q idx n).unmapped = s.unmapped := by
  induction n generalizing s with
  | zero => rfl
  | succ n ih =>
    unfold State.pgRun
    split
    · rfl
    · next c _ =>
      have hstep := s.pgStep_unmapped q c
      split
      · rfl
      · split
        · simp
        · split <;> next hg => simp_all

@[simp] theorem State.pgGo_unmapped (s : State) (q : QueueId) (idx : Nat) : (s.pgGo q idx).unmapped = s.unmapped := by
  unfold State.pgGo
  split <;> simp

@[simp] theorem State.answerDie_unmapped (s : State) (d : Nat) (m : AkRsp) : (s.answerDie d m).unmapped = s.unmapped := by simp [State.answerDie]

@[simp] theorem State.serveOne_unmapped (s : State) (cas k : Nat) : (s.serveOne cas k).unmapped = s.unmapped := by
  simp only [State.serveOne]
  (repeat' split) <;> simp

@[simp] theorem State.serveN_unmapped (s : State) (cas k n : Nat) : (s.serveN cas k n).unmapped = s.unmapped := by
  induction n generalizing s with
  | zero => rfl
  | succ n ih => simp [State.serveN, ih]

@[simp] theorem State.serveHeld_unmapped (s : State) (cas k : Nat) : (s.serveHeld cas k).unmapped = s.unmapped := by simp [State.serveHeld]
@[simp] theorem State.pgWake_unmapped (s : State) : (s.pgWake).unmapped = s.unmapped := by simp [State.pgWake]
@[simp] theorem State.dropCopy_unmapped (s : State) (c : CopySt) : (s.dropCopy c).unmapped = s.unmapped := by simp [State.dropCopy]
@[simp] theorem State.undoCopy_unmapped (s : State) (c : CopySt) : (s.undoCopy c).unmapped = s.unmapped := by simp [State.undoCopy]
@[simp] theorem State.undoCopies_unmapped (s : State) (p : CopySt → Bool) : (s.undoCopies p).unmapped = s.unmapped := by simp [State.undoCopies]

/-! ## Expanders -/

@[simp] theorem State.fetchLatents_unmapped (s : State) (d e : Nat) (r : TileReq) : (s.fetchLatents d e r).unmapped = s.unmapped := by simp [State.fetchLatents]

@[simp] theorem State.expKick_unmapped (s : State) (d e : Nat) : (s.expKick d e).unmapped = s.unmapped := by
  simp only [State.expKick]
  (repeat' split) <;> simp

@[simp] theorem State.freeExpander_unmapped (s : State) (key : Nat) (st : Status) : (s.freeExpander key st).unmapped = s.unmapped := by simp [State.freeExpander]

@[simp] theorem State.freeExpanders_unmapped (s : State) (who : ExpSt → Bool) (st : Status) :
    (s.freeExpanders who st).unmapped = s.unmapped := by simp [State.freeExpanders]

@[simp] theorem State.expKickAll_unmapped (s : State) (d : Nat) : (s.expKickAll d).unmapped = s.unmapped := by simp [State.expKickAll]

/-! ## The fabric and collectives -/

@[simp] theorem State.setPort4_unmapped (s : State) (h j : Nat) (x : TrwSt) : (s.setPort4 h j x).unmapped = s.unmapped := by simp [State.setPort4]
@[simp] theorem State.portCtrl_unmapped (s : State) (h j : Nat) : (s.portCtrl h j).unmapped = s.unmapped := by simp [State.portCtrl]
@[simp] theorem State.taken_unmapped (s : State) (h : Nat) (p : Packet) : (s.taken h p).unmapped = s.unmapped := by simp [State.taken]

@[simp] theorem State.fabricAnswer_unmapped (s : State) (h node tag : Nat) (a : Answer) :
    (s.fabricAnswer h node tag a).unmapped = s.unmapped := by simp [State.fabricAnswer]

@[simp] theorem State.sweepColls_unmapped (s : State) : (s.sweepColls).unmapped = s.unmapped := by simp [State.sweepColls]
@[simp] theorem State.endColl_unmapped (s : State) (q : QueueId) (idx : Nat) (st : Status) : (s.endColl q idx st).unmapped = s.unmapped := by simp [State.endColl]

theorem collSend_unmapped {s t : State} {c : Cmd} {x : CollSt} (h : s.collSend c x = some t) : t.unmapped = s.unmapped := by
  simp only [State.collSend, Option.ite_none_left_eq_some] at h
  obtain ⟨-, h⟩ := h
  by_cases hop : c.opcode = 0x46
  · rw [if_pos hop] at h
    rw [← Option.some.inj h]
    simp
  · rw [if_neg hop, Option.ite_none_left_eq_some] at h
    obtain ⟨-, h⟩ := h
    rw [← apply_ite some] at h
    rw [← Option.some.inj h]
    simp

@[simp] theorem State.sendAll_unmapped (s : State) (q : QueueId) (idx n : Nat) : (s.sendAll q idx n).unmapped = s.unmapped := by
  induction n generalizing s with
  | zero => rfl
  | succ n ih =>
    unfold State.sendAll
    split
    · split
      · next ht => exact (ih _).trans (collSend_unmapped ht)
      · rfl
    · rfl

@[simp] theorem State.rotateReady_unmapped (s : State) (c : Cmd) (x : CollSt) : (s.rotateReady c x).unmapped = s.unmapped := by simp [State.rotateReady]

@[simp] theorem State.collDone_unmapped (s : State) (q : QueueId) (idx : Nat) : (s.collDone q idx).unmapped = s.unmapped := by
  unfold State.collDone
  split <;> simp

@[simp] theorem State.collPump_unmapped (s : State) (q : QueueId) (idx : Nat) : (s.collPump q idx).unmapped = s.unmapped := by
  simp only [State.collPump]
  (repeat' split) <;> simp

@[simp] theorem State.collTake_unmapped (s : State) (x : CollSt) (c : Cmd) (p : Packet) : (s.collTake x c p).unmapped = s.unmapped := by
  unfold State.collTake
  (repeat' split) <;> simp

@[simp] theorem State.collDrainN_unmapped (s : State) (q : QueueId) (idx n : Nat) : (s.collDrainN q idx n).unmapped = s.unmapped := by
  induction n generalizing s with
  | zero => rfl
  | succ n ih =>
    unfold State.collDrainN
    split
    · split <;> simp [ih]
    · rfl

@[simp] theorem State.collDrain_unmapped (s : State) (q : QueueId) (idx : Nat) : (s.collDrain q idx).unmapped = s.unmapped := by simp [State.collDrain]
@[simp] theorem State.collWake_unmapped (s : State) : (s.collWake).unmapped = s.unmapped := by simp [State.collWake]

@[simp] theorem State.putPump1_unmapped (s : State) (q : QueueId) (idx : Nat) : (s.putPump1 q idx).unmapped = s.unmapped := by
  unfold State.putPump1
  split
  · rfl
  · dsimp only
    split
    · split <;> next ho => simp [unmapped_of_pair ho (State.offer_unmapped ..)]
    · rfl

@[simp] theorem State.putPumpN_unmapped (s : State) (q : QueueId) (idx n : Nat) : (s.putPumpN q idx n).unmapped = s.unmapped := by
  induction n generalizing s with
  | zero => rfl
  | succ n ih => simp [State.putPumpN, ih]

@[simp] theorem State.putGo_unmapped (s : State) (q : QueueId) (idx : Nat) : (s.putGo q idx).unmapped = s.unmapped := by
  unfold State.putGo
  split <;> simp

@[simp] theorem State.putRead_unmapped (s : State) (q : QueueId) (idx k : Nat) (st : Status) (data : Block) : (s.putRead q idx k st data).unmapped = s.unmapped := by
  unfold State.putRead
  split <;> simp

end Sys2Proof.Machine
end

section
/-! SUPPORT. That memory through resets, and under the host and the Aksal links. -/

namespace Sys2Proof.Machine

/-! ## The supply -/

@[simp] theorem State.dropReads_unmapped (s : State) : (s.dropReads).unmapped = s.unmapped := by simp [State.dropReads]
@[simp] theorem State.startDrain_unmapped (s : State) : (s.startDrain).unmapped = s.unmapped := by simp [State.startDrain]

/-! ## Resets and bring-up -/

@[simp] theorem State.setPhase_unmapped (s : State) (n : Nat) : (s.setPhase n).unmapped = s.unmapped := by simp [State.setPhase]

/-! ## Counters, samples and trace records -/

@[simp] theorem State.accErr_unmapped (s : State) (a : Access) (write : Bool) (reason : Nat) : (s.accErr a write reason).unmapped = s.unmapped := by simp [State.accErr]

/-- A write's result has the memory that the state it leaves has; a refused one that from before. -/
@[simp] theorem State.settleWrite_unmapped (s : State) (a : Access) (r : WriteResult)
    (h : r.Leaves fun t => t.unmapped = s.unmapped) : (s.settleWrite a r).unmapped = s.unmapped := by
  cases r with
  | inl t => exact h
  | inr n => simp [State.settleWrite]

@[simp] theorem State.freeSlot_unmapped (s : State) (f k : Nat) : (s.freeSlot f k).unmapped = s.unmapped := by
  unfold State.freeSlot
  split <;> simp

@[simp] theorem State.setCounter_unmapped (s : State) (bank n c v : Nat) : (s.setCounter bank n c v).unmapped = s.unmapped := by simp [State.setCounter]

@[simp] theorem State.fnCntCfg_unmapped (s : State) (f k v : Nat) : (s.fnCntCfg f k v).Leaves fun t => t.unmapped = s.unmapped := by
  simp only [State.fnCntCfg]
  (repeat' split) <;> simp

@[simp] theorem State.readCounter_unmapped (s : State) (bank : Nat) : (s.readCounter bank).unmapped = s.unmapped := by simp [State.readCounter]
@[simp] theorem State.freezeAt_unmapped (s : State) (bank v : Nat) : (s.freezeAt bank v).unmapped = s.unmapped := by simp [State.freezeAt]
@[simp] theorem State.thaw_unmapped (s : State) (bank : Nat) : (s.thaw bank).unmapped = s.unmapped := by simp [State.thaw]

@[simp] theorem State.startSampler_unmapped (s : State) (k seed period jitter : Nat) : (s.startSampler k seed period jitter).unmapped = s.unmapped := by
  simp [State.startSampler]

@[simp] theorem State.smpCtrl_unmapped (s : State) (h en cas size : Nat) : (s.smpCtrl h en cas size).Leaves fun t => t.unmapped = s.unmapped := by
  simp only [State.smpCtrl]
  (repeat' split) <;> simp

@[simp] theorem State.cmpSmpCtrl_unmapped (s : State) (d en cas : Nat) : (s.cmpSmpCtrl d en cas).Leaves fun t => t.unmapped = s.unmapped := by
  simp only [State.cmpSmpCtrl]
  (repeat' split) <;> simp

@[simp] theorem State.trcCtrl_unmapped (s : State) (h v : Nat) : (s.trcCtrl h v).Leaves fun t => t.unmapped = s.unmapped := by
  simp only [State.trcCtrl]
  (repeat' split) <;> simp

@[simp] theorem State.stopRecorders_unmapped (s : State) (c : Nat) : (s.stopRecorders c).unmapped = s.unmapped := by simp [State.stopRecorders]

/-! ## Casement resets -/

@[simp] theorem State.cutQueue_unmapped (s : State) (q : QueueId) : (s.cutQueue q).unmapped = s.unmapped := by simp [State.cutQueue]
@[simp] theorem State.dropWaits_unmapped (s : State) (q : QueueId) : (s.dropWaits q).unmapped = s.unmapped := by simp [State.dropWaits]
@[simp] theorem State.cutColls_unmapped (s : State) (q : QueueId) : (s.cutColls q).unmapped = s.unmapped := by simp [State.cutColls]
@[simp] theorem State.cutPgWaits_unmapped (s : State) (c : Nat) : (s.cutPgWaits c).unmapped = s.unmapped := by simp [State.cutPgWaits]
@[simp] theorem State.startCasReset_unmapped (s : State) (c : Nat) : (s.startCasReset c).unmapped = s.unmapped := by simp [State.startCasReset]
@[simp] theorem State.caseRst_unmapped (s : State) (v : Nat) : (s.caseRst v).unmapped = s.unmapped := by simp [State.caseRst]

@[simp] theorem State.caseSelfRst_unmapped (s : State) (f : Nat) : (s.caseSelfRst f).unmapped = s.unmapped := by
  unfold State.caseSelfRst
  split <;> simp

/-! ## The host -/

@[simp] theorem State.release_unmapped (s : State) (f : Nat) : (s.release f).unmapped = s.unmapped :=
  foldl_unmapped _ _ _ fun v t => by dsimp only; split <;> simp

@[simp] theorem State.msixUnmask_unmapped (s : State) (f v : Nat) : (s.msixUnmask f v).unmapped = s.unmapped := by
  unfold State.msixUnmask
  split <;> simp

theorem hostSend_unmapped {s : State} {r : Req} {x : State × Bool} (h : s.hostSend r = some x) : x.1.unmapped = s.unmapped := by
  simp only [State.hostSend] at h
  split at h
  · exact absurd h (by simp)
  · split at h
    · rw [← Option.some.inj h]
      simp
    · split at h
      · rw [← Option.some.inj h]
        simp
      · exact absurd h (by simp)

@[simp] theorem State.refusedAt_unmapped (s : State) (f : Nat) : (s.refusedAt f).unmapped = s.unmapped := by simp [State.refusedAt]

theorem sendParts_unmapped {s : State} {f no k : Nat} {l : List (Nat × Nat)} {x : State × List (Nat × Block × Bool × Bool)}
    (h : s.sendParts f no k l = some x) : x.1.unmapped = s.unmapped := by
  induction l generalizing s k x with
  | nil => rw [← Option.some.inj h]
  | cons y t ih =>
    unfold State.sendParts at h
    split at h
    · exact absurd h (by simp)
    · next u refused hu =>
      split at h
      · exact absurd h (by simp)
      · next v r hv =>
        rw [← Option.some.inj h]
        exact (ih hv).trans (hostSend_unmapped hu)

@[simp] theorem State.hostFinish_unmapped (s : State) (x : HostRd) : (s.hostFinish x).unmapped = s.unmapped := by simp [State.hostFinish]

@[simp] theorem State.hostTry_unmapped (s : State) (x : HostRd) : (s.hostTry x).unmapped = s.unmapped := by
  unfold State.hostTry
  split
  · simp
  · split
    · split
      · rfl
      · next t l ht =>
        have hkeep : t.unmapped = s.unmapped := sendParts_unmapped ht
        simp [hkeep]
    · rfl

theorem writeParts_unmapped {s : State} {f no k : Nat} {data : List Byte} {l : List (Nat × Nat)} {x : State × Bool}
    (h : s.writeParts f no data k l = some x) : x.1.unmapped = s.unmapped := by
  induction l generalizing s data k x with
  | nil => rw [← Option.some.inj h]
  | cons y t ih =>
    unfold State.writeParts at h
    split at h
    · exact absurd h (by simp)
    · next u refused hu =>
      split at h
      · exact absurd h (by simp)
      · next v r hv =>
        rw [← Option.some.inj h]
        exact (ih hv).trans (hostSend_unmapped hu)

@[simp] theorem State.hostPush_unmapped (s : State) (x : HostWr) : (s.hostPush x).unmapped = s.unmapped := by
  simp only [State.hostPush]
  split
  · simp
  · split
    · split
      · rfl
      · next u refused hu =>
        have hkeep : u.unmapped = s.unmapped := writeParts_unmapped hu
        simp [hkeep]
    · rfl

@[simp] theorem State.hostPump_unmapped (s : State) : (s.hostPump).unmapped = s.unmapped := by simp [State.hostPump]

@[simp] theorem State.hostAnswer_unmapped (s : State) (f no k : Nat) (a : Answer) : (s.hostAnswer f no k a).unmapped = s.unmapped := by
  simp only [State.hostAnswer]
  (repeat' split) <;> simp

@[simp] theorem State.hostCut_unmapped (s : State) : (s.hostCut).unmapped = s.unmapped := by simp [State.hostCut]

/-! ## The Aksal links -/

@[simp] theorem State.dieAnswer_unmapped (s : State) (d srcTag tag : Nat) (a : Answer) : (s.dieAnswer d srcTag tag a).unmapped = s.unmapped := by simp [State.dieAnswer]

end Sys2Proof.Machine
end

section
/-! SUPPORT. That memory at the end of a step and under register accesses. -/

namespace Sys2Proof.Machine

/-! ## The end of a step -/

@[simp] theorem State.cmdAnswer_unmapped (s : State) (q : QueueId) (idx part : Nat) (a : Answer) : (s.cmdAnswer q idx part a).unmapped = s.unmapped := by
  unfold State.cmdAnswer
  split <;> simp

@[simp] theorem State.deliver_unmapped (s : State) (a : Answer) : (s.deliver a).unmapped = s.unmapped := by
  unfold State.deliver
  (repeat' split) <;> simp

@[simp] theorem State.deliverAll_unmapped (s : State) (l : List Answer) : (s.deliverAll l).unmapped = s.unmapped := by
  induction l generalizing s with
  | nil => rfl
  | cons a t ih => simp [State.deliverAll, ih]

@[simp] theorem State.pump_unmapped (s : State) : (s.pump).unmapped = s.unmapped := by simp [State.pump]
@[simp] theorem State.settle_unmapped (s : State) : (s.settle).unmapped = s.unmapped := by simp [State.settle]

/-! ## Register accesses -/

@[simp] theorem State.unlatch_unmapped (s : State) (a : RegAt) : (s.unlatch a).unmapped = s.unmapped := by simp [State.unlatch]

@[simp] theorem State.noteCount_unmapped (s : State) (a : RegAt) : (s.noteCount a).unmapped = s.unmapped := by
  unfold State.noteCount
  split <;> simp

@[simp] theorem State.readReg_unmapped (s : State) (a : RegAt) (p : Part) : (s.readReg a p).1.unmapped = s.unmapped := by
  unfold State.readReg
  (repeat' split) <;> simp

@[simp] theorem State.answered_unmapped (s : State) (a : Access) (v : Nat) : (s.answered a v).unmapped = s.unmapped := by simp [State.answered]
@[simp] theorem State.readFault_unmapped (s : State) (a : Access) (reason : Nat) : (s.readFault a reason).unmapped = s.unmapped := by simp [State.readFault]

@[simp] theorem State.readNow_unmapped (s : State) (a : Access) : (s.readNow a).unmapped = s.unmapped := by
  unfold State.readNow
  split <;> simp

@[simp] theorem State.regRead_unmapped (s : State) (a : Access) : (s.regRead a).unmapped = s.unmapped := by
  unfold State.regRead
  split <;> simp

@[simp] theorem State.setField_unmapped (s : State) (k : Nat × Nat × Nat) (p : Part) (img v : Nat) (r : FieldRow) : (s.setField k p img v r).unmapped = s.unmapped := by
  unfold State.setField
  split <;> simp

@[simp] theorem State.setFields_unmapped (s : State) (a : RegAt) (p : Part) (v : Nat) : (s.setFields a p v).unmapped = s.unmapped := by simp [State.setFields]

@[simp] theorem State.writeImgCtrl_unmapped (s : State) (n : Nat) : (s.writeImgCtrl n).Leaves fun t => t.unmapped = s.unmapped := by
  simp only [State.writeImgCtrl]
  (repeat' split) <;> simp

@[simp] theorem State.writeLayoutCtrl_unmapped (s : State) (a : RegAt) (n : Nat) : (s.writeLayoutCtrl a n).Leaves fun t => t.unmapped = s.unmapped := by
  simp only [State.writeLayoutCtrl]
  (repeat' split) <;> simp

@[simp] theorem State.writeHingeCtrl_unmapped (s : State) (a : RegAt) (n : Nat) : (s.writeHingeCtrl a n).unmapped = s.unmapped := by simp [State.writeHingeCtrl]
@[simp] theorem State.writePwrCtrl_unmapped (s : State) (a : RegAt) (n : Nat) : (s.writePwrCtrl a n).unmapped = s.unmapped := by simp [State.writePwrCtrl]
@[simp] theorem State.writeDebug_unmapped (s : State) (h p : Nat) (halt : Bool) : (s.writeDebug h p halt).unmapped = s.unmapped := by simp [State.writeDebug]

@[simp] theorem State.writeDebugCmd_unmapped (s : State) (h p : Nat) (v : Word) : (s.writeDebugCmd h p v).Leaves fun t => t.unmapped = s.unmapped := by
  simp only [State.writeDebugCmd]
  (repeat' split) <;> simp

@[simp] theorem State.writeTrnCtrl_unmapped (s : State) (a : RegAt) (n : Nat) : (s.writeTrnCtrl a n).unmapped = s.unmapped := by simp [State.writeTrnCtrl]
@[simp] theorem State.writeTrim_unmapped (s : State) (h p n : Nat) : (s.writeTrim h p n).unmapped = s.unmapped := by simp [State.writeTrim]
@[simp] theorem State.writeXlate_unmapped (s : State) (a : RegAt) (p : Part) (v : Nat) : (s.writeXlate a p v).unmapped = s.unmapped := by simp [State.writeXlate]
@[simp] theorem State.writeDirect_unmapped (s : State) (a : RegAt) (n : Nat) : (s.writeDirect a n).unmapped = s.unmapped := by simp [State.writeDirect]
@[simp] theorem State.writeShiftBuf_unmapped (s : State) (h i n : Nat) : (s.writeShiftBuf h i n).unmapped = s.unmapped := by simp [State.writeShiftBuf]
@[simp] theorem State.writeRecov_unmapped (s : State) (i n : Nat) : (s.writeRecov i n).unmapped = s.unmapped := by simp [State.writeRecov]

@[simp] theorem State.writeSram_unmapped (s : State) (d w n : Nat) : (s.writeSram d w n).unmapped = s.unmapped := by
  unfold State.writeSram
  split <;> simp

@[simp] theorem State.writeQueueCtrl_unmapped (s : State) (a : RegAt) (n : Nat) : (s.writeQueueCtrl a n).unmapped = s.unmapped := by simp [State.writeQueueCtrl]

@[simp] theorem State.writeQueueCfg_unmapped (s : State) (a : RegAt) (p : Part) (v : Nat) : (s.writeQueueCfg a p v).Leaves fun t => t.unmapped = s.unmapped := by
  simp only [State.writeQueueCfg]
  (repeat' split) <;> simp

@[simp] theorem State.writeCntCfg_unmapped (s : State) (a : RegAt) (n : Nat) : (s.writeCntCfg a n).Leaves fun t => t.unmapped = s.unmapped := by
  simp only [State.writeCntCfg]
  (repeat' split) <;> simp

@[simp] theorem State.writeCcntCfg_unmapped (s : State) (a : RegAt) (n : Nat) : (s.writeCcntCfg a n).Leaves fun t => t.unmapped = s.unmapped := by
  simp only [State.writeCcntCfg]
  (repeat' split) <;> simp

@[simp] theorem State.writeAccErr_unmapped (s : State) (a : RegAt) (p : Part) (v : Nat) : (s.writeAccErr a p v).unmapped = s.unmapped := by simp [State.writeAccErr]

@[simp] theorem State.writeFnWin_unmapped (s : State) (f n : Nat) : (s.writeFnWin f n).Leaves fun t => t.unmapped = s.unmapped := by
  simp only [State.writeFnWin]
  (repeat' split) <;> simp

theorem State.setMsix_unmapped (s : State) (k : Nat) (x : MsixSt) : (s.setMsix k x).unmapped = s.unmapped := rfl

@[simp] theorem State.writeMsix_unmapped (s : State) (f vec k v : Nat) : (s.writeMsix f vec k v).unmapped = s.unmapped := by
  unfold State.writeMsix
  cases s.msixKey f vec with
  | none => rfl
  | some key =>
    rcases k with _ | _ | _ | k
    · exact State.setMsix_unmapped ..
    · exact State.setMsix_unmapped ..
    · exact State.setMsix_unmapped ..
    · exact (State.unmapped_ite ..).trans (by rw [State.setMsix_unmapped, State.msixUnmask_unmapped, ite_self])

end Sys2Proof.Machine
end

section
/-! SUPPORT. The configuration under the operations that put a pseudo-channel to sleep: they keep it. -/

namespace Sys2Proof.Machine

/-- The configuration alone, under a name of its own: simp's rules for it do not meet those of the memory. -/
def cfgAlone (c : Option RunCfg) : Option RunCfg := c

/-- The configuration of a state. -/
@[reducible] def State.cfgAlone (s : State) : Option RunCfg := Machine.cfgAlone s.cfg

@[simp] theorem State.cfgAlone_eq (s : State) : s.cfgAlone = Machine.cfgAlone s.cfg := rfl

/-- A function of the state that keeps the configuration: what a loop asks of each round. -/
def KeepsCfg (f : State → State) : Prop := ∀ s, (f s).cfgAlone = s.cfgAlone

@[simp] theorem keepsCfg_iff (f : State → State) : KeepsCfg f ↔ ∀ s, (f s).cfgAlone = s.cfgAlone := by rw [KeepsCfg]

@[simp] theorem foldl_cfgAlone {α : Type} (f : State → α → State) (l : List α) (s : State) (h : ∀ x, KeepsCfg (f · x)) : (l.foldl f s).cfgAlone = s.cfgAlone := by
  induction l generalizing s with
  | nil => rfl
  | cons x t ih => exact (ih _).trans (h x s)

@[simp] theorem State.cfgAlone_ite (c : Prop) [Decidable c] (s t : State) : (if c then s else t).cfgAlone = if c then s.cfgAlone else t.cfgAlone :=
  apply_ite _ _ _ _

@[simp] theorem State.count_cfgAlone (s : State) (f : Fld) (top d i j n : Nat) : (s.count f top d i j n).cfgAlone = s.cfgAlone := by simp [State.count]
@[simp] theorem State.flag_cfgAlone (s : State) (f : Fld) (d i j : Nat) : (s.flag f d i j).cfgAlone = s.cfgAlone := by simp [State.flag]
@[simp] theorem State.endReq_cfgAlone (s : State) (r : Req) : (s.endReq r).cfgAlone = s.cfgAlone := by simp [State.endReq]

@[simp] theorem State.finish_cfgAlone (s : State) (r : Req) (st : Status) (data : Block) (poison pkind : BitVec 8) :
    (s.finish r st data poison pkind).cfgAlone = s.cfgAlone := s.endReq_cfgAlone r

@[simp] theorem State.finishBare_cfgAlone (s : State) (r : Req) (st : Status) : (s.finishBare r st).cfgAlone = s.cfgAlone := by simp [State.finishBare]
@[simp] theorem State.counterUp_cfgAlone (s : State) (bank k n : Nat) : (s.counterUp bank k n).cfgAlone = s.cfgAlone := by simp [State.counterUp]

@[simp] theorem State.tally_cfgAlone (s : State) (bank ev : Nat) (unit : Option Nat) (subs : List Nat) (cas : Option Nat) (n : Nat) :
    (s.tally bank ev unit subs cas n).cfgAlone = s.cfgAlone := by
  simp [State.tally]

@[simp] theorem State.pushTrace_cfgAlone (s : State) (h : Nat) (r : TraceRec) : (s.pushTrace h r).cfgAlone = s.cfgAlone := by simp [State.pushTrace]

@[simp] theorem State.traceHub_cfgAlone (s : State) (h typ cas unit : Nat) (payload : List Nat) : (s.traceHub h typ cas unit payload).cfgAlone = s.cfgAlone := by
  simp [State.traceHub]

@[simp] theorem State.storeWord_cfgAlone (s : State) (key : Nat) (data : BitVec 256) (chk : BitVec 32) : (s.storeWord key data chk).cfgAlone = s.cfgAlone := by
  simp [State.storeWord]

@[simp] theorem State.storeSector_cfgAlone (s : State) (key : Nat) (data : BitVec 256) : (s.storeSector key data).cfgAlone = s.cfgAlone := by simp [State.storeSector]
@[simp] theorem State.storePoison_cfgAlone (s : State) (key : Nat) : (s.storePoison key).cfgAlone = s.cfgAlone := by simp [State.storePoison]

@[simp] theorem State.countAct_cfgAlone (s : State) (h p b row : Nat) : (s.countAct h p b row).cfgAlone = s.cfgAlone := by
  unfold State.countAct
  split <;> simp

@[simp] theorem State.writeSectorOf_cfgAlone (s : State) (e : QEnt) (n : Nat) : (s.writeSectorOf e n).cfgAlone = s.cfgAlone := by simp [State.writeSectorOf]
@[simp] theorem State.issueRead_cfgAlone (s : State) (h p : Nat) (e : QEnt) (n rl : Nat) : (s.issueRead h p e n rl).cfgAlone = s.cfgAlone := by simp [State.issueRead]
@[simp] theorem State.drive_cfgAlone (s : State) (h p : Nat) (e : CmdEntry) (r : RetryEnt) : (s.drive h p e r).cfgAlone = s.cfgAlone := by simp [State.drive]

@[simp] theorem State.issue_cfgAlone (s : State) (h p : Nat) (w : Wanted) (who : Issuer) (q : Option Ptr) (raw : Bool) :
    (s.issue h p w who q raw).cfgAlone = s.cfgAlone := by
  unfold State.issue
  dsimp only
  split
  case h_1 => split <;> simp
  case h_2 => split <;> simp
  case h_4 => split <;> simp
  case h_5 => split <;> simp
  all_goals simp

@[simp] theorem State.freeEntry_cfgAlone (s : State) (h p : Nat) (e : QEnt) : (s.freeEntry h p e).cfgAlone = s.cfgAlone := by simp [State.freeEntry]

@[simp] theorem State.sampleDone_cfgAlone (s : State) (e : QEnt) (st : Status) : (s.sampleDone e st).cfgAlone = s.cfgAlone := by
  unfold State.sampleDone
  split <;> simp

@[simp] theorem State.endRequest_cfgAlone (s : State) (h p id : Nat) : (s.endRequest h p id).cfgAlone = s.cfgAlone := by
  unfold State.endRequest
  split <;> simp

@[simp] theorem State.refDone_cfgAlone (s : State) (h p : Nat) (q : Ptr) : (s.refDone h p q).cfgAlone = s.cfgAlone := by simp [State.refDone]

@[simp] theorem State.event_cfgAlone (s : State) (h p : Nat) (q : Ptr) (e : Nat) : (s.event h p q e).cfgAlone = s.cfgAlone := by
  unfold State.event
  split <;> simp

@[simp] theorem State.events_cfgAlone (s : State) (h p : Nat) (q : Ptr) (l : List Nat) : (s.events h p q l).cfgAlone = s.cfgAlone := by simp [State.events]

@[simp] theorem State.nbrDone_cfgAlone (s : State) (h p b : Nat) : (s.nbrDone h p b).cfgAlone = s.cfgAlone := by
  simp only [State.nbrDone]
  (repeat' split) <;> simp

@[simp] theorem State.endOp_cfgAlone (s : State) (h p : Nat) (q : Ptr) : (s.endOp h p q).cfgAlone = s.cfgAlone := by simp [State.endOp]

@[simp] theorem State.runPtr_cfgAlone (s : State) (h p : Nat) (tbl : List Step) (n : Nat) (q : Ptr) : (s.runPtr h p tbl n q).cfgAlone = s.cfgAlone := by
  induction n generalizing s q with
  | zero => rfl
  | succ n ih =>
    unfold State.runPtr
    split
    · simp
    · dsimp only
      split <;> simp [ih]

@[simp] theorem State.runWide_cfgAlone (s : State) (h p op : Nat) : (s.runWide h p op).cfgAlone = s.cfgAlone := by
  unfold State.runWide
  (repeat' split) <;> simp

@[simp] theorem State.runWides_cfgAlone (s : State) (h p : Nat) (ops : List Nat) : (s.runWides h p ops).cfgAlone = s.cfgAlone := by simp [State.runWides]
@[simp] theorem State.sleepPc_cfgAlone (s : State) (h p : Nat) : (s.sleepPc h p).cfgAlone = s.cfgAlone := by simp [State.sleepPc]

end Sys2Proof.Machine
end

section
/-! SUPPORT. The memory of a package without panes at the end of a step: what is empty stays empty. -/

namespace Sys2Proof.Machine

/-- Where the one state's memory is empty or may hold a pane's bytes, so is the other's. -/
def State.StaysEmpty (s t : State) : Prop := (∀ m, s.unmapped = some m → m = []) → ∀ m, t.unmapped = some m → m = []

theorem State.StaysEmpty.of_unmapped {s t : State} (h : t.unmapped = s.unmapped) : s.StaysEmpty t := fun hs m hm => hs m (h ▸ hm)

theorem State.StaysEmpty.trans {s t u : State} (h : s.StaysEmpty t) (g : t.StaysEmpty u) : s.StaysEmpty u := fun hs => g (h hs)

/-- What is not hidden by a pane is the whole memory. -/
theorem State.mem_of_unmapped {s : State} {m : List Host.Cell} (h : s.unmapped = some m) : s.mem = m := by
  unfold State.unmapped unmappedMem at h
  split at h
  · exact Option.some.inj h
  · exact nomatch h

theorem State.StaysEmpty.of_mem {s t : State} (h : t.mem = []) : s.StaysEmpty t := fun _ _ hm => (State.mem_of_unmapped hm).symm.trans h

theorem State.coldReset_staysEmpty (s : State) (cause : Nat) (errs : Bool) : s.StaysEmpty (s.coldReset cause errs) := by
  refine .of_mem ?_
  unfold State.coldReset
  dsimp only
  split <;> rfl

theorem State.warmReset_staysEmpty (s : State) (cause : Nat) : s.StaysEmpty (s.warmReset cause) := by
  unfold State.warmReset
  split
  · exact .of_unmapped rfl
  · split
    · exact s.coldReset_staysEmpty _ _
    · refine .of_unmapped ?_
      dsimp only
      split <;> simp

theorem State.rstCtrl_staysEmpty (s : State) (v : Nat) : s.StaysEmpty (s.rstCtrl v) := by
  unfold State.rstCtrl
  split
  · exact .of_unmapped rfl
  · split
    · exact s.coldReset_staysEmpty _ _
    · split
      · exact s.warmReset_staysEmpty _
      · exact .of_unmapped rfl

theorem State.bootStop_cfg (s : State) (code unit : Nat) : (s.bootStop code unit).cfg = s.cfg := by
  show (s.bootStop code unit).cfgAlone = s.cfgAlone
  simp [State.bootStop]

theorem State.bootStop_staysEmpty (s : State) (code unit : Nat) : s.StaysEmpty (s.bootStop code unit) := by
  have hm : (s.bootStop code unit).mem = if s.boot.warm then s.mem else [] := rfl
  by_cases hw : s.boot.warm = true
  · rw [if_pos hw] at hm
    exact .of_unmapped (by rw [State.unmapped, State.unmapped, s.bootStop_cfg, hm])
  · rw [if_neg hw] at hm
    exact .of_mem hm

theorem State.bootFail_staysEmpty (s : State) (code unit : Nat) : s.StaysEmpty (s.bootFail code unit) := by
  unfold State.bootFail
  split
  · exact .of_unmapped rfl
  · exact s.bootStop_staysEmpty _ _

theorem State.recovGo_staysEmpty (s : State) : s.StaysEmpty s.recovGo := by
  unfold State.recovGo
  split
  · dsimp only
    have h : s.StaysEmpty ((s.setBoot fun x => { x with
        wdog := match s.boot.wdog with
          | some w => some w
          | none => some (s.now, Config.secTicks (s.rd .SVC_BOOT_WDOG_SECONDS 0 0 0))
        stage := .bringUp }).setPhase 3) := .of_unmapped rfl
    split
    · exact h.trans (State.bootFail_staysEmpty _ _ _)
    · exact h.trans (State.bootFail_staysEmpty _ _ _)
    · exact .of_unmapped rfl
  · exact .of_unmapped rfl

theorem State.advanceFuses_unmapped (s : State) : s.advanceFuses.unmapped = s.unmapped := by
  unfold State.advanceFuses
  split <;> rfl

/-- A register's own effect keeps the memory, but for a reset and the start of a recovery. -/
theorem State.writeActs_unmapped (s : State) (a : RegAt) (p : Part) (n v : Nat) (hr : a.reg ≠ .SVC_RST_CTRL) (hg : a.reg ≠ .SVC_RECOV_GO) :
    (s.writeActs a p n v).Leaves fun t => t.unmapped = s.unmapped := by
  unfold State.writeActs
  split
  case h_2 =>
    rw [WriteResult.leaves_inl]
    split
    · exact s.advanceFuses_unmapped
    · rfl
  case h_6 h => exact absurd h hr
  case h_8 h => exact absurd h hg
  case h_22 => split <;> simp
  all_goals simp

theorem State.writeReg_staysEmpty (s : State) (a : RegAt) (p : Part) (v : Nat) : (s.writeReg a p v).Leaves s.StaysEmpty := by
  unfold State.writeReg
  split
  · trivial
  · by_cases hr : a.reg = .SVC_RST_CTRL
    · simp only [State.writeActs, hr, WriteResult.leaves_inl]
      exact s.rstCtrl_staysEmpty _
    · by_cases hg : a.reg = .SVC_RECOV_GO
      · simp only [State.writeActs, hg, WriteResult.leaves_inl]
        split
        · exact s.recovGo_staysEmpty
        · exact .of_unmapped rfl
      · exact (s.writeActs_unmapped a p _ v hr hg).mono fun _ => .of_unmapped

theorem State.settleWrite_staysEmpty {s : State} {r : WriteResult} (h : r.Leaves s.StaysEmpty) (a : Access) : s.StaysEmpty (s.settleWrite a r) := by
  cases r with
  | inl t => exact h
  | inr n => exact .of_unmapped (s.accErr_unmapped ..)

theorem State.writeNow_staysEmpty (s : State) (a : Access) (v : Nat) : s.StaysEmpty (s.writeNow a v) := by
  unfold State.writeNow
  split
  case h_4 => exact settleWrite_staysEmpty (s.writeReg_staysEmpty ..) a
  all_goals exact .of_unmapped (by simp)

theorem State.regWrite_staysEmpty (s : State) (a : Access) (v : Word) : s.StaysEmpty (s.regWrite a v) := by
  unfold State.regWrite
  split
  case h_6 =>
    split
    · exact .of_unmapped rfl
    · exact s.writeNow_staysEmpty a _
  all_goals exact .of_unmapped (by simp)

theorem State.retryHeld_staysEmpty (s : State) (x : Access × Option Word) : s.StaysEmpty (s.retryHeld x) := by
  unfold State.retryHeld
  split
  · exact s.regWrite_staysEmpty _ _
  · exact .of_unmapped (by simp)

theorem foldl_staysEmpty {α : Type} {f : State → α → State} (h : ∀ (t : State) x, t.StaysEmpty (f t x)) (l : List α) (s : State) : s.StaysEmpty (l.foldl f s) := by
  induction l generalizing s with
  | nil => exact .of_unmapped rfl
  | cons x t ih => exact (h s x).trans (ih _)

/-- Nothing at the end of a step writes the stacks of a package without panes. -/
theorem State.done_staysEmpty (s : State) : s.StaysEmpty s.done := by
  have hset : s.StaysEmpty { s.settle with heldRegs := [] } := .of_unmapped (by simp)
  unfold State.done State.replayHeld
  exact hset.trans (foldl_staysEmpty State.retryHeld_staysEmpty _ _)

end Sys2Proof.Machine
end

section
/-! SUPPORT. A state that training writes (R228): what O19 promises for every state holds for those a run reaches alone. -/

namespace Sys2Proof.Machine

/-- A profile whose only command has the effect of a column write (R181). -/
def strayProfile : ProfileCfg :=
  { index := 0, vendors := [1], bankMask := 1, rowLog2 := 9, rateMin := 0, rateMax := 64, banksPerGroup := 4, parity := false, rfm := false, mr := [],
    cmds := [{ code := 1, column := true, words := 1, tclass := 1, effect := 5, pattern := 0, inserts := [] }] }

/-- A configuration with no pane, in which every operation issues that command once (R175). -/
def strayCfg : RunCfg :=
  { id := 1, rollback := 0, activeSets := [],
    frames := [.profile strayProfile, .steps { profile := 0, dispatch := List.replicate 48 0, steps := [.col 1 false 0 0, .fin] }].map
      fun b => { target := 0xFFFFFFFF, body := b } }

/-- A write, of number 0. -/
def strayReq : Req :=
  { id := 0, org := .debug 0, cls := .normal, cas := 0, stag := 0, addr := 0, pane := 0, guarded := false, bucket := false, home := 0, hub := 0, pc := 0,
    bank := 0, row := 0, col := 0, write := true, sector := false, mask := 0, data := 1, poison := 0, xfer := 0, latch := 0, uc := false }

/-- The entry of that write in the queue of a pseudo-channel. -/
def strayWrite : QEnt :=
  { r := strayReq, door := 0, arrT := 0, arrC := 0, firstC := 0, adm := 0, res := .shared, aged := false, grp := none, rdIssued := 0, merged := 0, bad := 0,
    wrIssued := 0, ended := false, drop := false, tag := none }

/-- One stack in phase 9 of a cold bring-up, its memory unwritten, with a write already in the queue of its first pseudo-channel: no run reaches it. -/
def stray : State :=
  ({ State.reset with
    boot := { State.reset.boot with stage := .bringUp }
    fuse := { State.reset.fuse with hubMask := 1, stackMask := 1 }
    cfg := some strayCfg
    geom := [(0, some { bankCode := 0, dies := 4, capacityGib := 16, maxRate := 64, vendor := 1, softLeft := 1, hardLeft := 1, laneLeft := 1, pgmMs := 10 })]
    pcs := [(0, { PcSt.reset with queue := [strayWrite] })] } : State).wr .SVC_BOOT_STATUS_PHASE 0 0 0 9

/-- Every lane of every pseudo-channel of the stack passes. -/
def strayFound : List PcTraining := (List.finRange 96).map fun p => { hub := 0, pc := p, again := [], eyes := (List.range 58).map fun l =>
  { lane := l, delayLo := 0, delayHi := 60, vrefLo := 0, vrefHi := 30, wLo := 0, wHi := 60, wvLo := 0, wvHi := 30, margin := 0 } }

/-- The configuration names no pane, so its package's memory counts as unmapped. -/
theorem strayCfg_unmapped (m : List Host.Cell) : unmappedMem (some strayCfg) m = some m := by
  have h : ({ State.reset with cfg := some strayCfg } : State).panes.isEmpty = true := by decide +kernel
  rw [unmappedMem, h]
  rfl

theorem strayFound_passes : ∀ q ∈ stray.allPcs, (strayFound.find? fun x => x.hub.val = q.1 && x.pc.val = q.2).any
    (fun x => (laneFails eyePasses x.eyes (trainedLanes q.2)).isEmpty) = true := by decide +kernel

/-- Training runs operation 12 on the first pseudo-channel, whose command takes the queued write for its own and writes its first sector. -/
theorem stray_training : (stray.training strayFound).Idle ∧ (stray.training strayFound).mem ≠ [] ∧ (stray.training strayFound).cfg = some strayCfg := by
  unfold State.Idle
  decide +kernel

/-- Refutes O19: in its training clause, a write of number 0 that stands in a queue is taken for the operation's own (its pointer names request 0) and lands in the stacks,
and no state with an empty memory can end its step so, since on a package without panes nothing at the end of a step writes the stacks. -/
theorem not_bringUpPhasesSevenToFifteen : ¬ Obligations.BringUpPhasesSevenToFifteen := by
  intro h
  obtain ⟨-, -, -, htrain, -⟩ := h stray (by decide) (by decide)
  have hpass : ∀ q ∈ stray.allPcs, ∃ x, strayFound.find? (fun x => x.hub.val = q.1 && x.pc.val = q.2) = some x ∧
      laneFails eyePasses x.eyes (trainedLanes q.2) = [] := by
    intro q hq
    have hany := strayFound_passes q hq
    cases hx : strayFound.find? fun x => x.hub.val = q.1 && x.pc.val = q.2 with
    | none => simp [hx] at hany
    | some x => exact ⟨x, rfl, by simpa [hx] using hany⟩
  obtain ⟨u, hu, -, hmem, -⟩ := htrain strayFound (by decide) hpass
  obtain ⟨hidle, hne, hcfg⟩ := stray_training
  have hdone : u.done = stray.training strayFound := (Host.Outcome.next.inj hu).symm.trans (done_of_idle hidle)
  have hempty := u.done_staysEmpty fun m hm => (State.mem_of_unmapped hm).symm.trans hmem
  rw [hdone, State.unmapped, hcfg] at hempty
  exact hne (hempty _ (strayCfg_unmapped _))

end Sys2Proof.Machine
end

section
/-! SUPPORT. A bus sample: the two voltage fields and the power-fail filters (R60, R61). -/

namespace Sys2Proof.Machine

/-- What BUS_SAMPLE changes: the two voltage fields and the supervisor's filters (R60, R61). -/
theorem exec_busSample {s : State} (hi : s.Idle) (v : Nat) : exec (.busSample v) s = .next (s.busSample v) :=
  congrArg Host.Outcome.next (done_of_eq (s := s) (t := s.busSample v) hi rfl rfl rfl rfl rfl rfl rfl rfl)

theorem runFilter_eq (old : Option (Nat × Nat)) (p : Prop) [Decidable p] (now len : Nat) :
    runFilter old (decide p) now len = if p then some (old.getD (now, len)) else none := by
  simp only [runFilter, decide_eq_true_eq]

theorem runSince_eq (old : Option Nat) (p : Prop) [Decidable p] (now : Nat) :
    runSince old (decide p) now = if p then some (old.getD now) else none := by
  simp only [runSince, decide_eq_true_eq]

theorem usTicks_eq (n : Nat) : Config.usTicks n = 100 * n := by rw [Config.usTicks]

/-- Settles O10: the two voltage fields and the supervisor's filters are all that a sample writes. -/
theorem busSampleRunsFilters : Obligations.BusSampleRunsFilters := by
  intro s v hi
  refine ⟨_, exec_busSample hi v, ?_, ?_, ?_, ((State.RegsBut.refl s _).wr (by decide)).wr (by decide), rfl⟩
  · simp [State.busSample, State.rd_wr]
  · simp [State.busSample]
  · simp only [State.busSample, State.setSupply_supply, runFilter_eq, runSince_eq, usTicks_eq]
    rfl

end Sys2Proof.Machine
end

section
/-! SUPPORT. The beginning of a cold start: the straps, phase 1 and the PLLs (R69, R97, R99). -/

namespace Sys2Proof.Machine

/-! ## PKG_RST_N rises (R70, R97, R110) -/

/-- The slot that the straps name, or SVC_BOOT_SEL.PREFER's (R97). -/
def strapSlot (boot : Fin 4) (prefer : Nat) : Nat := if boot = 1 then 0 else if boot = 2 then 1 else if boot = 3 then 0 else prefer

theorem bootSlot_eq (s : State) : s.bootSlot = strapSlot s.board.straps.boot (s.rd .SVC_BOOT_SEL_PREFER 0 0 0) := by
  unfold State.bootSlot
  generalize s.board.straps.boot = b
  fin_cases b <;> rfl

/-- The start after the straps are sampled: their slot, and the watchdog unless they ask for recovery. -/
def State.strapBoot (s : State) (st : Straps) : BootSt :=
  { s.boot with
    slot := strapSlot st.boot (s.rd .SVC_BOOT_SEL_PREFER 0 0 0)
    wdog := if st.boot = 3 then s.boot.wdog else some (s.now, 100000000 * s.rd .SVC_BOOT_WDOG_SECONDS 0 0 0) }

/-- PKG_RST_N rising, in one update: the board, RATE by the strap, and the start. -/
theorem pkgRstN_rise {s : State} (st : Straps) (h : s.board.pkgRst = false) :
    s.pkgRstN true st = { (s.setBoard fun x => { x with pkgRst := true, straps := st }).wr .SVC_SLEW_LIMIT_RATE 0 0 0 (2 * 2 ^ st.slew.val) with
      boot := s.strapBoot st } := by
  have hslot : ((s.setBoard fun x => { x with pkgRst := true, straps := st }).wr .SVC_SLEW_LIMIT_RATE 0 0 0 (strapRate st.slew.val)).bootSlot =
      strapSlot st.boot (s.rd .SVC_BOOT_SEL_PREFER 0 0 0) := by
    rw [bootSlot_eq, State.rd_wr_fld _ (by decide)]
    rfl
  unfold State.pkgRstN State.strapBoot
  rw [h, if_neg (by decide), if_pos rfl]
  dsimp only [State.setBoot]
  rw [hslot]
  split <;> rfl

/-- The I3C and I2C target answers by the sampled straps while neither of its balls is unused. -/
theorem i3cTarget_of_live {s : State} (hc : s.pinLive 65 20 = true) (hd : s.pinLive 65 21 = true) : s.i3cTarget = some (0x50 + s.board.straps.i3cAddr.val) := by
  rw [State.i3cTarget, hc, hd]
  rfl

/-! ## COLD_BRINGUP (R99) -/

/-- Marking every reading stale touches one field. -/
theorem markStale_regsOnly (s : State) : s.RegsOnly s.markStale := .foldl (fun t _ => (State.RegsOnly.refl t).wr) _ _

/-- Where the board's signals allow it and no PF2 holds, a cold bring-up may begin. -/
theorem mayColdStart_of_good {s : State} (hst : s.boot.stage = .cold) (hp : s.board.pkgRst = true) (hw : s.board.warmRst = true) (he : s.board.perst = true)
    (hk : s.board.kaPg = true) (hg : s.board.pwrGood = true) (hr : s.board.refAt.isSome = true) (h2 : s.pf2 = false) : s.mayColdStart = true := by
  simp [State.mayColdStart, hst, hp, hw, he, hk, hg, hr, h2]

/-- The start that a cold bring-up begins: the slot of the straps, or of the start that the watchdog cut. -/
def State.coldBoot (s : State) : BootSt :=
  { stage := .bringUp
    slot := if s.rd .SVC_BOOT_STATUS_ATTEMPT 0 0 0 != 0 then s.boot.slot else s.bootSlot
    cleared := false
    wdog := if s.board.straps.boot = 3 then none else match s.boot.wdog with
      | some w => some w
      | none => some (s.now, Config.secTicks (s.rd .SVC_BOOT_WDOG_SECONDS 0 0 0))
    warm := false, fwOk := false }

/-- COLD_BRINGUP from the cold stage, in one line. -/
theorem coldBringup_of_cold {s : State} (hm : s.mayColdStart = true) (hst : s.boot.stage = .cold) (h2 : s.pf2 = false) :
    s.coldBringup = (((((s.setBoot fun _ => s.coldBoot).markStale.unlock 4).setPhase 1).wr .SVC_BOOT_STATUS_KIND 0 0 0
      (if s.board.straps.boot = 3 then 2 else 0)).wr .IMG_STATUS_SLOT 0 0 0 s.coldBoot.slot) := by
  unfold State.coldBringup State.coldBoot
  simp only [hm, hst, h2, if_true, Bool.or_false]
  rfl

/-- What the start of a cold bring-up changes: the start, the clocks, and registers of its own. -/
theorem coldBringup_parts {s : State} (hm : s.mayColdStart = true) (hst : s.boot.stage = .cold) (h2 : s.pf2 = false) :
    ∃ R, s.coldBringup = { s with boot := s.coldBoot, regs := R, clk := { s.clk with run := false, hp := 4, kPhase := 0, fPhase := 0, tPhase := 0 } } := by
  obtain ⟨R, hR⟩ := markStale_regsOnly (s.setBoot fun _ => s.coldBoot)
  rw [coldBringup_of_cold hm hst h2, hR]
  exact ⟨_, rfl⟩

/-- The fields with which a cold bring-up enters phase 1. -/
theorem coldBringup_rd {s : State} (hm : s.mayColdStart = true) (hst : s.boot.stage = .cold) (h2 : s.pf2 = false) :
    s.coldBringup.phase = 1 ∧ s.coldBringup.rd .SVC_BOOT_STATUS_KIND 0 0 0 = (if s.board.straps.boot = 3 then 2 else 0) ∧
    s.coldBringup.rd .SVC_CLK_STATUS_PLL_LOCK 0 0 0 = 0 ∧ s.coldBringup.rd .IMG_STATUS_SLOT 0 0 0 = s.coldBoot.slot := by
  have hlock : ∀ t : State, (t.unlock 4).rd .SVC_CLK_STATUS_PLL_LOCK 0 0 0 = 0 := fun t => State.rd_wr_self t ..
  rw [coldBringup_of_cold hm hst h2]
  simp [State.phase, State.setPhase, State.rd_wr, hlock]

/-! ## PLL_LOCK (R76) -/

/-- CCLK runs while the root PLL of every present hub is in lock. -/
def State.lockPll (s : State) (d : Nat) : State :=
  let t := s.setBit .SVC_CLK_STATUS_PLL_LOCK 0 0 0 d
  { t with clk := { s.clk with run := s.hubs.all fun h => (t.rd .SVC_CLK_STATUS_PLL_LOCK 0 0 0).testBit h } }

theorem pllLock_present {s : State} {d : Nat} (hst : s.boot.stage = .bringUp) (hp : s.phase = 1 ∨ s.phase = 8) (hd : s.presentDies.testBit d = true)
    (hr : s.board.refAt.isSome = true) : s.pllLock d = s.lockPll d := by
  unfold State.pllLock
  rw [if_pos ⟨hst, hp, hd, hr⟩]
  rfl

theorem State.rd_orBits_self (s : State) (f : Fld) (d i j n : Nat) : (s.orBits f d i j n).rd f d i j = s.rd f d i j ||| n := s.rd_wr_self ..

/-- Setting a bit sets it. -/
theorem State.setBit_testBit (s : State) (f : Fld) (d i j b : Nat) : ((s.setBit f d i j b).rd f d i j).testBit b = true := by
  rw [State.setBit, State.rd_orBits_self, Nat.testBit_or, Nat.testBit_two_pow_self, Bool.or_true]

theorem State.RegsBut.setBit {s t : State} {l : List Fld} (h : s.RegsBut t l) {f : Fld} (hf : f ∈ l) {d i j b : Nat} : s.RegsBut (t.setBit f d i j b) l :=
  h.wr hf

/-- Settles O17: each of the three commands is one update of the board, the start or the clocks, and of registers of its own. -/
theorem coldBringUpBegins : Obligations.ColdBringUpBegins := by
  refine ⟨fun s st hi hp => ?_, fun s hi hst hp hw he hk hg hr h2 => ?_, fun s d hi hst hp hd hr => ?_⟩
  · have hx : exec (.pkgRstN true st) s = .next (s.pkgRstN true st) := by
      show Host.Outcome.next (s.pkgRstN true st).done = _
      rw [pkgRstN_rise st hp]
      exact congrArg Host.Outcome.next (done_of_eq hi rfl rfl rfl rfl rfl rfl rfl rfl)
    rw [pkgRstN_rise st hp] at hx
    exact ⟨_, hx, rfl, State.rd_wr_self .., (State.RegsBut.refl s _).wr (by decide), rfl, fun hc hd => i3cTarget_of_live hc hd, rfl⟩
  · have hm := mayColdStart_of_good hst hp hw he hk hg hr h2
    obtain ⟨hphase, hkind, hlock, hslot⟩ := coldBringup_rd hm hst h2
    obtain ⟨R, hR⟩ := coldBringup_parts hm hst h2
    have hx : exec .coldBringup s = .next s.coldBringup := by
      show Host.Outcome.next s.coldBringup.done = _
      rw [hR]
      exact congrArg Host.Outcome.next (done_of_eq hi rfl rfl rfl rfl rfl rfl rfl rfl)
    have hboot : s.coldBringup.boot = s.coldBoot := by rw [hR]
    refine ⟨_, hx, ?_⟩
    rw [hboot]
    refine ⟨rfl, hphase, rfl, rfl, hkind, hlock, ?_, ?_, fun ha => ?_, hslot, ?_, ?_, ?_⟩
    · rw [hR]
    · rw [hR]
    · rw [State.coldBoot, ha]
      exact bootSlot_eq s
    · rw [hR]; rfl
    · rw [hR]
    · rw [hR]
  · have hx : exec (.pllLock d) s = .next (s.lockPll d.val) := by
      show Host.Outcome.next (s.pllLock d.val).done = _
      rw [pllLock_present hst hp hd hr]
      exact congrArg Host.Outcome.next (done_of_eq hi rfl rfl rfl rfl rfl rfl rfl rfl)
    exact ⟨_, hx, State.setBit_testBit s .., (State.RegsBut.refl s _).setBit (f := .SVC_CLK_STATUS_PLL_LOCK) (by decide), rfl, List.all_eq_true⟩

end Sys2Proof.Machine
end

section
/-! SUPPORT. PF1: the trace records, events, layouts and images that it touches, and how it comes and goes (R61, R62). -/

namespace Sys2Proof.Machine

/-! ## Trace records (R420, R421) -/

/-- Nothing but the trace units and their count of lost records differs. -/
def State.Traced (s t : State) : Prop := (∃ R T, t = { s with regs := R, tracers := T }) ∧ s.RegsBut t [.TRC_STATUS_LOST]

theorem State.Traced.refl (s : State) : s.Traced s := ⟨⟨s.regs, s.tracers, rfl⟩, .refl s _⟩

theorem State.Traced.trans {s t u : State} (h : s.Traced t) (g : t.Traced u) : s.Traced u := by
  obtain ⟨⟨R, T, rfl⟩, hr⟩ := h
  obtain ⟨⟨Q, U, rfl⟩, gr⟩ := g
  exact ⟨⟨Q, U, rfl⟩, hr.trans gr⟩

theorem State.Traced.eq {s t : State} (h : s.Traced t) : t = { s with regs := t.regs, tracers := t.tracers } := by
  obtain ⟨⟨R, T, rfl⟩, -⟩ := h
  rfl

theorem State.Traced.foldl {α : Type} {F : State → α → State} (hF : ∀ (t : State) (x : α), t.Traced (F t x)) (xs : List α) (s : State) :
    s.Traced (xs.foldl F s) := by
  induction xs generalizing s with
  | nil => exact .refl s
  | cons x xs ih => exact (hF s x).trans (ih _)

theorem setTracer_traced (s : State) (h : Nat) (x : TracerSt) : s.Traced (s.setTracer h x) := ⟨⟨s.regs, _, rfl⟩, fun _ _ _ _ _ => rfl⟩

theorem State.RegsBut.count {s t : State} {l : List Fld} (h : s.RegsBut t l) {f : Fld} (hf : f ∈ l) {top d i j n : Nat} : s.RegsBut (t.count f top d i j n) l :=
  h.wr hf

theorem State.RegsBut.flag {s t : State} {l : List Fld} (h : s.RegsBut t l) {f : Fld} (hf : f ∈ l) {d i j : Nat} : s.RegsBut (t.flag f d i j) l :=
  h.wr hf

theorem pushTrace_traced (s : State) (h : Nat) (r : TraceRec) : s.Traced (s.pushTrace h r) := by
  unfold State.pushTrace
  split
  · dsimp only
    split
    · exact setTracer_traced ..
    · exact (setTracer_traced ..).trans ⟨⟨_, _, rfl⟩, (State.RegsBut.refl _ _).count (f := .TRC_STATUS_LOST) (by decide)⟩
  · exact .refl s

theorem powerRecord_traced (s : State) (e : Nat) : s.Traced (s.powerRecord e) := .foldl (fun t h => pushTrace_traced t h _) _ _

/-! ## Events of functions (R384) -/

/-- The bits of FN_EVENT_STATUS. -/
def fnEventFlds : List Fld := [.FN_EVENT_STATUS_READY, .FN_EVENT_STATUS_RESET_DONE, .FN_EVENT_STATUS_PF1, .FN_EVENT_STATUS_HINGE, .FN_EVENT_STATUS_THERMAL, .FN_EVENT_STATUS_REFUSED]

theorem FnEvent.fld_mem (e : FnEvent) : e.fld ∈ fnEventFlds := by cases e <;> decide

/-- Nothing but event bits and the messages they send differs. -/
def State.Told (s t : State) : Prop := (∃ R M O, t = { s with regs := R, msix := M, out := O }) ∧ s.RegsBut t fnEventFlds

theorem State.Told.refl (s : State) : s.Told s := ⟨⟨s.regs, s.msix, s.out, rfl⟩, .refl s _⟩

theorem State.Told.trans {s t u : State} (h : s.Told t) (g : t.Told u) : s.Told u := by
  obtain ⟨⟨R, M, O, rfl⟩, hr⟩ := h
  obtain ⟨⟨Q, N, P, rfl⟩, gr⟩ := g
  exact ⟨⟨Q, N, P, rfl⟩, hr.trans gr⟩

theorem State.Told.eq {s t : State} (h : s.Told t) : t = { s with regs := t.regs, msix := t.msix, out := t.out } := by
  obtain ⟨⟨R, M, O, rfl⟩, -⟩ := h
  rfl

/-- A signal sends a message or marks it pending. -/
theorem signal_sends (s : State) (f vec : Nat) : ∃ M O, s.signal f vec = { s with msix := M, out := O } := by
  unfold State.signal
  split
  · exact ⟨_, _, rfl⟩
  · dsimp only
    split
    · exact ⟨_, _, rfl⟩
    · split
      · exact ⟨_, _, rfl⟩
      · exact ⟨_, _, rfl⟩

theorem signal_rd (s : State) (f vec : Nat) (g : Fld) (d i j : Nat) : (s.signal f vec).rd g d i j = s.rd g d i j := by
  obtain ⟨M, O, h⟩ := signal_sends s f vec
  rw [h]
  rfl

theorem signal_told (s : State) (f vec : Nat) : s.Told (s.signal f vec) := by
  obtain ⟨M, O, h⟩ := signal_sends s f vec
  rw [h]
  exact ⟨⟨_, _, _, rfl⟩, fun _ _ _ _ _ => rfl⟩

theorem fnEvent_told (s : State) (f : Nat) (e : FnEvent) : s.Told (s.fnEvent f e) := by
  have hflag : s.Told (s.flag e.fld f 0 0) := ⟨⟨_, _, _, rfl⟩, (State.RegsBut.refl s _).flag e.fld_mem⟩
  unfold State.fnEvent
  dsimp only
  split
  · exact hflag.trans (signal_told ..)
  · exact hflag

theorem foldl_told {α : Type} {F : State → α → State} (hF : ∀ (t : State) (x : α), t.Told (F t x)) (xs : List α) (s : State) : s.Told (xs.foldl F s) := by
  induction xs generalizing s with
  | nil => exact .refl s
  | cons x xs ih => exact (hF s x).trans (ih _)

/-- An event's bit reads 1 at the function it is set for, and elsewhere as before. -/
theorem fnEvent_rd (s : State) (f g : Nat) (e : FnEvent) : (s.fnEvent f e).rd e.fld g 0 0 = if f = g then 1 else s.rd e.fld g 0 0 := by
  have hflag : (s.flag e.fld f 0 0).rd e.fld g 0 0 = if f = g then 1 else s.rd e.fld g 0 0 := by simp [State.rd_flag]
  unfold State.fnEvent
  dsimp only
  split
  · rw [signal_rd, hflag]
  · exact hflag

/-- Further events of one kind leave a bit that is set. -/
theorem foldl_fnEvent_rd {s : State} {e : FnEvent} {g : Nat} (h : s.rd e.fld g 0 0 = 1) (l : List Nat) : (l.foldl (fun t f => t.fnEvent f e) s).rd e.fld g 0 0 = 1 := by
  induction l generalizing s with
  | nil => exact h
  | cons f l ih => exact ih (by rw [fnEvent_rd, h, ite_self])

/-- An event of every function sets the physical function's bit. -/
theorem fnEventAll_rd (s : State) (e : FnEvent) : (s.fnEventAll e).rd e.fld 0 0 0 = 1 :=
  foldl_fnEvent_rd ((fnEvent_rd s 0 0 e).trans (if_pos rfl)) _

theorem fnEventAll_told (s : State) (e : FnEvent) : s.Told (s.fnEventAll e) := foldl_told (fun t f => fnEvent_told t f e) _ _

/-! ## What is staged ends (R55, R127) -/

/-- Starting a layout switch leaves the fields of an image. -/
theorem beginLayout_regsBut (s : State) : s.RegsBut s.beginLayout [.IMG_LAYOUT_CTRL_BUSY, .IMG_LAYOUT_CTRL_ERROR] := by
  unfold State.beginLayout
  dsimp only
  split
  · exact endLayout_regsBut s _
  · split
    · exact endLayout_regsBut s _
    · split
      · exact endLayout_regsBut s _
      · exact (State.RegsBut.wr (.refl s _) (by decide)).wr (by decide)

/-- Starting a layout switch stages no image. -/
theorem beginLayout_imagesStaged {s : State} (h : s.imagesStaged = false) : s.beginLayout.imagesStaged = false := by
  unfold State.beginLayout
  dsimp only
  split
  · exact endLayout_imagesStaged h _
  · split
    · exact endLayout_imagesStaged h _
    · split
      · exact endLayout_imagesStaged h _
      · show (s.staged ++ [_]).any Staged.isImage = false
        rw [List.any_append]
        exact Bool.or_eq_false_iff.mpr ⟨h, rfl⟩

/-- No image is staged and none is held. -/
def State.NoImage (s : State) : Prop := s.imagesStaged = false ∧ s.rd .IMG_CTRL_BUSY 0 0 0 ≠ 1

theorem startHeldLayout_noImage {s : State} (h : s.NoImage) : s.startHeldLayout.NoImage := by
  unfold State.startHeldLayout
  split
  · exact ⟨beginLayout_imagesStaged h.1, by rw [beginLayout_regsBut s _ 0 0 0 (by decide)]; exact h.2⟩
  · exact h

/-- Where no image is held, only a held layout switch starts. -/
theorem startHeld_noImage {s : State} (h : s.NoImage) : s.startHeld.NoImage := by
  have ht := startHeldLayout_noImage h
  rw [startHeld_eq, if_neg (by simp [ht.2])]
  exact ht

/-- The end of an image leaves none staged and none held. -/
theorem endImage_noImage (s : State) (code : Nat) : (s.endImage code).NoImage := by
  unfold State.endImage
  split
  · refine startHeld_noImage ⟨?_, ?_⟩
    · rw [(rejectImage_regsOnly ..).eq]
      show (s.staged.filter fun x => !x.isImage).any Staged.isImage = false
      simp [List.any_filter]
    · rw [(rejectImage_rejected ..).1]
      decide
  · next hc =>
    obtain ⟨hs, hb⟩ := Bool.or_eq_false_iff.mp (Bool.eq_false_iff.mpr hc)
    exact ⟨hs, by simpa using hb⟩

/-- The end of a layout switch leaves none staged, nor an image where none was. -/
theorem abortLayout_clears {s : State} (h : s.NoImage) (code : Nat) :
    (s.abortLayout code).imagesStaged = false ∧ (s.abortLayout code).layoutsStaged = false := by
  unfold State.abortLayout
  split
  · have hb : (s.endLayout code).rd .IMG_LAYOUT_CTRL_BUSY 0 0 0 = 0 := by simp [State.endLayout, State.rd_wr]
    have hn : (s.endLayout code).NoImage := ⟨endLayout_imagesStaged h.1 code, by rw [endLayout_regsBut s code _ 0 0 0 (by decide)]; exact h.2⟩
    have hl : (s.endLayout code).layoutsStaged = false := by
      show (s.staged.filter fun x => !x.isLayout).any Staged.isLayout = false
      simp [List.any_filter]
    have he : (s.endLayout code).startHeld = s.endLayout code := by
      unfold State.startHeld
      simp [hb, hn.2]
    rw [he]
    exact ⟨hn.1, hl⟩
  · next hc =>
    obtain ⟨hl, -⟩ := Bool.or_eq_false_iff.mp (Bool.eq_false_iff.mpr hc)
    exact ⟨h.1, hl⟩

/-- ABORTED leaves no image and no layout switch staged. -/
theorem abortStaged_clears (s : State) : s.abortStaged.imagesStaged = false ∧ s.abortStaged.layoutsStaged = false :=
  abortLayout_clears (endImage_noImage s _) _

theorem abortStaged_restaged (s : State) : s.Restaged s.abortStaged := (endImage_restaged s _).trans (abortLayout_restaged ..)

/-! ## PF1 (R61, R62, R386) -/

theorem emitNotices_of_no_colls {s : State} (h : s.colls = []) (tier reason : Nat) : s.emitNotices tier reason = s := by
  rw [State.emitNotices, h, List.foldl_nil]

theorem stallCheck_of_no_colls {s : State} (h : s.colls = []) (old : State) : s.stallCheck old = s := by
  unfold State.stallCheck
  dsimp only
  split
  · exact emitNotices_of_no_colls h ..
  · rfl

theorem filterDone_of_over {f : Option (Nat × Nat)} {u n now : Nat} (h : f = some (u, n)) (hn : u + n ≤ now) : filterDone f now = true := by
  rw [h]
  exact decide_eq_true hn

/-- PF1 holds from now, and PF1_SEEN is set. -/
def State.holdPf1 (s : State) : State :=
  (({ s with pf1 := true } : State).setSupply fun x => { x with pf1At := some s.now }).flag .SVC_PF_STATUS_PF1_SEEN 0 0 0

/-- PF1 with no collective in progress: what is staged ends, the functions are told, and the trace units record it. -/
theorem pf1Assert_of_no_colls {s : State} (hf : filterDone s.supply.pf1Filt s.now = true) (hp : s.pf1 = false) (hc : s.colls = []) :
    s.pf1Assert = (s.holdPf1.abortStaged.fnEventAll .pf1).powerRecord 0 := by
  have hn : s.holdPf1.abortStaged.colls = [] := by
    rw [(abortStaged_restaged s.holdPf1).eq]
    exact hc
  unfold State.pf1Assert
  rw [hf, hp]
  exact congrArg (fun t : State => (t.fnEventAll .pf1).powerRecord 0) (emitNotices_of_no_colls hn 2 2)

/-- What PF1 leaves, up to the records, messages and marks of its events. -/
theorem pf1_parts (s : State) : ∃ R S M O T,
    (s.holdPf1.abortStaged.fnEventAll .pf1).powerRecord 0 =
      { s with pf1 := true, supply := { s.supply with pf1At := some s.now }, regs := R, staged := S, msix := M, out := O, tracers := T } := by
  obtain ⟨⟨R, S, hS⟩, -⟩ := abortStaged_restaged s.holdPf1
  obtain ⟨⟨Q, M, O, hO⟩, -⟩ := fnEventAll_told s.holdPf1.abortStaged .pf1
  obtain ⟨⟨P, T, hT⟩, -⟩ := powerRecord_traced (s.holdPf1.abortStaged.fnEventAll .pf1) 0
  rw [hT, hO, hS]
  exact ⟨P, S, M, O, T, rfl⟩

/-- Its two marks, and nothing staged. -/
theorem pf1_marks (s : State) : let t := (s.holdPf1.abortStaged.fnEventAll .pf1).powerRecord 0
    t.rd .SVC_PF_STATUS_PF1_SEEN 0 0 0 = 1 ∧ t.imagesStaged = false ∧ t.layoutsStaged = false ∧ t.rd .FN_EVENT_STATUS_PF1 0 0 0 = 1 := by
  obtain ⟨-, ht⟩ := powerRecord_traced (s.holdPf1.abortStaged.fnEventAll .pf1) 0
  have hstaged : ((s.holdPf1.abortStaged.fnEventAll .pf1).powerRecord 0).staged = s.holdPf1.abortStaged.staged := by
    rw [(powerRecord_traced ..).eq, (fnEventAll_told ..).eq]
  obtain ⟨hi, hl⟩ := abortStaged_clears s.holdPf1
  refine ⟨?_, ?_, ?_, ?_⟩
  · rw [ht _ 0 0 0 (by decide), (fnEventAll_told s.holdPf1.abortStaged .pf1).2 _ 0 0 0 (by decide), (abortStaged_restaged s.holdPf1).2 _ 0 0 0 (by decide)]
    exact State.rd_wr_self ..
  · rw [State.imagesStaged, hstaged]
    exact hi
  · rw [State.layoutsStaged, hstaged]
    exact hl
  · rw [ht _ 0 0 0 (by decide)]
    exact fnEventAll_rd s.holdPf1.abortStaged .pf1

theorem exec_pf1 {s : State} (hi : s.Idle) (hf : filterDone s.supply.pf1Filt s.now = true) (hp : s.pf1 = false) :
    exec .pf1 s = .next ((s.holdPf1.abortStaged.fnEventAll .pf1).powerRecord 0) := by
  obtain ⟨R, S, M, O, T, h⟩ := pf1_parts s
  show Host.Outcome.next (s.pf1Assert.stallCheck s).done = _
  rw [pf1Assert_of_no_colls hf hp hi.2.2.1, stallCheck_of_no_colls (by rw [h]; exact hi.2.2.1), h]
  exact congrArg Host.Outcome.next (done_of_eq hi rfl rfl rfl rfl rfl rfl rfl rfl)

/-- PF1 no longer holds. -/
def State.endPf1 (s : State) : State := ({ s with pf1 := false } : State).setSupply fun x => { x with pf1At := none }

/-- A time since a tick has passed, where the tick is set. -/
theorem any_over {o : Option Nat} {a n now : Nat} (h : o = some a) (hn : a + n ≤ now) : (o.any fun t => decide (t + n ≤ now)) = true := by
  subst h
  exact decide_eq_true hn

theorem pf1Clear_of_recovered {s : State} {u : Nat} (h1 : s.pf1 = true) (h2 : s.pf2 = false) (hr : s.supply.recovAt = some u)
    (hu : u + 100000 ≤ s.now) : s.pf1Clear = s.endPf1.powerRecord 1 := by
  have hrec : s.recovered = true := any_over hr hu
  have hc : (s.pf1 && !s.pf2 && s.recovered) = true := by rw [h1, h2, hrec]; rfl
  exact if_pos hc

theorem exec_pf1Clear {s : State} (hi : s.Idle) (h : s.pf1Clear = s.endPf1.powerRecord 1) : exec .pf1Clear s = .next (s.endPf1.powerRecord 1) := by
  obtain ⟨⟨R, T, hT⟩, -⟩ := powerRecord_traced s.endPf1 1
  show Host.Outcome.next s.pf1Clear.done = _
  rw [h, hT]
  exact congrArg Host.Outcome.next (done_of_eq hi rfl rfl rfl rfl rfl rfl rfl rfl)

/-- Settles O12: PF1 ends what is staged, tells every function and is recorded, each of which touches its own fields; PF1_CLEAR undoes the hold. -/
theorem powerFailOneComesAndGoes : Obligations.PowerFailOneComesAndGoes := by
  refine ⟨fun s u n hi hf hu hp => ?_, fun s u hi h1 h2 hr hu => ?_⟩
  · obtain ⟨hseen, himg, hlay, hev⟩ := pf1_marks s
    obtain ⟨R, S, M, O, T, h⟩ := pf1_parts s
    refine ⟨_, exec_pf1 hi (filterDone_of_over hf hu) hp, ?_, ?_, hseen, himg, hlay, hev, ?_⟩
    all_goals rw [h]
    exact ⟨rfl, rfl, rfl, rfl, rfl, rfl⟩
  · obtain ⟨⟨R, T, hT⟩, hr'⟩ := powerRecord_traced s.endPf1 1
    refine ⟨_, exec_pf1Clear hi (pf1Clear_of_recovered h1 h2 hr hu), ?_, ?_, hr', ?_⟩
    all_goals rw [hT]
    all_goals rfl

end Sys2Proof.Machine
end

section
/-! SUPPORT. A state that the exit from self-refresh writes (R104): what O20 promises for every state holds for those a run reaches alone. -/

namespace Sys2Proof.Machine

/-- The state `stray` in phase 8 of a warm bring-up, with every PLL in lock: its write still stands in a queue, and no run reaches it. -/
def strayWarm : State :=
  { (stray.setPhase 8).wr .SVC_CLK_STATUS_PLL_LOCK 0 0 0 stray.presentDies with boot := { stray.boot with warm := true } }

theorem undrifted_strayWarm : ∀ q ∈ strayWarm.allPcs, strayWarm.drifted q.1 q.2 = false := by decide +kernel

/-- The exit from self-refresh issues the profile's one command on the first pseudo-channel, whose effect writes the queued write's first sector. -/
theorem exit_of_strayWarm : (strayWarm.selfRefreshExit [] [] [] []).Idle ∧ (strayWarm.selfRefreshExit [] [] [] []).mem ≠ [] ∧
    (strayWarm.selfRefreshExit [] [] [] []).cfg = some strayCfg := by
  unfold State.Idle
  decide +kernel

/-- Refutes O20: in its clause on SELF_REFRESH_EXIT_CHECK, a write of number 0 that stands in a queue is taken for the own write of operations 10, 11, 13 and 14
(their pointers name request 0) and lands in the stacks; on a package without panes nothing at the end of the step writes them, so they were not kept. -/
theorem not_warmBringUpKeepsTheStacks : ¬ Obligations.WarmBringUpKeepsTheStacks := by
  intro h
  obtain ⟨-, h⟩ := h
  obtain ⟨-, -, hexit, -⟩ := h strayWarm (by decide) (by decide)
  obtain ⟨u, hu, -, -, hmem, -⟩ := hexit [] [] [] (by decide) (by decide +kernel) undrifted_strayWarm
  obtain ⟨hidle, hne, hcfg⟩ := exit_of_strayWarm
  have hdone : u.done = strayWarm.selfRefreshExit [] [] [] [] := (Host.Outcome.next.inj hu).symm.trans (done_of_idle hidle)
  have hempty := u.done_staysEmpty fun m hm => (State.mem_of_unmapped hm).symm.trans hmem
  rw [hdone, State.unmapped, hcfg] at hempty
  exact hne (hempty _ (strayCfg_unmapped _))

end Sys2Proof.Machine
end

section
/-! SUPPORT. The core of the package (its clocks, fuses, stacks, board, supply and start) under what ends work in progress: these operations keep it. -/

namespace Sys2Proof.Machine

/-! ## Work in hand -/

/-- The clocks, the fuses, the configuration, the stacks, the board, the supply and the start: what ends work in hand touches none of them. -/
def State.base (s : State) : Clk × Fuses × Option RunCfg × List Host.Cell × BoardSt × SupplySt × BootSt × Bool × Bool :=
  (s.clk, s.fuse, s.cfg, s.mem, s.board, s.supply, s.boot, s.pf1, s.pf2)

/-- Fields that the end of a command, of a hinge or of a repair leaves marks in. -/
def workFlds : List Fld := [.TRC_STATUS_LOST, .QUEUE_STATE_STOPPED, .QUEUE_STATE_CAUSE, .SVC_HINGE_STATUS_ERROR]

/-- Only work in hand differs: requests, commands, records, and the fields that report on them. -/
def State.WorkOnly (s t : State) : Prop := t.base = s.base ∧ s.RegsBut t workFlds

theorem State.WorkOnly.refl (s : State) : s.WorkOnly s := ⟨rfl, .refl s _⟩

theorem State.WorkOnly.trans {s t u : State} (h : s.WorkOnly t) (g : t.WorkOnly u) : s.WorkOnly u := ⟨g.1.trans h.1, h.2.trans g.2⟩

/-- An update of anything else. -/
theorem State.WorkOnly.of_eq {s t : State} (hc : t.base = s.base) (hr : t.regs = s.regs) : s.WorkOnly t :=
  ⟨hc, fun f d i j _ => by rw [State.rd, hr, State.rd]⟩

theorem State.WorkOnly.wr {s t : State} (h : s.WorkOnly t) {f : Fld} (hf : f ∈ workFlds) {d i j v : Nat} : s.WorkOnly (t.wr f d i j v) :=
  ⟨h.1, h.2.wr hf⟩

theorem State.WorkOnly.foldl {α : Type} {F : State → α → State} (hF : ∀ (t : State) (x : α), t.WorkOnly (F t x)) (xs : List α) (s : State) :
    s.WorkOnly (xs.foldl F s) := by
  induction xs generalizing s with
  | nil => exact .refl s
  | cons x xs ih => exact (hF s x).trans (ih _)

theorem State.Traced.workOnly {s t : State} (h : s.Traced t) : s.WorkOnly t := by
  obtain ⟨⟨R, T, rfl⟩, hr⟩ := h
  exact ⟨rfl, fun f d i j hf => hr f d i j fun hm => hf (List.mem_cons.mpr (.inl (List.mem_singleton.mp hm)))⟩

theorem State.RequestsOnly.workOnly {s t : State} (h : s.RequestsOnly t) : s.WorkOnly t := by
  obtain ⟨D, R, P, C, A, rfl⟩ := h
  exact .of_eq rfl rfl

theorem signal_workOnly (s : State) (f vec : Nat) : s.WorkOnly (s.signal f vec) := by
  obtain ⟨M, O, h⟩ := signal_sends s f vec
  rw [h]
  exact .of_eq rfl rfl

/-! ## Commands end (R322, R331) -/

theorem stopQueue_workOnly (s : State) (q : QueueId) (st : Status) : s.WorkOnly (s.stopQueue q st) := by
  have hmark : s.WorkOnly ((s.qwr q .QUEUE_STATE_STOPPED 1).qwr q .QUEUE_STATE_CAUSE (Config.statusCode st)) :=
    ((State.WorkOnly.refl s).wr (f := .QUEUE_STATE_STOPPED) (by decide)).wr (f := .QUEUE_STATE_CAUSE) (by decide)
  unfold State.stopQueue
  dsimp only
  split
  · refine hmark.trans ?_
    unfold State.signalQueue
    split
    · exact signal_workOnly ..
    · exact .refl _
  · exact hmark

theorem setCmd_workOnly (s : State) (q : QueueId) (c : Cmd) : s.WorkOnly (s.setCmd q c) := .of_eq rfl rfl

theorem endCmd_workOnly (s : State) (q : QueueId) (idx : Nat) (st : Status) : s.WorkOnly (s.endCmd q idx st) := by
  unfold State.endCmd
  split
  · exact .refl s
  · next c _ =>
    split
    · exact .refl s
    · dsimp only
      have htrace : s.WorkOnly (if q.engine != .matrix && (s.setCmd q { c with ended := some st, flight := 0 }).rd .TRC_CTRL_CMDS q.inst.val 0 0 == 1 then
          (s.setCmd q { c with ended := some st, flight := 0 }).traceHub q.inst.val 0x03 (s.casOf q) 0 [queueCode q, c.fld 0 32 16, Config.statusCode st]
          else s.setCmd q { c with ended := some st, flight := 0 }) := by
        split
        · exact (setCmd_workOnly ..).trans (pushTrace_traced ..).workOnly
        · exact setCmd_workOnly ..
      split
      · exact htrace.trans (stopQueue_workOnly ..)
      · exact htrace

theorem endHinges_workOnly (s : State) (l : List QueueId) (st : Status) : s.WorkOnly (s.endHinges l st) := by
  refine .foldl (fun t q => ?_) _ _
  split
  · exact endCmd_workOnly ..
  · exact .refl t

theorem setPc_workOnly (s : State) (h p : Nat) (x : PcSt) : s.WorkOnly (s.setPc h p x) := .of_eq rfl rfl

theorem mapPcs_workOnly (s : State) (h : Nat) (f : PcSt → PcSt) : s.WorkOnly (s.mapPcs h f) := .foldl (fun t p => setPc_workOnly t h p _) _ _

/-- An abandoned hinge leaves its error; its commands end. -/
theorem abandonHinge_workOnly (s : State) : s.WorkOnly s.abandonHinge := by
  have hend : s.WorkOnly ((s.setHinge fun x => { x with step := 0, pend := none, waiters := [], runners := [], switchAt := none }).endHinges
      (s.hinge.runners ++ s.hinge.waiters) .halted) :=
    State.WorkOnly.trans (.of_eq rfl rfl) (endHinges_workOnly ..)
  unfold State.abandonHinge
  dsimp only
  split
  · exact hend
  · refine (hend.wr (f := .SVC_HINGE_STATUS_ERROR) (by decide)).trans (.foldl (fun t h => ?_) _ _)
    exact (mapPcs_workOnly ..).trans (pushTrace_traced ..).workOnly

theorem cutRepairs_workOnly (s : State) : s.WorkOnly s.cutRepairs := by
  refine .foldl (fun t x => ?_) _ _
  split
  · exact State.WorkOnly.trans (.of_eq rfl rfl) (endCmd_workOnly ..)
  · exact .of_eq rfl rfl

/-! ## Requests are discarded (R146, R407) -/

theorem finishBare_workOnly (s : State) (r : Req) (st : Status) : s.WorkOnly (s.finishBare r st) := .of_eq rfl rfl

theorem dropDoor_workOnly (s : State) (h d : Nat) (gone : Req → Bool) (st : Status) : s.WorkOnly (s.dropDoor h d gone st) :=
  State.WorkOnly.trans (.of_eq rfl rfl) (.foldl (fun t r => finishBare_workOnly t r st) _ _)

theorem endDeadLatch_workOnly (s : State) (h p : Nat) : s.WorkOnly (s.endDeadLatch h p) := by
  unfold State.endDeadLatch
  split
  · split
    · exact .refl s
    · exact .of_eq rfl rfl
  · exact .refl s

theorem dropDoors_workOnly (s : State) (h : Nat) (gone : Req → Bool) (st : Status) : s.WorkOnly (s.dropDoors h gone st) :=
  State.WorkOnly.trans (.foldl (fun t d => dropDoor_workOnly t h d gone st) _ _) (.foldl (fun t p => endDeadLatch_workOnly t h p) _ _)

theorem setRing_workOnly (s : State) (h dir : Nat) (l : List Req) : s.WorkOnly (s.setRing h dir l) := .of_eq rfl rfl

theorem dropRing_workOnly (s : State) (h : Nat) (gone : Req → Bool) (st : Status) : s.WorkOnly (s.dropRing h gone st) :=
  .foldl (fun t dir => State.WorkOnly.trans (setRing_workOnly t h dir _) (.foldl (fun u r => finishBare_workOnly u r st) _ _)) _ _

theorem dropTransit_workOnly (s : State) (h d : Nat) (st : Status) : s.WorkOnly (s.dropTransit h d st) :=
  State.WorkOnly.trans (.of_eq rfl rfl) (.foldl (fun t r => finishBare_workOnly t r st) _ _)

theorem answers_workOnly (s : State) (l : List Answer) : s.WorkOnly { s with answers := l } := .of_eq rfl rfl

/-- The reads of a pseudo-channel's queue that have issued nothing leave it. -/
def State.dropQueued (s : State) (q : Nat × Nat) : State :=
  (s.pc q.1 q.2).dropReads.2.foldl (fun t e => t.finishBare e.r .halted) (s.setPc q.1 q.2 (s.pc q.1 q.2).dropReads.1)

theorem dropQueued_workOnly (s : State) (q : Nat × Nat) : s.WorkOnly (s.dropQueued q) := by
  refine (setPc_workOnly s q.1 q.2 (s.pc q.1 q.2).dropReads.1).trans ?_
  exact .foldl (fun u (e : QEnt) => finishBare_workOnly u e.r .halted) _ _

/-- The reads of a hub's doors and ring ports leave them. -/
def State.dropWaiting (s : State) (h : Nat) : State := (s.dropDoors h (fun r => !r.write) .halted).dropRing h (fun r => !r.write) .halted

theorem dropWaiting_workOnly (s : State) (h : Nat) : s.WorkOnly (s.dropWaiting h) := (dropDoors_workOnly ..).trans (dropRing_workOnly ..)

/-- What was sent to the doors of a hub's engines and host leaves the wires. -/
def State.dropSent (s : State) (h : Nat) : State := [4, 5, 6, 7, 8].foldl (fun t d => t.dropTransit h d .halted) s

theorem dropSent_workOnly (s : State) (h : Nat) : s.WorkOnly (s.dropSent h) := .foldl (fun u d => dropTransit_workOnly u h d _) _ _

/-- Every read that has issued nothing, wherever it waits. -/
def State.dropAllReads (s : State) : State :=
  let t := s.hubs.foldl State.dropWaiting s
  let t := t.hubs.foldl State.dropSent t
  t.allPcs.foldl State.dropQueued t

theorem dropReads_eq (s : State) :
    s.dropReads = { s.dropAllReads with answers := s.answers ++ (s.dropAllReads.answers.drop s.answers.length).filter Answer.isHost } := rfl

theorem dropAllReads_workOnly (s : State) : s.WorkOnly s.dropAllReads :=
  (State.WorkOnly.foldl dropWaiting_workOnly _ _).trans ((State.WorkOnly.foldl dropSent_workOnly _ _).trans (.foldl dropQueued_workOnly _ _))

theorem dropReads_workOnly (s : State) : s.WorkOnly s.dropReads := by
  rw [dropReads_eq]
  exact (dropAllReads_workOnly s).trans (answers_workOnly ..)

/-! ## The drain begins (R63, R91, R92) -/

/-- What a drain or a cold start to come ends first: the hinge, the repairs and the casement resets. -/
def State.cutShort (s : State) : State := ({ s with resetting := [], caseWait := [] } : State).abandonHinge.cutRepairs

theorem cutShort_workOnly (s : State) : s.WorkOnly s.cutShort :=
  State.WorkOnly.trans (t := { s with resetting := [], caseWait := [] }) (.of_eq rfl rfl) ((abandonHinge_workOnly _).trans (cutRepairs_workOnly _))

/-- No pseudo-channel has ended its drain. -/
def State.undrained (s : State) : State := s.hubs.foldl (fun t h => t.mapPcs h fun x => { x with drained := false }) s

/-- The start and the supply of a drain that begins now. -/
def State.inDrain (s t : State) : State :=
  (t.setBoot fun x => { x with stage := .drained, wdog := none }).setSupply fun x => { x with drainFrom := some s.now }

theorem startDrain_eq (s : State) : s.startDrain = (s.inDrain s.cutShort.undrained).dropReads := rfl

end Sys2Proof.Machine
end

section
/-! SUPPORT. PF2: the drain or the cold start that it begins, and the sources that begin it (R61, R63, R92). -/

namespace Sys2Proof.Machine

/-- The parts of the core, one by one. -/
theorem base_eq_iff {s : State} {c : Clk} {f : Fuses} {g : Option RunCfg} {m : List Host.Cell} {b : BoardSt} {x : SupplySt} {y : BootSt} {p q : Bool} :
    s.base = (c, f, g, m, b, x, y, p, q) ↔
      s.clk = c ∧ s.fuse = f ∧ s.cfg = g ∧ s.mem = m ∧ s.board = b ∧ s.supply = x ∧ s.boot = y ∧ s.pf1 = p ∧ s.pf2 = q := by
  simp only [State.base, Prod.mk.injEq]

theorem State.RegsBut.mono {s t : State} {l k : List Fld} (h : s.RegsBut t l) (hl : ∀ f ∈ l, f ∈ k) : s.RegsBut t k :=
  fun f d i j hf => h f d i j fun hm => hf (hl f hm)

theorem State.Restaged.base {s t : State} (h : s.Restaged t) : t.base = s.base := by
  obtain ⟨⟨R, S, rfl⟩, -⟩ := h
  rfl

theorem undrained_workOnly (s : State) : s.WorkOnly s.undrained := .foldl (fun t h => mapPcs_workOnly t h _) _ _

/-- What the drain changes: the start and the supply, beside the work that it ends. -/
theorem startDrain_base (s : State) : s.startDrain.base = (s.clk, s.fuse, s.cfg, s.mem, s.board, { s.supply with drainFrom := some s.now },
    { s.boot with stage := .drained, wdog := none }, s.pf1, s.pf2) := by
  have hw := (cutShort_workOnly s).trans (undrained_workOnly _)
  obtain ⟨hclk, hfuse, hcfg, hmem, hboard, hsupply, hboot, h1, h2⟩ := base_eq_iff.mp hw.1
  rw [startDrain_eq, (dropReads_workOnly _).1, base_eq_iff]
  refine ⟨hclk, hfuse, hcfg, hmem, hboard, ?_, ?_, h1, h2⟩
  · show { s.cutShort.undrained.supply with drainFrom := some s.now } = _
    rw [hsupply]
  · show { s.cutShort.undrained.boot with stage := Stage.drained, wdog := none } = _
    rw [hboot]

theorem startDrain_regsBut (s : State) : s.RegsBut s.startDrain workFlds := by
  have hw := (cutShort_workOnly s).trans (undrained_workOnly _)
  rw [startDrain_eq]
  exact State.RegsBut.trans (t := s.inDrain s.cutShort.undrained) hw.2 (dropReads_workOnly _).2

/-- The stage from which a start that keeps nothing goes on. -/
def coldStage (x : Stage) : Stage := if x = .cold then .cold else .coldNext

theorem startColdNext_base (s : State) : s.startColdNext.base = (s.clk, s.fuse, s.cfg, s.mem, s.board, s.supply,
    { s.boot with stage := coldStage s.boot.stage, wdog := none }, s.pf1, s.pf2) := by
  obtain ⟨hclk, hfuse, hcfg, hmem, hboard, hsupply, hboot, h1, h2⟩ := base_eq_iff.mp (cutShort_workOnly s).1
  rw [base_eq_iff]
  refine ⟨hclk, hfuse, hcfg, hmem, hboard, hsupply, ?_, h1, h2⟩
  show { s.cutShort.boot with stage := coldStage s.cutShort.boot.stage, wdog := none } = _
  rw [hboot]

theorem startColdNext_regsBut (s : State) : s.RegsBut s.startColdNext workFlds := (cutShort_workOnly s).2

/-! ## PF2 (R61, R63, R92) -/

/-- PF2 holds, with the CAUSE of the next start. -/
def State.holdPf2 (s : State) (cause : Nat) : State :=
  (({ s with pf2 := true } : State).setSupply fun x => { x with cause := cause }).flag .SVC_PF_STATUS_PF2_SEEN 0 0 0

/-- What PF2 makes of the start: the drain, where the stacks hold what must outlive it, or a cold one to come. -/
def State.failStart (s : State) (t : State) : State :=
  if s.holdsData then (if s.boot.stage = .drained then t else t.startDrain) else t.startColdNext

theorem failStart_regsBut (s t : State) : t.RegsBut (s.failStart t) workFlds := by
  unfold State.failStart
  split
  · split
    · exact .refl t _
    · exact startDrain_regsBut t
  · exact startColdNext_regsBut t

/-- A trace unit stops: what it holds goes. -/
def TracerSt.stop (x : TracerSt) : TracerSt := { x with fifo := [], dieFifo := [], lost := 0, dieLost := 0 }

/-- Every trace unit stops, and keeps its POWER record alone (R423). -/
def State.stopTraces (s : State) : State := (s.hubs.foldl (fun t h => t.setTracer h (t.tracer h).stop) s).powerRecord 2

theorem stopTraces_workOnly (s : State) : s.WorkOnly s.stopTraces :=
  ((State.Traced.foldl (fun t h => setTracer_traced t h _) _ _).trans (powerRecord_traced ..)).workOnly

theorem startPf2_eq {s : State} (h : s.pf2 = false) (cause : Nat) : s.startPf2 cause = (s.failStart (s.holdPf2 cause).abortStaged).stopTraces := by
  unfold State.startPf2
  rw [if_neg (by simp [h])]
  rfl

/-- The fields that the start of PF2 marks, beside its own. -/
def powerFailFlds : List Fld := .SVC_PF_STATUS_PF2_SEEN :: stagingFlds ++ workFlds

theorem startPf2_regsBut (s : State) (cause : Nat) : s.RegsBut (s.startPf2 cause) powerFailFlds := by
  by_cases h : s.pf2 = true
  · rw [State.startPf2, if_pos h]
    exact .refl s _
  · have hhold : s.RegsBut (s.holdPf2 cause) powerFailFlds := (State.RegsBut.refl s _).flag (f := .SVC_PF_STATUS_PF2_SEEN) (by decide)
    have hstaged := (abortStaged_restaged (s.holdPf2 cause)).2.mono (k := powerFailFlds) (by decide)
    have hstart := (failStart_regsBut s (s.holdPf2 cause).abortStaged).mono (k := powerFailFlds) (by decide)
    have hstop := (stopTraces_workOnly (s.failStart (s.holdPf2 cause).abortStaged)).2.mono (k := powerFailFlds) (by decide)
    rw [startPf2_eq (Bool.eq_false_iff.mpr h)]
    exact hhold.trans (hstaged.trans (hstart.trans hstop))

/-- PF2_SEEN stays set through what PF2 ends. -/
theorem startPf2_seen {s : State} (h : s.pf2 = false) (cause : Nat) : (s.startPf2 cause).rd .SVC_PF_STATUS_PF2_SEEN 0 0 0 = 1 := by
  rw [startPf2_eq h, (stopTraces_workOnly _).2 _ 0 0 0 (by decide), failStart_regsBut s _ _ 0 0 0 (by decide),
    (abortStaged_restaged (s.holdPf2 cause)).2 _ 0 0 0 (by decide)]
  exact State.rd_wr_self ..

/-- What PF2 with a CAUSE leaves of the start, the supply and the rest of the core. -/
def State.PowerFails (s u : State) (cause : Nat) : Prop :=
  u.pf2 = true ∧ u.supply.cause = cause ∧ u.rd .SVC_PF_STATUS_PF2_SEEN 0 0 0 = 1 ∧
    (s.boot.stage = .cold → u.boot.stage = .cold) ∧
    (s.boot.stage ≠ .cold → s.holdsData = false → u.boot.stage = .coldNext) ∧
    (s.holdsData = true → u.boot.stage = .drained ∧ (s.boot.stage ≠ .drained → u.supply.drainFrom = some s.now)) ∧
    u.now = s.now ∧ u.fuse = s.fuse ∧ u.cfg = s.cfg ∧ u.mem = s.mem

theorem holdPf2_base (s : State) (cause : Nat) :
    (s.holdPf2 cause).base = (s.clk, s.fuse, s.cfg, s.mem, s.board, { s.supply with cause := cause }, s.boot, s.pf1, true) := rfl

/-- The core after PF2 is what the start makes of the one in which it holds. -/
theorem startPf2_base {s : State} (h : s.pf2 = false) (cause : Nat) :
    (s.startPf2 cause).base = (s.failStart (s.holdPf2 cause).abortStaged).base := by
  rw [startPf2_eq h, (stopTraces_workOnly _).1]

theorem not_holdsData_of_cold {s : State} (h : s.boot.stage = .cold) : s.holdsData = false := by
  rw [State.holdsData, h]
  rfl

theorem failStart_base (s t : State) : (s.failStart t).base =
    if s.holdsData then (if s.boot.stage = .drained then t.base else t.startDrain.base) else t.startColdNext.base := by
  unfold State.failStart
  split
  · split <;> rfl
  · rfl

theorem startPf2_powerFails {s : State} (h : s.pf2 = false) (cause : Nat) : s.PowerFails (s.startPf2 cause) cause := by
  have hseen := startPf2_seen h cause
  have hbase := startPf2_base h cause
  obtain ⟨hclk, hfuse, hcfg, hmem, hboard, hsupply, hboot, h1, h2⟩ :=
    base_eq_iff.mp ((abortStaged_restaged (s.holdPf2 cause)).base.trans (holdPf2_base s cause))
  have hnow : (s.holdPf2 cause).abortStaged.now = s.now := congrArg Clk.t64 hclk
  rw [failStart_base, startDrain_base, startColdNext_base, hclk, hfuse, hcfg, hmem, hboard, hsupply, hboot, h1, h2, hnow] at hbase
  by_cases hd : s.holdsData = true
  · have hcold : s.boot.stage ≠ .cold := fun e => by simp [not_holdsData_of_cold e] at hd
    by_cases hst : s.boot.stage = .drained
    · rw [if_pos hd, if_pos hst, (abortStaged_restaged (s.holdPf2 cause)).base, holdPf2_base] at hbase
      obtain ⟨uclk, ufuse, ucfg, umem, -, usupply, uboot, -, u2⟩ := base_eq_iff.mp hbase
      exact ⟨u2, by rw [usupply], hseen, fun e => absurd e hcold, fun _ e => absurd hd (by simp [e]),
        fun _ => ⟨by rw [uboot, hst], fun e => absurd hst e⟩, congrArg Clk.t64 uclk, ufuse, ucfg, umem⟩
    · rw [if_pos hd, if_neg hst] at hbase
      obtain ⟨uclk, ufuse, ucfg, umem, -, usupply, uboot, -, u2⟩ := base_eq_iff.mp hbase
      exact ⟨u2, by rw [usupply], hseen, fun e => absurd e hcold, fun _ e => absurd hd (by simp [e]),
        fun _ => ⟨by rw [uboot], fun _ => by rw [usupply]⟩, congrArg Clk.t64 uclk, ufuse, ucfg, umem⟩
  · rw [if_neg hd] at hbase
    obtain ⟨uclk, ufuse, ucfg, umem, -, usupply, uboot, -, u2⟩ := base_eq_iff.mp hbase
    exact ⟨u2, by rw [usupply], hseen, fun e => by rw [uboot, coldStage, if_pos e], fun e _ => by rw [uboot, coldStage, if_neg e],
      fun e => absurd e hd, congrArg Clk.t64 uclk, ufuse, ucfg, umem⟩

/-- PF2 leaves the board's pins. -/
theorem startPf2_board (s : State) (cause : Nat) : (s.startPf2 cause).board = s.board := by
  by_cases h : s.pf2 = true
  · rw [State.startPf2, if_pos h]
  · have hbase := startPf2_base (Bool.eq_false_iff.mpr h) cause
    obtain ⟨-, -, -, -, hboard, -⟩ := base_eq_iff.mp ((abortStaged_restaged (s.holdPf2 cause)).base.trans (holdPf2_base s cause))
    rw [failStart_base, startDrain_base, startColdNext_base, hboard] at hbase
    split at hbase
    · split at hbase
      · exact (congrArg (·.2.2.2.2.1) hbase).trans hboard
      · exact congrArg (·.2.2.2.2.1) hbase
    · exact congrArg (·.2.2.2.2.1) hbase

/-- A field that PF2 does not mark reads after it as before. -/
theorem startPf2_rd (s : State) (cause : Nat) {f : Fld} (hf : f ∉ powerFailFlds) (d i j : Nat) : (s.startPf2 cause).rd f d i j = s.rd f d i j :=
  startPf2_regsBut s cause f d i j hf

/-! ## Who starts PF2 (R61, R81, R289) -/

theorem exec_pf2 {s : State} {a n : Nat} (hf : s.supply.pf2Filt = some (a, n)) (hn : a + n ≤ s.now) : exec .pf2 s = .next (s.startPf2 6).done := by
  show Host.Outcome.next s.pf2Assert.done = _
  rw [State.pf2Assert, if_pos (filterDone_of_over hf hn)]

theorem exec_pfN {s : State} {ns : Nat} (h : 200 ≤ ns) : exec (.pfN ns) s = .next ((s.flag .SVC_PF_STATUS_PFN_SEEN 0 0 0).startPf2 6).done := by
  show Host.Outcome.next (s.pfN ns).done = _
  rw [State.pfN, if_pos h]

theorem exec_brownout {s : State} {a : Nat} (h1 : s.pf1 = true) (h2 : s.pf2 = false) (ha : s.supply.pf1At = some a) (hn : a + 1000000 ≤ s.now) :
    exec .brownout s = .next ((s.flag .SVC_PF_STATUS_BROWNOUT 0 0 0).startPf2 6).done := by
  have hc : (s.pf1 && !s.pf2 && s.supply.pf1At.any fun t => decide (t + Config.msTicks 10 ≤ s.now)) = true := by
    have hdue : (s.supply.pf1At.any fun t => decide (t + Config.msTicks 10 ≤ s.now)) = true := any_over ha hn
    rw [h1, h2, hdue]
    rfl
  show Host.Outcome.next s.brownout.done = _
  rw [State.brownout, if_pos hc]

/-- The reference is lost: REF_LOSS is set and ALIGNED falls (R81, R85). -/
def State.loseRef (s : State) : State := ((s.setBoard fun x => { x with refAt := none }).flag .SVC_CLK_STATUS_REF_LOSS 0 0 0).dropAligned

theorem exec_refLoss {s : State} {ns : Nat} (h : 200 ≤ ns) (hr : s.board.refAt.isSome = true) : exec (.refLoss ns) s = .next (s.loseRef.startPf2 7).done := by
  show Host.Outcome.next (s.refLoss ns).done = _
  rw [State.refLoss, if_pos ⟨h, hr⟩, State.loseRef]

theorem dropAligned_regsOnly (s : State) : s.RegsOnly s.dropAligned := by
  unfold State.dropAligned
  split
  · exact (State.RegsOnly.refl s).wr.flag
  · exact .refl s

theorem dropAligned_regsBut (s : State) : s.RegsBut s.dropAligned [.SVC_TIME_SYNC_ALIGNED, .SVC_TIME_SYNC_DRIFT] := by
  unfold State.dropAligned
  split
  · exact ((State.RegsBut.refl s _).wr (by decide)).flag (by decide)
  · exact .refl s _

theorem loseRef_parts (s : State) : (∃ R, s.loseRef = { s with board := { s.board with refAt := none }, regs := R }) ∧
    s.loseRef.rd .SVC_CLK_STATUS_REF_LOSS 0 0 0 = 1 := by
  refine ⟨?_, ?_⟩
  · obtain ⟨R, hR⟩ := dropAligned_regsOnly ((s.setBoard fun x => { x with refAt := none }).flag .SVC_CLK_STATUS_REF_LOSS 0 0 0)
    exact ⟨R, hR⟩
  · rw [State.loseRef, dropAligned_regsBut _ _ 0 0 0 (by decide)]
    exact State.rd_wr_self ..

/-- A trip's marks: TRIP, the die, and the stacks that read too hot. -/
def State.markTrip (s : State) (d : Nat) : State :=
  let t := (s.flag .SVC_THM_STATUS_TRIP 0 0 0).setBit .SVC_THM_STATUS_TRIP_SRC 0 0 0 d
  if d < 4 then t.orBits .SVC_THM_STATUS_TRIP_STACK 0 0 0 (s.tripStacks d) else t

theorem markTrip_regsOnly (s : State) (d : Nat) : s.RegsOnly (s.markTrip d) := by
  unfold State.markTrip
  dsimp only
  split
  · exact (State.RegsOnly.refl s).wr.note.wr.note.wr.note
  · exact (State.RegsOnly.refl s).wr.note.wr.note

theorem markTrip_rd (s : State) (d : Nat) : (s.markTrip d).rd .SVC_THM_STATUS_TRIP 0 0 0 = 1 ∧ ((s.markTrip d).rd .SVC_THM_STATUS_TRIP_SRC 0 0 0).testBit d = true := by
  have hstack : ∀ (t : State) (n : Nat) (f : Fld), .SVC_THM_STATUS_TRIP_STACK ≠ f → (t.orBits .SVC_THM_STATUS_TRIP_STACK 0 0 0 n).rd f 0 0 0 = t.rd f 0 0 0 :=
    fun t n f hf => t.rd_wr_fld hf
  have htrip : ((s.flag .SVC_THM_STATUS_TRIP 0 0 0).setBit .SVC_THM_STATUS_TRIP_SRC 0 0 0 d).rd .SVC_THM_STATUS_TRIP 0 0 0 = 1 :=
    (State.rd_wr_fld _ (by decide)).trans (State.rd_wr_self ..)
  unfold State.markTrip
  dsimp only
  split
  · rw [hstack _ _ _ (by decide), hstack _ _ _ (by decide)]
    exact ⟨htrip, State.setBit_testBit ..⟩
  · exact ⟨htrip, State.setBit_testBit ..⟩

theorem exec_thermTripN (d : DieNo) (s : State) : exec (.thermTripN d) s =
    .next ((((s.markTrip d.val).startPf2 9).setSupply fun x => { x with cause := 9 }).setBoard fun x => { x with trip := true }).done := rfl

/-- Settles O13: each source marks its own field and starts the one PF2 sequence, whose start follows from what the stacks hold. -/
theorem powerFailTwoStarts : Obligations.PowerFailTwoStarts := by
  intro s h2
  refine ⟨fun a n hf hn => ⟨_, exec_pf2 hf hn, startPf2_powerFails h2 6⟩, fun ns hn => ?_, fun a h1 ha hn => ?_, fun ns hn hr => ?_, fun d => ?_⟩
  · exact ⟨_, exec_pfN hn, startPf2_powerFails (s := s.flag .SVC_PF_STATUS_PFN_SEEN 0 0 0) h2 6, (startPf2_rd _ 6 (by decide) 0 0 0).trans (State.rd_wr_self ..)⟩
  · exact ⟨_, exec_brownout h1 h2 ha hn, startPf2_powerFails (s := s.flag .SVC_PF_STATUS_BROWNOUT 0 0 0) h2 6,
      (startPf2_rd _ 6 (by decide) 0 0 0).trans (State.rd_wr_self ..)⟩
  · obtain ⟨⟨R, hR⟩, hloss⟩ := loseRef_parts s
    have hfails : s.loseRef.PowerFails (s.loseRef.startPf2 7) 7 := startPf2_powerFails (by rw [hR]; exact h2) 7
    refine ⟨_, exec_refLoss hn hr, ?_, (startPf2_rd _ 7 (by decide) 0 0 0).trans hloss, by rw [startPf2_board, hR]⟩
    rw [hR] at hfails ⊢
    exact hfails
  · obtain ⟨htrip, hsrc⟩ := markTrip_rd s d.val
    obtain ⟨R, hR⟩ := markTrip_regsOnly s d.val
    have hfails : (s.markTrip d.val).PowerFails ((s.markTrip d.val).startPf2 9) 9 := startPf2_powerFails (by rw [hR]; exact h2) 9
    obtain ⟨u2, -, useen, ucold, ucoldNext, udrain, unow, ufuse, ucfg, umem⟩ := hfails
    refine ⟨_, exec_thermTripN d s, ?_, (startPf2_rd _ 9 (by decide) 0 0 0).trans htrip, ?_, rfl⟩
    · rw [hR] at u2 useen ucold ucoldNext udrain unow ufuse ucfg umem ⊢
      exact ⟨u2, rfl, useen, ucold, ucoldNext, udrain, unow, ufuse, ucfg, umem⟩
    · exact (congrArg (Nat.testBit · d.val) (startPf2_rd _ 9 (by decide) 0 0 0)).trans hsrc

end Sys2Proof.Machine
end

section
/-! SUPPORT. Warm resets: they drain the package and keep what its stacks hold (R75, R91, R93). -/

namespace Sys2Proof.Machine

/-- The marks of a warm reset: no quiesced pane, and the CAUSE of the next start (R91). -/
def State.markCause (s : State) (cause : Nat) : State :=
  (((s.wr .IMG_QUIESCE_PANES 0 0 0 0).wr .IMG_QUIESCED_PANES 0 0 0 0).wr .SVC_BOOT_STATUS_CAUSE 0 0 0 cause).setSupply fun x => { x with cause := cause }

theorem markCause_base (s : State) (cause : Nat) :
    (s.markCause cause).base = (s.clk, s.fuse, s.cfg, s.mem, s.board, { s.supply with cause := cause }, s.boot, s.pf1, s.pf2) := rfl

/-- A warm reset before its drain: no image stays staged, and it is marked. -/
def State.markWarm (s : State) (cause : Nat) : State := s.abortStaged.markCause cause

theorem base_markWarm (s : State) (cause : Nat) :
    (s.markWarm cause).base = (s.clk, s.fuse, s.cfg, s.mem, s.board, { s.supply with cause := cause }, s.boot, s.pf1, s.pf2) := by
  obtain ⟨hclk, hfuse, hcfg, hmem, hboard, hsupply, hboot, h1, h2⟩ := base_eq_iff.mp (abortStaged_restaged s).base
  rw [State.markWarm, markCause_base, hclk, hfuse, hcfg, hmem, hboard, hsupply, hboot, h1, h2]

theorem cause_markWarm (s : State) (cause : Nat) : (s.markWarm cause).rd .SVC_BOOT_STATUS_CAUSE 0 0 0 = cause := State.rd_wr_self ..

/-- The package runs with its memory cleared, so that its stacks hold what a reset must keep. -/
def State.Runs (s : State) : Prop := s.boot.stage = .running ∧ s.boot.cleared = true ∧ s.pf2 = false

theorem State.Runs.holdsData {s : State} (h : s.Runs) : s.holdsData = true := by
  obtain ⟨hstage, hcleared, -⟩ := h
  simp [State.holdsData, hstage, hcleared]

theorem State.Runs.setBoard {s : State} (h : s.Runs) (f : BoardSt → BoardSt) : (s.setBoard f).Runs := h

/-- A running package begins the drain. -/
theorem warmReset_eq {s : State} (h : s.Runs) (cause : Nat) : s.warmReset cause = (s.markWarm cause).startDrain := by
  obtain ⟨-, -, -, -, -, -, hboot, -⟩ := base_eq_iff.mp (base_markWarm s cause)
  have hdata := h.holdsData
  obtain ⟨hstage, -, h2⟩ := h
  have hstill : (s.markWarm cause).boot.stage ≠ .drained := by rw [hboot, hstage]; decide
  unfold State.warmReset
  rw [if_neg (by simp [h2]), if_neg (by simp [hdata])]
  exact if_neg hstill

/-- What a drain for a CAUSE leaves of the start and the supply, and what it keeps. -/
def State.Drains (s u : State) (cause : Nat) : Prop :=
  u.boot.stage = .drained ∧ u.supply.drainFrom = some s.now ∧ u.supply.cause = cause ∧ u.supply.keep = s.supply.keep ∧
    u.mem = s.mem ∧ u.cfg = s.cfg ∧ u.fuse = s.fuse ∧ u.now = s.now

/-- A warm reset of a running package drains it, records its CAUSE and leaves the board's pins. -/
theorem warmReset_drains {s : State} (h : s.Runs) (cause : Nat) :
    s.Drains (s.warmReset cause) cause ∧ (s.warmReset cause).rd .SVC_BOOT_STATUS_CAUSE 0 0 0 = cause ∧ (s.warmReset cause).board = s.board := by
  obtain ⟨hclk, hfuse, hcfg, hmem, hboard, hsupply, hboot, h1, h2⟩ := base_eq_iff.mp (base_markWarm s cause)
  have hnow : (s.markWarm cause).now = s.now := congrArg Clk.t64 hclk
  have hbase := startDrain_base (s.markWarm cause)
  rw [hclk, hfuse, hcfg, hmem, hboard, hsupply, hboot, h1, h2, hnow, ← warmReset_eq h] at hbase
  obtain ⟨uclk, ufuse, ucfg, umem, uboard, usupply, uboot, -, -⟩ := base_eq_iff.mp hbase
  refine ⟨⟨?_, ?_, ?_, ?_, umem, ucfg, ufuse, congrArg Clk.t64 uclk⟩, ?_, uboard⟩
  · rw [uboot]
  · rw [usupply]
  · rw [usupply]
  · rw [usupply]
  · rw [warmReset_eq h, startDrain_regsBut _ _ 0 0 0 (by decide), cause_markWarm]

/-! ## Who starts a warm reset -/

theorem exec_warmRstN_fall {s : State} (h : s.board.warmRst = true) :
    exec (.warmRstN false) s = .next ((s.setBoard fun x => { x with warmRst := false }).warmReset 2).done := by
  show Host.Outcome.next (s.warmRstN false).done = _
  rw [State.warmRstN, h, if_neg (by decide), if_neg (by decide)]

theorem exec_perstN_fall {s : State} (h : s.board.perst = true) :
    exec (.perstN false) s = .next ((s.setBoard fun x => { x with perst := false }).warmReset 3).done := by
  show Host.Outcome.next (s.perstN false).done = _
  rw [State.perstN, h, if_neg (by decide), if_neg (by decide)]

/-- With its key and WARM, and without COLD, a write of SVC_RST_CTRL is a warm reset. -/
theorem exec_keyed_warm (s : State) {v : BitVec 32} (h : v.toNat / 65536 = 0x5AC3) (hw : v.getLsbD 0 = true) (hc : v.getLsbD 1 = false) :
    exec (.warm v) s = .next (s.warmReset 4).done := by
  show Host.Outcome.next (s.rstCtrl v.toNat).done = _
  rw [State.rstCtrl, rst_key_field, rstKey, if_neg (not_not_intro h), BitVec.testBit_toNat, hc, if_neg (by decide), BitVec.testBit_toNat, if_pos hw]

/-- The core of a running package whose PWR_GOOD falls: CCLK stops and the next start is warm. -/
def State.loseRails (s : State) : State :=
  { s with
    board := { s.board with pwrGood := false }
    clk := { s.clk with run := false }
    boot := { s.boot with stage := .drained, wdog := none }
    supply := { s.supply with cause := 6, drainFrom := some s.now } }

theorem exec_pwrGoodLoss {s : State} (h : s.Runs) (hp : s.board.pwrGood = true) : exec .pwrGoodLoss s = .next s.loseRails.done := by
  have hlast : ¬ (s.board.pwrGood = false ∨ s.boot.stage = .cold ∨ s.boot.stage = .drained ∨ s.boot.stage = .coldNext) := by
    simp [hp, h.1]
  show Host.Outcome.next s.pwrGoodLoss.done = _
  unfold State.pwrGoodLoss
  rw [if_neg hlast, if_pos h.holdsData]
  rfl

/-- Settles O16: the three warm resets are one drain with a CAUSE, and a fall of PWR_GOOD stops CCLK and leaves the stage that a drain ends in. -/
theorem warmResetsDrainAndKeep : Obligations.WarmResetsDrainAndKeep := by
  intro s hstage hcleared h2
  have hruns : s.Runs := ⟨hstage, hcleared, h2⟩
  refine ⟨fun hb => ?_, fun hb => ?_, fun v hkey hw hc => ?_, fun hb => ?_⟩
  · obtain ⟨hdrain, hcause, hboard⟩ := warmReset_drains (hruns.setBoard fun x => { x with warmRst := false }) 2
    exact ⟨_, exec_warmRstN_fall hb, hdrain, hcause, congrArg BoardSt.warmRst hboard⟩
  · obtain ⟨hdrain, hcause, hboard⟩ := warmReset_drains (hruns.setBoard fun x => { x with perst := false }) 3
    exact ⟨_, exec_perstN_fall hb, hdrain, hcause, congrArg BoardSt.perst hboard⟩
  · obtain ⟨hdrain, hcause, -⟩ := warmReset_drains hruns 4
    exact ⟨_, exec_keyed_warm s hkey hw hc, hdrain, hcause⟩
  · exact ⟨_, exec_pwrGoodLoss hruns hb, ⟨rfl, rfl, rfl, rfl, rfl, rfl, rfl, rfl⟩, rfl, rfl⟩

end Sys2Proof.Machine
end

section
/-! SUPPORT. The header of a packet (R364). -/

namespace Sys2Proof.Machine

/-- A bit read from a header is the truth value that was put there. -/
theorem beq_one_of_toNat {n : Nat} {b : Bool} (h : n = b.toNat) : (n == 1) = b := by
  subst h
  cases b <;> rfl

/-- Each field of the header reads back from its place: the fields below it do not reach that place, and those above are multiples of the next. -/
theorem packetOfHeader_packetHeader {p : Packet} (h : p.wf = true) : packetOfHeader (packetHeader p) = { p with data := 0 } := by
  obtain ⟨dest, src, mclass, vc, flow, cas, cls, flits, tag, addr, set, status, step, data⟩ := p
  simp only [Packet.wf, Bool.and_eq_true, decide_eq_true_eq] at h
  obtain ⟨⟨⟨⟨⟨⟨⟨⟨⟨⟨hdest, hsrc⟩, hcas⟩, hcls⟩, htag⟩, haddr⟩, hmclass⟩, hflits⟩, hset⟩, hstatus⟩, hstep⟩ := h
  have hvc : vc.toNat < 2 := vc.toNat_lt
  have hflow : flow.toNat < 2 := flow.toNat_lt
  simp only [packetOfHeader, packetHeader, bitsOf, Packet.mk.injEq, and_true]
  refine ⟨?dest, ?src, ?mclass, beq_one_of_toNat ?vc, beq_one_of_toNat ?flow, ?cas, ?cls, ?flits, ?tag, ?addr, ?set, ?status, ?step⟩ <;> omega

end Sys2Proof.Machine
end

section
/-! SUPPORT. Ports: training, failure and retry (R358, R359). -/

namespace Sys2Proof.Machine

/-- A step whose effect is known. -/
theorem next_done_congr {t u : State} (h : t = u) : (Host.Outcome.next t.done : Host.Outcome State Fault Refusal) = .next u.done := by rw [h]

theorem count_rd (s : State) (f : Fld) (top d i j n : Nat) : (s.count f top d i j n).rd f d i j = min top (s.rd f d i j + n) := State.rd_wr_self ..

theorem setPort4_port4 (s : State) (h j : Nat) (x : TrwSt) : (s.setPort4 h j x).port4 h j = x := by
  rw [State.port4, State.setPort4, Tab.get_put, if_pos rfl]

theorem portTrained_of_trying {s : State} {h j : Nat} (half : Bool) (hon : s.portsOn h = true) (hen : s.portEnabled h j = true)
    (htry : (s.port4 h j).trying = true) (hdown : (s.port4 h j).up = false) :
    s.portTrained h j half = s.setPort4 h j { up := true, half := half, trying := false, streak := 0, retryAt := 0 } := by
  refine if_pos ?_
  rw [hon, hen, htry, hdown]
  rfl

/-- The port after its link has failed: down, with its next attempt 100 ms on. -/
def failedPort (now : Nat) : TrwSt := { up := false, half := false, trying := false, streak := 0, retryAt := now + Config.msTicks 100 }

def State.failPort (s : State) (h j : Nat) : State := (s.setPort4 h j (failedPort s.now)).count .TRW_PORT_STATUS_FAILS top16 h j 0 1

theorem failPort_port4 (s : State) (h j : Nat) : (s.failPort h j).port4 h j = failedPort s.now := setPort4_port4 s h j (failedPort s.now)

/-- A link that is up fails where it was silent too long or retried too often. -/
theorem portFailed_of_fails {s : State} {h j silent : Nat} (hup : (s.port4 h j).up = true)
    (hwhy : s.rd .TRW_LINK_FAIL_US h 0 0 ≤ silent ∨ 16 ≤ (s.port4 h j).streak) : s.portFailed h j silent = s.failPort h j :=
  if_pos (by simpa [hup] using hwhy)

theorem portFailed_of_lively {s : State} {h j silent : Nat} (hus : silent < s.rd .TRW_LINK_FAIL_US h 0 0) (hst : (s.port4 h j).streak < 16) :
    s.portFailed h j silent = s := by
  refine if_neg fun hc => ?_
  simp only [Bool.and_eq_true, Bool.or_eq_true, decide_eq_true_eq] at hc
  omega

/-- The port while it tries again, and the time of the attempt after that. -/
def State.retriedPort (s : State) (h j : Nat) : TrwSt := { s.port4 h j with trying := true, retryAt := s.now + Config.msTicks 100 }

theorem portRetry_of_due {s : State} {h j : Nat} (hon : s.portsOn h = true) (hen : s.portEnabled h j = true) (hdown : (s.port4 h j).up = false)
    (hdue : (s.port4 h j).retryAt ≤ s.now) : s.portRetry h j = s.setPort4 h j (s.retriedPort h j) := by
  refine if_pos ?_
  rw [hon, hen, hdown, decide_eq_true hdue]
  rfl

theorem portRetry_of_early {s : State} {h j : Nat} (hearly : s.now < (s.port4 h j).retryAt) : s.portRetry h j = s := by
  refine if_neg fun hc => ?_
  simp only [Bool.and_eq_true, decide_eq_true_eq] at hc
  omega

/-- The port after a flit's retry: a good copy ends the streak. -/
def State.retriedFlit (s : State) (h j : Nat) (ok : Bool) : TrwSt := { s.port4 h j with streak := if ok then 0 else min 16 ((s.port4 h j).streak + 1) }

def State.retryFlit (s : State) (h j : Nat) (ok : Bool) : State := (s.setPort4 h j (s.retriedFlit h j ok)).count .TRW_PORT_RETRY_COUNT top32 h j 0 1

theorem portFlitRetry_of_up {s : State} {h j : Nat} (hup : (s.port4 h j).up = true) (ok : Bool) : s.portFlitRetry h j ok = s.retryFlit h j ok := if_pos hup

theorem retryFlit_port4 (s : State) (h j : Nat) (ok : Bool) : (s.retryFlit h j ok).port4 h j = s.retriedFlit h j ok := setPort4_port4 s h j _

/-- Ports train, fail and retry (R358, R359). -/
theorem portsTrainFailAndRetry (s : State) (h : Hub) (j : Fin 4) :
    let x := s.port4 h.val j.val
    (∀ half, s.portsOn h.val = true → s.portEnabled h.val j.val = true → x.trying = true → x.up = false →
      ∃ u : State, exec (.portTraining h j half) s = .next u.done ∧ u = { s with trw := u.trw } ∧ u.port4 h.val j.val = { up := true, half := half, trying := false, streak := 0, retryAt := 0 }) ∧
    (∀ us, x.up = true → s.rd .TRW_LINK_FAIL_US h.val 0 0 ≤ us ∨ 16 ≤ x.streak →
      ∃ u : State, exec (.linkFail h j us) s = .next u.done ∧ u = { s with trw := u.trw, regs := u.regs } ∧ (u.port4 h.val j.val).up = false ∧ (u.port4 h.val j.val).retryAt = s.now + Config.msTicks 100 ∧
        u.rd .TRW_PORT_STATUS_FAILS h.val j.val 0 = min 65535 (s.rd .TRW_PORT_STATUS_FAILS h.val j.val 0 + 1) ∧ s.RegsBut u [.TRW_PORT_STATUS_FAILS]) ∧
    (∀ us, us < s.rd .TRW_LINK_FAIL_US h.val 0 0 → x.streak < 16 → exec (.linkFail h j us) s = .next s.done) ∧
    (s.portsOn h.val = true → s.portEnabled h.val j.val = true → x.up = false →
      (x.retryAt ≤ s.now → ∃ u : State, exec (.trainingRetry h j) s = .next u.done ∧ u = { s with trw := u.trw } ∧ u.port4 h.val j.val = { x with trying := true, retryAt := s.now + Config.msTicks 100 }) ∧
      (s.now < x.retryAt → exec (.trainingRetry h j) s = .next s.done)) ∧
    (∀ ok, x.up = true → ∃ u : State, exec (.trowiryFlitRetry h j ok) s = .next u.done ∧ u = { s with trw := u.trw, regs := u.regs } ∧
      (u.port4 h.val j.val).streak = (if ok then 0 else min 16 (x.streak + 1)) ∧ u.rd .TRW_PORT_RETRY_COUNT h.val j.val 0 = min (2 ^ 32 - 1) (s.rd .TRW_PORT_RETRY_COUNT h.val j.val 0 + 1) ∧
      s.RegsBut u [.TRW_PORT_RETRY_COUNT]) := by
  refine ⟨fun half hon hen htry hdown => ?_, fun us hup hwhy => ?_, fun us hus hst => ?_, fun hon hen hdown => ⟨fun hdue => ?_, fun hearly => ?_⟩, fun ok hup => ?_⟩
  · exact ⟨_, next_done_congr (portTrained_of_trying half hon hen htry hdown), rfl, setPort4_port4 ..⟩
  · refine ⟨s.failPort h.val j.val, next_done_congr (portFailed_of_fails hup hwhy), rfl, ?_, ?_, count_rd .., (State.RegsBut.refl s _).count (by decide)⟩
    · rw [failPort_port4, failedPort]
    · rw [failPort_port4, failedPort]
  · exact next_done_congr (portFailed_of_lively hus hst)
  · exact ⟨_, next_done_congr (portRetry_of_due hon hen hdown hdue), rfl, setPort4_port4 ..⟩
  · exact next_done_congr (portRetry_of_early hearly)
  · exact ⟨_, next_done_congr (portFlitRetry_of_up hup ok), rfl, by rw [retryFlit_port4, State.retriedFlit], count_rd .., (State.RegsBut.refl s _).count (by decide)⟩

end Sys2Proof.Machine
end

section
/-! SUPPORT. Routing (R361, R363). -/

namespace Sys2Proof.Machine

/-! ## ROUTE (R361 to R363) -/

/-- A packet that follows another from one origin to one node stays. -/
theorem route_of_behind {s : State} {h : Nat} {p : Packet} (hb : s.behind h p = true) : s.route h p = s := if_pos hb

theorem behind_second {s : State} {h : Nat} {p p0 : Packet} (htx : s.fabTx = [(h, p0), (h, p)]) (hne : p0 ≠ p) (hsrc : p0.src = p.src) (hdest : p0.dest = p.dest) :
    s.behind h p = true := by
  simp [State.behind, htx, hne, hsrc, hdest]

theorem not_behind_alone {s : State} {h : Nat} {p : Packet} (htx : s.fabTx = [(h, p)]) : s.behind h p = false := by
  simp [State.behind, htx]

/-- The flits of a packet are counted on the ring, where it leaves at another hub, and at the port. -/
def State.countHop (s : State) (h t : Nat) (p : Packet) : State :=
  (if t / 4 = h then s else s.tally h 0x11 none [ringDirOf h (t / 4) t] none (flitsOf p)).tally (t / 4) 0x12 none [t % 4] none (flitsOf p)

theorem countHop_regsOnly (s : State) (h t : Nat) (p : Packet) : s.RegsOnly (s.countHop h t p) := by
  refine State.RegsOnly.trans ?_ (State.tally_regsOnly ..)
  split
  · exact .refl s
  · exact State.tally_regsOnly ..

/-- What ROUTE makes of a packet once it has left the queue of hub h. -/
def State.routed (s : State) (h : Nat) (p : Packet) : State :=
  if 8 ≤ p.mclass then s.count .TRW_UNROUTABLE_COUNT top32 h 0 0 1
  else match s.routeOf p with
    | .here => { s with fabRx := s.fabRx ++ [(h, p)] }
    | .none => s.dropPacket h p true
    | .port t d minus =>
      if (ringRoute h (t / 4) t).any fun i => (s.link i).failed then s.dropPacket h p false
      else (s.countHop h t p).emit (.packet t { p with vc := match s.routeCfg with | some c => c.vcAfter p d minus | none => p.vc })

/-- The package without the packets that wait to set out. -/
def State.sentAll (s : State) : State := { s with fabTx := [] }

theorem route_alone {s : State} {h : Nat} {p : Packet} (htx : s.fabTx = [(h, p)]) : s.route h p = s.sentAll.routed h p := by
  have hnone : removeOne s.fabTx (h, p) = [] := by simp [removeOne, htx]
  unfold State.route
  rw [if_neg (by simp [not_behind_alone htx]), hnone]
  rfl

/-! ### The way of a packet does not look at what waits to set out -/

theorem sentAll_routeOther (s : State) (c : RouteCfg) (p : Packet) (odd : Bool) (l : List Nat) :
    s.sentAll.routeOther c p odd l = s.routeOther c p odd l := by
  induction l with
  | nil => rfl
  | cons d l ih =>
    have hup : s.sentAll.firstUp (c.portsTo d (c.minus d p.dest) odd) = s.firstUp (c.portsTo d (c.minus d p.dest) odd) := rfl
    unfold State.routeOther
    rw [hup, ih]

theorem sentAll_routeOf (s : State) (p : Packet) : s.sentAll.routeOf p = s.routeOf p := by
  have hcfg : s.sentAll.routeCfg = s.routeCfg := rfl
  have hup : s.sentAll.firstUp = s.firstUp := rfl
  unfold State.routeOf
  simp only [hcfg, hup, sentAll_routeOther]
  rfl

/-! ### What becomes of it -/

theorem routed_of_bad_class {s : State} {p : Packet} (hm : 8 ≤ p.mclass) (h : Nat) : s.routed h p = s.count .TRW_UNROUTABLE_COUNT top32 h 0 0 1 := if_pos hm

theorem routed_here {s : State} {p : Packet} (hm : p.mclass < 8) (hr : s.routeOf p = .here) (h : Nat) :
    s.routed h p = { s with fabRx := s.fabRx ++ [(h, p)] } := by
  rw [State.routed, if_neg (by omega), hr]

/-- A request that no port takes is counted and answered with HALTED. -/
theorem routed_nowhere {s : State} {p : Packet} (hm : p.mclass < 2) (hr : s.routeOf p = .none) (h : Nat) :
    s.routed h p = (s.count .TRW_UNROUTABLE_COUNT top32 h 0 0 1).sendPacket h (answerTo p .halted none) := by
  rw [State.routed, if_neg (by omega), hr]
  exact if_pos hm

theorem routed_port {s : State} {h t d : Nat} {m : Bool} {p : Packet} {cfg : RouteCfg} (hm : p.mclass < 8) (hcfg : s.routeCfg = some cfg)
    (hr : s.routeOf p = .port t d m) (hl : ∀ i ∈ ringRoute h (t / 4) t, (s.link i).failed = false) :
    s.routed h p = (s.countHop h t p).emit (.packet t { p with vc := cfg.vcAfter p d m }) := by
  have hany : ¬ ((ringRoute h (t / 4) t).any fun i => (s.link i).failed) = true := by
    rw [List.any_eq_true]
    rintro ⟨i, hi, hf⟩
    simp [hl i hi] at hf
  rw [State.routed, if_neg (by omega), hr]
  refine (if_neg hany).trans ?_
  rw [hcfg]

/-- ROUTE delivers, sends on, refuses or keeps a packet (R361 to R363). -/
theorem routeMovesPacket (s : State) (h : Hub) (p : Packet) (htx : s.fabTx = [(h.val, p)]) :
    (∀ p0 : Packet, p0 ≠ p → p0.src = p.src → p0.dest = p.dest → exec (.route h p) { s with fabTx := [(h.val, p0), (h.val, p)] } = .next ({ s with fabTx := [(h.val, p0), (h.val, p)] } : State).done) ∧
    (8 ≤ p.mclass → ∃ u : State, exec (.route h p) s = .next u.done ∧ u.fabTx = [] ∧ u.rd .TRW_UNROUTABLE_COUNT h.val 0 0 = min (2 ^ 32 - 1) (s.rd .TRW_UNROUTABLE_COUNT h.val 0 0 + 1) ∧ u.out = s.out ∧ u.fabRx = s.fabRx) ∧
    (p.mclass < 8 → s.routeOf p = .here → ∃ u : State, exec (.route h p) s = .next u.done ∧ u = { s with fabTx := [], fabRx := s.fabRx ++ [(h.val, p)] }) ∧
    (p.mclass < 2 → s.routeOf p = .none → ∃ u : State, exec (.route h p) s = .next u.done ∧
      u.fabTx = [(h.val, { answerTo p .halted none with src := s.ownNode, flow := h.val % 2 == 1 })] ∧
      u.rd .TRW_UNROUTABLE_COUNT h.val 0 0 = min (2 ^ 32 - 1) (s.rd .TRW_UNROUTABLE_COUNT h.val 0 0 + 1) ∧ u.out = s.out) ∧
    (∀ t d m cfg, p.mclass < 8 → s.routeCfg = some cfg → s.routeOf p = .port t d m → (∀ i ∈ ringRoute h.val (t / 4) t, (s.link i).failed = false) →
      ∃ u : State, exec (.route h p) s = .next u.done ∧ u.fabTx = [] ∧ u.fabRx = s.fabRx ∧ u.out = s.out ++ [.packet t { p with vc := cfg.vcAfter p d m }] ∧ u.mem = s.mem) := by
  have hway : s.sentAll.routeOf p = s.routeOf p := sentAll_routeOf s p
  refine ⟨fun p0 hne hsrc hdest => ?_, fun hm => ?_, fun hm hr => ?_, fun hm hr => ?_, fun t d m cfg hm hcfg hr hl => ?_⟩
  · exact next_done_congr (route_of_behind (behind_second rfl hne hsrc hdest))
  · exact ⟨_, next_done_congr ((route_alone htx).trans (routed_of_bad_class hm h.val)), rfl, count_rd .., rfl, rfl⟩
  · exact ⟨_, next_done_congr ((route_alone htx).trans (routed_here hm (hway.trans hr) h.val)), rfl⟩
  · exact ⟨_, next_done_congr ((route_alone htx).trans (routed_nowhere hm (hway.trans hr) h.val)), rfl, count_rd .., rfl⟩
  · obtain ⟨R, hR⟩ := countHop_regsOnly s.sentAll h.val t p
    refine ⟨_, next_done_congr ((route_alone htx).trans (routed_port (s := s.sentAll) hm hcfg (hway.trans hr) hl)), ?_, ?_, ?_, ?_⟩ <;> rw [hR] <;> rfl

end Sys2Proof.Machine
end

section
/-! SUPPORT. The requests of the fabric (R215, R365). -/

namespace Sys2Proof.Machine

/-! ## What a counter's rise leaves (R408) -/

/-- The fields in which counters count. -/
def counterFlds : List Fld := [.CNT_VALUE_VALUE, .CNT_CFG_OVF]

theorem counterUp_regsBut (s : State) (bank k n : Nat) : s.RegsBut (s.counterUp bank k n) counterFlds := by
  unfold State.counterUp
  dsimp only
  split
  · exact ((State.RegsBut.refl s _).wr (by decide)).flag (by decide)
  · exact (State.RegsBut.refl s _).wr (by decide)

theorem tally_regsBut (s : State) (bank ev : Nat) (unit : Option Nat) (subs : List Nat) (cas : Option Nat) (n : Nat) :
    s.RegsBut (s.tally bank ev unit subs cas n) counterFlds := by
  unfold State.tally
  split
  · exact .refl s _
  · refine .foldl (fun t k => ?_) _ _
    split
    · exact counterUp_regsBut t bank k n
    · exact .refl t _

/-! ## RDREQ and WRREQ (R365) -/

/-- A request has left its port, and its flits are counted there. -/
def State.heard (s : State) (h j : Nat) (p : Packet) : State := (s.taken h p).tally h 0x12 none [4 + j] none (flitsOf p)

theorem heard_parts {s : State} {h : Nat} {p : Packet} (hrx : s.fabRx = [(h, p)]) (j : Nat) : ∃ R, s.heard h j p = { s with fabRx := [], regs := R } := by
  have hnone : removeOne s.fabRx (h, p) = [] := by simp [removeOne, hrx]
  obtain ⟨R, hR⟩ := State.tally_regsOnly (s.taken h p) h 0x12 none [4 + j] none (flitsOf p)
  refine ⟨R, ?_⟩
  rw [State.heard, hR, State.taken, hnone]

theorem heard_regsBut (s : State) (h j : Nat) (p : Packet) : s.RegsBut (s.heard h j p) counterFlds :=
  fun f d i k hf => tally_regsBut (s.taken h p) h 0x12 none [4 + j] none (flitsOf p) f d i k hf

/-- Decode looks at no register but the quiesced panes. -/
theorem heard_decode {s : State} {h : Nat} {p : Packet} (hrx : s.fabRx = [(h, p)]) (j g : Nat) (o : Offer) : (s.heard h j p).decode g o = s.decode g o := by
  have hpanes : (s.heard h j p).rd .IMG_QUIESCE_PANES 0 0 0 = s.rd .IMG_QUIESCE_PANES 0 0 0 := heard_regsBut s h j p _ 0 0 0 (by decide)
  obtain ⟨R, hR⟩ := heard_parts hrx j
  rw [hR] at hpanes ⊢
  unfold State.decode
  rw [hpanes]
  rfl

theorem fabricRequest_in_hinge {s : State} (hs : s.hinge.step ≠ 0) (h j : Nat) (p : Packet) : s.fabricRequest h j p = s :=
  if_pos (.inr (.inr (.inr hs)))

/-- A request for this node meets a hub that runs, outside a hinge. -/
def State.Hears (s : State) (h : Nat) (p : Packet) : Prop := p.dest = s.ownNode ∧ s.hubIn h = true ∧ s.clk.run = true ∧ s.hinge.step = 0

def State.acceptMask (s : State) : BitVec 32 := ((s.routeCfg).map (·.accept)).getD 0

/-- The status with which R365 refuses a request before decode. -/
def State.refusal (s : State) (p : Packet) : Option Status :=
  if 4 ≤ p.cls then some .badCommand else if p.addr % 256 ≠ 0 then some .badAlignment else if s.acceptMask.getLsbD p.cas = false then some .denied else none

theorem State.Hears.fabricRequest_refused {s : State} {h : Nat} {p : Packet} (hh : s.Hears h p) {st : Status} (hr : s.refusal p = some st) (j : Nat) :
    s.fabricRequest h j p = (s.heard h j p).sendPacket h (answerTo p st none) := by
  obtain ⟨hdest, hin, hrun, hstep⟩ := hh
  unfold State.refusal State.acceptMask at hr
  unfold State.fabricRequest
  rw [if_neg (by simp [hdest, hin, hrun, hstep])]
  dsimp only
  split at hr
  · next hcls => rw [if_pos hcls, Option.some.inj hr]; rfl
  split at hr
  · next hcls haddr => rw [if_neg hcls, if_pos haddr, Option.some.inj hr]; rfl
  split at hr
  · next hcls haddr hacc => rw [if_neg hcls, if_neg haddr, if_pos hacc, Option.some.inj hr]; rfl
  · cases hr

/-- A request that is not refused goes through door 4 on a credit. -/
theorem State.Hears.fabricRequest_offered {s u : State} {h j : Nat} {p : Packet} (hh : s.Hears h p) (hcls : p.cls < 4) (haddr : p.addr % 256 = 0)
    (hacc : s.acceptMask.getLsbD p.cas = true) (hroom : s.doorRoom h 4 ((Config.classOf p.cls).getD .normal) = true)
    (ho : (s.heard h j p).offer h 4 (requestOf p h j (p.mclass == 1)) (overrideOf p) (p.mclass == 1) = (u, none)) :
    s.fabricRequest h j p = u := by
  obtain ⟨hdest, hin, hrun, hstep⟩ := hh
  unfold State.acceptMask at hacc
  unfold State.fabricRequest
  rw [if_neg (by simp [hdest, hin, hrun, hstep])]
  dsimp only
  rw [if_neg (by omega), if_neg (by omega), if_neg (ne_false_of_eq_true hacc), if_neg (by simp [hroom])]
  unfold State.heard at ho
  rw [ho]

/-- A request that decodes to its own hub enters the transit of its door. -/
def State.accept (s : State) (door : Nat) (r : Req) : State := (s.beginReq r).1.sendDoor r.home door (s.beginReq r).2

theorem offer_of_decode {s : State} {h door : Nat} {r x : Req} {ovr : Option Nat} {may : Bool} (hd : s.decode h { r := r, ovr := ovr, ovrMay := may } = .inr x)
    (hown : x.hub = x.home) : s.offer h door r ovr may = (s.accept door x, none) := by
  unfold State.offer
  rw [hd]
  exact congrArg (·, none) (if_pos (.inl hown))

/-- What decode adds to a request is its place; the hub is the one that decodes. -/
theorem decode_keeps {s : State} {h : Nat} {o : Offer} {x : Req} (hd : s.decode h o = .inr x) :
    x.home = h ∧ x.org = o.r.org ∧ x.addr = o.r.addr ∧ x.write = o.r.write ∧ x.data = o.r.data := by
  unfold State.decode at hd
  split at hd
  · split at hd
    · cases hd
    split at hd
    · cases hd
    split at hd
    · cases hd
    dsimp only at hd
    split at hd
    · cases hd
    split at hd
    · cases hd
    obtain rfl := Sum.inr.inj hd
    exact ⟨rfl, rfl, rfl, rfl, rfl⟩
  · cases hd

theorem accept_sentTo (s : State) (door : Nat) (r : Req) : (s.beginReq r).2 ∈ ((s.accept door r).door r.home door).transit := by
  rw [State.accept, State.sendDoor_transit, if_pos rfl]
  exact List.mem_append_right _ (List.mem_singleton.mpr rfl)

theorem refusal_badCommand {s : State} {p : Packet} (hcls : 4 ≤ p.cls) : s.refusal p = some .badCommand := if_pos hcls

theorem refusal_badAlignment {s : State} {p : Packet} (hcls : p.cls < 4) (haddr : p.addr % 256 ≠ 0) : s.refusal p = some .badAlignment := by
  rw [State.refusal, if_neg (by omega), if_pos haddr]

theorem refusal_denied {s : State} {p : Packet} (hcls : p.cls < 4) (haddr : p.addr % 256 = 0) (hacc : s.acceptMask.getLsbD p.cas = false) :
    s.refusal p = some .denied := by
  rw [State.refusal, if_neg (by omega), if_neg (by omega), if_pos hacc]

/-- A refused request is answered, and nothing reaches the stacks. -/
def State.Answered (s : State) (h : Nat) (p : Packet) (st : Status) (u : State) : Prop :=
  u.fabRx = [] ∧ u.fabTx = [(h, { answerTo p st none with src := s.ownNode, flow := h % 2 == 1 })] ∧ u.mem = s.mem

theorem heard_answered {s : State} {h j : Nat} {p : Packet} (hrx : s.fabRx = [(h, p)]) (htx : s.fabTx = []) (st : Status) :
    s.Answered h p st ((s.heard h j p).sendPacket h (answerTo p st none)) := by
  obtain ⟨R, hR⟩ := heard_parts hrx j
  rw [hR]
  refine ⟨rfl, ?_, rfl⟩
  show s.fabTx ++ _ = _
  rw [htx]
  rfl

/-- A request whose packet has its place stands in the transit of door 4 of its hub, and its packet is gone. -/
theorem State.Hears.fabricRequest_accepted {s : State} {h j : Nat} {p : Packet} {x : Req} (hh : s.Hears h p) (hrx : s.fabRx = [(h, p)]) (htx : s.fabTx = [])
    (hcls : p.cls < 4) (haddr : p.addr % 256 = 0) (hacc : s.acceptMask.getLsbD p.cas = true) (hroom : s.doorRoom h 4 ((Config.classOf p.cls).getD .normal) = true)
    (hown : x.hub = x.home) (hd : s.decode h { r := requestOf p h j (p.mclass == 1), ovr := overrideOf p, ovrMay := p.mclass == 1 } = .inr x) :
    ∃ (u : State) (y : Req), s.fabricRequest h j p = u ∧ u.SentTo h 4 (.fabric h j p.src p.tag) p.addr (p.mclass == 1) y ∧
      y.data = (if p.mclass == 1 then p.data else 0) ∧ y.pc = x.pc ∧ y.row = x.row ∧ u.fabRx = [] ∧ u.fabTx = [] := by
  obtain ⟨hhome, horg, haddr', hwrite, hdata⟩ := decode_keeps hd
  refine ⟨_, ((s.heard h j p).beginReq x).2, hh.fabricRequest_offered hcls haddr hacc hroom (offer_of_decode ((heard_decode hrx j h _).trans hd) hown),
    ⟨?_, horg, haddr', hwrite⟩, hdata, rfl, rfl, ?_, ?_⟩
  · exact hhome ▸ accept_sentTo (s.heard h j p) 4 x
  · obtain ⟨R, hR⟩ := heard_parts hrx j
    rw [hR]
    rfl
  · obtain ⟨R, hR⟩ := heard_parts hrx j
    rw [hR]
    exact htx

/-- A hinge holds requests; else they are refused, or go through door 4 (R215, R365). -/
theorem fabricRequestsEnter (s : State) (h : Hub) (j : Fin 4) (p : Packet) (hrx : s.fabRx = [(h.val, p)]) (htx : s.fabTx = []) (hdest : p.dest = s.ownNode)
    (hin : s.hubIn h.val = true) (hrun : s.clk.run = true) :
    (s.hinge.step ≠ 0 → exec (.rdreq h j p) s = .next s.done ∧ exec (.wrreq h j p) s = .next s.done) ∧
    (s.hinge.step = 0 →
    let accept := ((s.routeCfg).map (·.accept)).getD 0
    let answered (i : Instr) (st : Status) : Prop := ∃ u : State, exec i s = .next u.done ∧ u.fabRx = [] ∧ u.fabTx = [(h.val, { answerTo p st none with src := s.ownNode, flow := h.val % 2 == 1 })] ∧ u.mem = s.mem
    (4 ≤ p.cls → answered (.rdreq h j p) .badCommand ∧ answered (.wrreq h j p) .badCommand) ∧
    (p.cls < 4 → p.addr % 256 ≠ 0 → answered (.rdreq h j p) .badAlignment ∧ answered (.wrreq h j p) .badAlignment) ∧
    (p.cls < 4 → p.addr % 256 = 0 → accept.getLsbD p.cas = false → answered (.rdreq h j p) .denied ∧ answered (.wrreq h j p) .denied) ∧
    (∀ r : Req, p.cls < 4 → p.addr % 256 = 0 → accept.getLsbD p.cas = true → s.doorRoom h.val 4 ((Config.classOf p.cls).getD .normal) = true → r.hub = r.home →
      (p.mclass = 0 → s.decode h.val { r := requestOf p h.val j.val false, ovr := overrideOf p, ovrMay := false } = .inr r →
        ∃ (u : State) (x : Req), exec (.rdreq h j p) s = .next u.done ∧ u.SentTo h.val 4 (.fabric h.val j.val p.src p.tag) p.addr false x ∧ x.pc = r.pc ∧ x.row = r.row ∧ u.fabRx = [] ∧ u.fabTx = []) ∧
      (p.mclass = 1 → s.decode h.val { r := requestOf p h.val j.val true, ovr := overrideOf p, ovrMay := true } = .inr r →
        ∃ (u : State) (x : Req), exec (.wrreq h j p) s = .next u.done ∧ u.SentTo h.val 4 (.fabric h.val j.val p.src p.tag) p.addr true x ∧ x.data = p.data ∧ x.pc = r.pc ∧ x.row = r.row ∧ u.fabRx = [] ∧ u.fabTx = []))) := by
  refine ⟨fun hs => ?_, fun hs => ?_⟩
  · have hstay := fabricRequest_in_hinge hs h.val j.val p
    exact ⟨next_done_congr hstay, next_done_congr hstay⟩
  have hh : s.Hears h.val p := ⟨hdest, hin, hrun, hs⟩
  have hans : ∀ st, s.refusal p = some st → ∃ u : State, s.fabricRequest h.val j.val p = u ∧ s.Answered h.val p st u :=
    fun st hr => ⟨_, hh.fabricRequest_refused hr j.val, heard_answered hrx htx st⟩
  refine ⟨fun hcls => ?_, fun hcls haddr => ?_, fun hcls haddr hacc => ?_, fun r hcls haddr hacc hroom hown => ⟨fun hm hd => ?_, fun hm hd => ?_⟩⟩
  · obtain ⟨u, hu, hans⟩ := hans _ (refusal_badCommand hcls)
    exact ⟨⟨u, next_done_congr hu, hans⟩, ⟨u, next_done_congr hu, hans⟩⟩
  · obtain ⟨u, hu, hans⟩ := hans _ (refusal_badAlignment hcls haddr)
    exact ⟨⟨u, next_done_congr hu, hans⟩, ⟨u, next_done_congr hu, hans⟩⟩
  · obtain ⟨u, hu, hans⟩ := hans _ (refusal_denied hcls haddr hacc)
    exact ⟨⟨u, next_done_congr hu, hans⟩, ⟨u, next_done_congr hu, hans⟩⟩
  · have hread : (p.mclass == 1) = false := by rw [hm]; rfl
    have haccepted := hh.fabricRequest_accepted (j := j.val) (x := r) hrx htx hcls haddr hacc hroom hown
    rw [hread] at haccepted
    obtain ⟨u, y, hu, hsent, -, hrest⟩ := haccepted hd
    exact ⟨u, y, next_done_congr hu, hsent, hrest⟩
  · have hwrite : (p.mclass == 1) = true := by rw [hm]; rfl
    have haccepted := hh.fabricRequest_accepted (j := j.val) (x := r) hrx htx hcls haddr hacc hroom hown
    rw [hwrite] at haccepted
    obtain ⟨u, y, hu, hsent, hrest⟩ := haccepted hd
    exact ⟨u, y, next_done_congr hu, hsent, hrest⟩

end Sys2Proof.Machine
end

section
/-! SUPPORT. Commands that end, and the responses of the fabric (R322, R344, R374). -/

namespace Sys2Proof.Machine

/-! ## Commands of a queue (R322) -/

/-- A command that stands in a queue reads back as it was set. -/
theorem cmd_setCmd {s : State} {q : QueueId} {c d : Cmd} (hc : s.cmd q d.idx = some c) : (s.setCmd q d).cmd q d.idx = some d := by
  have hidx : c.idx = d.idx := by simpa using List.find?_some hc
  have hkeep : ((fun y : Cmd => decide (y.idx = d.idx)) ∘ fun y => if y.idx = d.idx then d else y) = fun y => decide (y.idx = d.idx) := by
    funext y
    by_cases hy : y.idx = d.idx <;> simp [hy]
  have hfound : ((s.queue q).setCmd d).cmd d.idx = some d := by
    rw [QSt.cmd, QSt.setCmd, List.find?_map, hkeep]
    exact (congrArg _ hc).trans (congrArg some (if_pos hidx))
  rw [State.cmd, State.setCmd, State.queue, State.setQueue, Tab.get_put, if_pos rfl]
  exact hfound

/-- What reports an event to the host and the trace alone differs. -/
def State.Reported (s t : State) : Prop := ∃ R T M O, t = { s with regs := R, tracers := T, msix := M, out := O }

theorem State.Reported.refl (s : State) : s.Reported s := ⟨_, _, _, _, rfl⟩

theorem State.Reported.trans {s t u : State} (h : s.Reported t) (g : t.Reported u) : s.Reported u := by
  obtain ⟨R, T, M, O, rfl⟩ := h
  obtain ⟨R', T', M', O', rfl⟩ := g
  exact ⟨R', T', M', O', rfl⟩

theorem traceHub_reported (s : State) (h typ cas unit : Nat) (payload : List Nat) : s.Reported (s.traceHub h typ cas unit payload) := by
  obtain ⟨⟨R, T, hT⟩, -⟩ := pushTrace_traced s h { time := s.time64, typ := typ, die := h, cas := cas, unit := unit, payload := payload }
  exact ⟨R, T, _, _, hT⟩

theorem signalQueue_reported (s : State) (q : QueueId) : s.Reported (s.signalQueue q) := by
  unfold State.signalQueue
  split
  · obtain ⟨M, O, hO⟩ := signal_sends s _ (s.qrd q .QUEUE_CTRL_VECTOR)
    exact ⟨_, _, M, O, hO⟩
  · exact .refl s

theorem stopQueue_reported (s : State) (q : QueueId) (st : Status) : s.Reported (s.stopQueue q st) := by
  have hmark : s.Reported ((s.qwr q .QUEUE_STATE_STOPPED 1).qwr q .QUEUE_STATE_CAUSE (Config.statusCode st)) := ⟨_, _, _, _, rfl⟩
  unfold State.stopQueue
  dsimp only
  split
  · exact hmark.trans (signalQueue_reported ..)
  · exact hmark

/-- A command that has not ended takes its status; the rest of an end is report. -/
theorem endCmd_reported {s : State} {q : QueueId} {c : Cmd} {idx : Nat} (hc : s.cmd q idx = some c) (he : c.ended = none) (st : Status) :
    (s.setCmd q { c with ended := some st, flight := 0 }).Reported (s.endCmd q idx st) := by
  have htrace : (s.setCmd q { c with ended := some st, flight := 0 }).Reported
      (if q.engine != .matrix && (s.setCmd q { c with ended := some st, flight := 0 }).rd .TRC_CTRL_CMDS q.inst.val 0 0 == 1 then
        (s.setCmd q { c with ended := some st, flight := 0 }).traceHub q.inst.val 0x03 (s.casOf q) 0 [queueCode q, c.fld 0 32 16, Config.statusCode st]
        else s.setCmd q { c with ended := some st, flight := 0 }) := by
    split
    · exact traceHub_reported ..
    · exact .refl _
  unfold State.endCmd
  rw [hc]
  dsimp only
  rw [if_neg (by simp [he])]
  split
  · exact htrace.trans (stopQueue_reported ..)
  · exact htrace

theorem settleN_eq (c : Cmd) (n : Nat) : ∃ k l, c.settleN n = { c with progress := k, early := l } := by
  induction n generalizing c with
  | zero => exact ⟨_, _, rfl⟩
  | succ n ih =>
    unfold Cmd.settleN
    split
    · obtain ⟨k, l, h⟩ := ih { c with progress := c.progress + 1, early := c.early.filter fun k => k != c.progress }
      exact ⟨k, l, h⟩
    · exact ⟨_, _, rfl⟩

/-- Where a command has ended, and what its end keeps. -/
def State.EndsAs (s u : State) (q : QueueId) (idx : Nat) (st : Status) : Prop := u.EndedAs q idx st ∧ u.fabRx = s.fabRx ∧ u.mem = s.mem

theorem endCmd_endsAs {s : State} {q : QueueId} {c : Cmd} (hc : s.cmd q c.idx = some c) (he : c.ended = none) (st : Status) :
    s.EndsAs (s.endCmd q c.idx st) q c.idx st := by
  have hcmd := cmd_setCmd (d := { c with ended := some st, flight := 0 }) hc
  obtain ⟨R, T, M, O, h⟩ := endCmd_reported hc he st
  rw [h]
  exact ⟨⟨_, hcmd, rfl⟩, rfl, rfl⟩

/-- A command with nothing outstanding and nothing more to issue ends with its fault, or DONE. -/
theorem endIfDone_endsAs {s : State} {q : QueueId} {c : Cmd} {total : Nat} (hc : s.cmd q c.idx = some c) (hst : c.started = true) (he : c.ended = none)
    (hf : c.flight = 0) (hn : total ≤ c.next) : s.EndsAs (s.endIfDone q c.idx total) q c.idx (c.fault.getD .done) := by
  obtain ⟨k, l, hset⟩ : ∃ k l, c.settled = { c with progress := k, early := l } := settleN_eq c _
  have hover : (c.started && c.ended.isNone && c.flight == 0 && (c.fault.isSome || decide (total ≤ c.next))) = true := by simp [hst, he, hf, hn]
  unfold State.endIfDone
  rw [hc]
  dsimp only
  rw [hset]
  rw [if_pos hover]
  exact endCmd_endsAs (cmd_setCmd (d := { c with progress := k, early := l }) hc) he _

/-! ## SHARD_PUT (R366, R374) -/

theorem putPumpN_of_all_sent {s : State} {q : QueueId} {c : Cmd} {idx : Nat} (hc : s.cmd q idx = some c) (hn : c.putBlocks ≤ c.next) (n : Nat) :
    s.putPumpN q idx n = s := by
  have hone : s.putPump1 q idx = s := by
    unfold State.putPump1
    rw [hc]
    exact if_neg (by simp [Nat.not_lt.mpr hn])
  induction n with
  | zero => rfl
  | succ n ih => rw [State.putPumpN, hone, ih]

/-- A SHARD_PUT whose blocks have all left and come back ends; collectives that are over leave. -/
theorem putGo_ends {s : State} {q : QueueId} {c : Cmd} (hrx : s.fabRx = []) (hc : s.cmd q c.idx = some c) (hst : c.started = true) (he : c.ended = none)
    (hf : c.flight = 0) (hn : c.putBlocks ≤ c.next) : s.EndsAs (s.putGo q c.idx) q c.idx (c.fault.getD .done) := by
  have hends := endIfDone_endsAs hc hst he hf hn
  unfold State.putGo
  rw [hc]
  dsimp only
  rw [putPumpN_of_all_sent hc hn]
  obtain ⟨hended, hfab, hmem⟩ := hends
  refine ⟨hended, ?_, hmem⟩
  rw [State.sweepColls, hfab, hrx]
  rfl

/-- The command of a SHARD_PUT once one of its writes has been answered. -/
def Cmd.acked (c : Cmd) (st : Status) : Cmd :=
  if st = .done then { c with flight := c.flight - 1 } else ({ c with flight := c.flight - 1 } : Cmd).failed st

theorem acked_parts {c : Cmd} (hfault : c.fault = none) (st : Status) :
    (c.acked st).fault.getD .done = st ∧ ∃ f, c.acked st = { c with flight := c.flight - 1, fault := f } := by
  unfold Cmd.acked Cmd.failed
  split
  · next h => exact ⟨by simp [hfault, h], ⟨_, rfl⟩⟩
  · exact ⟨by simp [hfault], ⟨_, rfl⟩⟩

theorem putAck_eq {s : State} {q : QueueId} {c : Cmd} (hfault : c.fault = none) (hd : c.detail = 0) (st : Status) :
    s.putAck q c st = (s.setCmd q (c.acked st)).putGo q c.idx := by
  obtain ⟨-, f, hf⟩ := acked_parts hfault st
  have hdata : (c.acked st).putData = .done := by
    rw [hf, Cmd.putData, hd]
    rfl
  have hwhole : ¬ ((c.acked st).flight = 0 ∧ ((c.acked st).fault.isSome ∨ (c.acked st).putBlocks ≤ (c.acked st).next) ∧ (c.acked st).putData ≠ .done) := by
    simp [hdata]
  exact congrArg (fun d => (s.setCmd q d).putGo q c.idx) (if_neg hwhole)

/-- The last answer of a SHARD_PUT ends it with its status. -/
theorem putAck_ends {s : State} {q : QueueId} {c : Cmd} (hrx : s.fabRx = []) (hc : s.cmd q c.idx = some c) (hst : c.started = true) (he : c.ended = none)
    (hf : c.flight = 1) (hn : c.putBlocks ≤ c.next) (hfault : c.fault = none) (hd : c.detail = 0) (st : Status) :
    s.EndsAs (s.putAck q c st) q c.idx st := by
  obtain ⟨hgive, f, hacked⟩ := acked_parts hfault st
  rw [putAck_eq hfault hd]
  rw [hacked] at hgive ⊢
  have hends := putGo_ends (s := s.setCmd q { c with flight := c.flight - 1, fault := f }) (c := { c with flight := c.flight - 1, fault := f }) hrx
    (cmd_setCmd (d := { c with flight := c.flight - 1, fault := f }) hc) hst he (by simp [hf]) hn
  rw [hgive] at hends
  exact hends

/-- A SHARD_PUT that a TAG names has started and not ended. -/
theorem putFor_running {s : State} {tag : Nat} {q : QueueId} {c : Cmd} (h : s.putFor tag = some (q, c)) : c.started = true ∧ c.ended = none := by
  unfold State.putFor at h
  obtain ⟨d, hd, heq⟩ := Option.map_eq_some_iff.mp h
  have hrun := List.find?_some hd
  simp only [Bool.and_eq_true, Option.isNone_iff_eq_none] at hrun
  obtain ⟨⟨⟨hst, he⟩, -⟩, -⟩ := hrun
  obtain rfl : d = c := (Prod.mk.inj heq).2
  exact ⟨hst, he⟩

/-! ## RDRSP and WRACK (R215, R364) -/

theorem readResponse_in_hinge {s : State} (hs : s.hinge.step ≠ 0) (h : Nat) (p : Packet) : s.readResponse h p = s := if_pos hs

theorem writeAck_in_hinge {s : State} (hs : s.hinge.step ≠ 0) (h : Nat) (p : Packet) : s.writeAck h p = s := if_pos hs

theorem taken_alone {s : State} {h : Nat} {p : Packet} (hrx : s.fabRx = [(h, p)]) : s.taken h p = { s with fabRx := [] } := by
  have hnone : removeOne s.fabRx (h, p) = [] := by simp [removeOne, hrx]
  rw [State.taken, hnone]

/-- The block of a page that a response brings. -/
def State.blockOf (s : State) (c : CopySt) (p : Packet) : Nat := (p.addr - (s.pool c.cas c.pool).slotAddr c.slot) / 256

/-- A page copy with one more block. -/
def CopySt.gain (y : CopySt) (k : Nat) (data : Block) : CopySt := { y with got := (y.got.erase k).insert k data }

theorem gain_find (y : CopySt) (k : Nat) (data : Block) : (y.gain k data).got.find k = some data :=
  (Tab.find_insert _ _ _ _ ((Tab.find_erase ..).trans (if_pos rfl))).trans (if_pos rfl)

theorem readResponse_good {s : State} {h : Nat} {p : Packet} {c : CopySt} (hs : s.hinge.step = 0) (hrx : s.fabRx = [(h, p)])
    (hc : (s.copies.find? fun c => c.tag = p.tag ∧ c.fetch = true) = some c) (hst : p.status = 0) :
    s.readResponse h p = { s with fabRx := [], copies := s.copies.map fun y => if sameCopy y c then y.gain (s.blockOf c p) p.data else y } := by
  unfold State.readResponse
  rw [if_neg (by simp [hs]), taken_alone hrx]
  dsimp only
  rw [hc]
  exact if_neg (by simp [hst])

theorem sameCopy_self (c : CopySt) : sameCopy c c = true := by simp [sameCopy]

theorem writeAck_of_put {s : State} {h : Nat} {p : Packet} {q : QueueId} {c : Cmd} (hs : s.hinge.step = 0) (hrx : s.fabRx = [(h, p)]) (ht : p.tag < 4096)
    (hp : s.putFor p.tag = some (q, c)) : s.writeAck h p = ({ s with fabRx := [] } : State).putAck q c (statusOf p.status) := by
  have hput : ({ s with fabRx := [] } : State).putFor p.tag = some (q, c) := hp
  unfold State.writeAck
  rw [if_neg (by simp [hs]), taken_alone hrx]
  dsimp only
  rw [if_neg (by omega), hput]

theorem responsesWaitInHinge (s : State) (h : Hub) (p : Packet) (hs : s.hinge.step ≠ 0) : exec (.rdrsp h p) s = .next s.done ∧ exec (.wrack h p) s = .next s.done :=
  ⟨next_done_congr (readResponse_in_hinge hs h.val p), next_done_congr (writeAck_in_hinge hs h.val p)⟩

/-- A good RDRSP puts its block into the page copy of its TAG; the last WRACK of a SHARD_PUT ends it (R344, R374). -/
theorem responsesArrive (s : State) (h : Hub) (p : Packet) (hrx : s.fabRx = [(h.val, p)]) (hs : s.hinge.step = 0) :
    (∀ c, (s.copies.find? fun c => c.tag = p.tag ∧ c.fetch = true) = some c → p.status = 0 →
      ∃ (u : State) (y : CopySt), exec (.rdrsp h p) s = .next u.done ∧ u.fabRx = [] ∧ y ∈ u.copies ∧ y.tag = c.tag ∧
        y.got.find ((p.addr - (s.pool c.cas c.pool).slotAddr c.slot) / 256) = some p.data ∧ u.mem = s.mem) ∧
    (∀ q c st, p.tag < 4096 → s.putFor p.tag = some (q, c) → s.cmd q c.idx = some c → c.flight = 1 → c.putBlocks ≤ c.next → c.fault = none → c.detail = 0 → statusOf p.status = st →
      ∃ u : State, exec (.wrack h p) s = .next u.done ∧ u.fabRx = [] ∧ u.EndedAs q c.idx st ∧ u.mem = s.mem) := by
  refine ⟨fun c hc hst => ?_, fun q c st ht hp hc hf hn hfault hd hst => ?_⟩
  · refine ⟨_, c.gain (s.blockOf c p) p.data, next_done_congr (readResponse_good hs hrx hc hst), rfl, ?_, rfl, gain_find .., rfl⟩
    exact List.mem_map.mpr ⟨c, List.mem_of_find?_eq_some hc, if_pos (sameCopy_self c)⟩
  · obtain ⟨hstarted, hended⟩ := putFor_running hp
    obtain ⟨hend, hfab, hmem⟩ := putAck_ends (s := { s with fabRx := [] }) rfl hc hstarted hended hf hn hfault hd st
    exact ⟨_, next_done_congr (hst ▸ writeAck_of_put hs hrx ht hp), hfab, hend, hmem⟩

end Sys2Proof.Machine
end

section
/-! SUPPORT. The exchange of time (R84, R85). -/

namespace Sys2Proof.Machine

/-! ## The stamps of a TIME packet (R84) -/

theorem toTwos_lt (w : Nat) (x : Int) : toTwos w x < 2 ^ w := by
  have hpos : (0 : Int) < 2 ^ w := by positivity
  rw [toTwos, Int.toNat_lt (Int.emod_nonneg x hpos.ne')]
  exact_mod_cast Int.emod_lt_of_pos x hpos

/-- The number that the stamps make, a word each. -/
theorem stampData_toNat (x : TimeStamps) : (stampData x).toNat = x.t1 % 2 ^ 64 + x.t2 % 2 ^ 64 * 2 ^ 64 + x.t3 % 2 ^ 64 * 2 ^ 128 + toTwos 64 x.p * 2 ^ 192 +
    ((if x.answer then 1 else 0) + if x.aligned then 2 else 0) * 2 ^ 256 := by
  have hp := toTwos_lt 64 x.p
  have hflags : ((if x.answer then 1 else 0) + if x.aligned then 2 else 0) < 4 := by split <;> split <;> decide
  refine (BitVec.toNat_ofNat ..).trans (Nat.mod_eq_of_lt (Nat.lt_of_lt_of_le ?_ (Nat.pow_le_pow_right (by decide : 0 < 2) (by decide : 258 ≤ 2048))))
  omega

/-- Stamps of 64 bits read back from their packet. -/
theorem stampsOf_stampData {p : Packet} {x : TimeStamps} (hp : p.data = stampData x) :
    (stampsOf p).t1 = x.t1 % 2 ^ 64 ∧ (stampsOf p).t2 = x.t2 % 2 ^ 64 ∧ (stampsOf p).t3 = x.t3 % 2 ^ 64 ∧ (stampsOf p).answer = x.answer := by
  have htwos := toTwos_lt 64 x.p
  simp only [stampsOf, hp, stampData_toNat]
  refine ⟨?_, ?_, ?_, ?_⟩
  · omega
  · omega
  · omega
  · rw [Nat.testBit_zero]
    cases x.answer <;> cases x.aligned <;> simp <;> omega

/-! ## TIME_EXCHANGE (R84) -/

/-- The period of the last request is over. -/
def State.timeDue (s : State) : Prop := ∀ a, s.timeAsk = some a → a.1 + a.2 ≤ s.now

/-- The time of a request, with the period that stands now. -/
def State.asks (s : State) : Option (Nat × Nat) := some (s.now, Config.usTicks (s.rd .SVC_TIME_SYNC_PERIOD_US 0 0 0))

theorem timeExchange_of_early {s : State} {a : Nat × Nat} (ha : s.timeAsk = some a) (hn : s.now < a.1 + a.2) : s.timeExchange = s := by
  unfold State.timeExchange
  rw [ha]
  exact if_pos (by simp [Nat.not_le.mpr hn])

/-- The reference of time is aligned with itself. -/
def State.alignRef (s : State) : State := (({ s with timeAsk := s.asks } : State).wr .SVC_TIME_SYNC_ALIGNED 0 0 0 1).wr .SVC_TIME_SYNC_OFFSET 0 0 0 0

/-- A request for the time of a parent. -/
def State.timeRequest (s : State) (node : Nat) : Packet :=
  { blankPacket with
    dest := node, mclass := 7, flits := 1, data := stampData { t1 := s.time64, t2 := 0, t3 := 0, p := 0, answer := false, aligned := false } }

/-- What an exchange that is due does. -/
theorem timeExchange_of_due {s : State} (hst : s.boot.stage = .running) (hd : s.timeDue) :
    s.timeExchange = if s.isTimeRef then s.alignRef else s.timeParent.elim s fun x => ({ s with timeAsk := s.asks } : State).sendPacket x.2 (s.timeRequest x.1) := by
  have hgo : ∀ due : Bool, due = true → (s.boot.stage != .running || !due) = false := by
    rintro _ rfl
    rw [hst]
    rfl
  unfold State.timeExchange
  cases ha : s.timeAsk with
  | none =>
    dsimp only
    rw [hgo _ rfl]
    cases hp : s.timeParent <;> rfl
  | some a =>
    dsimp only
    rw [hgo _ (decide_eq_true (hd a ha))]
    cases hp : s.timeParent <;> rfl

/-! ## TIME packets (R84, R85) -/

theorem arrivedAt_alone {s : State} {h : Nat} {p : Packet} (hrx : s.fabRx = [(h, p)]) : s.arrivedAt p = h := by
  simp [State.arrivedAt, hrx]

/-- An answer to a child's request. -/
def State.timeAnswer (s : State) (p : Packet) : Packet :=
  { blankPacket with
    dest := p.src, mclass := 7, flits := 1,
    data := stampData { t1 := (stampsOf p).t1, t2 := s.time64, t3 := s.time64, p := s.ownOffset, answer := true, aligned := s.bit .SVC_TIME_SYNC_ALIGNED 0 0 0 } }

theorem timePacket_request {s : State} {h : Nat} {p : Packet} (hrx : s.fabRx = [(h, p)]) (hm : p.mclass = 7) (hd : p.dest = s.ownNode)
    (hst : s.boot.stage = .running) (ha : (stampsOf p).answer = false) :
    s.timePacket p = ({ s with fabRx := [] } : State).sendPacket h (s.timeAnswer p) := by
  unfold State.timePacket
  rw [if_neg (by simp [hm, hd, hst]), arrivedAt_alone hrx]
  dsimp only
  rw [taken_alone hrx]
  exact if_neg (by simp [ha])

/-- The offset that an exchange finds: half of what the way there took longer than the way back, and the parent's own. -/
def State.foundOffset (s : State) (x : TimeStamps) : Int := (((x.t2 : Int) - x.t1) - ((s.time64 : Int) - x.t3)) / 2 + x.p

theorem timePacket_answer {s : State} {h : Nat} {p : Packet} {a : Nat × Nat} (hrx : s.fabRx = [(h, p)]) (hm : p.mclass = 7) (hd : p.dest = s.ownNode)
    (hst : s.boot.stage = .running) (ha : (stampsOf p).answer = true) (hal : (stampsOf p).aligned = true) (hask : s.timeAsk = some a)
    (hlast : (a.1 : Int) + s.clk.stepped = (stampsOf p).t1) (href : s.isTimeRef = false) :
    s.timePacket p = ({ s with fabRx := [] } : State).measured (s.foundOffset (stampsOf p)) := by
  have huse : ((stampsOf p).aligned && s.timeAsk.any (fun y => ((y.1 : Int) + s.clk.stepped) == (stampsOf p).t1) && !s.isTimeRef) = true := by
    rw [hal, hask, href, Option.any_some, hlast]
    simp
  unfold State.timePacket
  rw [if_neg (by simp [hm, hd, hst]), arrivedAt_alone hrx]
  dsimp only
  rw [taken_alone hrx]
  exact (if_pos ha).trans (if_pos huse)

/-- The registers after an offset has been found: it is recorded, and ALIGNED says whether it is within 5 ticks. -/
def State.noteOffset (s : State) (off : Int) : State :=
  let t := s.wr .SVC_TIME_SYNC_OFFSET 0 0 0 (toTwos 8 (clampInt (-127) 127 off))
  if -5 ≤ off ∧ off ≤ 5 then t.wr .SVC_TIME_SYNC_ALIGNED 0 0 0 1 else t.dropAligned

theorem noteOffset_regsOnly (s : State) (off : Int) : s.RegsOnly (s.noteOffset off) := by
  unfold State.noteOffset
  dsimp only
  split
  · exact (State.RegsOnly.refl s).wr.wr
  · exact (State.RegsOnly.refl s).wr.trans (dropAligned_regsOnly _)

theorem noteOffset_near (s : State) {off : Int} (hn : -5 ≤ off ∧ off ≤ 5) : (s.noteOffset off).rd .SVC_TIME_SYNC_ALIGNED 0 0 0 = 1 := by
  rw [State.noteOffset, if_pos hn, State.rd_wr_self]

/-- An aligned package that is found too far off loses ALIGNED, and DRIFT says so. -/
theorem noteOffset_far {s : State} {off : Int} (hf : off < -5 ∨ 5 < off) (ha : s.rd .SVC_TIME_SYNC_ALIGNED 0 0 0 = 1) :
    (s.noteOffset off).rd .SVC_TIME_SYNC_ALIGNED 0 0 0 = 0 ∧ (s.noteOffset off).rd .SVC_TIME_SYNC_DRIFT 0 0 0 = 1 := by
  have hbit : (s.wr .SVC_TIME_SYNC_OFFSET 0 0 0 (toTwos 8 (clampInt (-127) 127 off))).bit .SVC_TIME_SYNC_ALIGNED 0 0 0 = true := by
    rw [State.bit, State.rd_wr_fld _ (by decide), ha]
    rfl
  rw [State.noteOffset, if_neg (by omega), State.dropAligned, if_pos hbit]
  refine ⟨?_, State.rd_wr_self ..⟩
  exact (State.rd_wr_fld _ (by decide)).trans (State.rd_wr_self ..)

/-- The clock after an offset has been found: a package that has not joined steps TIME64, another steers it. -/
def State.followOffset (s : State) (off : Int) : Clk :=
  if !s.joined && !s.bit .SVC_TIME_SYNC_ALIGNED 0 0 0 && s.traceOff then { s.clk with stepped := s.clk.stepped + off, steer := 0 } else { s.clk with steer := off }

theorem followOffset_of_apart {s : State} (hj : s.joined = false) (hb : s.bit .SVC_TIME_SYNC_ALIGNED 0 0 0 = false) (ht : s.traceOff = true) (off : Int) :
    s.followOffset off = { s.clk with stepped := s.clk.stepped + off, steer := 0 } :=
  if_pos (by rw [hj, hb, ht]; rfl)

theorem followOffset_of_joined {s : State} (hj : s.joined = true) (off : Int) : s.followOffset off = { s.clk with steer := off } :=
  if_neg (by rw [hj]; simp)

theorem measured_eq (s : State) (off : Int) : s.measured off = { s.noteOffset off with clk := s.followOffset off, joined := true } := by
  obtain ⟨R, hR⟩ := noteOffset_regsOnly s off
  have hnote : (if (decide (-5 ≤ off) && decide (off ≤ 5)) = true then
      (s.wr .SVC_TIME_SYNC_OFFSET 0 0 0 (toTwos 8 (clampInt (-127) 127 off))).wr .SVC_TIME_SYNC_ALIGNED 0 0 0 1
      else (s.wr .SVC_TIME_SYNC_OFFSET 0 0 0 (toTwos 8 (clampInt (-127) 127 off))).dropAligned) = s.noteOffset off := by
    simp only [Bool.and_eq_true, decide_eq_true_eq]
    rfl
  unfold State.measured
  dsimp only
  rw [hnote, hR]
  rfl

/-- Requests for the time, their answers, and what an aligned parent's answer does (R84, R85). -/
theorem timeIsExchanged (s : State) (hst : s.boot.stage = .running) :
    let asked := some (s.now, Config.usTicks (s.rd .SVC_TIME_SYNC_PERIOD_US 0 0 0))
    let due : Prop := ∀ a, s.timeAsk = some a → a.1 + a.2 ≤ s.now
    (∀ a, s.timeAsk = some a → s.now < a.1 + a.2 → exec .timeExchange s = .next s.done) ∧
    (due → s.isTimeRef = true → ∃ u : State, exec .timeExchange s = .next u.done ∧ u.timeAsk = asked ∧ u.rd .SVC_TIME_SYNC_ALIGNED 0 0 0 = 1 ∧ u.rd .SVC_TIME_SYNC_OFFSET 0 0 0 = 0 ∧
      s.RegsBut u [.SVC_TIME_SYNC_ALIGNED, .SVC_TIME_SYNC_OFFSET] ∧ u = { s with regs := u.regs, timeAsk := u.timeAsk }) ∧
    (∀ node h, due → s.isTimeRef = false → s.timeParent = some (node, h) → ∃ (u : State) (p : Packet), exec .timeExchange s = .next u.done ∧ u = { s with fabTx := s.fabTx ++ [(h, p)], timeAsk := asked } ∧
      p.dest = node ∧ p.src = s.ownNode ∧ p.mclass = 7 ∧ (s.time64 < 2 ^ 64 → (stampsOf p).t1 = s.time64 ∧ (stampsOf p).answer = false)) ∧
    (∀ (h : Hub) (p : Packet), s.fabRx = [(h.val, p)] → p.mclass = 7 → p.dest = s.ownNode →
      ((stampsOf p).answer = false → ∃ (u : State) (a : Packet), exec (.timePacket p) s = .next u.done ∧ u = { s with fabRx := [], fabTx := s.fabTx ++ [(h.val, a)] } ∧ a.dest = p.src ∧ a.mclass = 7 ∧
        (stampsOf a).t1 = (stampsOf p).t1 ∧ (stampsOf a).answer = true ∧ (s.time64 < 2 ^ 64 → (stampsOf a).t2 = s.time64 ∧ (stampsOf a).t3 = s.time64)) ∧
      (∀ (off : Int) (a : Nat × Nat), (stampsOf p).answer = true → (stampsOf p).aligned = true → s.timeAsk = some a → (a.1 : Int) + s.clk.stepped = (stampsOf p).t1 → s.isTimeRef = false →
        off = (((stampsOf p).t2 - (stampsOf p).t1 : Int) - ((s.time64 : Int) - (stampsOf p).t3)) / 2 + (stampsOf p).p →
        (s.joined = false → s.bit .SVC_TIME_SYNC_ALIGNED 0 0 0 = false → s.traceOff = true →
          ∃ u : State, exec (.timePacket p) s = .next u.done ∧ u.clk = { s.clk with stepped := s.clk.stepped + off, steer := 0 } ∧ u.joined = true ∧ u.mem = s.mem) ∧
        (s.joined = true → ∃ u : State, exec (.timePacket p) s = .next u.done ∧ u.clk = { s.clk with steer := off } ∧ (-5 ≤ off ∧ off ≤ 5 → u.rd .SVC_TIME_SYNC_ALIGNED 0 0 0 = 1) ∧
          ((off < -5 ∨ 5 < off) → s.rd .SVC_TIME_SYNC_ALIGNED 0 0 0 = 1 → u.rd .SVC_TIME_SYNC_ALIGNED 0 0 0 = 0 ∧ u.rd .SVC_TIME_SYNC_DRIFT 0 0 0 = 1) ∧ u.mem = s.mem))) := by
  refine ⟨fun a ha hn => ?_, fun hd href => ?_, fun node h hd href hpar => ?_, fun h p hrx hm hdest => ⟨fun ha => ?_, fun off a ha hal hask hlast href hoff => ?_⟩⟩
  · exact next_done_congr (timeExchange_of_early ha hn)
  · refine ⟨_, next_done_congr ((timeExchange_of_due hst hd).trans (if_pos href)), rfl, ?_, State.rd_wr_self .., ?_, rfl⟩
    · exact (State.rd_wr_fld _ (by decide)).trans (State.rd_wr_self ..)
    · exact ((State.RegsBut.refl s _).wr (by decide)).wr (by decide)
  · obtain ⟨ht1, -, -, hans⟩ := stampsOf_stampData (p := s.timeRequest node) rfl
    have hgo : s.timeExchange = ({ s with timeAsk := s.asks } : State).sendPacket h (s.timeRequest node) := by
      rw [timeExchange_of_due hst hd, if_neg (by simp [href]), hpar]
      rfl
    exact ⟨_, _, next_done_congr hgo, rfl, rfl, rfl, rfl, fun hlt => ⟨ht1.trans (Nat.mod_eq_of_lt hlt), hans⟩⟩
  · obtain ⟨ht1, ht2, ht3, hans⟩ := stampsOf_stampData (p := s.timeAnswer p) rfl
    have hword : (stampsOf p).t1 < 2 ^ 64 := Nat.mod_lt _ (by decide)
    exact ⟨_, _, next_done_congr (timePacket_request hrx hm hdest hst ha), rfl, rfl, rfl, ht1.trans (Nat.mod_eq_of_lt hword), hans,
      fun hlt => ⟨ht2.trans (Nat.mod_eq_of_lt hlt), ht3.trans (Nat.mod_eq_of_lt hlt)⟩⟩
  · have hstep := timePacket_answer hrx hm hdest hst ha hal hask hlast href
    obtain ⟨R, hR⟩ := noteOffset_regsOnly ({ s with fabRx := [] } : State) off
    rw [State.foundOffset, ← hoff, measured_eq] at hstep
    refine ⟨fun hj hb ht => ⟨_, next_done_congr hstep, ?_, rfl, ?_⟩, fun hj => ⟨_, next_done_congr hstep, ?_, ?_, ?_, ?_⟩⟩
    · exact followOffset_of_apart (s := { s with fabRx := [] }) hj hb ht off
    · rw [hR]
    · exact followOffset_of_joined (s := { s with fabRx := [] }) hj off
    · exact fun hn => noteOffset_near _ hn
    · exact fun hf h1 => noteOffset_far (s := { s with fabRx := [] }) hf h1
    · rw [hR]

end Sys2Proof.Machine
end

section
/-! SUPPORT. The end of the write drain (R63, R64). -/

namespace Sys2Proof.Machine

/-! ## Pseudo-channels read back -/

theorem pc_setPc (s : State) (h p g q : Nat) (x : PcSt) : (s.setPc h p x).pc g q = if pcKey h p = pcKey g q then x else s.pc g q := Tab.get_put ..

theorem pc_setPc_self (s : State) (h p : Nat) (x : PcSt) : (s.setPc h p x).pc h p = x := (pc_setPc ..).trans (if_pos rfl)

theorem setPc_otherPcs (s : State) {h p : Nat} (hp : p < 96) (x : PcSt) : s.OtherPcs (s.setPc h p x) h p := by
  intro g q hq hne
  have hkey : pcKey h p ≠ pcKey g q := fun e => hne (by unfold pcKey at e; exact Prod.ext (by omega) (by omega))
  exact (pc_setPc ..).trans (if_neg hkey)

theorem pc_wr (s : State) (f : Fld) (d i j v h p : Nat) : (s.wr f d i j v).pc h p = s.pc h p := rfl

/-! ## The pseudo-channel enters self-refresh (R63, R193) -/

/-- A pseudo-channel whose drain has ended: requests that a halt holds go back to its queue. -/
def PcSt.drainOver (y : PcSt) : PcSt := { (if y.halt || y.trnHalted then y.unload else y) with drained := true, pauseFrom := none }

theorem drainOver_sr (y : PcSt) : y.drainOver.sr = y.sr := by
  unfold PcSt.drainOver
  split <;> rfl

/-- Going back to the queue makes no write of a read. -/
theorem unload_queue_reads {y : PcSt} (hq : ∀ e ∈ y.queue, e.r.write = false) : ∀ e ∈ y.unload.queue, e.r.write = false := by
  intro e he
  obtain ⟨f, hf, rfl⟩ := List.mem_map.mp he
  split
  · exact hq f hf
  · exact hq f hf

theorem drainOver_queue_reads {y : PcSt} (hq : ∀ e ∈ y.queue, e.r.write = false) : ∀ e ∈ y.drainOver.queue, e.r.write = false := by
  unfold PcSt.drainOver
  split
  · exact unload_queue_reads hq
  · exact hq

/-- It enters self-refresh from where it is awake. -/
def PcSt.toSleep (y : PcSt) : PcSt := if y.sr = .awake then { y with sr := .entering, srAuto := false } else y

theorem toSleep_parts (y : PcSt) : y.toSleep.queue = y.queue ∧ y.toSleep.drained = y.drained := by
  unfold PcSt.toSleep
  split <;> exact ⟨rfl, rfl⟩

def State.restPc (s : State) (h p : Nat) : State := (s.setPc h p (s.pc h p).drainOver).enterSr h p false

theorem restPc_parts (s : State) (h p : Nat) : ∃ P, s.restPc h p = { s with pcs := P } := by
  unfold State.restPc State.enterSr
  dsimp only
  split
  · exact ⟨_, rfl⟩
  · exact ⟨_, rfl⟩

theorem restPc_mem (s : State) (h p : Nat) : (s.restPc h p).mem = s.mem := by
  obtain ⟨P, hP⟩ := restPc_parts s h p
  rw [hP]

theorem restPc_rd (s : State) (h p : Nat) (f : Fld) (d i j : Nat) : (s.restPc h p).rd f d i j = s.rd f d i j := by
  obtain ⟨P, hP⟩ := restPc_parts s h p
  rw [hP]
  rfl

theorem restPc_pc (s : State) (h p : Nat) : (s.restPc h p).pc h p = (s.pc h p).drainOver.toSleep := by
  unfold State.restPc State.enterSr PcSt.toSleep
  dsimp only
  rw [pc_setPc_self]
  split
  · exact pc_setPc_self ..
  · exact pc_setPc_self ..

theorem restPc_otherPcs (s : State) {h p : Nat} (hp : p < 96) : s.OtherPcs (s.restPc h p) h p := by
  have hset := setPc_otherPcs s (h := h) hp (s.pc h p).drainOver
  unfold State.restPc State.enterSr
  dsimp only
  split
  · exact fun g q hq hne => (setPc_otherPcs _ hp _ g q hq hne).trans (hset g q hq hne)
  · exact hset

/-! ## Writes that the drain does not reach are lost (R64) -/

/-- The stacks and the pseudo-channels are as they were. -/
def State.ChannelsKept (s t : State) : Prop := t.mem = s.mem ∧ t.pcs = s.pcs

theorem State.ChannelsKept.refl (s : State) : s.ChannelsKept s := ⟨rfl, rfl⟩

theorem State.ChannelsKept.trans {s t u : State} (h : s.ChannelsKept t) (g : t.ChannelsKept u) : s.ChannelsKept u := ⟨g.1.trans h.1, g.2.trans h.2⟩

theorem State.ChannelsKept.foldl {α : Type} {F : State → α → State} (hF : ∀ (t : State) (x : α), t.ChannelsKept (F t x)) (xs : List α) (s : State) :
    s.ChannelsKept (xs.foldl F s) := by
  induction xs generalizing s with
  | nil => exact .refl s
  | cons x xs ih => exact (hF s x).trans (ih _)

theorem State.Traced.channelsKept {s t : State} (h : s.Traced t) : s.ChannelsKept t := by
  obtain ⟨⟨R, T, rfl⟩, -⟩ := h
  exact ⟨rfl, rfl⟩

theorem finishBare_channelsKept (s : State) (r : Req) (st : Status) : s.ChannelsKept (s.finishBare r st) := ⟨rfl, rfl⟩

theorem setRing_channelsKept (s : State) (h dir : Nat) (l : List Req) : s.ChannelsKept (s.setRing h dir l) := ⟨rfl, rfl⟩

theorem dropDoor_channelsKept (s : State) (h d : Nat) (gone : Req → Bool) (st : Status) : s.ChannelsKept (s.dropDoor h d gone st) :=
  State.ChannelsKept.trans ⟨rfl, rfl⟩ (.foldl (fun t r => finishBare_channelsKept t r st) _ _)

theorem endDeadLatch_channelsKept (s : State) (h p : Nat) : s.ChannelsKept (s.endDeadLatch h p) := by
  unfold State.endDeadLatch
  split
  · split
    · exact .refl s
    · exact ⟨rfl, rfl⟩
  · exact .refl s

theorem dropDoors_channelsKept (s : State) (h : Nat) (gone : Req → Bool) (st : Status) : s.ChannelsKept (s.dropDoors h gone st) :=
  State.ChannelsKept.trans (.foldl (fun t d => dropDoor_channelsKept t h d gone st) _ _) (.foldl (fun t p => endDeadLatch_channelsKept t h p) _ _)

theorem dropRing_channelsKept (s : State) (h : Nat) (gone : Req → Bool) (st : Status) : s.ChannelsKept (s.dropRing h gone st) :=
  .foldl (fun t dir => State.ChannelsKept.trans (setRing_channelsKept t h dir _) (.foldl (fun u r => finishBare_channelsKept u r st) _ _)) _ _

theorem logPut_channelsKept (s : State) (h e : Nat) (x : LogEnt) : s.ChannelsKept (s.logPut h e x) := by
  have hset : s.ChannelsKept ((s.setLog h e (some x)).note .ECC_LOG_LOC_VALID h e 0 1) := ⟨rfl, rfl⟩
  exact hset.trans (pushTrace_traced ..).channelsKept

theorem logEvent_channelsKept (s : State) (h : Nat) (ev : LogEnt) : s.ChannelsKept (s.logEvent h ev) := by
  unfold State.logEvent
  dsimp only
  split
  · split
    · exact logPut_channelsKept ..
    · exact .refl s
  · split
    · exact logPut_channelsKept ..
    · split
      · split
        · exact ⟨rfl, rfl⟩
        · exact logPut_channelsKept ..
      · exact ⟨rfl, rfl⟩

theorem loseWrite_channelsKept (s : State) (h : Nat) (r : Req) : s.ChannelsKept (s.loseWrite h r)  := by
  have hlog := logEvent_channelsKept s h (eventAt logLostWrite r 0 0 0)
  unfold State.loseWrite
  exact hlog

/-- The requests of some numbers leave every door and ring port, and nothing is answered. -/
def State.discard (s : State) (ids : List Nat) : State :=
  { s.hubs.foldl (fun t g => (t.dropDoors g (fun r => ids.contains r.id) .halted).dropRing g (fun r => ids.contains r.id) .halted) s with
    answers := s.answers, outPane := s.outPane, outCas := s.outCas }

theorem discard_channelsKept (s : State) (ids : List Nat) : s.ChannelsKept (s.discard ids) := by
  have hdrop : s.ChannelsKept (s.hubs.foldl (fun t g => (t.dropDoors g (fun r => ids.contains r.id) .halted).dropRing g (fun r => ids.contains r.id) .halted) s) :=
    .foldl (fun t g => (dropDoors_channelsKept t g _ _).trans (dropRing_channelsKept ..)) _ _
  exact hdrop.trans ⟨rfl, rfl⟩

/-- A bank without what serves requests of some numbers. -/
def BankSt.discard (b : BankSt) (ids : List Nat) : BankSt :=
  { b with
    latch := match b.latch with | some i => if ids.contains i then none else some i | none => none
    ptr := match b.ptr with | some q => if q.op ≤ 4 && ids.contains q.req then none else some q | none => none
    saved := match b.saved with | some q => if q.1.op ≤ 4 && ids.contains q.1.req then none else some q | none => none }

/-- A pseudo-channel without the requests of some numbers. -/
def PcSt.discard (x : PcSt) (ids : List Nat) : PcSt :=
  { x with
    queue := x.queue.filter fun e => !ids.contains e.r.id
    flight := x.flight.filter fun b => !ids.contains b.req
    replay := none
    banks := x.banks.map fun b => (b.1, b.2.discard ids) }

def State.lostIds (s : State) (h p : Nat) : List Nat := (s.writesLeft h p).map (·.id)

/-- The package without the writes that a pseudo-channel loses, before they are logged. -/
def State.withoutWrites (s : State) (h p : Nat) : State :=
  (s.discard (s.lostIds h p)).setPc h p (((s.discard (s.lostIds h p)).pc h p).discard (s.lostIds h p))

theorem loseWrites_of_none {s : State} {h p : Nat} (hw : s.writesLeft h p = []) : s.loseWrites h p = s := by
  rw [State.loseWrites, hw]

theorem loseWrites_eq {s : State} {h p : Nat} (hw : s.writesLeft h p ≠ []) :
    s.loseWrites h p = ((s.writesLeft h p).foldl (fun t r => t.loseWrite h r) (s.withoutWrites h p)).flag .SVC_PF_STATUS_LOST 0 0 0 := by
  unfold State.withoutWrites State.lostIds State.loseWrites
  cases hl : s.writesLeft h p with
  | nil => exact absurd hl hw
  | cons r l => rfl

theorem loseWrites_parts {s : State} {h p : Nat} (hw : s.writesLeft h p ≠ []) :
    (s.loseWrites h p).mem = s.mem ∧ (s.loseWrites h p).pc h p = (s.pc h p).discard (s.lostIds h p) ∧ (s.loseWrites h p).rd .SVC_PF_STATUS_LOST 0 0 0 = 1 := by
  have hlost : (s.withoutWrites h p).ChannelsKept (s.loseWrites h p) := by
    rw [loseWrites_eq hw]
    exact State.ChannelsKept.trans (.foldl (fun t r => loseWrite_channelsKept t h r) _ _) ⟨rfl, rfl⟩
  obtain ⟨hmem, hpcs⟩ := discard_channelsKept s (s.lostIds h p)
  have hpc : (s.discard (s.lostIds h p)).pc h p = s.pc h p := congrArg (fun P => Tab.get PcSt.reset P (pcKey h p)) hpcs
  refine ⟨hlost.1.trans hmem, ?_, ?_⟩
  · calc (s.loseWrites h p).pc h p = (s.withoutWrites h p).pc h p := congrArg (fun P => Tab.get PcSt.reset P (pcKey h p)) hlost.2
      _ = _ := by rw [State.withoutWrites, pc_setPc_self, hpc]
  · rw [loseWrites_eq hw]
    exact State.rd_wr_self ..

/-- Every write of the queue is among those that are lost. -/
theorem discard_queue_reads (s : State) (h p : Nat) : ∀ e ∈ ((s.pc h p).discard (s.lostIds h p)).queue, e.r.write = false := by
  intro e he
  obtain ⟨hqueue, hkept⟩ := List.mem_filter.mp he
  by_contra hw
  have hleft : e.r ∈ s.writesLeft h p :=
    List.mem_append_left _ (List.mem_map.mpr ⟨e, List.mem_filter.mpr ⟨hqueue, Bool.of_not_eq_false hw⟩, rfl⟩)
  have hid : e.r.id ∈ s.lostIds h p := List.mem_map_of_mem hleft
  simp [hid] at hkept

/-! ## WRITE_DRAIN_END (R63, R64) -/

/-- A pseudo-channel of a package that drains, awake and with its drain not over. -/
def State.Drains40 (s : State) (h p t0 : Nat) : Prop :=
  s.supply.drainFrom = some t0 ∧ s.draining = true ∧ (s.pc h p).drained = false ∧ s.pcIn h p = true ∧ (s.pc h p).sr = .awake

theorem State.Drains40.goes_on {s : State} {h p t0 : Nat} (hd : s.Drains40 h p t0) : (!s.draining || (s.pc h p).drained || !s.pcIn h p || (s.pc h p).sr == .exiting) = false := by
  obtain ⟨-, hdrain, hover, hin, hsr⟩ := hd
  rw [hdrain, hover, hin, hsr]
  rfl

theorem State.Drains40.writeDrainEnd_early {s : State} {h p t0 : Nat} (hd : s.Drains40 h p t0) (hw : s.writesLeft h p ≠ []) (hn : s.now < t0 + Config.usTicks 40) :
    s.writeDrainEnd h p = s := by
  have hwait : ((s.writesLeft h p).isEmpty || decide (t0 + Config.usTicks 40 ≤ s.now)) = false := by
    rw [decide_eq_false (Nat.not_le.mpr hn), List.isEmpty_eq_false_iff.mpr hw]
    rfl
  unfold State.writeDrainEnd
  rw [hd.1]
  dsimp only
  rw [hd.goes_on, hwait]
  rfl

theorem State.Drains40.writeDrainEnd_over {s : State} {h p t0 : Nat} (hd : s.Drains40 h p t0) (hw : s.writesLeft h p = [] ∨ t0 + Config.usTicks 40 ≤ s.now) :
    s.writeDrainEnd h p = ((s.loseWrites h p).restPc h p).wr .SVC_PF_STATUS_DRAIN_US 0 0 0 (Nat.min 255 ((s.now - t0) / 100)) := by
  have hover : ((s.writesLeft h p).isEmpty || decide (t0 + Config.usTicks 40 ≤ s.now)) = true := by
    rcases hw with hw | hw
    · rw [hw]; rfl
    · rw [decide_eq_true hw, Bool.or_true]
  unfold State.writeDrainEnd
  rw [hd.1]
  dsimp only
  rw [hd.goes_on, hover]
  rfl

/-- The end of a pseudo-channel's write drain (R63, R64). -/
theorem writeDrainEnds (s : State) (h : Hub) (p : Pc) (t0 : Nat) (hfrom : s.supply.drainFrom = some t0) (hdrain : s.draining = true)
    (hover : (s.pc h.val p.val).drained = false) (hin : s.pcIn h.val p.val = true) (hsr : (s.pc h.val p.val).sr = .awake) :
    (s.writesLeft h.val p.val ≠ [] → s.now < t0 + Config.usTicks 40 → exec (.writeDrainEnd h p) s = .next s.done) ∧
    (s.writesLeft h.val p.val = [] → ∃ u : State, exec (.writeDrainEnd h p) s = .next u.done ∧ (u.pc h.val p.val).drained = true ∧ (u.pc h.val p.val).sr = .entering ∧
      u.rd .SVC_PF_STATUS_DRAIN_US 0 0 0 = min 255 ((s.now - t0) / 100) ∧ s.RegsBut u [.SVC_PF_STATUS_DRAIN_US] ∧ s.OtherPcs u h.val p.val ∧ u.mem = s.mem) ∧
    (s.writesLeft h.val p.val ≠ [] → t0 + Config.usTicks 40 ≤ s.now → ∃ u : State, exec (.writeDrainEnd h p) s = .next u.done ∧ (u.pc h.val p.val).drained = true ∧
      u.rd .SVC_PF_STATUS_LOST 0 0 0 = 1 ∧ (u.pc h.val p.val).queue.all (fun e => !e.r.write) = true ∧ u.mem = s.mem) := by
  have hd : s.Drains40 h.val p.val t0 := ⟨hfrom, hdrain, hover, hin, hsr⟩
  refine ⟨fun hw hn => next_done_congr (hd.writeDrainEnd_early hw hn), fun hw => ?_, fun hw hn => ?_⟩
  · have hend := hd.writeDrainEnd_over (.inl hw)
    rw [loseWrites_of_none hw] at hend
    refine ⟨_, next_done_congr hend, ?_, ?_, State.rd_wr_self .., ?_, fun g q hq hne => (pc_wr ..).trans (restPc_otherPcs s p.isLt g q hq hne),
      (State.wr_mem ..).trans (restPc_mem ..)⟩
    · rw [pc_wr, restPc_pc, (toSleep_parts _).2]
      rfl
    · rw [pc_wr, restPc_pc, PcSt.toSleep, if_pos ((drainOver_sr _).trans hsr)]
    · exact State.RegsBut.wr (fun f d i j _ => restPc_rd s h.val p.val f d i j) (by decide)
  · obtain ⟨hmem, hlast, hlost⟩ := loseWrites_parts hw
    refine ⟨_, next_done_congr (hd.writeDrainEnd_over (.inr hn)), ?_, ?_, ?_, (State.wr_mem ..).trans ((restPc_mem ..).trans hmem)⟩
    · rw [pc_wr, restPc_pc, (toSleep_parts _).2]
      rfl
    · rw [State.rd_wr_fld _ (by decide), restPc_rd, hlost]
    · rw [pc_wr, restPc_pc, (toSleep_parts _).1, hlast]
      exact List.all_eq_true.mpr fun e he => by rw [drainOver_queue_reads (discard_queue_reads s h.val p.val) e he]; rfl

end Sys2Proof.Machine
end

section
/-! SUPPORT. What the fabric does, as O59 states it. -/

namespace Sys2Proof.Machine

/-- Settles O59, a part of the fabric at a time: headers, ports, routes, requests, responses, time and the end of the write drain. -/
theorem fabricMovesPackets : Obligations.FabricMovesPackets := by
  refine ⟨fun p hp => packetOfHeader_packetHeader hp, portsTrainFailAndRetry, routeMovesPacket, ?requests, responsesWaitInHinge, responsesArrive, timeIsExchanged, ?drain⟩
  case requests => exact fun s h j p hrx htx hdest hin hrun => fabricRequestsEnter s h j p hrx htx hdest hin hrun
  case drain => exact fun s h p t0 hfrom hdrain hover hin hsr => writeDrainEnds s h p t0 hfrom hdrain hover hin hsr

end Sys2Proof.Machine
end

section
/-! SUPPORT. What time alone does to the clocks: a tick of TIME64 and its correction, a CCLK cycle, and a step on an empty queue (R76, R77, R82, R84). -/

namespace Sys2Proof.Machine

/-! ## A tick of TIME64 -/

/-- A tick advances TIME64 by one, or makes one correction up or down, where none has been made for 1,024 ticks. -/
theorem Clk.tick_cases (c : Clk) :
    c.tick = { c with t64 := c.t64 + 1 } ∨
    (∀ u, c.steerAt = some u → u + 1024 ≤ c.t64) ∧
      (0 < c.steer ∧ c.tick = { c with t64 := c.t64 + 2, steer := c.steer - 1, steerAt := some (c.t64 + 2) } ∨
       c.steer < 0 ∧ c.tick = { c with steer := c.steer + 1, steerAt := some c.t64 }) := by
  unfold Clk.tick
  extract_lets free
  by_cases hplain : c.steer = 0 ∨ free = false
  · exact .inl (if_pos hplain)
  · rw [if_neg hplain]
    obtain ⟨hsteer, hfree⟩ := not_or.mp hplain
    refine .inr ⟨fun u hu => by simpa [free, hu] using hfree, ?_⟩
    by_cases hup : 0 < c.steer
    · exact .inl ⟨hup, if_pos hup⟩
    · exact .inr ⟨by omega, if_neg hup⟩

theorem Clk.tick_of_steer_zero {c : Clk} (h : c.steer = 0) : c.tick = { c with t64 := c.t64 + 1 } := if_pos (.inl h)

/-- Settles O9: the three cases of a tick, of which the two corrections move the steering one tick toward 0. -/
theorem steeringIsRare : Obligations.SteeringIsRare := by
  intro c
  rcases c.tick_cases with ht | ⟨hfree, ⟨hup, ht⟩ | ⟨hdown, ht⟩⟩ <;> rw [ht]
  · exact ⟨Nat.le_succ _, Nat.le_succ _, fun h => absurd rfl h⟩
  · exact ⟨Nat.le_add_right _ 2, le_rfl, fun _ => ⟨rfl, by omega, by dsimp only; omega, hfree⟩⟩
  · exact ⟨le_rfl, Nat.le_add_right _ 2, fun _ => ⟨rfl, by omega, by dsimp only; omega, hfree⟩⟩

/-! ## A step on an empty queue -/

theorem step_of_empty {s : State} (h : s.pending = []) : step s = .next s.tick := by
  unfold step
  rw [h]

theorem hingeTick_of_no_hinge {s : State} (h : s.hinge.step = 0) : s.hingeTick = s := if_pos h

/-- With no counter enabled and nothing to correct, a tick is one more tick of TIME64. -/
theorem timeTick_of_quiet {s : State} (hsteer : s.clk.steer = 0) (hcount : s.counting = false) :
    s.timeTick = { s with clk := { s.clk with t64 := s.clk.t64 + 1 } } := by
  have htick : s.timeTick = { s with clk := s.clk.tick } := if_neg (Bool.eq_false_iff.mp hcount)
  rw [htick, Clk.tick_of_steer_zero hsteer]

/-- The clocks of a CCLK edge: those of the compute dies have their edges too, where they run. -/
def Clk.cclkEdge (c : Clk) (cores : Bool) : Clk :=
  let d : Clk := { c with cclk := c.cclk + 1 }
  if cores then d.edges.1 else d

/-- An edge of CCLK is one more cycle of CCLK; the edges of KCLK and FCLK in it leave TIME64, its phase and its steering. -/
theorem Clk.cclkEdge_keeps (c : Clk) (cores : Bool) :
    (c.cclkEdge cores).cclk = c.cclk + 1 ∧ (c.cclkEdge cores).t64 = c.t64 ∧ (c.cclkEdge cores).tPhase = c.tPhase ∧
      (c.cclkEdge cores).hp = c.hp ∧ (c.cclkEdge cores).steer = c.steer := by
  cases cores <;> exact ⟨rfl, rfl, rfl, rfl, rfl⟩

/-- With no counter enabled an edge of CCLK changes the clocks alone. -/
theorem cclkEdge_of_not_counting {s : State} (h : s.counting = false) : s.cclkEdge = { s with clk := s.clk.cclkEdge s.coreClocks } := by
  unfold State.cclkEdge Clk.cclkEdge
  cases s.coreClocks <;> simp [h]

/-- The four root cycles of a CCLK cycle, which end a tick where they complete its M root cycles (R77). -/
def Clk.rootCycles (c : Clk) : Clk :=
  if Config.rootMult c.hp ≤ c.tPhase + 4 then { c with tPhase := c.tPhase + 4 - Config.rootMult c.hp, t64 := c.t64 + 1 }
  else { c with tPhase := c.tPhase + 4 }

theorem tick_of_running {s : State} (hrun : s.clk.run = true) (hstep : s.hinge.step = 0) (hsteer : s.clk.steer = 0) (hcount : s.counting = false) :
    s.tick = { s with clk := (s.clk.cclkEdge s.coreClocks).rootCycles } := by
  obtain ⟨-, -, -, -, hsteerKept⟩ := s.clk.cclkEdge_keeps s.coreClocks
  unfold State.tick Clk.rootCycles
  rw [if_pos hrun, cclkEdge_of_not_counting hcount]
  dsimp only
  split
  · refine (congrArg State.hingeTick (timeTick_of_quiet ?_ ?_)).trans (hingeTick_of_no_hinge ?_)
    exacts [hsteerKept.trans hsteer, hcount, hstep]
  · exact hingeTick_of_no_hinge hstep

theorem tick_of_stopped {s : State} (hrun : s.clk.run = false) (hstep : s.hinge.step = 0) (hsteer : s.clk.steer = 0) (hcount : s.counting = false) :
    s.tick = { s with clk := { s.clk with t64 := s.clk.t64 + 1 } } := by
  unfold State.tick
  rw [hrun, if_neg Bool.false_ne_true, timeTick_of_quiet hsteer hcount]
  exact hingeTick_of_no_hinge hstep

/-- Settles O2: on an empty queue a step is the tick of the clocks, with CCLK or without. -/
theorem idleStepIsOneCycle : Obligations.IdleStepIsOneCycle := by
  refine ⟨fun s hp hrun hstep hsteer hcount => ?_, fun s hp hrun hstep hsteer hcount => ?_⟩
  · rw [step_of_empty hp, tick_of_stopped hrun hstep hsteer hcount]
  · obtain ⟨hcclk, ht64, htPhase, hhp, -⟩ := s.clk.cclkEdge_keeps s.coreClocks
    refine ⟨_, step_of_empty hp, ?_⟩
    rw [tick_of_running hrun hstep hsteer hcount, Clk.rootCycles, hhp, htPhase, ht64]
    split
    · next hm => exact ⟨rfl, hcclk, fun hlt => absurd hm (Nat.not_le_of_lt hlt), fun _ => ⟨rfl, rfl⟩⟩
    · next hm => exact ⟨rfl, hcclk, fun _ => ⟨rfl, rfl⟩, fun hle => absurd hle hm⟩

end Sys2Proof.Machine
end

section
/-! SUPPORT. How the clocks of a state, and TIME64 in them, are followed through loops and branches (R76, R82, R84). -/

namespace Sys2Proof.Machine

/-- The two parts of TIME64: the ticks that timers count, and what the step at fabric join has added (R84, R111). -/
def Clk.time (c : Clk) : Nat × Int := (c.t64, c.stepped)

/-- A function of the state that keeps the clocks: what a loop asks of each round, and a command of its own work (by a name, under which simp finds it). -/
def KeepsClk (f : State → State) : Prop := ∀ s, (f s).clk = s.clk

@[simp] theorem keepsClk_iff (f : State → State) : KeepsClk f ↔ ∀ s, (f s).clk = s.clk := by rw [KeepsClk]

@[simp] theorem foldl_clk {α : Type} (f : State → α → State) (l : List α) (s : State) (h : ∀ x, KeepsClk (f · x)) : (l.foldl f s).clk = s.clk := by
  induction l generalizing s with
  | nil => rfl
  | cons x t ih => exact (ih _).trans (h x s)

@[simp] theorem foldl_time {α : Type} (f : State → α → State) (l : List α) (s : State) (h : ∀ t x, (f t x).clk.time = t.clk.time) :
    (l.foldl f s).clk.time = s.clk.time := by
  induction l generalizing s with
  | nil => rfl
  | cons x t ih => exact (ih _).trans (h s x)

theorem foldl_fst_clk {α β : Type} {f : State × β → α → State × β} (h : ∀ r x, (f r x).1.clk = r.1.clk) (l : List α) (r : State × β) :
    (l.foldl f r).1.clk = r.1.clk := by
  induction l generalizing r with
  | nil => rfl
  | cons x t ih => exact (ih _).trans (h r x)

@[simp] theorem State.clk_ite (c : Prop) [Decidable c] (s t : State) : (if c then s else t).clk = if c then s.clk else t.clk := apply_ite _ _ _ _

@[simp] theorem Clk.time_ite (c : Prop) [Decidable c] (x y : Clk) : (if c then x else y).time = if c then x.time else y.time := apply_ite _ _ _ _

theorem clk_of_pair {α : Type} {s t : State} {p : State × α} {a : α} (h : p = (t, a)) (hp : p.1.clk = s.clk) : t.clk = s.clk := by
  rw [← hp, h]

end Sys2Proof.Machine
end

section
/-! SUPPORT. The clocks on the way from a door to a stack (R76): none of these operations touches them. -/

namespace Sys2Proof.Machine

/-! ## Parts and registers -/

@[simp] theorem State.syncSet_clk (s : State) (c k v : Nat) : (s.syncSet c k v).clk = s.clk := by simp [State.syncSet]
@[simp] theorem State.count_clk (s : State) (f : Fld) (top d i j n : Nat) : (s.count f top d i j n).clk = s.clk := by simp [State.count]
@[simp] theorem State.orBits_clk (s : State) (f : Fld) (d i j n : Nat) : (s.orBits f d i j n).clk = s.clk := by simp [State.orBits]
@[simp] theorem State.setBit_clk (s : State) (f : Fld) (d i j b : Nat) : (s.setBit f d i j b).clk = s.clk := by simp [State.setBit]
@[simp] theorem State.flag_clk (s : State) (f : Fld) (d i j : Nat) : (s.flag f d i j).clk = s.clk := by simp [State.flag]
@[simp] theorem State.clearBit_clk (s : State) (f : Fld) (d i j b : Nat) : (s.clearBit f d i j b).clk = s.clk := by simp [State.clearBit]
@[simp] theorem State.mapPcs_clk (s : State) (h : Nat) (f : PcSt → PcSt) : (s.mapPcs h f).clk = s.clk := by simp [State.mapPcs]
@[simp] theorem State.beginReq_clk (s : State) (r : Req) : (s.beginReq r).1.clk = s.clk := by simp [State.beginReq]
@[simp] theorem State.endReq_clk (s : State) (r : Req) : (s.endReq r).clk = s.clk := by simp [State.endReq]

@[simp] theorem State.finish_clk (s : State) (r : Req) (st : Status) (data : Block) (poison pkind : BitVec 8) :
    (s.finish r st data poison pkind).clk = s.clk := s.endReq_clk r

@[simp] theorem State.finishBare_clk (s : State) (r : Req) (st : Status) : (s.finishBare r st).clk = s.clk := by simp [State.finishBare]

/-! ## Counters and trace -/

@[simp] theorem State.counterUp_clk (s : State) (bank k n : Nat) : (s.counterUp bank k n).clk = s.clk := by simp [State.counterUp]

@[simp] theorem State.tally_clk (s : State) (bank ev : Nat) (unit : Option Nat) (subs : List Nat) (cas : Option Nat) (n : Nat) :
    (s.tally bank ev unit subs cas n).clk = s.clk := by
  simp [State.tally]

@[simp] theorem State.pushTrace_clk (s : State) (h : Nat) (r : TraceRec) : (s.pushTrace h r).clk = s.clk := by simp [State.pushTrace]

@[simp] theorem State.traceHub_clk (s : State) (h typ cas unit : Nat) (payload : List Nat) : (s.traceHub h typ cas unit payload).clk = s.clk := by
  simp [State.traceHub]

@[simp] theorem State.pushDie_clk (s : State) (d : Nat) (r : TraceRec) : (s.pushDie d r).clk = s.clk := by simp [State.pushDie]

@[simp] theorem State.traceDie_clk (s : State) (d typ cas unit : Nat) (payload : List Nat) : (s.traceDie d typ cas unit payload).clk = s.clk := by
  simp [State.traceDie]

/-! ## Stored-data protection -/

@[simp] theorem State.storeWord_clk (s : State) (key : Nat) (data : BitVec 256) (chk : BitVec 32) : (s.storeWord key data chk).clk = s.clk := by
  simp [State.storeWord]

@[simp] theorem State.storeSector_clk (s : State) (key : Nat) (data : BitVec 256) : (s.storeSector key data).clk = s.clk := by simp [State.storeSector]
@[simp] theorem State.storePoison_clk (s : State) (key : Nat) : (s.storePoison key).clk = s.clk := by simp [State.storePoison]
@[simp] theorem State.logPut_clk (s : State) (h e : Nat) (x : LogEnt) : (s.logPut h e x).clk = s.clk := by simp [State.logPut]
@[simp] theorem State.logDrop_clk (s : State) (h : Nat) : (s.logDrop h).clk = s.clk := by simp [State.logDrop]

@[simp] theorem State.logEvent_clk (s : State) (h : Nat) (ev : LogEnt) : (s.logEvent h ev).clk = s.clk := by
  simp only [State.logEvent]
  (repeat' split) <;> simp

@[simp] theorem State.bucketUp_clk (s : State) (h p : Nat) (policy : Bool) : (s.bucketUp h p policy).clk = s.clk := by simp [State.bucketUp]

@[simp] theorem State.noteRead_clk (s : State) (r : Req) (n : Nat) (o : SectorOutcome) : (s.noteRead r n o).clk = s.clk := by
  unfold State.noteRead
  split <;> simp

@[simp] theorem State.noteMerge_clk (s : State) (r : Req) (n : Nat) (o : SectorOutcome) : (s.noteMerge r n o).clk = s.clk := by
  unfold State.noteMerge
  split <;> simp

@[simp] theorem State.leak_clk (s : State) (h : Nat) : (s.leak h).clk = s.clk := by simp [State.leak]
@[simp] theorem State.leakDue_clk (s : State) (h : Nat) : (s.leakDue h).clk = s.clk := by simp [State.leakDue]

/-! ## Addresses -/

@[simp] theorem State.recordRefusal_clk (s : State) (h door : Nat) (r : Req) (x : DecodeRefusal) : (s.recordRefusal h door r x).clk = s.clk := by
  unfold State.recordRefusal
  split <;> simp

/-! ## The ring, doors and arbiters -/

@[simp] theorem State.sendDoor_clk (s : State) (h d : Nat) (r : Req) : (s.sendDoor h d r).clk = s.clk := by simp [State.sendDoor]
@[simp] theorem State.dispatchReq_clk (s : State) (door : Nat) (r : Req) : (s.dispatchReq door r).clk = s.clk := by simp [State.dispatchReq]
@[simp] theorem State.takePort_clk (s : State) (h dir : Nat) (r : Req) : (s.takePort h dir r).clk = s.clk := by simp [State.takePort]

@[simp] theorem State.ringHop_clk (s : State) (h dir : Nat) : (s.ringHop h dir).clk = s.clk := by
  simp only [State.ringHop]
  (repeat' split) <;> simp

@[simp] theorem State.linkRetry_clk (s : State) (h dir : Nat) (ok : Bool) : (s.linkRetry h dir ok).clk = s.clk := by simp [State.linkRetry]
@[simp] theorem State.dropLinkUsers_clk (s : State) (i : Nat) : (s.dropLinkUsers i).clk = s.clk := by simp [State.dropLinkUsers]
@[simp] theorem State.failLink_clk (s : State) (i : Nat) : (s.failLink i).clk = s.clk := by simp [State.failLink]
@[simp] theorem State.linkDown_clk (s : State) (i : Nat) : (s.linkDown i).clk = s.clk := by simp [State.linkDown]

@[simp] theorem State.doorArrival_clk (s : State) (h d latch : Nat) : (s.doorArrival h d latch).clk = s.clk := by
  simp only [State.doorArrival]
  (repeat' split) <;> simp

@[simp] theorem State.louvreCharge_clk (s : State) (h d : Nat) (e : DoorEnt) : (s.louvreCharge h d e).clk = s.clk := by
  unfold State.louvreCharge
  split <;> simp

@[simp] theorem State.louvreWindow_clk (s : State) (h d k : Nat) : (s.louvreWindow h d k).clk = s.clk := by simp [State.louvreWindow]
@[simp] theorem State.endRun_clk (s : State) (h p d : Nat) (run : RunRecord) : (s.endRun h p d run).clk = s.clk := by simp [State.endRun]
@[simp] theorem State.preempt_clk (s : State) (h p d : Nat) (run : RunRecord) : (s.preempt h p d run).clk = s.clk := by simp [State.preempt]

@[simp] theorem State.freeDoneRun_clk (s : State) (h p d : Nat) (e : DoorEnt) (after : Hold) : (s.freeDoneRun h p d e after).clk = s.clk := by
  simp [State.freeDoneRun]

@[simp] theorem State.enqueue_clk (s : State) (h p d : Nat) (e : DoorEnt) (v : Reserve) (tag : Option Nat) : (s.enqueue h p d e v tag).clk = s.clk := by
  simp [State.enqueue]

@[simp] theorem State.sampleTag_clk (s : State) (h : Nat) (e : DoorEnt) (d : Nat) : (s.sampleTag h e d).1.clk = s.clk := by
  simp only [State.sampleTag]
  (repeat' split) <;> simp

@[simp] theorem State.admitOne_clk (s : State) (h p d : Nat) (e : DoorEnt) (v : Reserve) : (s.admitOne h p d e v).clk = s.clk := by simp [State.admitOne]

@[simp] theorem State.tryAdmit_clk (s : State) (h p : Nat) (w : Nat × DoorEnt) : (s.tryAdmit h p w).clk = s.clk := by
  unfold State.tryAdmit
  split <;> simp

@[simp] theorem State.noteHeld_clk (s : State) (h p d : Nat) : (s.noteHeld h p d).clk = s.clk := by
  unfold State.noteHeld
  split <;> simp

@[simp] theorem State.contest_clk (s : State) (h p : Nat) : (s.contest h p).clk = s.clk := by
  unfold State.contest
  split <;> simp

@[simp] theorem State.contestBeside_clk (s : State) (h p d : Nat) (run : RunRecord) : (s.contestBeside h p d run).clk = s.clk := by
  simp only [State.contestBeside]
  (repeat' split) <;> simp

@[simp] theorem State.evaluate_clk (s : State) (h p : Nat) : (s.evaluate h p).clk = s.clk := by
  unfold State.evaluate
  (repeat' split) <;> simp

@[simp] theorem State.evaluateHeld_clk (s : State) (h p : Nat) : (s.evaluateHeld h p).clk = s.clk := by
  unfold State.evaluateHeld
  (repeat' split) <;> simp

@[simp] theorem State.admitNext_clk (s : State) (h p : Nat) : (s.admitNext h p).clk = s.clk := by simp [State.admitNext]
@[simp] theorem State.writePrio_clk (s : State) (h n v : Nat) : (s.writePrio h n v).clk = s.clk := by simp [State.writePrio]
@[simp] theorem State.maskDoor_clk (s : State) (h d : Nat) : (s.maskDoor h d).clk = s.clk := by simp [State.maskDoor]
@[simp] theorem State.unmaskDoor_clk (s : State) (h d : Nat) : (s.unmaskDoor h d).clk = s.clk := by simp [State.unmaskDoor]
@[simp] theorem State.dropDoor_clk (s : State) (h d : Nat) (gone : Req → Bool) (st : Status) : (s.dropDoor h d gone st).clk = s.clk := by simp [State.dropDoor]

@[simp] theorem State.endDeadLatch_clk (s : State) (h p : Nat) : (s.endDeadLatch h p).clk = s.clk := by
  unfold State.endDeadLatch
  split <;> simp

@[simp] theorem State.dropTransit_clk (s : State) (h d : Nat) (st : Status) : (s.dropTransit h d st).clk = s.clk := by simp [State.dropTransit]
@[simp] theorem State.dropDoors_clk (s : State) (h : Nat) (gone : Req → Bool) (st : Status) : (s.dropDoors h gone st).clk = s.clk := by simp [State.dropDoors]
@[simp] theorem State.dropRing_clk (s : State) (h : Nat) (gone : Req → Bool) (st : Status) : (s.dropRing h gone st).clk = s.clk := by simp [State.dropRing]

/-! ## The pseudo-channel controller -/

@[simp] theorem State.countAct_clk (s : State) (h p b row : Nat) : (s.countAct h p b row).clk = s.clk := by
  unfold State.countAct
  split <;> simp

@[simp] theorem State.retryTrim_clk (s : State) (h p : Nat) : (s.retryTrim h p).clk = s.clk := by
  unfold State.retryTrim
  split <;> simp

@[simp] theorem State.writeSectorOf_clk (s : State) (e : QEnt) (n : Nat) : (s.writeSectorOf e n).clk = s.clk := by simp [State.writeSectorOf]
@[simp] theorem State.issueRead_clk (s : State) (h p : Nat) (e : QEnt) (n rl : Nat) : (s.issueRead h p e n rl).clk = s.clk := by simp [State.issueRead]
@[simp] theorem State.drive_clk (s : State) (h p : Nat) (e : CmdEntry) (r : RetryEnt) : (s.drive h p e r).clk = s.clk := by simp [State.drive]

@[simp] theorem State.issue_clk (s : State) (h p : Nat) (w : Wanted) (who : Issuer) (q : Option Ptr) (raw : Bool) :
    (s.issue h p w who q raw).clk = s.clk := by
  unfold State.issue
  dsimp only
  split
  case h_1 => split <;> simp
  case h_2 => split <;> simp
  case h_4 => split <;> simp
  case h_5 => split <;> simp
  all_goals simp

@[simp] theorem State.freeEntry_clk (s : State) (h p : Nat) (e : QEnt) : (s.freeEntry h p e).clk = s.clk := by simp [State.freeEntry]

@[simp] theorem State.sampleDone_clk (s : State) (e : QEnt) (st : Status) : (s.sampleDone e st).clk = s.clk := by
  unfold State.sampleDone
  split <;> simp

@[simp] theorem State.endRequest_clk (s : State) (h p id : Nat) : (s.endRequest h p id).clk = s.clk := by
  unfold State.endRequest
  split <;> simp

@[simp] theorem State.refDone_clk (s : State) (h p : Nat) (q : Ptr) : (s.refDone h p q).clk = s.clk := by simp [State.refDone]

@[simp] theorem State.event_clk (s : State) (h p : Nat) (q : Ptr) (e : Nat) : (s.event h p q e).clk = s.clk := by
  unfold State.event
  split <;> simp

@[simp] theorem State.events_clk (s : State) (h p : Nat) (q : Ptr) (l : List Nat) : (s.events h p q l).clk = s.clk := by simp [State.events]

@[simp] theorem State.nbrDone_clk (s : State) (h p b : Nat) : (s.nbrDone h p b).clk = s.clk := by
  simp only [State.nbrDone]
  (repeat' split) <;> simp

@[simp] theorem State.endOp_clk (s : State) (h p : Nat) (q : Ptr) : (s.endOp h p q).clk = s.clk := by simp [State.endOp]

@[simp] theorem State.advanceAt_clk (s : State) (h p : Nat) (q : Ptr) (now : Nat) : (s.advanceAt h p q now).clk = s.clk := by
  unfold State.advanceAt
  (repeat' split) <;> simp

@[simp] theorem State.advance_clk (s : State) (h p : Nat) (q : Ptr) : (s.advance h p q).clk = s.clk := by simp [State.advance]
@[simp] theorem State.advanceAll_clk (s : State) (h p : Nat) : (s.advanceAll h p).clk = s.clk := by simp [State.advanceAll]

@[simp] theorem State.issuePtr_clk (s : State) (h p : Nat) (q : Ptr) (w : Wanted) (who : Issuer) : (s.issuePtr h p q w who).clk = s.clk := by
  simp only [State.issuePtr]
  (repeat' split) <;> simp

@[simp] theorem State.schedule_clk (s : State) (h p : Nat) : (s.schedule h p).clk = s.clk := by
  simp only [State.schedule]
  (repeat' split) <;> simp

@[simp] theorem State.issueDebug_clk (s : State) (h p : Nat) (w : Wanted) (raw : Bool) : (s.issueDebug h p w raw).clk = s.clk := by simp [State.issueDebug]

@[simp] theorem State.grantSlot_clk (s : State) (h p : Nat) (column : Bool) (used : List Ptr) : (s.grantSlot h p column used).1.clk = s.clk := by
  simp only [State.grantSlot]
  (repeat' split) <;> simp

@[simp] theorem State.loadWide_clk (s : State) (h p op : Nat) (emerg : Bool) : (s.loadWide h p op emerg).clk = s.clk := by
  unfold State.loadWide
  split <;> simp

@[simp] theorem State.runPtr_clk (s : State) (h p : Nat) (tbl : List Step) (n : Nat) (q : Ptr) : (s.runPtr h p tbl n q).clk = s.clk := by
  induction n generalizing s q with
  | zero => rfl
  | succ n ih =>
    unfold State.runPtr
    split
    · simp
    · dsimp only
      split <;> simp [ih]

@[simp] theorem State.runWide_clk (s : State) (h p op : Nat) : (s.runWide h p op).clk = s.clk := by
  unfold State.runWide
  (repeat' split) <;> simp

@[simp] theorem State.runWides_clk (s : State) (h p : Nat) (ops : List Nat) : (s.runWides h p ops).clk = s.clk := by simp [State.runWides]

@[simp] theorem State.wideProgress_clk (s : State) (h p : Nat) : (s.wideProgress h p).clk = s.clk := by
  simp only [State.wideProgress]
  (repeat' split) <;> simp

@[simp] theorem State.srProgress_clk (s : State) (h p : Nat) : (s.srProgress h p).clk = s.clk := by simp [State.srProgress]
@[simp] theorem State.ageMarks_clk (s : State) (h p : Nat) : (s.ageMarks h p).clk = s.clk := by simp [State.ageMarks]

@[simp] theorem State.waitDone_clk (s : State) (h p b : Nat) : (s.waitDone h p b).clk = s.clk := by
  unfold State.waitDone
  split <;> simp

@[simp] theorem State.mergeWindow_clk (s : State) (h p b : Nat) : (s.mergeWindow h p b).clk = s.clk := by simp [State.mergeWindow]

@[simp] theorem State.answerRead_clk (s : State) (h p : Nat) (e : QEnt) (l : List (Nat × SectorOutcome × BitVec 256)) : (s.answerRead h p e l).clk = s.clk := by
  simp [State.answerRead]

@[simp] theorem State.rewrite_clk (s : State) (r : Req) (b : Burst) (x : Nat × SectorOutcome × BitVec 256) : (s.rewrite r b x).clk = s.clk := by
  unfold State.rewrite
  split <;> simp

@[simp] theorem State.readReturn_clk (s : State) (h p : Nat) (errs : List BurstError) (sweep : Req → Bool) : (s.readReturn h p errs sweep).clk = s.clk := by
  unfold State.readReturn
  split <;> simp

@[simp] theorem State.merge_clk (s : State) (h p : Nat) (errs : List BurstError) : (s.merge h p errs).clk = s.clk := by
  unfold State.merge
  split <;> simp

@[simp] theorem State.debugHalted_clk (s : State) (h p : Nat) : (s.debugHalted h p).clk = s.clk := by simp [State.debugHalted]
@[simp] theorem State.debugCmd_clk (s : State) (h p : Nat) (v : Word) : (s.debugCmd h p v).clk = s.clk := by simp [State.debugCmd]

/-! ## Refresh, disturbance and replay -/

@[simp] theorem State.newRate_clk (s : State) (h p : Nat) : (s.newRate h p).clk = s.clk := by simp [State.newRate]
@[simp] theorem State.setRate_clk (s : State) (h st : Nat) (hot stale : Bool) : (s.setRate h st hot stale).clk = s.clk := by simp [State.setRate]
@[simp] theorem State.overdue_clk (s : State) (h p b : Nat) : (s.overdue h p b).clk = s.clk := by simp [State.overdue]

@[simp] theorem State.due_clk (s : State) (h p b : Nat) : (s.due h p b).clk = s.clk := by
  unfold State.due
  (repeat' split) <;> simp

@[simp] theorem State.loadRefresh_clk (s : State) (h p b : Nat) (emerg : Bool) : (s.loadRefresh h p b emerg).clk = s.clk := by
  simp only [State.loadRefresh]
  (repeat' split) <;> simp

@[simp] theorem State.refPb_clk (s : State) (h p : Nat) : (s.refPb h p).clk = s.clk := by
  simp only [State.refPb]
  (repeat' split) <;> simp

@[simp] theorem State.emergPb_clk (s : State) (h p b : Nat) : (s.emergPb h p b).clk = s.clk := by
  simp only [State.emergPb]
  (repeat' split) <;> simp

@[simp] theorem State.emergAb_clk (s : State) (h p : Nat) : (s.emergAb h p).clk = s.clk := by
  simp only [State.emergAb]
  (repeat' split) <;> simp

@[simp] theorem State.emergency_clk (s : State) (h p : Nat) : (s.emergency h p).clk = s.clk := by
  unfold State.emergency
  split <;> simp

@[simp] theorem State.refAb_clk (s : State) (h p : Nat) : (s.refAb h p).clk = s.clk := by simp [State.refAb]
@[simp] theorem State.enterSr_clk (s : State) (h p : Nat) (auto : Bool) : (s.enterSr h p auto).clk = s.clk := by simp [State.enterSr]
@[simp] theorem State.autoSr_clk (s : State) (h p : Nat) : (s.autoSr h p).clk = s.clk := by simp [State.autoSr]
@[simp] theorem State.exitSr_clk (s : State) (h p : Nat) : (s.exitSr h p).clk = s.clk := by simp [State.exitSr]
@[simp] theorem State.autoExit_clk (s : State) (h p : Nat) : (s.autoExit h p).clk = s.clk := by simp [State.autoExit]

@[simp] theorem State.clearTables_clk (s : State) (h p : Nat) : (s.clearTables h p).clk = s.clk := by
  simp only [State.clearTables]
  (repeat' split) <;> simp

@[simp] theorem State.neighbourRefresh_clk (s : State) (h p b : Nat) : (s.neighbourRefresh h p b).clk = s.clk := by
  simp only [State.neighbourRefresh]
  (repeat' split) <;> simp

@[simp] theorem State.haltPc_clk (s : State) (h p : Nat) : (s.haltPc h p).clk = s.clk := by simp [State.haltPc]

@[simp] theorem State.alert_clk (s : State) (h p len : Nat) : (s.alert h p len).clk = s.clk := by
  simp only [State.alert]
  (repeat' split) <;> simp

@[simp] theorem State.haltReplay_clk (s : State) (h p : Nat) : (s.haltReplay h p).clk = s.clk := by simp [State.haltReplay]
@[simp] theorem State.parityAlert_clk (s : State) (h n len : Nat) : (s.parityAlert h n len).clk = s.clk := by simp [State.parityAlert]

@[simp] theorem State.replayClose_clk (s : State) (h p : Nat) (r : ReplaySt) : (s.replayClose h p r).clk = s.clk := by
  unfold State.replayClose
  split <;> simp

@[simp] theorem State.replayRestore_clk (s : State) (h p b row : Nat) (rest : List (Nat × Nat)) (r : ReplaySt) : (s.replayRestore h p b row rest r).clk = s.clk := by
  unfold State.replayRestore
  split <;> simp

@[simp] theorem State.reissue_clk (s : State) (h p : Nat) (e : CmdEntry) (y : RetryEnt) : (s.reissue h p e y).clk = s.clk := by
  unfold State.reissue
  split <;> simp

@[simp] theorem State.replayNext_clk (s : State) (h p : Nat) (y : RetryEnt) (rest : List RetryEnt) (r : ReplaySt) : (s.replayNext h p y rest r).clk = s.clk := by
  unfold State.replayNext
  split <;> simp

@[simp] theorem State.retryStall_clk (s : State) (h p : Nat) : (s.retryStall h p).clk = s.clk := by simp [State.retryStall]

@[simp] theorem State.replayStep_clk (s : State) (h p : Nat) : (s.replayStep h p).clk = s.clk := by
  simp only [State.replayStep]
  (repeat' split) <;> simp

@[simp] theorem State.replayEnd_clk (s : State) (h p : Nat) : (s.replayEnd h p).clk = s.clk := by
  simp only [State.replayEnd]
  (repeat' split) <;> simp

@[simp] theorem State.slotGrant_clk (s : State) (h p : Nat) : (s.slotGrant h p).clk = s.clk := by simp [State.slotGrant]

/-! ## Training -/

@[simp] theorem State.setTrim_clk (s : State) (h p lane hp : Nat) (x : TrimRec) : (s.setTrim h p lane hp x).clk = s.clk := by simp [State.setTrim]
@[simp] theorem State.useTrims_clk (s : State) (h p hp : Nat) : (s.useTrims h p hp).clk = s.clk := by simp [State.useTrims]
@[simp] theorem State.writeTrimRec_clk (s : State) (h p lane hp : Nat) (x : TrimRec) : (s.writeTrimRec h p lane hp x).clk = s.clk := by simp [State.writeTrimRec]
@[simp] theorem State.scaleTrims_clk (s : State) (h p b : Nat) : (s.scaleTrims h p b).clk = s.clk := by simp [State.scaleTrims]

@[simp] theorem State.trimLanes_clk (s : State) (h p : Nat) (ok : LaneEye → Bool) (eyes : List LaneEye) (lanes : List Nat) :
    (s.trimLanes h p ok eyes lanes).clk = s.clk := by
  simp only [State.trimLanes, State.useTrims_clk]
  exact foldl_clk _ _ _ fun l t => by dsimp only; split <;> simp

@[simp] theorem State.moveTrims_clk (s : State) (h p : Nat) (moves : List LaneMove) : (s.moveTrims h p moves).clk = s.clk := by
  simp only [State.moveTrims, State.useTrims_clk]
  exact foldl_clk _ _ _ fun lane t => by dsimp only; split <;> simp

@[simp] theorem State.retrainDue_clk (s : State) (h p : Nat) : (s.retrainDue h p).clk = s.clk := by simp [State.retrainDue]
@[simp] theorem State.retrainPause_clk (s : State) (h p : Nat) : (s.retrainPause h p).clk = s.clk := by simp [State.retrainPause]

@[simp] theorem State.pauseRun_clk (s : State) (h p : Nat) (moves : List LaneMove) (err : Bool) : (s.pauseRun h p moves err).1.clk = s.clk := by
  simp [State.pauseRun]

@[simp] theorem State.pauseFailed_clk (s : State) (h p : Nat) : (s.pauseFailed h p).clk = s.clk := by simp [State.pauseFailed]

@[simp] theorem State.pauseResult_clk (s : State) (h p start : Nat) (moves : List LaneMove) (err atOnce : Bool) :
    (s.pauseResult h p start moves err atOnce).clk = s.clk := by
  simp [State.pauseResult]

@[simp] theorem State.retrainPauseEnd_clk (s : State) (h p : Nat) (moves : List LaneMove) (err : Bool) : (s.retrainPauseEnd h p moves err).clk = s.clk := by
  simp only [State.retrainPauseEnd]
  (repeat' split) <;> simp

@[simp] theorem State.trnStart_clk (s : State) (h p phase : Nat) : (s.trnStart h p phase).clk = s.clk := by simp [State.trnStart]

@[simp] theorem State.noteErrors_clk (s : State) (h p : Nat) (top : Option Nat) (errs : List (Nat × Nat)) : (s.noteErrors h p top errs).clk = s.clk := by
  simp [State.noteErrors]

@[simp] theorem State.compareDone_clk (s : State) (h p : Nat) (errs : List (Nat × Nat)) : (s.compareDone h p errs).clk = s.clk := by
  unfold State.compareDone
  split <;> simp

@[simp] theorem State.engineCompared_clk (s : State) (h p : Nat) (errs : List (Nat × Nat)) : (s.engineCompared h p errs).clk = s.clk := by
  simp [State.engineCompared]

end Sys2Proof.Machine
end

section
/-! SUPPORT. The clocks under signals, images, hinges and heat (R76, R216): a hinge stops and switches them and keeps TIME64. -/

namespace Sys2Proof.Machine

/-! ## Signals, queues and traffic made in one step -/

@[simp] theorem State.signal_clk (s : State) (f vec : Nat) : (s.signal f vec).clk = s.clk := by
  unfold State.signal
  split <;> simp

@[simp] theorem State.fnEvent_clk (s : State) (f : Nat) (e : FnEvent) : (s.fnEvent f e).clk = s.clk := by simp [State.fnEvent]
@[simp] theorem State.fnEventAll_clk (s : State) (e : FnEvent) : (s.fnEventAll e).clk = s.clk := by simp [State.fnEventAll]
@[simp] theorem State.qwr_clk (s : State) (q : QueueId) (f : Fld) (v : Nat) : (s.qwr q f v).clk = s.clk := by simp [State.qwr]
@[simp] theorem State.setCmd_clk (s : State) (q : QueueId) (c : Cmd) : (s.setCmd q c).clk = s.clk := by simp [State.setCmd]

@[simp] theorem State.signalQueue_clk (s : State) (q : QueueId) : (s.signalQueue q).clk = s.clk := by
  unfold State.signalQueue
  split <;> simp

@[simp] theorem State.stopQueue_clk (s : State) (q : QueueId) (st : Status) : (s.stopQueue q st).clk = s.clk := by simp [State.stopQueue]

@[simp] theorem State.endCmd_clk (s : State) (q : QueueId) (idx : Nat) (st : Status) : (s.endCmd q idx st).clk = s.clk := by
  unfold State.endCmd
  split <;> simp

@[simp] theorem State.endCmdWith_clk (s : State) (q : QueueId) (idx : Nat) (st : Status) (detail : Nat) : (s.endCmdWith q idx st detail).clk = s.clk := by
  unfold State.endCmdWith
  split <;> simp

@[simp] theorem State.coverPending_clk (s : State) (pl : Place) (m : BitVec 32) : (s.coverPending pl m).clk = s.clk := by simp [State.coverPending]

@[simp] theorem State.pokeSector_clk (s : State) (pl : Place) (data : BitVec 256) (m : BitVec 32) : (s.pokeSector pl data m).1.clk = s.clk := by
  unfold State.pokeSector
  (repeat' split) <;> simp

@[simp] theorem State.pass_clk (s : State) (v : Via) (r : Req) (first : Bool) : (s.pass v r first).clk = s.clk := by
  unfold State.pass
  (repeat' split) <;> simp

@[simp] theorem State.fetchSector_clk (s : State) (v : Via) (addr : Nat) (first : Bool) : (s.fetchSector v addr first).1.clk = s.clk := by
  simp only [State.fetchSector]
  (repeat' split) <;> simp

@[simp] theorem State.storeBytes_clk (s : State) (v : Via) (addr : Nat) (data : BitVec 256) (m : BitVec 32) (bad first : Bool) :
    (s.storeBytes v addr data m bad first).1.clk = s.clk := by
  unfold State.storeBytes
  (repeat' split) <;> simp

@[simp] theorem State.fetchMore_clk (s : State) (v : Via) (n addr : Nat) (first : Bool) : (s.fetchMore v n addr first).1.clk = s.clk := by
  induction n generalizing s addr first with
  | zero => rfl
  | succ n ih => simp [State.fetchMore, ih]

@[simp] theorem State.fetchSectors_clk (s : State) (v : Via) (n addr : Nat) : (s.fetchSectors v n addr).1.clk = s.clk := by simp [State.fetchSectors]
@[simp] theorem State.fetchBlock_clk (s : State) (v : Via) (addr : Nat) : (s.fetchBlock v addr).1.clk = s.clk := by simp [State.fetchBlock]

@[simp] theorem State.storeBlockN_clk (s : State) (v : Via) (addr : Nat) (data : Block) (marks : BitVec 8) (n : Nat) :
    (s.storeBlockN v addr data marks n).1.clk = s.clk := by
  induction n with
  | zero => rfl
  | succ n ih => simp [State.storeBlockN, ih]

@[simp] theorem State.storeBlock_clk (s : State) (v : Via) (addr : Nat) (data : Block) (marks : BitVec 8) : (s.storeBlock v addr data marks).1.clk = s.clk := by
  simp [State.storeBlock]

/-! ## The structure image -/

@[simp] theorem State.hubImage_clk (s : State) (h state code frame : Nat) : (s.hubImage h state code frame).clk = s.clk := by simp [State.hubImage]
@[simp] theorem State.imageState_clk (s : State) (state kind : Nat) : (s.imageState state kind).clk = s.clk := by simp [State.imageState]

@[simp] theorem State.imageStatus_clk (s : State) (state kind code frame hub : Nat) : (s.imageStatus state kind code frame hub).clk = s.clk := by
  simp [State.imageStatus]

@[simp] theorem State.rejectImage_clk (s : State) (kind : Nat) (e : LoadErr) (found : List (Nat × Nat)) : (s.rejectImage kind e found).clk = s.clk := by
  simp [State.rejectImage]

@[simp] theorem State.loadSlots_clk (s : State) (h d : Nat) (c : Option LouvreCfg) : (s.loadSlots h d c).clk = s.clk := by simp [State.loadSlots]

@[simp] theorem State.loadArbiter_clk (s : State) (h : Nat) : (s.loadArbiter h).clk = s.clk := by
  unfold State.loadArbiter
  split <;> simp

@[simp] theorem State.loadFields_clk (s : State) : s.loadFields.clk = s.clk := by simp [State.loadFields]
@[simp] theorem State.setMode_clk (s : State) (h p : Nat) : (s.setMode h p).clk = s.clk := by simp [State.setMode]
@[simp] theorem State.setModes_clk (s : State) : s.setModes.clk = s.clk := by simp [State.setModes]

@[simp] theorem State.loadFull_clk (s : State) (l : List Byte) : (s.loadFull l).1.clk = s.clk := by
  simp only [State.loadFull]
  (repeat' split) <;> simp

@[simp] theorem State.setTicks_clk (s : State) : s.setTicks.clk = s.clk := by simp [State.setTicks]
@[simp] theorem State.stage_clk (s : State) (c : Change) : (s.stage c).clk = s.clk := by simp [State.stage]

@[simp] theorem State.beginPartial_clk (s : State) : s.beginPartial.clk = s.clk := by
  simp only [State.beginPartial]
  (repeat' split) <;> simp

@[simp] theorem State.endLayout_clk (s : State) (code : Nat) : (s.endLayout code).clk = s.clk := by simp [State.endLayout]
@[simp] theorem State.beginLayout_clk (s : State) : s.beginLayout.clk = s.clk := by simp [State.beginLayout]
@[simp] theorem State.startHeld_clk (s : State) : s.startHeld.clk = s.clk := by simp [State.startHeld]
@[simp] theorem State.startImage_clk (s : State) : s.startImage.clk = s.clk := by simp [State.startImage]
@[simp] theorem State.startLayout_clk (s : State) : s.startLayout.clk = s.clk := by simp [State.startLayout]
@[simp] theorem State.endImage_clk (s : State) (code : Nat) : (s.endImage code).clk = s.clk := by simp [State.endImage]
@[simp] theorem State.abortLayout_clk (s : State) (code : Nat) : (s.abortLayout code).clk = s.clk := by simp [State.abortLayout]
@[simp] theorem State.abortStaged_clk (s : State) : s.abortStaged.clk = s.clk := by simp [State.abortStaged]
@[simp] theorem State.abortFor_clk (s : State) (c : Nat) : (s.abortFor c).clk = s.clk := by simp [State.abortFor]
@[simp] theorem State.quiesceLost_clk (s : State) : s.quiesceLost.clk = s.clk := by simp [State.quiesceLost]
@[simp] theorem State.quiesce_clk (s : State) (v : Nat) : (s.quiesce v).clk = s.clk := by simp [State.quiesce]
@[simp] theorem State.quiesced_clk (s : State) (n : Nat) : (s.quiesced n).clk = s.clk := by simp [State.quiesced]

@[simp] theorem State.fenceApply_clk (s : State) (base len : Nat) : (s.fenceApply base len).clk = s.clk := by
  unfold State.fenceApply
  split <;> simp

@[simp] theorem State.targetReady_clk (s : State) (h : Nat) : (s.targetReady h).clk = s.clk := by simp [State.targetReady]
@[simp] theorem State.commitImage_clk (s : State) (c : RunCfg) (doors : List (Nat × Nat)) : (s.commitImage c doors).clk = s.clk := by simp [State.commitImage]

@[simp] theorem State.commitOne_clk (s : State) (x : Staged) : (s.commitOne x).clk = s.clk := by
  unfold State.commitOne
  split <;> simp

@[simp] theorem State.commit_clk (s : State) : s.commit.clk = s.clk := by simp [State.commit]
@[simp] theorem State.moveTicks_clk (s : State) : s.moveTicks.clk = s.clk := by simp [State.moveTicks]

/-! ## Hinges and power states -/

@[simp] theorem State.hingeError_clk (s : State) (e : Nat) : (s.hingeError e).clk = s.clk := by simp [State.hingeError]

@[simp] theorem State.hingeRequest_clk (s : State) (t : Nat) : (s.hingeRequest t).clk = s.clk := by
  unfold State.hingeRequest
  split <;> simp

@[simp] theorem State.endHinges_clk (s : State) (l : List QueueId) (st : Status) : (s.endHinges l st).clk = s.clk :=
  foldl_clk _ _ _ fun q t => by dsimp only; split <;> simp

@[simp] theorem State.hingeEnter_clk (s : State) (h p : Nat) : (s.hingeEnter h p).clk = s.clk := by simp [State.hingeEnter]

@[simp] theorem State.hingeProgress_time (s : State) : s.hingeProgress.clk.time = s.clk.time := by
  unfold State.hingeProgress
  split
  case h_4 => split <;> rfl
  all_goals simp

@[simp] theorem State.hingeRun_time (s : State) : s.hingeRun.clk.time = s.clk.time := by simp [State.hingeRun]

@[simp] theorem State.hingeStart_time (s : State) : s.hingeStart.clk.time = s.clk.time := by
  unfold State.hingeStart
  split <;> simp

@[simp] theorem State.switchPc_clk (s : State) (h p : Nat) : (s.switchPc h p).clk = s.clk := by simp [State.switchPc]

@[simp] theorem State.switchTick_time (s : State) : s.switchTick.clk.time = s.clk.time := by
  unfold State.switchTick
  split
  · split
    · simp [Clk.time]
    · rfl
  · rfl

@[simp] theorem State.shiftTimers_clk (s : State) (n : Nat) : (s.shiftTimers n).clk = s.clk := by simp [State.shiftTimers]
@[simp] theorem State.hingePause_clk (s : State) (h p : Nat) (l : List PauseRes) : (s.hingePause h p l).clk = s.clk := by simp [State.hingePause]
@[simp] theorem State.hingeRelease_clk (s : State) (pauses : List PauseRes) : (s.hingeRelease pauses).clk = s.clk := by simp [State.hingeRelease]
@[simp] theorem State.abandonHinge_clk (s : State) : s.abandonHinge.clk = s.clk := by simp [State.abandonHinge]
@[simp] theorem State.pwrDone_clk (s : State) (st err : Nat) : (s.pwrDone st err).clk = s.clk := by simp [State.pwrDone]
@[simp] theorem State.compOff_clk (s : State) : s.compOff.clk = s.clk := by simp [State.compOff]
@[simp] theorem State.pwrHinge_clk (s : State) (hp st : Nat) : (s.pwrHinge hp st).clk = s.clk := by simp [State.pwrHinge]

@[simp] theorem State.pwrProgress_clk (s : State) : s.pwrProgress.clk = s.clk := by
  unfold State.pwrProgress
  split <;> simp

@[simp] theorem State.pwrRequest_clk (s : State) (st : Nat) : (s.pwrRequest st).clk = s.clk := by simp [State.pwrRequest]

/-! ## Ports, repairs and heat -/

@[simp] theorem State.blowOnce_clk (s : State) (h : Nat) (v : Word) : (s.blowOnce h v).clk = s.clk := by simp [State.blowOnce]

@[simp] theorem State.blowTries_clk (s : State) (h : Nat) (v : Word) (n : Nat) : (s.blowTries h v n).clk = s.clk := by
  induction n generalizing s with
  | zero => simp [State.blowTries]
  | succ n ih => simp [State.blowTries, ih]

@[simp] theorem State.blow_clk (s : State) (h : Nat) (r : FuseRec) : (s.blow h r).clk = s.clk := by simp [State.blow]
@[simp] theorem State.useSpare_clk (s : State) (h p b kind : Nat) : (s.useSpare h p b kind).clk = s.clk := by simp [State.useSpare]
@[simp] theorem State.shiftThrough_clk (s : State) (h st : Nat) (inp : List Byte) : (s.shiftThrough h st inp).clk = s.clk := by simp [State.shiftThrough]

@[simp] theorem State.portNext_clk (s : State) (h st : Nat) (gap : Bool) : (s.portNext h st gap).clk = s.clk := by
  simp only [State.portNext]
  (repeat' split) <;> simp

@[simp] theorem State.poisonRow_clk (s : State) (h p b row : Nat) : (s.poisonRow h p b row).clk = s.clk := by simp [State.poisonRow]
@[simp] theorem State.repairDone_clk (s : State) (r : RepairSt) : (s.repairDone r).clk = s.clk := by simp [State.repairDone]
@[simp] theorem State.repairFailed_clk (s : State) (r : RepairSt) : (s.repairFailed r).clk = s.clk := by simp [State.repairFailed]
@[simp] theorem State.engineTraining_clk (s : State) (h p : Nat) : (s.engineTraining h p).clk = s.clk := by simp [State.engineTraining]
@[simp] theorem State.repairLast_clk (s : State) (h st : Nat) (r : RepairSt) : (s.repairLast h st r).clk = s.clk := by simp [State.repairLast]

@[simp] theorem State.portOperation_clk (s : State) (h st : Nat) : (s.portOperation h st).clk = s.clk := by
  simp only [State.portOperation]
  (repeat' split) <;> simp

@[simp] theorem State.programStep_clk (s : State) (h st : Nat) : (s.programStep h st).clk = s.clk := by simp [State.programStep]
@[simp] theorem State.directAccess_clk (s : State) (h : Nat) (inp : List Byte) : (s.directAccess h inp).clk = s.clk := by simp [State.directAccess]

@[simp] theorem State.cutRepairs_clk (s : State) : s.cutRepairs.clk = s.clk :=
  foldl_clk _ _ _ fun x t => by dsimp only; split <;> simp

@[simp] theorem State.closedCount_clk (s : State) (h n : Nat) : (s.closedCount h n).clk = s.clk := by simp [State.closedCount]
@[simp] theorem State.closeStack_clk (s : State) (h st : Nat) : (s.closeStack h st).clk = s.clk := by simp [State.closeStack]
@[simp] theorem State.openStack_clk (s : State) (h st : Nat) : (s.openStack h st).clk = s.clk := by simp [State.openStack]
@[simp] theorem State.announce_clk (s : State) (d h st : Nat) : (s.announce d h st).clk = s.clk := by simp [State.announce]
@[simp] theorem State.tierEvents_clk (s old : State) (h : Nat) : (s.tierEvents old h).clk = s.clk := by simp [State.tierEvents]
@[simp] theorem State.capFollow_clk (s : State) : s.capFollow.clk = s.clk := by simp [State.capFollow]
@[simp] theorem State.heatChanged_clk (s old : State) : (s.heatChanged old).clk = s.clk := by simp [State.heatChanged]
@[simp] theorem State.readStack_clk (s : State) (h st : Nat) (x : Int) : (s.readStack h st x).clk = s.clk := by simp [State.readStack]
@[simp] theorem State.temperatureReadout_clk (s : State) (h st : Nat) (x : Int) : (s.temperatureReadout h st x).clk = s.clk := by simp [State.temperatureReadout]

@[simp] theorem State.dieReading_clk (s : State) (d : Nat) (l : List Int) : (s.dieReading d l).clk = s.clk := by
  simp only [State.dieReading]
  (repeat' split) <;> simp

@[simp] theorem State.goStale_clk (s : State) (h st : Nat) : (s.goStale h st).clk = s.clk := by simp [State.goStale]
@[simp] theorem State.throttle_clk (s : State) (d level : Nat) : (s.throttle d level).clk = s.clk := by simp [State.throttle]

end Sys2Proof.Machine
end

section
/-! SUPPORT. The clocks under the engines, the cores and the fabric (R76): none of these operations touches them. -/

namespace Sys2Proof.Machine

/-! ## Queues, MOVE and HUB commands -/

@[simp] theorem State.ringDoorbell_clk (s : State) (q : QueueId) (v : Nat) : (s.ringDoorbell q v).clk = s.clk := by simp [State.ringDoorbell]
@[simp] theorem State.cplDoorbell_clk (s : State) (q : QueueId) (v : Nat) : (s.cplDoorbell q v).clk = s.clk := by simp [State.cplDoorbell]
@[simp] theorem State.enableQueue_clk (s : State) (q : QueueId) : (s.enableQueue q).clk = s.clk := by simp [State.enableQueue]
@[simp] theorem State.restartQueue_clk (s : State) (q : QueueId) : (s.restartQueue q).clk = s.clk := by simp [State.restartQueue]
@[simp] theorem State.served_clk (s : State) (q : QueueId) : (s.served q).clk = s.clk := by simp [State.served]

/-- A command that starts keeps the clocks where its own work does. -/
@[simp] theorem State.startCmd_clk (s : State) (q : QueueId) (op : Nat) (own : Cmd → List Status) (run : State → Cmd → State) (detail : Cmd → Status → Nat)
    (hrun : ∀ c, KeepsClk (run · c)) : (s.startCmd q op own run detail).clk = s.clk := by
  unfold State.startCmd
  split
  · rfl
  · next c _ =>
    dsimp only
    split
    · split
      · simp
      · exact (hrun _ _).trans (by simp)
    · rfl

@[simp] theorem State.reapOne_clk (s : State) (q : QueueId) : (s.reapOne q).clk = s.clk := by
  unfold State.reapOne
  split <;> simp

@[simp] theorem State.reapN_clk (s : State) (q : QueueId) (n : Nat) : (s.reapN q n).clk = s.clk := by
  induction n generalizing s with
  | zero => rfl
  | succ n ih => simp [State.reapN, ih]

@[simp] theorem State.reap_clk (s : State) (q : QueueId) : (s.reap q).clk = s.clk := by simp [State.reap]
@[simp] theorem State.commandFetch_clk (s : State) (q : QueueId) : (s.commandFetch q).clk = s.clk := by simp [State.commandFetch]

@[simp] theorem State.writeRecord_clk (s : State) (q : QueueId) (c : Cmd) (st : Status) : (s.writeRecord q c st).1.clk = s.clk := by
  simp only [State.writeRecord]
  (repeat' split) <;> simp

@[simp] theorem State.retire_clk (s : State) (q : QueueId) (c : Cmd) (st : Status) : (s.retire q c st).clk = s.clk := by simp [State.retire]

@[simp] theorem State.completionRecord_clk (s : State) (q : QueueId) : (s.completionRecord q).clk = s.clk := by
  simp only [State.completionRecord]
  (repeat' split) <;> simp

@[simp] theorem State.syncAdd_clk (s : State) (c k v : Nat) : (s.syncAdd c k v).clk = s.clk := by simp [State.syncAdd]
@[simp] theorem State.runNop_clk (s : State) (q : QueueId) (c : Cmd) : (s.runNop q c).clk = s.clk := by simp [State.runNop]
@[simp] theorem State.runSignal_clk (s : State) (q : QueueId) (c : Cmd) : (s.runSignal q c).clk = s.clk := by simp [State.runSignal]

@[simp] theorem State.waitProgress_clk (s : State) (q : QueueId) : (s.waitProgress q).clk = s.clk := by
  unfold State.waitProgress
  split <;> simp

@[simp] theorem State.offer_clk (s : State) (h door : Nat) (r : Req) (ovr : Option Nat) (may : Bool) : (s.offer h door r ovr may).1.clk = s.clk := by
  unfold State.offer
  split <;> simp

@[simp] theorem State.moveWrite_clk (s : State) (q : QueueId) (c : Cmd) (k : Nat) (data : Block) (poison : BitVec 8) :
    (s.moveWrite q c k data poison).clk = s.clk := by
  simp only [State.moveWrite]
  split
  · simp
  · split <;> next ho => simp [clk_of_pair ho (State.offer_clk ..)]

@[simp] theorem State.endIfDone_clk (s : State) (q : QueueId) (idx total : Nat) : (s.endIfDone q idx total).clk = s.clk := by
  unfold State.endIfDone
  split <;> simp

@[simp] theorem State.moveIssue_clk (s : State) (q : QueueId) (c : Cmd) : (s.moveIssue q c).clk = s.clk := by
  simp only [State.moveIssue]
  split
  · split
    · simp
    · split <;> next ho => simp [clk_of_pair ho (State.offer_clk ..)]
  · exact (State.moveWrite_clk ..).trans (State.setCmd_clk ..)

@[simp] theorem State.movePump1_clk (s : State) (q : QueueId) : (s.movePump1 q).clk = s.clk := by
  simp only [State.movePump1]
  (repeat' split) <;> simp

@[simp] theorem State.movePumpN_clk (s : State) (q : QueueId) (n : Nat) : (s.movePumpN q n).clk = s.clk := by
  induction n generalizing s with
  | zero => rfl
  | succ n ih => simp [State.movePumpN, ih]

@[simp] theorem State.movePump_clk (s : State) (q : QueueId) : (s.movePump q).clk = s.clk := by simp [State.movePump]

@[simp] theorem State.moveData_clk (s : State) (q : QueueId) (idx k : Nat) (st : Status) (data : Block) (poison : BitVec 8) :
    (s.moveData q idx k st data poison).clk = s.clk := by
  unfold State.moveData
  split <;> simp

@[simp] theorem State.moveWritten_clk (s : State) (q : QueueId) (idx k : Nat) (st : Status) : (s.moveWritten q idx k st).clk = s.clk := by
  unfold State.moveWritten
  split <;> simp

@[simp] theorem State.hostReadDone_clk (s : State) (q : QueueId) (data : Option Block) : (s.hostReadDone q data).clk = s.clk := by
  simp only [State.hostReadDone]
  (repeat' split) <;> simp

@[simp] theorem State.runFenceAdd_clk (s : State) (q : QueueId) (c : Cmd) : (s.runFenceAdd q c).clk = s.clk := by simp [State.runFenceAdd]
@[simp] theorem State.runFenceDel_clk (s : State) (q : QueueId) (c : Cmd) : (s.runFenceDel q c).clk = s.clk := by simp [State.runFenceDel]

@[simp] theorem State.scrubPump1_clk (s : State) (q : QueueId) (idx : Nat) : (s.scrubPump1 q idx).clk = s.clk := by
  unfold State.scrubPump1
  split
  · rfl
  · dsimp only
    split
    · split
      · simp
      · split <;> next ho => simp [clk_of_pair ho (State.offer_clk ..)]
    · rfl

@[simp] theorem State.scrubPumpN_clk (s : State) (q : QueueId) (idx n : Nat) : (s.scrubPumpN q idx n).clk = s.clk := by
  induction n generalizing s with
  | zero => rfl
  | succ n ih => simp [State.scrubPumpN, ih]

@[simp] theorem State.scrubPump_clk (s : State) (q : QueueId) (idx : Nat) : (s.scrubPump q idx).clk = s.clk := by
  unfold State.scrubPump
  split <;> simp

@[simp] theorem State.scrubRead_clk (s : State) (q : QueueId) (idx k : Nat) (st : Status) : (s.scrubRead q idx k st).clk = s.clk := by
  unfold State.scrubRead
  split <;> simp

@[simp] theorem State.runRepair_clk (s : State) (q : QueueId) (c : Cmd) : (s.runRepair q c).clk = s.clk := by simp [State.runRepair]
@[simp] theorem State.runRetrain_clk (s : State) (q : QueueId) (c : Cmd) : (s.runRetrain q c).clk = s.clk := by simp [State.runRetrain]

@[simp] theorem State.laneTrained_clk (s : State) (r : RepairSt) (h p : Nat) (eyes : List LaneEye) : (s.laneTrained r h p eyes).clk = s.clk := by
  simp [State.laneTrained]

@[simp] theorem State.unhalt_clk (s : State) (h p : Nat) : (s.unhalt h p).clk = s.clk := by simp [State.unhalt]

@[simp] theorem State.retrained_clk (s : State) (q : QueueId) (c : Cmd) (h p : Nat) (eyes : List LaneEye) : (s.retrained q c h p eyes).clk = s.clk := by
  simp [State.retrained]

@[simp] theorem State.engineTrained_clk (s : State) (h p : Nat) (eyes : List LaneEye) : (s.engineTrained h p eyes).clk = s.clk := by
  unfold State.engineTrained
  (repeat' split) <;> simp

@[simp] theorem State.marchRow_clk (s : State) (h p b row w : Nat) : (s.marchRow h p b row w).1.clk = s.clk := by simp [State.marchRow]

@[simp] theorem State.marchRows_clk (s : State) (h p w : Nat) (banks : List Nat) (n r : Nat) : (s.marchRows h p w banks n r).1.clk = s.clk := by
  induction n generalizing s r with
  | zero => rfl
  | succ n ih =>
    have hbanks : ∀ (l : List Nat) (a : State × Bool),
        (l.foldl (fun a b => ((a.1.marchRow h p b r w).1, a.2 && (a.1.marchRow h p b r w).2)) a).1.clk = a.1.clk :=
      foldl_fst_clk fun a b => by simp
    exact (ih ..).trans (hbanks ..)

@[simp] theorem State.runMarch_clk (s : State) (q : QueueId) (c : Cmd) : (s.runMarch q c).clk = s.clk := by
  simp only [State.runMarch]
  (repeat' split) <;> simp

@[simp] theorem State.march_clk (s : State) (q : QueueId) : (s.march q).clk = s.clk := by
  unfold State.march
  split <;> simp

@[simp] theorem State.releasePc_clk (s : State) (h p : Nat) : (s.releasePc h p).clk = s.clk := by simp [State.releasePc]
@[simp] theorem State.runRelease_clk (s : State) (q : QueueId) (c : Cmd) : (s.runRelease q c).clk = s.clk := by simp [State.runRelease]

@[simp] theorem State.runHinge_clk (s : State) (q : QueueId) (c : Cmd) : (s.runHinge q c).clk = s.clk := by
  simp only [State.runHinge]
  (repeat' split) <;> simp

/-! ## The matrix cores -/

@[simp] theorem State.stopKernel_clk (s : State) (x : KernelSt) (st : Status) : (s.stopKernel x st).clk = s.clk := by simp [State.stopKernel]
@[simp] theorem State.recordFault_clk (s : State) (p : CorePos) (st : Status) (ip : Nat) : (s.recordFault p st ip).clk = s.clk := by simp [State.recordFault]
@[simp] theorem State.coreFault_clk (s : State) (c : CoreCtx) (st : Status) : (s.coreFault c st).clk = s.clk := by simp [State.coreFault]
@[simp] theorem State.coreCount_clk (s : State) (p : CorePos) (ev n : Nat) : (s.coreCount p ev n).clk = s.clk := by simp [State.coreCount]
@[simp] theorem State.sampleInsn_clk (s : State) (c : CoreCtx) (usable : Nat) : (s.sampleInsn c usable).clk = s.clk := by simp [State.sampleInsn]

@[simp] theorem State.sampleStream_clk (s : State) (p : CorePos) : (s.sampleStream p).clk = s.clk := by
  simp only [State.sampleStream]
  (repeat' split) <;> simp

@[simp] theorem State.coreIssued_clk (s : State) (c : CoreCtx) (x : CoreSt) (usable : Nat) : (s.coreIssued c x usable).clk = s.clk := by simp [State.coreIssued]
@[simp] theorem State.coreStall_clk (s : State) (c : CoreCtx) (why : Nat) : (s.coreStall c why).clk = s.clk := by simp [State.coreStall]

/-- An instruction of a core keeps the clocks where its own work does. -/
@[simp] theorem State.coreStep_clk (s : State) (i : CoreId) (op : Nat) (run : State → CoreCtx → State) (hrun : ∀ c, KeepsClk (run · c)) :
    (s.coreStep i op run).clk = s.clk := by
  unfold State.coreStep
  split
  · rfl
  · next c _ => simp [hrun c s]

@[simp] theorem State.plain_clk (s : State) (c : CoreCtx) (f : CoreSt → CoreSt) : (s.plain c f).clk = s.clk := by simp [State.plain]
@[simp] theorem State.runLoop_clk (s : State) (c : CoreCtx) : (s.runLoop c).clk = s.clk := by simp [State.runLoop]
@[simp] theorem State.runSetag_clk (s : State) (c : CoreCtx) : (s.runSetag c).clk = s.clk := by simp [State.runSetag]
@[simp] theorem State.runSetsb_clk (s : State) (c : CoreCtx) : (s.runSetsb c).clk = s.clk := by simp [State.runSetsb]
@[simp] theorem State.runWaits_clk (s : State) (c : CoreCtx) : (s.runWaits c).clk = s.clk := by simp [State.runWaits]
@[simp] theorem State.runEnd_clk (s : State) (c : CoreCtx) : (s.runEnd c).clk = s.clk := by simp [State.runEnd]
@[simp] theorem State.runSync_clk (s : State) (c : CoreCtx) : (s.runSync c).clk = s.clk := by simp [State.runSync]
@[simp] theorem State.pushCluster_clk (s : State) (d k : Nat) (r : TraceRec) : (s.pushCluster d k r).clk = s.clk := by simp [State.pushCluster]
@[simp] theorem State.runTrace_clk (s : State) (c : CoreCtx) : (s.runTrace c).clk = s.clk := by simp [State.runTrace]

@[simp] theorem State.compute_clk (s : State) (c : CoreCtx) (n : TileInsn) (f : List Block → Block) : (s.compute c n f).clk = s.clk := by
  simp only [State.compute]
  (repeat' split) <;> simp

@[simp] theorem State.unary_clk (s : State) (c : CoreCtx) (n : TileInsn) (f : BitVec 32 → BitVec 32) : (s.unary c n f).clk = s.clk := by simp [State.unary]
@[simp] theorem State.binary_clk (s : State) (c : CoreCtx) (f : BitVec 32 → BitVec 32 → BitVec 32) : (s.binary c f).clk = s.clk := by simp [State.binary]
@[simp] theorem State.runCvt_clk (s : State) (c : CoreCtx) : (s.runCvt c).clk = s.clk := by simp [State.runCvt]
@[simp] theorem State.runUnpk_clk (s : State) (c : CoreCtx) : (s.runUnpk c).clk = s.clk := by simp [State.runUnpk]
@[simp] theorem State.runFill_clk (s : State) (c : CoreCtx) : (s.runFill c).clk = s.clk := by simp [State.runFill]
@[simp] theorem State.runZero_clk (s : State) (c : CoreCtx) : (s.runZero c).clk = s.clk := by simp [State.runZero]
@[simp] theorem State.runMovt_clk (s : State) (c : CoreCtx) : (s.runMovt c).clk = s.clk := by simp [State.runMovt]
@[simp] theorem State.runTrn_clk (s : State) (c : CoreCtx) : (s.runTrn c).clk = s.clk := by simp [State.runTrn]
@[simp] theorem State.runFma_clk (s : State) (c : CoreCtx) : (s.runFma c).clk = s.clk := by simp [State.runFma]
@[simp] theorem State.runSel_clk (s : State) (c : CoreCtx) : (s.runSel c).clk = s.clk := by simp [State.runSel]
@[simp] theorem State.runLut_clk (s : State) (c : CoreCtx) : (s.runLut c).clk = s.clk := by simp [State.runLut]
@[simp] theorem State.runRsum_clk (s : State) (c : CoreCtx) : (s.runRsum c).clk = s.clk := by simp [State.runRsum]
@[simp] theorem State.runRmax_clk (s : State) (c : CoreCtx) : (s.runRmax c).clk = s.clk := by simp [State.runRmax]
@[simp] theorem State.runRowop_clk (s : State) (c : CoreCtx) : (s.runRowop c).clk = s.clk := by simp [State.runRowop]
@[simp] theorem State.runScl_clk (s : State) (c : CoreCtx) : (s.runScl c).clk = s.clk := by simp [State.runScl]

@[simp] theorem State.runMma_clk (s : State) (c : CoreCtx) (zero : Bool) (f : Block → Block → Block → Block) : (s.runMma c zero f).clk = s.clk := by
  unfold State.runMma
  split <;> simp

@[simp] theorem State.runMma16_clk (s : State) (c : CoreCtx) : (s.runMma16 c).clk = s.clk := by simp [State.runMma16]
@[simp] theorem State.runMma8_clk (s : State) (c : CoreCtx) : (s.runMma8 c).clk = s.clk := by simp [State.runMma8]
@[simp] theorem State.sendUp_clk (s : State) (d : Nat) (m : AkReq) : (s.sendUp d m).clk = s.clk := by simp [State.sendUp]

@[simp] theorem State.sendStream_clk (s : State) (p : CorePos) : (s.sendStream p).clk = s.clk := by
  simp only [State.sendStream]
  (repeat' split) <;> simp

@[simp] theorem State.runStream_clk (s : State) (c : CoreCtx) (write sector : Bool) : (s.runStream c write sector).clk = s.clk := by
  unfold State.runStream
  split <;> simp

@[simp] theorem State.endStream_clk (s : State) (p : CorePos) (tag : Nat) : (s.endStream p tag).clk = s.clk := by simp [State.endStream]

@[simp] theorem State.streamArrival_clk (s : State) (p : CorePos) : (s.streamArrival p).clk = s.clk := by
  simp only [State.streamArrival]
  (repeat' split) <;> simp

@[simp] theorem State.streamAnswer_clk (s : State) (p : CorePos) (tag : Nat) (st : Status) (data : Block) (marks pkind : BitVec 8) :
    (s.streamAnswer p tag st data marks pkind).clk = s.clk := by
  simp only [State.streamAnswer]
  (repeat' split) <;> simp

@[simp] theorem State.takeCluster_clk (s : State) (d : Nat) (q : QueueId) (idx cas k : Nat) : (s.takeCluster d q idx cas k).clk = s.clk := by
  simp [State.takeCluster]

@[simp] theorem State.runDispatch_clk (s : State) (q : QueueId) (c : Cmd) : (s.runDispatch q c).clk = s.clk := by simp [State.runDispatch]

@[simp] theorem State.dispatch_clk (s : State) (q : QueueId) : (s.dispatch q).clk = s.clk := by
  unfold State.dispatch
  split <;> simp

@[simp] theorem State.clusterClear_clk (s : State) (d k : Nat) : (s.clusterClear d k).clk = s.clk := by
  unfold State.clusterClear
  extract_lets y t
  split
  · exact (State.setCluster_clk ..).trans (foldl_clk _ _ _ fun c t => State.setCore_clk ..)
  · rfl

@[simp] theorem State.fetchFault_clk (s : State) (kn : KernelSt) (k : Nat) (st : Status) : (s.fetchFault kn k st).clk = s.clk := by simp [State.fetchFault]

@[simp] theorem State.coreArgs_clk (s : State) (kn : KernelSt) (args : List Nat) (r : Nat) : (s.coreArgs kn args r).1.clk = s.clk := by
  unfold State.coreArgs
  split <;> simp

@[simp] theorem State.startCores_clk (s : State) (kn : KernelSt) (k : Nat) (table : List (BitVec 64)) (args : List Nat) (n : Nat) :
    (s.startCores kn k table args n).1.clk = s.clk := by
  induction n with
  | zero => rfl
  | succ n ih => simp [State.startCores, ih]

@[simp] theorem State.tableFetch_clk (s : State) (d k : Nat) : (s.tableFetch d k).clk = s.clk := by
  unfold State.tableFetch
  split <;> simp

@[simp] theorem State.freeCluster_clk (s : State) (d k : Nat) : (s.freeCluster d k).clk = s.clk := by
  unfold State.freeCluster
  extract_lets t
  exact (State.setCluster_clk ..).trans (foldl_clk _ _ _ fun c t => State.setCore_clk ..)

@[simp] theorem State.untag_clk (s : State) (d : Nat) (ks : List Nat) : (s.untag d ks).clk = s.clk := by simp [State.untag]

@[simp] theorem State.finishKernel_clk (s : State) (kn : KernelSt) (st : Status) : (s.finishKernel kn st).clk = s.clk := by
  simp only [State.finishKernel]
  (repeat' split) <;> simp

@[simp] theorem State.kernelComplete_clk (s : State) (d q : Nat) : (s.kernelComplete d q).clk = s.clk := by
  unfold State.kernelComplete
  split <;> simp

@[simp] theorem State.drainCluster_clk (s : State) (d k : Nat) : (s.drainCluster d k).clk = s.clk := by simp [State.drainCluster]
@[simp] theorem State.clusterGate_clk (s : State) (d k : Nat) : (s.clusterGate d k).clk = s.clk := by simp [State.clusterGate]
@[simp] theorem State.clusterUngate_clk (s : State) (d k : Nat) : (s.clusterUngate d k).clk = s.clk := by simp [State.clusterUngate]

/-! ## Pools and pages -/

@[simp] theorem State.pteRead_clk (s : State) (h : Nat) (cls : ReqClass) (cas pt n : Nat) : (s.pteRead h cls cas pt n).1.clk = s.clk := by
  simp only [State.pteRead]
  (repeat' split) <;> simp

@[simp] theorem State.ptcDrop_clk (s : State) (line : Nat) : (s.ptcDrop line).clk = s.clk := by simp [State.ptcDrop]

@[simp] theorem State.pteWrite_clk (s : State) (h : Nat) (cls : ReqClass) (cas pt n : Nat) (e : Pte) : (s.pteWrite h cls cas pt n e).1.clk = s.clk := by
  simp [State.pteWrite]

@[simp] theorem State.poolInit_clk (s : State) (q : QueueId) (c : Cmd) : (s.poolInit q c).clk = s.clk := by simp [State.poolInit]
@[simp] theorem State.sendPacket_clk (s : State) (h : Nat) (p : Packet) : (s.sendPacket h p).clk = s.clk := by simp [State.sendPacket]
@[simp] theorem State.sendFetch_clk (s : State) (x : PoolSt) (c : CopySt) : (s.sendFetch x c).clk = s.clk := by simp [State.sendFetch]

@[simp] theorem State.beginFetch_clk (s : State) (h : Nat) (cls : ReqClass) (cas pt n : Nat) (e : Pte) (page : Nat) (cmd : Option (QueueId × Nat)) :
    (s.beginFetch h cls cas pt n e page cmd).1.clk = s.clk := by
  simp only [State.beginFetch]
  (repeat' split) <;> simp

@[simp] theorem State.noteCmd_clk (s : State) (q : QueueId) (idx : Nat) (st : Status) : (s.noteCmd q idx st).clk = s.clk := by
  unfold State.noteCmd
  split <;> simp

@[simp] theorem State.stepCmd_clk (s : State) (q : QueueId) (idx : Nat) (handled : Bool) : (s.stepCmd q idx handled).clk = s.clk := by
  unfold State.stepCmd
  split <;> simp

@[simp] theorem State.allocOne_clk (s : State) (q : QueueId) (c : Cmd) : (s.allocOne q c).state.clk = s.clk := by
  simp only [State.allocOne]
  (repeat' split) <;> simp

@[simp] theorem State.freeOne_clk (s : State) (q : QueueId) (c : Cmd) (e : Pte) : (s.freeOne q c e).state.clk = s.clk := by
  simp only [State.freeOne]
  (repeat' split) <;> simp

@[simp] theorem State.readPage_clk (s : State) (v : Via) (a n : Nat) : (s.readPage v a n).1.clk = s.clk := by
  induction n with
  | zero => rfl
  | succ n ih => simp [State.readPage, ih]

@[simp] theorem State.spillOne_clk (s : State) (q : QueueId) (c : Cmd) (n : Nat) (e : Pte) : (s.spillOne q c n e).state.clk = s.clk := by
  simp only [State.spillOne]
  (repeat' split) <;> simp

@[simp] theorem State.prefetchOne_clk (s : State) (q : QueueId) (c : Cmd) (n : Nat) (e : Pte) : (s.prefetchOne q c n e).state.clk = s.clk := by
  simp only [State.prefetchOne]
  (repeat' split) <;> simp

@[simp] theorem State.pgStep_clk (s : State) (q : QueueId) (c : Cmd) : (s.pgStep q c).state.clk = s.clk := by
  simp only [State.pgStep]
  (repeat' split) <;> simp

@[simp] theorem State.pgFinish_clk (s : State) (q : QueueId) (c : Cmd) : (s.pgFinish q c).clk = s.clk := by simp [State.pgFinish]

@[simp] theorem State.pgRun_clk (s : State) (q : QueueId) (idx n : Nat) : (s.pgRun q idx n).clk = s.clk := by
  induction n generalizing s with
  | zero => rfl
  | succ n ih =>
    unfold State.pgRun
    split
    · rfl
    · next c _ =>
      have hstep := s.pgStep_clk q c
      split
      · rfl
      · split
        · simp
        · split <;> next hg => simp_all

@[simp] theorem State.pgGo_clk (s : State) (q : QueueId) (idx : Nat) : (s.pgGo q idx).clk = s.clk := by
  unfold State.pgGo
  split <;> simp

@[simp] theorem State.allUnused_clk (s : State) (q : QueueId) (c : Cmd) (n : Nat) : (s.allUnused q c n).1.clk = s.clk := by
  induction n with
  | zero => rfl
  | succ n ih => simp [State.allUnused, ih]

@[simp] theorem State.runAlloc_clk (s : State) (q : QueueId) (c : Cmd) : (s.runAlloc q c).clk = s.clk := by simp [State.runAlloc]
@[simp] theorem State.runPtInval_clk (s : State) (q : QueueId) (c : Cmd) : (s.runPtInval q c).clk = s.clk := by simp [State.runPtInval]
@[simp] theorem State.answerDie_clk (s : State) (d : Nat) (m : AkRsp) : (s.answerDie d m).clk = s.clk := by simp [State.answerDie]

@[simp] theorem State.readPageBlock_clk (s : State) (d : Nat) (m : AkReq) (e : Pte) : (s.readPageBlock d m e).clk = s.clk := by
  simp only [State.readPageBlock]
  split <;> next ho => simp [clk_of_pair ho (State.offer_clk ..)]

@[simp] theorem State.demand_clk (s : State) (h door cas pt n : Nat) (e : Pte) : (s.demand h door cas pt n e).clk = s.clk := by
  simp only [State.demand]
  (repeat' split) <;> simp

@[simp] theorem State.resolve_clk (s : State) (d : Nat) (m : AkReq) : (s.resolve d m).clk = s.clk := by
  simp only [State.resolve]
  (repeat' split) <;> simp

@[simp] theorem State.serveOne_clk (s : State) (cas k : Nat) : (s.serveOne cas k).clk = s.clk := by
  simp only [State.serveOne]
  (repeat' split) <;> simp

@[simp] theorem State.serveN_clk (s : State) (cas k n : Nat) : (s.serveN cas k n).clk = s.clk := by
  induction n generalizing s with
  | zero => rfl
  | succ n ih => simp [State.serveN, ih]

@[simp] theorem State.serveHeld_clk (s : State) (cas k : Nat) : (s.serveHeld cas k).clk = s.clk := by simp [State.serveHeld]
@[simp] theorem State.pgWake_clk (s : State) : s.pgWake.clk = s.clk := by simp [State.pgWake]
@[simp] theorem State.wakeReads_clk (s : State) (pt n : Nat) : (s.wakeReads pt n).clk = s.clk := by simp [State.wakeReads]
@[simp] theorem State.endReads_clk (s : State) (pt n : Nat) (st : Status) : (s.endReads pt n st).clk = s.clk := by simp [State.endReads]
@[simp] theorem State.dropCopy_clk (s : State) (c : CopySt) : (s.dropCopy c).clk = s.clk := by simp [State.dropCopy]

@[simp] theorem State.copyFails_clk (s : State) (c : CopySt) : (s.copyFails c).clk = s.clk := by
  unfold State.copyFails
  split <;> simp

@[simp] theorem State.pageHandled_clk (s : State) (c : CopySt) : (s.pageHandled c).clk = s.clk := by
  unfold State.pageHandled
  (repeat' split) <;> simp

@[simp] theorem State.spillDone_clk (s : State) (c : CopySt) (st : Status) : (s.spillDone c st).clk = s.clk := by
  unfold State.spillDone
  (repeat' split) <;> simp

@[simp] theorem State.writePage_clk (s : State) (v : Via) (a : Nat) (f : Nat → Block) (n : Nat) : (s.writePage v a f n).1.clk = s.clk := by
  induction n with
  | zero => rfl
  | succ n ih => simp [State.writePage, ih]

@[simp] theorem State.fetchDone_clk (s : State) (h pt n : Nat) (blocks : List Block) : (s.fetchDone h pt n blocks).clk = s.clk := by
  unfold State.fetchDone
  split <;> simp

@[simp] theorem State.prefetchWindow_clk (s : State) (h pt n : Nat) : (s.prefetchWindow h pt n).clk = s.clk := by simp [State.prefetchWindow]

@[simp] theorem State.transportError_clk (s : State) (h pt n : Nat) : (s.transportError h pt n).clk = s.clk := by
  unfold State.transportError
  split <;> simp

@[simp] theorem State.pageHostRead_clk (s : State) (q : QueueId) (data : Option Block) : (s.pageHostRead q data).clk = s.clk := by
  unfold State.pageHostRead
  (repeat' split) <;> simp

@[simp] theorem State.undoCopy_clk (s : State) (c : CopySt) : (s.undoCopy c).clk = s.clk := by simp [State.undoCopy]
@[simp] theorem State.undoCopies_clk (s : State) (p : CopySt → Bool) : (s.undoCopies p).clk = s.clk := by simp [State.undoCopies]

/-! ## Expanders -/

@[simp] theorem State.expLoadNow_clk (s : State) (q : QueueId) (c : Cmd) : (s.expLoadNow q c).clk = s.clk := by simp [State.expLoadNow]
@[simp] theorem State.expBindNow_clk (s : State) (q : QueueId) (c : Cmd) : (s.expBindNow q c).clk = s.clk := by simp [State.expBindNow]

@[simp] theorem State.expGo_clk (s : State) (q : QueueId) (c : Cmd) : (s.expGo q c).clk = s.clk := by
  unfold State.expGo
  split <;> simp

@[simp] theorem State.kickCores_clk (s : State) (d : Nat) : (s.kickCores d).clk = s.clk := by simp [State.kickCores]
@[simp] theorem State.expWake_clk (s : State) (d : Nat) : (s.expWake d).clk = s.clk := by simp [State.expWake]
@[simp] theorem State.runExp_clk (s : State) (q : QueueId) (c : Cmd) : (s.runExp q c).clk = s.clk := by simp [State.runExp]
@[simp] theorem State.fetchLatents_clk (s : State) (d e : Nat) (r : TileReq) : (s.fetchLatents d e r).clk = s.clk := by simp [State.fetchLatents]

@[simp] theorem State.expKick_clk (s : State) (d e : Nat) : (s.expKick d e).clk = s.clk := by
  simp only [State.expKick]
  (repeat' split) <;> simp

@[simp] theorem State.tileDone_clk (s : State) (d e : Nat) : (s.tileDone d e).clk = s.clk := by
  simp only [State.tileDone]
  (repeat' split) <;> simp

@[simp] theorem State.expAnswer_clk (s : State) (d e : Nat) (m : AkRsp) : (s.expAnswer d e m).clk = s.clk := by
  simp only [State.expAnswer]
  (repeat' split) <;> simp

@[simp] theorem State.freeExpander_clk (s : State) (key : Nat) (st : Status) : (s.freeExpander key st).clk = s.clk := by simp [State.freeExpander]
@[simp] theorem State.freeExpanders_clk (s : State) (who : ExpSt → Bool) (st : Status) : (s.freeExpanders who st).clk = s.clk := by simp [State.freeExpanders]
@[simp] theorem State.expKickAll_clk (s : State) (d : Nat) : (s.expKickAll d).clk = s.clk := by simp [State.expKickAll]

/-! ## The fabric and collectives -/

@[simp] theorem State.setPort4_clk (s : State) (h j : Nat) (x : TrwSt) : (s.setPort4 h j x).clk = s.clk := by simp [State.setPort4]
@[simp] theorem State.portTrained_clk (s : State) (h j : Nat) (lanes8 : Bool) : (s.portTrained h j lanes8).clk = s.clk := by simp [State.portTrained]
@[simp] theorem State.portFailed_clk (s : State) (h j silent : Nat) : (s.portFailed h j silent).clk = s.clk := by simp [State.portFailed]
@[simp] theorem State.portRetry_clk (s : State) (h j : Nat) : (s.portRetry h j).clk = s.clk := by simp [State.portRetry]
@[simp] theorem State.portFlitRetry_clk (s : State) (h j : Nat) (ok : Bool) : (s.portFlitRetry h j ok).clk = s.clk := by simp [State.portFlitRetry]
@[simp] theorem State.portCtrl_clk (s : State) (h j : Nat) : (s.portCtrl h j).clk = s.clk := by simp [State.portCtrl]
@[simp] theorem State.dropPacket_clk (s : State) (h : Nat) (p : Packet) (counted : Bool) : (s.dropPacket h p counted).clk = s.clk := by simp [State.dropPacket]

@[simp] theorem State.route_clk (s : State) (h : Nat) (p : Packet) : (s.route h p).clk = s.clk := by
  simp only [State.route]
  (repeat' split) <;> simp

@[simp] theorem State.taken_clk (s : State) (h : Nat) (p : Packet) : (s.taken h p).clk = s.clk := by simp [State.taken]

@[simp] theorem State.fabricRequest_clk (s : State) (h j : Nat) (p : Packet) : (s.fabricRequest h j p).clk = s.clk := by
  simp only [State.fabricRequest]
  split
  · rfl
  · split
    · simp
    · split
      · simp
      · split
        · simp
        · split
          · rfl
          · split <;> next ho => simp [clk_of_pair ho (State.offer_clk ..)]

@[simp] theorem State.fabricAnswer_clk (s : State) (h node tag : Nat) (a : Answer) : (s.fabricAnswer h node tag a).clk = s.clk := by simp [State.fabricAnswer]
@[simp] theorem State.sweepColls_clk (s : State) : s.sweepColls.clk = s.clk := by simp [State.sweepColls]
@[simp] theorem State.endColl_clk (s : State) (q : QueueId) (idx : Nat) (st : Status) : (s.endColl q idx st).clk = s.clk := by simp [State.endColl]

theorem collSend_clk {s t : State} {c : Cmd} {x : CollSt} (h : s.collSend c x = some t) : t.clk = s.clk := by
  simp only [State.collSend, Option.ite_none_left_eq_some] at h
  obtain ⟨-, h⟩ := h
  by_cases hop : c.opcode = 0x46
  · rw [if_pos hop] at h
    rw [← Option.some.inj h]
    simp
  · rw [if_neg hop, Option.ite_none_left_eq_some] at h
    obtain ⟨-, h⟩ := h
    rw [← apply_ite some] at h
    rw [← Option.some.inj h]
    simp

@[simp] theorem State.sendAll_clk (s : State) (q : QueueId) (idx n : Nat) : (s.sendAll q idx n).clk = s.clk := by
  induction n generalizing s with
  | zero => rfl
  | succ n ih =>
    unfold State.sendAll
    split
    · split
      · next ht => exact (ih _).trans (collSend_clk ht)
      · rfl
    · rfl

@[simp] theorem State.rotateReady_clk (s : State) (c : Cmd) (x : CollSt) : (s.rotateReady c x).clk = s.clk := by simp [State.rotateReady]

@[simp] theorem State.collDone_clk (s : State) (q : QueueId) (idx : Nat) : (s.collDone q idx).clk = s.clk := by
  unfold State.collDone
  split <;> simp

@[simp] theorem State.collPump_clk (s : State) (q : QueueId) (idx : Nat) : (s.collPump q idx).clk = s.clk := by
  simp only [State.collPump]
  (repeat' split) <;> simp

@[simp] theorem State.collTake_clk (s : State) (x : CollSt) (c : Cmd) (p : Packet) : (s.collTake x c p).clk = s.clk := by
  unfold State.collTake
  (repeat' split) <;> simp

@[simp] theorem State.collDrainN_clk (s : State) (q : QueueId) (idx n : Nat) : (s.collDrainN q idx n).clk = s.clk := by
  induction n generalizing s with
  | zero => rfl
  | succ n ih =>
    unfold State.collDrainN
    split
    · split <;> simp [ih]
    · rfl

@[simp] theorem State.collDrain_clk (s : State) (q : QueueId) (idx : Nat) : (s.collDrain q idx).clk = s.clk := by simp [State.collDrain]
@[simp] theorem State.collWake_clk (s : State) : s.collWake.clk = s.clk := by simp [State.collWake]

@[simp] theorem State.collPacket_clk (s : State) (h : Nat) (p : Packet) : (s.collPacket h p).clk = s.clk := by
  simp only [State.collPacket]
  (repeat' split) <;> simp

@[simp] theorem State.collReady_clk (s : State) (h : Nat) (p : Packet) : (s.collReady h p).clk = s.clk := by
  simp only [State.collReady]
  (repeat' split) <;> simp

@[simp] theorem State.sendNotice_clk (s : State) (x : CollSt) (dest tier reason : Nat) (back : Bool) : (s.sendNotice x dest tier reason back).clk = s.clk := by
  simp [State.sendNotice]

@[simp] theorem State.emitNotice_clk (s : State) (x : CollSt) (tier reason : Nat) : (s.emitNotice x tier reason).clk = s.clk := by
  unfold State.emitNotice
  split <;> simp

@[simp] theorem State.emitNotices_clk (s : State) (tier reason : Nat) : (s.emitNotices tier reason).clk = s.clk := by simp [State.emitNotices]
@[simp] theorem State.stallCheck_clk (s old : State) : (s.stallCheck old).clk = s.clk := by simp [State.stallCheck]
@[simp] theorem State.forwardNotice_clk (s : State) (c : Cmd) (h : Nat) (p : Packet) : (s.forwardNotice c h p).clk = s.clk := by simp [State.forwardNotice]

@[simp] theorem State.stallPacket_clk (s : State) (h : Nat) (p : Packet) : (s.stallPacket h p).clk = s.clk := by
  simp only [State.stallPacket]
  (repeat' split) <;> simp

@[simp] theorem State.copyOwn_clk (s : State) (q : QueueId) (c : Cmd) (a b n : Nat) : (s.copyOwn q c a b n).1.clk = s.clk := by
  induction n with
  | zero => rfl
  | succ n ih => simp [State.copyOwn, ih]

@[simp] theorem State.forwardKept_clk (s : State) (q : QueueId) (c : Cmd) : (s.forwardKept q c).clk = s.clk := by simp [State.forwardKept]

@[simp] theorem State.runColl_clk (s : State) (q : QueueId) (c : Cmd) : (s.runColl q c).clk = s.clk := by
  unfold State.runColl
  (repeat' split) <;> simp

@[simp] theorem State.putPump1_clk (s : State) (q : QueueId) (idx : Nat) : (s.putPump1 q idx).clk = s.clk := by
  unfold State.putPump1
  split
  · rfl
  · dsimp only
    split
    · split <;> next ho => simp [clk_of_pair ho (State.offer_clk ..)]
    · rfl

@[simp] theorem State.putPumpN_clk (s : State) (q : QueueId) (idx n : Nat) : (s.putPumpN q idx n).clk = s.clk := by
  induction n generalizing s with
  | zero => rfl
  | succ n ih => simp [State.putPumpN, ih]

@[simp] theorem State.putGo_clk (s : State) (q : QueueId) (idx : Nat) : (s.putGo q idx).clk = s.clk := by
  unfold State.putGo
  split <;> simp

@[simp] theorem State.runPut_clk (s : State) (q : QueueId) (c : Cmd) : (s.runPut q c).clk = s.clk := by simp [State.runPut]

@[simp] theorem State.putRead_clk (s : State) (q : QueueId) (idx k : Nat) (st : Status) (data : Block) : (s.putRead q idx k st data).clk = s.clk := by
  unfold State.putRead
  split <;> simp

@[simp] theorem State.putAck_clk (s : State) (q : QueueId) (c : Cmd) (st : Status) : (s.putAck q c st).clk = s.clk := by simp [State.putAck]
@[simp] theorem State.collDeadline_clk (s : State) (q : QueueId) : (s.collDeadline q).clk = s.clk := by simp [State.collDeadline]

@[simp] theorem State.readResponse_clk (s : State) (h : Nat) (p : Packet) : (s.readResponse h p).clk = s.clk := by
  simp only [State.readResponse]
  (repeat' split) <;> simp

@[simp] theorem State.writeAck_clk (s : State) (h : Nat) (p : Packet) : (s.writeAck h p).clk = s.clk := by
  simp only [State.writeAck]
  (repeat' split) <;> simp

end Sys2Proof.Machine
end

section
/-! SUPPORT. The clocks through resets and bring-up, and under the host and the Aksal links (R82, R84, R90): a start stops them and sets their multiplier, and TIME64 runs on. -/

namespace Sys2Proof.Machine

/-! ## The supply -/

@[simp] theorem State.busSample_clk (s : State) (v : Nat) : (s.busSample v).clk = s.clk := by simp [State.busSample]
@[simp] theorem State.powerRecord_clk (s : State) (e : Nat) : (s.powerRecord e).clk = s.clk := by simp [State.powerRecord]
@[simp] theorem State.pf1Assert_clk (s : State) : s.pf1Assert.clk = s.clk := by simp [State.pf1Assert]
@[simp] theorem State.pf1Clear_clk (s : State) : s.pf1Clear.clk = s.clk := by simp [State.pf1Clear]
@[simp] theorem State.dropReads_clk (s : State) : s.dropReads.clk = s.clk := by simp [State.dropReads]
@[simp] theorem State.startDrain_clk (s : State) : s.startDrain.clk = s.clk := by simp [State.startDrain]
@[simp] theorem State.startColdNext_clk (s : State) : s.startColdNext.clk = s.clk := by simp [State.startColdNext]
@[simp] theorem State.startPf2_clk (s : State) (cause : Nat) : (s.startPf2 cause).clk = s.clk := by simp [State.startPf2]
@[simp] theorem State.pf2Assert_clk (s : State) : s.pf2Assert.clk = s.clk := by simp [State.pf2Assert]
@[simp] theorem State.pfN_clk (s : State) (lowNs : Nat) : (s.pfN lowNs).clk = s.clk := by simp [State.pfN]
@[simp] theorem State.brownout_clk (s : State) : s.brownout.clk = s.clk := by simp [State.brownout]
@[simp] theorem State.surge_clk (s : State) : s.surge.clk = s.clk := by simp [State.surge]
@[simp] theorem State.loseWrite_clk (s : State) (h : Nat) (r : Req) : (s.loseWrite h r).clk = s.clk := by simp [State.loseWrite]

@[simp] theorem State.loseWrites_clk (s : State) (h p : Nat) : (s.loseWrites h p).clk = s.clk := by
  unfold State.loseWrites
  split <;> simp

@[simp] theorem State.writeDrainEnd_clk (s : State) (h p : Nat) : (s.writeDrainEnd h p).clk = s.clk := by
  unfold State.writeDrainEnd
  split <;> simp

@[simp] theorem State.keepReq_clk (s : State) : s.keepReq.clk = s.clk := by simp [State.keepReq]
@[simp] theorem State.slewEstimate_clk (s : State) (deciAmp : Nat) : (s.slewEstimate deciAmp).clk = s.clk := by simp [State.slewEstimate]
@[simp] theorem State.thermTrip_clk (s : State) (d : Nat) : (s.thermTrip d).clk = s.clk := by simp [State.thermTrip]

/-! ## Resets and bring-up -/

@[simp] theorem State.setPhase_clk (s : State) (n : Nat) : (s.setPhase n).clk = s.clk := by simp [State.setPhase]
@[simp] theorem State.coldReset_time (s : State) (cause : Nat) (errs : Bool) : (s.coldReset cause errs).clk.time = s.clk.time := by
  obtain ⟨R, hR⟩ := coldReset_parts s cause errs
  rw [hR]
  rfl

@[simp] theorem State.warmReset_time (s : State) (cause : Nat) : (s.warmReset cause).clk.time = s.clk.time := by
  simp only [State.warmReset]
  (repeat' split) <;> simp

@[simp] theorem State.rstCtrl_time (s : State) (v : Nat) : (s.rstCtrl v).clk.time = s.clk.time := by simp [State.rstCtrl]
@[simp] theorem State.pkgRstN_time (s : State) (high : Bool) (st : Straps) : (s.pkgRstN high st).clk.time = s.clk.time := by simp [State.pkgRstN]
@[simp] theorem State.warmRstN_time (s : State) (high : Bool) : (s.warmRstN high).clk.time = s.clk.time := by simp [State.warmRstN]
@[simp] theorem State.perstN_time (s : State) (high : Bool) : (s.perstN high).clk.time = s.clk.time := by simp [State.perstN]
@[simp] theorem State.kaPg_clk (s : State) : s.kaPg.clk = s.clk := by simp [State.kaPg]
@[simp] theorem State.kaPgLoss_time (s : State) : s.kaPgLoss.clk.time = s.clk.time := by simp [State.kaPgLoss]
@[simp] theorem State.pwrGood_clk (s : State) : s.pwrGood.clk = s.clk := by simp [State.pwrGood]
@[simp] theorem State.pwrGoodLoss_time (s : State) : s.pwrGoodLoss.clk.time = s.clk.time := by simp [State.pwrGoodLoss, Clk.time]
@[simp] theorem State.unlock_time (s : State) (hp : Nat) : (s.unlock hp).clk.time = s.clk.time := rfl

@[simp] theorem State.pllLock_time (s : State) (d : Nat) : (s.pllLock d).clk.time = s.clk.time := by
  unfold State.pllLock
  split <;> rfl

@[simp] theorem State.dropAligned_clk (s : State) : s.dropAligned.clk = s.clk := by simp [State.dropAligned]
@[simp] theorem State.refLoss_clk (s : State) (silentNs : Nat) : (s.refLoss silentNs).clk = s.clk := by simp [State.refLoss]
@[simp] theorem State.refReturn_clk (s : State) : s.refReturn.clk = s.clk := by simp [State.refReturn]
@[simp] theorem State.sleepPc_clk (s : State) (h p : Nat) : (s.sleepPc h p).clk = s.clk := by simp [State.sleepPc]
@[simp] theorem State.bootStop_clk (s : State) (code unit : Nat) : (s.bootStop code unit).clk = s.clk := by simp [State.bootStop]
@[simp] theorem State.bootFail_clk (s : State) (code unit : Nat) : (s.bootFail code unit).clk = s.clk := by simp [State.bootFail]
@[simp] theorem State.markStale_clk (s : State) : s.markStale.clk = s.clk := by simp [State.markStale]
@[simp] theorem State.coldBringup_time (s : State) : s.coldBringup.clk.time = s.clk.time := by simp [State.coldBringup]
@[simp] theorem State.readFlash_clk (s : State) (c : FlashPart) : (s.readFlash c).clk = s.clk := by simp [State.readFlash]

@[simp] theorem State.firstStage_clk (s : State) (l : List Byte) : (s.firstStage l).clk = s.clk := by
  unfold State.firstStage
  (repeat' split) <;> simp

@[simp] theorem State.pcieReadiness_clk (s : State) : s.pcieReadiness.clk = s.clk := by simp [State.pcieReadiness]

@[simp] theorem State.recovGo_clk (s : State) : s.recovGo.clk = s.clk := by
  unfold State.recovGo
  (repeat' split) <;> simp

@[simp] theorem State.hubFirmware_clk (s : State) (l : List Byte) : (s.hubFirmware l).clk = s.clk := by
  unfold State.hubFirmware
  (repeat' split) <;> simp

@[simp] theorem State.ringLinkUp_clk (s : State) (fails : List Nat) : (s.ringLinkUp fails).clk = s.clk := by
  simp only [State.ringLinkUp]
  (repeat' split) <;> simp

@[simp] theorem State.identifyAgain_clk (s : State) (h st : Nat) (x : StackId) : (s.identifyAgain h st x).clk = s.clk := by simp [State.identifyAgain]

@[simp] theorem State.stackIdentification_clk (s : State) (l : List (Hub × StackNo × StackId)) : (s.stackIdentification l).clk = s.clk := by
  unfold State.stackIdentification
  (repeat' split) <;> simp

@[simp] theorem State.imageLoad_clk (s : State) (l : List Byte) : (s.imageLoad l).clk = s.clk := by simp [State.imageLoad]
@[simp] theorem State.relock_time (s : State) : s.relock.clk.time = s.clk.time := by simp [State.relock]

@[simp] theorem State.applyRecords_clk (s : State) (refused : List (Nat × Nat)) (l : List (Nat × Nat × FuseRec)) : (s.applyRecords refused l).1.clk = s.clk := by
  induction l generalizing s with
  | nil => rfl
  | cons x t ih =>
    unfold State.applyRecords
    split <;> simp [ih]

@[simp] theorem State.softRepairs_clk (s : State) (refused : List (Nat × Nat)) : (s.softRepairs refused).clk = s.clk := by
  simp only [State.softRepairs]
  (repeat' split) <;> simp

@[simp] theorem State.repairLanes_clk (s : State) (h p : Nat) (l : List Nat) : (s.repairLanes h p l).1.clk = s.clk := by
  induction l generalizing s with
  | nil => rfl
  | cons x t ih =>
    unfold State.repairLanes
    split <;> simp [ih]

@[simp] theorem State.trainPc_clk (s : State) (found : List PcTraining) (h p : Nat) : (s.trainPc found h p).1.clk = s.clk := by
  simp only [State.trainPc]
  (repeat' split) <;> simp

@[simp] theorem State.trainAll_clk (s : State) (found : List PcTraining) (l : List (Nat × Nat)) : (s.trainAll found l).1.clk = s.clk := by
  induction l generalizing s with
  | nil => rfl
  | cons x t ih => simp [State.trainAll, ih]

@[simp] theorem State.training_clk (s : State) (found : List PcTraining) : (s.training found).clk = s.clk := by
  simp only [State.training]
  (repeat' split) <;> simp

@[simp] theorem State.memoryClear_clk (s : State) : s.memoryClear.clk = s.clk := by simp [State.memoryClear]
@[simp] theorem State.linkStart_clk (s : State) (d : Nat) : (s.linkStart d).clk = s.clk := by simp [State.linkStart]
@[simp] theorem State.aksalLinkUp_clk (s : State) : s.aksalLinkUp.clk = s.clk := by simp [State.aksalLinkUp]
@[simp] theorem State.clearDie_clk (s : State) (d : Nat) : (s.clearDie d).clk = s.clk := by simp [State.clearDie]

@[simp] theorem State.computeRelease_clk (s : State) (fails : List Nat) : (s.computeRelease fails).clk = s.clk := by
  unfold State.computeRelease
  (repeat' split) <;> simp

@[simp] theorem State.enginesSet_clk (s : State) : s.enginesSet.clk = s.clk := by simp [State.enginesSet]
@[simp] theorem State.resumeQueues_clk (s : State) : s.resumeQueues.clk = s.clk := by simp [State.resumeQueues]
@[simp] theorem State.capAtReady_clk (s : State) : s.capAtReady.clk = s.clk := by simp [State.capAtReady]
@[simp] theorem State.ready_clk (s : State) : s.ready.clk = s.clk := by simp [State.ready]
@[simp] theorem State.warmClear_time (s : State) : s.warmClear.clk.time = s.clk.time := by simp [State.warmClear, Clk.time]
@[simp] theorem State.warmBringup_time (s : State) : s.warmBringup.clk.time = s.clk.time := by simp [State.warmBringup]
@[simp] theorem State.loseKeepAlive_clk (s : State) : s.loseKeepAlive.clk = s.clk := by simp [State.loseKeepAlive]

@[simp] theorem State.configurationCrc_clk (s : State) (fails : List Nat) : (s.configurationCrc fails).clk = s.clk := by
  unfold State.configurationCrc
  (repeat' split) <;> simp

@[simp] theorem State.reapply_clk (s : State) (latched : List (Nat × Word)) : (s.reapply latched).clk = s.clk := by simp [State.reapply]

@[simp] theorem State.warmPause_clk (s : State) (h p : Nat) (l : List PauseRes) : (s.warmPause h p l).1.clk = s.clk := by
  simp only [State.warmPause]
  (repeat' split) <;> simp

@[simp] theorem State.warmPc_clk (s : State) (first second : List PauseRes) (found : List PcTraining) (h p : Nat) :
    (s.warmPc first second found h p).1.clk = s.clk := by
  simp only [State.warmPc]
  (repeat' split) <;> simp

@[simp] theorem State.selfRefreshExit_clk (s : State) (latched : List (Nat × Word)) (first second : List PauseRes) (found : List PcTraining) :
    (s.selfRefreshExit latched first second found).clk = s.clk := by
  have hpcs : ∀ (l : List (Nat × Nat)) (r : State × List (Nat × Nat)),
      (l.foldl (fun r q => ((r.1.warmPc first second found q.1 q.2).1, if (r.1.warmPc first second found q.1 q.2).2 then r.2 else r.2 ++ [q])) r).1.clk = r.1.clk :=
    foldl_fst_clk fun r q => by simp
  unfold State.selfRefreshExit
  split
  · dsimp only
    split <;> simp [hpcs]
  · rfl

@[simp] theorem State.restoreCmd_clk (s : State) (q : QueueId) (c : Cmd) : (s.restoreCmd q c).clk = s.clk := by simp [State.restoreCmd]
@[simp] theorem State.enginesRestored_clk (s : State) : s.enginesRestored.clk = s.clk := by simp [State.enginesRestored]

@[simp] theorem State.bootWatchdog_time (s : State) : s.bootWatchdog.clk.time = s.clk.time := by
  unfold State.bootWatchdog
  split <;> simp

/-! ## Time over the fabric -/

@[simp] theorem State.timeExchange_clk (s : State) : s.timeExchange.clk = s.clk := by
  unfold State.timeExchange
  (repeat' split) <;> simp

/-- An exchange moves TIME64 by its step at join alone: the ticks that timers count stay (R84, R87). -/
@[simp] theorem State.measured_t64 (s : State) (off : Int) : (s.measured off).clk.t64 = s.clk.t64 := by simp [State.measured, apply_ite Clk.t64]

@[simp] theorem State.timePacket_t64 (s : State) (p : Packet) : (s.timePacket p).clk.t64 = s.clk.t64 := by simp [State.timePacket, apply_ite Clk.t64]

/-! ## Counters, samples and trace records -/

@[simp] theorem State.accErr_clk (s : State) (a : Access) (write : Bool) (reason : Nat) : (s.accErr a write reason).clk = s.clk := by simp [State.accErr]

/-- A write's result has the TIME64 that the state it leaves has; a refused one the clocks from before. -/
@[simp] theorem State.settleWrite_time (s : State) (a : Access) (r : WriteResult) (h : r.Leaves fun t => t.clk.time = s.clk.time) : (s.settleWrite a r).clk.time = s.clk.time := by
  cases r with
  | inl t => exact h
  | inr n => simp [State.settleWrite]

@[simp] theorem State.freeSlot_clk (s : State) (f k : Nat) : (s.freeSlot f k).clk = s.clk := by
  unfold State.freeSlot
  split <;> simp

@[simp] theorem State.setCounter_clk (s : State) (bank n c v : Nat) : (s.setCounter bank n c v).clk = s.clk := by simp [State.setCounter]

@[simp] theorem State.fnCntCfg_time (s : State) (f k v : Nat) : (s.fnCntCfg f k v).Leaves fun t => t.clk.time = s.clk.time := by
  simp only [State.fnCntCfg]
  (repeat' split) <;> simp

@[simp] theorem State.freeSlots_clk (s : State) (f : Nat) : (s.freeSlots f).clk = s.clk := by simp [State.freeSlots]
@[simp] theorem State.readCounter_clk (s : State) (bank : Nat) : (s.readCounter bank).clk = s.clk := by simp [State.readCounter]
@[simp] theorem State.freezeAt_clk (s : State) (bank v : Nat) : (s.freezeAt bank v).clk = s.clk := by simp [State.freezeAt]
@[simp] theorem State.freeze_clk (s : State) (bank : Nat) : (s.freeze bank).clk = s.clk := by simp [State.freeze]
@[simp] theorem State.thaw_clk (s : State) (bank : Nat) : (s.thaw bank).clk = s.clk := by simp [State.thaw]

@[simp] theorem State.startSampler_clk (s : State) (k seed period jitter : Nat) : (s.startSampler k seed period jitter).clk = s.clk := by
  simp [State.startSampler]

@[simp] theorem State.smpCtrl_time (s : State) (h en cas size : Nat) : (s.smpCtrl h en cas size).Leaves fun t => t.clk.time = s.clk.time := by
  simp only [State.smpCtrl]
  (repeat' split) <;> simp

@[simp] theorem State.cmpSmpCtrl_time (s : State) (d en cas : Nat) : (s.cmpSmpCtrl d en cas).Leaves fun t => t.clk.time = s.clk.time := by
  simp only [State.cmpSmpCtrl]
  (repeat' split) <;> simp

theorem takeRecord_clk {s : State} {k : Nat} {r : SampleRec × State} (h : s.takeRecord k = some r) : r.2.clk = s.clk := by
  obtain ⟨x, -, rfl⟩ := Option.map_eq_some_iff.mp h
  rfl

@[simp] theorem State.sampleRecord_clk (s : State) (h : Nat) : (s.sampleRecord h).clk = s.clk := by
  unfold State.sampleRecord
  split
  · split
    · rfl
    · next r t ht =>
      have hclk : t.clk = s.clk := by
        rcases hk : s.takeRecord h with _ | x
        · rw [hk] at ht
          exact takeRecord_clk ht
        · rw [hk] at ht
          exact takeRecord_clk (hk.trans ht)
      simp [hclk]
  · rfl

@[simp] theorem State.forwardTrace_clk (s : State) (d : Nat) : (s.forwardTrace d).clk = s.clk := by simp [State.forwardTrace]
@[simp] theorem State.traceRecord_clk (s : State) (h : Nat) : (s.traceRecord h).clk = s.clk := by simp [State.traceRecord]

@[simp] theorem State.trcCtrl_time (s : State) (h v : Nat) : (s.trcCtrl h v).Leaves fun t => t.clk.time = s.clk.time := by
  simp only [State.trcCtrl]
  (repeat' split) <;> simp

@[simp] theorem State.stopRecorders_clk (s : State) (c : Nat) : (s.stopRecorders c).clk = s.clk := by simp [State.stopRecorders]

/-! ## Casement resets -/

@[simp] theorem State.cutQueue_clk (s : State) (q : QueueId) : (s.cutQueue q).clk = s.clk := by simp [State.cutQueue]
@[simp] theorem State.dropWaits_clk (s : State) (q : QueueId) : (s.dropWaits q).clk = s.clk := by simp [State.dropWaits]
@[simp] theorem State.cutColls_clk (s : State) (q : QueueId) : (s.cutColls q).clk = s.clk := by simp [State.cutColls]
@[simp] theorem State.cutPgWaits_clk (s : State) (c : Nat) : (s.cutPgWaits c).clk = s.clk := by simp [State.cutPgWaits]
@[simp] theorem State.startCasReset_clk (s : State) (c : Nat) : (s.startCasReset c).clk = s.clk := by simp [State.startCasReset]
@[simp] theorem State.resetQueue_clk (s : State) (q : QueueId) : (s.resetQueue q).clk = s.clk := by simp [State.resetQueue]
@[simp] theorem State.closeQueue_clk (s : State) (q : QueueId) : (s.closeQueue q).clk = s.clk := by simp [State.closeQueue]

@[simp] theorem State.resetVectors_clk (s : State) (c : Nat) : (s.resetVectors c).clk = s.clk := by
  unfold State.resetVectors
  split <;> simp

@[simp] theorem State.resetSync_clk (s : State) (c : Nat) : (s.resetSync c).clk = s.clk := by simp [State.resetSync]
@[simp] theorem State.casWaiters_clk (s : State) (c : Nat) : (s.casWaiters c).clk = s.clk := by simp [State.casWaiters]

@[simp] theorem State.casResetComplete_clk (s : State) (c : Nat) : (s.casResetComplete c).clk = s.clk := by
  simp only [State.casResetComplete]
  (repeat' split) <;> simp

@[simp] theorem State.caseRst_clk (s : State) (v : Nat) : (s.caseRst v).clk = s.clk := by simp [State.caseRst]

@[simp] theorem State.caseSelfRst_clk (s : State) (f : Nat) : (s.caseSelfRst f).clk = s.clk := by
  unfold State.caseSelfRst
  split <;> simp

@[simp] theorem State.runCaseReset_clk (s : State) (q : QueueId) (c : Cmd) : (s.runCaseReset q c).clk = s.clk := by simp [State.runCaseReset]
@[simp] theorem State.resetFn_clk (s : State) (f : Nat) : (s.resetFn f).clk = s.clk := by simp [State.resetFn]
@[simp] theorem State.flr_clk (s : State) (f : Nat) : (s.flr f).clk = s.clk := by simp [State.flr]

/-! ## The host -/

@[simp] theorem State.release_clk (s : State) (f : Nat) : (s.release f).clk = s.clk :=
  foldl_clk _ _ _ fun v t => by dsimp only; split <;> simp

@[simp] theorem State.msixUnmask_clk (s : State) (f v : Nat) : (s.msixUnmask f v).clk = s.clk := by
  unfold State.msixUnmask
  split <;> simp

@[simp] theorem State.cfgWrite_clk (s : State) (f off : Nat) (v : BitVec 32) : (s.cfgWrite f off v).clk = s.clk := by
  unfold State.cfgWrite
  split <;> simp

@[simp] theorem State.configRequest_clk (s : State) (f off : Nat) (w : Option (BitVec 32)) : (s.configRequest f off w).clk = s.clk := by
  unfold State.configRequest
  (repeat' split) <;> simp

@[simp] theorem State.flrRequest_clk (s : State) (f : Nat) : (s.flrRequest f).clk = s.clk := by simp [State.flrRequest]

theorem hostSend_clk {s : State} {r : Req} {x : State × Bool} (h : s.hostSend r = some x) : x.1.clk = s.clk := by
  simp only [State.hostSend] at h
  split at h
  · exact absurd h (by simp)
  · split at h
    · rw [← Option.some.inj h]
      simp
    · split at h
      · rw [← Option.some.inj h]
        simp
      · exact absurd h (by simp)

@[simp] theorem State.refusedAt_clk (s : State) (f : Nat) : (s.refusedAt f).clk = s.clk := by simp [State.refusedAt]

theorem sendParts_clk {s : State} {f no k : Nat} {l : List (Nat × Nat)} {x : State × List (Nat × Block × Bool × Bool)}
    (h : s.sendParts f no k l = some x) : x.1.clk = s.clk := by
  induction l generalizing s k x with
  | nil => rw [← Option.some.inj h]
  | cons y t ih =>
    unfold State.sendParts at h
    split at h
    · exact absurd h (by simp)
    · next u refused hu =>
      split at h
      · exact absurd h (by simp)
      · next v r hv =>
        rw [← Option.some.inj h]
        exact (ih hv).trans (hostSend_clk hu)

@[simp] theorem State.hostFinish_clk (s : State) (x : HostRd) : (s.hostFinish x).clk = s.clk := by simp [State.hostFinish]

@[simp] theorem State.hostTry_clk (s : State) (x : HostRd) : (s.hostTry x).clk = s.clk := by
  unfold State.hostTry
  split
  · simp
  · split
    · split
      · rfl
      · next t l ht =>
        have hclk : t.clk = s.clk := sendParts_clk ht
        simp [hclk]
    · rfl

theorem writeParts_clk {s : State} {f no k : Nat} {data : List Byte} {l : List (Nat × Nat)} {x : State × Bool}
    (h : s.writeParts f no data k l = some x) : x.1.clk = s.clk := by
  induction l generalizing s data k x with
  | nil => rw [← Option.some.inj h]
  | cons y t ih =>
    unfold State.writeParts at h
    split at h
    · exact absurd h (by simp)
    · next u refused hu =>
      split at h
      · exact absurd h (by simp)
      · next v r hv =>
        rw [← Option.some.inj h]
        exact (ih hv).trans (hostSend_clk hu)

@[simp] theorem State.hostPush_clk (s : State) (x : HostWr) : (s.hostPush x).clk = s.clk := by
  simp only [State.hostPush]
  split
  · simp
  · split
    · split
      · rfl
      · next u refused hu =>
        have hclk : u.clk = s.clk := writeParts_clk hu
        simp [hclk]
    · rfl

@[simp] theorem State.hostPump_clk (s : State) : s.hostPump.clk = s.clk := by simp [State.hostPump]
@[simp] theorem State.takeNo_clk (s : State) (f : Nat) : (s.takeNo f).clk = s.clk := by simp [State.takeNo]

@[simp] theorem State.bar2Read_clk (s : State) (f : FnNo) (off len : Nat) : (s.bar2Read f off len).clk = s.clk := by
  unfold State.bar2Read
  split <;> simp

@[simp] theorem State.bar2Write_clk (s : State) (f : FnNo) (off : Nat) (data : List Byte) : (s.bar2Write f off data).clk = s.clk := by
  unfold State.bar2Write
  split <;> simp

@[simp] theorem State.hostAnswer_clk (s : State) (f no k : Nat) (a : Answer) : (s.hostAnswer f no k a).clk = s.clk := by
  simp only [State.hostAnswer]
  (repeat' split) <;> simp

@[simp] theorem State.hostCut_clk (s : State) : s.hostCut.clk = s.clk := by simp [State.hostCut]
@[simp] theorem State.engineHostRead_clk (s : State) (q : QueueId) (data : Option Block) : (s.engineHostRead q data).clk = s.clk := by simp [State.engineHostRead]

/-! ## The Aksal links -/

@[simp] theorem State.takeTx_clk (s : State) (d : Nat) (m : AkReq) : (s.takeTx d m).clk = s.clk := by simp [State.takeTx]

@[simp] theorem State.dieAccess_clk (s : State) (d : Nat) (m : AkReq) (write sector : Bool) : (s.dieAccess d m write sector).clk = s.clk := by
  simp only [State.dieAccess]
  split
  · split
    · simp
    · split
      · simp
      · split
        · split <;> simp
        · split <;> next ho => simp [clk_of_pair ho (State.offer_clk ..)]
  · rfl

@[simp] theorem State.diePage_clk (s : State) (d : Nat) (m : AkReq) : (s.diePage d m).clk = s.clk := by
  unfold State.diePage
  (repeat' split) <;> simp

@[simp] theorem State.dieAnswer_clk (s : State) (d srcTag tag : Nat) (a : Answer) : (s.dieAnswer d srcTag tag a).clk = s.clk := by simp [State.dieAnswer]
@[simp] theorem State.dieResponse_clk (s : State) (d : Nat) (m : AkRsp) : (s.dieResponse d m).clk = s.clk := by simp [State.dieResponse]
@[simp] theorem State.haltCore_clk (s : State) (p : CorePos) : (s.haltCore p).clk = s.clk := by simp [State.haltCore]
@[simp] theorem State.haltExp_clk (s : State) (d e : Nat) : (s.haltExp d e).clk = s.clk := by simp [State.haltExp]
@[simp] theorem State.dieHalted_clk (s : State) (d : Nat) : (s.dieHalted d).clk = s.clk := by simp [State.dieHalted]
@[simp] theorem State.stopDie_clk (s : State) (d : Nat) : (s.stopDie d).clk = s.clk := by simp [State.stopDie]
@[simp] theorem State.closeDoor0_clk (s : State) (d : Nat) : (s.closeDoor0 d).clk = s.clk := by simp [State.closeDoor0]
@[simp] theorem State.setLinkState_clk (s : State) (d st : Nat) : (s.setLinkState d st).clk = s.clk := by simp [State.setLinkState]
@[simp] theorem State.aksalLost_clk (s : State) (d : Nat) : (s.aksalLost d).clk = s.clk := by simp [State.aksalLost]

@[simp] theorem State.flitError_clk (s : State) (d : Nat) (h2c : Bool) (n : Nat) (crcBad : Bool) (seq : Nat) : (s.flitError d h2c n crcBad seq).clk = s.clk := by
  simp [State.flitError]

@[simp] theorem State.nak_clk (s : State) (d : Nat) (h2c : Bool) (n seq : Nat) : (s.nak d h2c n seq).clk = s.clk := by simp [State.nak]

@[simp] theorem State.nakResend_clk (s : State) (d : Nat) (h2c : Bool) (n : Nat) : (s.nakResend d h2c n).clk = s.clk := by
  simp only [State.nakResend]
  (repeat' split) <;> simp

@[simp] theorem State.aksalDown_clk (s : State) (d : Nat) : (s.aksalDown d).clk = s.clk := by simp [State.aksalDown]
@[simp] theorem State.freshSlices_clk (s : State) (d : Nat) : (s.freshSlices d).clk = s.clk := by simp [State.freshSlices]
@[simp] theorem State.trainFail_clk (s : State) (d side slice : Nat) : (s.trainFail d side slice).clk = s.clk := by simp [State.trainFail]

theorem mapSpares_clk {s t : State} {d : Nat} {h2c : Bool} {spares : List (Fin 24 × List Nat)} (h : s.mapSpares d h2c spares = .inl t) : t.clk = s.clk := by
  simp only [State.mapSpares] at h
  split at h
  · exact absurd h (by simp)
  · rw [← Sum.inl.inj h]
    simp

@[simp] theorem State.trainNext_clk (s : State) (d : Nat) : (s.trainNext d).clk = s.clk := by simp [State.trainNext]

@[simp] theorem State.trainingState_clk (s : State) (d : Nat) (die : Bool) (spares : List (Fin 24 × List Nat)) : (s.trainingState d die spares).clk = s.clk := by
  simp only [State.trainingState]
  split
  · split
    · simp
    · next t ht =>
      have hclk : t.clk = s.clk := by
        split at ht
        · exact mapSpares_clk ht
        · rw [← Sum.inl.inj ht]
      simp [hclk]
  · rfl

@[simp] theorem State.trainTimeout_clk (s : State) (d : Nat) : (s.trainTimeout d).clk = s.clk := by simp [State.trainTimeout]
@[simp] theorem State.sideDown_clk (s : State) (d : Nat) (dieSide : Bool) : (s.sideDown d dieSide).clk = s.clk := by simp [State.sideDown]
@[simp] theorem State.sideUp_clk (s : State) (d : Nat) : (s.sideUp d).clk = s.clk := by simp [State.sideUp]
@[simp] theorem State.cdRstN_clk (s : State) (d : Nat) (high : Bool) : (s.cdRstN d high).clk = s.clk := by simp [State.cdRstN]
@[simp] theorem State.cdPwrOk_clk (s : State) (d : Nat) (high : Bool) : (s.cdPwrOk d high).clk = s.clk := by simp [State.cdPwrOk]
@[simp] theorem State.hbRstN_clk (s : State) (d : Nat) (high : Bool) : (s.hbRstN d high).clk = s.clk := by simp [State.hbRstN]
@[simp] theorem State.hbPwrOk_clk (s : State) (d : Nat) (high : Bool) : (s.hbPwrOk d high).clk = s.clk := by simp [State.hbPwrOk]
@[simp] theorem State.doorMask_clk (s : State) (h d : Nat) : (s.doorMask h d).clk = s.clk := by simp [State.doorMask]
@[simp] theorem State.doorUnmask_clk (s : State) (h d : Nat) : (s.doorUnmask h d).clk = s.clk := by simp [State.doorUnmask]

end Sys2Proof.Machine
end

section
/-! SUPPORT. TIME64 at the end of a step, under register accesses and under every command (R82, R84). -/

namespace Sys2Proof.Machine

/-! ## The end of a step -/

@[simp] theorem State.cmdAnswer_clk (s : State) (q : QueueId) (idx part : Nat) (a : Answer) : (s.cmdAnswer q idx part a).clk = s.clk := by
  unfold State.cmdAnswer
  split <;> simp

@[simp] theorem State.deliver_clk (s : State) (a : Answer) : (s.deliver a).clk = s.clk := by
  unfold State.deliver
  (repeat' split) <;> simp

@[simp] theorem State.deliverAll_clk (s : State) (l : List Answer) : (s.deliverAll l).clk = s.clk := by
  induction l generalizing s with
  | nil => rfl
  | cons a t ih => simp [State.deliverAll, ih]

@[simp] theorem State.pump_clk (s : State) : s.pump.clk = s.clk := by simp [State.pump]
@[simp] theorem State.settle_clk (s : State) : s.settle.clk = s.clk := by simp [State.settle]
@[simp] theorem State.cutTraining_clk (s : State) (h p : Nat) : (s.cutTraining h p).clk = s.clk := by simp [State.cutTraining]

@[simp] theorem State.timeoutRepair_clk (s : State) (q : QueueId) (idx : Nat) : (s.timeoutRepair q idx).clk = s.clk := by
  unfold State.timeoutRepair
  (repeat' split) <;> simp

@[simp] theorem State.timeoutPages_clk (s : State) (q : QueueId) (c : Cmd) : (s.timeoutPages q c).clk = s.clk := by simp [State.timeoutPages]

@[simp] theorem State.timeout_clk (s : State) (q : QueueId) (c : Cmd) : (s.timeout q c).clk = s.clk := by
  unfold State.timeout
  (repeat' split) <;> simp

@[simp] theorem State.watchdog_clk (s : State) (q : QueueId) : (s.watchdog q).clk = s.clk := by
  unfold State.watchdog
  split <;> simp

/-! ## A hinge goes on -/

@[simp] theorem State.hingeTick_time (s : State) : s.hingeTick.clk.time = s.clk.time := by simp [State.hingeTick]

/-! ## Register accesses -/

@[simp] theorem State.unlatch_clk (s : State) (a : RegAt) : (s.unlatch a).clk = s.clk := by simp [State.unlatch]

@[simp] theorem State.noteCount_clk (s : State) (a : RegAt) : (s.noteCount a).clk = s.clk := by
  unfold State.noteCount
  split <;> simp

@[simp] theorem State.readReg_clk (s : State) (a : RegAt) (p : Part) : (s.readReg a p).1.clk = s.clk := by
  unfold State.readReg
  (repeat' split) <;> simp

@[simp] theorem State.answered_clk (s : State) (a : Access) (v : Nat) : (s.answered a v).clk = s.clk := by simp [State.answered]
@[simp] theorem State.readFault_clk (s : State) (a : Access) (reason : Nat) : (s.readFault a reason).clk = s.clk := by simp [State.readFault]

@[simp] theorem State.readNow_clk (s : State) (a : Access) : (s.readNow a).clk = s.clk := by
  unfold State.readNow
  split <;> simp

@[simp] theorem State.regRead_clk (s : State) (a : Access) : (s.regRead a).clk = s.clk := by
  unfold State.regRead
  split <;> simp

@[simp] theorem State.setField_clk (s : State) (k : Nat × Nat × Nat) (p : Part) (img v : Nat) (r : FieldRow) : (s.setField k p img v r).clk = s.clk := by
  unfold State.setField
  split <;> simp

@[simp] theorem State.setFields_clk (s : State) (a : RegAt) (p : Part) (v : Nat) : (s.setFields a p v).clk = s.clk := by simp [State.setFields]

@[simp] theorem State.writeImgCtrl_time (s : State) (n : Nat) : (s.writeImgCtrl n).Leaves fun t => t.clk.time = s.clk.time := by
  simp only [State.writeImgCtrl]
  (repeat' split) <;> simp

@[simp] theorem State.writeLayoutCtrl_time (s : State) (a : RegAt) (n : Nat) : (s.writeLayoutCtrl a n).Leaves fun t => t.clk.time = s.clk.time := by
  simp only [State.writeLayoutCtrl]
  (repeat' split) <;> simp

@[simp] theorem State.writeHingeCtrl_clk (s : State) (a : RegAt) (n : Nat) : (s.writeHingeCtrl a n).clk = s.clk := by simp [State.writeHingeCtrl]
@[simp] theorem State.writePwrCtrl_clk (s : State) (a : RegAt) (n : Nat) : (s.writePwrCtrl a n).clk = s.clk := by simp [State.writePwrCtrl]
@[simp] theorem State.writeDebug_clk (s : State) (h p : Nat) (halt : Bool) : (s.writeDebug h p halt).clk = s.clk := by simp [State.writeDebug]

@[simp] theorem State.writeDebugCmd_time (s : State) (h p : Nat) (v : Word) : (s.writeDebugCmd h p v).Leaves fun t => t.clk.time = s.clk.time := by
  simp only [State.writeDebugCmd]
  (repeat' split) <;> simp

@[simp] theorem State.writeTrnCtrl_clk (s : State) (a : RegAt) (n : Nat) : (s.writeTrnCtrl a n).clk = s.clk := by simp [State.writeTrnCtrl]
@[simp] theorem State.writeTrim_clk (s : State) (h p n : Nat) : (s.writeTrim h p n).clk = s.clk := by simp [State.writeTrim]
@[simp] theorem State.writeXlate_clk (s : State) (a : RegAt) (p : Part) (v : Nat) : (s.writeXlate a p v).clk = s.clk := by simp [State.writeXlate]
@[simp] theorem State.writeDirect_clk (s : State) (a : RegAt) (n : Nat) : (s.writeDirect a n).clk = s.clk := by simp [State.writeDirect]
@[simp] theorem State.writeShiftBuf_clk (s : State) (h i n : Nat) : (s.writeShiftBuf h i n).clk = s.clk := by simp [State.writeShiftBuf]
@[simp] theorem State.writeRecov_clk (s : State) (i n : Nat) : (s.writeRecov i n).clk = s.clk := by simp [State.writeRecov]

@[simp] theorem State.writeSram_clk (s : State) (d w n : Nat) : (s.writeSram d w n).clk = s.clk := by
  unfold State.writeSram
  split <;> simp

@[simp] theorem State.writeQueueCtrl_clk (s : State) (a : RegAt) (n : Nat) : (s.writeQueueCtrl a n).clk = s.clk := by simp [State.writeQueueCtrl]

@[simp] theorem State.writeQueueCfg_time (s : State) (a : RegAt) (p : Part) (v : Nat) : (s.writeQueueCfg a p v).Leaves fun t => t.clk.time = s.clk.time := by
  simp only [State.writeQueueCfg]
  (repeat' split) <;> simp

@[simp] theorem State.writeCntCfg_time (s : State) (a : RegAt) (n : Nat) : (s.writeCntCfg a n).Leaves fun t => t.clk.time = s.clk.time := by
  simp only [State.writeCntCfg]
  (repeat' split) <;> simp

@[simp] theorem State.writeCcntCfg_time (s : State) (a : RegAt) (n : Nat) : (s.writeCcntCfg a n).Leaves fun t => t.clk.time = s.clk.time := by
  simp only [State.writeCcntCfg]
  (repeat' split) <;> simp

@[simp] theorem State.writeAccErr_clk (s : State) (a : RegAt) (p : Part) (v : Nat) : (s.writeAccErr a p v).clk = s.clk := by simp [State.writeAccErr]

@[simp] theorem State.writeFnWin_time (s : State) (f n : Nat) : (s.writeFnWin f n).Leaves fun t => t.clk.time = s.clk.time := by
  simp only [State.writeFnWin]
  (repeat' split) <;> simp

@[simp] theorem State.advanceFuses_clk (s : State) : s.advanceFuses.clk = s.clk := by
  unfold State.advanceFuses
  split <;> rfl

/-- Of all registers only SVC_RST_CTRL reaches the clocks, by a reset that keeps TIME64 (R82). -/
@[simp] theorem State.writeActs_time (s : State) (a : RegAt) (p : Part) (n v : Nat) : (s.writeActs a p n v).Leaves fun t => t.clk.time = s.clk.time := by
  unfold State.writeActs
  split
  case h_22 => split <;> simp
  all_goals simp

@[simp] theorem State.writeReg_time (s : State) (a : RegAt) (p : Part) (v : Nat) : (s.writeReg a p v).Leaves fun t => t.clk.time = s.clk.time := by
  unfold State.writeReg
  split <;> simp

@[simp] theorem State.writeMsix_clk (s : State) (f vec k v : Nat) : (s.writeMsix f vec k v).clk = s.clk := by
  unfold State.writeMsix
  cases s.msixKey f vec with
  | none => rfl
  | some key =>
    rcases k with _ | _ | _ | k
    · exact State.setMsix_clk ..
    · exact State.setMsix_clk ..
    · exact State.setMsix_clk ..
    · exact (State.clk_ite ..).trans (by rw [State.setMsix_clk, State.msixUnmask_clk, ite_self])

@[simp] theorem State.halfRead_clk (s : State) (a : Access) : (s.halfRead a).clk = s.clk := by
  unfold State.halfRead
  split <;> simp

@[simp] theorem State.counterRead_clk (s : State) (a : Access) : (s.counterRead a).clk = s.clk := by
  unfold State.counterRead
  split <;> simp

@[simp] theorem State.gateWrite_time (s : State) (a : Access) (here : Bool) (r : WriteResult) (h : r.Leaves fun t => t.clk.time = s.clk.time) :
    (s.gateWrite a here r).clk.time = s.clk.time := by
  unfold State.gateWrite
  split <;> simp [h]

/-! ## The phase step of a hinge -/

@[simp] theorem State.phaseSteps_clk (s : State) : s.phaseSteps.clk = s.clk := by simp [State.phaseSteps]

/-! ## Writes and the end of a step -/

@[simp] theorem State.writeNow_time (s : State) (a : Access) (v : Nat) : (s.writeNow a v).clk.time = s.clk.time := by
  unfold State.writeNow
  split <;> simp

@[simp] theorem State.regWrite_time (s : State) (a : Access) (v : Word) : (s.regWrite a v).clk.time = s.clk.time := by
  unfold State.regWrite
  (repeat' split) <;> simp

@[simp] theorem State.retryHeld_time (s : State) (x : Access × Option Word) : (s.retryHeld x).clk.time = s.clk.time := by
  unfold State.retryHeld
  split <;> simp

/-- The end of a step keeps TIME64, whatever held accesses go on in it. -/
@[simp] theorem State.done_time (s : State) : s.done.clk.time = s.clk.time := by simp [State.done, State.replayHeld]

theorem State.now_eq_of_time {s t : State} (h : t.clk.time = s.clk.time) : t.now = s.now := congrArg Prod.fst h

theorem State.time64_eq_of_time {s t : State} (h : t.clk.time = s.clk.time) : t.time64 = s.time64 :=
  congrArg (fun x : Nat × Int => ((x.1 : Int) + x.2).toNat) h

/-! ## Every command -/

/-- Every command but the two that set TIME64 keeps it, before the end of its step. -/
theorem exec_keeps_time {c : Instr} (hv : c ≠ .vaonPowerUp) (hp : ∀ p, c ≠ .timePacket p) (s : State) :
    ∃ u : State, exec c s = .next u.done ∧ u.clk.time = s.clk.time := by
  cases c
  case vaonPowerUp => exact absurd rfl hv
  case timePacket p => exact absurd rfl (hp p)
  all_goals exact ⟨_, rfl, by simp⟩

/-- Settles O7: a TIME packet moves what was stepped and no tick, VAON_POWER_UP starts from the reset state, and every other command keeps both parts of TIME64. -/
theorem commandsKeepTime64 : Obligations.CommandsKeepTime64 := by
  intro c s
  by_cases hv : c = .vaonPowerUp
  · subst hv
    exact ⟨_, exec_vaonPowerUp s, fun h => absurd rfl h, fun _ => ⟨rfl, rfl⟩⟩
  by_cases hp : ∃ p, c = .timePacket p
  · obtain ⟨p, rfl⟩ := hp
    have hnow : (s.timePacket p).done.now = s.now := (State.now_eq_of_time (State.done_time _)).trans (State.timePacket_t64 s p)
    exact ⟨_, rfl, fun _ => ⟨hnow, fun h => absurd rfl (h p)⟩, fun h => absurd h hv⟩
  · obtain ⟨u, hu, htime⟩ := exec_keeps_time hv (not_exists.mp hp) s
    have hdone : u.done.clk.time = s.clk.time := (State.done_time u).trans htime
    exact ⟨_, hu, fun _ => ⟨State.now_eq_of_time hdone, fun _ => State.time64_eq_of_time hdone⟩, fun h => absurd h hv⟩

end Sys2Proof.Machine
end

section
/-! SUPPORT. How the contents of the stacks are followed through loops, branches and results (R118). -/

namespace Sys2Proof.Machine

/-- A function of the state that keeps the stacks' contents: what a loop asks of each round, and a command of its own work. -/
def KeepsMem (f : State → State) : Prop := ∀ s, (f s).mem = s.mem

@[simp] theorem keepsMem_iff (f : State → State) : KeepsMem f ↔ ∀ s, (f s).mem = s.mem := by rw [KeepsMem]

@[simp] theorem foldl_mem {α : Type} (f : State → α → State) (l : List α) (s : State) (h : ∀ x, KeepsMem (f · x)) : (l.foldl f s).mem = s.mem := by
  induction l generalizing s with
  | nil => rfl
  | cons x t ih => exact (ih _).trans (h x s)

@[simp] theorem State.mem_ite (c : Prop) [Decidable c] (s t : State) : (if c then s else t).mem = if c then s.mem else t.mem := apply_ite _ _ _ _

theorem mem_of_pair {α : Type} {s t : State} {p : State × α} {a : α} (h : p = (t, a)) (hp : p.1.mem = s.mem) : t.mem = s.mem := by
  rw [← hp, h]

end Sys2Proof.Machine
end

section
/-! SUPPORT. The contents of the stacks on the way from a door to a stack: none of these operations writes one (R118). -/

namespace Sys2Proof.Machine

/-! ## Parts and registers -/

@[simp] theorem State.syncSet_mem (s : State) (c k v : Nat) : (s.syncSet c k v).mem = s.mem := by simp [State.syncSet]
@[simp] theorem State.count_mem (s : State) (f : Fld) (top d i j n : Nat) : (s.count f top d i j n).mem = s.mem := by simp [State.count]
@[simp] theorem State.orBits_mem (s : State) (f : Fld) (d i j n : Nat) : (s.orBits f d i j n).mem = s.mem := by simp [State.orBits]
@[simp] theorem State.setBit_mem (s : State) (f : Fld) (d i j b : Nat) : (s.setBit f d i j b).mem = s.mem := by simp [State.setBit]
@[simp] theorem State.flag_mem (s : State) (f : Fld) (d i j : Nat) : (s.flag f d i j).mem = s.mem := by simp [State.flag]
@[simp] theorem State.clearBit_mem (s : State) (f : Fld) (d i j b : Nat) : (s.clearBit f d i j b).mem = s.mem := by simp [State.clearBit]
@[simp] theorem State.mapPcs_mem (s : State) (h : Nat) (f : PcSt → PcSt) : (s.mapPcs h f).mem = s.mem := by simp [State.mapPcs]
@[simp] theorem State.beginReq_mem (s : State) (r : Req) : (s.beginReq r).1.mem = s.mem := by simp [State.beginReq]
@[simp] theorem State.endReq_mem (s : State) (r : Req) : (s.endReq r).mem = s.mem := by simp [State.endReq]

@[simp] theorem State.finish_mem (s : State) (r : Req) (st : Status) (data : Block) (poison pkind : BitVec 8) :
    (s.finish r st data poison pkind).mem = s.mem := s.endReq_mem r

@[simp] theorem State.finishBare_mem (s : State) (r : Req) (st : Status) : (s.finishBare r st).mem = s.mem := by simp [State.finishBare]

/-! ## Counters and trace -/

@[simp] theorem State.counterUp_mem (s : State) (bank k n : Nat) : (s.counterUp bank k n).mem = s.mem := by simp [State.counterUp]

@[simp] theorem State.tally_mem (s : State) (bank ev : Nat) (unit : Option Nat) (subs : List Nat) (cas : Option Nat) (n : Nat) :
    (s.tally bank ev unit subs cas n).mem = s.mem := by
  simp [State.tally]

@[simp] theorem State.pushTrace_mem (s : State) (h : Nat) (r : TraceRec) : (s.pushTrace h r).mem = s.mem := by simp [State.pushTrace]

@[simp] theorem State.traceHub_mem (s : State) (h typ cas unit : Nat) (payload : List Nat) : (s.traceHub h typ cas unit payload).mem = s.mem := by
  simp [State.traceHub]

@[simp] theorem State.pushDie_mem (s : State) (d : Nat) (r : TraceRec) : (s.pushDie d r).mem = s.mem := by simp [State.pushDie]

@[simp] theorem State.traceDie_mem (s : State) (d typ cas unit : Nat) (payload : List Nat) : (s.traceDie d typ cas unit payload).mem = s.mem := by
  simp [State.traceDie]

/-! ## Stored-data protection -/

@[simp] theorem State.logPut_mem (s : State) (h e : Nat) (x : LogEnt) : (s.logPut h e x).mem = s.mem := by simp [State.logPut]
@[simp] theorem State.logDrop_mem (s : State) (h : Nat) : (s.logDrop h).mem = s.mem := by simp [State.logDrop]

@[simp] theorem State.logEvent_mem (s : State) (h : Nat) (ev : LogEnt) : (s.logEvent h ev).mem = s.mem := by
  simp only [State.logEvent]
  (repeat' split) <;> simp

@[simp] theorem State.bucketUp_mem (s : State) (h p : Nat) (policy : Bool) : (s.bucketUp h p policy).mem = s.mem := by simp [State.bucketUp]

@[simp] theorem State.noteRead_mem (s : State) (r : Req) (n : Nat) (o : SectorOutcome) : (s.noteRead r n o).mem = s.mem := by
  unfold State.noteRead
  split <;> simp

@[simp] theorem State.noteMerge_mem (s : State) (r : Req) (n : Nat) (o : SectorOutcome) : (s.noteMerge r n o).mem = s.mem := by
  unfold State.noteMerge
  split <;> simp

@[simp] theorem State.leak_mem (s : State) (h : Nat) : (s.leak h).mem = s.mem := by simp [State.leak]
@[simp] theorem State.leakDue_mem (s : State) (h : Nat) : (s.leakDue h).mem = s.mem := by simp [State.leakDue]

/-! ## Addresses -/

@[simp] theorem State.recordRefusal_mem (s : State) (h door : Nat) (r : Req) (x : DecodeRefusal) : (s.recordRefusal h door r x).mem = s.mem := by
  unfold State.recordRefusal
  split <;> simp

/-! ## The ring, doors and arbiters -/

@[simp] theorem State.sendDoor_mem (s : State) (h d : Nat) (r : Req) : (s.sendDoor h d r).mem = s.mem := by simp [State.sendDoor]
@[simp] theorem State.dispatchReq_mem (s : State) (door : Nat) (r : Req) : (s.dispatchReq door r).mem = s.mem := by simp [State.dispatchReq]
@[simp] theorem State.takePort_mem (s : State) (h dir : Nat) (r : Req) : (s.takePort h dir r).mem = s.mem := by simp [State.takePort]

@[simp] theorem State.ringHop_mem (s : State) (h dir : Nat) : (s.ringHop h dir).mem = s.mem := by
  simp only [State.ringHop]
  (repeat' split) <;> simp

@[simp] theorem State.linkRetry_mem (s : State) (h dir : Nat) (ok : Bool) : (s.linkRetry h dir ok).mem = s.mem := by simp [State.linkRetry]
@[simp] theorem State.dropLinkUsers_mem (s : State) (i : Nat) : (s.dropLinkUsers i).mem = s.mem := by simp [State.dropLinkUsers]
@[simp] theorem State.failLink_mem (s : State) (i : Nat) : (s.failLink i).mem = s.mem := by simp [State.failLink]
@[simp] theorem State.linkDown_mem (s : State) (i : Nat) : (s.linkDown i).mem = s.mem := by simp [State.linkDown]

@[simp] theorem State.doorArrival_mem (s : State) (h d latch : Nat) : (s.doorArrival h d latch).mem = s.mem := by
  simp only [State.doorArrival]
  (repeat' split) <;> simp

@[simp] theorem State.louvreCharge_mem (s : State) (h d : Nat) (e : DoorEnt) : (s.louvreCharge h d e).mem = s.mem := by
  unfold State.louvreCharge
  split <;> simp

@[simp] theorem State.louvreWindow_mem (s : State) (h d k : Nat) : (s.louvreWindow h d k).mem = s.mem := by simp [State.louvreWindow]
@[simp] theorem State.endRun_mem (s : State) (h p d : Nat) (run : RunRecord) : (s.endRun h p d run).mem = s.mem := by simp [State.endRun]
@[simp] theorem State.preempt_mem (s : State) (h p d : Nat) (run : RunRecord) : (s.preempt h p d run).mem = s.mem := by simp [State.preempt]

@[simp] theorem State.freeDoneRun_mem (s : State) (h p d : Nat) (e : DoorEnt) (after : Hold) : (s.freeDoneRun h p d e after).mem = s.mem := by
  simp [State.freeDoneRun]

@[simp] theorem State.enqueue_mem (s : State) (h p d : Nat) (e : DoorEnt) (v : Reserve) (tag : Option Nat) : (s.enqueue h p d e v tag).mem = s.mem := by
  simp [State.enqueue]

@[simp] theorem State.sampleTag_mem (s : State) (h : Nat) (e : DoorEnt) (d : Nat) : (s.sampleTag h e d).1.mem = s.mem := by
  simp only [State.sampleTag]
  (repeat' split) <;> simp

@[simp] theorem State.admitOne_mem (s : State) (h p d : Nat) (e : DoorEnt) (v : Reserve) : (s.admitOne h p d e v).mem = s.mem := by simp [State.admitOne]

@[simp] theorem State.tryAdmit_mem (s : State) (h p : Nat) (w : Nat × DoorEnt) : (s.tryAdmit h p w).mem = s.mem := by
  unfold State.tryAdmit
  split <;> simp

@[simp] theorem State.noteHeld_mem (s : State) (h p d : Nat) : (s.noteHeld h p d).mem = s.mem := by
  unfold State.noteHeld
  split <;> simp

@[simp] theorem State.contest_mem (s : State) (h p : Nat) : (s.contest h p).mem = s.mem := by
  unfold State.contest
  split <;> simp

@[simp] theorem State.contestBeside_mem (s : State) (h p d : Nat) (run : RunRecord) : (s.contestBeside h p d run).mem = s.mem := by
  simp only [State.contestBeside]
  (repeat' split) <;> simp

@[simp] theorem State.evaluate_mem (s : State) (h p : Nat) : (s.evaluate h p).mem = s.mem := by
  unfold State.evaluate
  (repeat' split) <;> simp

@[simp] theorem State.evaluateHeld_mem (s : State) (h p : Nat) : (s.evaluateHeld h p).mem = s.mem := by
  unfold State.evaluateHeld
  (repeat' split) <;> simp

@[simp] theorem State.admitNext_mem (s : State) (h p : Nat) : (s.admitNext h p).mem = s.mem := by simp [State.admitNext]
@[simp] theorem State.writePrio_mem (s : State) (h n v : Nat) : (s.writePrio h n v).mem = s.mem := by simp [State.writePrio]
@[simp] theorem State.maskDoor_mem (s : State) (h d : Nat) : (s.maskDoor h d).mem = s.mem := by simp [State.maskDoor]
@[simp] theorem State.unmaskDoor_mem (s : State) (h d : Nat) : (s.unmaskDoor h d).mem = s.mem := by simp [State.unmaskDoor]
@[simp] theorem State.dropDoor_mem (s : State) (h d : Nat) (gone : Req → Bool) (st : Status) : (s.dropDoor h d gone st).mem = s.mem := by simp [State.dropDoor]

@[simp] theorem State.endDeadLatch_mem (s : State) (h p : Nat) : (s.endDeadLatch h p).mem = s.mem := by
  unfold State.endDeadLatch
  split <;> simp

@[simp] theorem State.dropTransit_mem (s : State) (h d : Nat) (st : Status) : (s.dropTransit h d st).mem = s.mem := by simp [State.dropTransit]
@[simp] theorem State.dropDoors_mem (s : State) (h : Nat) (gone : Req → Bool) (st : Status) : (s.dropDoors h gone st).mem = s.mem := by simp [State.dropDoors]
@[simp] theorem State.dropRing_mem (s : State) (h : Nat) (gone : Req → Bool) (st : Status) : (s.dropRing h gone st).mem = s.mem := by simp [State.dropRing]

/-! ## The pseudo-channel controller -/

@[simp] theorem State.countAct_mem (s : State) (h p b row : Nat) : (s.countAct h p b row).mem = s.mem := by
  unfold State.countAct
  split <;> simp

@[simp] theorem State.retryTrim_mem (s : State) (h p : Nat) : (s.retryTrim h p).mem = s.mem := by
  unfold State.retryTrim
  split <;> simp

@[simp] theorem State.issueRead_mem (s : State) (h p : Nat) (e : QEnt) (n rl : Nat) : (s.issueRead h p e n rl).mem = s.mem := by simp [State.issueRead]
@[simp] theorem State.drive_mem (s : State) (h p : Nat) (e : CmdEntry) (r : RetryEnt) : (s.drive h p e r).mem = s.mem := by simp [State.drive]

@[simp] theorem State.freeEntry_mem (s : State) (h p : Nat) (e : QEnt) : (s.freeEntry h p e).mem = s.mem := by simp [State.freeEntry]

@[simp] theorem State.sampleDone_mem (s : State) (e : QEnt) (st : Status) : (s.sampleDone e st).mem = s.mem := by
  unfold State.sampleDone
  split <;> simp

@[simp] theorem State.endRequest_mem (s : State) (h p id : Nat) : (s.endRequest h p id).mem = s.mem := by
  unfold State.endRequest
  split <;> simp

@[simp] theorem State.refDone_mem (s : State) (h p : Nat) (q : Ptr) : (s.refDone h p q).mem = s.mem := by simp [State.refDone]

@[simp] theorem State.event_mem (s : State) (h p : Nat) (q : Ptr) (e : Nat) : (s.event h p q e).mem = s.mem := by
  unfold State.event
  split <;> simp

@[simp] theorem State.events_mem (s : State) (h p : Nat) (q : Ptr) (l : List Nat) : (s.events h p q l).mem = s.mem := by simp [State.events]

@[simp] theorem State.nbrDone_mem (s : State) (h p b : Nat) : (s.nbrDone h p b).mem = s.mem := by
  simp only [State.nbrDone]
  (repeat' split) <;> simp

@[simp] theorem State.endOp_mem (s : State) (h p : Nat) (q : Ptr) : (s.endOp h p q).mem = s.mem := by simp [State.endOp]

@[simp] theorem State.advanceAt_mem (s : State) (h p : Nat) (q : Ptr) (now : Nat) : (s.advanceAt h p q now).mem = s.mem := by
  unfold State.advanceAt
  (repeat' split) <;> simp

@[simp] theorem State.advance_mem (s : State) (h p : Nat) (q : Ptr) : (s.advance h p q).mem = s.mem := by simp [State.advance]
@[simp] theorem State.advanceAll_mem (s : State) (h p : Nat) : (s.advanceAll h p).mem = s.mem := by simp [State.advanceAll]

@[simp] theorem State.schedule_mem (s : State) (h p : Nat) : (s.schedule h p).mem = s.mem := by
  simp only [State.schedule]
  (repeat' split) <;> simp

@[simp] theorem State.loadWide_mem (s : State) (h p op : Nat) (emerg : Bool) : (s.loadWide h p op emerg).mem = s.mem := by
  unfold State.loadWide
  split <;> simp

@[simp] theorem State.wideProgress_mem (s : State) (h p : Nat) : (s.wideProgress h p).mem = s.mem := by
  simp only [State.wideProgress]
  (repeat' split) <;> simp

@[simp] theorem State.srProgress_mem (s : State) (h p : Nat) : (s.srProgress h p).mem = s.mem := by simp [State.srProgress]
@[simp] theorem State.ageMarks_mem (s : State) (h p : Nat) : (s.ageMarks h p).mem = s.mem := by simp [State.ageMarks]

@[simp] theorem State.waitDone_mem (s : State) (h p b : Nat) : (s.waitDone h p b).mem = s.mem := by
  unfold State.waitDone
  split <;> simp

@[simp] theorem State.mergeWindow_mem (s : State) (h p b : Nat) : (s.mergeWindow h p b).mem = s.mem := by simp [State.mergeWindow]

@[simp] theorem State.answerRead_mem (s : State) (h p : Nat) (e : QEnt) (l : List (Nat × SectorOutcome × BitVec 256)) : (s.answerRead h p e l).mem = s.mem := by
  simp [State.answerRead]

@[simp] theorem State.merge_mem (s : State) (h p : Nat) (errs : List BurstError) : (s.merge h p errs).mem = s.mem := by
  unfold State.merge
  split <;> simp

@[simp] theorem State.debugHalted_mem (s : State) (h p : Nat) : (s.debugHalted h p).mem = s.mem := by simp [State.debugHalted]
@[simp] theorem State.debugCmd_mem (s : State) (h p : Nat) (v : Word) : (s.debugCmd h p v).mem = s.mem := by simp [State.debugCmd]

/-! ## Refresh, disturbance and replay -/

@[simp] theorem State.newRate_mem (s : State) (h p : Nat) : (s.newRate h p).mem = s.mem := by simp [State.newRate]
@[simp] theorem State.setRate_mem (s : State) (h st : Nat) (hot stale : Bool) : (s.setRate h st hot stale).mem = s.mem := by simp [State.setRate]
@[simp] theorem State.overdue_mem (s : State) (h p b : Nat) : (s.overdue h p b).mem = s.mem := by simp [State.overdue]

@[simp] theorem State.due_mem (s : State) (h p b : Nat) : (s.due h p b).mem = s.mem := by
  unfold State.due
  (repeat' split) <;> simp

@[simp] theorem State.loadRefresh_mem (s : State) (h p b : Nat) (emerg : Bool) : (s.loadRefresh h p b emerg).mem = s.mem := by
  simp only [State.loadRefresh]
  (repeat' split) <;> simp

@[simp] theorem State.refPb_mem (s : State) (h p : Nat) : (s.refPb h p).mem = s.mem := by
  simp only [State.refPb]
  (repeat' split) <;> simp

@[simp] theorem State.emergPb_mem (s : State) (h p b : Nat) : (s.emergPb h p b).mem = s.mem := by
  simp only [State.emergPb]
  (repeat' split) <;> simp

@[simp] theorem State.emergAb_mem (s : State) (h p : Nat) : (s.emergAb h p).mem = s.mem := by
  simp only [State.emergAb]
  (repeat' split) <;> simp

@[simp] theorem State.emergency_mem (s : State) (h p : Nat) : (s.emergency h p).mem = s.mem := by
  unfold State.emergency
  split <;> simp

@[simp] theorem State.refAb_mem (s : State) (h p : Nat) : (s.refAb h p).mem = s.mem := by simp [State.refAb]
@[simp] theorem State.enterSr_mem (s : State) (h p : Nat) (auto : Bool) : (s.enterSr h p auto).mem = s.mem := by simp [State.enterSr]
@[simp] theorem State.autoSr_mem (s : State) (h p : Nat) : (s.autoSr h p).mem = s.mem := by simp [State.autoSr]
@[simp] theorem State.exitSr_mem (s : State) (h p : Nat) : (s.exitSr h p).mem = s.mem := by simp [State.exitSr]
@[simp] theorem State.autoExit_mem (s : State) (h p : Nat) : (s.autoExit h p).mem = s.mem := by simp [State.autoExit]

@[simp] theorem State.clearTables_mem (s : State) (h p : Nat) : (s.clearTables h p).mem = s.mem := by
  simp only [State.clearTables]
  (repeat' split) <;> simp

@[simp] theorem State.neighbourRefresh_mem (s : State) (h p b : Nat) : (s.neighbourRefresh h p b).mem = s.mem := by
  simp only [State.neighbourRefresh]
  (repeat' split) <;> simp

@[simp] theorem State.haltPc_mem (s : State) (h p : Nat) : (s.haltPc h p).mem = s.mem := by simp [State.haltPc]

@[simp] theorem State.alert_mem (s : State) (h p len : Nat) : (s.alert h p len).mem = s.mem := by
  simp only [State.alert]
  (repeat' split) <;> simp

@[simp] theorem State.haltReplay_mem (s : State) (h p : Nat) : (s.haltReplay h p).mem = s.mem := by simp [State.haltReplay]
@[simp] theorem State.parityAlert_mem (s : State) (h n len : Nat) : (s.parityAlert h n len).mem = s.mem := by simp [State.parityAlert]

@[simp] theorem State.retryStall_mem (s : State) (h p : Nat) : (s.retryStall h p).mem = s.mem := by simp [State.retryStall]

@[simp] theorem State.replayEnd_mem (s : State) (h p : Nat) : (s.replayEnd h p).mem = s.mem := by
  simp only [State.replayEnd]
  (repeat' split) <;> simp

/-! ## Training -/

@[simp] theorem State.setTrim_mem (s : State) (h p lane hp : Nat) (x : TrimRec) : (s.setTrim h p lane hp x).mem = s.mem := by simp [State.setTrim]
@[simp] theorem State.useTrims_mem (s : State) (h p hp : Nat) : (s.useTrims h p hp).mem = s.mem := by simp [State.useTrims]
@[simp] theorem State.writeTrimRec_mem (s : State) (h p lane hp : Nat) (x : TrimRec) : (s.writeTrimRec h p lane hp x).mem = s.mem := by simp [State.writeTrimRec]
@[simp] theorem State.scaleTrims_mem (s : State) (h p b : Nat) : (s.scaleTrims h p b).mem = s.mem := by simp [State.scaleTrims]

@[simp] theorem State.trimLanes_mem (s : State) (h p : Nat) (ok : LaneEye → Bool) (eyes : List LaneEye) (lanes : List Nat) :
    (s.trimLanes h p ok eyes lanes).mem = s.mem := by
  simp only [State.trimLanes, State.useTrims_mem]
  exact foldl_mem _ _ _ fun l t => by dsimp only; split <;> simp

@[simp] theorem State.moveTrims_mem (s : State) (h p : Nat) (moves : List LaneMove) : (s.moveTrims h p moves).mem = s.mem := by
  simp only [State.moveTrims, State.useTrims_mem]
  exact foldl_mem _ _ _ fun lane t => by dsimp only; split <;> simp

@[simp] theorem State.retrainDue_mem (s : State) (h p : Nat) : (s.retrainDue h p).mem = s.mem := by simp [State.retrainDue]
@[simp] theorem State.retrainPause_mem (s : State) (h p : Nat) : (s.retrainPause h p).mem = s.mem := by simp [State.retrainPause]

@[simp] theorem State.pauseRun_mem (s : State) (h p : Nat) (moves : List LaneMove) (err : Bool) : (s.pauseRun h p moves err).1.mem = s.mem := by
  simp [State.pauseRun]

@[simp] theorem State.pauseFailed_mem (s : State) (h p : Nat) : (s.pauseFailed h p).mem = s.mem := by simp [State.pauseFailed]

@[simp] theorem State.pauseResult_mem (s : State) (h p start : Nat) (moves : List LaneMove) (err atOnce : Bool) :
    (s.pauseResult h p start moves err atOnce).mem = s.mem := by
  simp [State.pauseResult]

@[simp] theorem State.retrainPauseEnd_mem (s : State) (h p : Nat) (moves : List LaneMove) (err : Bool) : (s.retrainPauseEnd h p moves err).mem = s.mem := by
  simp only [State.retrainPauseEnd]
  (repeat' split) <;> simp

@[simp] theorem State.trnStart_mem (s : State) (h p phase : Nat) : (s.trnStart h p phase).mem = s.mem := by simp [State.trnStart]

@[simp] theorem State.noteErrors_mem (s : State) (h p : Nat) (top : Option Nat) (errs : List (Nat × Nat)) : (s.noteErrors h p top errs).mem = s.mem := by
  simp [State.noteErrors]

@[simp] theorem State.compareDone_mem (s : State) (h p : Nat) (errs : List (Nat × Nat)) : (s.compareDone h p errs).mem = s.mem := by
  unfold State.compareDone
  split <;> simp

@[simp] theorem State.engineCompared_mem (s : State) (h p : Nat) (errs : List (Nat × Nat)) : (s.engineCompared h p errs).mem = s.mem := by
  simp [State.engineCompared]

end Sys2Proof.Machine
end

section
/-! SUPPORT. The contents of the stacks under signals, images, hinges and heat: what writes none (R118). -/

namespace Sys2Proof.Machine

/-! ## Signals, queues and traffic made in one step -/

@[simp] theorem State.signal_mem (s : State) (f vec : Nat) : (s.signal f vec).mem = s.mem := by
  unfold State.signal
  split <;> simp

@[simp] theorem State.fnEvent_mem (s : State) (f : Nat) (e : FnEvent) : (s.fnEvent f e).mem = s.mem := by simp [State.fnEvent]
@[simp] theorem State.fnEventAll_mem (s : State) (e : FnEvent) : (s.fnEventAll e).mem = s.mem := by simp [State.fnEventAll]
@[simp] theorem State.qwr_mem (s : State) (q : QueueId) (f : Fld) (v : Nat) : (s.qwr q f v).mem = s.mem := by simp [State.qwr]
@[simp] theorem State.setCmd_mem (s : State) (q : QueueId) (c : Cmd) : (s.setCmd q c).mem = s.mem := by simp [State.setCmd]

@[simp] theorem State.signalQueue_mem (s : State) (q : QueueId) : (s.signalQueue q).mem = s.mem := by
  unfold State.signalQueue
  split <;> simp

@[simp] theorem State.stopQueue_mem (s : State) (q : QueueId) (st : Status) : (s.stopQueue q st).mem = s.mem := by simp [State.stopQueue]

@[simp] theorem State.endCmd_mem (s : State) (q : QueueId) (idx : Nat) (st : Status) : (s.endCmd q idx st).mem = s.mem := by
  unfold State.endCmd
  split <;> simp

@[simp] theorem State.endCmdWith_mem (s : State) (q : QueueId) (idx : Nat) (st : Status) (detail : Nat) : (s.endCmdWith q idx st detail).mem = s.mem := by
  unfold State.endCmdWith
  split <;> simp

@[simp] theorem State.coverPending_mem (s : State) (pl : Place) (m : BitVec 32) : (s.coverPending pl m).mem = s.mem := by simp [State.coverPending]

@[simp] theorem State.pass_mem (s : State) (v : Via) (r : Req) (first : Bool) : (s.pass v r first).mem = s.mem := by
  unfold State.pass
  (repeat' split) <;> simp

@[simp] theorem State.fetchSector_mem (s : State) (v : Via) (addr : Nat) (first : Bool) : (s.fetchSector v addr first).1.mem = s.mem := by
  simp only [State.fetchSector]
  (repeat' split) <;> simp

@[simp] theorem State.fetchMore_mem (s : State) (v : Via) (n addr : Nat) (first : Bool) : (s.fetchMore v n addr first).1.mem = s.mem := by
  induction n generalizing s addr first with
  | zero => rfl
  | succ n ih => simp [State.fetchMore, ih]

@[simp] theorem State.fetchSectors_mem (s : State) (v : Via) (n addr : Nat) : (s.fetchSectors v n addr).1.mem = s.mem := by simp [State.fetchSectors]
@[simp] theorem State.fetchBlock_mem (s : State) (v : Via) (addr : Nat) : (s.fetchBlock v addr).1.mem = s.mem := by simp [State.fetchBlock]

/-! ## The structure image -/

@[simp] theorem State.hubImage_mem (s : State) (h state code frame : Nat) : (s.hubImage h state code frame).mem = s.mem := by simp [State.hubImage]
@[simp] theorem State.imageState_mem (s : State) (state kind : Nat) : (s.imageState state kind).mem = s.mem := by simp [State.imageState]

@[simp] theorem State.imageStatus_mem (s : State) (state kind code frame hub : Nat) : (s.imageStatus state kind code frame hub).mem = s.mem := by
  simp [State.imageStatus]

@[simp] theorem State.rejectImage_mem (s : State) (kind : Nat) (e : LoadErr) (found : List (Nat × Nat)) : (s.rejectImage kind e found).mem = s.mem := by
  simp [State.rejectImage]

@[simp] theorem State.loadSlots_mem (s : State) (h d : Nat) (c : Option LouvreCfg) : (s.loadSlots h d c).mem = s.mem := by simp [State.loadSlots]

@[simp] theorem State.loadArbiter_mem (s : State) (h : Nat) : (s.loadArbiter h).mem = s.mem := by
  unfold State.loadArbiter
  split <;> simp

@[simp] theorem State.loadFields_mem (s : State) : s.loadFields.mem = s.mem := by simp [State.loadFields]
@[simp] theorem State.setMode_mem (s : State) (h p : Nat) : (s.setMode h p).mem = s.mem := by simp [State.setMode]
@[simp] theorem State.setModes_mem (s : State) : s.setModes.mem = s.mem := by simp [State.setModes]

@[simp] theorem State.loadFull_mem (s : State) (l : List Byte) : (s.loadFull l).1.mem = s.mem := by
  simp only [State.loadFull]
  (repeat' split) <;> simp

@[simp] theorem State.setTicks_mem (s : State) : s.setTicks.mem = s.mem := by simp [State.setTicks]
@[simp] theorem State.stage_mem (s : State) (c : Change) : (s.stage c).mem = s.mem := by simp [State.stage]

@[simp] theorem State.beginPartial_mem (s : State) : s.beginPartial.mem = s.mem := by
  simp only [State.beginPartial]
  (repeat' split) <;> simp

@[simp] theorem State.endLayout_mem (s : State) (code : Nat) : (s.endLayout code).mem = s.mem := by simp [State.endLayout]
@[simp] theorem State.beginLayout_mem (s : State) : s.beginLayout.mem = s.mem := by simp [State.beginLayout]
@[simp] theorem State.startHeld_mem (s : State) : s.startHeld.mem = s.mem := by simp [State.startHeld]
@[simp] theorem State.startImage_mem (s : State) : s.startImage.mem = s.mem := by simp [State.startImage]
@[simp] theorem State.startLayout_mem (s : State) : s.startLayout.mem = s.mem := by simp [State.startLayout]
@[simp] theorem State.endImage_mem (s : State) (code : Nat) : (s.endImage code).mem = s.mem := by simp [State.endImage]
@[simp] theorem State.abortLayout_mem (s : State) (code : Nat) : (s.abortLayout code).mem = s.mem := by simp [State.abortLayout]
@[simp] theorem State.abortStaged_mem (s : State) : s.abortStaged.mem = s.mem := by simp [State.abortStaged]
@[simp] theorem State.abortFor_mem (s : State) (c : Nat) : (s.abortFor c).mem = s.mem := by simp [State.abortFor]
@[simp] theorem State.quiesceLost_mem (s : State) : s.quiesceLost.mem = s.mem := by simp [State.quiesceLost]
@[simp] theorem State.quiesce_mem (s : State) (v : Nat) : (s.quiesce v).mem = s.mem := by simp [State.quiesce]
@[simp] theorem State.quiesced_mem (s : State) (n : Nat) : (s.quiesced n).mem = s.mem := by simp [State.quiesced]

@[simp] theorem State.fenceApply_mem (s : State) (base len : Nat) : (s.fenceApply base len).mem = s.mem := by
  unfold State.fenceApply
  split <;> simp

@[simp] theorem State.targetReady_mem (s : State) (h : Nat) : (s.targetReady h).mem = s.mem := by simp [State.targetReady]
@[simp] theorem State.commitImage_mem (s : State) (c : RunCfg) (doors : List (Nat × Nat)) : (s.commitImage c doors).mem = s.mem := by simp [State.commitImage]

@[simp] theorem State.commitOne_mem (s : State) (x : Staged) : (s.commitOne x).mem = s.mem := by
  unfold State.commitOne
  split <;> simp

@[simp] theorem State.commit_mem (s : State) : s.commit.mem = s.mem := by simp [State.commit]
@[simp] theorem State.moveTicks_mem (s : State) : s.moveTicks.mem = s.mem := by simp [State.moveTicks]

/-! ## Hinges and power states -/

@[simp] theorem State.hingeError_mem (s : State) (e : Nat) : (s.hingeError e).mem = s.mem := by simp [State.hingeError]

@[simp] theorem State.hingeRequest_mem (s : State) (t : Nat) : (s.hingeRequest t).mem = s.mem := by
  unfold State.hingeRequest
  split <;> simp

@[simp] theorem State.endHinges_mem (s : State) (l : List QueueId) (st : Status) : (s.endHinges l st).mem = s.mem :=
  foldl_mem _ _ _ fun q t => by dsimp only; split <;> simp

@[simp] theorem State.hingeEnter_mem (s : State) (h p : Nat) : (s.hingeEnter h p).mem = s.mem := by simp [State.hingeEnter]

@[simp] theorem State.hingeProgress_mem (s : State) : s.hingeProgress.mem = s.mem := by
  unfold State.hingeProgress
  split <;> simp

@[simp] theorem State.hingeRun_mem (s : State) : s.hingeRun.mem = s.mem := by simp [State.hingeRun]

@[simp] theorem State.hingeStart_mem (s : State) : s.hingeStart.mem = s.mem := by
  unfold State.hingeStart
  split <;> simp

@[simp] theorem State.switchPc_mem (s : State) (h p : Nat) : (s.switchPc h p).mem = s.mem := by simp [State.switchPc]

@[simp] theorem State.switchTick_mem (s : State) : s.switchTick.mem = s.mem := by
  unfold State.switchTick
  split <;> simp

@[simp] theorem State.shiftTimers_mem (s : State) (n : Nat) : (s.shiftTimers n).mem = s.mem := by simp [State.shiftTimers]
@[simp] theorem State.hingePause_mem (s : State) (h p : Nat) (l : List PauseRes) : (s.hingePause h p l).mem = s.mem := by simp [State.hingePause]
@[simp] theorem State.hingeRelease_mem (s : State) (pauses : List PauseRes) : (s.hingeRelease pauses).mem = s.mem := by simp [State.hingeRelease]
@[simp] theorem State.abandonHinge_mem (s : State) : s.abandonHinge.mem = s.mem := by simp [State.abandonHinge]
@[simp] theorem State.pwrDone_mem (s : State) (st err : Nat) : (s.pwrDone st err).mem = s.mem := by simp [State.pwrDone]
@[simp] theorem State.compOff_mem (s : State) : s.compOff.mem = s.mem := by simp [State.compOff]
@[simp] theorem State.pwrHinge_mem (s : State) (hp st : Nat) : (s.pwrHinge hp st).mem = s.mem := by simp [State.pwrHinge]

@[simp] theorem State.pwrProgress_mem (s : State) : s.pwrProgress.mem = s.mem := by
  unfold State.pwrProgress
  split <;> simp

@[simp] theorem State.pwrRequest_mem (s : State) (st : Nat) : (s.pwrRequest st).mem = s.mem := by simp [State.pwrRequest]

/-! ## Ports, repairs and heat -/

@[simp] theorem State.blowOnce_mem (s : State) (h : Nat) (v : Word) : (s.blowOnce h v).mem = s.mem := by simp [State.blowOnce]

@[simp] theorem State.blowTries_mem (s : State) (h : Nat) (v : Word) (n : Nat) : (s.blowTries h v n).mem = s.mem := by
  induction n generalizing s with
  | zero => simp [State.blowTries]
  | succ n ih => simp [State.blowTries, ih]

@[simp] theorem State.blow_mem (s : State) (h : Nat) (r : FuseRec) : (s.blow h r).mem = s.mem := by simp [State.blow]
@[simp] theorem State.useSpare_mem (s : State) (h p b kind : Nat) : (s.useSpare h p b kind).mem = s.mem := by simp [State.useSpare]
@[simp] theorem State.shiftThrough_mem (s : State) (h st : Nat) (inp : List Byte) : (s.shiftThrough h st inp).mem = s.mem := by simp [State.shiftThrough]

@[simp] theorem State.portNext_mem (s : State) (h st : Nat) (gap : Bool) : (s.portNext h st gap).mem = s.mem := by
  simp only [State.portNext]
  (repeat' split) <;> simp

@[simp] theorem State.repairFailed_mem (s : State) (r : RepairSt) : (s.repairFailed r).mem = s.mem := by simp [State.repairFailed]
@[simp] theorem State.engineTraining_mem (s : State) (h p : Nat) : (s.engineTraining h p).mem = s.mem := by simp [State.engineTraining]

@[simp] theorem State.programStep_mem (s : State) (h st : Nat) : (s.programStep h st).mem = s.mem := by simp [State.programStep]
@[simp] theorem State.directAccess_mem (s : State) (h : Nat) (inp : List Byte) : (s.directAccess h inp).mem = s.mem := by simp [State.directAccess]

@[simp] theorem State.cutRepairs_mem (s : State) : s.cutRepairs.mem = s.mem :=
  foldl_mem _ _ _ fun x t => by dsimp only; split <;> simp

@[simp] theorem State.closedCount_mem (s : State) (h n : Nat) : (s.closedCount h n).mem = s.mem := by simp [State.closedCount]
@[simp] theorem State.closeStack_mem (s : State) (h st : Nat) : (s.closeStack h st).mem = s.mem := by simp [State.closeStack]
@[simp] theorem State.openStack_mem (s : State) (h st : Nat) : (s.openStack h st).mem = s.mem := by simp [State.openStack]
@[simp] theorem State.announce_mem (s : State) (d h st : Nat) : (s.announce d h st).mem = s.mem := by simp [State.announce]
@[simp] theorem State.tierEvents_mem (s old : State) (h : Nat) : (s.tierEvents old h).mem = s.mem := by simp [State.tierEvents]
@[simp] theorem State.capFollow_mem (s : State) : s.capFollow.mem = s.mem := by simp [State.capFollow]
@[simp] theorem State.heatChanged_mem (s old : State) : (s.heatChanged old).mem = s.mem := by simp [State.heatChanged]
@[simp] theorem State.readStack_mem (s : State) (h st : Nat) (x : Int) : (s.readStack h st x).mem = s.mem := by simp [State.readStack]
@[simp] theorem State.temperatureReadout_mem (s : State) (h st : Nat) (x : Int) : (s.temperatureReadout h st x).mem = s.mem := by simp [State.temperatureReadout]

@[simp] theorem State.dieReading_mem (s : State) (d : Nat) (l : List Int) : (s.dieReading d l).mem = s.mem := by
  simp only [State.dieReading]
  (repeat' split) <;> simp

@[simp] theorem State.goStale_mem (s : State) (h st : Nat) : (s.goStale h st).mem = s.mem := by simp [State.goStale]
@[simp] theorem State.throttle_mem (s : State) (d level : Nat) : (s.throttle d level).mem = s.mem := by simp [State.throttle]

end Sys2Proof.Machine
end

section
/-! SUPPORT. The contents of the stacks under the engines, the cores and the fabric: what writes none (R118). -/

namespace Sys2Proof.Machine

/-! ## Queues, MOVE and HUB commands -/

@[simp] theorem State.ringDoorbell_mem (s : State) (q : QueueId) (v : Nat) : (s.ringDoorbell q v).mem = s.mem := by simp [State.ringDoorbell]
@[simp] theorem State.cplDoorbell_mem (s : State) (q : QueueId) (v : Nat) : (s.cplDoorbell q v).mem = s.mem := by simp [State.cplDoorbell]
@[simp] theorem State.enableQueue_mem (s : State) (q : QueueId) : (s.enableQueue q).mem = s.mem := by simp [State.enableQueue]
@[simp] theorem State.restartQueue_mem (s : State) (q : QueueId) : (s.restartQueue q).mem = s.mem := by simp [State.restartQueue]
@[simp] theorem State.served_mem (s : State) (q : QueueId) : (s.served q).mem = s.mem := by simp [State.served]

/-- A command that starts writes no stack where its own work writes none. -/
@[simp] theorem State.startCmd_mem (s : State) (q : QueueId) (op : Nat) (own : Cmd → List Status) (run : State → Cmd → State) (detail : Cmd → Status → Nat)
    (hrun : ∀ c, KeepsMem (run · c)) : (s.startCmd q op own run detail).mem = s.mem := by
  unfold State.startCmd
  split
  · rfl
  · next c _ =>
    dsimp only
    split
    · split
      · simp
      · exact (hrun _ _).trans (by simp)
    · rfl

@[simp] theorem State.reapOne_mem (s : State) (q : QueueId) : (s.reapOne q).mem = s.mem := by
  unfold State.reapOne
  split <;> simp

@[simp] theorem State.reapN_mem (s : State) (q : QueueId) (n : Nat) : (s.reapN q n).mem = s.mem := by
  induction n generalizing s with
  | zero => rfl
  | succ n ih => simp [State.reapN, ih]

@[simp] theorem State.reap_mem (s : State) (q : QueueId) : (s.reap q).mem = s.mem := by simp [State.reap]
@[simp] theorem State.commandFetch_mem (s : State) (q : QueueId) : (s.commandFetch q).mem = s.mem := by simp [State.commandFetch]

@[simp] theorem State.retire_mem (s : State) (q : QueueId) (c : Cmd) (st : Status) : (s.retire q c st).mem = s.mem := by simp [State.retire]

@[simp] theorem State.syncAdd_mem (s : State) (c k v : Nat) : (s.syncAdd c k v).mem = s.mem := by simp [State.syncAdd]
@[simp] theorem State.runNop_mem (s : State) (q : QueueId) (c : Cmd) : (s.runNop q c).mem = s.mem := by simp [State.runNop]
@[simp] theorem State.runSignal_mem (s : State) (q : QueueId) (c : Cmd) : (s.runSignal q c).mem = s.mem := by simp [State.runSignal]

@[simp] theorem State.waitProgress_mem (s : State) (q : QueueId) : (s.waitProgress q).mem = s.mem := by
  unfold State.waitProgress
  split <;> simp

@[simp] theorem State.offer_mem (s : State) (h door : Nat) (r : Req) (ovr : Option Nat) (may : Bool) : (s.offer h door r ovr may).1.mem = s.mem := by
  unfold State.offer
  split <;> simp

@[simp] theorem State.moveWrite_mem (s : State) (q : QueueId) (c : Cmd) (k : Nat) (data : Block) (poison : BitVec 8) :
    (s.moveWrite q c k data poison).mem = s.mem := by
  simp only [State.moveWrite]
  split
  · simp
  · split <;> next ho => simp [mem_of_pair ho (State.offer_mem ..)]

@[simp] theorem State.endIfDone_mem (s : State) (q : QueueId) (idx total : Nat) : (s.endIfDone q idx total).mem = s.mem := by
  unfold State.endIfDone
  split <;> simp

@[simp] theorem State.moveIssue_mem (s : State) (q : QueueId) (c : Cmd) : (s.moveIssue q c).mem = s.mem := by
  simp only [State.moveIssue]
  split
  · split
    · simp
    · split <;> next ho => simp [mem_of_pair ho (State.offer_mem ..)]
  · exact (State.moveWrite_mem ..).trans (State.setCmd_mem ..)

@[simp] theorem State.movePump1_mem (s : State) (q : QueueId) : (s.movePump1 q).mem = s.mem := by
  simp only [State.movePump1]
  (repeat' split) <;> simp

@[simp] theorem State.movePumpN_mem (s : State) (q : QueueId) (n : Nat) : (s.movePumpN q n).mem = s.mem := by
  induction n generalizing s with
  | zero => rfl
  | succ n ih => simp [State.movePumpN, ih]

@[simp] theorem State.movePump_mem (s : State) (q : QueueId) : (s.movePump q).mem = s.mem := by simp [State.movePump]

@[simp] theorem State.moveData_mem (s : State) (q : QueueId) (idx k : Nat) (st : Status) (data : Block) (poison : BitVec 8) :
    (s.moveData q idx k st data poison).mem = s.mem := by
  unfold State.moveData
  split <;> simp

@[simp] theorem State.moveWritten_mem (s : State) (q : QueueId) (idx k : Nat) (st : Status) : (s.moveWritten q idx k st).mem = s.mem := by
  unfold State.moveWritten
  split <;> simp

@[simp] theorem State.hostReadDone_mem (s : State) (q : QueueId) (data : Option Block) : (s.hostReadDone q data).mem = s.mem := by
  simp only [State.hostReadDone]
  (repeat' split) <;> simp

@[simp] theorem State.runFenceAdd_mem (s : State) (q : QueueId) (c : Cmd) : (s.runFenceAdd q c).mem = s.mem := by simp [State.runFenceAdd]
@[simp] theorem State.runFenceDel_mem (s : State) (q : QueueId) (c : Cmd) : (s.runFenceDel q c).mem = s.mem := by simp [State.runFenceDel]

@[simp] theorem State.scrubPump1_mem (s : State) (q : QueueId) (idx : Nat) : (s.scrubPump1 q idx).mem = s.mem := by
  unfold State.scrubPump1
  split
  · rfl
  · dsimp only
    split
    · split
      · simp
      · split <;> next ho => simp [mem_of_pair ho (State.offer_mem ..)]
    · rfl

@[simp] theorem State.scrubPumpN_mem (s : State) (q : QueueId) (idx n : Nat) : (s.scrubPumpN q idx n).mem = s.mem := by
  induction n generalizing s with
  | zero => rfl
  | succ n ih => simp [State.scrubPumpN, ih]

@[simp] theorem State.scrubPump_mem (s : State) (q : QueueId) (idx : Nat) : (s.scrubPump q idx).mem = s.mem := by
  unfold State.scrubPump
  split <;> simp

@[simp] theorem State.scrubRead_mem (s : State) (q : QueueId) (idx k : Nat) (st : Status) : (s.scrubRead q idx k st).mem = s.mem := by
  unfold State.scrubRead
  split <;> simp

@[simp] theorem State.runRepair_mem (s : State) (q : QueueId) (c : Cmd) : (s.runRepair q c).mem = s.mem := by simp [State.runRepair]
@[simp] theorem State.runRetrain_mem (s : State) (q : QueueId) (c : Cmd) : (s.runRetrain q c).mem = s.mem := by simp [State.runRetrain]

@[simp] theorem State.unhalt_mem (s : State) (h p : Nat) : (s.unhalt h p).mem = s.mem := by simp [State.unhalt]

@[simp] theorem State.retrained_mem (s : State) (q : QueueId) (c : Cmd) (h p : Nat) (eyes : List LaneEye) : (s.retrained q c h p eyes).mem = s.mem := by
  simp [State.retrained]

@[simp] theorem State.releasePc_mem (s : State) (h p : Nat) : (s.releasePc h p).mem = s.mem := by simp [State.releasePc]
@[simp] theorem State.runRelease_mem (s : State) (q : QueueId) (c : Cmd) : (s.runRelease q c).mem = s.mem := by simp [State.runRelease]

@[simp] theorem State.runHinge_mem (s : State) (q : QueueId) (c : Cmd) : (s.runHinge q c).mem = s.mem := by
  simp only [State.runHinge]
  (repeat' split) <;> simp

/-! ## The matrix cores -/

@[simp] theorem State.stopKernel_mem (s : State) (x : KernelSt) (st : Status) : (s.stopKernel x st).mem = s.mem := by simp [State.stopKernel]
@[simp] theorem State.recordFault_mem (s : State) (p : CorePos) (st : Status) (ip : Nat) : (s.recordFault p st ip).mem = s.mem := by simp [State.recordFault]
@[simp] theorem State.coreFault_mem (s : State) (c : CoreCtx) (st : Status) : (s.coreFault c st).mem = s.mem := by simp [State.coreFault]
@[simp] theorem State.coreCount_mem (s : State) (p : CorePos) (ev n : Nat) : (s.coreCount p ev n).mem = s.mem := by simp [State.coreCount]
@[simp] theorem State.sampleInsn_mem (s : State) (c : CoreCtx) (usable : Nat) : (s.sampleInsn c usable).mem = s.mem := by simp [State.sampleInsn]

@[simp] theorem State.sampleStream_mem (s : State) (p : CorePos) : (s.sampleStream p).mem = s.mem := by
  simp only [State.sampleStream]
  (repeat' split) <;> simp

@[simp] theorem State.coreIssued_mem (s : State) (c : CoreCtx) (x : CoreSt) (usable : Nat) : (s.coreIssued c x usable).mem = s.mem := by simp [State.coreIssued]
@[simp] theorem State.coreStall_mem (s : State) (c : CoreCtx) (why : Nat) : (s.coreStall c why).mem = s.mem := by simp [State.coreStall]

/-- An instruction of a core writes no stack where its own work writes none. -/
@[simp] theorem State.coreStep_mem (s : State) (i : CoreId) (op : Nat) (run : State → CoreCtx → State) (hrun : ∀ c, KeepsMem (run · c)) :
    (s.coreStep i op run).mem = s.mem := by
  unfold State.coreStep
  split
  · rfl
  · next c _ => simp [hrun c s]

@[simp] theorem State.plain_mem (s : State) (c : CoreCtx) (f : CoreSt → CoreSt) : (s.plain c f).mem = s.mem := by simp [State.plain]
@[simp] theorem State.runLoop_mem (s : State) (c : CoreCtx) : (s.runLoop c).mem = s.mem := by simp [State.runLoop]
@[simp] theorem State.runSetag_mem (s : State) (c : CoreCtx) : (s.runSetag c).mem = s.mem := by simp [State.runSetag]
@[simp] theorem State.runSetsb_mem (s : State) (c : CoreCtx) : (s.runSetsb c).mem = s.mem := by simp [State.runSetsb]
@[simp] theorem State.runWaits_mem (s : State) (c : CoreCtx) : (s.runWaits c).mem = s.mem := by simp [State.runWaits]
@[simp] theorem State.runEnd_mem (s : State) (c : CoreCtx) : (s.runEnd c).mem = s.mem := by simp [State.runEnd]
@[simp] theorem State.runSync_mem (s : State) (c : CoreCtx) : (s.runSync c).mem = s.mem := by simp [State.runSync]
@[simp] theorem State.pushCluster_mem (s : State) (d k : Nat) (r : TraceRec) : (s.pushCluster d k r).mem = s.mem := by simp [State.pushCluster]
@[simp] theorem State.runTrace_mem (s : State) (c : CoreCtx) : (s.runTrace c).mem = s.mem := by simp [State.runTrace]

@[simp] theorem State.compute_mem (s : State) (c : CoreCtx) (n : TileInsn) (f : List Block → Block) : (s.compute c n f).mem = s.mem := by
  simp only [State.compute]
  (repeat' split) <;> simp

@[simp] theorem State.unary_mem (s : State) (c : CoreCtx) (n : TileInsn) (f : BitVec 32 → BitVec 32) : (s.unary c n f).mem = s.mem := by simp [State.unary]
@[simp] theorem State.binary_mem (s : State) (c : CoreCtx) (f : BitVec 32 → BitVec 32 → BitVec 32) : (s.binary c f).mem = s.mem := by simp [State.binary]
@[simp] theorem State.runCvt_mem (s : State) (c : CoreCtx) : (s.runCvt c).mem = s.mem := by simp [State.runCvt]
@[simp] theorem State.runUnpk_mem (s : State) (c : CoreCtx) : (s.runUnpk c).mem = s.mem := by simp [State.runUnpk]
@[simp] theorem State.runFill_mem (s : State) (c : CoreCtx) : (s.runFill c).mem = s.mem := by simp [State.runFill]
@[simp] theorem State.runZero_mem (s : State) (c : CoreCtx) : (s.runZero c).mem = s.mem := by simp [State.runZero]
@[simp] theorem State.runMovt_mem (s : State) (c : CoreCtx) : (s.runMovt c).mem = s.mem := by simp [State.runMovt]
@[simp] theorem State.runTrn_mem (s : State) (c : CoreCtx) : (s.runTrn c).mem = s.mem := by simp [State.runTrn]
@[simp] theorem State.runFma_mem (s : State) (c : CoreCtx) : (s.runFma c).mem = s.mem := by simp [State.runFma]
@[simp] theorem State.runSel_mem (s : State) (c : CoreCtx) : (s.runSel c).mem = s.mem := by simp [State.runSel]
@[simp] theorem State.runLut_mem (s : State) (c : CoreCtx) : (s.runLut c).mem = s.mem := by simp [State.runLut]
@[simp] theorem State.runRsum_mem (s : State) (c : CoreCtx) : (s.runRsum c).mem = s.mem := by simp [State.runRsum]
@[simp] theorem State.runRmax_mem (s : State) (c : CoreCtx) : (s.runRmax c).mem = s.mem := by simp [State.runRmax]
@[simp] theorem State.runRowop_mem (s : State) (c : CoreCtx) : (s.runRowop c).mem = s.mem := by simp [State.runRowop]
@[simp] theorem State.runScl_mem (s : State) (c : CoreCtx) : (s.runScl c).mem = s.mem := by simp [State.runScl]

@[simp] theorem State.runMma_mem (s : State) (c : CoreCtx) (zero : Bool) (f : Block → Block → Block → Block) : (s.runMma c zero f).mem = s.mem := by
  unfold State.runMma
  split <;> simp

@[simp] theorem State.runMma16_mem (s : State) (c : CoreCtx) : (s.runMma16 c).mem = s.mem := by simp [State.runMma16]
@[simp] theorem State.runMma8_mem (s : State) (c : CoreCtx) : (s.runMma8 c).mem = s.mem := by simp [State.runMma8]
@[simp] theorem State.sendUp_mem (s : State) (d : Nat) (m : AkReq) : (s.sendUp d m).mem = s.mem := by simp [State.sendUp]

@[simp] theorem State.sendStream_mem (s : State) (p : CorePos) : (s.sendStream p).mem = s.mem := by
  simp only [State.sendStream]
  (repeat' split) <;> simp

@[simp] theorem State.runStream_mem (s : State) (c : CoreCtx) (write sector : Bool) : (s.runStream c write sector).mem = s.mem := by
  unfold State.runStream
  split <;> simp

@[simp] theorem State.endStream_mem (s : State) (p : CorePos) (tag : Nat) : (s.endStream p tag).mem = s.mem := by simp [State.endStream]

@[simp] theorem State.streamArrival_mem (s : State) (p : CorePos) : (s.streamArrival p).mem = s.mem := by
  simp only [State.streamArrival]
  (repeat' split) <;> simp

@[simp] theorem State.streamAnswer_mem (s : State) (p : CorePos) (tag : Nat) (st : Status) (data : Block) (marks pkind : BitVec 8) :
    (s.streamAnswer p tag st data marks pkind).mem = s.mem := by
  simp only [State.streamAnswer]
  (repeat' split) <;> simp

@[simp] theorem State.takeCluster_mem (s : State) (d : Nat) (q : QueueId) (idx cas k : Nat) : (s.takeCluster d q idx cas k).mem = s.mem := by
  simp [State.takeCluster]

@[simp] theorem State.runDispatch_mem (s : State) (q : QueueId) (c : Cmd) : (s.runDispatch q c).mem = s.mem := by simp [State.runDispatch]

@[simp] theorem State.dispatch_mem (s : State) (q : QueueId) : (s.dispatch q).mem = s.mem := by
  unfold State.dispatch
  split <;> simp

@[simp] theorem State.clusterClear_mem (s : State) (d k : Nat) : (s.clusterClear d k).mem = s.mem := by
  unfold State.clusterClear
  extract_lets y t
  split
  · exact (State.setCluster_mem ..).trans (foldl_mem _ _ _ fun c t => State.setCore_mem ..)
  · rfl

@[simp] theorem State.fetchFault_mem (s : State) (kn : KernelSt) (k : Nat) (st : Status) : (s.fetchFault kn k st).mem = s.mem := by simp [State.fetchFault]

@[simp] theorem State.coreArgs_mem (s : State) (kn : KernelSt) (args : List Nat) (r : Nat) : (s.coreArgs kn args r).1.mem = s.mem := by
  unfold State.coreArgs
  split <;> simp

@[simp] theorem State.startCores_mem (s : State) (kn : KernelSt) (k : Nat) (table : List (BitVec 64)) (args : List Nat) (n : Nat) :
    (s.startCores kn k table args n).1.mem = s.mem := by
  induction n with
  | zero => rfl
  | succ n ih => simp [State.startCores, ih]

@[simp] theorem State.tableFetch_mem (s : State) (d k : Nat) : (s.tableFetch d k).mem = s.mem := by
  unfold State.tableFetch
  split <;> simp

@[simp] theorem State.freeCluster_mem (s : State) (d k : Nat) : (s.freeCluster d k).mem = s.mem := by
  unfold State.freeCluster
  extract_lets t
  exact (State.setCluster_mem ..).trans (foldl_mem _ _ _ fun c t => State.setCore_mem ..)

@[simp] theorem State.untag_mem (s : State) (d : Nat) (ks : List Nat) : (s.untag d ks).mem = s.mem := by simp [State.untag]

@[simp] theorem State.finishKernel_mem (s : State) (kn : KernelSt) (st : Status) : (s.finishKernel kn st).mem = s.mem := by
  simp only [State.finishKernel]
  (repeat' split) <;> simp

@[simp] theorem State.kernelComplete_mem (s : State) (d q : Nat) : (s.kernelComplete d q).mem = s.mem := by
  unfold State.kernelComplete
  split <;> simp

@[simp] theorem State.drainCluster_mem (s : State) (d k : Nat) : (s.drainCluster d k).mem = s.mem := by simp [State.drainCluster]
@[simp] theorem State.clusterGate_mem (s : State) (d k : Nat) : (s.clusterGate d k).mem = s.mem := by simp [State.clusterGate]
@[simp] theorem State.clusterUngate_mem (s : State) (d k : Nat) : (s.clusterUngate d k).mem = s.mem := by simp [State.clusterUngate]

/-! ## Pools and pages -/

@[simp] theorem State.pteRead_mem (s : State) (h : Nat) (cls : ReqClass) (cas pt n : Nat) : (s.pteRead h cls cas pt n).1.mem = s.mem := by
  simp only [State.pteRead]
  (repeat' split) <;> simp

@[simp] theorem State.ptcDrop_mem (s : State) (line : Nat) : (s.ptcDrop line).mem = s.mem := by simp [State.ptcDrop]

@[simp] theorem State.poolInit_mem (s : State) (q : QueueId) (c : Cmd) : (s.poolInit q c).mem = s.mem := by simp [State.poolInit]
@[simp] theorem State.sendPacket_mem (s : State) (h : Nat) (p : Packet) : (s.sendPacket h p).mem = s.mem := by simp [State.sendPacket]
@[simp] theorem State.sendFetch_mem (s : State) (x : PoolSt) (c : CopySt) : (s.sendFetch x c).mem = s.mem := by simp [State.sendFetch]

@[simp] theorem State.noteCmd_mem (s : State) (q : QueueId) (idx : Nat) (st : Status) : (s.noteCmd q idx st).mem = s.mem := by
  unfold State.noteCmd
  split <;> simp

@[simp] theorem State.stepCmd_mem (s : State) (q : QueueId) (idx : Nat) (handled : Bool) : (s.stepCmd q idx handled).mem = s.mem := by
  unfold State.stepCmd
  split <;> simp

@[simp] theorem State.readPage_mem (s : State) (v : Via) (a n : Nat) : (s.readPage v a n).1.mem = s.mem := by
  induction n with
  | zero => rfl
  | succ n ih => simp [State.readPage, ih]

@[simp] theorem State.pgFinish_mem (s : State) (q : QueueId) (c : Cmd) : (s.pgFinish q c).mem = s.mem := by simp [State.pgFinish]

@[simp] theorem State.allUnused_mem (s : State) (q : QueueId) (c : Cmd) (n : Nat) : (s.allUnused q c n).1.mem = s.mem := by
  induction n with
  | zero => rfl
  | succ n ih => simp [State.allUnused, ih]

@[simp] theorem State.runPtInval_mem (s : State) (q : QueueId) (c : Cmd) : (s.runPtInval q c).mem = s.mem := by simp [State.runPtInval]
@[simp] theorem State.answerDie_mem (s : State) (d : Nat) (m : AkRsp) : (s.answerDie d m).mem = s.mem := by simp [State.answerDie]

@[simp] theorem State.readPageBlock_mem (s : State) (d : Nat) (m : AkReq) (e : Pte) : (s.readPageBlock d m e).mem = s.mem := by
  simp only [State.readPageBlock]
  split <;> next ho => simp [mem_of_pair ho (State.offer_mem ..)]

@[simp] theorem State.endReads_mem (s : State) (pt n : Nat) (st : Status) : (s.endReads pt n st).mem = s.mem := by simp [State.endReads]
@[simp] theorem State.dropCopy_mem (s : State) (c : CopySt) : (s.dropCopy c).mem = s.mem := by simp [State.dropCopy]

@[simp] theorem State.pageHandled_mem (s : State) (c : CopySt) : (s.pageHandled c).mem = s.mem := by
  unfold State.pageHandled
  (repeat' split) <;> simp

@[simp] theorem State.prefetchWindow_mem (s : State) (h pt n : Nat) : (s.prefetchWindow h pt n).mem = s.mem := by simp [State.prefetchWindow]

/-! ## Expanders -/

@[simp] theorem State.expLoadNow_mem (s : State) (q : QueueId) (c : Cmd) : (s.expLoadNow q c).mem = s.mem := by simp [State.expLoadNow]
@[simp] theorem State.expBindNow_mem (s : State) (q : QueueId) (c : Cmd) : (s.expBindNow q c).mem = s.mem := by simp [State.expBindNow]

@[simp] theorem State.expGo_mem (s : State) (q : QueueId) (c : Cmd) : (s.expGo q c).mem = s.mem := by
  unfold State.expGo
  split <;> simp

@[simp] theorem State.kickCores_mem (s : State) (d : Nat) : (s.kickCores d).mem = s.mem := by simp [State.kickCores]
@[simp] theorem State.expWake_mem (s : State) (d : Nat) : (s.expWake d).mem = s.mem := by simp [State.expWake]
@[simp] theorem State.runExp_mem (s : State) (q : QueueId) (c : Cmd) : (s.runExp q c).mem = s.mem := by simp [State.runExp]
@[simp] theorem State.fetchLatents_mem (s : State) (d e : Nat) (r : TileReq) : (s.fetchLatents d e r).mem = s.mem := by simp [State.fetchLatents]

@[simp] theorem State.expKick_mem (s : State) (d e : Nat) : (s.expKick d e).mem = s.mem := by
  simp only [State.expKick]
  (repeat' split) <;> simp

@[simp] theorem State.tileDone_mem (s : State) (d e : Nat) : (s.tileDone d e).mem = s.mem := by
  simp only [State.tileDone]
  (repeat' split) <;> simp

@[simp] theorem State.expAnswer_mem (s : State) (d e : Nat) (m : AkRsp) : (s.expAnswer d e m).mem = s.mem := by
  simp only [State.expAnswer]
  (repeat' split) <;> simp

@[simp] theorem State.freeExpander_mem (s : State) (key : Nat) (st : Status) : (s.freeExpander key st).mem = s.mem := by simp [State.freeExpander]
@[simp] theorem State.freeExpanders_mem (s : State) (who : ExpSt → Bool) (st : Status) : (s.freeExpanders who st).mem = s.mem := by simp [State.freeExpanders]
@[simp] theorem State.expKickAll_mem (s : State) (d : Nat) : (s.expKickAll d).mem = s.mem := by simp [State.expKickAll]

/-! ## The fabric and collectives -/

@[simp] theorem State.setPort4_mem (s : State) (h j : Nat) (x : TrwSt) : (s.setPort4 h j x).mem = s.mem := by simp [State.setPort4]
@[simp] theorem State.portTrained_mem (s : State) (h j : Nat) (lanes8 : Bool) : (s.portTrained h j lanes8).mem = s.mem := by simp [State.portTrained]
@[simp] theorem State.portFailed_mem (s : State) (h j silent : Nat) : (s.portFailed h j silent).mem = s.mem := by simp [State.portFailed]
@[simp] theorem State.portRetry_mem (s : State) (h j : Nat) : (s.portRetry h j).mem = s.mem := by simp [State.portRetry]
@[simp] theorem State.portFlitRetry_mem (s : State) (h j : Nat) (ok : Bool) : (s.portFlitRetry h j ok).mem = s.mem := by simp [State.portFlitRetry]
@[simp] theorem State.portCtrl_mem (s : State) (h j : Nat) : (s.portCtrl h j).mem = s.mem := by simp [State.portCtrl]
@[simp] theorem State.dropPacket_mem (s : State) (h : Nat) (p : Packet) (counted : Bool) : (s.dropPacket h p counted).mem = s.mem := by simp [State.dropPacket]

@[simp] theorem State.route_mem (s : State) (h : Nat) (p : Packet) : (s.route h p).mem = s.mem := by
  simp only [State.route]
  (repeat' split) <;> simp

@[simp] theorem State.taken_mem (s : State) (h : Nat) (p : Packet) : (s.taken h p).mem = s.mem := by simp [State.taken]

@[simp] theorem State.fabricRequest_mem (s : State) (h j : Nat) (p : Packet) : (s.fabricRequest h j p).mem = s.mem := by
  simp only [State.fabricRequest]
  split
  · rfl
  · split
    · simp
    · split
      · simp
      · split
        · simp
        · split
          · rfl
          · split <;> next ho => simp [mem_of_pair ho (State.offer_mem ..)]

@[simp] theorem State.fabricAnswer_mem (s : State) (h node tag : Nat) (a : Answer) : (s.fabricAnswer h node tag a).mem = s.mem := by simp [State.fabricAnswer]
@[simp] theorem State.sweepColls_mem (s : State) : s.sweepColls.mem = s.mem := by simp [State.sweepColls]
@[simp] theorem State.endColl_mem (s : State) (q : QueueId) (idx : Nat) (st : Status) : (s.endColl q idx st).mem = s.mem := by simp [State.endColl]

theorem collSend_mem {s t : State} {c : Cmd} {x : CollSt} (h : s.collSend c x = some t) : t.mem = s.mem := by
  simp only [State.collSend, Option.ite_none_left_eq_some] at h
  obtain ⟨-, h⟩ := h
  by_cases hop : c.opcode = 0x46
  · rw [if_pos hop] at h
    rw [← Option.some.inj h]
    simp
  · rw [if_neg hop, Option.ite_none_left_eq_some] at h
    obtain ⟨-, h⟩ := h
    rw [← apply_ite some] at h
    rw [← Option.some.inj h]
    simp

@[simp] theorem State.sendAll_mem (s : State) (q : QueueId) (idx n : Nat) : (s.sendAll q idx n).mem = s.mem := by
  induction n generalizing s with
  | zero => rfl
  | succ n ih =>
    unfold State.sendAll
    split
    · split
      · next ht => exact (ih _).trans (collSend_mem ht)
      · rfl
    · rfl

@[simp] theorem State.rotateReady_mem (s : State) (c : Cmd) (x : CollSt) : (s.rotateReady c x).mem = s.mem := by simp [State.rotateReady]

@[simp] theorem State.collDone_mem (s : State) (q : QueueId) (idx : Nat) : (s.collDone q idx).mem = s.mem := by
  unfold State.collDone
  split <;> simp

@[simp] theorem State.collPump_mem (s : State) (q : QueueId) (idx : Nat) : (s.collPump q idx).mem = s.mem := by
  simp only [State.collPump]
  (repeat' split) <;> simp

@[simp] theorem State.sendNotice_mem (s : State) (x : CollSt) (dest tier reason : Nat) (back : Bool) : (s.sendNotice x dest tier reason back).mem = s.mem := by
  simp [State.sendNotice]

@[simp] theorem State.emitNotice_mem (s : State) (x : CollSt) (tier reason : Nat) : (s.emitNotice x tier reason).mem = s.mem := by
  unfold State.emitNotice
  split <;> simp

@[simp] theorem State.emitNotices_mem (s : State) (tier reason : Nat) : (s.emitNotices tier reason).mem = s.mem := by simp [State.emitNotices]
@[simp] theorem State.stallCheck_mem (s old : State) : (s.stallCheck old).mem = s.mem := by simp [State.stallCheck]
@[simp] theorem State.forwardNotice_mem (s : State) (c : Cmd) (h : Nat) (p : Packet) : (s.forwardNotice c h p).mem = s.mem := by simp [State.forwardNotice]

@[simp] theorem State.stallPacket_mem (s : State) (h : Nat) (p : Packet) : (s.stallPacket h p).mem = s.mem := by
  simp only [State.stallPacket]
  (repeat' split) <;> simp

@[simp] theorem State.forwardKept_mem (s : State) (q : QueueId) (c : Cmd) : (s.forwardKept q c).mem = s.mem := by simp [State.forwardKept]

@[simp] theorem State.putPump1_mem (s : State) (q : QueueId) (idx : Nat) : (s.putPump1 q idx).mem = s.mem := by
  unfold State.putPump1
  split
  · rfl
  · dsimp only
    split
    · split <;> next ho => simp [mem_of_pair ho (State.offer_mem ..)]
    · rfl

@[simp] theorem State.putPumpN_mem (s : State) (q : QueueId) (idx n : Nat) : (s.putPumpN q idx n).mem = s.mem := by
  induction n generalizing s with
  | zero => rfl
  | succ n ih => simp [State.putPumpN, ih]

@[simp] theorem State.putGo_mem (s : State) (q : QueueId) (idx : Nat) : (s.putGo q idx).mem = s.mem := by
  unfold State.putGo
  split <;> simp

@[simp] theorem State.runPut_mem (s : State) (q : QueueId) (c : Cmd) : (s.runPut q c).mem = s.mem := by simp [State.runPut]

@[simp] theorem State.putRead_mem (s : State) (q : QueueId) (idx k : Nat) (st : Status) (data : Block) : (s.putRead q idx k st data).mem = s.mem := by
  unfold State.putRead
  split <;> simp

@[simp] theorem State.putAck_mem (s : State) (q : QueueId) (c : Cmd) (st : Status) : (s.putAck q c st).mem = s.mem := by simp [State.putAck]
@[simp] theorem State.collDeadline_mem (s : State) (q : QueueId) : (s.collDeadline q).mem = s.mem := by simp [State.collDeadline]

end Sys2Proof.Machine
end

section
/-! SUPPORT. The contents of the stacks through the supply and bring-up, and under the host and the Aksal links: what writes none (R118). -/

namespace Sys2Proof.Machine

/-! ## The supply -/

@[simp] theorem State.busSample_mem (s : State) (v : Nat) : (s.busSample v).mem = s.mem := by simp [State.busSample]
@[simp] theorem State.powerRecord_mem (s : State) (e : Nat) : (s.powerRecord e).mem = s.mem := by simp [State.powerRecord]
@[simp] theorem State.pf1Assert_mem (s : State) : s.pf1Assert.mem = s.mem := by simp [State.pf1Assert]
@[simp] theorem State.pf1Clear_mem (s : State) : s.pf1Clear.mem = s.mem := by simp [State.pf1Clear]
@[simp] theorem State.dropReads_mem (s : State) : s.dropReads.mem = s.mem := by simp [State.dropReads]
@[simp] theorem State.startDrain_mem (s : State) : s.startDrain.mem = s.mem := by simp [State.startDrain]
@[simp] theorem State.startColdNext_mem (s : State) : s.startColdNext.mem = s.mem := by simp [State.startColdNext]
@[simp] theorem State.startPf2_mem (s : State) (cause : Nat) : (s.startPf2 cause).mem = s.mem := by simp [State.startPf2]
@[simp] theorem State.pf2Assert_mem (s : State) : s.pf2Assert.mem = s.mem := by simp [State.pf2Assert]
@[simp] theorem State.pfN_mem (s : State) (lowNs : Nat) : (s.pfN lowNs).mem = s.mem := by simp [State.pfN]
@[simp] theorem State.brownout_mem (s : State) : s.brownout.mem = s.mem := by simp [State.brownout]
@[simp] theorem State.surge_mem (s : State) : s.surge.mem = s.mem := by simp [State.surge]
@[simp] theorem State.loseWrite_mem (s : State) (h : Nat) (r : Req) : (s.loseWrite h r).mem = s.mem := by simp [State.loseWrite]

@[simp] theorem State.loseWrites_mem (s : State) (h p : Nat) : (s.loseWrites h p).mem = s.mem := by
  unfold State.loseWrites
  split <;> simp

@[simp] theorem State.writeDrainEnd_mem (s : State) (h p : Nat) : (s.writeDrainEnd h p).mem = s.mem := by
  unfold State.writeDrainEnd
  split <;> simp

@[simp] theorem State.keepReq_mem (s : State) : s.keepReq.mem = s.mem := by simp [State.keepReq]
@[simp] theorem State.slewEstimate_mem (s : State) (deciAmp : Nat) : (s.slewEstimate deciAmp).mem = s.mem := by simp [State.slewEstimate]
@[simp] theorem State.thermTrip_mem (s : State) (d : Nat) : (s.thermTrip d).mem = s.mem := by simp [State.thermTrip]

/-! ## Resets and bring-up -/

@[simp] theorem State.setPhase_mem (s : State) (n : Nat) : (s.setPhase n).mem = s.mem := by simp [State.setPhase]

@[simp] theorem State.kaPg_mem (s : State) : s.kaPg.mem = s.mem := by simp [State.kaPg]
@[simp] theorem State.pwrGood_mem (s : State) : s.pwrGood.mem = s.mem := by simp [State.pwrGood]
@[simp] theorem State.pwrGoodLoss_mem (s : State) : s.pwrGoodLoss.mem = s.mem := by simp [State.pwrGoodLoss]
@[simp] theorem State.unlock_mem (s : State) (hp : Nat) : (s.unlock hp).mem = s.mem := by simp [State.unlock]
@[simp] theorem State.pllLock_mem (s : State) (d : Nat) : (s.pllLock d).mem = s.mem := by simp [State.pllLock]
@[simp] theorem State.dropAligned_mem (s : State) : s.dropAligned.mem = s.mem := by simp [State.dropAligned]
@[simp] theorem State.refLoss_mem (s : State) (silentNs : Nat) : (s.refLoss silentNs).mem = s.mem := by simp [State.refLoss]
@[simp] theorem State.refReturn_mem (s : State) : s.refReturn.mem = s.mem := by simp [State.refReturn]
@[simp] theorem State.markStale_mem (s : State) : s.markStale.mem = s.mem := by simp [State.markStale]
@[simp] theorem State.readFlash_mem (s : State) (c : FlashPart) : (s.readFlash c).mem = s.mem := by simp [State.readFlash]

@[simp] theorem State.pcieReadiness_mem (s : State) : s.pcieReadiness.mem = s.mem := by simp [State.pcieReadiness]

@[simp] theorem State.identifyAgain_mem (s : State) (h st : Nat) (x : StackId) : (s.identifyAgain h st x).mem = s.mem := by simp [State.identifyAgain]

@[simp] theorem State.relock_mem (s : State) : s.relock.mem = s.mem := by simp [State.relock]

@[simp] theorem State.applyRecords_mem (s : State) (refused : List (Nat × Nat)) (l : List (Nat × Nat × FuseRec)) : (s.applyRecords refused l).1.mem = s.mem := by
  induction l generalizing s with
  | nil => rfl
  | cons x t ih =>
    unfold State.applyRecords
    split <;> simp [ih]

@[simp] theorem State.repairLanes_mem (s : State) (h p : Nat) (l : List Nat) : (s.repairLanes h p l).1.mem = s.mem := by
  induction l generalizing s with
  | nil => rfl
  | cons x t ih =>
    unfold State.repairLanes
    split <;> simp [ih]

@[simp] theorem State.linkStart_mem (s : State) (d : Nat) : (s.linkStart d).mem = s.mem := by simp [State.linkStart]
@[simp] theorem State.aksalLinkUp_mem (s : State) : s.aksalLinkUp.mem = s.mem := by simp [State.aksalLinkUp]
@[simp] theorem State.clearDie_mem (s : State) (d : Nat) : (s.clearDie d).mem = s.mem := by simp [State.clearDie]

@[simp] theorem State.enginesSet_mem (s : State) : s.enginesSet.mem = s.mem := by simp [State.enginesSet]
@[simp] theorem State.resumeQueues_mem (s : State) : s.resumeQueues.mem = s.mem := by simp [State.resumeQueues]
@[simp] theorem State.capAtReady_mem (s : State) : s.capAtReady.mem = s.mem := by simp [State.capAtReady]
@[simp] theorem State.ready_mem (s : State) : s.ready.mem = s.mem := by simp [State.ready]
@[simp] theorem State.warmClear_mem (s : State) : s.warmClear.mem = s.mem := by simp [State.warmClear]
@[simp] theorem State.warmBringup_mem (s : State) : s.warmBringup.mem = s.mem := by simp [State.warmBringup]

@[simp] theorem State.reapply_mem (s : State) (latched : List (Nat × Word)) : (s.reapply latched).mem = s.mem := by simp [State.reapply]

@[simp] theorem State.restoreCmd_mem (s : State) (q : QueueId) (c : Cmd) : (s.restoreCmd q c).mem = s.mem := by simp [State.restoreCmd]

/-! ## Time over the fabric -/

@[simp] theorem State.timeExchange_mem (s : State) : s.timeExchange.mem = s.mem := by
  unfold State.timeExchange
  (repeat' split) <;> simp

@[simp] theorem State.measured_mem (s : State) (off : Int) : (s.measured off).mem = s.mem := by simp [State.measured]
@[simp] theorem State.timePacket_mem (s : State) (p : Packet) : (s.timePacket p).mem = s.mem := by simp [State.timePacket]

/-! ## Counters, samples and trace records -/

@[simp] theorem State.accErr_mem (s : State) (a : Access) (write : Bool) (reason : Nat) : (s.accErr a write reason).mem = s.mem := by simp [State.accErr]

/-- The write of a register leaves the stacks as its result has them; a refused one leaves them as they were. -/
@[simp] theorem State.settleWrite_mem (s : State) (a : Access) (r : WriteResult) (h : r.Leaves fun t => t.mem = s.mem) : (s.settleWrite a r).mem = s.mem := by
  cases r with
  | inl t => exact h
  | inr n => simp [State.settleWrite]

@[simp] theorem State.freeSlot_mem (s : State) (f k : Nat) : (s.freeSlot f k).mem = s.mem := by
  unfold State.freeSlot
  split <;> simp

@[simp] theorem State.setCounter_mem (s : State) (bank n c v : Nat) : (s.setCounter bank n c v).mem = s.mem := by simp [State.setCounter]

@[simp] theorem State.fnCntCfg_mem (s : State) (f k v : Nat) : (s.fnCntCfg f k v).Leaves fun t => t.mem = s.mem := by
  simp only [State.fnCntCfg]
  (repeat' split) <;> simp

@[simp] theorem State.freeSlots_mem (s : State) (f : Nat) : (s.freeSlots f).mem = s.mem := by simp [State.freeSlots]
@[simp] theorem State.readCounter_mem (s : State) (bank : Nat) : (s.readCounter bank).mem = s.mem := by simp [State.readCounter]
@[simp] theorem State.freezeAt_mem (s : State) (bank v : Nat) : (s.freezeAt bank v).mem = s.mem := by simp [State.freezeAt]
@[simp] theorem State.freeze_mem (s : State) (bank : Nat) : (s.freeze bank).mem = s.mem := by simp [State.freeze]
@[simp] theorem State.thaw_mem (s : State) (bank : Nat) : (s.thaw bank).mem = s.mem := by simp [State.thaw]

@[simp] theorem State.startSampler_mem (s : State) (k seed period jitter : Nat) : (s.startSampler k seed period jitter).mem = s.mem := by
  simp [State.startSampler]

@[simp] theorem State.smpCtrl_mem (s : State) (h en cas size : Nat) : (s.smpCtrl h en cas size).Leaves fun t => t.mem = s.mem := by
  simp only [State.smpCtrl]
  (repeat' split) <;> simp

@[simp] theorem State.cmpSmpCtrl_mem (s : State) (d en cas : Nat) : (s.cmpSmpCtrl d en cas).Leaves fun t => t.mem = s.mem := by
  simp only [State.cmpSmpCtrl]
  (repeat' split) <;> simp

theorem takeRecord_mem {s : State} {k : Nat} {r : SampleRec × State} (h : s.takeRecord k = some r) : r.2.mem = s.mem := by
  obtain ⟨x, -, rfl⟩ := Option.map_eq_some_iff.mp h
  rfl

@[simp] theorem State.forwardTrace_mem (s : State) (d : Nat) : (s.forwardTrace d).mem = s.mem := by simp [State.forwardTrace]

@[simp] theorem State.trcCtrl_mem (s : State) (h v : Nat) : (s.trcCtrl h v).Leaves fun t => t.mem = s.mem := by
  simp only [State.trcCtrl]
  (repeat' split) <;> simp

@[simp] theorem State.stopRecorders_mem (s : State) (c : Nat) : (s.stopRecorders c).mem = s.mem := by simp [State.stopRecorders]

/-! ## Casement resets -/

@[simp] theorem State.cutQueue_mem (s : State) (q : QueueId) : (s.cutQueue q).mem = s.mem := by simp [State.cutQueue]
@[simp] theorem State.dropWaits_mem (s : State) (q : QueueId) : (s.dropWaits q).mem = s.mem := by simp [State.dropWaits]
@[simp] theorem State.cutColls_mem (s : State) (q : QueueId) : (s.cutColls q).mem = s.mem := by simp [State.cutColls]
@[simp] theorem State.cutPgWaits_mem (s : State) (c : Nat) : (s.cutPgWaits c).mem = s.mem := by simp [State.cutPgWaits]
@[simp] theorem State.resetQueue_mem (s : State) (q : QueueId) : (s.resetQueue q).mem = s.mem := by simp [State.resetQueue]

@[simp] theorem State.resetVectors_mem (s : State) (c : Nat) : (s.resetVectors c).mem = s.mem := by
  unfold State.resetVectors
  split <;> simp

@[simp] theorem State.resetSync_mem (s : State) (c : Nat) : (s.resetSync c).mem = s.mem := by simp [State.resetSync]
@[simp] theorem State.casWaiters_mem (s : State) (c : Nat) : (s.casWaiters c).mem = s.mem := by simp [State.casWaiters]

@[simp] theorem State.resetFn_mem (s : State) (f : Nat) : (s.resetFn f).mem = s.mem := by simp [State.resetFn]

/-! ## The host -/

@[simp] theorem State.release_mem (s : State) (f : Nat) : (s.release f).mem = s.mem :=
  foldl_mem _ _ _ fun v t => by dsimp only; split <;> simp

@[simp] theorem State.msixUnmask_mem (s : State) (f v : Nat) : (s.msixUnmask f v).mem = s.mem := by
  unfold State.msixUnmask
  split <;> simp

theorem hostSend_mem {s : State} {r : Req} {x : State × Bool} (h : s.hostSend r = some x) : x.1.mem = s.mem := by
  simp only [State.hostSend] at h
  split at h
  · exact absurd h (by simp)
  · split at h
    · rw [← Option.some.inj h]
      simp
    · split at h
      · rw [← Option.some.inj h]
        simp
      · exact absurd h (by simp)

@[simp] theorem State.refusedAt_mem (s : State) (f : Nat) : (s.refusedAt f).mem = s.mem := by simp [State.refusedAt]

theorem sendParts_mem {s : State} {f no k : Nat} {l : List (Nat × Nat)} {x : State × List (Nat × Block × Bool × Bool)}
    (h : s.sendParts f no k l = some x) : x.1.mem = s.mem := by
  induction l generalizing s k x with
  | nil => rw [← Option.some.inj h]
  | cons y t ih =>
    unfold State.sendParts at h
    split at h
    · exact absurd h (by simp)
    · next u refused hu =>
      split at h
      · exact absurd h (by simp)
      · next v r hv =>
        rw [← Option.some.inj h]
        exact (ih hv).trans (hostSend_mem hu)

@[simp] theorem State.hostFinish_mem (s : State) (x : HostRd) : (s.hostFinish x).mem = s.mem := by simp [State.hostFinish]

@[simp] theorem State.hostTry_mem (s : State) (x : HostRd) : (s.hostTry x).mem = s.mem := by
  unfold State.hostTry
  split
  · simp
  · split
    · split
      · rfl
      · next t l ht =>
        have hmem : t.mem = s.mem := sendParts_mem ht
        simp [hmem]
    · rfl

theorem writeParts_mem {s : State} {f no k : Nat} {data : List Byte} {l : List (Nat × Nat)} {x : State × Bool}
    (h : s.writeParts f no data k l = some x) : x.1.mem = s.mem := by
  induction l generalizing s data k x with
  | nil => rw [← Option.some.inj h]
  | cons y t ih =>
    unfold State.writeParts at h
    split at h
    · exact absurd h (by simp)
    · next u refused hu =>
      split at h
      · exact absurd h (by simp)
      · next v r hv =>
        rw [← Option.some.inj h]
        exact (ih hv).trans (hostSend_mem hu)

@[simp] theorem State.hostPush_mem (s : State) (x : HostWr) : (s.hostPush x).mem = s.mem := by
  simp only [State.hostPush]
  split
  · simp
  · split
    · split
      · rfl
      · next u refused hu =>
        have hmem : u.mem = s.mem := writeParts_mem hu
        simp [hmem]
    · rfl

@[simp] theorem State.hostPump_mem (s : State) : s.hostPump.mem = s.mem := by simp [State.hostPump]
@[simp] theorem State.takeNo_mem (s : State) (f : Nat) : (s.takeNo f).mem = s.mem := by simp [State.takeNo]

@[simp] theorem State.bar2Read_mem (s : State) (f : FnNo) (off len : Nat) : (s.bar2Read f off len).mem = s.mem := by
  unfold State.bar2Read
  split <;> simp

@[simp] theorem State.bar2Write_mem (s : State) (f : FnNo) (off : Nat) (data : List Byte) : (s.bar2Write f off data).mem = s.mem := by
  unfold State.bar2Write
  split <;> simp

@[simp] theorem State.hostAnswer_mem (s : State) (f no k : Nat) (a : Answer) : (s.hostAnswer f no k a).mem = s.mem := by
  simp only [State.hostAnswer]
  (repeat' split) <;> simp

@[simp] theorem State.hostCut_mem (s : State) : s.hostCut.mem = s.mem := by simp [State.hostCut]

/-! ## The Aksal links -/

@[simp] theorem State.takeTx_mem (s : State) (d : Nat) (m : AkReq) : (s.takeTx d m).mem = s.mem := by simp [State.takeTx]

@[simp] theorem State.dieAccess_mem (s : State) (d : Nat) (m : AkReq) (write sector : Bool) : (s.dieAccess d m write sector).mem = s.mem := by
  simp only [State.dieAccess]
  split
  · split
    · simp
    · split
      · simp
      · split
        · split <;> simp
        · split <;> next ho => simp [mem_of_pair ho (State.offer_mem ..)]
  · rfl

@[simp] theorem State.dieAnswer_mem (s : State) (d srcTag tag : Nat) (a : Answer) : (s.dieAnswer d srcTag tag a).mem = s.mem := by simp [State.dieAnswer]
@[simp] theorem State.dieResponse_mem (s : State) (d : Nat) (m : AkRsp) : (s.dieResponse d m).mem = s.mem := by simp [State.dieResponse]
@[simp] theorem State.haltCore_mem (s : State) (p : CorePos) : (s.haltCore p).mem = s.mem := by simp [State.haltCore]
@[simp] theorem State.haltExp_mem (s : State) (d e : Nat) : (s.haltExp d e).mem = s.mem := by simp [State.haltExp]
@[simp] theorem State.dieHalted_mem (s : State) (d : Nat) : (s.dieHalted d).mem = s.mem := by simp [State.dieHalted]
@[simp] theorem State.stopDie_mem (s : State) (d : Nat) : (s.stopDie d).mem = s.mem := by simp [State.stopDie]
@[simp] theorem State.closeDoor0_mem (s : State) (d : Nat) : (s.closeDoor0 d).mem = s.mem := by simp [State.closeDoor0]
@[simp] theorem State.setLinkState_mem (s : State) (d st : Nat) : (s.setLinkState d st).mem = s.mem := by simp [State.setLinkState]
@[simp] theorem State.aksalLost_mem (s : State) (d : Nat) : (s.aksalLost d).mem = s.mem := by simp [State.aksalLost]

@[simp] theorem State.flitError_mem (s : State) (d : Nat) (h2c : Bool) (n : Nat) (crcBad : Bool) (seq : Nat) : (s.flitError d h2c n crcBad seq).mem = s.mem := by
  simp [State.flitError]

@[simp] theorem State.nak_mem (s : State) (d : Nat) (h2c : Bool) (n seq : Nat) : (s.nak d h2c n seq).mem = s.mem := by simp [State.nak]

@[simp] theorem State.nakResend_mem (s : State) (d : Nat) (h2c : Bool) (n : Nat) : (s.nakResend d h2c n).mem = s.mem := by
  simp only [State.nakResend]
  (repeat' split) <;> simp

@[simp] theorem State.aksalDown_mem (s : State) (d : Nat) : (s.aksalDown d).mem = s.mem := by simp [State.aksalDown]
@[simp] theorem State.freshSlices_mem (s : State) (d : Nat) : (s.freshSlices d).mem = s.mem := by simp [State.freshSlices]

theorem mapSpares_mem {s t : State} {d : Nat} {h2c : Bool} {spares : List (Fin 24 × List Nat)} (h : s.mapSpares d h2c spares = .inl t) : t.mem = s.mem := by
  simp only [State.mapSpares] at h
  split at h
  · exact absurd h (by simp)
  · rw [← Sum.inl.inj h]
    simp

@[simp] theorem State.trainNext_mem (s : State) (d : Nat) : (s.trainNext d).mem = s.mem := by simp [State.trainNext]

@[simp] theorem State.sideUp_mem (s : State) (d : Nat) : (s.sideUp d).mem = s.mem := by simp [State.sideUp]
@[simp] theorem State.doorMask_mem (s : State) (h d : Nat) : (s.doorMask h d).mem = s.mem := by simp [State.doorMask]
@[simp] theorem State.doorUnmask_mem (s : State) (h d : Nat) : (s.doorUnmask h d).mem = s.mem := by simp [State.doorUnmask]

end Sys2Proof.Machine
end

section
/-! SUPPORT. The contents of the stacks at the end of a step, in the clocks and under register accesses: what writes none (R118). -/

namespace Sys2Proof.Machine

/-! ## The end of a step -/

@[simp] theorem State.cmdAnswer_mem (s : State) (q : QueueId) (idx part : Nat) (a : Answer) : (s.cmdAnswer q idx part a).mem = s.mem := by
  unfold State.cmdAnswer
  split <;> simp

@[simp] theorem State.deliver_mem (s : State) (a : Answer) : (s.deliver a).mem = s.mem := by
  unfold State.deliver
  (repeat' split) <;> simp

@[simp] theorem State.deliverAll_mem (s : State) (l : List Answer) : (s.deliverAll l).mem = s.mem := by
  induction l generalizing s with
  | nil => rfl
  | cons a t ih => simp [State.deliverAll, ih]

@[simp] theorem State.cutTraining_mem (s : State) (h p : Nat) : (s.cutTraining h p).mem = s.mem := by simp [State.cutTraining]

@[simp] theorem State.timeoutRepair_mem (s : State) (q : QueueId) (idx : Nat) : (s.timeoutRepair q idx).mem = s.mem := by
  unfold State.timeoutRepair
  (repeat' split) <;> simp

/-! ## The clocks -/

@[simp] theorem State.countCclk_mem (s : State) : s.countCclk.mem = s.mem := by simp [State.countCclk]
@[simp] theorem State.countStall_mem (s : State) (key : Nat) (x : CoreSt) : (s.countStall key x).mem = s.mem := by simp [State.countStall]
@[simp] theorem State.countKclk_mem (s : State) : s.countKclk.mem = s.mem := by simp [State.countKclk]
@[simp] theorem State.countTick_mem (s : State) : s.countTick.mem = s.mem := by simp [State.countTick]
@[simp] theorem State.timeTick_mem (s : State) : s.timeTick.mem = s.mem := by simp [State.timeTick]
@[simp] theorem State.cclkEdge_mem (s : State) : s.cclkEdge.mem = s.mem := by simp [State.cclkEdge]
@[simp] theorem State.hingeTick_mem (s : State) : s.hingeTick.mem = s.mem := by simp [State.hingeTick]
@[simp] theorem State.tick_mem (s : State) : s.tick.mem = s.mem := by simp [State.tick]

/-! ## Register accesses -/

@[simp] theorem State.unlatch_mem (s : State) (a : RegAt) : (s.unlatch a).mem = s.mem := by simp [State.unlatch]

@[simp] theorem State.noteCount_mem (s : State) (a : RegAt) : (s.noteCount a).mem = s.mem := by
  unfold State.noteCount
  split <;> simp

@[simp] theorem State.readReg_mem (s : State) (a : RegAt) (p : Part) : (s.readReg a p).1.mem = s.mem := by
  unfold State.readReg
  (repeat' split) <;> simp

@[simp] theorem State.answered_mem (s : State) (a : Access) (v : Nat) : (s.answered a v).mem = s.mem := by simp [State.answered]
@[simp] theorem State.readFault_mem (s : State) (a : Access) (reason : Nat) : (s.readFault a reason).mem = s.mem := by simp [State.readFault]

@[simp] theorem State.readNow_mem (s : State) (a : Access) : (s.readNow a).mem = s.mem := by
  unfold State.readNow
  split <;> simp

@[simp] theorem State.regRead_mem (s : State) (a : Access) : (s.regRead a).mem = s.mem := by
  unfold State.regRead
  split <;> simp

@[simp] theorem State.setField_mem (s : State) (k : Nat × Nat × Nat) (p : Part) (img v : Nat) (r : FieldRow) : (s.setField k p img v r).mem = s.mem := by
  unfold State.setField
  split <;> simp

@[simp] theorem State.setFields_mem (s : State) (a : RegAt) (p : Part) (v : Nat) : (s.setFields a p v).mem = s.mem := by simp [State.setFields]

@[simp] theorem State.writeImgCtrl_mem (s : State) (n : Nat) : (s.writeImgCtrl n).Leaves fun t => t.mem = s.mem := by
  simp only [State.writeImgCtrl]
  (repeat' split) <;> simp

@[simp] theorem State.writeLayoutCtrl_mem (s : State) (a : RegAt) (n : Nat) : (s.writeLayoutCtrl a n).Leaves fun t => t.mem = s.mem := by
  simp only [State.writeLayoutCtrl]
  (repeat' split) <;> simp

@[simp] theorem State.writeHingeCtrl_mem (s : State) (a : RegAt) (n : Nat) : (s.writeHingeCtrl a n).mem = s.mem := by simp [State.writeHingeCtrl]
@[simp] theorem State.writePwrCtrl_mem (s : State) (a : RegAt) (n : Nat) : (s.writePwrCtrl a n).mem = s.mem := by simp [State.writePwrCtrl]
@[simp] theorem State.writeDebug_mem (s : State) (h p : Nat) (halt : Bool) : (s.writeDebug h p halt).mem = s.mem := by simp [State.writeDebug]

@[simp] theorem State.writeDebugCmd_mem (s : State) (h p : Nat) (v : Word) : (s.writeDebugCmd h p v).Leaves fun t => t.mem = s.mem := by
  simp only [State.writeDebugCmd]
  (repeat' split) <;> simp

@[simp] theorem State.writeTrnCtrl_mem (s : State) (a : RegAt) (n : Nat) : (s.writeTrnCtrl a n).mem = s.mem := by simp [State.writeTrnCtrl]
@[simp] theorem State.writeTrim_mem (s : State) (h p n : Nat) : (s.writeTrim h p n).mem = s.mem := by simp [State.writeTrim]
@[simp] theorem State.writeXlate_mem (s : State) (a : RegAt) (p : Part) (v : Nat) : (s.writeXlate a p v).mem = s.mem := by simp [State.writeXlate]
@[simp] theorem State.writeDirect_mem (s : State) (a : RegAt) (n : Nat) : (s.writeDirect a n).mem = s.mem := by simp [State.writeDirect]
@[simp] theorem State.writeShiftBuf_mem (s : State) (h i n : Nat) : (s.writeShiftBuf h i n).mem = s.mem := by simp [State.writeShiftBuf]
@[simp] theorem State.writeRecov_mem (s : State) (i n : Nat) : (s.writeRecov i n).mem = s.mem := by simp [State.writeRecov]

@[simp] theorem State.writeSram_mem (s : State) (d w n : Nat) : (s.writeSram d w n).mem = s.mem := by
  unfold State.writeSram
  split <;> simp

@[simp] theorem State.writeQueueCtrl_mem (s : State) (a : RegAt) (n : Nat) : (s.writeQueueCtrl a n).mem = s.mem := by simp [State.writeQueueCtrl]

@[simp] theorem State.writeQueueCfg_mem (s : State) (a : RegAt) (p : Part) (v : Nat) : (s.writeQueueCfg a p v).Leaves fun t => t.mem = s.mem := by
  simp only [State.writeQueueCfg]
  (repeat' split) <;> simp

@[simp] theorem State.writeCntCfg_mem (s : State) (a : RegAt) (n : Nat) : (s.writeCntCfg a n).Leaves fun t => t.mem = s.mem := by
  simp only [State.writeCntCfg]
  (repeat' split) <;> simp

@[simp] theorem State.writeCcntCfg_mem (s : State) (a : RegAt) (n : Nat) : (s.writeCcntCfg a n).Leaves fun t => t.mem = s.mem := by
  simp only [State.writeCcntCfg]
  (repeat' split) <;> simp

@[simp] theorem State.writeAccErr_mem (s : State) (a : RegAt) (p : Part) (v : Nat) : (s.writeAccErr a p v).mem = s.mem := by simp [State.writeAccErr]

@[simp] theorem State.writeFnWin_mem (s : State) (f n : Nat) : (s.writeFnWin f n).Leaves fun t => t.mem = s.mem := by
  simp only [State.writeFnWin]
  (repeat' split) <;> simp

@[simp] theorem State.writeMsix_mem (s : State) (f vec k v : Nat) : (s.writeMsix f vec k v).mem = s.mem := by
  unfold State.writeMsix
  cases s.msixKey f vec with
  | none => rfl
  | some key =>
    rcases k with _ | _ | _ | k
    · exact State.setMsix_mem ..
    · exact State.setMsix_mem ..
    · exact State.setMsix_mem ..
    · exact (State.mem_ite ..).trans (by rw [State.setMsix_mem, State.msixUnmask_mem, ite_self])

@[simp] theorem State.halfRead_mem (s : State) (a : Access) : (s.halfRead a).mem = s.mem := by
  unfold State.halfRead
  split <;> simp

@[simp] theorem State.counterRead_mem (s : State) (a : Access) : (s.counterRead a).mem = s.mem := by
  unfold State.counterRead
  split <;> simp

@[simp] theorem State.gateWrite_mem (s : State) (a : Access) (here : Bool) (r : WriteResult) (h : r.Leaves fun t => t.mem = s.mem) :
    (s.gateWrite a here r).mem = s.mem := by
  unfold State.gateWrite
  split <;> simp [h]

/-! ## The phase step of a hinge -/

@[simp] theorem State.phaseSteps_mem (s : State) : s.phaseSteps.mem = s.mem := by simp [State.phaseSteps]

end Sys2Proof.Machine
end

section
/-! SUPPORT. The canonical form of the stacks' contents (R118, R244, log entry 9): every store is a put of the sparse table, every discard leaves nothing, and all else leaves the contents alone. -/

namespace Sys2Proof.Machine

/-- Canonical form (log entry 9), under a name of its own that simp does not take apart. -/
def Canonical (m : List Host.Cell) : Prop := Memory.wf m

@[simp] theorem canonical_ite (c : Prop) [Decidable c] (m n : List Host.Cell) : Canonical (if c then m else n) ↔ if c then Canonical m else Canonical n := by
  split <;> rfl

@[simp] theorem canonical_nil : Canonical [] := ⟨rfl, rfl⟩

/-- A function of the state that keeps the canonical form: what a loop asks of each round, and a command of its own work. -/
def KeepsCanonical (f : State → State) : Prop := ∀ s, Canonical s.mem → Canonical (f s).mem

@[simp] theorem keepsCanonical_iff (f : State → State) : KeepsCanonical f ↔ ∀ s, Canonical s.mem → Canonical (f s).mem := by rw [KeepsCanonical]

@[simp] theorem foldl_canonical {α : Type} (f : State → α → State) (l : List α) (s : State) (hf : ∀ x, KeepsCanonical (f · x)) (hm : Canonical s.mem) :
    Canonical (l.foldl f s).mem := by
  induction l generalizing s with
  | nil => exact hm
  | cons x t ih => exact ih _ (hf x s hm)

theorem foldl_fst_canonical {α β : Type} {f : State × β → α → State × β} (h : ∀ r x, Canonical r.1.mem → Canonical (f r x).1.mem) (l : List α) (r : State × β)
    (hm : Canonical r.1.mem) : Canonical (l.foldl f r).1.mem := by
  induction l generalizing r with
  | nil => exact hm
  | cons x t ih => exact ih _ (h r x hm)

/-! ## Stored-data protection -/

@[simp] theorem State.storeSector_canonical (s : State) (key : Nat) (data : BitVec 256) (h : Canonical s.mem) : Canonical (s.storeSector key data).mem :=
  State.storeSector_wf key data h

@[simp] theorem State.storePoison_canonical (s : State) (key : Nat) (h : Canonical s.mem) : Canonical (s.storePoison key).mem := State.storePoison_wf key h

/-! ## The pseudo-channel controller -/

@[simp] theorem State.writeSectorOf_canonical (s : State) (e : QEnt) (n : Nat) (hm : Canonical s.mem) :
    Canonical (s.writeSectorOf e n).mem := by simp [State.writeSectorOf, hm]

@[simp] theorem State.issue_canonical (s : State) (h p : Nat) (w : Wanted) (who : Issuer) (q : Option Ptr) (raw : Bool) (hm : Canonical s.mem) :
    Canonical (s.issue h p w who q raw).mem := by
  unfold State.issue
  dsimp only
  split
  case h_1 => split <;> simp [hm]
  case h_2 => split <;> simp [hm]
  case h_4 => split <;> simp [hm]
  case h_5 => split <;> simp [hm]
  all_goals simp [hm]

@[simp] theorem State.issuePtr_canonical (s : State) (h p : Nat) (q : Ptr) (w : Wanted) (who : Issuer) (hm : Canonical s.mem) :
    Canonical (s.issuePtr h p q w who).mem := by
  simp only [State.issuePtr]
  (repeat' split) <;> simp [hm]

@[simp] theorem State.issueDebug_canonical (s : State) (h p : Nat) (w : Wanted) (raw : Bool) (hm : Canonical s.mem) :
    Canonical (s.issueDebug h p w raw).mem := by simp [State.issueDebug, hm]

@[simp] theorem State.grantSlot_canonical (s : State) (h p : Nat) (column : Bool) (used : List Ptr) (hm : Canonical s.mem) :
    Canonical (s.grantSlot h p column used).1.mem := by
  simp only [State.grantSlot]
  (repeat' split) <;> simp [hm]

@[simp] theorem State.runPtr_canonical (s : State) (h p : Nat) (tbl : List Step) (n : Nat) (q : Ptr) (hm : Canonical s.mem) :
    Canonical (s.runPtr h p tbl n q).mem := by
  induction n generalizing s q with
  | zero => exact hm
  | succ n ih =>
    unfold State.runPtr
    split
    · simp [hm]
    · dsimp only
      split <;> simp [ih, hm]

@[simp] theorem State.runWide_canonical (s : State) (h p op : Nat) (hm : Canonical s.mem) : Canonical (s.runWide h p op).mem := by
  unfold State.runWide
  (repeat' split) <;> simp [hm]

@[simp] theorem State.runWides_canonical (s : State) (h p : Nat) (ops : List Nat) (hm : Canonical s.mem) :
    Canonical (s.runWides h p ops).mem := by simp +contextual [State.runWides, hm]

@[simp] theorem State.rewrite_canonical (s : State) (r : Req) (b : Burst) (x : Nat × SectorOutcome × BitVec 256) (hm : Canonical s.mem) :
    Canonical (s.rewrite r b x).mem := by
  unfold State.rewrite
  split <;> simp [hm]

@[simp] theorem State.readReturn_canonical (s : State) (h p : Nat) (errs : List BurstError) (sweep : Req → Bool) (hm : Canonical s.mem) :
    Canonical (s.readReturn h p errs sweep).mem := by
  unfold State.readReturn
  split <;> simp +contextual [hm]

/-! ## Refresh, disturbance and replay -/

@[simp] theorem State.replayClose_canonical (s : State) (h p : Nat) (r : ReplaySt) (hm : Canonical s.mem) : Canonical (s.replayClose h p r).mem := by
  unfold State.replayClose
  split <;> simp [hm]

@[simp] theorem State.replayRestore_canonical (s : State) (h p b row : Nat) (rest : List (Nat × Nat)) (r : ReplaySt) (hm : Canonical s.mem) :
    Canonical (s.replayRestore h p b row rest r).mem := by
  unfold State.replayRestore
  split <;> simp [hm]

@[simp] theorem State.reissue_canonical (s : State) (h p : Nat) (e : CmdEntry) (y : RetryEnt) (hm : Canonical s.mem) :
    Canonical (s.reissue h p e y).mem := by
  unfold State.reissue
  split <;> simp [hm]

@[simp] theorem State.replayNext_canonical (s : State) (h p : Nat) (y : RetryEnt) (rest : List RetryEnt) (r : ReplaySt) (hm : Canonical s.mem) :
    Canonical (s.replayNext h p y rest r).mem := by
  unfold State.replayNext
  split <;> simp [hm]

@[simp] theorem State.replayStep_canonical (s : State) (h p : Nat) (hm : Canonical s.mem) : Canonical (s.replayStep h p).mem := by
  simp only [State.replayStep]
  (repeat' split) <;> simp [hm]

@[simp] theorem State.slotGrant_canonical (s : State) (h p : Nat) (hm : Canonical s.mem) : Canonical (s.slotGrant h p).mem := by simp [State.slotGrant, hm]

/-! ## Signals, queues and traffic made in one step -/

@[simp] theorem State.pokeSector_canonical (s : State) (pl : Place) (data : BitVec 256) (m : BitVec 32) (hm : Canonical s.mem) :
    Canonical (s.pokeSector pl data m).1.mem := by
  unfold State.pokeSector
  (repeat' split) <;> simp [hm]

@[simp] theorem State.storeBytes_canonical (s : State) (v : Via) (addr : Nat) (data : BitVec 256) (m : BitVec 32) (bad first : Bool) (hm : Canonical s.mem) :
    Canonical (s.storeBytes v addr data m bad first).1.mem := by
  unfold State.storeBytes
  (repeat' split) <;> simp [hm]

@[simp] theorem State.storeBlockN_canonical (s : State) (v : Via) (addr : Nat) (data : Block) (marks : BitVec 8) (n : Nat) (hm : Canonical s.mem) :
    Canonical (s.storeBlockN v addr data marks n).1.mem := by
  induction n with
  | zero => exact hm
  | succ n ih => simp [State.storeBlockN, ih]

@[simp] theorem State.storeBlock_canonical (s : State) (v : Via) (addr : Nat) (data : Block) (marks : BitVec 8) (hm : Canonical s.mem) :
    Canonical (s.storeBlock v addr data marks).1.mem := by
  simp [State.storeBlock, hm]

/-! ## Ports, repairs and heat -/

@[simp] theorem State.poisonRow_canonical (s : State) (h p b row : Nat) (hm : Canonical s.mem) :
    Canonical (s.poisonRow h p b row).mem := by simp +contextual [State.poisonRow, hm]

@[simp] theorem State.repairDone_canonical (s : State) (r : RepairSt) (hm : Canonical s.mem) : Canonical (s.repairDone r).mem := by simp [State.repairDone, hm]

@[simp] theorem State.repairLast_canonical (s : State) (h st : Nat) (r : RepairSt) (hm : Canonical s.mem) : Canonical (s.repairLast h st r).mem := by
  unfold State.repairLast
  dsimp only
  split
  · split
    · simp [hm]
    · exact State.repairDone_canonical _ r hm
  · simp [hm]

@[simp] theorem State.portOperation_canonical (s : State) (h st : Nat) (hm : Canonical s.mem) : Canonical (s.portOperation h st).mem := by
  simp only [State.portOperation]
  (repeat' split) <;> simp [hm]

/-! ## Queues, MOVE and HUB commands -/

@[simp] theorem State.writeRecord_canonical (s : State) (q : QueueId) (c : Cmd) (st : Status) (hm : Canonical s.mem) :
    Canonical (s.writeRecord q c st).1.mem := by
  simp only [State.writeRecord]
  (repeat' split) <;> simp [hm]

@[simp] theorem State.completionRecord_canonical (s : State) (q : QueueId) (hm : Canonical s.mem) : Canonical (s.completionRecord q).mem := by
  simp only [State.completionRecord]
  (repeat' split) <;> simp [hm]

@[simp] theorem State.laneTrained_canonical (s : State) (r : RepairSt) (h p : Nat) (eyes : List LaneEye) (hm : Canonical s.mem) :
    Canonical (s.laneTrained r h p eyes).mem := by
  simp [State.laneTrained, hm]

@[simp] theorem State.engineTrained_canonical (s : State) (h p : Nat) (eyes : List LaneEye) (hm : Canonical s.mem) :
    Canonical (s.engineTrained h p eyes).mem := by
  unfold State.engineTrained
  (repeat' split) <;> simp [hm]

@[simp] theorem State.marchRow_canonical (s : State) (h p b row w : Nat) (hm : Canonical s.mem) : Canonical (s.marchRow h p b row w).1.mem :=
  foldl_canonical _ _ _ (fun k t ht => by simp [ht]) hm

@[simp] theorem State.marchRows_canonical (s : State) (h p w : Nat) (banks : List Nat) (n r : Nat) (hm : Canonical s.mem) :
    Canonical (s.marchRows h p w banks n r).1.mem := by
  induction n generalizing s r with
  | zero => exact hm
  | succ n ih =>
    exact ih _ _ (foldl_fst_canonical (fun a b ha => by simp [ha]) banks _ hm)

@[simp] theorem State.runMarch_canonical (s : State) (q : QueueId) (c : Cmd) (hm : Canonical s.mem) : Canonical (s.runMarch q c).mem := by
  simp only [State.runMarch]
  (repeat' split) <;> simp [hm]

@[simp] theorem State.startCmd_canonical (s : State) (q : QueueId) (op : Nat) (own : Cmd → List Status) (run : State → Cmd → State)
    (detail : Cmd → Status → Nat) (hrun : ∀ c, KeepsCanonical (run · c)) (hm : Canonical s.mem) : Canonical (s.startCmd q op own run detail).mem := by
  unfold State.startCmd
  split
  · exact hm
  · next c _ =>
    dsimp only
    split
    · split
      · simp [hm]
      · exact hrun _ _ (by simp [hm])
    · exact hm

@[simp] theorem State.march_canonical (s : State) (q : QueueId) (hm : Canonical s.mem) : Canonical (s.march q).mem := by
  have hstart : Canonical (s.startCmd q 0x65 (s.marchChecks q) (fun t c => t.runMarch q c)).mem := by simp +contextual [hm]
  unfold State.march
  split <;> simp [hstart]

/-! ## Pools and pages -/

@[simp] theorem State.pteWrite_canonical (s : State) (h : Nat) (cls : ReqClass) (cas pt n : Nat) (e : Pte) (hm : Canonical s.mem) :
    Canonical (s.pteWrite h cls cas pt n e).1.mem := by
  simp [State.pteWrite, hm]

@[simp] theorem State.beginFetch_canonical (s : State) (h : Nat) (cls : ReqClass) (cas pt n : Nat) (e : Pte) (page : Nat) (cmd : Option (QueueId × Nat)) (hm :
    Canonical s.mem) :
    Canonical (s.beginFetch h cls cas pt n e page cmd).1.mem := by
  simp only [State.beginFetch]
  (repeat' split) <;> simp [hm]

@[simp] theorem State.allocOne_canonical (s : State) (q : QueueId) (c : Cmd) (hm : Canonical s.mem) : Canonical (s.allocOne q c).state.mem := by
  have hpte : ∀ y e, Canonical ((s.setPool (s.casOf q) c.pgPool y).pteWrite q.inst.val c.reqClass (s.casOf q) c.pgTable (c.pgFirst + c.next) e).1.mem :=
    fun y e => State.pteWrite_canonical _ _ _ _ _ _ e hm
  simp only [State.allocOne]
  (repeat' split) <;> simp [hm, hpte]

@[simp] theorem State.freeOne_canonical (s : State) (q : QueueId) (c : Cmd) (e : Pte) (hm : Canonical s.mem) : Canonical (s.freeOne q c e).state.mem := by
  simp only [State.freeOne]
  (repeat' split) <;> simp [hm]

@[simp] theorem State.spillOne_canonical (s : State) (q : QueueId) (c : Cmd) (n : Nat) (e : Pte) (hm : Canonical s.mem) :
    Canonical (s.spillOne q c n e).state.mem := by
  simp only [State.spillOne]
  (repeat' split) <;> simp [hm]

@[simp] theorem State.prefetchOne_canonical (s : State) (q : QueueId) (c : Cmd) (n : Nat) (e : Pte) (hm : Canonical s.mem) :
    Canonical (s.prefetchOne q c n e).state.mem := by
  have hfetch : ∀ y i, Canonical ((s.setPool (s.casOf q) e.pool y).beginFetch q.inst.val c.reqClass (s.casOf q) c.pgTable n e i (some (q, c.idx))).1.mem :=
    fun y i => State.beginFetch_canonical _ _ _ _ _ _ e i _ hm
  simp only [State.prefetchOne]
  (repeat' split) <;> simp [hm, hfetch]

@[simp] theorem State.pgStep_canonical (s : State) (q : QueueId) (c : Cmd) (hm : Canonical s.mem) : Canonical (s.pgStep q c).state.mem := by
  simp only [State.pgStep]
  (repeat' split) <;> simp [hm]

@[simp] theorem State.pgRun_canonical (s : State) (q : QueueId) (idx n : Nat) (hm : Canonical s.mem) : Canonical (s.pgRun q idx n).mem := by
  induction n generalizing s with
  | zero => exact hm
  | succ n ih =>
    unfold State.pgRun
    split
    · exact hm
    · next c _ =>
      have hstep := s.pgStep_canonical q c hm
      split
      · exact hm
      · split
        · simp [hm]
        · split <;> next hg => simp_all

@[simp] theorem State.pgGo_canonical (s : State) (q : QueueId) (idx : Nat) (hm : Canonical s.mem) : Canonical (s.pgGo q idx).mem := by
  unfold State.pgGo
  split <;> simp [hm]

@[simp] theorem State.runAlloc_canonical (s : State) (q : QueueId) (c : Cmd) (hm : Canonical s.mem) : Canonical (s.runAlloc q c).mem := by simp [State.runAlloc, hm]

@[simp] theorem State.demand_canonical (s : State) (h door cas pt n : Nat) (e : Pte) (hm : Canonical s.mem) :
    Canonical (s.demand h door cas pt n e).mem := by
  simp only [State.demand]
  (repeat' split) <;> simp [hm]

@[simp] theorem State.resolve_canonical (s : State) (d : Nat) (m : AkReq) (hm : Canonical s.mem) : Canonical (s.resolve d m).mem := by
  simp only [State.resolve]
  (repeat' split) <;> simp [hm]

@[simp] theorem State.serveOne_canonical (s : State) (cas k : Nat) (hm : Canonical s.mem) : Canonical (s.serveOne cas k).mem := by
  simp only [State.serveOne]
  split
  · exact hm
  · split
    · exact hm
    · split
      · exact State.pgGo_canonical _ _ _ hm
      · split
        · split <;> simp [hm]
        · exact hm

@[simp] theorem State.serveN_canonical (s : State) (cas k n : Nat) (hm : Canonical s.mem) : Canonical (s.serveN cas k n).mem := by
  induction n generalizing s with
  | zero => exact hm
  | succ n ih => simp [State.serveN, ih, hm]

@[simp] theorem State.serveHeld_canonical (s : State) (cas k : Nat) (hm : Canonical s.mem) : Canonical (s.serveHeld cas k).mem := by simp [State.serveHeld, hm]

@[simp] theorem State.pgWake_canonical (s : State) (hm : Canonical s.mem) : Canonical s.pgWake.mem := by
  refine foldl_canonical _ _ _ (fun q t ht => ?_) hm
  dsimp only
  split
  · exact foldl_canonical _ _ _ (fun c u hu => by dsimp only; split <;> simp [hu]) ht
  · exact ht

@[simp] theorem State.wakeReads_canonical (s : State) (pt n : Nat) (hm : Canonical s.mem) :
    Canonical (s.wakeReads pt n).mem := by simp +contextual [State.wakeReads, hm]

@[simp] theorem State.copyFails_canonical (s : State) (c : CopySt) (hm : Canonical s.mem) : Canonical (s.copyFails c).mem := by
  unfold State.copyFails
  refine State.pgWake_canonical _ (State.serveHeld_canonical _ _ _ ?_)
  split <;> simp [hm]

@[simp] theorem State.spillDone_canonical (s : State) (c : CopySt) (st : Status) (hm : Canonical s.mem) : Canonical (s.spillDone c st).mem := by
  unfold State.spillDone
  dsimp only
  split
  · exact State.pgWake_canonical _ (State.serveHeld_canonical _ _ _ (by simp [hm]))
  · refine State.pgWake_canonical _ ?_
    split <;> simp [hm]

@[simp] theorem State.writePage_canonical (s : State) (v : Via) (a : Nat) (f : Nat → Block) (n : Nat) (hm : Canonical s.mem) :
    Canonical (s.writePage v a f n).1.mem := by
  induction n with
  | zero => exact hm
  | succ n ih => simp [State.writePage, ih]

@[simp] theorem State.fetchDone_canonical (s : State) (h pt n : Nat) (blocks : List Block) (hm : Canonical s.mem) :
    Canonical (s.fetchDone h pt n blocks).mem := by
  unfold State.fetchDone
  split
  · exact hm
  · dsimp only
    split
    · split
      · simp [hm]
      · exact State.pgWake_canonical _ (State.wakeReads_canonical _ _ _ (by simp [hm]))
    · exact hm

@[simp] theorem State.transportError_canonical (s : State) (h pt n : Nat) (hm : Canonical s.mem) : Canonical (s.transportError h pt n).mem := by
  unfold State.transportError
  split <;> simp [hm]

@[simp] theorem State.pageHostRead_canonical (s : State) (q : QueueId) (data : Option Block) (hm : Canonical s.mem) :
    Canonical (s.pageHostRead q data).mem := by
  unfold State.pageHostRead
  (repeat' split) <;> simp [hm]

@[simp] theorem State.undoCopy_canonical (s : State) (c : CopySt) (hm : Canonical s.mem) : Canonical (s.undoCopy c).mem := by simp [State.undoCopy, hm]

@[simp] theorem State.undoCopies_canonical (s : State) (p : CopySt → Bool) (hm : Canonical s.mem) :
    Canonical (s.undoCopies p).mem := by simp +contextual [State.undoCopies, hm]

/-! ## The fabric and collectives -/

@[simp] theorem State.collTake_canonical (s : State) (x : CollSt) (c : Cmd) (p : Packet) (hm : Canonical s.mem) : Canonical (s.collTake x c p).mem := by
  unfold State.collTake
  (repeat' split) <;> simp [hm]

@[simp] theorem State.collDrainN_canonical (s : State) (q : QueueId) (idx n : Nat) (hm : Canonical s.mem) : Canonical (s.collDrainN q idx n).mem := by
  induction n generalizing s with
  | zero => exact hm
  | succ n ih =>
    unfold State.collDrainN
    split
    · split <;> simp [ih, hm]
    · exact hm

@[simp] theorem State.collDrain_canonical (s : State) (q : QueueId) (idx : Nat) (hm : Canonical s.mem) :
    Canonical (s.collDrain q idx).mem := by simp [State.collDrain, hm]

@[simp] theorem State.collWake_canonical (s : State) (hm : Canonical s.mem) : Canonical s.collWake.mem := by simp +contextual [State.collWake, hm]

@[simp] theorem State.collPacket_canonical (s : State) (h : Nat) (p : Packet) (hm : Canonical s.mem) : Canonical (s.collPacket h p).mem := by
  simp only [State.collPacket]
  (repeat' split) <;> simp [hm]

@[simp] theorem State.collReady_canonical (s : State) (h : Nat) (p : Packet) (hm : Canonical s.mem) : Canonical (s.collReady h p).mem := by
  simp only [State.collReady]
  (repeat' split) <;> simp [hm]

@[simp] theorem State.copyOwn_canonical (s : State) (q : QueueId) (c : Cmd) (a b n : Nat) (hm : Canonical s.mem) :
    Canonical (s.copyOwn q c a b n).1.mem := by
  induction n with
  | zero => exact hm
  | succ n ih => simp [State.copyOwn, ih]

@[simp] theorem State.runColl_canonical (s : State) (q : QueueId) (c : Cmd) (hm : Canonical s.mem) : Canonical (s.runColl q c).mem := by
  unfold State.runColl
  (repeat' split) <;> simp [hm]

@[simp] theorem State.readResponse_canonical (s : State) (h : Nat) (p : Packet) (hm : Canonical s.mem) : Canonical (s.readResponse h p).mem := by
  simp only [State.readResponse]
  (repeat' split) <;> simp [hm]

@[simp] theorem State.writeAck_canonical (s : State) (h : Nat) (p : Packet) (hm : Canonical s.mem) : Canonical (s.writeAck h p).mem := by
  simp only [State.writeAck]
  (repeat' split) <;> simp [hm]

/-! ## Resets and bring-up -/

/-- A cold reset discards the stacks' contents. -/
@[simp] theorem State.coldReset_mem (s : State) (cause : Nat) (errs : Bool) : (s.coldReset cause errs).mem = [] := by
  simp only [State.coldReset, State.wr_mem, State.mem_ite, State.hingeError_mem, ite_self]
  rfl

@[simp] theorem State.vaonPowerUp_mem (s : State) : s.vaonPowerUp.mem = [] := rfl

@[simp] theorem State.warmReset_canonical (s : State) (cause : Nat) (hm : Canonical s.mem) : Canonical (s.warmReset cause).mem := by
  simp only [State.warmReset]
  (repeat' split) <;> simp [hm]

@[simp] theorem State.rstCtrl_canonical (s : State) (v : Nat) (hm : Canonical s.mem) : Canonical (s.rstCtrl v).mem := by simp [State.rstCtrl, hm]

@[simp] theorem State.pkgRstN_canonical (s : State) (high : Bool) (st : Straps) (hm : Canonical s.mem) : Canonical (s.pkgRstN high st).mem := by
  unfold State.pkgRstN
  dsimp only
  (repeat' split) <;> simp [hm]

@[simp] theorem State.setBoard_warmReset_canonical (s : State) (f : BoardSt → BoardSt) (cause : Nat) (hm : Canonical s.mem) :
    Canonical ((s.setBoard f).warmReset cause).mem :=
  State.warmReset_canonical _ cause hm

@[simp] theorem State.warmRstN_canonical (s : State) (high : Bool) (hm : Canonical s.mem) : Canonical (s.warmRstN high).mem := by
  unfold State.warmRstN
  (repeat' split) <;> simp [hm]

@[simp] theorem State.perstN_canonical (s : State) (high : Bool) (hm : Canonical s.mem) : Canonical (s.perstN high).mem := by
  unfold State.perstN
  (repeat' split) <;> simp [hm]

@[simp] theorem State.kaPgLoss_canonical (s : State) (hm : Canonical s.mem) : Canonical s.kaPgLoss.mem := by simp [State.kaPgLoss, hm]

@[simp] theorem State.bootStop_canonical (s : State) (code unit : Nat) (hm : Canonical s.mem) : Canonical (s.bootStop code unit).mem := by simp [State.bootStop, hm]

@[simp] theorem State.bootFail_canonical (s : State) (code unit : Nat) (hm : Canonical s.mem) : Canonical (s.bootFail code unit).mem := by simp [State.bootFail, hm]

@[simp] theorem State.coldBringup_canonical (s : State) (hm : Canonical s.mem) : Canonical s.coldBringup.mem := by simp [State.coldBringup, hm]

@[simp] theorem State.firstStage_canonical (s : State) (l : List Byte) (hm : Canonical s.mem) : Canonical (s.firstStage l).mem := by
  unfold State.firstStage
  (repeat' split) <;> simp [hm]

@[simp] theorem State.recovGo_canonical (s : State) (hm : Canonical s.mem) : Canonical s.recovGo.mem := by
  unfold State.recovGo
  (repeat' split) <;> simp [hm]

@[simp] theorem State.hubFirmware_canonical (s : State) (l : List Byte) (hm : Canonical s.mem) : Canonical (s.hubFirmware l).mem := by
  unfold State.hubFirmware
  (repeat' split) <;> simp [hm]

@[simp] theorem State.ringLinkUp_canonical (s : State) (fails : List Nat) (hm : Canonical s.mem) : Canonical (s.ringLinkUp fails).mem := by
  simp only [State.ringLinkUp]
  (repeat' split) <;> simp [hm]

@[simp] theorem State.stackIdentification_canonical (s : State) (l : List (Hub × StackNo × StackId)) (hm : Canonical s.mem) :
    Canonical (s.stackIdentification l).mem := by
  unfold State.stackIdentification
  (repeat' split) <;> simp [hm]

@[simp] theorem State.imageLoad_canonical (s : State) (l : List Byte) (hm : Canonical s.mem) : Canonical (s.imageLoad l).mem := by simp [State.imageLoad, hm]

@[simp] theorem State.softRepairs_canonical (s : State) (refused : List (Nat × Nat)) (hm : Canonical s.mem) : Canonical (s.softRepairs refused).mem := by
  simp only [State.softRepairs]
  (repeat' split) <;> simp [hm]

@[simp] theorem State.trainPc_canonical (s : State) (found : List PcTraining) (h p : Nat) (hm : Canonical s.mem) :
    Canonical (s.trainPc found h p).1.mem := by
  simp only [State.trainPc]
  (repeat' split) <;> simp [hm]

@[simp] theorem State.trainAll_canonical (s : State) (found : List PcTraining) (l : List (Nat × Nat)) (hm : Canonical s.mem) :
    Canonical (s.trainAll found l).1.mem := by
  induction l generalizing s with
  | nil => exact hm
  | cons x t ih => simp [State.trainAll, ih, hm]

@[simp] theorem State.training_canonical (s : State) (found : List PcTraining) (hm : Canonical s.mem) : Canonical (s.training found).mem := by
  simp only [State.training]
  (repeat' split) <;> simp [hm]

@[simp] theorem State.memoryClear_canonical (s : State) (hm : Canonical s.mem) : Canonical s.memoryClear.mem := by simp [State.memoryClear, hm]

@[simp] theorem State.computeRelease_canonical (s : State) (fails : List Nat) (hm : Canonical s.mem) : Canonical (s.computeRelease fails).mem := by
  unfold State.computeRelease
  (repeat' split) <;> simp [hm]

@[simp] theorem State.loseKeepAlive_mem (s : State) : s.loseKeepAlive.mem = [] := rfl

@[simp] theorem State.configurationCrc_canonical (s : State) (fails : List Nat) (hm : Canonical s.mem) : Canonical (s.configurationCrc fails).mem := by
  unfold State.configurationCrc
  (repeat' split) <;> simp [hm]

@[simp] theorem State.warmPause_canonical (s : State) (h p : Nat) (l : List PauseRes) (hm : Canonical s.mem) : Canonical (s.warmPause h p l).1.mem := by
  simp only [State.warmPause]
  (repeat' split) <;> simp [hm]

@[simp] theorem State.warmPc_canonical (s : State) (first second : List PauseRes) (found : List PcTraining) (h p : Nat) (hm : Canonical s.mem) :
    Canonical (s.warmPc first second found h p).1.mem := by
  have hfirst : ∀ x, Canonical (((s.runWide h p 10).setPc h p x).warmPause h p first).1.mem := fun x =>
    State.warmPause_canonical _ _ _ _ (State.runWide_canonical _ _ _ _ hm)
  simp only [State.warmPc]
  split <;> simp [hfirst]

@[simp] theorem State.selfRefreshExit_canonical (s : State) (latched : List (Nat × Word)) (first second : List PauseRes) (found : List PcTraining)
    (hm : Canonical s.mem) : Canonical (s.selfRefreshExit latched first second found).mem := by
  have hpcs : Canonical (s.allPcs.foldl (fun r q => ((r.1.warmPc first second found q.1 q.2).1,
      if (r.1.warmPc first second found q.1 q.2).2 then r.2 else r.2 ++ [q])) ((s.setPhase 17).reapply latched, ([] : List (Nat × Nat)))).1.mem :=
    foldl_fst_canonical (fun r q hr => by simp [hr]) _ _ (by simp [hm])
  unfold State.selfRefreshExit
  split
  · dsimp only
    split <;> simp [hpcs]
  · exact hm

@[simp] theorem State.enginesRestored_canonical (s : State) (hm : Canonical s.mem) : Canonical s.enginesRestored.mem := by simp [State.enginesRestored, hm]

@[simp] theorem State.bootWatchdog_canonical (s : State) (hm : Canonical s.mem) : Canonical s.bootWatchdog.mem := by
  unfold State.bootWatchdog
  split
  · split
    · split
      · simp [hm]
      · dsimp only
        split
        · exact State.warmReset_canonical _ 8 hm
        · split <;> simp
    · exact hm
  · exact hm

/-! ## Counters, samples and trace records -/

@[simp] theorem State.sampleRecord_canonical (s : State) (h : Nat) (hm : Canonical s.mem) : Canonical (s.sampleRecord h).mem := by
  unfold State.sampleRecord
  split
  · split
    · exact hm
    · next r t ht =>
      have hmem : t.mem = s.mem := by
        rcases hk : s.takeRecord h with _ | x
        · rw [hk] at ht
          exact takeRecord_mem ht
        · rw [hk] at ht
          exact takeRecord_mem (hk.trans ht)
      simp [hmem, hm]
  · exact hm

@[simp] theorem State.traceRecord_canonical (s : State) (h : Nat) (hm : Canonical s.mem) : Canonical (s.traceRecord h).mem := by simp [State.traceRecord, hm]

/-! ## Casement resets -/

@[simp] theorem State.startCasReset_canonical (s : State) (c : Nat) (hm : Canonical s.mem) : Canonical (s.startCasReset c).mem := by simp [State.startCasReset, hm]

@[simp] theorem State.closeQueue_canonical (s : State) (q : QueueId) (hm : Canonical s.mem) :
    Canonical (s.closeQueue q).mem := by simp +contextual [State.closeQueue, hm]

@[simp] theorem State.casResetComplete_canonical (s : State) (c : Nat) (hm : Canonical s.mem) : Canonical (s.casResetComplete c).mem := by
  simp only [State.casResetComplete]
  (repeat' split) <;> simp +contextual [hm]

@[simp] theorem State.caseRst_canonical (s : State) (v : Nat) (hm : Canonical s.mem) : Canonical (s.caseRst v).mem := by simp +contextual [State.caseRst, hm]

@[simp] theorem State.caseSelfRst_canonical (s : State) (f : Nat) (hm : Canonical s.mem) : Canonical (s.caseSelfRst f).mem := by
  unfold State.caseSelfRst
  split <;> simp [hm]

@[simp] theorem State.runCaseReset_canonical (s : State) (q : QueueId) (c : Cmd) (hm : Canonical s.mem) :
    Canonical (s.runCaseReset q c).mem := by simp [State.runCaseReset, hm]

@[simp] theorem State.flr_canonical (s : State) (f : Nat) (hm : Canonical s.mem) : Canonical (s.flr f).mem := by simp +contextual [State.flr, hm]

/-! ## The host -/

@[simp] theorem State.cfgWrite_canonical (s : State) (f off : Nat) (v : BitVec 32) (hm : Canonical s.mem) : Canonical (s.cfgWrite f off v).mem := by
  unfold State.cfgWrite
  split <;> simp [hm]

@[simp] theorem State.configRequest_canonical (s : State) (f off : Nat) (w : Option (BitVec 32)) (hm : Canonical s.mem) :
    Canonical (s.configRequest f off w).mem := by
  unfold State.configRequest
  (repeat' split) <;> simp [hm]

@[simp] theorem State.flrRequest_canonical (s : State) (f : Nat) (hm : Canonical s.mem) : Canonical (s.flrRequest f).mem := by simp [State.flrRequest, hm]

@[simp] theorem State.engineHostRead_canonical (s : State) (q : QueueId) (data : Option Block) (hm : Canonical s.mem) :
    Canonical (s.engineHostRead q data).mem := by simp [State.engineHostRead, hm]

/-! ## The Aksal links -/

@[simp] theorem State.diePage_canonical (s : State) (d : Nat) (m : AkReq) (hm : Canonical s.mem) : Canonical (s.diePage d m).mem := by
  unfold State.diePage
  (repeat' split) <;> simp [hm]

@[simp] theorem State.trainFail_canonical (s : State) (d side slice : Nat) (hm : Canonical s.mem) :
    Canonical (s.trainFail d side slice).mem := by simp [State.trainFail, hm]

@[simp] theorem State.trainingState_canonical (s : State) (d : Nat) (die : Bool) (spares : List (Fin 24 × List Nat)) (hm : Canonical s.mem) :
    Canonical (s.trainingState d die spares).mem := by
  simp only [State.trainingState]
  split
  · split
    · simp [hm]
    · next t ht =>
      have hmem : t.mem = s.mem := by
        split at ht
        · exact mapSpares_mem ht
        · rw [← Sum.inl.inj ht]
      simp [hmem, hm]
  · exact hm

@[simp] theorem State.trainTimeout_canonical (s : State) (d : Nat) (hm : Canonical s.mem) : Canonical (s.trainTimeout d).mem := by
  unfold State.trainTimeout
  dsimp only
  split
  · split
    · exact State.trainFail_canonical _ _ _ _ hm
    · simp [hm]
  · exact hm

@[simp] theorem State.sideDown_canonical (s : State) (d : Nat) (dieSide : Bool) (hm : Canonical s.mem) :
    Canonical (s.sideDown d dieSide).mem := by simp [State.sideDown, hm]

@[simp] theorem State.setAksal_sideDown_canonical (s : State) (d : Nat) (x : AksSt) (dieSide : Bool) (hm : Canonical s.mem) :
    Canonical ((s.setAksal d x).sideDown d dieSide).mem :=
  State.sideDown_canonical _ d dieSide hm

@[simp] theorem State.cdRstN_canonical (s : State) (d : Nat) (high : Bool) (hm : Canonical s.mem) : Canonical (s.cdRstN d high).mem := by
  unfold State.cdRstN
  dsimp only
  (repeat' split) <;> simp [hm]

@[simp] theorem State.cdPwrOk_canonical (s : State) (d : Nat) (high : Bool) (hm : Canonical s.mem) : Canonical (s.cdPwrOk d high).mem := by
  unfold State.cdPwrOk
  dsimp only
  (repeat' split) <;> simp [hm]

@[simp] theorem State.hbRstN_canonical (s : State) (d : Nat) (high : Bool) (hm : Canonical s.mem) : Canonical (s.hbRstN d high).mem := by
  unfold State.hbRstN
  dsimp only
  (repeat' split) <;> simp [hm]

@[simp] theorem State.hbPwrOk_canonical (s : State) (d : Nat) (high : Bool) (hm : Canonical s.mem) : Canonical (s.hbPwrOk d high).mem := by
  unfold State.hbPwrOk
  dsimp only
  (repeat' split) <;> simp [hm]

/-! ## Requests move on, and watchdogs -/

@[simp] theorem State.pump_canonical (s : State) (hm : Canonical s.mem) : Canonical s.pump.mem := by
  have hcolls : ∀ (l : List CollSt) (t : State), Canonical t.mem → Canonical (l.foldl (fun t x => t.collDrain x.q x.idx) t).mem :=
    fun l t => foldl_canonical _ _ _ fun x u hu => by simp [hu]
  have hpools : ∀ (l : List (Nat × PoolSt)) (t : State), Canonical t.mem → Canonical (l.foldl (fun t x => t.serveHeld (x.1 / 16) (x.1 % 16)) t).mem :=
    fun l t => foldl_canonical _ _ _ fun x u hu => by simp [hu]
  have hswept : ∀ (l : List CollSt) (t : State), t.mem = s.mem → Canonical (l.foldl (fun t x => t.collDrain x.q x.idx) t).sweepColls.mem := fun l t ht => by
    rw [State.sweepColls_mem]
    exact hcolls l t (ht ▸ hm)
  unfold State.pump
  refine foldl_canonical _ _ _ (fun d t ht => by dsimp only; split <;> simp [ht]) ?_
  split
  · exact hpools _ _ (hswept _ _ (by simp))
  · exact State.pgWake_canonical _ (hpools _ _ (hswept _ _ (by simp)))

@[simp] theorem State.settle_canonical (s : State) (hm : Canonical s.mem) : Canonical s.settle.mem := by simp [State.settle, hm]

@[simp] theorem State.timeoutPages_canonical (s : State) (q : QueueId) (c : Cmd) (hm : Canonical s.mem) :
    Canonical (s.timeoutPages q c).mem := by simp [State.timeoutPages, hm]

@[simp] theorem State.timeout_canonical (s : State) (q : QueueId) (c : Cmd) (hm : Canonical s.mem) : Canonical (s.timeout q c).mem := by
  unfold State.timeout
  (repeat' split) <;> simp [hm]

@[simp] theorem State.watchdog_canonical (s : State) (q : QueueId) (hm : Canonical s.mem) : Canonical (s.watchdog q).mem := by
  unfold State.watchdog
  split <;> simp [hm]

/-! ## Register accesses and the end of a step -/

@[simp] theorem State.advanceFuses_mem (s : State) : s.advanceFuses.mem = s.mem := by
  unfold State.advanceFuses
  split <;> rfl

@[simp] theorem State.writeActs_canonical (s : State) (a : RegAt) (p : Part) (n v : Nat) (hm : Canonical s.mem) :
    (s.writeActs a p n v).Leaves fun t => Canonical t.mem := by
  have hkeep : ∀ r : WriteResult, (r.Leaves fun t => t.mem = s.mem) → r.Leaves fun t => Canonical t.mem := fun r hr =>
    hr.mono fun t ht => ht ▸ hm
  unfold State.writeActs
  split
  case h_22 => split <;> simp [hm]
  case h_1 | h_4 | h_10 | h_15 | h_25 | h_26 | h_27 | h_32 | h_35 | h_36 | h_37 | h_38 | h_39 => exact hkeep _ (by simp)
  all_goals simp [hm]

@[simp] theorem State.writeReg_canonical (s : State) (a : RegAt) (p : Part) (v : Nat) (hm : Canonical s.mem) :
    (s.writeReg a p v).Leaves fun t => Canonical t.mem := by
  unfold State.writeReg
  split
  · trivial
  · exact State.writeActs_canonical _ _ _ _ _ hm

@[simp] theorem State.settleWrite_canonical (s : State) (a : Access) (r : WriteResult) (hr : r.Leaves fun t => Canonical t.mem) (hm : Canonical s.mem) :
    Canonical (s.settleWrite a r).mem := by
  cases r with
  | inl t => exact hr
  | inr n => simpa [State.settleWrite] using hm

@[simp] theorem State.writeNow_canonical (s : State) (a : Access) (v : Nat) (hm : Canonical s.mem) : Canonical (s.writeNow a v).mem := by
  unfold State.writeNow
  split
  case h_4 => exact State.settleWrite_canonical _ a _ (State.writeReg_canonical _ _ _ _ hm) hm
  all_goals simp [hm]

@[simp] theorem State.regWrite_canonical (s : State) (a : Access) (v : Word) (hm : Canonical s.mem) : Canonical (s.regWrite a v).mem := by
  unfold State.regWrite
  (repeat' split) <;> simp [hm]

@[simp] theorem State.retryHeld_canonical (s : State) (x : Access × Option Word) (hm : Canonical s.mem) : Canonical (s.retryHeld x).mem := by
  unfold State.retryHeld
  split <;> simp [hm]

/-- The end of a step keeps the canonical form, whatever held accesses go on in it. -/
@[simp] theorem State.done_canonical (s : State) (hm : Canonical s.mem) : Canonical s.done.mem := by
  unfold State.done State.replayHeld
  refine foldl_canonical State.retryHeld _ _ (fun x t ht => State.retryHeld_canonical t x ht) ?_
  simp [hm]

@[simp] theorem State.gateWrite_canonical (s : State) (a : Access) (here : Bool) (r : WriteResult) (hr : r.Leaves fun t => Canonical t.mem)
    (hm : Canonical s.mem) : Canonical (s.gateWrite a here r).mem := by
  unfold State.gateWrite
  split <;> simp [hr, hm]

/-! ## Every command -/

/-- Every command keeps the canonical form, before the end of its step. -/
theorem exec_canonical (c : Instr) (s : State) (hm : Canonical s.mem) : ∃ u : State, exec c s = .next u.done ∧ Canonical u.mem := by
  cases c
  case alloc | free | spill | prefetch | allReduce | reduceScatter | allGather | broadcast | rotate | barrier | caseReset =>
    exact ⟨_, rfl, State.startCmd_canonical _ _ _ _ _ _ (fun c t ht => by simp [ht]) hm⟩
  all_goals exact ⟨_, rfl, by simp [hm]⟩

/-- Settles O4: after reset the stacks list nothing. -/
theorem resetMemoryCanonical : Obligations.ResetMemoryCanonical := canonical_nil

/-- Settles O5: a tick writes no stack, every command keeps the canonical form, and so does the end of its step. -/
theorem stepKeepsMemoryCanonical : Obligations.StepKeepsMemoryCanonical := by
  intro s t hm h
  unfold step at h
  split at h
  · rw [← Host.Outcome.next.inj h]
    exact (s.tick_mem ▸ hm : Canonical s.tick.mem)
  · next c rest hp =>
    obtain ⟨u, hu, hmem⟩ := exec_canonical c { s with pending := rest } hm
    rw [hu] at h
    rw [← Host.Outcome.next.inj h]
    exact u.done_canonical hmem

end Sys2Proof.Machine
end

section
/-! SUPPORT. Starts before the memory clear of a cold start (R92): the warm resets are cold ones, and PF2 drains nothing. -/

namespace Sys2Proof.Machine

/-! ## What ends a command or a hinge leaves the doors -/

/-- What ends a command touches its queue, and what reports it to the host and the trace. -/
def State.QueuesOnly (s t : State) : Prop := ∃ R T M O Q, t = { s with regs := R, tracers := T, msix := M, out := O, queues := Q }

theorem State.QueuesOnly.refl (s : State) : s.QueuesOnly s := ⟨_, _, _, _, _, rfl⟩

theorem State.QueuesOnly.trans {s t u : State} (h : s.QueuesOnly t) (g : t.QueuesOnly u) : s.QueuesOnly u := by
  obtain ⟨R, T, M, O, Q, rfl⟩ := h
  obtain ⟨R', T', M', O', Q', rfl⟩ := g
  exact ⟨R', T', M', O', Q', rfl⟩

theorem State.Reported.queuesOnly {s t : State} (h : s.Reported t) : s.QueuesOnly t := by
  obtain ⟨R, T, M, O, rfl⟩ := h
  exact ⟨R, T, M, O, _, rfl⟩

theorem setCmd_queuesOnly (s : State) (q : QueueId) (c : Cmd) : s.QueuesOnly (s.setCmd q c) := ⟨_, _, _, _, _, rfl⟩

theorem endCmd_queuesOnly (s : State) (q : QueueId) (idx : Nat) (st : Status) : s.QueuesOnly (s.endCmd q idx st) := by
  rcases hc : s.cmd q idx with _ | c
  · unfold State.endCmd
    rw [hc]
    exact .refl s
  · by_cases he : c.ended = none
    · exact (setCmd_queuesOnly ..).trans (endCmd_reported hc he st).queuesOnly
    · unfold State.endCmd
      rw [hc]
      dsimp only
      rw [if_pos (Option.isSome_iff_ne_none.mpr he)]
      exact .refl s

theorem endCmd_doors (s : State) (q : QueueId) (idx : Nat) (st : Status) : (s.endCmd q idx st).doors = s.doors := by
  obtain ⟨R, T, M, O, Q, h⟩ := endCmd_queuesOnly s q idx st
  rw [h]

theorem foldl_doors {α : Type} {f : State → α → State} (h : ∀ t x, (f t x).doors = t.doors) (l : List α) (s : State) : (l.foldl f s).doors = s.doors := by
  induction l generalizing s with
  | nil => rfl
  | cons x t ih => exact (ih _).trans (h s x)

theorem endHinges_doors (s : State) (l : List QueueId) (st : Status) : (s.endHinges l st).doors = s.doors := by
  refine foldl_doors (fun t q => ?_) _ _
  split
  · exact endCmd_doors ..
  · rfl

theorem State.Traced.doors {s t : State} (h : s.Traced t) : t.doors = s.doors := by rw [h.eq]

theorem mapPcs_doors (s : State) (h : Nat) (f : PcSt → PcSt) : (s.mapPcs h f).doors = s.doors :=
  foldl_doors (fun t p => State.setPc_doors t h p _) _ _

theorem abandonHinge_doors (s : State) : s.abandonHinge.doors = s.doors := by
  have hend : ((s.setHinge fun x => { x with step := 0, pend := none, waiters := [], runners := [], switchAt := none }).endHinges
      (s.hinge.runners ++ s.hinge.waiters) .halted).doors = s.doors := endHinges_doors ..
  unfold State.abandonHinge
  dsimp only
  split
  · exact hend
  · exact (foldl_doors (fun t h => (pushTrace_traced ..).doors.trans (mapPcs_doors ..)) _ _).trans hend

theorem cutRepairs_doors (s : State) : s.cutRepairs.doors = s.doors := by
  refine foldl_doors (fun t x => ?_) _ _
  split
  · exact endCmd_doors ..
  · rfl

theorem startColdNext_doors (s : State) : s.startColdNext.doors = s.doors :=
  (cutRepairs_doors _).trans (abandonHinge_doors _)

/-! ## Before the memory clear (R92) -/

/-- Before the memory clear of a cold start the stacks hold nothing that must outlive a restart. -/
theorem holdsData_before_clear {s : State} (h : s.boot.stage = .cold ∨ s.boot.stage = .coldNext ∨ (s.boot.warm = false ∧ s.boot.cleared = false)) :
    s.holdsData = false := by
  unfold State.holdsData
  rcases h with h | h | ⟨hw, hc⟩
  · simp [h]
  · simp [h]
  · simp [hw, hc]

/-- A warm reset is then a cold one. -/
theorem warmReset_of_no_data {s : State} (h2 : s.pf2 = false) (hd : s.holdsData = false) (cause : Nat) : s.warmReset cause = s.coldReset cause false := by
  rw [State.warmReset, if_neg (by simp [h2]), if_pos (by simp [hd])]

theorem exec_warmRstN_of_no_data {s : State} (hw : s.board.warmRst = true) (h2 : s.pf2 = false) (hd : s.holdsData = false) :
    exec (.warmRstN false) s = .next (({ s with board := { s.board with warmRst := false } } : State).coldReset 2 false) := by
  show Host.Outcome.next (s.warmRstN false).done = _
  rw [State.warmRstN, hw, if_neg (by decide), if_neg (by decide), warmReset_of_no_data (by exact h2) (by exact hd), coldReset_done]
  rfl

theorem exec_perstN_of_no_data {s : State} (hp : s.board.perst = true) (h2 : s.pf2 = false) (hd : s.holdsData = false) :
    exec (.perstN false) s = .next (({ s with board := { s.board with perst := false } } : State).coldReset 3 false) := by
  show Host.Outcome.next (s.perstN false).done = _
  rw [State.perstN, hp, if_neg (by decide), if_neg (by decide), warmReset_of_no_data (by exact h2) (by exact hd), coldReset_done]
  rfl

theorem exec_warm_of_no_data {s : State} {v : BitVec 32} (hk : v.toNat / 65536 = 0x5AC3) (hw : v.getLsbD 0 = true) (hc : v.getLsbD 1 = false) (h2 : s.pf2 = false)
    (hd : s.holdsData = false) : exec (.warm v) s = .next (s.coldReset 4 false) := by
  have hreset : s.rstCtrl v.toNat = s.coldReset 4 false := by
    rw [State.rstCtrl, rst_key_field, rstKey, if_neg (not_not_intro hk), BitVec.testBit_toNat, BitVec.testBit_toNat, if_neg (Bool.eq_false_iff.mp hc), if_pos hw,
      warmReset_of_no_data h2 hd]
  show Host.Outcome.next (s.rstCtrl v.toNat).done = _
  rw [hreset, coldReset_done]

/-- PF2 then drains nothing: beside the start and the CAUSE it leaves the supply and the doors as they are. -/
theorem startPf2_of_no_data {s : State} (h2 : s.pf2 = false) (hd : s.holdsData = false) (cause : Nat) :
    (s.startPf2 cause).pf2 = true ∧ (s.startPf2 cause).boot.stage = coldStage s.boot.stage ∧ (s.startPf2 cause).supply = { s.supply with cause := cause } ∧
      (s.startPf2 cause).doors = s.doors := by
  have hstage := abortStaged_restaged (s.holdPf2 cause)
  obtain ⟨-, -, -, -, -, hsupply, hboot, -, hpf2⟩ := base_eq_iff.mp (hstage.base.trans (holdPf2_base s cause))
  have hstart : s.failStart (s.holdPf2 cause).abortStaged = (s.holdPf2 cause).abortStaged.startColdNext := if_neg (by simp [hd])
  have hbase := startPf2_base h2 cause
  rw [hstart, startColdNext_base, hboot, hsupply, hpf2] at hbase
  obtain ⟨-, -, -, -, -, usupply, uboot, -, u2⟩ := base_eq_iff.mp hbase
  refine ⟨u2, congrArg BootSt.stage uboot, usupply, ?_⟩
  obtain ⟨⟨R, S, hS⟩, -⟩ := hstage
  rw [startPf2_eq h2, hstart, State.stopTraces, (powerRecord_traced ..).doors, foldl_doors (fun t h => State.setTracer_doors t h _), startColdNext_doors, hS]
  rfl

theorem coldStage_cases (x : Stage) : coldStage x = .cold ∨ coldStage x = .coldNext := by
  unfold coldStage
  split
  · exact .inl rfl
  · exact .inr rfl

/-- Settles O14: without data to keep, each warm reset is the cold reset of its cause, and PF2 leads to a cold start without a drain. -/
theorem beforeMemoryClearStartsAreCold : Obligations.BeforeMemoryClearStartsAreCold := by
  intro s hs h2
  have hd := holdsData_before_clear hs
  refine ⟨fun hw => exec_warmRstN_of_no_data hw h2 hd, fun hp => exec_perstN_of_no_data hp h2 hd, fun v hk hw hc => exec_warm_of_no_data hk hw hc h2 hd,
    fun c e => ?_, fun a n hf hn => ?_⟩
  · have hcause := coldReset_cause s c e
    obtain ⟨R, hR⟩ := coldReset_parts s c e
    rw [hR] at hcause ⊢
    exact ⟨rfl, rfl, rfl, hcause⟩
  · obtain ⟨u2, ustage, usupply, udoors⟩ := startPf2_of_no_data h2 hd 6
    exact ⟨_, exec_pf2 hf hn, u2, ustage ▸ coldStage_cases _, by rw [usupply], by rw [usupply], udoors⟩

end Sys2Proof.Machine
end

section
/-! SUPPORT. The bring-up watchdog: its first expiry restarts the start, its second one stops it (R109, R110, R112). -/

namespace Sys2Proof.Machine

/-- The cold reset of the watchdog keeps what it reports (R112). -/
theorem coldReset_rd_watchdog (s : State) (cause : Nat) {f : Fld} (d i j : Nat) (hf : keptWatchdog f = true) (hc : f ≠ .SVC_BOOT_STATUS_CAUSE)
    (hr : f ≠ .SVC_SLEW_LIMIT_RATE) (he : f ≠ .SVC_HINGE_STATUS_ERROR) : (s.coldReset cause true).rd f d i j = s.rd f d i j := by
  unfold State.coldReset
  simp only [State.rd_wr_fld _ hc.symm, State.rd_wr_fld _ hr.symm]
  have hbase : ∀ t : State, t.regs = s.regs.keep (fun k => keptCold k.f || (true && keptWatchdog k.f)) → t.rd f d i j = s.rd f d i j := fun t ht => by
    simp only [State.rd, ht, RegFile.keep, regFind_filter s.regs.vals (fun k => keptCold k.f || (true && keptWatchdog k.f)), hf, Bool.and_self, Bool.or_true, if_true]
  split
  · exact hbase _ rfl
  · rw [State.hingeError, State.rd_wr_fld _ he.symm]
    exact hbase _ rfl

/-- What the first expiry of the watchdog records before its reset. -/
def State.timeOut (s : State) : State :=
  ((s.wr .SVC_BOOT_STATUS_ERROR 0 0 0 errBootTimeout).wr .SVC_BOOT_STATUS_UNIT 0 0 0 s.phase).wr .SVC_BOOT_STATUS_ATTEMPT 0 0 0 1

theorem timeOut_rd (s : State) : s.timeOut.rd .SVC_BOOT_STATUS_ERROR 0 0 0 = 0x0C ∧ s.timeOut.rd .SVC_BOOT_STATUS_UNIT 0 0 0 = s.phase ∧
    s.timeOut.rd .SVC_BOOT_STATUS_ATTEMPT 0 0 0 = 1 := by
  refine ⟨?_, ?_, State.rd_wr_self ..⟩
  · rw [State.timeOut, State.rd_wr_fld _ (by decide), State.rd_wr_fld _ (by decide), State.rd_wr_self]
    rfl
  · rw [State.timeOut, State.rd_wr_fld _ (by decide), State.rd_wr_self]

/-- The package after the watchdog's reset, before the slot of the next start is chosen. -/
def State.Restarted (s u : State) : Prop :=
  u.rd .SVC_BOOT_STATUS_ERROR 0 0 0 = 0x0C ∧ u.rd .SVC_BOOT_STATUS_UNIT 0 0 0 = s.phase ∧ u.rd .SVC_BOOT_STATUS_ATTEMPT 0 0 0 = 1 ∧
    u.rd .SVC_BOOT_STATUS_CAUSE 0 0 0 = 8 ∧ u.boot.stage = .cold ∧ u.mem = [] ∧ u.now = s.now

theorem timeOut_restarted (s : State) : s.Restarted (s.timeOut.coldReset 8 true) := by
  obtain ⟨herr, hunit, hatt⟩ := timeOut_rd s
  have hcause := coldReset_cause s.timeOut 8 true
  rw [← coldReset_rd_watchdog s.timeOut 8 0 0 0 rfl (by decide) (by decide) (by decide)] at herr hunit hatt
  obtain ⟨R, hR⟩ := coldReset_parts s.timeOut 8 true
  rw [hR] at herr hunit hatt hcause ⊢
  exact ⟨herr, hunit, hatt, hcause, rfl, rfl, rfl⟩

/-- The slot of the next start: the other one under STRAP_BOOT 0b00, else the one used (R110). -/
def State.nextSlot (s t : State) : State :=
  if s.board.straps.boot = 0 then (t.wr .SVC_BOOT_STATUS_FALLBACK 0 0 0 1).setBoot fun x => { x with slot := 1 - s.boot.slot }
  else t.setBoot fun x => { x with slot := s.boot.slot }

theorem State.Restarted.nextSlot {s t : State} (h : s.Restarted t) : s.Restarted (s.nextSlot t) := by
  obtain ⟨herr, hunit, hatt, hcause, hstage, hmem, hnow⟩ := h
  unfold State.nextSlot
  split
  · exact ⟨(t.rd_wr_fld (by decide)).trans herr, (t.rd_wr_fld (by decide)).trans hunit, (t.rd_wr_fld (by decide)).trans hatt,
      (t.rd_wr_fld (by decide)).trans hcause, hstage, hmem, hnow⟩
  · exact ⟨herr, hunit, hatt, hcause, hstage, hmem, hnow⟩

section
variable {s : State} {a n : Nat} (hw : s.boot.wdog = some (a, n)) (hst : s.boot.stage = .bringUp)
include hw hst

theorem exec_bootWatchdog_first (hwarm : s.boot.warm = false) (hn : a + n ≤ s.now) (ha : s.rd .SVC_BOOT_STATUS_ATTEMPT 0 0 0 = 0) :
    exec .bootWatchdog s = .next (s.nextSlot (s.timeOut.coldReset 8 true)).done := by
  show Host.Outcome.next s.bootWatchdog.done = _
  unfold State.bootWatchdog
  rw [hw]
  dsimp only
  rw [if_pos ⟨hn, .inl hst⟩, if_neg (by simp [State.restarted, ha, hwarm]), if_neg (by simp [hwarm])]
  rfl

theorem exec_bootWatchdog_again (hwarm : s.boot.warm = false) (hn : a + n ≤ s.now) (ha : s.rd .SVC_BOOT_STATUS_ATTEMPT 0 0 0 ≠ 0) :
    exec .bootWatchdog s = .next (s.bootStop errBootTimeout s.phase).done := by
  show Host.Outcome.next s.bootWatchdog.done = _
  unfold State.bootWatchdog
  rw [hw]
  dsimp only
  rw [if_pos ⟨hn, .inl hst⟩, if_pos (by simpa [State.restarted, hwarm] using ha)]

omit hst in
theorem exec_bootWatchdog_early (hn : s.now < a + n) : exec .bootWatchdog s = .next s.done := by
  show Host.Outcome.next s.bootWatchdog.done = _
  unfold State.bootWatchdog
  rw [hw]
  dsimp only
  rw [if_neg (by omega)]

end

/-- A cold start that stops: its error and unit are recorded, and the watchdog rests. -/
theorem bootStop_cold {s : State} (hwarm : s.boot.warm = false) (code unit : Nat) :
    (s.bootStop code unit).boot.stage = .stopped ∧ (s.bootStop code unit).boot.wdog = none ∧ (s.bootStop code unit).rd .SVC_BOOT_STATUS_ERROR 0 0 0 = code ∧
      (s.bootStop code unit).rd .SVC_BOOT_STATUS_UNIT 0 0 0 = unit := by
  unfold State.bootStop
  simp only [hwarm, Bool.false_eq_true, if_false]
  refine ⟨rfl, rfl, ?_, ?_⟩
  · exact (State.rd_wr_fld _ (by decide)).trans (State.rd_wr_self ..)
  · exact State.rd_wr_self ..

/-- Settles O21: the watchdog's first expiry is a cold reset that keeps its own report, its second one a stop. -/
theorem bootWatchdogRestartsOnce : Obligations.BootWatchdogRestartsOnce := by
  intro s a n hw hst hwarm
  refine ⟨fun hn ha => ?_, fun hn ha => ?_, fun hn => exec_bootWatchdog_early hw hn⟩
  · obtain ⟨herr, hunit, hatt, hcause, hstage, hmem, hnow⟩ := (timeOut_restarted s).nextSlot
    refine ⟨_, exec_bootWatchdog_first hw hst hwarm hn ha, herr, hunit, hatt, hcause, hstage, hmem, hnow, fun h0 => ?_, fun h0 => ?_⟩
    · rw [State.nextSlot, if_pos h0]
      exact ⟨rfl, State.rd_wr_self ..⟩
    · rw [State.nextSlot, if_neg h0]
      rfl
  · obtain ⟨hstage, hwdog, herr, hunit⟩ := bootStop_cold hwarm errBootTimeout s.phase
    exact ⟨_, exec_bootWatchdog_again hw hst hwarm hn ha, hstage, hwdog, herr, hunit⟩

end Sys2Proof.Machine
end

section
/-! SUPPORT. Phases 2 to 6 of a cold bring-up: what each leaves on a good result, and how the chain falls back (R95 to R100, R108, R263). -/

namespace Sys2Proof.Machine

/-- What a phase of a cold bring-up leaves: its number, and the stage, the stacks, the fuses and TIME64 as they are. -/
def State.PhaseDone (s u : State) (n : Nat) : Prop := u.phase = n ∧ u.boot.stage = .bringUp ∧ u.mem = s.mem ∧ u.fuse = s.fuse ∧ u.now = s.now

theorem setPhase_phase (s : State) (n : Nat) : (s.setPhase n).phase = n := s.rd_wr_self ..

theorem setPhase_phaseDone {s : State} (hst : s.boot.stage = .bringUp) (n : Nat) : s.PhaseDone (s.setPhase n) n := ⟨setPhase_phase s n, hst, rfl, rfl, rfl⟩

/-- A read of the flash goes to the board alone. -/
theorem readFlash_emits (s : State) (c : FlashPart) : ∃ O, s.readFlash c = { s with out := O } := by
  unfold State.readFlash
  split
  · exact ⟨_, rfl⟩
  · exact ⟨_, rfl⟩

theorem State.PhaseDone.readFlash {s t : State} {n : Nat} (h : s.PhaseDone t n) (c : FlashPart) : s.PhaseDone (t.readFlash c) n := by
  obtain ⟨O, hO⟩ := readFlash_emits t c
  rw [hO]
  exact h

theorem bringingUp_of_phase {s : State} {n : Nat} (hst : s.boot.stage = .bringUp) (hp : s.phase = n) : s.bringingUp n = true := by
  simp [State.bringingUp, hst, hp]

section
variable {s : State} (hst : s.boot.stage = .bringUp)
include hst

/-! ## The verification chain (R95 to R98, R108) -/

theorem exec_firstStage_good {l : List Byte} (hp : s.phase = 1) (hlock : s.locked = true) (hstrap : s.board.straps.boot ≠ 3) (hl : l ≠ [])
    (hfw : s.fwCheck 0 0 l = none) : exec (.firstStage l) s = .next ((s.setPhase 2).readFlash .firstStage).done := by
  refine next_done_congr ?_
  unfold State.firstStage
  rw [if_pos (by simp [bringingUp_of_phase hst hp, hlock, hstrap]), hfw]
  exact if_neg (by simp [hl])

/-- A container whose check fails leads to a failure of the step that the boot ROM can answer from the other slot. -/
theorem firstStage_bad {l : List Byte} (hp : s.phase = 1) (hlock : s.locked = true) (hstrap : s.board.straps.boot ≠ 3)
    (hfw : s.fwCheck 0 0 l = some .verify) :
    ∃ code unit, slotError code = true ∧ s.firstStage l = ((s.setPhase 2).readFlash .firstStage).bootFail code unit := by
  unfold State.firstStage
  rw [if_pos (by simp [bringingUp_of_phase hst hp, hlock, hstrap]), hfw]
  dsimp only
  split
  · exact ⟨errFlashRead, 0, rfl, rfl⟩
  · exact ⟨errFwVerify, _, rfl, rfl⟩

theorem exec_pcieReadiness (hp : s.phase = 2) : exec .pcieReadiness s = .next (s.setPhase 3).done := by
  refine next_done_congr ?_
  unfold State.pcieReadiness
  exact if_pos (by simp [bringingUp_of_phase hst hp])

theorem exec_hubFirmware_good {l : List Byte} (hp : s.phase = 3) (hstrap : s.board.straps.boot ≠ 3) (hl : l ≠ [])
    (hfw : ∀ h ∈ s.hubs, s.fwCheck (1 + h) 1 l = none) : exec (.hubFirmware l) s = .next ((s.setPhase 4).readFlash .hubFirmware).done := by
  have hverify : (s.hubs.find? fun h => s.fwCheck (1 + h) 1 l == some .verify) = none := List.find?_eq_none.mpr fun h hh => by simp [hfw h hh]
  have hroll : (s.hubs.any fun h => s.fwCheck (1 + h) 1 l == some .rollback) = false := List.any_eq_false.mpr fun h hh => by simp [hfw h hh]
  refine next_done_congr ?_
  unfold State.hubFirmware
  rw [if_pos (by simp [bringingUp_of_phase hst hp, hstrap]), hverify]
  dsimp only
  rw [if_neg (by simp [hl]), if_neg (by simp [hroll])]

theorem exec_recovGo_good (hp : s.phase = 3) (hstrap : s.board.straps.boot = 3) (hfw : s.fwCheck 0 0 s.recov = none) :
    ∃ w, exec .recovGo s = .next (((s.setBoot fun x => { x with wdog := some w, stage := .bringUp }).setPhase 3).setBoot fun x => { x with fwOk := true }).done := by
  have hgo : s.board.straps.boot = 3 ∧ (s.bringingUp 3 = true ∨ (s.boot.stage = .stopped ∧ s.boot.warm = false)) := ⟨hstrap, .inl (bringingUp_of_phase hst hp)⟩
  rcases hw : s.boot.wdog with _ | w
  · refine ⟨(s.now, Config.secTicks (s.rd .SVC_BOOT_WDOG_SECONDS 0 0 0)), next_done_congr ?_⟩
    unfold State.recovGo
    rw [if_pos hgo, hfw, hw]
  · refine ⟨w, next_done_congr ?_⟩
    unfold State.recovGo
    rw [if_pos hgo, hfw, hw]

end

/-- Under STRAP_BOOT 0b00, where FALLBACK is 0, an error of the slot restarts the chain from the other slot. -/
theorem bootFail_falls_back {t : State} {code : Nat} (unit : Nat) (hst : t.boot.stage = .bringUp) (hstrap : t.board.straps.boot = 0)
    (hcode : slotError code = true) (hf : t.rd .SVC_BOOT_STATUS_FALLBACK 0 0 0 = 0) :
    t.PhaseDone (t.bootFail code unit) 1 ∧ (t.bootFail code unit).boot.slot = 1 - t.boot.slot ∧ (t.bootFail code unit).rd .SVC_BOOT_STATUS_FALLBACK 0 0 0 = 1 := by
  have hcase : t.bootFail code unit = _ := if_pos ⟨hstrap, hcode, hf⟩
  rw [hcase]
  refine ⟨⟨State.rd_wr_self .., hst, rfl, rfl, rfl⟩, rfl, ?_⟩
  exact (State.rd_wr_fld _ (by decide)).trans ((State.rd_wr_fld _ (by decide)).trans (State.rd_wr_self ..))

theorem exec_firstStage_falls_back {s : State} {l : List Byte} (hst : s.boot.stage = .bringUp) (hp : s.phase = 1) (hlock : s.locked = true)
    (hstrap : s.board.straps.boot = 0) (hf : s.rd .SVC_BOOT_STATUS_FALLBACK 0 0 0 = 0) (hfw : s.fwCheck 0 0 l = some .verify) :
    ∃ u : State, exec (.firstStage l) s = .next u.done ∧ s.PhaseDone u 1 ∧ u.boot.slot = 1 - s.boot.slot ∧ u.rd .SVC_BOOT_STATUS_FALLBACK 0 0 0 = 1 := by
  obtain ⟨code, unit, hcode, heq⟩ := firstStage_bad hst hp hlock (by rw [hstrap]; decide) hfw
  obtain ⟨O, hO⟩ := readFlash_emits (s.setPhase 2) .firstStage
  rw [hO] at heq
  exact ⟨_, next_done_congr heq, bootFail_falls_back (t := { s.setPhase 2 with out := O }) unit hst hstrap hcode ((State.rd_wr_fld _ (by decide)).trans hf)⟩

/-! ## The ring links come up (R99) -/

/-- Links that are set one after the other: each of them reads as it was set. -/
theorem foldl_setLink (x : LinkSt) (l : List Nat) (s : State) :
    ∃ K, l.foldl (fun t i => t.setLink i x) s = { s with links := K } ∧ ∀ i, (i ∈ l ∨ s.link i = x) → Tab.get LinkSt.reset K i = x := by
  induction l generalizing s with
  | nil => exact ⟨s.links, rfl, fun i hi => hi.resolve_left (by simp)⟩
  | cons k t ih =>
    obtain ⟨K, hK, hset⟩ := ih (s.setLink k x)
    refine ⟨K, hK, fun i hi => hset i ?_⟩
    by_cases hk : i = k
    · exact .inr (hk ▸ State.link_setLink_self ..)
    · refine hi.imp (fun hm => (List.mem_cons.mp hm).resolve_left hk) fun hl => ?_
      rw [State.link, State.setLink, Tab.get_put, if_neg (Ne.symm hk)]
      exact hl

theorem exec_ringLinkUp_good {s : State} (hst : s.boot.stage = .bringUp) (hwarm : s.boot.warm = false) (hp : s.phase = 4) :
    exec (.ringLinkUp []) s = .next (s.ringLinks.foldl (fun t i => t.setLink i { LinkSt.reset with up := true }) (s.setPhase 5)).done := by
  have hall : (s.ringLinks.filter fun i => !s.linkLost i) = s.ringLinks := List.filter_eq_self.mpr fun i _ => by simp [State.linkLost, hwarm]
  have hnone : (s.ringLinks.find? fun _ => false) = none := List.find?_eq_none.mpr fun i _ => by simp
  refine next_done_congr ?_
  unfold State.ringLinkUp
  rw [if_pos (bringingUp_of_phase hst hp), hall]
  simp [hnone]

/-! ## The stacks identify themselves (R27, R263) -/

theorem mem_allStacks {s : State} {x : Nat × Nat} (h : x ∈ s.allStacks) : x.2 < 3 := by
  obtain ⟨k, -, hk⟩ := List.mem_flatMap.mp h
  obtain ⟨st, hst, rfl⟩ := List.mem_map.mp hk
  have hin := (List.mem_filter.mp hst).1
  simp only [List.mem_cons, List.not_mem_nil, or_false] at hin
  omega

/-- Stacks whose identification is kept one after the other: each of them reads as it was found. -/
theorem foldl_keep_stackId (f : Nat × Nat → Option StackId) (l : List (Nat × Nat)) (hl : ∀ x ∈ l, x.2 < 3) (s : State) :
    ∃ G, l.foldl (fun t x => ({ t with geom := Tab.put none t.geom (3 * x.1 + x.2) (f x) } : State)) s = { s with geom := G } ∧
      ∀ x : Nat × Nat, x.2 < 3 → (x ∈ l ∨ s.stackId x.1 x.2 = f x) → Tab.get none G (3 * x.1 + x.2) = f x := by
  induction l generalizing s with
  | nil => exact ⟨s.geom, rfl, fun x _ hx => hx.resolve_left (by simp)⟩
  | cons y t ih =>
    obtain ⟨G, hG, hset⟩ := ih (fun x hx => hl x (List.mem_cons_of_mem _ hx)) { s with geom := Tab.put none s.geom (3 * y.1 + y.2) (f y) }
    refine ⟨G, hG, fun x hx3 hx => hset x hx3 ?_⟩
    have hy3 := hl y List.mem_cons_self
    by_cases hy : x = y
    · refine .inr ?_
      rw [hy, State.stackId, Tab.get_put, if_pos rfl]
    · refine hx.imp (fun hm => (List.mem_cons.mp hm).resolve_left hy) fun hs => ?_
      have hkey : 3 * y.1 + y.2 ≠ 3 * x.1 + x.2 := fun e => hy (Prod.ext (by omega) (by omega))
      rw [State.stackId, Tab.get_put, if_neg hkey]
      exact hs

theorem exec_stackIdentification_good {s : State} {l : List (Hub × StackNo × StackId)} (hst : s.boot.stage = .bringUp) (hwarm : s.boot.warm = false)
    (hp : s.phase = 5) (hfound : ∀ x ∈ s.allStacks, (foundStack l x.1 x.2).isSome = true) :
    exec (.stackIdentification l) s = .next ({ s.allStacks.foldl (fun t x =>
      ({ t with geom := Tab.put none t.geom (3 * x.1 + x.2) (foundStack l x.1 x.2) } : State)) (s.setPhase 6) with spareUsed := [] } : State).done := by
  have hnone : (s.allStacks.find? fun x => (foundStack l x.1 x.2).isNone) = none := List.find?_eq_none.mpr fun x hx => by simp [Option.isSome_iff_ne_none.mp (hfound x hx)]
  refine next_done_congr ?_
  unfold State.stackIdentification
  rw [if_pos (by simp [bringingUp_of_phase hst hp, hwarm]), hnone]

/-- Settles O18: each phase on a good result is a write of its number, with the links and the stacks it brings up; a bad container restarts the chain from the other slot. -/
theorem bringUpPhasesTwoToSix : Obligations.BringUpPhasesTwoToSix := by
  intro s hst hwarm
  have hphase := setPhase_phaseDone hst
  refine ⟨fun l hp hlock hstrap hl hfw => ⟨_, exec_firstStage_good hst hp hlock hstrap hl hfw, (hphase 2).readFlash _⟩,
    fun l hp hlock hstrap hf hfw => exec_firstStage_falls_back hst hp hlock hstrap hf hfw,
    fun hp => ⟨_, exec_pcieReadiness hst hp, hphase 3⟩,
    fun l hp hstrap hl hfw => ⟨_, exec_hubFirmware_good hst hp hstrap hl hfw, (hphase 4).readFlash _⟩, fun hp => ?_, fun l hp hfound => ?_, fun hp hstrap hfw => ?_⟩
  · obtain ⟨K, hK, hup⟩ := foldl_setLink { LinkSt.reset with up := true } s.ringLinks (s.setPhase 5)
    refine ⟨_, exec_ringLinkUp_good hst hwarm hp, ?_⟩
    rw [hK]
    exact ⟨hphase 5, fun i hi => hup i (.inl hi)⟩
  · obtain ⟨G, hG, hset⟩ := foldl_keep_stackId (fun x => foundStack l x.1 x.2) s.allStacks (fun x hx => mem_allStacks hx) (s.setPhase 6)
    refine ⟨_, exec_stackIdentification_good hst hwarm hp hfound, ?_⟩
    rw [hG]
    exact ⟨hphase 6, fun x hx => hset x (mem_allStacks hx) (.inl hx)⟩
  · obtain ⟨w, hgo⟩ := exec_recovGo_good hst hp hstrap hfw
    exact ⟨_, hgo, ⟨setPhase_phase _ 3, rfl, rfl, rfl, rfl⟩, rfl, rfl⟩

end Sys2Proof.Machine
end

section
/-! SUPPORT. What stands through the work of a casement reset (R106): the configuration, the boot state, the functions, and which casements and commands are under reset. -/

namespace Sys2Proof.Machine

/-- What stands: the running configuration, the boot state, PF2, the casements under reset, the functions' configuration state and the waiting CASE_RESETs, under a name of its own so that simp does not take the parts apart. -/
def standing (c : Option RunCfg) (b : BootSt) (p : Bool) (r : Tab Bool) (f : Tab FnSt) (w : List (QueueId × Nat × Nat)) :
    Option RunCfg × BootSt × Bool × Tab Bool × Tab FnSt × List (QueueId × Nat × Nat) := (c, b, p, r, f, w)

theorem standing_inj {c c' : Option RunCfg} {b b' : BootSt} {p p' : Bool} {r r' : Tab Bool} {f f' : Tab FnSt} {w w' : List (QueueId × Nat × Nat)} :
    standing c b p r f w = standing c' b' p' r' f' w' ↔ c = c' ∧ b = b' ∧ p = p' ∧ r = r' ∧ f = f' ∧ w = w' := by simp [standing]

/-- What stands in a state. simp spells it out in its fields, so that an update of other parts of the state falls away. -/
@[reducible] def State.standing (s : State) : Option RunCfg × BootSt × Bool × Tab Bool × Tab FnSt × List (QueueId × Nat × Nat) :=
  Machine.standing s.cfg s.boot s.pf2 s.resetting s.fns s.caseWait

@[simp] theorem State.standing_eq (s : State) : s.standing = Machine.standing s.cfg s.boot s.pf2 s.resetting s.fns s.caseWait := rfl

/-- A function of the state under which all of it stands: what a loop asks of each round. -/
def KeepsStanding (f : State → State) : Prop := ∀ s, (f s).standing = s.standing

@[simp] theorem keepsStanding_iff (f : State → State) : KeepsStanding f ↔ ∀ s, (f s).standing = s.standing := by rw [KeepsStanding]

@[simp] theorem foldl_standing {α : Type} (f : State → α → State) (l : List α) (s : State) (h : ∀ x, KeepsStanding (f · x)) : (l.foldl f s).standing = s.standing := by
  induction l generalizing s with
  | nil => rfl
  | cons x t ih => exact (ih _).trans (h x s)

@[simp] theorem State.standing_ite (c : Prop) [Decidable c] (s t : State) : (if c then s else t).standing = if c then s.standing else t.standing :=
  apply_ite _ _ _ _

@[simp] theorem State.count_standing (s : State) (f : Fld) (top d i j n : Nat) : (s.count f top d i j n).standing = s.standing := by simp [State.count]
@[simp] theorem State.orBits_standing (s : State) (f : Fld) (d i j n : Nat) : (s.orBits f d i j n).standing = s.standing := by simp [State.orBits]
@[simp] theorem State.setBit_standing (s : State) (f : Fld) (d i j b : Nat) : (s.setBit f d i j b).standing = s.standing := by simp [State.setBit]
@[simp] theorem State.flag_standing (s : State) (f : Fld) (d i j : Nat) : (s.flag f d i j).standing = s.standing := by simp [State.flag]
@[simp] theorem State.mapPcs_standing (s : State) (h : Nat) (f : PcSt → PcSt) : (s.mapPcs h f).standing = s.standing := by simp [State.mapPcs]
@[simp] theorem State.endReq_standing (s : State) (r : Req) : (s.endReq r).standing = s.standing := by simp [State.endReq]
@[simp] theorem State.finish_standing (s : State) (r : Req) (st : Status) (data : Block) (poison pkind : BitVec 8) :
    (s.finish r st data poison pkind).standing = s.standing := s.endReq_standing r
@[simp] theorem State.finishBare_standing (s : State) (r : Req) (st : Status) : (s.finishBare r st).standing = s.standing := by simp [State.finishBare]
@[simp] theorem State.counterUp_standing (s : State) (bank k n : Nat) : (s.counterUp bank k n).standing = s.standing := by simp [State.counterUp]
@[simp] theorem State.tally_standing (s : State) (bank ev : Nat) (unit : Option Nat) (subs : List Nat) (cas : Option Nat) (n : Nat) :
    (s.tally bank ev unit subs cas n).standing = s.standing := by
  simp [State.tally]
@[simp] theorem State.pushTrace_standing (s : State) (h : Nat) (r : TraceRec) : (s.pushTrace h r).standing = s.standing := by simp [State.pushTrace]
@[simp] theorem State.traceHub_standing (s : State) (h typ cas unit : Nat) (payload : List Nat) : (s.traceHub h typ cas unit payload).standing = s.standing := by
  simp [State.traceHub]
@[simp] theorem State.storeWord_standing (s : State) (key : Nat) (data : BitVec 256) (chk : BitVec 32) : (s.storeWord key data chk).standing = s.standing := by
  simp [State.storeWord]
@[simp] theorem State.storeSector_standing (s : State) (key : Nat) (data : BitVec 256) : (s.storeSector key data).standing = s.standing := by simp [State.storeSector]
@[simp] theorem State.storePoison_standing (s : State) (key : Nat) : (s.storePoison key).standing = s.standing := by simp [State.storePoison]
@[simp] theorem State.logPut_standing (s : State) (h e : Nat) (x : LogEnt) : (s.logPut h e x).standing = s.standing := by simp [State.logPut]
@[simp] theorem State.logDrop_standing (s : State) (h : Nat) : (s.logDrop h).standing = s.standing := by simp [State.logDrop]
@[simp] theorem State.logEvent_standing (s : State) (h : Nat) (ev : LogEnt) : (s.logEvent h ev).standing = s.standing := by
  simp only [State.logEvent]
  (repeat' split) <;> simp
@[simp] theorem State.bucketUp_standing (s : State) (h p : Nat) (policy : Bool) : (s.bucketUp h p policy).standing = s.standing := by simp [State.bucketUp]
@[simp] theorem State.noteMerge_standing (s : State) (r : Req) (n : Nat) (o : SectorOutcome) : (s.noteMerge r n o).standing = s.standing := by
  unfold State.noteMerge
  split <;> simp
@[simp] theorem State.recordRefusal_standing (s : State) (h door : Nat) (r : Req) (x : DecodeRefusal) : (s.recordRefusal h door r x).standing = s.standing := by
  unfold State.recordRefusal
  split <;> simp
@[simp] theorem State.dropDoor_standing (s : State) (h d : Nat) (gone : Req → Bool) (st : Status) : (s.dropDoor h d gone st).standing = s.standing := by simp [State.dropDoor]
@[simp] theorem State.endDeadLatch_standing (s : State) (h p : Nat) : (s.endDeadLatch h p).standing = s.standing := by
  unfold State.endDeadLatch
  split <;> simp
@[simp] theorem State.dropDoors_standing (s : State) (h : Nat) (gone : Req → Bool) (st : Status) : (s.dropDoors h gone st).standing = s.standing := by simp [State.dropDoors]
@[simp] theorem State.dropRing_standing (s : State) (h : Nat) (gone : Req → Bool) (st : Status) : (s.dropRing h gone st).standing = s.standing := by simp [State.dropRing]
@[simp] theorem State.signal_standing (s : State) (f vec : Nat) : (s.signal f vec).standing = s.standing := by
  unfold State.signal
  split <;> simp
@[simp] theorem State.fnEvent_standing (s : State) (f : Nat) (e : FnEvent) : (s.fnEvent f e).standing = s.standing := by simp [State.fnEvent]
@[simp] theorem State.qwr_standing (s : State) (q : QueueId) (f : Fld) (v : Nat) : (s.qwr q f v).standing = s.standing := by simp [State.qwr]
@[simp] theorem State.setCmd_standing (s : State) (q : QueueId) (c : Cmd) : (s.setCmd q c).standing = s.standing := by simp [State.setCmd]
@[simp] theorem State.signalQueue_standing (s : State) (q : QueueId) : (s.signalQueue q).standing = s.standing := by
  unfold State.signalQueue
  split <;> simp
@[simp] theorem State.stopQueue_standing (s : State) (q : QueueId) (st : Status) : (s.stopQueue q st).standing = s.standing := by simp [State.stopQueue]
@[simp] theorem State.endCmd_standing (s : State) (q : QueueId) (idx : Nat) (st : Status) : (s.endCmd q idx st).standing = s.standing := by
  unfold State.endCmd
  split <;> simp
@[simp] theorem State.coverPending_standing (s : State) (pl : Place) (m : BitVec 32) : (s.coverPending pl m).standing = s.standing := by simp [State.coverPending]
@[simp] theorem State.pokeSector_standing (s : State) (pl : Place) (data : BitVec 256) (m : BitVec 32) : (s.pokeSector pl data m).1.standing = s.standing := by
  unfold State.pokeSector
  (repeat' split) <;> simp
@[simp] theorem State.pass_standing (s : State) (v : Via) (r : Req) (first : Bool) : (s.pass v r first).standing = s.standing := by
  unfold State.pass
  (repeat' split) <;> simp
@[simp] theorem State.storeBytes_standing (s : State) (v : Via) (addr : Nat) (data : BitVec 256) (m : BitVec 32) (bad first : Bool) :
    (s.storeBytes v addr data m bad first).1.standing = s.standing := by
  unfold State.storeBytes
  (repeat' split) <;> simp
@[simp] theorem State.hubImage_standing (s : State) (h state code frame : Nat) : (s.hubImage h state code frame).standing = s.standing := by simp [State.hubImage]
@[simp] theorem State.imageState_standing (s : State) (state kind : Nat) : (s.imageState state kind).standing = s.standing := by simp [State.imageState]
@[simp] theorem State.imageStatus_standing (s : State) (state kind code frame hub : Nat) : (s.imageStatus state kind code frame hub).standing = s.standing := by
  simp [State.imageStatus]
@[simp] theorem State.rejectImage_standing (s : State) (kind : Nat) (e : LoadErr) (found : List (Nat × Nat)) : (s.rejectImage kind e found).standing = s.standing := by
  simp [State.rejectImage]
@[simp] theorem State.setTicks_standing (s : State) : s.setTicks.standing = s.standing := by simp [State.setTicks]
@[simp] theorem State.stage_standing (s : State) (c : Change) : (s.stage c).standing = s.standing := by simp [State.stage]
@[simp] theorem State.beginPartial_standing (s : State) : s.beginPartial.standing = s.standing := by
  simp only [State.beginPartial]
  (repeat' split) <;> simp
@[simp] theorem State.endLayout_standing (s : State) (code : Nat) : (s.endLayout code).standing = s.standing := by simp [State.endLayout]
@[simp] theorem State.beginLayout_standing (s : State) : s.beginLayout.standing = s.standing := by simp [State.beginLayout]
@[simp] theorem State.startHeld_standing (s : State) : s.startHeld.standing = s.standing := by simp [State.startHeld]
@[simp] theorem State.endImage_standing (s : State) (code : Nat) : (s.endImage code).standing = s.standing := by simp [State.endImage]
@[simp] theorem State.abortLayout_standing (s : State) (code : Nat) : (s.abortLayout code).standing = s.standing := by simp [State.abortLayout]
@[simp] theorem State.abortFor_standing (s : State) (c : Nat) : (s.abortFor c).standing = s.standing := by simp [State.abortFor]
@[simp] theorem State.writeRecord_standing (s : State) (q : QueueId) (c : Cmd) (st : Status) : (s.writeRecord q c st).1.standing = s.standing := by
  simp only [State.writeRecord]
  (repeat' split) <;> simp
@[simp] theorem State.stopKernel_standing (s : State) (x : KernelSt) (st : Status) : (s.stopKernel x st).standing = s.standing := by simp [State.stopKernel]
@[simp] theorem State.recordFault_standing (s : State) (p : CorePos) (st : Status) (ip : Nat) : (s.recordFault p st ip).standing = s.standing := by simp [State.recordFault]
@[simp] theorem State.sendUp_standing (s : State) (d : Nat) (m : AkReq) : (s.sendUp d m).standing = s.standing := by simp [State.sendUp]
@[simp] theorem State.sendStream_standing (s : State) (p : CorePos) : (s.sendStream p).standing = s.standing := by
  simp only [State.sendStream]
  (repeat' split) <;> simp
@[simp] theorem State.endStream_standing (s : State) (p : CorePos) (tag : Nat) : (s.endStream p tag).standing = s.standing := by simp [State.endStream]
@[simp] theorem State.streamAnswer_standing (s : State) (p : CorePos) (tag : Nat) (st : Status) (data : Block) (marks pkind : BitVec 8) :
    (s.streamAnswer p tag st data marks pkind).standing = s.standing := by
  simp only [State.streamAnswer]
  (repeat' split) <;> simp
@[simp] theorem State.ptcDrop_standing (s : State) (line : Nat) : (s.ptcDrop line).standing = s.standing := by simp [State.ptcDrop]
@[simp] theorem State.pteWrite_standing (s : State) (h : Nat) (cls : ReqClass) (cas pt n : Nat) (e : Pte) : (s.pteWrite h cls cas pt n e).1.standing = s.standing := by
  simp [State.pteWrite]
@[simp] theorem State.answerDie_standing (s : State) (d : Nat) (m : AkRsp) : (s.answerDie d m).standing = s.standing := by simp [State.answerDie]
@[simp] theorem State.dropCopy_standing (s : State) (c : CopySt) : (s.dropCopy c).standing = s.standing := by simp [State.dropCopy]
@[simp] theorem State.undoCopy_standing (s : State) (c : CopySt) : (s.undoCopy c).standing = s.standing := by simp [State.undoCopy]
@[simp] theorem State.undoCopies_standing (s : State) (p : CopySt → Bool) : (s.undoCopies p).standing = s.standing := by simp [State.undoCopies]
@[simp] theorem State.freeExpander_standing (s : State) (key : Nat) (st : Status) : (s.freeExpander key st).standing = s.standing := by simp [State.freeExpander]
@[simp] theorem State.freeExpanders_standing (s : State) (who : ExpSt → Bool) (st : Status) : (s.freeExpanders who st).standing = s.standing := by simp [State.freeExpanders]
@[simp] theorem State.sweepColls_standing (s : State) : s.sweepColls.standing = s.standing := by simp [State.sweepColls]
@[simp] theorem State.endColl_standing (s : State) (q : QueueId) (idx : Nat) (st : Status) : (s.endColl q idx st).standing = s.standing := by simp [State.endColl]
@[simp] theorem State.freeSlot_standing (s : State) (f k : Nat) : (s.freeSlot f k).standing = s.standing := by
  unfold State.freeSlot
  split <;> simp
@[simp] theorem State.freeSlots_standing (s : State) (f : Nat) : (s.freeSlots f).standing = s.standing := by simp [State.freeSlots]
@[simp] theorem State.stopRecorders_standing (s : State) (c : Nat) : (s.stopRecorders c).standing = s.standing := by simp [State.stopRecorders]
@[simp] theorem State.cutColls_standing (s : State) (q : QueueId) : (s.cutColls q).standing = s.standing := by simp [State.cutColls]
@[simp] theorem State.cutPgWaits_standing (s : State) (c : Nat) : (s.cutPgWaits c).standing = s.standing := by simp [State.cutPgWaits]
@[simp] theorem State.resetQueue_standing (s : State) (q : QueueId) : (s.resetQueue q).standing = s.standing := by simp [State.resetQueue]
@[simp] theorem State.closeQueue_standing (s : State) (q : QueueId) : (s.closeQueue q).standing = s.standing := by simp [State.closeQueue]
@[simp] theorem State.resetVectors_standing (s : State) (c : Nat) : (s.resetVectors c).standing = s.standing := by
  unfold State.resetVectors
  split <;> simp
@[simp] theorem State.resetSync_standing (s : State) (c : Nat) : (s.resetSync c).standing = s.standing := by simp [State.resetSync]

end Sys2Proof.Machine
end

section
/-! SUPPORT. How a casement reset starts and ends, who asks for one, and the window base (R105 to R107, R123, R334, R376). -/

namespace Sys2Proof.Machine

/-! ## What a start keeps (R106, R107) -/

/-- What a start of casement resets leaves: the configuration, the boot state and the functions as they are, and every reset that runs. -/
structure State.StillStands (s t : State) : Prop where
  cfg : t.cfg = s.cfg
  boot : t.boot = s.boot
  pf2 : t.pf2 = s.pf2
  fns : t.fns = s.fns
  resetting : ∀ k, s.isResetting k = true → t.isResetting k = true

theorem State.StillStands.refl (s : State) : s.StillStands s := ⟨rfl, rfl, rfl, rfl, fun _ h => h⟩

theorem State.StillStands.trans {s t u : State} (h : s.StillStands t) (g : t.StillStands u) : s.StillStands u :=
  ⟨g.cfg.trans h.cfg, g.boot.trans h.boot, g.pf2.trans h.pf2, g.fns.trans h.fns, fun k hk => g.resetting k (h.resetting k hk)⟩

theorem State.StillStands.draining {s t : State} (h : s.StillStands t) : t.draining = s.draining := by rw [State.draining, h.pf2, h.boot, State.draining]

theorem State.casementCfg_congr {s t : State} (h : t.cfg = s.cfg) (c : Nat) : t.casementCfg c = s.casementCfg c := by
  simp only [State.casementCfg, State.casements, State.frames, h]

theorem State.ownerOf_congr {s t : State} (h : t.cfg = s.cfg) (q : QueueId) : t.ownerOf q = s.ownerOf q := by
  simp only [State.ownerOf, State.casements, State.frames, h]

theorem State.StillStands.foldl {α : Type} {F : State → α → State} (hF : ∀ (t : State) x, t.StillStands (F t x)) (l : List α) (s : State) :
    s.StillStands (l.foldl F s) := by
  induction l generalizing s with
  | nil => exact .refl s
  | cons x t ih => exact (hF s x).trans (ih _)

/-- A loop that keeps every reset that runs leaves casement c under reset where its round for c puts it there. -/
theorem foldl_isResetting {F : State → Nat → State} (hF : ∀ (t : State) x, t.StillStands (F t x)) {l : List Nat} {c : Nat} (hm : c ∈ l) {s : State}
    (hc : ∀ t, s.StillStands t → (F t c).isResetting c = true) : (l.foldl F s).isResetting c = true := by
  induction l generalizing s with
  | nil => exact nomatch hm
  | cons x t ih =>
    rcases List.mem_cons.mp hm with rfl | hm
    · exact (State.StillStands.foldl hF t _).resetting _ (hc s (.refl s))
    · exact ih hm fun u hu => hc u ((hF s x).trans hu)

/-- Giving up the waits of some queues leaves the reset waits of the others. -/
theorem foldl_dropWaits_standing (l : List QueueId) (s : State) :
    (l.foldl (fun t q => (t.cutQueue q).dropWaits q) s).standing =
      standing s.cfg s.boot s.pf2 s.resetting s.fns (s.caseWait.filter fun x => !l.contains x.1) := by
  induction l generalizing s with
  | nil => simp
  | cons q t ih =>
    refine (ih _).trans ?_
    simp [State.dropWaits, State.cutQueue, List.filter_filter, Bool.and_comm, bne, beq_eq_decide]

/-- Where no drain is in force, a start puts the casement under reset and gives up the reset waits of its own queues alone. -/
theorem startCasReset_standing {s : State} {c : Nat} (hd : s.draining = false) (hr : s.isResetting c = false) :
    ∃ w, (s.startCasReset c).standing = standing s.cfg s.boot s.pf2 (Tab.put false s.resetting c true) s.fns w ∧
      ∀ x ∈ s.caseWait, (s.ownerOf x.1).map (·.1) ≠ some c → x ∈ w := by
  have habort := standing_inj.mp (State.abortFor_standing ({ s with resetting := Tab.put false s.resetting c true } : State) c)
  generalize hA : ({ s with resetting := Tab.put false s.resetting c true } : State).abortFor c = A at habort
  obtain ⟨hcfg, hboot, hpf2, hres, hfns, hwait⟩ := habort
  refine ⟨A.caseWait.filter fun x => !(A.queuesOfCas c).contains x.1, ?_, fun x hx ho => ?_⟩
  · unfold State.startCasReset
    rw [if_neg (by simp [hd, hr])]
    dsimp only
    rw [hA]
    refine (State.stopRecorders_standing ..).trans <| (State.freeExpanders_standing ..).trans <| (State.cutPgWaits_standing ..).trans <|
      (State.undoCopies_standing ..).trans <| (foldl_standing _ _ _ fun h => by simp).trans <| (foldl_standing _ _ _ fun x => by simp).trans <|
      (foldl_standing _ _ _ fun q => by simp).trans <| (foldl_dropWaits_standing ..).trans ?_
    rw [hcfg, hboot, hpf2, hres, hfns]
  · rw [hwait]
    refine List.mem_filter.mpr ⟨hx, ?_⟩
    rw [Bool.not_eq_true', List.contains_eq_mem, decide_eq_false_iff_not]
    intro hq
    have hown := (List.mem_filter.mp hq).2
    rw [State.ownerOf_congr hcfg] at hown
    exact ho (beq_iff_eq.mp hown)

theorem startCasReset_of_idle {s : State} {c : Nat} (h : (s.draining || s.isResetting c) = true) : s.startCasReset c = s := by
  unfold State.startCasReset
  rw [if_pos h]

theorem startCasReset_stillStands (s : State) (c : Nat) : s.StillStands (s.startCasReset c) := by
  by_cases h : (s.draining || s.isResetting c) = true
  · rw [startCasReset_of_idle h]
    exact .refl s
  · obtain ⟨hd, hr⟩ := Bool.or_eq_false_iff.mp (Bool.eq_false_iff.mpr h)
    obtain ⟨w, hw, -⟩ := startCasReset_standing hd hr
    obtain ⟨hcfg, hboot, hpf2, hres, hfns, -⟩ := standing_inj.mp hw
    refine ⟨hcfg, hboot, hpf2, hfns, fun k hk => ?_⟩
    rw [State.isResetting, hres, Tab.get_put]
    split
    · rfl
    · exact hk

/-- Where no drain is in force, a start leaves its casement under reset. -/
theorem startCasReset_isResetting {s : State} (hd : s.draining = false) (c : Nat) : (s.startCasReset c).isResetting c = true := by
  by_cases hr : s.isResetting c = true
  · exact (startCasReset_stillStands s c).resetting c hr
  · obtain ⟨w, hw, -⟩ := startCasReset_standing hd (Bool.eq_false_iff.mpr hr)
    obtain ⟨-, -, -, hres, -, -⟩ := standing_inj.mp hw
    rw [State.isResetting, hres, Tab.get_put, if_pos rfl]

/-! ## Who asks (R107, R376) -/

theorem caseRst_stillStands (s : State) (v : Nat) : s.StillStands (s.caseRst v) := .foldl (fun t c => startCasReset_stillStands t c) _ s

theorem caseRst_isResetting {s : State} (hd : s.draining = false) {v c : Nat} (hc : c < 32) (hv : v.testBit c = true) : (s.caseRst v).isResetting c = true :=
  foldl_isResetting (fun t c => startCasReset_stillStands t c) (List.mem_filter.mpr ⟨List.mem_range.mpr hc, hv⟩)
    fun _ ht => startCasReset_isResetting (ht.draining.trans hd) c

theorem caseSelfRst_of_casOfFn {s : State} {f c : Nat} (h : s.casOfFn f = some c) : s.caseSelfRst f = s.startCasReset c := by simp only [State.caseSelfRst, h]

theorem State.fnSt_setFn_self (s : State) (f : Nat) (x : FnSt) : (s.setFn f x).fnSt f = x := (Tab.get_put ..).trans (if_pos rfl)

theorem State.StillStands.fnSt {s t : State} (h : s.StillStands t) (f : Nat) : t.fnSt f = s.fnSt f := by rw [State.fnSt, h.fns, State.fnSt]

/-- What a Function Level Reset leaves of its function: everything but the number of its next access at its reset value. -/
theorem resetFn_fnSt (s : State) (f : Nat) : (s.resetFn f).fnSt f = { FnSt.reset with next := (s.fnSt f).next } := s.fnSt_setFn_self ..

/-- One round of the Function Level Reset of the physical function. -/
theorem flr_round_stillStands (t : State) (c : Nat) : t.StillStands (if c = 0 ∨ (t.casementCfg c).isSome then t.startCasReset c else t) := by
  split
  · exact startCasReset_stillStands t c
  · exact .refl t

theorem flr_physical_stillStands (s : State) : (s.resetFn 0).StillStands (s.flr 0) := .foldl flr_round_stillStands _ _

/-- The Function Level Reset of the physical function puts casement 0 and every casement that the configuration declares under reset. -/
theorem flr_physical_isResetting {s : State} (hd : s.draining = false) {c : Nat} (hc : c < 32) (hcas : c = 0 ∨ (s.casementCfg c).isSome = true) :
    (s.flr 0).isResetting c = true := by
  unfold State.flr
  rw [if_pos rfl]
  refine foldl_isResetting flr_round_stillStands (List.mem_range.mpr hc) fun t ht => ?_
  have hcfg : t.casementCfg c = s.casementCfg c := State.casementCfg_congr ht.cfg c
  rw [if_pos (by rwa [hcfg])]
  exact startCasReset_isResetting (ht.draining.trans hd) c

theorem flr_virtual {s : State} {f c : Nat} (hf : f ≠ 0) (h : s.casOfFn f = some c) : s.flr f = (s.resetFn f).startCasReset c := by
  rw [State.flr, if_neg hf]
  exact caseSelfRst_of_casOfFn h

theorem flrRequest_physical {s : State} (hl : s.linkUp = true) (hh : s.hostReady = true) : s.flrRequest 0 = s.flr 0 := by simp [State.flrRequest, hl, hh]

theorem flrRequest_virtual {s : State} (f : Nat) (hl : s.linkUp = true) (hb : s.boot.stage = .running) (hv : (s.fnSt 0).vfEnable = true) : s.flrRequest f = s.flr f := by
  simp [State.flrRequest, State.hostReady, hl, hb, hv]

/-! ## The completion (R105, R106, R334) -/

/-- A completion's registers and vectors: the queues of the casement close, its vectors, counters and window base take their Reset values. -/
def State.closeCas (s : State) (c : Nat) : State :=
  (((s.queuesOfCas c).foldl (fun t q => t.closeQueue q) s).resetVectors c).resetSync c |>.wr .SVC_WIN_BASE_BASE 0 c 0 0

theorem closeCas_cfg (s : State) (c : Nat) : (s.closeCas c).cfg = s.cfg := by
  have h : (s.closeCas c).standing = s.standing := by
    show (((s.queuesOfCas c).foldl (fun t q => t.closeQueue q) s).resetVectors c |>.resetSync c).standing = s.standing
    refine (State.resetSync_standing ..).trans ((State.resetVectors_standing ..).trans (foldl_standing _ _ _ fun q => by simp))
  exact (standing_inj.mp h).1

/-- Writing a field of each unit of a list leaves the value at every unit of the list. -/
theorem foldl_wr_rd (f : Fld) (d v : Nat) (l : List Nat) {k : Nat} (s : State) (hk : k ∈ l ∨ s.rd f d k 0 = v) : (l.foldl (fun t n => t.wr f d n 0 v) s).rd f d k 0 = v := by
  induction l generalizing s with
  | nil => exact hk.resolve_left (by simp)
  | cons n t ih =>
    refine ih _ ?_
    by_cases hn : n = k
    · exact .inr (hn ▸ s.rd_wr_self ..)
    · refine hk.imp (fun h => (List.mem_cons.mp h).resolve_left (Ne.symm hn)) fun h => ?_
      rw [State.rd_wr, if_neg (fun e => hn e.2.2.1)]
      exact h

theorem closeCas_sync (s : State) (c : Nat) {k : Nat} (hk : k < 16) : (s.closeCas c).rd .SYNC_CNT_VALUE c k 0 = 0 := by
  unfold State.closeCas
  rw [State.rd_wr_fld _ (by decide)]
  exact foldl_wr_rd _ _ _ _ _ (.inl (List.mem_range.mpr hk))

theorem closeCas_window (s : State) (c : Nat) : (s.closeCas c).rd .SVC_WIN_BASE_BASE 0 c 0 = 0 := State.rd_wr_self ..

theorem State.fnOfCas_congr {s t : State} (h : t.cfg = s.cfg) (c : Nat) : t.fnOfCas c = s.fnOfCas c := by
  rw [State.fnOfCas, State.casementCfg_congr h, State.fnOfCas]

theorem freeSlots_cfg (s : State) (f : Nat) : (s.freeSlots f).cfg = s.cfg := (standing_inj.mp (State.freeSlots_standing s f)).1

/-- The casement leaves reset, once its own state is closed. -/
def State.leaveReset (s : State) (c : Nat) : State := { s with resetting := Tab.put false s.resetting c false }

theorem leaveReset_cfg (s : State) (c : Nat) : (s.leaveReset c).cfg = s.cfg := rfl

theorem leaveReset_rd (s : State) (c : Nat) (f : Fld) (d i j : Nat) : (s.leaveReset c).rd f d i j = s.rd f d i j := rfl

/-- The completion, as its steps. -/
theorem casResetComplete_eq {s : State} {c f : Nat} (hr : s.isResetting c = true) (hidle : s.casIdle c = true) (hf : s.fnOfCas c = some f) :
    s.casResetComplete c = ((((s.closeCas c).freeSlots f).leaveReset c).fnEvent f .resetDone).casWaiters c := by
  have h1 : (s.closeCas c).fnOfCas c = some f := (State.fnOfCas_congr (closeCas_cfg s c) c).trans hf
  have h2 : (((s.closeCas c).freeSlots f).leaveReset c).fnOfCas c = some f := (State.fnOfCas_congr ((leaveReset_cfg ..).trans (freeSlots_cfg ..)) c).trans h1
  unfold State.casResetComplete State.leaveReset State.closeCas
  unfold State.leaveReset State.closeCas at h2
  unfold State.closeCas at h1
  rw [if_pos (by simp [hr, hidle])]
  simp only [h1, h2]

theorem casResetComplete_of_busy {s : State} {c : Nat} (h : s.casIdle c = false) : s.casResetComplete c = s := by simp [State.casResetComplete, h]

/-- The fields that the end of a command may write: the count of lost trace records, and why its queue stopped. -/
def endFlds : List Fld := [.TRC_STATUS_LOST, .QUEUE_STATE_STOPPED, .QUEUE_STATE_CAUSE]

theorem stopQueue_regsBut (s : State) (q : QueueId) (st : Status) : s.RegsBut (s.stopQueue q st) endFlds := by
  have hmark : s.RegsBut ((s.qwr q .QUEUE_STATE_STOPPED 1).qwr q .QUEUE_STATE_CAUSE (Config.statusCode st)) endFlds :=
    (State.RegsBut.wr (.refl s _) (by decide)).wr (by decide)
  have hsignal : ∀ t : State, t.RegsBut (t.signalQueue q) endFlds := fun t => by
    unfold State.signalQueue
    split
    · exact fun _ _ _ _ _ => signal_rd ..
    · exact .refl t _
  unfold State.stopQueue
  dsimp only
  split
  · exact hmark.trans (hsignal _)
  · exact hmark

theorem endCmd_regsBut (s : State) (q : QueueId) (idx : Nat) (st : Status) : s.RegsBut (s.endCmd q idx st) endFlds := by
  unfold State.endCmd
  split
  · exact .refl s _
  · next x _ =>
    have hset : s.RegsBut (s.setCmd q { x with ended := some st, flight := 0 }) endFlds := fun _ _ _ _ _ => rfl
    have htrace : ∀ (t : State) (r : TraceRec), t.RegsBut (t.pushTrace q.inst.val r) endFlds := fun t r => (pushTrace_traced t _ r).2.mono (by decide)
    dsimp only
    split
    · exact .refl s _
    · split
      · refine State.RegsBut.trans ?_ (stopQueue_regsBut _ _ _)
        split
        · exact hset.trans (htrace _ _)
        · exact hset
      · split
        · exact hset.trans (htrace _ _)
        · exact hset

theorem casWaiters_regsBut (s : State) (c : Nat) : s.RegsBut (s.casWaiters c) endFlds := by
  have hstart : s.RegsBut { s with caseWait := s.caseWait.filter fun x => x.2.2 != c } endFlds := fun _ _ _ _ _ => rfl
  have hends := State.RegsBut.foldl (F := fun t (x : QueueId × Nat × Nat) => t.endCmd x.1 x.2.1 .done) (fun t x => endCmd_regsBut t x.1 x.2.1 .done)
    (s.caseWait.filter fun x => x.2.2 == c) { s with caseWait := s.caseWait.filter fun x => x.2.2 != c }
  exact hstart.trans hends

theorem casWaiters_cfg (s : State) (c : Nat) : (s.casWaiters c).cfg = s.cfg ∧ (s.casWaiters c).resetting = s.resetting := by
  have h : (s.casWaiters c).standing = ({ s with caseWait := s.caseWait.filter fun x => x.2.2 != c } : State).standing := foldl_standing _ _ _ fun x => by simp
  obtain ⟨hcfg, -, -, hres, -, -⟩ := standing_inj.mp h
  exact ⟨hcfg, hres⟩

theorem freeSlot_regsBut (s : State) (f k : Nat) : s.RegsBut (s.freeSlot f k) [.CNT_CFG_ENABLE] := by
  unfold State.freeSlot
  split
  · exact fun g d i j hg => s.rd_wr_fld fun e => hg (List.mem_singleton.mpr e.symm)
  · exact .refl s _

/-- Freeing a function's counters leaves every register but theirs. -/
theorem freeSlots_rd (s : State) (n : Nat) {f : Fld} (hc : f ≠ .CNT_CFG_ENABLE) (hf : ((fieldsOf .FN_CNT_CFG).any fun r => r.f == f) = false) (d i j : Nat) :
    (s.freeSlots n).rd f d i j = s.rd f d i j := by
  have hslots := State.RegsBut.foldl (fun t k => freeSlot_regsBut t n k) (List.range 64) s f d i j (by simpa using hc)
  simp only [State.freeSlots, State.rd, RegFile.keep] at hslots ⊢
  rw [regFind_filter _ (fun k => !(k.d == n && (fieldsOf .FN_CNT_CFG).any fun r => r.f == k.f)), if_pos (by simp [hf]), hslots]

/-- What the completion leaves: the casement out of reset, its counters and window base at 0, RESET_DONE of its function, and the configuration. -/
theorem casResetComplete_leaves {s : State} {c f : Nat} (hr : s.isResetting c = true) (hidle : s.casIdle c = true) (hf : s.fnOfCas c = some f) :
    (s.casResetComplete c).isResetting c = false ∧ (∀ k < 16, (s.casResetComplete c).rd .SYNC_CNT_VALUE c k 0 = 0) ∧
      (s.casResetComplete c).rd .SVC_WIN_BASE_BASE 0 c 0 = 0 ∧ (s.casResetComplete c).rd .FN_EVENT_STATUS_RESET_DONE f 0 0 = 1 ∧ (s.casResetComplete c).cfg = s.cfg := by
  rw [casResetComplete_eq hr hidle hf]
  generalize ht : ((s.closeCas c).freeSlots f).leaveReset c = t
  have hclosed : ∀ (g : Fld) (d i : Nat), g ≠ .CNT_CFG_ENABLE → ((fieldsOf .FN_CNT_CFG).any fun r => r.f == g) = false → g ∉ fnEventFlds → g ∉ endFlds →
      ((t.fnEvent f .resetDone).casWaiters c).rd g d i 0 = (s.closeCas c).rd g d i 0 := fun g d i hcnt hslot hev htrc => by
    rw [casWaiters_regsBut _ _ g d i 0 htrc, (fnEvent_told t f .resetDone).2 g d i 0 hev, ← ht, leaveReset_rd]
    exact freeSlots_rd _ f hcnt hslot d i 0
  obtain ⟨hwcfg, hwres⟩ := casWaiters_cfg (t.fnEvent f .resetDone) c
  obtain ⟨hecfg, -, -, heres, -, -⟩ := standing_inj.mp (State.fnEvent_standing t f .resetDone)
  refine ⟨?_, fun k hk => ?_, ?_, ?_, ?_⟩
  · rw [State.isResetting, hwres, heres, ← ht, State.leaveReset, Tab.get_put, if_pos rfl]
  · rw [hclosed _ _ _ (by decide) (by decide) (by decide) (by decide), closeCas_sync s c hk]
  · rw [hclosed _ _ _ (by decide) (by decide) (by decide) (by decide), closeCas_window]
  · rw [casWaiters_regsBut _ _ _ _ _ _ (by decide)]
    exact (fnEvent_rd t f f .resetDone).trans (if_pos rfl)
  · rw [hwcfg, hecfg, ← ht, leaveReset_cfg, freeSlots_cfg, closeCas_cfg]

/-! ## The window base (R123) -/

theorem writeReg_svcWinBase (s : State) (c v : Nat) :
    s.writeReg { reg := .SVC_WIN_BASE, d := 0, i := c, j := 0 } .whole v = .inl (s.wr .SVC_WIN_BASE_BASE 0 c 0 (v / 2 ^ 21 % 2 ^ 27)) := by
  simp [State.writeReg, State.outOfRange, State.writeActs, State.setFields, State.setField, fieldsOf, State.imageAfter, Part.over, Part.touches, FieldRow.of, RegAt.key, inRange]
  exact decide_eq_true (by omega)

theorem exec_svcWinBase {s : State} (hi : s.Idle) (c : Casement) (v : Word) :
    exec (.svcWinBase c v) s = .next (s.wr .SVC_WIN_BASE_BASE 0 c.val 0 (v.toNat / 2 ^ 21 % 2 ^ 27)) := by
  have h : exec (.svcWinBase c v) s = .next (s.settleWrite (svcAccess (0x5000 + 8 * c.val) 8) (s.writeReg { reg := .SVC_WIN_BASE, d := 0, i := c.val, j := 0 } .whole v.toNat)).done := rfl
  rw [h, writeReg_svcWinBase, State.settleWrite, (State.RegsOnly.wr (.refl s)).done hi]

/-- Settles O31: every way to ask comes down to the start of one casement, and the completion is its steps. -/
theorem casementResetStartsAndEnds : Obligations.CasementResetStartsAndEnds := by
  refine ⟨fun s v c hc hv hd => ?_, fun s f c hf hd => ⟨?_, fun hne hl hb hvf => ?_⟩, fun s hl hh hd => ?_, fun s c f hr hf => ⟨fun hidle => ?_, fun hidle => ?_⟩, fun s c v hi => ?_⟩
  · exact ⟨s.caseRst v.toNat, rfl, caseRst_isResetting hd hc hv, (caseRst_stillStands s _).cfg, by simp, by simp⟩
  · refine ⟨s.caseSelfRst f.val, rfl, ?_⟩
    rw [caseSelfRst_of_casOfFn hf]
    exact ⟨startCasReset_isResetting hd c, (startCasReset_stillStands s c).cfg, by simp, by simp⟩
  · have hstands := startCasReset_stillStands (s.resetFn f.val) c
    have hfn := (hstands.fnSt f.val).trans (resetFn_fnSt s f.val)
    refine ⟨s.flrRequest f.val, rfl, ?_⟩
    rw [flrRequest_virtual f.val hl hb hvf, flr_virtual (fun e => hne (Fin.ext e)) hf, hfn]
    exact ⟨startCasReset_isResetting (s := s.resetFn f.val) hd c, rfl, rfl, rfl, hstands.cfg, by simp, by simp⟩
  · have hstands := flr_physical_stillStands s
    have hfn := (hstands.fnSt 0).trans (resetFn_fnSt s 0)
    refine ⟨s.flrRequest 0, rfl, ?_⟩
    rw [flrRequest_physical hl hh, hfn]
    exact ⟨flr_physical_isResetting hd (by decide) (.inl rfl), fun c hc hcas => flr_physical_isResetting hd hc (.inr hcas), rfl, rfl, hstands.cfg, by simp, by simp⟩
  · obtain ⟨hres, hsync, hwin, hdone, hcfg⟩ := casResetComplete_leaves hr hidle hf
    exact ⟨s.casResetComplete c.val, rfl, hres, hsync, hwin, hdone, hcfg, by simp, by simp⟩
  · exact congrArg (Host.Outcome.next ∘ State.done) (casResetComplete_of_busy hidle)
  · exact ⟨_, exec_svcWinBase hi c v, s.rd_wr_self .., fun c' hne => by rw [s.rd_wr, if_neg (by simp [Ne.symm hne])], State.RegsBut.wr (.refl s _) (List.mem_singleton.mpr rfl), rfl⟩

end Sys2Proof.Machine
end

section
/-! SUPPORT. The commands of the hubs: how a command starts, what its end leaves, and the work of each (R232, R237, R257, R260, R271, R275, R330). -/

namespace Sys2Proof.Machine

/-! ## How a command starts (R317, R330) -/

theorem firstStatus_none {l : List Status} (h : firstStatus l = none) : l = [] := by
  cases l with
  | nil => rfl
  | cons a t => exact nomatch h

/-- The next command of a queue has neither started nor ended. -/
theorem nextCmd_waits {x : QSt} {c : Cmd} (h : x.nextCmd = some c) : c.started = false ∧ c.ended = none := by
  simpa using List.find?_some h

theorem cmd_of_nextCmd {s : State} {q : QueueId} {c : Cmd} (h : (s.queue q).nextCmd = some c) : ∃ d, s.cmd q c.idx = some d := by
  refine Option.isSome_iff_exists.mp (List.find?_isSome.mpr ⟨c, List.mem_of_find?_eq_some h, by simp⟩)

theorem cmd_idx {s : State} {q : QueueId} {c : Cmd} {idx : Nat} (h : s.cmd q idx = some c) : c.idx = idx := by simpa using List.find?_some h

/-- The state at which a command begins differs in its engine's rotation and in its queue alone. -/
theorem atStart_parts (s : State) (q : QueueId) (c : Cmd) : ∃ T Q, s.atStart q c = { s with turns := T, queues := Q } := ⟨_, _, rfl⟩

section
variable (s : State) (q : QueueId) (c : Cmd)

theorem atStart_mem : (s.atStart q c).mem = s.mem := by
  obtain ⟨T, Q, h⟩ := atStart_parts s q c
  rw [h]

theorem atStart_pcs : (s.atStart q c).pcs = s.pcs := by
  obtain ⟨T, Q, h⟩ := atStart_parts s q c
  rw [h]

theorem atStart_doors : (s.atStart q c).doors = s.doors := by
  obtain ⟨T, Q, h⟩ := atStart_parts s q c
  rw [h]

theorem atStart_fuse : (s.atStart q c).fuse = s.fuse := by
  obtain ⟨T, Q, h⟩ := atStart_parts s q c
  rw [h]

theorem atStart_hinge : (s.atStart q c).hinge = s.hinge := by
  obtain ⟨T, Q, h⟩ := atStart_parts s q c
  rw [h]

theorem atStart_cfg : (s.atStart q c).cfg = s.cfg := by
  obtain ⟨T, Q, h⟩ := atStart_parts s q c
  rw [h]

theorem atStart_pc (h p : Nat) : (s.atStart q c).pc h p = s.pc h p := by rw [State.pc, atStart_pcs, State.pc]

theorem atStart_hingeVerdict (n : Nat) : (s.atStart q c).hingeVerdict n = s.hingeVerdict n := by
  obtain ⟨T, Q, h⟩ := atStart_parts s q c
  rw [h]
  rfl

end

theorem atStart_cmd {s : State} {q : QueueId} {c : Cmd} (h : (s.queue q).nextCmd = some c) : (s.atStart q c).cmd q c.idx = some (s.begun q c) := by
  obtain ⟨d, hd⟩ := cmd_of_nextCmd h
  exact cmd_setCmd (s := s.served q) (d := s.begun q c) hd

theorem begun_fld (s : State) (q : QueueId) (c : Cmd) (w lo n : Nat) : (s.begun q c).fld w lo n = c.fld w lo n := rfl

theorem begun_ended {s : State} {q : QueueId} {c : Cmd} (h : (s.queue q).nextCmd = some c) : (s.begun q c).ended = none := (nextCmd_waits h).2

section
variable {s : State} {q : QueueId} {c : Cmd} {op : Nat} {own : Cmd → List Status} {run : State → Cmd → State} {detail : Cmd → Status → Nat}

/-- A command that may start and passes its checks does its work. -/
theorem startCmd_of_starts (h : s.Starts q c op own) : s.startCmd q op own run detail = run (s.atStart q c) (s.begun q c) := by
  obtain ⟨hnext, hop, hmay, hv⟩ := h
  unfold State.startCmd
  simp only [hnext, hop, hmay, hv, and_self, if_true]
  rfl

/-- A command that may start and fails a check ends with its status. -/
theorem startCmd_of_refused {st : Status} (hnext : (s.queue q).nextCmd = some c) (hop : c.opcode = op) (hmay : s.mayStart q c = true)
    (hv : s.startVerdict q c (own c) = some st) : s.startCmd q op own run detail = (s.atStart q c).endCmdWith q c.idx st (detail c st) := by
  unfold State.startCmd
  simp only [hnext, hop, hmay, hv, and_self, if_true]
  rfl

/-- What a command that starts has passed. -/
theorem starts_passes (h : s.Starts q c op own) : c.malformed q.engine = false ∧ s.cmdDenied q c = false ∧ own c = [] := by
  obtain ⟨-, -, -, hv⟩ := h
  obtain ⟨hl, hown⟩ := List.append_eq_nil_iff.mp (firstStatus_none hv)
  obtain ⟨hm, hd⟩ := List.append_eq_nil_iff.mp hl
  exact ⟨by simpa using hm, by simpa using hd, hown⟩

/-- A command starts where the engines run: the package is in service, with no drain and no hinge. -/
theorem starts_engineRuns (h : s.mayStart q c = true) : s.engineRuns = true := by
  simp only [State.mayStart, State.canStart, Bool.and_eq_true] at h
  obtain ⟨⟨⟨⟨⟨⟨⟨⟨-, hr⟩, -⟩, -⟩, -⟩, -⟩, -⟩, -⟩, -⟩ := h
  exact hr

end

theorem draining_of_engineRuns {s : State} (h : s.engineRuns = true) : s.draining = false := by
  simp only [State.engineRuns, Bool.and_eq_true, beq_iff_eq, Bool.not_eq_true'] at h
  obtain ⟨⟨⟨-, hst⟩, h2⟩, -⟩ := h
  simp [State.draining, h2, hst]

/-- Only the HUB engine takes the opcodes 0x60 to 0x68. -/
theorem hub_of_not_malformed {c : Cmd} {e : Engine} (h : c.malformed e = false) (hlo : 0x60 ≤ c.opcode) (hhi : c.opcode ≤ 0x68) : e = .hub := by
  simp only [Cmd.malformed, Bool.or_eq_false_iff, Bool.not_eq_false'] at h
  obtain ⟨-, hbit⟩ := h
  unfold classesOf at hbit
  rw [if_neg (by omega)] at hbit
  cases e with
  | hub => rfl
  | matrix => rw [if_neg (by omega)] at hbit; simp at hbit
  | move => dsimp only at hbit; rw [if_neg (by omega)] at hbit; simp at hbit
  | page => dsimp only at hbit; rw [if_neg (by omega)] at hbit; simp at hbit
  | ring => dsimp only at hbit; rw [if_neg (by omega), if_neg (by omega)] at hbit; simp at hbit

/-! ## How a command ends (R322) -/

theorem endCmdWith_queuesOnly (s : State) (q : QueueId) (idx : Nat) (st : Status) (n : Nat) : s.QueuesOnly (s.endCmdWith q idx st n) := by
  unfold State.endCmdWith
  split
  · exact .refl s
  · exact (setCmd_queuesOnly ..).trans (endCmd_queuesOnly ..)

/-- A command that ends with a DETAIL has both, and its words as they were. -/
theorem endCmdWith_cmd {s : State} {q : QueueId} {c : Cmd} {idx : Nat} (hc : s.cmd q idx = some c) (he : c.ended = none) (st : Status) (n : Nat) :
    (s.endCmdWith q idx st n).cmd q idx = some { c with detail := n, ended := some st, flight := 0 } := by
  obtain rfl : c.idx = idx := cmd_idx hc
  have hset := cmd_setCmd (d := { c with detail := n }) hc
  have hended := cmd_setCmd (d := { c with detail := n, ended := some st, flight := 0 }) hset
  obtain ⟨R, T, M, O, h⟩ := endCmd_reported hset he st
  unfold State.endCmdWith
  rw [hc]
  dsimp only
  rw [h]
  exact hended

theorem endCmdWith_endedAs {s : State} {q : QueueId} {c : Cmd} {idx : Nat} (hc : s.cmd q idx = some c) (he : c.ended = none) (st : Status) (n : Nat) :
    (s.endCmdWith q idx st n).EndedAs q idx st :=
  ⟨_, endCmdWith_cmd hc he st n, rfl⟩

/-! ## FENCE_ADD and FENCE_DEL (R257) -/

theorem fenceCommands (s : State) (q : QueueId) (c : Cmd) :
    (s.Starts q c 0x60 fenceChecks →
      (s.fencesUsed < 64 → ∃ u : State, exec (.fenceAdd q) s = .next u.done ∧
        u.staged = s.staged ++ [{ change := .fenceAdd q c.idx (c.fld 1 0 48) (c.fld 2 0 48), ready := [], tick := none }] ∧
        u.fences = s.fences ∧ u.cmd q c.idx = some (s.begun q c) ∧ u.mem = s.mem) ∧
      (64 ≤ s.fencesUsed → ∃ (u : State) (z : Cmd), exec (.fenceAdd q) s = .next u.done ∧ u.cmd q c.idx = some z ∧ z.ended = some .denied ∧ z.detail = 1 ∧
        u.staged = s.staged ∧ u.fences = s.fences)) ∧
    (s.Starts q c 0x61 s.fenceDelChecks → ∃ u : State, exec (.fenceDel q) s = .next u.done ∧
      u.staged = s.staged ++ [{ change := .fenceDel q c.idx (c.fld 1 0 48) (c.fld 2 0 48), ready := [], tick := none }] ∧
      u.fences = s.fences ∧ u.cmd q c.idx = some (s.begun q c) ∧ u.mem = s.mem) ∧
    ((s.queue q).nextCmd = some c → c.opcode = 0x61 → s.mayStart q c = true → (∀ e ∈ s.fences, e.2 ≠ (c.fld 1 0 48, c.fld 2 0 48)) → c.malformed .hub = false →
      s.cmdDenied q c = false → fenceChecks c = [] → q.engine = .hub →
      ∃ u : State, exec (.fenceDel q) s = .next u.done ∧ u.EndedAs q c.idx .badCommand ∧ u.staged = s.staged ∧ u.fences = s.fences) := by
  refine ⟨fun h => ⟨fun hfew => ?_, fun hmany => ?_⟩, fun h => ?_, fun hnext hop hmay hno hm hd hf he => ?_⟩
  · refine ⟨(s.atStart q c).stage (.fenceAdd q c.idx (c.fld 1 0 48) (c.fld 2 0 48)), next_done_congr ?_, rfl, rfl, atStart_cmd h.1, rfl⟩
    exact (startCmd_of_starts h).trans (if_neg (Nat.not_le.mpr hfew))
  · have hz := endCmdWith_cmd (atStart_cmd h.1) (begun_ended h.1) .denied 1
    obtain ⟨R, T, M, O, Q, hQ⟩ := endCmdWith_queuesOnly (s.atStart q c) q c.idx .denied 1
    refine ⟨(s.atStart q c).endCmdWith q c.idx .denied 1, _, next_done_congr ?_, hz, rfl, rfl, ?_, ?_⟩
    · exact (startCmd_of_starts h).trans (if_pos hmany)
    · rw [hQ]; rfl
    · rw [hQ]; rfl
  · exact ⟨(s.atStart q c).stage (.fenceDel q c.idx (c.fld 1 0 48) (c.fld 2 0 48)), next_done_congr (startCmd_of_starts h), rfl, rfl, atStart_cmd h.1, rfl⟩
  · have hv : s.startVerdict q c (s.fenceDelChecks c) = some .badCommand := by
      have hnone : (s.fences.any fun e => e.2 == (c.fld 1 0 48, c.fld 2 0 48)) = false := List.any_eq_false.mpr fun e hm => by simpa using hno e hm
      simp [State.startVerdict, State.fenceDelChecks, he, hm, hd, hf, hnone, firstStatus]
    obtain ⟨R, T, M, O, Q, hQ⟩ := endCmdWith_queuesOnly (s.atStart q c) q c.idx .badCommand 0
    refine ⟨(s.atStart q c).endCmdWith q c.idx .badCommand 0, next_done_congr (startCmd_of_refused hnext hop hmay hv),
      endCmdWith_endedAs (atStart_cmd hnext) (begun_ended hnext) _ _, ?_, ?_⟩
    · rw [hQ]; rfl
    · rw [hQ]; rfl

end Sys2Proof.Machine
end

section
/-! SUPPORT. SCRUB: its next block leaves through door 5, and what follows keeps it there (R260). -/

namespace Sys2Proof.Machine

/-! ## What stands in transit to a door -/

/-- What was in transit to a door still is. -/
def State.KeepsTransit (s t : State) : Prop := ∀ h d, ∀ x ∈ (s.door h d).transit, x ∈ (t.door h d).transit

theorem State.KeepsTransit.refl (s : State) : s.KeepsTransit s := fun _ _ _ h => h

theorem State.KeepsTransit.trans {s t u : State} (h : s.KeepsTransit t) (g : t.KeepsTransit u) : s.KeepsTransit u := fun k d x hx => g k d x (h k d x hx)

theorem keepsTransit_of_doors {s t : State} (h : t.doors = s.doors) : s.KeepsTransit t := fun k d x hx => by
  rw [State.door, h]
  exact hx

theorem State.QueuesOnly.doors {s t : State} (h : s.QueuesOnly t) : t.doors = s.doors := by
  obtain ⟨R, T, M, O, Q, rfl⟩ := h
  rfl

theorem sendDoor_keepsTransit (s : State) (h d : Nat) (r : Req) : s.KeepsTransit (s.sendDoor h d r) := fun g e x hx => by
  rw [State.sendDoor, State.door_setDoor]
  split
  · next hkey =>
    have hdoor : s.door h d = s.door g e := congrArg (Tab.get DoorSt.reset s.doors) hkey
    rw [hdoor]
    exact List.mem_append_left _ hx
  · exact hx

/-- A refusal writes registers alone. -/
theorem recordRefusal_regsOnly (s : State) (h door : Nat) (r : Req) (x : DecodeRefusal) : s.RegsOnly (s.recordRefusal h door r x) := by
  have htally : s.RegsOnly (s.tally h 0x10 none [] (some r.cas) 1) := s.tally_regsOnly h 0x10 none [] (some r.cas) 1
  unfold State.recordRefusal
  split
  · exact htally.count
  · dsimp only
    split
    · exact htally.count.flag
    · exact htally.count.flag.wr.wr.flag
  · dsimp only
    split
    · exact htally.count
    · exact htally.count.wr.wr.wr.wr.flag

theorem recordRefusal_doors (s : State) (h door : Nat) (r : Req) (x : DecodeRefusal) : (s.recordRefusal h door r x).doors = s.doors := by
  rw [(recordRefusal_regsOnly s h door r x).eq]

theorem offer_keepsTransit (s : State) (h door : Nat) (r : Req) (ovr : Option Nat) (may : Bool) : s.KeepsTransit (s.offer h door r ovr may).1 := by
  unfold State.offer
  split
  · exact keepsTransit_of_doors (recordRefusal_doors ..)
  · next x _ =>
    have hbegin : s.KeepsTransit (s.beginReq x).1 := keepsTransit_of_doors rfl
    dsimp only
    refine hbegin.trans ?_
    unfold State.dispatchReq
    split
    · exact sendDoor_keepsTransit _ _ _ _
    · exact keepsTransit_of_doors rfl

theorem keepsTransit_of_offer {s t : State} {h door : Nat} {r : Req} {ovr : Option Nat} {may : Bool} {x : Option Status} (ho : s.offer h door r ovr may = (t, x)) :
    s.KeepsTransit t := by
  have hsent := offer_keepsTransit s h door r ovr may
  rwa [ho] at hsent

/-! ## The blocks of a sweep -/

theorem scrubPump1_keepsTransit (s : State) (q : QueueId) (idx : Nat) : s.KeepsTransit (s.scrubPump1 q idx) := by
  unfold State.scrubPump1
  split
  · exact .refl s
  · split
    · dsimp only
      split
      · exact keepsTransit_of_doors rfl
      · split <;> next ho => exact (keepsTransit_of_offer ho).trans (keepsTransit_of_doors rfl)
    · exact .refl s

theorem scrubPumpN_keepsTransit (s : State) (q : QueueId) (idx n : Nat) : s.KeepsTransit (s.scrubPumpN q idx n) := by
  induction n generalizing s with
  | zero => exact .refl s
  | succ n ih => exact (scrubPump1_keepsTransit s q idx).trans (ih _)

theorem endIfDone_keepsTransit (s : State) (q : QueueId) (idx total : Nat) : s.KeepsTransit (s.endIfDone q idx total) := by
  unfold State.endIfDone
  split
  · exact .refl s
  · dsimp only
    split
    · exact keepsTransit_of_doors (endCmd_doors ..)
    · exact keepsTransit_of_doors rfl

/-- The request of a SCRUB's next block. -/
def State.scrubReq (s : State) (q : QueueId) (c : Cmd) : Req := { s.cmdReq q c c.next (c.scrubBase + 256 * c.next) false with cls := .maint }

theorem scrubPump1_sends {s : State} {q : QueueId} {idx : Nat} {c : Cmd} {x : Req} (hc : s.cmd q idx = some c) (hst : c.started = true) (he : c.ended = none)
    (hf : c.fault = none) (hn : c.next < c.scrubBlocks) (hrun : s.engineRuns = true) (hroom : s.doorRoom q.inst.val 5 .maint = true)
    (hfence : s.fenced (c.scrubBase + 256 * c.next) 256 = false)
    (hd : s.decode q.inst.val { r := s.scrubReq q c, ovr := none, ovrMay := false } = .inr x)
    (hown : x.hub = x.home) : s.scrubPump1 q idx = (s.accept 5 x).setCmd q { c with next := c.next + 1, flight := c.flight + 1 } := by
  unfold State.scrubPump1
  rw [hc]
  dsimp only
  unfold State.scrubReq at hd
  rw [if_pos (by simp [hst, he, hf, hn, hrun, hroom]), if_neg (by simp [hfence]), offer_of_decode hd hown]

/-- A request keeps its class through decode. -/
theorem decode_cls {s : State} {h : Nat} {o : Offer} {x : Req} (hd : s.decode h o = .inr x) : x.cls = o.r.cls := by
  unfold State.decode at hd
  split at hd
  · split at hd
    · cases hd
    split at hd
    · cases hd
    split at hd
    · cases hd
    dsimp only at hd
    split at hd
    · cases hd
    split at hd
    · cases hd
    exact (congrArg Req.cls (Sum.inr.inj hd)).symm
  · cases hd

/-- The work of a SCRUB sends its next block. -/
theorem scrubPump_sends {s : State} {q : QueueId} {idx : Nat} {c : Cmd} {x : Req} (hc : s.cmd q idx = some c) (hst : c.started = true) (he : c.ended = none)
    (hf : c.fault = none) (hn : c.next < c.scrubBlocks) (hrun : s.engineRuns = true) (hroom : s.doorRoom q.inst.val 5 .maint = true)
    (hfence : s.fenced (c.scrubBase + 256 * c.next) 256 = false)
    (hd : s.decode q.inst.val { r := s.scrubReq q c, ovr := none, ovrMay := false } = .inr x)
    (hown : x.hub = x.home) : (s.scrubPump q idx).SentTo q.inst.val 5 (.cmd q c.idx c.next) (c.scrubBase + 256 * c.next) false (s.beginReq x).2 := by
  obtain ⟨hhome, horg, haddr, hwrite, -⟩ := decode_keeps hd
  have hone := scrubPump1_sends hc hst he hf hn hrun hroom hfence hd hown
  have hsent : (s.beginReq x).2 ∈ ((s.scrubPump1 q idx).door q.inst.val 5).transit := by
    rw [hone, ← hhome]
    exact accept_sentTo s 5 x
  have hrest : (s.scrubPump1 q idx).KeepsTransit (s.scrubPump q idx) := by
    unfold State.scrubPump
    rw [hc, show (64 : Nat) = 63 + 1 from rfl, State.scrubPumpN]
    exact (scrubPumpN_keepsTransit _ q idx 63).trans (endIfDone_keepsTransit _ _ _ _)
  exact ⟨hrest _ _ _ hsent, horg, haddr, hwrite⟩

theorem atStart_decode (s : State) (q : QueueId) (c : Cmd) (h : Nat) (o : Offer) : (s.atStart q c).decode h o = s.decode h o := by
  obtain ⟨T, Q, hQ⟩ := atStart_parts s q c
  rw [hQ]
  unfold State.decode
  rfl

theorem atStart_doorRoom (s : State) (q : QueueId) (c : Cmd) (h d : Nat) (k : ReqClass) : (s.atStart q c).doorRoom h d k = s.doorRoom h d k := by
  obtain ⟨T, Q, hQ⟩ := atStart_parts s q c
  rw [hQ]
  unfold State.doorRoom
  rfl

theorem atStart_fenced (s : State) (q : QueueId) (c : Cmd) (a n : Nat) : (s.atStart q c).fenced a n = s.fenced a n := rfl

theorem atStart_casOf (s : State) (q : QueueId) (c : Cmd) (p : QueueId) : (s.atStart q c).casOf p = s.casOf p := rfl

theorem atStart_cmdReq (s : State) (q : QueueId) (c : Cmd) (part addr : Nat) (write : Bool) : (s.atStart q c).cmdReq q (s.begun q c) part addr write = s.cmdReq q c part addr write := by
  have hcls : (s.begun q c).cls = c.cls := rfl
  have hidx : (s.begun q c).idx = c.idx := rfl
  rw [State.cmdReq, atStart_casOf, hcls, hidx, State.cmdReq]

theorem atStart_scrubReq (s : State) (q : QueueId) (c : Cmd) : (s.atStart q c).scrubReq q (s.begun q c) = s.scrubReq q c := by
  have hnext : (s.begun q c).next = c.next := rfl
  have hbase : (s.begun q c).scrubBase = c.scrubBase := rfl
  rw [State.scrubReq, hnext, hbase, atStart_cmdReq, State.scrubReq]

theorem atStart_engineRuns (s : State) (q : QueueId) (c : Cmd) : (s.atStart q c).engineRuns = s.engineRuns := rfl

theorem scrubCommand {s : State} {q : QueueId} {c : Cmd} {r : Req} (h : s.Starts q c 0x62 (s.scrubChecks q)) (hf : c.fault = none) (hn : c.next < c.scrubBlocks)
    (hroom : s.doorRoom q.inst.val 5 .maint = true) (hfence : s.fenced (c.scrubBase + 256 * c.next) 256 = false) (hown : r.hub = r.home)
    (hd : s.decode q.inst.val { r := { s.cmdReq q c c.next (c.scrubBase + 256 * c.next) false with cls := .maint }, ovr := none, ovrMay := false } = .inr r) :
    ∃ (u : State) (x : Req), exec (.scrub q) s = .next u.done ∧ u.SentTo q.inst.val 5 (.cmd q c.idx c.next) (c.scrubBase + 256 * c.next) false x ∧ x.cls = .maint ∧
      x.pc = r.pc ∧ x.bank = r.bank ∧ x.row = r.row ∧ x.col = r.col ∧ u.mem = s.mem := by
  have hrun : (s.atStart q c).engineRuns = true := starts_engineRuns (s := s) h.2.2.1
  have hfound : (s.atStart q c).decode q.inst.val { r := (s.atStart q c).scrubReq q (s.begun q c), ovr := none, ovrMay := false } = .inr r := by
    rw [atStart_scrubReq, atStart_decode]
    exact hd
  have hroom' := (atStart_doorRoom s q c q.inst.val 5 .maint).trans hroom
  have hfence' := (atStart_fenced s q c (c.scrubBase + 256 * c.next) 256).trans hfence
  have hsent := scrubPump_sends (s := s.atStart q c) (c := s.begun q c) (atStart_cmd h.1) rfl (begun_ended h.1) hf hn hrun hroom' hfence' hfound hown
  exact ⟨(s.atStart q c).scrubPump q c.idx, ((s.atStart q c).beginReq r).2, next_done_congr (startCmd_of_starts h), hsent, decode_cls hd, rfl, rfl, rfl, rfl,
    State.scrubPump_mem ..⟩

end Sys2Proof.Machine
end

section
/-! SUPPORT. REPAIR, RETRAIN, MARCH, RELEASE, HINGE and CASE_RESET (R106, R208, R232, R237, R271, R275). -/

namespace Sys2Proof.Machine

theorem endCmd_endedAs {s : State} {q : QueueId} {c : Cmd} {idx : Nat} (hc : s.cmd q idx = some c) (he : c.ended = none) (st : Status) : (s.endCmd q idx st).EndedAs q idx st := by
  obtain rfl : c.idx = idx := cmd_idx hc
  exact (endCmd_endsAs hc he st).1

theorem State.QueuesOnly.mem {s t : State} (h : s.QueuesOnly t) : t.mem = s.mem := by
  obtain ⟨R, T, M, O, Q, rfl⟩ := h
  rfl

theorem State.QueuesOnly.pcs {s t : State} (h : s.QueuesOnly t) : t.pcs = s.pcs := by
  obtain ⟨R, T, M, O, Q, rfl⟩ := h
  rfl

theorem State.QueuesOnly.hinge {s t : State} (h : s.QueuesOnly t) : t.hinge = s.hinge := by
  obtain ⟨R, T, M, O, Q, rfl⟩ := h
  rfl

theorem starts_verdict {s : State} {q : QueueId} {c : Cmd} {op : Nat} {own : Cmd → List Status} (h : s.Starts q c op own) : s.startVerdict q c (own c) = none := h.2.2.2

/-! ## REPAIR (R262, R271) -/

theorem State.port_setPort_self (s : State) (h st : Nat) (x : PortSt) : (s.setPort h st x).port h st = x := (Tab.get_put ..).trans (if_pos rfl)

/-- The next user of a port leaves the repair it holds, whoever that user is. -/
theorem portNext_of_repair {s : State} {h st : Nat} {r : RepairSt} (hr : (s.port h st).repair = some r) (gap : Bool) :
    ∃ n, s.portNext h st gap = s.setPort h st { s.port h st with owner := n } := by
  unfold State.portNext
  dsimp only
  rw [hr]
  dsimp only
  split
  · exact ⟨_, rfl⟩
  · split
    · exact ⟨_, rfl⟩
    · exact ⟨_, rfl⟩

/-- The repair that a REPAIR gives its port. -/
def repairOf (q : QueueId) (c : Cmd) : RepairSt :=
  { q := q, idx := c.idx, pc := c.fld 1 0 7, bank := c.fld 1 7 6, row := c.fld 1 13 18, lane := c.fld 1 31 6, kind := c.fld 1 37 3,
    persist := c.fld 1 40 1 == 1, left := repairOps (c.fld 1 37 3) }

/-- The port with the repair of a REPAIR, before it chooses its user. -/
def State.loadRepair (s : State) (q : QueueId) (c : Cmd) : State :=
  let t := s.setPc q.inst.val (c.fld 1 0 7) { s.pc q.inst.val (c.fld 1 0 7) with wideNext := (s.pc q.inst.val (c.fld 1 0 7)).wideNext ++ [11] }
  t.setPort q.inst.val (stackOf (c.fld 1 0 7)) { t.port q.inst.val (stackOf (c.fld 1 0 7)) with repair := some (repairOf q c) }

theorem runRepair_eq (s : State) (q : QueueId) (c : Cmd) : s.runRepair q c =
    if ((s.loadRepair q c).port q.inst.val (stackOf (c.fld 1 0 7))).owner = 0 then (s.loadRepair q c).portNext q.inst.val (stackOf (c.fld 1 0 7)) false else s.loadRepair q c := rfl

/-- A REPAIR puts its repair into the port of its stack, and writes no queue. -/
theorem runRepair_port (s : State) (q : QueueId) (c : Cmd) : ((s.runRepair q c).port q.inst.val (stackOf (c.fld 1 0 7))).repair = some (repairOf q c) ∧
    (s.runRepair q c).queues = s.queues := by
  have hload : ((s.loadRepair q c).port q.inst.val (stackOf (c.fld 1 0 7))).repair = some (repairOf q c) := by rw [State.loadRepair, State.port_setPort_self]
  have hqueues : (s.loadRepair q c).queues = s.queues := rfl
  rw [runRepair_eq]
  split
  · obtain ⟨n, hn⟩ := portNext_of_repair hload false
    rw [hn, State.port_setPort_self]
    exact ⟨hload, hqueues⟩
  · exact ⟨hload, hqueues⟩

theorem repairCommand {s : State} {q : QueueId} {c : Cmd} (h : s.Starts q c 0x63 (s.repairChecks q)) :
    ((s.port q.inst.val (stackOf (c.fld 1 0 7))).repair ≠ none → exec (.repair q) s = .next s.done) ∧
    ((s.port q.inst.val (stackOf (c.fld 1 0 7))).repair = none → ∃ (u : State) (x : RepairSt), exec (.repair q) s = .next u.done ∧
      (u.port q.inst.val (stackOf (c.fld 1 0 7))).repair = some x ∧ x.q = q ∧ x.idx = c.idx ∧ x.pc = c.fld 1 0 7 ∧
      x.bank = c.fld 1 7 6 ∧ x.row = c.fld 1 13 18 ∧ x.lane = c.fld 1 31 6 ∧ x.kind = c.fld 1 37 3 ∧ x.left = (if c.fld 1 37 3 = 1 then 3 else 2) ∧
      u.cmd q c.idx = some (s.begun q c) ∧ u.mem = s.mem) := by
  have hwaits : s.repairWaits q = (s.port q.inst.val (stackOf (c.fld 1 0 7))).repair.isSome := by
    simp only [State.repairWaits, h.1]
    simp [h.2.1, starts_verdict h]
  refine ⟨fun hr => next_done_congr (if_pos (hwaits.trans (Option.isSome_iff_ne_none.mpr hr))), fun hr => ?_⟩
  obtain ⟨hport, hq⟩ := runRepair_port (s.atStart q c) q (s.begun q c)
  refine ⟨(s.atStart q c).runRepair q (s.begun q c), repairOf q (s.begun q c), next_done_congr ?_, hport, rfl, rfl, rfl, rfl, rfl, rfl, rfl, rfl, ?_, by rw [State.runRepair_mem]; rfl⟩
  · rw [if_neg (by simp [hwaits, hr])]
    exact startCmd_of_starts h
  · rw [State.cmd, State.queue, hq]
    exact atStart_cmd h.1

/-! ## RETRAIN (R232) -/

theorem State.pc_setPc (s : State) (h p k : Nat) (x : PcSt) : (s.setPc h p x).pc h k = if p = k then x else s.pc h k := by
  have hkey : pcKey h p = pcKey h k ↔ p = k := by unfold pcKey; omega
  simp only [State.pc, State.setPc, Tab.get_put, hkey]

theorem engineTraining_pc (s : State) (h p k : Nat) : ((s.engineTraining h p).pc h k).trnRun = if p = k then some { step := 0, start := s.cyc } else (s.pc h k).trnRun := by
  have hpc : (s.engineTraining h p).pc h k = (s.setPc h p { s.pc h p with trnRun := some { step := 0, start := s.cyc } }).pc h k := rfl
  rw [hpc, State.pc_setPc]
  split <;> rfl

theorem engineTraining_busy (s : State) (h p k : Nat) : (s.engineTraining h p).rd .PC_TRN_CTRL_BUSY h k 0 = if p = k then 1 else s.rd .PC_TRN_CTRL_BUSY h k 0 := by
  have hrd : (s.engineTraining h p).rd .PC_TRN_CTRL_BUSY h k 0 = (s.wr .PC_TRN_CTRL_BUSY h p 0 1).rd .PC_TRN_CTRL_BUSY h k 0 := rfl
  rw [hrd, State.rd_wr]
  simp

theorem runRetrain_queues (s : State) (q : QueueId) (c : Cmd) : (s.runRetrain q c).queues = s.queues := rfl

theorem runRetrain_training (s : State) (q : QueueId) (c : Cmd) {k : Nat} (hk : k < 2) :
    ((s.runRetrain q c).pc q.inst.val (c.fld 1 0 7 / 2 * 2 + k)).trnRun = some { step := 0, start := s.cyc } ∧
      (s.runRetrain q c).rd .PC_TRN_CTRL_BUSY q.inst.val (c.fld 1 0 7 / 2 * 2 + k) 0 = 1 := by
  have hcyc : (s.engineTraining q.inst.val (c.fld 1 0 7 / 2 * 2)).cyc = s.cyc := rfl
  unfold State.runRetrain
  dsimp only
  rw [engineTraining_pc, engineTraining_pc, engineTraining_busy, engineTraining_busy, hcyc]
  obtain rfl | rfl : k = 0 ∨ k = 1 := by omega
  · simp
  · simp

theorem retrainCommand {s : State} {q : QueueId} {c : Cmd} (h : s.Starts q c 0x64 (s.retrainChecks q)) :
    (∀ k < 2, (s.pc q.inst.val (c.fld 1 0 7 / 2 * 2 + k)).trnRun ≠ none → exec (.retrain q) s = .next s.done) ∧
    ((∀ k < 2, (s.pc q.inst.val (c.fld 1 0 7 / 2 * 2 + k)).trnRun = none) →
      ∃ u : State, exec (.retrain q) s = .next u.done ∧
        (∀ k < 2, (u.pc q.inst.val (c.fld 1 0 7 / 2 * 2 + k)).trnRun = some { step := 0, start := s.cyc } ∧ u.rd .PC_TRN_CTRL_BUSY q.inst.val (c.fld 1 0 7 / 2 * 2 + k) 0 = 1) ∧
        u.cmd q c.idx = some (s.begun q c) ∧ u.mem = s.mem) := by
  have hwaits : s.retrainWaits q = [0, 1].any fun k => (s.pc q.inst.val (c.fld 1 0 7 / 2 * 2 + k)).trnRun.isSome := by
    simp only [State.retrainWaits, h.1]
    simp [h.2.1, starts_verdict h]
  refine ⟨fun k hk hr => next_done_congr (if_pos ?_), fun hr => ?_⟩
  · rw [hwaits]
    exact List.any_eq_true.mpr ⟨k, by simp; omega, Option.isSome_iff_ne_none.mpr hr⟩
  · have hnot : s.retrainWaits q = false := by
      rw [hwaits]
      refine List.any_eq_false.mpr fun k hk => ?_
      rw [hr k (by simp at hk; omega)]
      simp
    have hpassed : s.startCmd q 0x64 (s.retrainChecks q) (fun t c => t.runRetrain q c) = (s.atStart q c).runRetrain q (s.begun q c) := startCmd_of_starts h
    refine ⟨(s.atStart q c).runRetrain q (s.begun q c), next_done_congr ?_, fun k hk => runRetrain_training (s.atStart q c) q (s.begun q c) hk, ?_, by rw [State.runRetrain_mem]; rfl⟩
    · rw [if_neg (by simp [hnot]), hpassed]
    · rw [State.cmd, State.queue, runRetrain_queues]
      exact atStart_cmd h.1

end Sys2Proof.Machine
end

section
/-! SUPPORT. MARCH, RELEASE, HINGE and CASE_RESET (R106, R208, R237, R275). -/

namespace Sys2Proof.Machine

/-! ## MARCH (R275) -/

/-- The contents of the stacks alone differ. -/
def State.MemOnly (s t : State) : Prop := ∃ M, t = { s with mem := M }

theorem State.MemOnly.refl (s : State) : s.MemOnly s := ⟨_, rfl⟩

theorem State.MemOnly.trans {s t u : State} (h : s.MemOnly t) (g : t.MemOnly u) : s.MemOnly u := by
  obtain ⟨M, rfl⟩ := h
  obtain ⟨M', rfl⟩ := g
  exact ⟨M', rfl⟩

theorem State.MemOnly.queues {s t : State} (h : s.MemOnly t) : t.queues = s.queues := by
  obtain ⟨M, rfl⟩ := h
  rfl

theorem State.MemOnly.foldl {α : Type} {F : State → α → State} (hF : ∀ (t : State) (x : α), t.MemOnly (F t x)) (l : List α) (s : State) : s.MemOnly (l.foldl F s) := by
  induction l generalizing s with
  | nil => exact .refl s
  | cons x t ih => exact (hF s x).trans (ih _)

theorem State.MemOnly.foldl_fst {α β : Type} {F : State × β → α → State × β} (hF : ∀ (r : State × β) x, r.1.MemOnly (F r x).1) (l : List α) (r : State × β) :
    r.1.MemOnly (l.foldl F r).1 := by
  induction l generalizing r with
  | nil => exact .refl _
  | cons x t ih => exact (hF r x).trans (ih _)

theorem marchRow_memOnly (s : State) (h p b row w : Nat) : s.MemOnly (s.marchRow h p b row w).1 := .foldl (fun _ _ => ⟨_, rfl⟩) _ _

/-- A march writes the stacks alone. -/
theorem marchRows_memOnly (s : State) (h p w : Nat) (banks : List Nat) (n r : Nat) : s.MemOnly (s.marchRows h p w banks n r).1 := by
  induction n generalizing s r with
  | zero => exact .refl s
  | succ n ih =>
    have hbanks := State.MemOnly.foldl_fst (F := fun (a : State × Bool) b => let x := a.1.marchRow h p b r w; (x.1, a.2 && x.2))
      (fun a b => marchRow_memOnly a.1 h p b r w) banks (s, true)
    rw [State.marchRows]
    exact hbanks.trans (ih _ _)

theorem march_of_starts {s : State} {q : QueueId} {c : Cmd} (h : s.Starts q c 0x65 (s.marchChecks q)) : s.march q = (s.atStart q c).runMarch q (s.begun q c) := by
  have hrun : s.startCmd q 0x65 (s.marchChecks q) (fun t c => t.runMarch q c) = (s.atStart q c).runMarch q (s.begun q c) := startCmd_of_starts h
  unfold State.march
  rw [hrun, h.1]
  dsimp only
  rw [starts_verdict h, if_neg (by simp)]

/-- A MARCH whose pseudo-channel is in use ends, and ERROR of its stack's port is set. -/
theorem march_of_denied {s : State} {q : QueueId} {c : Cmd} (hnext : (s.queue q).nextCmd = some c) (hop : c.opcode = 0x65) (hmay : s.mayStart q c = true)
    (hd : s.cmdDenied q c = false) (hv : s.startVerdict q c (s.marchChecks q c) = some .denied) :
    s.march q = ((s.atStart q c).endCmdWith q c.idx .denied 0).flag .HUB_1500_STATUS_ERROR q.inst.val (stackOf (c.fld 1 0 7)) 0 := by
  have hend : s.startCmd q 0x65 (s.marchChecks q) (fun t c => t.runMarch q c) = (s.atStart q c).endCmdWith q c.idx .denied 0 := startCmd_of_refused hnext hop hmay hv
  have hcmd := endCmdWith_cmd (atStart_cmd hnext) (begun_ended hnext) .denied 0
  unfold State.march
  rw [hend, hnext]
  dsimp only
  have hstarted : (({ s.begun q c with detail := 0, ended := some .denied, flight := 0 } : Cmd).started && c.opcode == 0x65) = true := by simp [State.begun, hop]
  have hany : (some ({ s.begun q c with detail := 0, ended := some .denied, flight := 0 } : Cmd)).any (fun y => y.started && y.opcode == 0x65) = true := hstarted
  rw [hcmd, hany, if_pos (by simp [hv, hd, (nextCmd_waits hnext).1])]

theorem marchCommand {s : State} {q : QueueId} {c : Cmd} (h : s.Starts q c 0x65 (s.marchChecks q)) :
    let r := (s.atStart q c).marchRows q.inst.val (c.fld 1 0 7) (c.word 2) (s.marchBanks q.inst.val (c.fld 1 0 7) c) (c.fld 1 31 18) (c.fld 1 13 18)
    (r.2 = none → ∃ u : State, exec (.march q) s = .next u.done ∧ u.EndedAs q c.idx .done ∧ u.mem = r.1.mem) ∧
    (∀ row, r.2 = some row → ∃ (u : State) (z : Cmd), exec (.march q) s = .next u.done ∧ u.cmd q c.idx = some z ∧ z.ended = some .uncorrectable ∧ z.detail = row ∧
      u.mem = r.1.mem) := by
  intro r
  have hrun : s.march q = match r.2 with
      | some row => (r.1.setCmd q { s.begun q c with progress := c.fld 1 31 18 }).endCmdWith q c.idx .uncorrectable row
      | none => (r.1.setCmd q { s.begun q c with progress := c.fld 1 31 18 }).endCmd q c.idx .done := march_of_starts h
  have hcmd : (r.1.setCmd q { s.begun q c with progress := c.fld 1 31 18 }).cmd q c.idx = some { s.begun q c with progress := c.fld 1 31 18 } := by
    refine cmd_setCmd (d := { s.begun q c with progress := c.fld 1 31 18 }) (c := s.begun q c) ?_
    have hq : r.1.queues = (s.atStart q c).queues := (marchRows_memOnly ..).queues
    rw [State.cmd, State.queue, hq]
    exact atStart_cmd h.1
  have he : ({ s.begun q c with progress := c.fld 1 31 18 } : Cmd).ended = none := (nextCmd_waits h.1).2
  refine ⟨fun hr => ?_, fun row hr => ?_⟩
  · rw [hr] at hrun
    exact ⟨_, next_done_congr hrun, endCmd_endedAs hcmd he .done, (endCmd_queuesOnly ..).mem⟩
  · rw [hr] at hrun
    exact ⟨_, _, next_done_congr hrun, endCmdWith_cmd hcmd he .uncorrectable row, rfl, rfl, (endCmdWith_queuesOnly ..).mem⟩

theorem marchDenied {s : State} {q : QueueId} {c : Cmd} (hnext : (s.queue q).nextCmd = some c) (hop : c.opcode = 0x65) (hmay : s.mayStart q c = true)
    (hd : s.cmdDenied q c = false) (hv : s.startVerdict q c (s.marchChecks q c) = some .denied) :
    ∃ u : State, exec (.march q) s = .next u.done ∧ u.EndedAs q c.idx .denied ∧ u.rd .HUB_1500_STATUS_ERROR q.inst.val (stackOf (c.fld 1 0 7)) 0 = 1 ∧ u.mem = s.mem :=
  ⟨_, next_done_congr (march_of_denied hnext hop hmay hd hv), endCmdWith_endedAs (atStart_cmd hnext) (begun_ended hnext) .denied 0, State.rd_wr_self ..,
    (endCmdWith_queuesOnly (s.atStart q c) q c.idx .denied 0).mem.trans (atStart_mem ..)⟩

/-! ## RELEASE (R237) -/

/-- What the end of requests touches: the doors, the arbiters, the samplers, the answers and the counts of outstanding requests. -/
def State.RequestEnds (s t : State) : Prop :=
  ∃ D B S A P C, t = { s with doors := D, arbs := B, samplers := S, answers := A, outPane := P, outCas := C }

theorem State.RequestEnds.refl (s : State) : s.RequestEnds s := ⟨_, _, _, _, _, _, rfl⟩

theorem State.RequestEnds.trans {s t u : State} (h : s.RequestEnds t) (g : t.RequestEnds u) : s.RequestEnds u := by
  obtain ⟨D, B, S, A, P, C, rfl⟩ := h
  obtain ⟨D', B', S', A', P', C', rfl⟩ := g
  exact ⟨D', B', S', A', P', C', rfl⟩

theorem State.RequestEnds.foldl {α : Type} {F : State → α → State} (hF : ∀ (t : State) (x : α), t.RequestEnds (F t x)) (xs : List α) (s : State) :
    s.RequestEnds (xs.foldl F s) := by
  induction xs generalizing s with
  | nil => exact .refl s
  | cons x t ih => exact (hF s x).trans (ih _)

theorem finishBare_requestEnds (s : State) (r : Req) (st : Status) : s.RequestEnds (s.finishBare r st) := ⟨_, _, _, _, _, _, rfl⟩

theorem sampleDone_requestEnds (s : State) (e : QEnt) (st : Status) : s.RequestEnds (s.sampleDone e st) := by
  unfold State.sampleDone
  split
  · exact .refl s
  · exact ⟨_, _, _, _, _, _, rfl⟩

theorem dropDoor_requestEnds (s : State) (h d : Nat) (gone : Req → Bool) (st : Status) : s.RequestEnds (s.dropDoor h d gone st) :=
  State.RequestEnds.trans ⟨_, _, _, _, _, _, rfl⟩ (.foldl (fun t r => finishBare_requestEnds t r st) _ _)

theorem endDeadLatch_requestEnds (s : State) (h p : Nat) : s.RequestEnds (s.endDeadLatch h p) := by
  unfold State.endDeadLatch
  split
  · split
    · exact .refl s
    · exact ⟨_, _, _, _, _, _, rfl⟩
  · exact .refl s

/-- A halted pseudo-channel once its queue is emptied. -/
def PcSt.emptied (x : PcSt) : PcSt := { x.unload with queue := [], groups := [], flight := [] }

theorem releasePc_of_halted {s : State} {h p : Nat} (ht : (s.pc h p).trnHalted = true) : (s.setPc h p (s.pc h p).emptied).RequestEnds (s.releasePc h p) := by
  unfold State.releasePc
  rw [if_pos ht]
  exact ((State.RequestEnds.foldl (fun t e => (sampleDone_requestEnds t e _).trans (finishBare_requestEnds ..)) _ _).trans
    (.foldl (fun t d => dropDoor_requestEnds t h d _ _) _ _)).trans (endDeadLatch_requestEnds ..)

theorem releaseCommand {s : State} {q : QueueId} {c : Cmd} (h : s.Starts q c 0x66 (s.releaseChecks q)) :
    ((s.pc q.inst.val (c.fld 1 0 7)).trnHalted = true → ∃ u : State, exec (.release q) s = .next u.done ∧ u.EndedAs q c.idx .done ∧
      (u.pc q.inst.val (c.fld 1 0 7)).queue = [] ∧ (u.pc q.inst.val (c.fld 1 0 7)).groups = [] ∧ (u.pc q.inst.val (c.fld 1 0 7)).trnHalted = true ∧ u.mem = s.mem) ∧
    ((s.pc q.inst.val (c.fld 1 0 7)).trnHalted = false → ∃ u : State, exec (.release q) s = .next u.done ∧ u.EndedAs q c.idx .done ∧ u.pcs = s.pcs ∧ u.doors = s.doors ∧
      u.mem = s.mem) := by
  have hpassed : s.startCmd q 0x66 (s.releaseChecks q) (fun t c => t.runRelease q c) = ((s.atStart q c).releasePc q.inst.val (c.fld 1 0 7)).endCmd q c.idx .done :=
    startCmd_of_starts h
  refine ⟨fun ht => ?_, fun ht => ?_⟩
  · obtain ⟨D, B, S, A, P, C, hrel⟩ := releasePc_of_halted (s := s.atStart q c) (h := q.inst.val) (p := c.fld 1 0 7) (by rwa [atStart_pc])
    have hcmd : ((s.atStart q c).releasePc q.inst.val (c.fld 1 0 7)).cmd q c.idx = some (s.begun q c) := by
      rw [hrel]
      exact atStart_cmd h.1
    have hend := endCmd_queuesOnly ((s.atStart q c).releasePc q.inst.val (c.fld 1 0 7)) q c.idx .done
    have hpc : (((s.atStart q c).releasePc q.inst.val (c.fld 1 0 7)).endCmd q c.idx .done).pc q.inst.val (c.fld 1 0 7) = (s.pc q.inst.val (c.fld 1 0 7)).emptied := by
      have hset : ((s.atStart q c).releasePc q.inst.val (c.fld 1 0 7)).pc q.inst.val (c.fld 1 0 7) = ((s.atStart q c).pc q.inst.val (c.fld 1 0 7)).emptied := by
        rw [hrel]
        exact (State.pc_setPc ..).trans (if_pos rfl)
      rw [State.pc, hend.pcs]
      exact hset.trans (by rw [atStart_pc])
    refine ⟨_, next_done_congr hpassed, endCmd_endedAs hcmd (begun_ended h.1) .done, ?_, ?_, ?_, ?_⟩
    · rw [hpc]; rfl
    · rw [hpc]; rfl
    · rw [hpc]; exact ht
    · rw [hend.mem, State.releasePc_mem, atStart_mem]
  · have hkeep : (s.atStart q c).releasePc q.inst.val (c.fld 1 0 7) = s.atStart q c := if_neg (by simp [atStart_pc, ht])
    rw [hkeep] at hpassed
    have hend := endCmd_queuesOnly (s.atStart q c) q c.idx .done
    exact ⟨_, next_done_congr hpassed, endCmd_endedAs (atStart_cmd h.1) (begun_ended h.1) .done, hend.pcs.trans (atStart_pcs ..), hend.doors.trans (atStart_doors ..),
      hend.mem.trans (atStart_mem ..)⟩

/-! ## HINGE (R208) -/

section
variable {s : State} {n : Nat}

theorem hingeVerdict_refused (h : s.hpEnabled n = false) : s.hingeVerdict n = .refused := by simp [State.hingeVerdict, h]

theorem hingeVerdict_atOnce (h : s.hpEnabled n = true) (hs : s.hinge.step = 0) (hn : n = s.clk.hp) : s.hingeVerdict n = .atOnce := by
  rw [State.hingeVerdict, if_neg (by simp [h]), if_pos ⟨hs, hn⟩]

theorem hingeVerdict_pending (h : s.hpEnabled n = true) (hn : ¬(s.hinge.step = 0 ∧ n = s.clk.hp)) : s.hingeVerdict n = .pending := by
  rw [State.hingeVerdict, if_neg (by simp [h]), if_neg hn]

end

section
variable {s : State} {c : Cmd} (q : QueueId)

theorem runHinge_refused (h : s.hingeVerdict (c.fld 1 0 3) = .refused) : s.runHinge q c = (s.hingeError 1).endCmd q c.idx .denied := by
  simp only [State.runHinge, State.hingeRequest, h]

theorem runHinge_atOnce (h : s.hingeVerdict (c.fld 1 0 3) = .atOnce) : s.runHinge q c = (s.hingeError 0).endCmd q c.idx .done := by
  simp only [State.runHinge, State.hingeRequest, h]

theorem runHinge_pending (h : s.hingeVerdict (c.fld 1 0 3) = .pending) :
    s.runHinge q c = (({ s with hinge := { s.hinge with pend := some (c.fld 1 0 3) } } : State).hingeError 0).setHinge fun x => { x with waiters := x.waiters ++ [q] } := by
  simp only [State.runHinge, State.hingeRequest, h]

end

theorem hingeCommand {s : State} {q : QueueId} {c : Cmd} (h : s.Starts q c 0x67 fun _ => []) :
    (s.hpEnabled (c.fld 1 0 3) = false → ∃ u : State, exec (.hinge q) s = .next u.done ∧ u.EndedAs q c.idx .denied ∧ u.rd .SVC_HINGE_STATUS_ERROR 0 0 0 = 1 ∧ u.hinge = s.hinge) ∧
    (s.hpEnabled (c.fld 1 0 3) = true → s.hinge.step = 0 → c.fld 1 0 3 = s.clk.hp → ∃ u : State, exec (.hinge q) s = .next u.done ∧ u.EndedAs q c.idx .done ∧ u.hinge = s.hinge) ∧
    (s.hpEnabled (c.fld 1 0 3) = true → ¬(s.hinge.step = 0 ∧ c.fld 1 0 3 = s.clk.hp) → ∃ u : State, exec (.hinge q) s = .next u.done ∧ u.cmd q c.idx = some (s.begun q c) ∧
      u.hinge = { s.hinge with pend := some (c.fld 1 0 3), waiters := s.hinge.waiters ++ [q] }) := by
  have hpassed : s.startCmd q 0x67 (fun _ => []) (fun t c => t.runHinge q c) = (s.atStart q c).runHinge q (s.begun q c) := startCmd_of_starts h
  have hcmd : ∀ e, ((s.atStart q c).hingeError e).cmd q c.idx = some (s.begun q c) := fun e => atStart_cmd h.1
  have hhinge : ∀ e st, (((s.atStart q c).hingeError e).endCmd q c.idx st).hinge = s.hinge := fun e st =>
    (endCmd_queuesOnly ((s.atStart q c).hingeError e) q c.idx st).hinge.trans ((State.wr_hinge ..).trans (atStart_hinge ..))
  refine ⟨fun hoff => ?_, fun hon hs hn => ?_, fun hon hn => ?_⟩
  · refine ⟨_, next_done_congr (hpassed.trans (runHinge_refused q ((atStart_hingeVerdict ..).trans (hingeVerdict_refused hoff)))),
      endCmd_endedAs (hcmd 1) (begun_ended h.1) .denied, ?_, hhinge 1 .denied⟩
    exact (endCmd_regsBut ((s.atStart q c).hingeError 1) q c.idx .denied _ 0 0 0 (by decide)).trans (State.rd_wr_self ..)
  · exact ⟨_, next_done_congr (hpassed.trans (runHinge_atOnce q ((atStart_hingeVerdict ..).trans (hingeVerdict_atOnce hon hs hn)))),
      endCmd_endedAs (hcmd 0) (begun_ended h.1) .done, hhinge 0 .done⟩
  · exact ⟨_, next_done_congr (hpassed.trans (runHinge_pending q ((atStart_hingeVerdict ..).trans (hingeVerdict_pending hon hn)))), atStart_cmd h.1,
      by simp [State.setHinge, atStart_hinge, State.hingeError, State.wr, begun_fld]⟩

/-! ## CASE_RESET (R106, R330) -/

/-- The reset of a casement leaves the waits of queues that are not its own. -/
theorem startCasReset_caseWait {s : State} {c : Nat} {x : QueueId × Nat × Nat} (hx : x ∈ s.caseWait) (ho : (s.ownerOf x.1).map (·.1) ≠ some c) :
    x ∈ (s.startCasReset c).caseWait := by
  by_cases h : (s.draining || s.isResetting c) = true
  · rw [startCasReset_of_idle h]
    exact hx
  · obtain ⟨hd, hr⟩ := Bool.or_eq_false_iff.mp (Bool.eq_false_iff.mpr h)
    obtain ⟨w, hw, hkeep⟩ := startCasReset_standing hd hr
    obtain ⟨-, -, -, -, -, hwait⟩ := standing_inj.mp hw
    rw [hwait]
    exact hkeep x hx ho

/-- A queue of the HUB engine whose CASE_RESET is not denied is casement 0's, or no casement's. -/
theorem owner_of_caseReset {s : State} {q : QueueId} {c : Cmd} (h : s.Starts q c 0x68 caseResetChecks) : (s.ownerOf q).map (·.1) ≠ some (c.fld 1 0 5) := by
  obtain ⟨hm, hd, hown⟩ := starts_passes h
  have hop : c.opcode = 0x68 := h.2.1
  have he : q.engine = .hub := hub_of_not_malformed hm (by omega) (by omega)
  have hcas : s.casOf q = 0 := by
    simp only [State.cmdDenied, he, hop, Bool.or_eq_false_iff] at hd
    simpa using hd.2
  have hn : c.fld 1 0 5 ≠ 0 := fun e => by simp [caseResetChecks, e] at hown
  intro ho
  rw [State.casOf, ho] at hcas
  exact hn hcas

/-- A CASE_RESET that waits for its reset. -/
def State.awaits (s : State) (x : QueueId × Nat × Nat) : State := { s with caseWait := s.caseWait ++ [x] }

section
variable (s : State) (x : QueueId × Nat × Nat)

theorem awaits_caseWait : x ∈ (s.awaits x).caseWait := List.mem_append_right _ (List.mem_singleton.mpr rfl)

theorem awaits_cfg : (s.awaits x).cfg = s.cfg := rfl

theorem awaits_fuse : (s.awaits x).fuse = s.fuse := rfl

theorem awaits_draining : (s.awaits x).draining = s.draining := by simp [State.awaits, State.draining]

end

theorem caseResetCommand {s : State} {q : QueueId} {c : Cmd} (h : s.Starts q c 0x68 caseResetChecks) :
    ∃ u : State, exec (.caseReset q) s = .next u.done ∧ u.isResetting (c.fld 1 0 5) = true ∧ (q, c.idx, c.fld 1 0 5) ∈ u.caseWait ∧ u.fuse = s.fuse := by
  have hpassed : s.startCmd q 0x68 caseResetChecks (fun t c => t.runCaseReset q c) =
      ((s.atStart q c).awaits (q, c.idx, c.fld 1 0 5)).startCasReset (c.fld 1 0 5) := startCmd_of_starts h
  have hd : ((s.atStart q c).awaits (q, c.idx, c.fld 1 0 5)).draining = false := by
    rw [awaits_draining]
    exact draining_of_engineRuns ((atStart_engineRuns s q c).trans (starts_engineRuns h.2.2.1))
  have howner : ((s.atStart q c).awaits (q, c.idx, c.fld 1 0 5)).ownerOf q = s.ownerOf q := State.ownerOf_congr ((awaits_cfg ..).trans (atStart_cfg ..)) q
  refine ⟨_, next_done_congr hpassed, startCasReset_isResetting hd _, startCasReset_caseWait (awaits_caseWait ..) ?_, ?_⟩
  · rw [howner]
    exact owner_of_caseReset h
  · rw [State.startCasReset_fuse, awaits_fuse, atStart_fuse]

/-- Settles O58: every clause is the start of its command, its work, and what its end leaves. -/
theorem hubCommandsRun : Obligations.HubCommandsRun := by
  intro s q c
  obtain ⟨hadd, hdel, hbad⟩ := fenceCommands s q c
  exact ⟨hadd, hdel, hbad, fun r h hf hn hroom hfence hown hd => scrubCommand h hf hn hroom hfence hown hd, fun h => repairCommand h, fun h => (retrainCommand h).1,
    fun h => (retrainCommand h).2, fun h => marchCommand h, fun hnext hop hmay hd hv => marchDenied hnext hop hmay hd hv, fun h => releaseCommand h, fun h => hingeCommand h,
    fun h => caseResetCommand h⟩

end Sys2Proof.Machine
end

section
/-! SUPPORT. Doors and louvres: what an arrival, a mask, a priority and a new window leave (R129 to R133, R144, R145). -/

namespace Sys2Proof.Machine

/-! ## Doors, louvre slots and arbiters under an update -/

theorem State.door_setDoor_self (s : State) (h d : Nat) (x : DoorSt) : (s.setDoor h d x).door h d = x := (s.door_setDoor ..).trans (if_pos rfl)

/-- A door's update leaves every other door. -/
theorem State.door_setDoor_ne (s : State) {h d g k : Nat} (x : DoorSt) (hd : d < 9) (hk : k < 9) (hne : (g, k) ≠ (h, d)) :
    (s.setDoor h d x).door g k = s.door g k := by
  refine (s.door_setDoor ..).trans (if_neg fun e => hne ?_)
  unfold doorKey at e
  rw [Prod.mk.injEq]
  omega

theorem State.setDoor_done {s : State} (hi : s.Idle) (h d : Nat) (x : DoorSt) : (s.setDoor h d x).done = s.setDoor h d x :=
  done_of_eq hi rfl rfl rfl rfl rfl rfl rfl rfl

theorem State.lvr_setLvr_self (s : State) (h d k : Nat) (x : LouvreSt) : (s.setLvr h d k x).lvr h d k = x := (Tab.get_put ..).trans (if_pos rfl)

theorem State.setLvr_done {s : State} (hi : s.Idle) (h d k : Nat) (x : LouvreSt) : (s.setLvr h d k x).done = s.setLvr h d k x :=
  done_of_eq hi rfl rfl rfl rfl rfl rfl rfl rfl

theorem State.arb_setArb (s : State) (h p q : Nat) (x : ArbSt) : (s.setArb h p x).arb h q = if p = q then x else s.arb h q := by
  have hkey : pcKey h p = pcKey h q ↔ p = q := by unfold pcKey; omega
  simp only [State.arb, State.setArb, Tab.get_put, hkey]

/-! ## Arrivals (R129, R131) -/

/-- The entry with which a request enters a door's buffer. -/
def State.arrivedEnt (s : State) (h d latch : Nat) (r : Req) : DoorEnt :=
  { r := { r with latch := latch }, grp := if r.hub = h then s.sourceGroup h d r else none, arrT := s.time64, arrC := s.cyc }

/-- The first request in transit, r, leaves the transit and stands last in the buffer. -/
def State.takeArrival (s : State) (h d latch : Nat) (r : Req) (rest : List Req) : State :=
  (s.setDoor h d { s.door h d with transit := rest }).setDoor h d { s.door h d with transit := rest, buf := (s.door h d).buf ++ [s.arrivedEnt h d latch r] }

section
variable {s : State} {h d : Nat} (latch : Nat)

theorem doorArrival_accepted {r : Req} {rest : List Req} (ht : (s.door h d).transit = r :: rest) (hm : (s.door h d).masked = false)
    (hd : s.draining = false) (hc : s.clk.run = true) (hopen : s.knowsClosed h r.hub (stackOf r.pc) = false) :
    s.doorArrival h d latch = s.takeArrival h d latch r rest := by
  simp [State.doorArrival, ht, hm, hd, hc, hopen, State.arrivedEnt, State.takeArrival]

theorem doorArrival_masked (hm : (s.door h d).masked = true) : s.doorArrival h d latch = s := by
  unfold State.doorArrival
  cases ht : (s.door h d).transit with
  | nil => simp [ht]
  | cons r rest => simp [ht, hm]

end

theorem exec_doorArrival_accepted {s : State} (hi : s.Idle) {h : Hub} {d : DoorNo} (latch : Nat) {r : Req} {rest : List Req}
    (ht : (s.door h.val d.val).transit = r :: rest) (hm : (s.door h.val d.val).masked = false) (hd : s.draining = false) (hc : s.clk.run = true)
    (hopen : s.knowsClosed h.val r.hub (stackOf r.pc) = false) :
    ∃ t : State, exec (.doorArrival h d latch) s = .next t ∧ (t.door h.val d.val).transit = rest ∧
      (t.door h.val d.val).buf.map (·.r) = (s.door h.val d.val).buf.map (·.r) ++ [{ r with latch := latch }] ∧
      (∀ g k, (g, k) ≠ (h.val, d.val) → k < 9 → t.door g k = s.door g k) ∧ t = { s with doors := t.doors } := by
  have hdone : (s.takeArrival h.val d.val latch r rest).done = s.takeArrival h.val d.val latch r rest := done_of_eq hi rfl rfl rfl rfl rfl rfl rfl rfl
  refine ⟨s.takeArrival h.val d.val latch r rest, (next_done_congr (doorArrival_accepted latch ht hm hd hc hopen)).trans (congrArg Host.Outcome.next hdone),
    ?_, ?_, fun g k hne hk => ?_, rfl⟩
  · rw [State.takeArrival, State.door_setDoor_self]
  · rw [State.takeArrival, State.door_setDoor_self, List.map_append]
    rfl
  · rw [State.takeArrival, State.door_setDoor_ne _ _ d.isLt hk hne, State.door_setDoor_ne _ _ d.isLt hk hne]

/-! ## Masks (R145) -/

theorem exec_doorMask {s : State} (hi : s.Idle) {h : Hub} {d : DoorNo} (hin : s.hubIn h.val = true) (hmust : s.doorMustMask h.val d.val = true) :
    exec (.doorMask h d) s = .next (s.setDoor h.val d.val { s.door h.val d.val with masked := true }) := by
  have hmask : s.doorMask h.val d.val = s.maskDoor h.val d.val := if_pos (by rw [hin, hmust]; rfl)
  exact (next_done_congr hmask).trans (congrArg Host.Outcome.next (State.setDoor_done hi ..))

theorem exec_doorUnmask {s : State} (hi : s.Idle) {h : Hub} {d : DoorNo} (hin : s.hubIn h.val = true) (hmust : s.doorMustMask h.val d.val = false)
    (hd : s.draining = false) : exec (.doorUnmask h d) s = .next (s.setDoor h.val d.val { s.door h.val d.val with masked := false }) := by
  have hunmask : s.doorUnmask h.val d.val = s.unmaskDoor h.val d.val := if_pos (by rw [hin, hmust, hd]; rfl)
  exact (next_done_congr hunmask).trans (congrArg Host.Outcome.next (State.setDoor_done hi ..))

/-! ## Priorities (R144) -/

/-- The value of a pane's DARB_PRIO from before a write that still rules at an arbiter. -/
def ArbSt.oldPrio (a : ArbSt) (now pane : Nat) : Option Nat :=
  (a.prioOld.find? fun x => x.1 = pane ∧ (x.2.2 = now ∨ a.hold.isLatch)).map (·.2.1)

theorem prioOf_eq (s : State) (h p d : Nat) (r : Req) :
    s.prioOf h p d r = ((s.arb h p).oldPrio s.cyc r.pane).getD (s.rd .DARB_PRIO_DOOR_PRIO h r.pane 0) / 16 ^ d % 16 := by
  unfold State.prioOf ArbSt.oldPrio
  cases (s.arb h p).prioOld.find? fun x => x.1 = r.pane ∧ (x.2.2 = s.cyc ∨ (s.arb h p).hold.isLatch) <;> rfl

section
variable (a : ArbSt) (now n old : Nat)

theorem keepPrio_hold : (a.keepPrio now n old).hold = a.hold := rfl

/-- The values that a write of pane n's priority finds in force. -/
def ArbSt.livePrio : List (Nat × Nat × Nat) := a.prioOld.filter fun x => a.hold.isLatch || x.2.2 == now

theorem find_livePrio (m : Nat) :
    (a.livePrio now).find? (fun x => x.1 = m ∧ (x.2.2 = now ∨ a.hold.isLatch)) = a.prioOld.find? fun x => x.1 = m ∧ (x.2.2 = now ∨ a.hold.isLatch) := by
  rw [ArbSt.livePrio, List.find?_filter]
  congr 1
  funext x
  by_cases h : a.hold.isLatch <;> by_cases g : x.2.2 = now <;> simp [h, g]

theorem livePrio_any : (a.livePrio now).any (fun x => x.1 = n) = (a.oldPrio now n).isSome := by
  rw [ArbSt.oldPrio, ← find_livePrio, Option.isSome_map, List.isSome_find?, Bool.eq_iff_iff, List.any_eq_true, List.any_eq_true]
  refine exists_congr fun x => and_congr_right fun hx => ?_
  have hrules : x.2.2 = now ∨ a.hold.isLatch = true := by simpa [or_comm] using (List.mem_filter.mp hx).2
  simp [hrules]

/-- A write of pane n's priority leaves every old value that rules in its CCLK, and the one it replaces rules from then on. -/
theorem keepPrio_oldPrio (m : Nat) :
    (a.keepPrio now n old).oldPrio now m = if m = n then some ((a.oldPrio now n).getD old) else a.oldPrio now m := by
  have hlive : ((a.livePrio now).find? fun x => x.1 = m ∧ (x.2.2 = now ∨ a.hold.isLatch)).map (·.2.1) = a.oldPrio now m := by rw [find_livePrio, ArbSt.oldPrio]
  have hkeep : (a.keepPrio now n old).oldPrio now m =
      ((if (a.oldPrio now n).isSome then a.livePrio now else a.livePrio now ++ [(n, old, now)]).find? fun x => x.1 = m ∧ (x.2.2 = now ∨ a.hold.isLatch)).map (·.2.1) := by
    rw [← livePrio_any]
    rfl
  rw [hkeep]
  cases hn : a.oldPrio now n with
  | some w =>
    rw [Option.isSome_some, if_pos rfl, hlive]
    split
    · next e => rw [e, hn]; rfl
    · rfl
  | none =>
    rw [Option.isSome_none, if_neg Bool.false_ne_true, List.find?_append, Option.map_or, hlive]
    split
    · next e => simp [e, hn]
    · next e => simp [Ne.symm e]

/-- Where no latch holds, no old value rules in the next CCLK. -/
theorem keepPrio_oldPrio_next (hl : a.hold.isLatch = false) (m : Nat) : (a.keepPrio now n old).oldPrio (now + 1) m = none := by
  have hkept : ∀ x ∈ (a.keepPrio now n old).prioOld, x.2.2 = now := by
    intro x hx
    have hlive : ∀ y ∈ a.livePrio now, y.2.2 = now := fun y hy => by simpa [hl] using (List.mem_filter.mp hy).2
    have hx : x ∈ if (a.livePrio now).any (fun x => x.1 = n) then a.livePrio now else a.livePrio now ++ [(n, old, now)] := hx
    split at hx
    · exact hlive x hx
    · rcases List.mem_append.mp hx with hx | hx
      · exact hlive x hx
      · rw [List.mem_singleton.mp hx]
  rw [ArbSt.oldPrio, List.find?_eq_none.mpr, Option.map_none]
  intro x hx
  simp [keepPrio_hold, hl, hkept x hx]

end

/-- An update of every arbiter in a list, each named once. -/
theorem foldl_setArb_arb (f : ArbSt → ArbSt) (h : Nat) (l : List Nat) (hl : l.Nodup) (s : State) (q : Nat) :
    (l.foldl (fun t p => t.setArb h p (f (t.arb h p))) s).arb h q = if q ∈ l then f (s.arb h q) else s.arb h q := by
  induction l generalizing s with
  | nil => simp
  | cons p l ih =>
    obtain ⟨hp, hl⟩ := List.nodup_cons.mp hl
    rw [List.foldl_cons, ih hl, State.arb_setArb]
    by_cases e : p = q
    · subst e
      simp [hp]
    · simp [e, Ne.symm e]

theorem pcsOf_nodup (s : State) (h : Nat) : (s.pcsOf h).Nodup := List.nodup_range.filter _

/-- Updates of arbiters leave all but the arbiters. -/
theorem foldl_setArb_arbs (f : State → Nat → ArbSt) (h : Nat) (l : List Nat) (s : State) :
    ∃ B, l.foldl (fun t p => t.setArb h p (f t p)) s = { s with arbs := B } := by
  induction l generalizing s with
  | nil => exact ⟨s.arbs, rfl⟩
  | cons p l ih => exact ih (s.setArb h p (f s p))

section
variable (s : State) (h n v : Nat)

theorem writePrio_arb {p : Nat} (hp : p ∈ s.pcsOf h) : (s.writePrio h n v).arb h p = (s.arb h p).keepPrio s.cyc n (s.rd .DARB_PRIO_DOOR_PRIO h n 0) :=
  (foldl_setArb_arb (·.keepPrio s.cyc n (s.rd .DARB_PRIO_DOOR_PRIO h n 0)) h _ (pcsOf_nodup s h) _ p).trans (if_pos hp)

theorem writePrio_parts : ∃ B, s.writePrio h n v = { s.wr .DARB_PRIO_DOOR_PRIO h n 0 (v % 2 ^ 36) with arbs := B } :=
  foldl_setArb_arbs (fun t p => (t.arb h p).keepPrio s.cyc n (s.rd .DARB_PRIO_DOOR_PRIO h n 0)) h _ _

theorem writePrio_rd (f : Fld) (d i j : Nat) : (s.writePrio h n v).rd f d i j = (s.wr .DARB_PRIO_DOOR_PRIO h n 0 (v % 2 ^ 36)).rd f d i j := by
  obtain ⟨B, hB⟩ := writePrio_parts s h n v
  rw [hB]
  rfl

theorem writePrio_cyc : (s.writePrio h n v).cyc = s.cyc := by
  obtain ⟨B, hB⟩ := writePrio_parts s h n v
  rw [hB]
  rfl

/-- To the end of the CCLK of a write every priority is what it was. -/
theorem writePrio_prioOf {p : Nat} (hp : p ∈ s.pcsOf h) (d : Nat) (r : Req) : (s.writePrio h n v).prioOf h p d r = s.prioOf h p d r := by
  rw [prioOf_eq, prioOf_eq, writePrio_arb s h n v hp, writePrio_cyc, writePrio_rd, keepPrio_oldPrio]
  split
  · next e => rw [e, Option.getD_some]
  · next e => rw [s.rd_wr_ne fun k => e (congrArg FKey.i k).symm]

/-- A pseudo-channel that no latch holds takes the new priority in the next CCLK. -/
theorem writePrio_prioOf_next {p : Nat} (hp : p ∈ s.pcsOf h) (hl : (s.arb h p).hold.isLatch = false) (d : Nat) {r : Req} (hr : r.pane = n) :
    ({ s.writePrio h n v with clk := { (s.writePrio h n v).clk with cclk := s.cyc + 1 } } : State).prioOf h p d r = v % 2 ^ 36 / 16 ^ d % 16 := by
  have harb : ({ s.writePrio h n v with clk := { (s.writePrio h n v).clk with cclk := s.cyc + 1 } } : State).arb h p = (s.writePrio h n v).arb h p := rfl
  have hrd : ({ s.writePrio h n v with clk := { (s.writePrio h n v).clk with cclk := s.cyc + 1 } } : State).rd .DARB_PRIO_DOOR_PRIO h r.pane 0 = v % 2 ^ 36 := by
    rw [hr]
    exact (writePrio_rd ..).trans (s.rd_wr_self ..)
  rw [prioOf_eq, harb, writePrio_arb s h n v hp, hrd]
  exact congrArg (fun o : Option Nat => o.getD (v % 2 ^ 36) / 16 ^ d % 16) (keepPrio_oldPrio_next _ _ _ _ hl _)

theorem writeReg_darbPrio : s.writeReg { reg := .DARB_PRIO, d := h, i := n, j := 0 } .whole v = .inl (s.writePrio h n v) := by
  have hrange : s.outOfRange { reg := .DARB_PRIO, d := h, i := n, j := 0 } .whole v = false := by
    simp [State.outOfRange, fieldsOf, State.imageAfter, Part.over, Part.touches, FieldRow.of, inRange]
    omega
  rw [State.writeReg, hrange]
  rfl

end

theorem exec_darbPrio_absent {s : State} (hi : s.Idle) {h : Hub} (n : PaneNo) (v : Word) (hin : s.hubIn h.val = false) :
    exec (.darbPrio h n v) s = .next (s.accErr (hubAccess h.val (0x20000 + 8 * n.val) 8) true 1) := by
  have hstep : exec (.darbPrio h n v) s = .next (s.gateWrite (hubAccess h.val (0x20000 + 8 * n.val) 8) (s.hubIn h.val)
    (s.writeReg { reg := .DARB_PRIO, d := h.val, i := n.val, j := 0 } .whole v.toNat)).done := rfl
  rw [hstep, hin]
  exact congrArg Host.Outcome.next ((s.accErr_regsOnly ..).done hi)

theorem exec_darbPrio_present {s : State} (hi : s.Idle) {h : Hub} (n : PaneNo) (v : Word) (hin : s.hubIn h.val = true) :
    exec (.darbPrio h n v) s = .next (s.writePrio h.val n.val v.toNat) := by
  have hstep : exec (.darbPrio h n v) s = .next (s.gateWrite (hubAccess h.val (0x20000 + 8 * n.val) 8) (s.hubIn h.val)
    (s.writeReg { reg := .DARB_PRIO, d := h.val, i := n.val, j := 0 } .whole v.toNat)).done := rfl
  obtain ⟨B, hB⟩ := writePrio_parts s h.val n.val v.toNat
  rw [hstep, hin, writeReg_darbPrio]
  refine congrArg Host.Outcome.next ?_
  show (s.writePrio h.val n.val v.toNat).done = _
  rw [hB]
  exact done_of_eq hi rfl rfl rfl rfl rfl rfl rfl rfl

/-! ## Louvre windows (R133) -/

/-- A window at tier 0 that the slew limiter does not hold begins where the last one ended. -/
theorem louvreWindow_of_due {s : State} {h d k : Nat} (hvalid : s.rd .LVR_SLOT_CFG_VALID h d k = 1) (hdue : (s.lvr h d k).start + (s.lvr h d k).len ≤ s.cyc)
    (hlen : (s.lvr h d k).len ≠ 0) (hrun : s.clk.run = true) (hstep : s.hinge.step < 5) (htier : s.hubTier h = 0) (hrise : s.riseHeld = false) :
    s.louvreWindow h d k = s.setLvr h d k
      { gen := s.rd .LVR_BUDGET_UNITS h d k, top := s.rd .LVR_BUDGET_UNITS h d k, coll := 0, urg := s.rd .LVR_URGENT_UNITS h d k,
        start := (s.lvr h d k).start + (s.lvr h d k).len, len := s.rd .LVR_SLOT_WINDOW_CYCLES h d k } := by
  simp [State.louvreWindow, hvalid, hdue, hlen, hrun, hstep, htier, hrise]

/-- Settles O34: a door takes its first arrival or nothing, its mask follows its condition, a priority rules from the next CCLK, and a window's remainders are new. -/
theorem doorsTakeArrivalsAndWindows : Obligations.DoorsTakeArrivalsAndWindows := by
  refine ⟨fun s h d latch r rest hi ht => ⟨fun hm hd hc hopen => exec_doorArrival_accepted hi latch ht hm hd hc hopen, fun hm => ?_⟩,
    fun s h d hi hin => ⟨fun hmust => exec_doorMask hi hin hmust, fun hmust hd => exec_doorUnmask hi hin hmust hd⟩,
    fun s h n v hi => ⟨fun hin => exec_darbPrio_absent hi n v hin, fun hin => ?_⟩, fun s h d k hi hvalid hdue hlen hrun hstep htier hrise => ?_⟩
  · exact (next_done_congr (doorArrival_masked latch hm)).trans (congrArg Host.Outcome.next (done_of_idle hi))
  · obtain ⟨B, hB⟩ := writePrio_parts s h.val n.val v.toNat
    refine ⟨_, exec_darbPrio_present hi n v hin, ?_, fun k hk => ?_, fun f d i j hf => ?_, ?_, fun p hp => ⟨?_, fun d r => ?_, fun hl _ d r hr => ?_⟩⟩
    · rw [writePrio_rd, State.rd_wr_self]
    · rw [writePrio_rd, s.rd_wr_ne fun e => hk (congrArg FKey.i e).symm]
    · rw [writePrio_rd, s.rd_wr_fld fun e => hf (List.mem_singleton.mpr e.symm)]
    · rw [hB]
      rfl
    · rw [writePrio_arb s _ _ _ hp, keepPrio_hold]
    · exact writePrio_prioOf s _ _ _ hp d r
    · exact writePrio_prioOf_next s _ _ _ hp hl d hr
  · refine ⟨_, (next_done_congr (louvreWindow_of_due hvalid hdue hlen hrun hstep htier hrise)).trans (congrArg Host.Outcome.next (State.setLvr_done hi ..)), rfl, ?_⟩
    rw [State.lvr_setLvr_self]
    exact ⟨rfl, rfl, rfl, rfl, rfl⟩

end Sys2Proof.Machine
end

section
/-! SUPPORT. The door arbiter: a count of held requests does not sway it, and an admission takes the winner from its door into the queue (R133, R136, R137, R148). -/

namespace Sys2Proof.Machine

/-! ## Held requests are counted (R133) -/

/-- The fields in which held requests are counted. -/
def holdFlds : List Fld := .DOOR_HOLD_CNT_COUNT :: counterFlds

/-- Nothing but the counts of held requests, and when a door last counted, differs. -/
def State.HoldsCounted (s t : State) : Prop :=
  (∃ R D, t = { s with regs := R, doors := D }) ∧ s.RegsBut t holdFlds ∧ ∀ g k, ∃ n, t.door g k = { s.door g k with holdAt := n }

theorem State.HoldsCounted.refl (s : State) : s.HoldsCounted s := ⟨⟨s.regs, s.doors, rfl⟩, .refl s _, fun g k => ⟨(s.door g k).holdAt, rfl⟩⟩

theorem State.HoldsCounted.trans {s t u : State} (h : s.HoldsCounted t) (g : t.HoldsCounted u) : s.HoldsCounted u := by
  obtain ⟨⟨R, D, ht⟩, hr, hd⟩ := h
  obtain ⟨⟨Q, E, hu⟩, gr, gd⟩ := g
  refine ⟨⟨Q, E, by rw [hu, ht]⟩, hr.trans gr, fun h k => ?_⟩
  obtain ⟨n, hn⟩ := hd h k
  obtain ⟨m, hm⟩ := gd h k
  exact ⟨m, by rw [hm, hn]⟩

theorem State.HoldsCounted.of_regsOnly {s t : State} (h : s.RegsOnly t) (hr : s.RegsBut t holdFlds) : s.HoldsCounted t := by
  obtain ⟨R, rfl⟩ := h
  exact ⟨⟨R, s.doors, rfl⟩, hr, fun g k => ⟨(s.door g k).holdAt, rfl⟩⟩

theorem setDoor_holdsCounted (s : State) (h d n : Nat) : s.HoldsCounted (s.setDoor h d { s.door h d with holdAt := n }) := by
  refine ⟨⟨s.regs, _, rfl⟩, fun _ _ _ _ _ => rfl, fun g k => ?_⟩
  rw [State.door_setDoor]
  split
  · next e =>
    have hdoor : s.door h d = s.door g k := congrArg (Tab.get DoorSt.reset s.doors) e
    exact ⟨n, by rw [hdoor]⟩
  · exact ⟨(s.door g k).holdAt, rfl⟩

/-- A held request of door d is counted. -/
def State.countHold (s : State) (h d : Nat) (e : DoorEnt) : State :=
  (s.count .DOOR_HOLD_CNT_COUNT top32 h d 0 1).tally h 0x07 none [d] (some e.r.cas) 1

theorem countHold_regsOnly (s : State) (h d : Nat) (e : DoorEnt) : s.RegsOnly (s.countHold h d e) :=
  (State.RegsOnly.refl s).count.trans (State.tally_regsOnly ..)

theorem countHold_regsBut (s : State) (h d : Nat) (e : DoorEnt) : s.RegsBut (s.countHold h d e) holdFlds := by
  have hcount : s.RegsBut (s.count .DOOR_HOLD_CNT_COUNT top32 h d 0 1) holdFlds := (State.RegsBut.refl s _).count List.mem_cons_self
  have htally (t : State) : t.RegsBut (t.tally h 0x07 none [d] (some e.r.cas) 1) counterFlds := tally_regsBut t h 0x07 none [d] (some e.r.cas) 1
  exact hcount.trans ((htally _).mono fun _ => List.mem_cons_of_mem _)

theorem noteHeld_holdsCounted (s : State) (h p d : Nat) : s.HoldsCounted (s.noteHeld h p d) := by
  unfold State.noteHeld
  split
  · exact .refl s
  · next e _ _ =>
    split
    · exact .refl s
    · have hdoor : (s.countHold h d e).door h d = s.door h d := by
        rw [(countHold_regsOnly s h d e).eq]
        rfl
      have hmark := setDoor_holdsCounted (s.countHold h d e) h d (s.cyc + 1)
      rw [hdoor] at hmark
      exact (State.HoldsCounted.of_regsOnly (countHold_regsOnly ..) (countHold_regsBut s h d e)).trans hmark

/-- The held requests of every door are counted, as an evaluation of a pseudo-channel begins. -/
def State.countHolds (s : State) (h p : Nat) : State := (List.range 9).foldl (fun t d => t.noteHeld h p d) s

theorem countHolds_holdsCounted (s : State) (h p : Nat) : s.HoldsCounted (s.countHolds h p) := by
  unfold State.countHolds
  exact List.foldlRecOn (motive := fun t => s.HoldsCounted t) _ _ (.refl s) fun t ht d _ => ht.trans (noteHeld_holdsCounted t h p d)

/-! ## What the arbiter judges by stays -/

namespace State.HoldsCounted
variable {s t : State} (ht : s.HoldsCounted t)
include ht

theorem eq : t = { s with regs := t.regs, doors := t.doors } := by
  obtain ⟨⟨R, D, rfl⟩, -⟩ := ht
  rfl

theorem regs : s.RegsBut t holdFlds := by
  obtain ⟨-, hr, -⟩ := ht
  exact hr

/-- What is read of a door, but for when it last counted, reads as before. -/
theorem ofDoor {α : Type} (f : DoorSt → α) (hf : ∀ x n, f { x with holdAt := n } = f x) (h d : Nat) : f (t.door h d) = f (s.door h d) := by
  obtain ⟨-, -, hd⟩ := ht
  obtain ⟨n, hn⟩ := hd h d
  rw [hn, hf]

theorem pc (h p : Nat) : t.pc h p = s.pc h p := (congrArg (State.pc · h p) ht.eq :)
theorem arb (h p : Nat) : t.arb h p = s.arb h p := (congrArg (State.arb · h p) ht.eq :)
theorem cyc : t.cyc = s.cyc := (congrArg State.cyc ht.eq :)
theorem pcsOf (h : Nat) : t.pcsOf h = s.pcsOf h := (congrArg (State.pcsOf · h) ht.eq :)
theorem doorFirm (h d : Nat) : t.doorFirm h d = s.doorFirm h d := (congrArg (State.doorFirm · h d) ht.eq :)
theorem settledEnt (e : DoorEnt) : t.settledEnt e = s.settledEnt e := (congrArg (State.settledEnt · e) ht.eq :)
theorem mayEnter (h p : Nat) (r : Req) : t.mayEnter h p r = s.mayEnter h p r := (congrArg (State.mayEnter · h p r) ht.eq :)

theorem buf (h d : Nat) : (t.door h d).buf = (s.door h d).buf := ht.ofDoor (·.buf) (fun _ _ => rfl) h d
theorem records (h d : Nat) : (t.door h d).records = (s.door h d).records := ht.ofDoor (·.records) (fun _ _ => rfl) h d
theorem servedAt (h d : Nat) : (t.door h d).servedAt = (s.door h d).servedAt := ht.ofDoor (·.servedAt) (fun _ _ => rfl) h d
theorem served (h d : Nat) : (t.door h d).served = (s.door h d).served := ht.ofDoor (·.served) (fun _ _ => rfl) h d
theorem turn (h d now p : Nat) : (t.door h d).turn now p = (s.door h d).turn now p := ht.ofDoor (·.turn now p) (fun _ _ => rfl) h d

theorem listFor (h d p : Nat) : t.listFor h d p = s.listFor h d p := by rw [State.listFor, State.listFor, ht.buf]

theorem slotOf (h d g : Nat) : t.slotOf h d g = s.slotOf h d g := by
  simp only [State.slotOf, ht.regs .LVR_SLOT_CFG_VALID h d _ (by decide), ht.regs .LVR_SLOT_CFG_SRC_GROUP h d _ (by decide)]

theorem regulator (h d : Nat) (e : DoorEnt) : t.regulator h d e = s.regulator h d e := congrArg e.grp.bind (funext (ht.slotOf h d))

theorem louvrePasses (h d : Nat) (e : DoorEnt) : t.louvrePasses h d e = s.louvrePasses h d e := by
  have hlvr (k : Nat) : t.lvr h d k = s.lvr h d k := (congrArg (State.lvr · h d k) ht.eq :)
  have hdrain : t.draining = s.draining := (congrArg State.draining ht.eq :)
  simp only [State.louvrePasses, ht.regulator, hlvr, hdrain]

theorem prioOf (h p d : Nat) (r : Req) : t.prioOf h p d r = s.prioOf h p d r := by
  rw [prioOf_eq, prioOf_eq, ht.arb, ht.cyc, ht.regs .DARB_PRIO_DOOR_PRIO h r.pane 0 (by decide)]

theorem beats (h p : Nat) (a b : Nat × DoorEnt) : t.beats h p a b = s.beats h p a b := by simp only [State.beats, ht.prioOf]

theorem candidate (h p d : Nat) : t.candidate h p d = s.candidate h p d := by
  simp only [State.candidate, ht.listFor, ht.settledEnt, ht.mayEnter, ht.louvrePasses]

theorem candidates (h p : Nat) : t.candidates h p = s.candidates h p := by simp only [State.candidates, ht.candidate]

theorem winner (h p : Nat) (cs : List (Nat × DoorEnt)) : t.winner h p cs = s.winner h p cs := by
  simp only [State.winner, ht.beats, ht.pc, ht.arb, ht.cyc]

theorem runNext (h p d : Nat) (run : RunRecord) : t.runNext h p d run = s.runNext h p d run := by simp only [State.runNext, ht.listFor, ht.settledEnt]

theorem runHeld (h p d : Nat) (e : DoorEnt) : t.runHeld h p d e = s.runHeld h p d e := by simp only [State.runHeld, ht.mayEnter, ht.louvrePasses]

theorem runRivals (h p d : Nat) (e : DoorEnt) : t.runRivals h p d e = s.runRivals h p d e := by simp only [State.runRivals, ht.candidates, ht.beats]

theorem choice (h p : Nat) : t.choice h p = s.choice h p := by
  simp only [State.choice, ht.arb, ht.listFor, ht.mayEnter, ht.runNext, ht.runHeld, ht.doorFirm, ht.runRivals, ht.records, ht.candidates, ht.winner]

theorem turnsBefore (h d p : Nat) : t.turnsBefore h d p = s.turnsBefore h d p := by
  simp only [State.turnsBefore, ht.pcsOf, ht.turn, ht.arb, ht.cyc, ht.listFor, ht.choice, ht.pc]

theorem doorCanServe (h d p : Nat) : t.doorCanServe h d p = s.doorCanServe h d p := by
  simp only [State.doorCanServe, ht.turnsBefore, ht.servedAt, ht.served, ht.cyc, ht.pcsOf, ht.listFor]

end State.HoldsCounted

/-! ## An admission (R129, R133, R136, R137, R148) -/

/-- An entry leaves its door: its louvre is charged, its credit returns, the door has served, and a run at its end is freed. -/
def State.leaveDoor (s : State) (h p d : Nat) (e : DoorEnt) : State :=
  ((s.louvreCharge h d e).setDoor h d ((((s.louvreCharge h d e).door h d).release s.cyc fun r => r.id == e.r.id).serve s.cyc p)).freeDoneRun h p d e
    (s.holdAfter h p d e)

/-- The entry then enters the queue. -/
def State.moveIn (s : State) (h p d : Nat) (e : DoorEnt) (v : Reserve) : State :=
  ((s.leaveDoor h p d e).sampleTag h e d).1.enqueue h p d e v ((s.leaveDoor h p d e).sampleTag h e d).2

section
variable (s : State) (h p d : Nat) (e : DoorEnt)

theorem serve_buf (x : DoorSt) (now : Nat) : (x.serve now p).buf = x.buf := by
  unfold DoorSt.serve
  split <;> rfl

theorem louvreCharge_parts : ∃ L, s.louvreCharge h d e = { s with louvres := L } := by
  unfold State.louvreCharge
  split
  · exact ⟨_, rfl⟩
  · exact ⟨s.louvres, rfl⟩

theorem freeDoneRun_pcs (after : Hold) : (s.freeDoneRun h p d e after).pcs = s.pcs := by
  unfold State.freeDoneRun
  split <;> rfl

theorem freeDoneRun_buf (after : Hold) : ((s.freeDoneRun h p d e after).door h d).buf = (s.door h d).buf := by
  unfold State.freeDoneRun
  split
  · dsimp only
    rw [State.door_setDoor_self]
  · rfl

theorem leaveDoor_pcs : (s.leaveDoor h p d e).pcs = s.pcs := by
  obtain ⟨L, hL⟩ := louvreCharge_parts s h d e
  rw [State.leaveDoor, freeDoneRun_pcs, hL]
  rfl

/-- No entry of the same number stays in the door. -/
theorem leaveDoor_buf : ∀ x ∈ ((s.leaveDoor h p d e).door h d).buf, x.r.id ≠ e.r.id := by
  intro x hx
  rw [State.leaveDoor, freeDoneRun_buf, State.door_setDoor_self, serve_buf] at hx
  simpa using (List.mem_filter.mp hx).2

theorem sampleTag_parts : ∃ S, (s.sampleTag h e d).1 = { s with samplers := S } := by
  unfold State.sampleTag
  dsimp only
  split
  · split <;> exact ⟨_, rfl⟩
  · exact ⟨s.samplers, rfl⟩

/-- A request stands last in the queue that it enters. -/
theorem enqueue_queue (v : Reserve) (tag : Option Nat) :
    ((s.enqueue h p d e v tag).pc h p).queue.map (·.r) = (s.pc h p).queue.map (·.r) ++ [e.r] := by
  unfold State.enqueue
  dsimp only
  rw [State.pc_setPc, if_pos rfl, List.map_append]
  rfl

theorem moveIn_queue (v : Reserve) : ((s.moveIn h p d e v).pc h p).queue.map (·.r) = (s.pc h p).queue.map (·.r) ++ [e.r] := by
  obtain ⟨S, hS⟩ := sampleTag_parts (s.leaveDoor h p d e) h d e
  have hpc : ((s.leaveDoor h p d e).sampleTag h e d).1.pc h p = s.pc h p := by
    rw [hS]
    exact congrArg (Tab.get PcSt.reset · (pcKey h p)) (leaveDoor_pcs s h p d e)
  rw [State.moveIn, enqueue_queue, hpc]

theorem moveIn_buf (v : Reserve) : ∀ x ∈ ((s.moveIn h p d e v).door h d).buf, x.r.id ≠ e.r.id := by
  obtain ⟨S, hS⟩ := sampleTag_parts (s.leaveDoor h p d e) h d e
  have hdoor : (s.moveIn h p d e v).door h d = (s.leaveDoor h p d e).door h d := (congrArg (State.door · h d) hS :)
  rw [hdoor]
  exact leaveDoor_buf s h p d e

/-- Beside the move an admission counts events and sets the arbiter, whose rotation goes on from the entry's door. -/
theorem admitOne_parts (v : Reserve) :
    ∃ (t : State) (a : ArbSt), (s.moveIn h p d e v).RegsOnly t ∧ s.admitOne h p d e v = t.setArb h p a ∧ a.last = d := by
  refine ⟨_, _, ?_, rfl, rfl⟩
  have hadmit : (s.moveIn h p d e v).RegsOnly (((s.moveIn h p d e v).tally h 0x02 (some p) [d] (some e.r.cas) 1).tally h 0x03 (some p) [d] (some e.r.cas) e.r.units) :=
    (State.tally_regsOnly ..).trans (State.tally_regsOnly ..)
  have hlatch : ∀ (c : Prop) [Decidable c] (t : State), t.RegsOnly (if c then t.tally h 0x09 none [d] (some e.r.cas) 1 else t) := fun c _ t => by
    split
    · exact t.tally_regsOnly ..
    · exact .refl t
  have hsplit : ∀ (c : Prop) [Decidable c] (t : State), t.RegsOnly (if c then t.flag .DARB_STATUS_LATCH_SPLIT h 0 0 else t) := fun c _ t => by
    split
    · exact (State.RegsOnly.refl t).flag
    · exact .refl t
  exact (hadmit.trans (hlatch _ _)).trans (hsplit _ _)

theorem admitOne_queue (v : Reserve) : ((s.admitOne h p d e v).pc h p).queue.map (·.r) = (s.pc h p).queue.map (·.r) ++ [e.r] := by
  obtain ⟨t, a, hregs, hadmit, -⟩ := admitOne_parts s h p d e v
  rw [hadmit, hregs.eq]
  exact moveIn_queue s h p d e v

theorem admitOne_buf (v : Reserve) : ∀ x ∈ ((s.admitOne h p d e v).door h d).buf, x.r.id ≠ e.r.id := by
  obtain ⟨t, a, hregs, hadmit, -⟩ := admitOne_parts s h p d e v
  rw [hadmit, hregs.eq]
  exact moveIn_buf s h p d e v

theorem admitOne_last (v : Reserve) : ((s.admitOne h p d e v).arb h p).last = d := by
  obtain ⟨t, a, -, hadmit, ha⟩ := admitOne_parts s h p d e v
  rw [hadmit, State.arb_setArb, if_pos rfl, ha]

end

/-! ## ADMIT (R136) -/

theorem pc_setArb (s : State) (h p g q : Nat) (x : ArbSt) : (s.setArb h p x).pc g q = s.pc g q := rfl

theorem door_setArb (s : State) (h p g d : Nat) (x : ArbSt) : (s.setArb h p x).door g d = s.door g d := rfl

/-- The contest in which an evaluation of a pseudo-channel ends. -/
def State.contested (s : State) (h p : Nat) : State := (s.countHolds h p).contest h p

section
variable {s : State} {h p : Nat}

/-- A pseudo-channel that nothing holds and that waits for its evaluation in this CCLK is evaluated by the contest alone. -/
theorem admitNext_of_free (hin : s.pcIn h p = true) (heval : (s.arb h p).evalAt ≠ s.cyc + 1) (hhold : (s.arb h p).hold = .none) (hrun : s.clk.run = true)
    (hstep : s.hinge.step = 0) : s.admitNext h p = (s.contested h p).setArb h p { (s.contested h p).arb h p with evalAt := s.cyc + 1 } := by
  have hcount := countHolds_holdsCounted s h p
  have hfree : ((s.countHolds h p).arb h p).hold = .none := by rw [hcount.arb]; exact hhold
  have hcontest : (s.countHolds h p).evaluate h p = s.contested h p := by
    unfold State.evaluate
    rw [hfree]
    rfl
  have hguard : ¬((s.arb h p).evalAt = s.cyc + 1 ∨ s.clk.run = false ∨ 2 < s.hinge.step ∨ s.pcIn h p = false) := by simp [heval, hrun, hstep, hin]
  have hfold : (List.range 9).foldl (fun t d => t.noteHeld h p d) s = s.countHolds h p := rfl
  simp only [State.admitNext, if_neg hguard, hfold, if_pos hstep, hcontest]

theorem contested_of_none (hw : s.winner h p (s.candidates h p) = none) : s.contested h p = s.countHolds h p := by
  have hcount := countHolds_holdsCounted s h p
  rw [State.contested, State.contest, hcount.candidates, hcount.winner, hw]

theorem contested_of_winner {d : Nat} {e : DoorEnt} {v : Reserve} (hw : s.winner h p (s.candidates h p) = some (d, e))
    (hv : (s.pc h p).room s.cyc e.r = some v) (hd : s.doorCanServe h d p = true) : s.contested h p = (s.countHolds h p).admitOne h p d e v := by
  have hcount := countHolds_holdsCounted s h p
  simp only [State.contested, State.contest, hcount.candidates, hcount.winner, hw, State.tryAdmit, hcount.pc, hcount.cyc, hv, hcount.doorCanServe, hd, if_true]

end

/-- Settles O35: a count of held requests leaves the contest as it stands, and its winner, if it has one, moves from its door into the queue. -/
theorem admitTakesTheWinner : Obligations.AdmitTakesTheWinner := by
  intro s h p hin heval hhold hrun hstep
  have hnext := admitNext_of_free hin heval hhold hrun hstep
  have hcount := countHolds_holdsCounted s h.val p.val
  refine ⟨fun d e v hw hv hd => ⟨s.admitNext h.val p.val, rfl, ?_, ?_, ?_, ?_, s.admitNext_mem .., s.admitNext_fuse ..⟩,
    fun hw => ⟨s.admitNext h.val p.val, rfl, ?_, fun d _ => ?_, ?_, s.admitNext_mem .., s.admitNext_fuse ..⟩⟩
  · rw [hnext, pc_setArb, contested_of_winner hw hv hd, admitOne_queue, hcount.pc]
  · rw [hnext, door_setArb, contested_of_winner hw hv hd]
    exact admitOne_buf (s.countHolds h.val p.val) h.val p.val d e v
  · rw [hnext, State.arb_setArb, if_pos rfl, contested_of_winner hw hv hd, admitOne_last]
  · rw [hnext, State.arb_setArb, if_pos rfl]
  · rw [hnext, pc_setArb, contested_of_none hw, hcount.pc]
  · rw [hnext, door_setArb, contested_of_none hw, hcount.buf]
  · rw [hnext, State.arb_setArb, if_pos rfl]

end Sys2Proof.Machine
end

section
/-! SUPPORT. A pseudo-channel's queue as time passes: marks of age, merge windows and WAIT steps (R155, R160, R170, R173). -/

namespace Sys2Proof.Machine

theorem setPc_done {s : State} (hi : s.Idle) (h p : Nat) (x : PcSt) : (s.setPc h p x).done = s.setPc h p x :=
  done_of_eq hi rfl rfl rfl rfl rfl rfl rfl rfl

/-! ## Marks of age (R155) -/

theorem withOlder_map_snd (seen l : List QEnt) : (withOlder seen l).map Prod.snd = l := by
  induction l generalizing seen with
  | nil => rfl
  | cons e t ih => rw [withOlder, List.map_cons, ih]

/-- Marks that time brings change no entry but for its age and its group. -/
theorem refreshMarks_queue (x : PcSt) (now ceil : Nat) : ∃ G : List QEnt × QEnt → Option Nat,
    (x.refreshMarks now ceil).queue = (withOlder [] x.queue).map fun oe => { oe.2 with aged := decide (oe.2.adm + ceil ≤ now), grp := G oe } := by
  refine ⟨fun oe => oe.2.grp.filter fun g => ((x.groups.map fun g =>
    { g with rankable := g.rankable || decide (g.start + 16 ≤ now) || x.openRow g.bank == some g.row }).any fun y => y.id == g) && x.eligible oe.1 oe.2,
    List.map_congr_left fun oe _ => ?_⟩
  obtain ⟨older, e⟩ := oe
  cases hg : e.grp with
  | none => simp [hg]
  | some g =>
    simp only [hg, Option.filter]
    split <;> rfl

theorem refreshMarks_entries (x : PcSt) (now ceil : Nat) :
    (x.refreshMarks now ceil).queue.map (fun e => (e.r, e.adm, e.door)) = x.queue.map fun e => (e.r, e.adm, e.door) := by
  obtain ⟨G, hG⟩ := refreshMarks_queue x now ceil
  calc (x.refreshMarks now ceil).queue.map (fun e => (e.r, e.adm, e.door))
      = ((withOlder [] x.queue).map Prod.snd).map fun e => (e.r, e.adm, e.door) := by rw [hG, List.map_map, List.map_map]; rfl
    _ = x.queue.map fun e => (e.r, e.adm, e.door) := by rw [withOlder_map_snd]

theorem refreshMarks_aged (x : PcSt) (now ceil : Nat) : ∀ e ∈ (x.refreshMarks now ceil).queue, e.aged = decide (e.adm + ceil ≤ now) := by
  obtain ⟨G, hG⟩ := refreshMarks_queue x now ceil
  rw [hG]
  intro e he
  obtain ⟨oe, -, rfl⟩ := List.mem_map.mp he
  rfl

theorem exec_ageCeiling {s : State} (hi : s.Idle) (h : Hub) (p : Pc) :
    ∃ t : State, exec (.ageCeiling h p) s = .next t ∧ t = { s with pcs := t.pcs } ∧ s.OtherPcs t h.val p.val ∧
      (t.pc h.val p.val).queue.map (fun e => (e.r, e.adm, e.door)) = (s.pc h.val p.val).queue.map (fun e => (e.r, e.adm, e.door)) ∧
      (∀ e ∈ (t.pc h.val p.val).queue, e.aged = decide (e.adm + s.ageCeil h.val p.val ≤ s.timerCyc)) ∧ (t.pc h.val p.val).banks = (s.pc h.val p.val).banks := by
  refine ⟨s.ageMarks h.val p.val, congrArg Host.Outcome.next (setPc_done hi ..), rfl, setPc_otherPcs s p.isLt _, ?_⟩
  rw [State.ageMarks, pc_setPc_self]
  exact ⟨refreshMarks_entries .., refreshMarks_aged _ _ _, rfl⟩

/-! ## Merge windows (R160) -/

/-- A group of bank b whose merge window is over becomes rankable. -/
def TGroup.windowEnd (b now : Nat) (g : TGroup) : TGroup := if g.bank = b ∧ g.start + 16 ≤ now then { g with rankable := true } else g

section
variable (b now : Nat) (g : TGroup)

theorem windowEnd_place : ((g.windowEnd b now).id, (g.windowEnd b now).bank, (g.windowEnd b now).row, (g.windowEnd b now).start) = (g.id, g.bank, g.row, g.start) := by
  unfold TGroup.windowEnd
  split <;> rfl

theorem windowEnd_of_over (hg : g.bank = b ∧ g.start + 16 ≤ now) : (g.windowEnd b now).rankable = true := by rw [TGroup.windowEnd, if_pos hg]

theorem windowEnd_of_open (hg : ¬(g.bank = b ∧ g.start + 16 ≤ now)) : g.windowEnd b now = g := if_neg hg

end

theorem exec_transomMergeWindow {s : State} (hi : s.Idle) (h : Hub) (p : Pc) (b : Bank) :
    ∃ t : State, exec (.transomMergeWindow h p b) s = .next t ∧ t = { s with pcs := t.pcs } ∧ s.OtherPcs t h.val p.val ∧
      (t.pc h.val p.val).queue = (s.pc h.val p.val).queue ∧ (t.pc h.val p.val).banks = (s.pc h.val p.val).banks ∧
      (t.pc h.val p.val).groups.map (fun g => (g.id, g.bank, g.row, g.start)) = (s.pc h.val p.val).groups.map (fun g => (g.id, g.bank, g.row, g.start)) ∧
      (∀ g ∈ (t.pc h.val p.val).groups, g.bank = b.val → g.start + 16 ≤ s.timerCyc → g.rankable = true) ∧
      (∀ g ∈ (t.pc h.val p.val).groups, (g.bank ≠ b.val ∨ s.timerCyc < g.start + 16) → g ∈ (s.pc h.val p.val).groups) := by
  refine ⟨s.mergeWindow h.val p.val b.val, congrArg Host.Outcome.next (setPc_done hi ..), rfl, setPc_otherPcs s p.isLt _, ?_⟩
  have hpc : (s.mergeWindow h.val p.val b.val).pc h.val p.val =
      { s.pc h.val p.val with groups := (s.pc h.val p.val).groups.map (TGroup.windowEnd b.val s.timerCyc) } := pc_setPc_self ..
  rw [hpc]
  refine ⟨rfl, rfl, ?_, fun g hg hb hs => ?_, fun g hg hopen => ?_⟩
  · rw [List.map_map]
    exact List.map_congr_left fun g _ => windowEnd_place ..
  all_goals
    obtain ⟨g', hg', rfl⟩ := List.mem_map.mp hg
    have hplace := windowEnd_place b.val s.timerCyc g'
    simp only [Prod.mk.injEq] at hplace
    obtain ⟨-, hbank, -, hstart⟩ := hplace
  · exact windowEnd_of_over _ _ _ ⟨hbank ▸ hb, hstart ▸ hs⟩
  · rw [hbank, hstart] at hopen
    rw [windowEnd_of_open _ _ _ (by omega)]
    exact hg'

/-! ## WAIT steps (R170, R173) -/

/-- A pointer whose WAIT has run stops at the row command behind it. -/
theorem walk_past_wait {tbl : List Step} {q : Ptr} {now n c a : Nat} (x : PcSt) (fuel : Nat) (ev : List Nat) (hover : q.waitTo ≤ now) (hwait : q.waitTo ≠ 0)
    (hstep : tbl[q.step]? = some (.wait n)) (hnext : tbl[q.step + 1]? = some (.row c a)) :
    walk tbl x now (fuel + 2) q ev = (some { q with step := q.step + 1, waitTo := 0 }, ev) := by
  have hhere : walk tbl x now (fuel + 2) q ev = walk tbl x now (fuel + 1) { q with step := q.step + 1, waitTo := 0 } ev := by
    simp only [walk, if_neg (Nat.not_lt.mpr hover), hstep, if_neg hwait]
  rw [hhere]
  simp only [walk, if_neg (Nat.not_lt_zero now), hnext]

theorem setPtr_of_bank {q : Ptr} (x : PcSt) (hop : q.op ≤ 5) : x.setPtr q = x.setBank q.bank { x.bank q.bank with ptr := some q } := if_neg (by omega)

section
variable {s : State} {h p b : Nat} {q : Ptr} (hq : ((s.pc h p).bank b).ptr = some q) (hwait : q.waitTo ≠ 0)
include hq

theorem waitDone_of_early (hearly : s.cyc < q.waitTo) : s.waitDone h p b = s := by
  simp only [State.waitDone, hq]
  exact if_neg (by omega)

include hwait

theorem waitDone_of_over {tbl : StepTableCfg} {n c a : Nat} (hover : q.waitTo ≤ s.cyc) (hop : q.op ≤ 5) (htbl : s.stepsOf h p = some tbl)
    (hstep : tbl.steps[q.step]? = some (.wait n)) (hnext : tbl.steps[q.step + 1]? = some (.row c a)) :
    s.waitDone h p b = s.setPc h p ((s.pc h p).setPtr { q with step := q.step + 1, waitTo := 0 }) := by
  have hadvance : s.waitDone h p b = s.advance h p q := by
    simp only [State.waitDone, hq]
    exact if_pos ⟨hwait, hover⟩
  have hbank : q.op ≠ opReopen := by unfold opReopen; omega
  have hwalk := walk_past_wait (s.pc h p) 1049998 [] hover hwait hstep hnext
  have hfuel : walkFuel = 1049998 + 2 := rfl
  simp only [hadvance, State.advance, State.advanceAt, if_neg hbank, htbl, hfuel, hwalk]
  rfl

end

/-- Settles O37: marks of age change no entry otherwise, a merge window's end changes groups alone, and a WAIT that has run leaves its pointer one step on. -/
theorem queueMarksAndWaits : Obligations.QueueMarksAndWaits := by
  refine ⟨fun s h p hi => exec_ageCeiling hi h p, fun s h p b hi => exec_transomMergeWindow hi h p b,
    fun s h p b q hi hinge hq hbank hwait => ⟨fun hearly => ?_, fun tbl n c a hover hop htbl hstep hnext => ?_⟩⟩
  · refine (next_done_congr (u := s) ?_).trans (congrArg Host.Outcome.next (done_of_idle hi))
    rw [waitDone_of_early hq hearly, hingeTick_of_no_hinge hinge]
  · refine (next_done_congr ?_).trans (congrArg Host.Outcome.next (setPc_done hi ..))
    rw [waitDone_of_over hq hwait hover hop htbl hstep hnext, hingeTick_of_no_hinge (by exact hinge), setPtr_of_bank _ (by exact hop), hbank]

end Sys2Proof.Machine
end

section
/-! SUPPORT. Reads that return, read-modify-writes that merge, and the buckets that leak (R150, R247, R249 to R255). -/

namespace Sys2Proof.Machine

/-! ## What the ECC unit notes (R249 to R252, R254, R255) -/

/-- Nothing but registers, the error logs, the buckets and the trace units differs. -/
def State.EccNoted (s t : State) : Prop := ∃ R L V T, t = { s with regs := R, logs := L, levels := V, tracers := T }

theorem State.EccNoted.refl (s : State) : s.EccNoted s := ⟨_, _, _, _, rfl⟩

theorem State.EccNoted.trans {s t u : State} (h : s.EccNoted t) (g : t.EccNoted u) : s.EccNoted u := by
  obtain ⟨R, L, V, T, rfl⟩ := h
  obtain ⟨R', L', V', T', rfl⟩ := g
  exact ⟨R', L', V', T', rfl⟩

theorem State.EccNoted.foldl {α : Type} {F : State → α → State} (hF : ∀ (t : State) (x : α), t.EccNoted (F t x)) (xs : List α) (s : State) :
    s.EccNoted (xs.foldl F s) :=
  List.foldlRecOn _ _ (.refl s) fun t ht x _ => ht.trans (hF t x)

theorem State.RegsOnly.eccNoted {s t : State} (h : s.RegsOnly t) : s.EccNoted t := by
  obtain ⟨R, rfl⟩ := h
  exact ⟨_, _, _, _, rfl⟩

theorem State.Traced.eccNoted {s t : State} (h : s.Traced t) : s.EccNoted t := by
  obtain ⟨⟨R, T, rfl⟩, -⟩ := h
  exact ⟨_, _, _, _, rfl⟩

theorem logPut_eccNoted (s : State) (h e : Nat) (x : LogEnt) : s.EccNoted (s.logPut h e x) := by
  have hset : s.EccNoted ((s.setLog h e (some x)).note .ECC_LOG_LOC_VALID h e 0 1) := ⟨_, _, _, _, rfl⟩
  exact hset.trans (pushTrace_traced ..).eccNoted

theorem logDrop_eccNoted (s : State) (h : Nat) : s.EccNoted (s.logDrop h) := (State.RegsOnly.refl s).count.flag.eccNoted

theorem logEvent_eccNoted (s : State) (h : Nat) (ev : LogEnt) : s.EccNoted (s.logEvent h ev) := by
  unfold State.logEvent
  dsimp only
  split
  · split
    · exact logPut_eccNoted ..
    · exact .refl s
  · split
    · exact logPut_eccNoted ..
    · split
      · split
        · exact logDrop_eccNoted ..
        · exact logPut_eccNoted ..
      · exact logDrop_eccNoted ..

theorem bucketUp_eccNoted (s : State) (h p : Nat) (policy : Bool) : s.EccNoted (s.bucketUp h p policy) := by
  unfold State.bucketUp
  dsimp only
  split
  · exact ⟨_, _, _, _, rfl⟩
  · split
    · exact ⟨_, _, _, _, rfl⟩
    · exact ⟨_, _, _, _, rfl⟩

/-- An outcome that is not clean is counted, tallied and logged. -/
theorem countLog_eccNoted (s : State) (f : Fld) (top i : Nat) (h ev : Nat) (unit : Option Nat) (subs : List Nat) (cas : Option Nat) (x : LogEnt) :
    s.EccNoted (((s.count f top h i 0 1).tally h ev unit subs cas 1).logEvent h x) :=
  ((State.RegsOnly.refl s).count.trans (State.tally_regsOnly ..)).eccNoted.trans (logEvent_eccNoted ..)

theorem noteRead_eccNoted (s : State) (r : Req) (n : Nat) (o : SectorOutcome) : s.EccNoted (s.noteRead r n o) := by
  cases o with
  | clean => exact .refl s
  | fixed sym bits => exact (countLog_eccNoted ..).trans (bucketUp_eccNoted ..)
  | bad => exact (countLog_eccNoted ..).trans (State.RegsOnly.refl _).flag.eccNoted
  | poison => exact (countLog_eccNoted ..).trans (State.RegsOnly.refl _).flag.eccNoted

theorem noteMerge_eccNoted (s : State) (r : Req) (n : Nat) (o : SectorOutcome) : s.EccNoted (s.noteMerge r n o) := by
  cases o with
  | clean => exact .refl s
  | fixed sym bits => exact (countLog_eccNoted ..).trans (bucketUp_eccNoted ..)
  | bad => exact (countLog_eccNoted ..).trans (State.RegsOnly.refl _).flag.eccNoted
  | poison => exact (countLog_eccNoted ..).trans (State.RegsOnly.refl _).flag.eccNoted

/-! ## A read leaves with its answer (R150, R254) -/

/-- A read's answer: data and status where its way back is up, HALTED and no data where it is not. -/
def State.AnswersRead (s : State) (e : QEnt) (l : List (Nat × SectorOutcome × BitVec 256)) (a : Answer) : Prop :=
  a.r = e.r ∧ (e.drop = false → (s.routeUp e.r = true → a.st = readStatus l ∧ a.data = gatherData l) ∧ (s.routeUp e.r = false → a.st = .halted ∧ a.data = 0))

theorem sampleDone_parts (s : State) (e : QEnt) (st : Status) : ∃ S, s.sampleDone e st = { s with samplers := S } := by
  unfold State.sampleDone
  split
  · exact ⟨_, rfl⟩
  · exact ⟨_, rfl⟩

/-- The end of a request adds one answer. -/
theorem finish_parts (s : State) (r : Req) (st : Status) (data : Block) (poison pkind : BitVec 8) : ∃ P C a,
    s.finish r st data poison pkind = { s with outPane := P, outCas := C, answers := s.answers ++ [a] } ∧ a.r = r ∧
      (s.routeUp r = true → a.st = st ∧ a.data = data) ∧ (s.routeUp r = false → a.st = .halted ∧ a.data = 0) := by
  refine ⟨_, _, _, rfl, ?_⟩
  cases hup : s.routeUp r with
  | true => exact ⟨rfl, fun _ => ⟨rfl, rfl⟩, fun h => absurd h (by decide)⟩
  | false => exact ⟨rfl, fun h => absurd h (by decide), fun _ => ⟨rfl, rfl⟩⟩

section
variable (s : State) (h p : Nat) (e : QEnt) (l : List (Nat × SectorOutcome × BitVec 256))

theorem answerRead_parts : ∃ S P C a,
    s.answerRead h p e l = { s.freeEntry h p e with samplers := S, outPane := P, outCas := C, answers := s.answers ++ [a] } ∧ s.AnswersRead e l a := by
  unfold State.answerRead
  obtain ⟨S, hS⟩ := sampleDone_parts (s.freeEntry h p e) e (if e.drop then .casementReset else readStatus l)
  have hroute : ({ s.freeEntry h p e with samplers := S } : State).routeUp e.r = s.routeUp e.r := rfl
  cases hd : e.drop with
  | true =>
    simp only [hd, if_true] at hS ⊢
    rw [hS]
    obtain ⟨P, C, a, hfin, hr, -⟩ := finish_parts ({ s.freeEntry h p e with samplers := S } : State) e.r .casementReset 0 0 0
    exact ⟨S, P, C, a, hfin, hr, fun h => absurd (hd.symm.trans h) (by decide)⟩
  | false =>
    simp only [hd, Bool.false_eq_true, if_false] at hS ⊢
    rw [hS]
    obtain ⟨P, C, a, hfin, hr, hup, hdown⟩ := finish_parts ({ s.freeEntry h p e with samplers := S } : State) e.r (readStatus l) (gatherData l)
      (gatherMarks l fun o => o == .bad || o == .poison) (gatherMarks l fun o => o == .poison)
    exact ⟨S, P, C, a, hfin, hr, fun _ => ⟨hroute ▸ hup, hroute ▸ hdown⟩⟩

/-- The read's entry is no longer in the queue. -/
theorem answerRead_queue : ((s.answerRead h p e l).pc h p).queue = (s.pc h p).queue.filter fun y => y.r.id != e.r.id := by
  obtain ⟨S, P, C, a, hparts, -⟩ := answerRead_parts s h p e l
  have hpc : (s.answerRead h p e l).pc h p = (s.freeEntry h p e).pc h p := (congrArg (State.pc · h p) hparts :)
  rw [hpc, State.freeEntry, pc_setPc_self]

theorem answerRead_answers : ∃ a, (s.answerRead h p e l).answers = s.answers ++ [a] ∧ s.AnswersRead e l a := by
  obtain ⟨S, P, C, a, hparts, ha⟩ := answerRead_parts s h p e l
  exact ⟨a, by rw [hparts], ha⟩

theorem answerRead_hinge : (s.answerRead h p e l).hinge = s.hinge := by
  obtain ⟨S, P, C, a, hparts, -⟩ := answerRead_parts s h p e l
  exact (congrArg State.hinge hparts :)

end

/-- What the answers of further reads keep: the answers before them, no entry but those of the queue, and the hinge. -/
def State.AnswersMore (s t : State) (h p : Nat) : Prop := s.answers ⊆ t.answers ∧ (t.pc h p).queue ⊆ (s.pc h p).queue ∧ t.hinge = s.hinge

theorem answerReads_answersMore (h p : Nat) (l : List (Nat × SectorOutcome × BitVec 256)) (es : List QEnt) (s : State) :
    s.AnswersMore (es.foldl (fun t m => t.answerRead h p m l) s) h p := by
  refine List.foldlRecOn (motive := fun t => s.AnswersMore t h p) _ _ ⟨List.Subset.refl _, List.Subset.refl _, rfl⟩ fun t ht e _ => ?_
  obtain ⟨hans, hqueue, hhinge⟩ := ht
  obtain ⟨a, ha, -⟩ := answerRead_answers t h p e l
  refine ⟨ha ▸ List.subset_append_of_subset_left _ hans, ?_, (answerRead_hinge ..).trans hhinge⟩
  rw [answerRead_queue]
  exact fun y hy => hqueue (List.mem_of_mem_filter hy)

/-! ## READ_RETURN (R247) -/

/-- The bursts of a read, in sector order. -/
def PcSt.burstsOf (x : PcSt) (e : QEnt) : List Burst := e.r.sectors.filterMap fun n => x.flight.find? fun b => b.req == e.r.id && b.sec == n

/-- The members of a group that share bursts (R160). -/
def PcSt.sharers (x : PcSt) (bs : List Burst) : List QEnt := (bs.flatMap (·.also)).filterMap fun id => x.entry id

/-- The bursts of a read have passed the ECC unit: they are taken, noted, and for a sweep written back. -/
def State.decoded (s : State) (h p : Nat) (e : QEnt) (errs : List BurstError) (sweep : Req → Bool) : State :=
  let l := decodeBursts ((s.pc h p).burstsOf e) errs
  let t := l.foldl (fun t y => t.noteRead e.r y.1 y.2.1) (s.setPc h p { s.pc h p with flight := (s.pc h p).flight.filter fun b => b.req != e.r.id })
  if sweep e.r then (((s.pc h p).burstsOf e).zip l).foldl (fun t z => t.rewrite e.r z.1 z.2) t else t

theorem readReturn_of_none {s : State} {h p : Nat} (errs : List BurstError) (sweep : Req → Bool) (hr : s.readReady h p = none) : s.readReturn h p errs sweep = s := by
  rw [State.readReturn, hr]

theorem readReturn_of_ready {s : State} {h p : Nat} {e : QEnt} (errs : List BurstError) (sweep : Req → Bool) (hr : s.readReady h p = some e) :
    s.readReturn h p errs sweep = ((s.pc h p).sharers ((s.pc h p).burstsOf e)).foldl (fun t m => t.answerRead h p m (decodeBursts ((s.pc h p).burstsOf e) errs))
      ((s.decoded h p e errs sweep).answerRead h p e (decodeBursts ((s.pc h p).burstsOf e) errs)) := by
  rw [State.readReturn, hr]
  rfl

theorem rewrite_parts (s : State) (r : Req) (b : Burst) (x : Nat × SectorOutcome × BitVec 256) : ∃ M, s.rewrite r b x = { s with mem := M } := by
  unfold State.rewrite
  dsimp only
  split
  · split
    · exact ⟨_, rfl⟩
    · exact ⟨_, rfl⟩
  · exact ⟨_, rfl⟩

theorem rewrites_parts {s : State} (r : Req) (zs : List (Burst × Nat × SectorOutcome × BitVec 256)) :
    ∃ M, zs.foldl (fun t z => t.rewrite r z.1 z.2) s = { s with mem := M } := by
  refine List.foldlRecOn (motive := fun t : State => ∃ M, t = { s with mem := M }) _ _ ⟨_, rfl⟩ fun t ht z _ => ?_
  obtain ⟨M, rfl⟩ := ht
  obtain ⟨M', hM'⟩ := rewrite_parts { s with mem := M } r z.1 z.2
  exact ⟨M', hM'⟩

section
variable (s : State) (h p : Nat) (e : QEnt) (errs : List BurstError) (sweep : Req → Bool)

theorem decoded_parts : ∃ R L V T M, s.decoded h p e errs sweep =
    { s.setPc h p { s.pc h p with flight := (s.pc h p).flight.filter fun b => b.req != e.r.id } with regs := R, logs := L, levels := V, tracers := T, mem := M } ∧
    (sweep e.r = false → M = s.mem) := by
  unfold State.decoded
  dsimp only
  obtain ⟨R, L, V, T, hnoted⟩ := State.EccNoted.foldl (F := fun t y => t.noteRead e.r y.1 y.2.1) (fun t y => noteRead_eccNoted t e.r y.1 y.2.1)
    (decodeBursts ((s.pc h p).burstsOf e) errs) (s.setPc h p { s.pc h p with flight := (s.pc h p).flight.filter fun b => b.req != e.r.id })
  rw [hnoted]
  split
  · next hsweep =>
    obtain ⟨M, hM⟩ := rewrites_parts (s := { s.setPc h p { s.pc h p with flight := (s.pc h p).flight.filter fun b => b.req != e.r.id } with
      regs := R, logs := L, levels := V, tracers := T }) e.r (((s.pc h p).burstsOf e).zip (decodeBursts ((s.pc h p).burstsOf e) errs))
    exact ⟨R, L, V, T, M, hM, fun hno => absurd (hsweep.symm.trans hno) (by decide)⟩
  · exact ⟨R, L, V, T, s.mem, rfl, fun _ => rfl⟩

theorem decoded_frame : (s.decoded h p e errs sweep).hinge = s.hinge ∧ (∀ r, (s.decoded h p e errs sweep).routeUp r = s.routeUp r) ∧
    (sweep e.r = false → (s.decoded h p e errs sweep).mem = s.mem) := by
  obtain ⟨R, L, V, T, M, hparts, hmem⟩ := decoded_parts s h p e errs sweep
  rw [hparts]
  exact ⟨rfl, fun _ => rfl, hmem⟩

end

section
variable {s : State} {h p : Nat} {e : QEnt} (errs : List BurstError) (sweep : Req → Bool) (hr : s.readReady h p = some e)
include hr

/-- Beside those of its group a read's return leaves its own answer, and its entry is gone. -/
theorem readReturn_answersMore : ((s.decoded h p e errs sweep).answerRead h p e (decodeBursts ((s.pc h p).burstsOf e) errs)).AnswersMore (s.readReturn h p errs sweep) h p := by
  rw [readReturn_of_ready errs sweep hr]
  exact answerReads_answersMore ..

theorem readReturn_hinge : (s.readReturn h p errs sweep).hinge = s.hinge := by
  obtain ⟨-, -, hhinge⟩ := readReturn_answersMore errs sweep hr
  obtain ⟨hdecoded, -, -⟩ := decoded_frame s h p e errs sweep
  exact hhinge.trans ((answerRead_hinge ..).trans hdecoded)

theorem readReturn_queue : ∀ x ∈ ((s.readReturn h p errs sweep).pc h p).queue, x.r.id ≠ e.r.id := by
  intro x hx
  obtain ⟨-, hqueue, -⟩ := readReturn_answersMore errs sweep hr
  have hleft := hqueue hx
  rw [answerRead_queue] at hleft
  simpa using (List.mem_filter.mp hleft).2

theorem readReturn_answer : ∃ a ∈ (s.readReturn h p errs sweep).answers, s.AnswersRead e (decodeBursts ((s.pc h p).burstsOf e) errs) a := by
  obtain ⟨hans, -, -⟩ := readReturn_answersMore errs sweep hr
  obtain ⟨-, hroute, -⟩ := decoded_frame s h p e errs sweep
  obtain ⟨a, ha, hread⟩ := answerRead_answers (s.decoded h p e errs sweep) h p e (decodeBursts ((s.pc h p).burstsOf e) errs)
  refine ⟨a, hans (ha ▸ List.mem_append_right _ (List.mem_singleton.mpr rfl)), ?_⟩
  unfold State.AnswersRead at hread ⊢
  rwa [hroute] at hread

theorem readReturn_mem (hsweep : sweep e.r = false) : (s.readReturn h p errs sweep).mem = s.mem := by
  obtain ⟨-, -, hmem⟩ := decoded_frame s h p e errs sweep
  rw [readReturn_of_ready errs sweep hr, foldl_mem _ _ _ fun m t => t.answerRead_mem h p m _, State.answerRead_mem, hmem hsweep]

end

/-! ## MERGE (R255) -/

/-- Sectors whose outcome has a property are marked. -/
def marksFrom (f : SectorOutcome → Bool) (m : BitVec 8) (l : List (Nat × SectorOutcome × BitVec 256)) : BitVec 8 :=
  l.foldl (fun m y => if f y.2.1 then m ||| BitVec.ofNat 8 (2 ^ y.1) else m) m

/-- The outcomes after which the poison word is written. -/
def SectorOutcome.lost (o : SectorOutcome) : Bool := o == .bad || o == .poison

theorem getLsbD_ofNat_two_pow {n : Nat} (hn : n < 8) : (BitVec.ofNat 8 (2 ^ n)).getLsbD n = true := by
  rw [BitVec.getLsbD_ofNat, Nat.testBit_two_pow_self, Bool.and_true, decide_eq_true hn]

section
variable {f : SectorOutcome → Bool}

theorem marksFrom_keeps {i : Nat} (l : List (Nat × SectorOutcome × BitVec 256)) (m : BitVec 8) (hm : m.getLsbD i = true) : (marksFrom f m l).getLsbD i = true := by
  refine List.foldlRecOn (motive := fun m : BitVec 8 => m.getLsbD i = true) _ _ hm fun m hm y _ => ?_
  split
  · rw [BitVec.getLsbD_or, hm, Bool.true_or]
  · exact hm

theorem marksFrom_of_mem {y : Nat × SectorOutcome × BitVec 256} {l : List (Nat × SectorOutcome × BitVec 256)} (m : BitVec 8) (hy : y ∈ l)
    (hf : f y.2.1 = true) (hn : y.1 < 8) : (marksFrom f m l).getLsbD y.1 = true := by
  induction l generalizing m with
  | nil => exact absurd hy List.not_mem_nil
  | cons x t ih =>
    rcases List.mem_cons.mp hy with rfl | hy
    · refine marksFrom_keeps t _ ?_
      dsimp only
      rw [if_pos hf, BitVec.getLsbD_or, getLsbD_ofNat_two_pow hn, Bool.or_true]
    · exact ih _ hy

theorem marksFrom_of_none {l : List (Nat × SectorOutcome × BitVec 256)} (m : BitVec 8) (hl : ∀ y ∈ l, f y.2.1 = false) : marksFrom f m l = m := by
  refine List.foldlRecOn (motive := fun x : BitVec 8 => x = m) _ _ rfl fun x hx y hy => ?_
  rw [hl y hy]
  exact hx

end

section
variable (e : QEnt) (y : Nat × SectorOutcome × BitVec 256) (l : List (Nat × SectorOutcome × BitVec 256))

theorem mergeOne_marks : (mergeOne e y).r.id = e.r.id ∧ (mergeOne e y).merged = e.merged ||| BitVec.ofNat 8 (2 ^ y.1) ∧
    (mergeOne e y).bad = if y.2.1.lost then e.bad ||| BitVec.ofNat 8 (2 ^ y.1) else e.bad := by
  obtain ⟨n, o, data⟩ := y
  cases o <;> exact ⟨rfl, rfl, rfl⟩

theorem mergeAll_marks : (l.foldl mergeOne e).r.id = e.r.id ∧ (l.foldl mergeOne e).merged = marksFrom (fun _ => true) e.merged l ∧
    (l.foldl mergeOne e).bad = marksFrom SectorOutcome.lost e.bad l := by
  induction l generalizing e with
  | nil => exact ⟨rfl, rfl, rfl⟩
  | cons y t ih =>
    obtain ⟨hid, hmerged, hbad⟩ := mergeOne_marks e y
    obtain ⟨ihid, ihmerged, ihbad⟩ := ih (mergeOne e y)
    exact ⟨ihid.trans hid, by rw [List.foldl_cons, ihmerged, hmerged]; rfl, by rw [List.foldl_cons, ihbad, hbad]; rfl⟩

end

theorem setEntry_mem {x : PcSt} {e y : QEnt} (hy : y ∈ (x.setEntry e).queue) (hid : y.r.id = e.r.id) : y = e := by
  obtain ⟨z, -, hz⟩ := List.mem_map.mp hy
  by_cases h : z.r.id = e.r.id
  · rw [← hz, if_pos h]
  · rw [if_neg h] at hz
    exact absurd (hz ▸ hid) h

/-- A read-modify-write once its sectors are merged. -/
def PcSt.mergedEnt (x : PcSt) (e : QEnt) (errs : List BurstError) : QEnt := (decodeBursts (x.flight.filter fun b => b.req == e.r.id) errs).foldl mergeOne e

section
variable {s : State} {h p : Nat} (errs : List BurstError)

theorem merge_of_none (hm : s.mergeReady h p = none) : s.merge h p errs = s := by rw [State.merge, hm]

theorem merge_pc {e : QEnt} (hm : s.mergeReady h p = some e) :
    (s.merge h p errs).pc h p = { (s.pc h p).setEntry ((s.pc h p).mergedEnt e errs) with flight := (s.pc h p).flight.filter fun b => b.req != e.r.id } := by
  obtain ⟨R, L, V, T, hnoted⟩ := State.EccNoted.foldl (F := fun t y => t.noteMerge e.r y.1 y.2.1) (fun t y => noteMerge_eccNoted t e.r y.1 y.2.1)
    (decodeBursts ((s.pc h p).flight.filter fun b => b.req == e.r.id) errs) s
  simp only [State.merge, hm, hnoted]
  exact pc_setPc_self ..

end

/-! ## BUCKET_LEAK (R252) -/

/-- The levels at some keys fall by one. -/
def leakKeys (keys : List Nat) (V : Tab Nat) : Tab Nat := keys.foldl (fun V k => Tab.put 0 V k (Tab.get 0 V k - 1)) V

theorem leakKeys_get {keys : List Nat} (hk : keys.Nodup) (V : Tab Nat) (n : Nat) :
    Tab.get 0 (leakKeys keys V) n = if n ∈ keys then Tab.get 0 V n - 1 else Tab.get 0 V n := by
  induction keys generalizing V with
  | nil => rfl
  | cons k t ih =>
    obtain ⟨hkt, ht⟩ := List.nodup_cons.mp hk
    rw [leakKeys, List.foldl_cons, ← leakKeys, ih ht, Tab.get_put]
    by_cases e : k = n
    · subst e
      simp [hkt]
    · simp [e, Ne.symm e]

/-- A leak lowers the levels at its hub's keys. -/
theorem leak_parts (s : State) (h : Nat) : ∃ V, s.leak h = { s with levels := V } ∧ V = leakKeys ((List.range 96).map (pcKey h)) s.levels :=
  ⟨leakKeys ((List.range 96).map (pcKey h)) s.levels, by simp only [State.leak, leakKeys, List.foldl_map], rfl⟩

theorem pcKey_mem_hub {h g p : Nat} (hp : p < 96) : pcKey g p ∈ (List.range 96).map (pcKey h) ↔ g = h := by
  rw [List.mem_map]
  constructor
  · rintro ⟨q, hq, e⟩
    have hq := List.mem_range.mp hq
    unfold pcKey at e
    omega
  · rintro rfl
    exact ⟨p, List.mem_range.mpr hp, rfl⟩

/-- The levels of a hub's 96 pseudo-channels fall by one; those of every other hub stay. -/
theorem leakKeys_level (s : State) {h g p : Nat} (hp : p < 96) :
    Tab.get 0 (leakKeys ((List.range 96).map (pcKey h)) s.levels) (pcKey g p) = if g = h then s.level g p - 1 else s.level g p := by
  have hnodup : ((List.range 96).map (pcKey h)).Nodup := List.nodup_range.map fun a b e => by unfold pcKey at e; omega
  rw [leakKeys_get hnodup, if_congr (pcKey_mem_hub hp) rfl rfl]
  rfl

theorem leakDue_of_not {s : State} {h : Nat} (hnot : s.hubIn h = false ∨ s.now < Tab.get 0 s.leakAt h + Config.msTicks (s.eccCfg h).leakMs) : s.leakDue h = s := by
  refine if_neg fun hdue => ?_
  obtain ⟨hin, hover⟩ := hdue
  rcases hnot with hout | hearly
  · exact absurd (hin.symm.trans hout) (by decide)
  · omega

/-! ## O44, clause by clause -/

theorem exec_readReturn_none {s : State} {h : Hub} {p : Pc} (errs : List BurstError) (hinge : s.hinge.step = 0) (hr : s.readReady h.val p.val = none) :
    exec (.readReturn h p errs) s = .next s.done :=
  next_done_congr ((congrArg State.hingeTick (readReturn_of_none errs s.sweeps hr)).trans (hingeTick_of_no_hinge hinge))

theorem exec_readReturn_ready {s : State} {h : Hub} {p : Pc} {e : QEnt} (errs : List BurstError) (hinge : s.hinge.step = 0) (hr : s.readReady h.val p.val = some e) :
    exec (.readReturn h p errs) s = .next (s.readReturn h.val p.val errs s.sweeps).done :=
  next_done_congr (hingeTick_of_no_hinge (by rw [readReturn_hinge errs s.sweeps hr]; exact hinge))

theorem merge_marks {s : State} {h p : Nat} {e x : QEnt} (errs : List BurstError) (hm : s.mergeReady h p = some e)
    (hx : x ∈ ((s.merge h p errs).pc h p).queue) (hid : x.r.id = e.r.id) :
    let l := decodeBursts ((s.pc h p).flight.filter fun b => b.req == e.r.id) errs
    (∀ y ∈ l, y.1 < 8 → x.merged.getLsbD y.1 = true) ∧ (∀ y ∈ l, y.1 < 8 → (y.2.1 = .bad ∨ y.2.1 = .poison) → x.bad.getLsbD y.1 = true) ∧
      ((∀ y ∈ l, y.2.1 = .clean) → x.bad = e.bad) := by
  intro l
  obtain ⟨hent, hmerged, hbad⟩ := mergeAll_marks e l
  rw [merge_pc errs hm] at hx
  have hxe : x = l.foldl mergeOne e := setEntry_mem hx (hid.trans hent.symm)
  rw [hxe, hmerged, hbad]
  refine ⟨fun y hy hn => marksFrom_of_mem _ hy rfl hn, fun y hy hn ho => marksFrom_of_mem _ hy ?_ hn, fun hclean => marksFrom_of_none _ fun y hy => ?_⟩
  · rcases ho with ho | ho <;> rw [ho] <;> rfl
  · rw [hclean y hy]
    rfl

theorem exec_bucketLeak_expired {s : State} (hi : s.Idle) {h : Hub} (hin : s.hubIn h.val = true)
    (hover : Tab.get 0 s.leakAt h.val + Config.msTicks (s.eccCfg h.val).leakMs ≤ s.now) :
    ∃ t : State, exec (.bucketLeak h) s = .next t ∧ t = { s with levels := t.levels, leakAt := t.leakAt } ∧ (∀ p < 96, t.level h.val p = s.level h.val p - 1) ∧
      (∀ g p, g ≠ h.val → p < 96 → t.level g p = s.level g p) := by
  obtain ⟨V, hleak, hV⟩ := leak_parts s h.val
  have hdue : s.leakDue h.val = { s.leak h.val with leakAt := Tab.put 0 s.leakAt h.val (Tab.get 0 s.leakAt h.val + Config.msTicks (s.eccCfg h.val).leakMs) } :=
    if_pos ⟨hin, hover⟩
  rw [hleak] at hdue
  refine ⟨_, (next_done_congr hdue).trans (congrArg Host.Outcome.next (done_of_eq hi rfl rfl rfl rfl rfl rfl rfl rfl)), rfl, fun p hp => ?_, fun g p hg hp => ?_⟩
  · exact (congrArg (Tab.get 0 · (pcKey h.val p)) hV).trans ((leakKeys_level s hp).trans (if_pos rfl))
  · exact (congrArg (Tab.get 0 · (pcKey g p)) hV).trans ((leakKeys_level s hp).trans (if_neg hg))

/-- Settles O44: a complete read leaves with its answer, a merge marks its sectors, and a leak lowers the levels of its hub. -/
theorem readsReturnAndMerge : Obligations.ReadsReturnAndMerge := by
  refine ⟨fun s h p errs hinge => ⟨fun hr => exec_readReturn_none errs hinge hr, fun e hr hdrop => ?_⟩,
    fun s h p errs => ⟨fun hm => next_done_congr (merge_of_none errs hm), fun e hm => ?_⟩, fun s h hi => ⟨fun hin hover => ?_, fun hnot => ?_⟩⟩
  · obtain ⟨a, ha, har, hread⟩ := readReturn_answer errs s.sweeps hr
    obtain ⟨hup, hdown⟩ := hread hdrop
    exact ⟨_, exec_readReturn_ready errs hinge hr, readReturn_queue errs s.sweeps hr, fun hroute => ⟨a, ha, har, hup hroute⟩,
      fun hroute => ⟨a, ha, har, hdown hroute⟩, readReturn_mem errs s.sweeps hr, State.readReturn_fuse .., congrArg Clk.t64 (State.readReturn_clk ..)⟩
  · exact ⟨_, rfl, by rw [merge_pc errs hm], fun x hx hid => merge_marks errs hm hx hid, State.merge_mem .., State.merge_fuse ..⟩
  · exact exec_bucketLeak_expired hi hin hover
  · exact (next_done_congr (leakDue_of_not hnot)).trans (congrArg Host.Outcome.next (done_of_idle hi))

end Sys2Proof.Machine
end

section
/-! SUPPORT. What a pseudo-channel's slots rest on: its step pointers under an update, and one CCLK of its slots (R165, R170, R178, R180, R186, R239). -/

namespace Sys2Proof.Machine

/-! ## A pseudo-channel without step pointers (R170) -/

theorem Tab.mem_of_erase {α : Type} {t : Tab α} {k : Nat} {c : Nat × α} (hc : c ∈ Tab.erase t k) : c ∈ t := by
  induction t with
  | nil => exact hc
  | cons a t ih =>
    unfold Tab.erase at hc
    split at hc
    · exact List.mem_cons_of_mem _ (ih hc)
    · rcases List.mem_cons.mp hc with rfl | hc
      · exact List.mem_cons_self
      · exact List.mem_cons_of_mem _ (ih hc)

theorem Tab.mem_of_insert {α : Type} {t : Tab α} {k : Nat} {x : α} {c : Nat × α} (hc : c ∈ Tab.insert t k x) : c = (k, x) ∨ c ∈ t := by
  induction t with
  | nil => exact .inl (List.mem_singleton.mp hc)
  | cons a t ih =>
    unfold Tab.insert at hc
    split at hc
    · exact List.mem_cons.mp hc
    · rcases List.mem_cons.mp hc with rfl | hc
      · exact .inr List.mem_cons_self
      · exact (ih hc).imp_right (List.mem_cons_of_mem _)

theorem Tab.mem_of_put {α : Type} [DecidableEq α] {d : α} {t : Tab α} {k : Nat} {x : α} {c : Nat × α} (hc : c ∈ Tab.put d t k x) : c = (k, x) ∨ c ∈ t := by
  unfold Tab.put at hc
  split at hc
  · exact .inr (Tab.mem_of_erase hc)
  · exact (Tab.mem_of_insert hc).imp_right Tab.mem_of_erase

/-- A listed key's value stands in the table. -/
theorem Tab.mem_of_find {α : Type} {t : Tab α} {k : Nat} {x : α} (hx : t.find k = some x) : (k, x) ∈ t := by
  induction t with
  | nil => exact absurd hx (by simp [Tab.find])
  | cons a t ih =>
    unfold Tab.find at hx
    split at hx
    · next e =>
      rw [← e, ← Option.some.inj hx]
      exact List.mem_cons_self
    · exact List.mem_cons_of_mem _ (ih hx)

section
variable {x : PcSt}

theorem ptrs_eq_nil_iff : x.ptrs = [] ↔ (∀ b ∈ x.banks, b.2.ptr = none) ∧ x.wide = none := by
  rw [PcSt.ptrs, List.append_eq_nil_iff, List.filterMap_eq_nil_iff, Option.toList_eq_nil_iff]

theorem bank_ptr_of_ptrs_nil (hx : x.ptrs = []) (b : Nat) : (x.bank b).ptr = none := by
  obtain ⟨hbanks, -⟩ := ptrs_eq_nil_iff.mp hx
  unfold PcSt.bank Tab.get
  cases hf : x.banks.find b with
  | none => rfl
  | some y => exact hbanks _ (Tab.mem_of_find hf)

theorem setBank_ptrs_nil (hx : x.ptrs = []) (b : Nat) {y : BankSt} (hy : y.ptr = none) : (x.setBank b y).ptrs = [] := by
  obtain ⟨hbanks, hwide⟩ := ptrs_eq_nil_iff.mp hx
  refine ptrs_eq_nil_iff.mpr ⟨fun c hc => ?_, hwide⟩
  rcases Tab.mem_of_put hc with rfl | hc
  · exact hy
  · exact hbanks c hc

/-- A change of every bank that leaves its pointer. -/
theorem mapBanks_ptrs_nil (hx : x.ptrs = []) (f : BankSt → BankSt) (hf : ∀ y, (f y).ptr = y.ptr) :
    ({ x with banks := x.banks.map fun b => (b.1, f b.2) } : PcSt).ptrs = [] := by
  obtain ⟨hbanks, hwide⟩ := ptrs_eq_nil_iff.mp hx
  refine ptrs_eq_nil_iff.mpr ⟨fun c hc => ?_, hwide⟩
  obtain ⟨b, hb, rfl⟩ := List.mem_map.mp hc
  exact (hf b.2).trans (hbanks b hb)

theorem closeAll_ptrs_nil (hx : x.ptrs = []) : x.closeAll.ptrs = [] := mapBanks_ptrs_nil hx (fun y => { y with row := none }) fun _ => rfl

theorem leaveSr_ptrs_nil (hx : x.ptrs = []) (now intv : Nat) : (x.leaveSr now intv).ptrs = [] := by
  have hdues : (x.restartDues now).ptrs = [] := mapBanks_ptrs_nil hx (fun y => { y with dueK := 0, dueFrom := none, dueLast := none }) fun _ => rfl
  exact mapBanks_ptrs_nil hdues (fun y => { y with debt := 0, acts := List.replicate 32 none }) fun _ => rfl

end

/-! ## The issue of a command that serves no pointer (R182, R186) -/

/-- Nothing but registers and pseudo-channels differs; pseudo-channel h:p keeps the CCLK of its grant, and it takes no pointer. -/
def State.GrantKept (s t : State) (h p : Nat) : Prop :=
  (∃ R P, t = { s with regs := R, pcs := P }) ∧ (t.pc h p).grantAt = (s.pc h p).grantAt ∧ ((s.pc h p).ptrs = [] → (t.pc h p).ptrs = [])

section
variable {s t u : State} {h p : Nat}

theorem State.GrantKept.refl (s : State) (h p : Nat) : s.GrantKept s h p := ⟨⟨_, _, rfl⟩, rfl, id⟩

theorem State.GrantKept.trans (hst : s.GrantKept t h p) (htu : t.GrantKept u h p) : s.GrantKept u h p := by
  obtain ⟨⟨R, P, rfl⟩, hgrant, hptrs⟩ := hst
  obtain ⟨⟨R', P', rfl⟩, hgrant', hptrs'⟩ := htu
  exact ⟨⟨R', P', rfl⟩, hgrant'.trans hgrant, hptrs' ∘ hptrs⟩

theorem State.RegsOnly.grantKept (hst : s.RegsOnly t) : s.GrantKept t h p := by
  obtain ⟨R, rfl⟩ := hst
  exact ⟨⟨_, _, rfl⟩, rfl, id⟩

/-- An update of the pseudo-channel that keeps its grant and takes no pointer. -/
theorem setPc_grantKept {x : PcSt} (hgrant : x.grantAt = (s.pc h p).grantAt) (hptrs : (s.pc h p).ptrs = [] → x.ptrs = []) : s.GrantKept (s.setPc h p x) h p := by
  refine ⟨⟨s.regs, _, rfl⟩, ?_, ?_⟩
  · rw [pc_setPc_self, hgrant]
  · rw [pc_setPc_self]
    exact hptrs

theorem setBank_grantKept (b : Nat) {y : BankSt} (hy : y.ptr = ((s.pc h p).bank b).ptr) : s.GrantKept (s.setPc h p ((s.pc h p).setBank b y)) h p :=
  setPc_grantKept rfl fun hx => setBank_ptrs_nil hx b (hy.trans (bank_ptr_of_ptrs_nil hx b))

theorem setRow_grantKept (s : State) (h p b : Nat) (row : Option Nat) :
    s.GrantKept (s.setPc h p ((s.pc h p).setBank b { (s.pc h p).bank b with row := row })) h p := setBank_grantKept b rfl

theorem countAct_grantKept (s : State) (h p b row : Nat) : s.GrantKept (s.countAct h p b row) h p := by
  unfold State.countAct
  split
  · exact .refl ..
  · exact setBank_grantKept b rfl

theorem countTally_grantKept (s : State) (h p : Nat) (f : Fld) (top ev : Nat) (subs : List Nat) :
    s.GrantKept ((s.count f top h p 0 1).tally h ev (some p) subs none 1) h p :=
  ((State.RegsOnly.refl s).count.trans (State.tally_regsOnly ..)).grantKept

/-- A command on the bus: its words have gone out, and it stands in the history and in the retry buffer. -/
theorem drive_grantKept (s : State) (h p : Nat) (e : CmdEntry) (r : RetryEnt) (n : Nat) :
    (s.emit (.stackCmd h p e.column r.words)).GrantKept ((s.setPc h p { s.pc h p with idleFrom := n }).drive h p e r) h p := by
  refine ⟨⟨s.regs, _, rfl⟩, ?_⟩
  have hpc : ((s.setPc h p { s.pc h p with idleFrom := n }).drive h p e r).pc h p =
      { s.pc h p with idleFrom := n, hist := { at_ := s.cyc, tclass := e.tclass, bank := r.bank } :: (s.pc h p).hist,
                      rowBusy := if e.column then (s.pc h p).rowBusy else s.cyc + e.words, colBusy := if e.column then s.cyc + e.words else (s.pc h p).colBusy,
                      lastCode := e.code, retry := (s.pc h p).retry ++ [r] } := by
    refine (pc_setPc_self ..).trans ?_
    rw [pc_setPc_self]
    rfl
  rw [hpc]
  exact ⟨rfl, id⟩

/-- The debug command's issue sends its words and nothing else outside. -/
theorem issue_debug_grantKept (s : State) (h p : Nat) (w : Wanted) (raw : Bool) :
    (s.emit (.stackCmd h p w.e.column (s.cmdWords h p w))).GrantKept (s.issue h p w .debug none raw) h p := by
  unfold State.issue
  simp only [Option.bind_none, reduceCtorEq, or_true, if_true]
  generalize hT : State.drive _ h p w.e _ = t
  have hdriven : (s.emit (.stackCmd h p w.e.column (s.cmdWords h p w))).GrantKept t h p := by
    rw [← hT]
    exact drive_grantKept ..
  refine hdriven.trans ?_
  split
  case h_1 =>
    split
    · refine (countTally_grantKept t h p .PC_SEQ_CNT_ACTS top32 0x05 []).trans ?_
      generalize State.tally _ h 0x05 (some p) [] none 1 = v
      split
      · exact setRow_grantKept ..
      · exact (setRow_grantKept ..).trans (countAct_grantKept ..)
    · exact countTally_grantKept t h p ..
  case h_2 =>
    split
    · exact setRow_grantKept ..
    · exact .refl ..
  case h_3 => exact setPc_grantKept rfl closeAll_ptrs_nil
  case h_6 => exact (State.RegsOnly.refl t).count.grantKept.trans (setPc_grantKept rfl id)
  case h_7 => exact setPc_grantKept rfl fun hx => leaveSr_ptrs_nil hx _ _
  case h_8 => exact countTally_grantKept t h p ..
  case h_9 => exact countTally_grantKept t h p ..
  all_goals exact .refl ..

theorem issueDebug_grantKept (s : State) (h p : Nat) (w : Wanted) (raw : Bool) :
    (s.emit (.stackCmd h p w.e.column (s.cmdWords h p w))).GrantKept (s.issueDebug h p w raw) h p := by
  unfold State.issueDebug
  dsimp only
  refine (issue_debug_grantKept s h p w raw).trans (State.GrantKept.trans ?_ (setPc_grantKept rfl id))
  split
  · exact (State.RegsOnly.refl _).count.grantKept
  · exact .refl ..

theorem issueDebug_dbg (s : State) (h p : Nat) (w : Wanted) (raw : Bool) : ((s.issueDebug h p w raw).pc h p).dbg = none := by
  unfold State.issueDebug
  rw [pc_setPc_self]

end

/-! ## Whose command may take the slot (R165, R186) -/

section
variable {s : State} {h p : Nat}

theorem debugMay_of_no_command (hdbg : (s.pc h p).dbg = none) (column : Bool) : s.debugMay h p column = none := by
  have hwanted : s.debugWanted h p = none := by simp only [State.debugWanted, hdbg]
  simp only [State.debugMay, hwanted]

/-- An injected command is one for its own slot alone. -/
theorem debugMay_wanted {column : Bool} {w : Wanted} {raw : Bool} (hmay : s.debugMay h p column = some (w, raw)) : s.debugWanted h p = some (w, raw) := by
  unfold State.debugMay at hmay
  cases hw : s.debugWanted h p with
  | none => simp [hw] at hmay
  | some x =>
    rw [hw] at hmay
    obtain ⟨-, hx⟩ := Option.ite_none_right_eq_some.mp hmay
    exact hx

theorem debugMay_other_slot {column : Bool} {w : Wanted} {raw : Bool} (hw : s.debugWanted h p = some (w, raw)) (hne : w.e.column ≠ column) :
    s.debugMay h p column = none := by
  simp [State.debugMay, hw, hne]

variable (hptrs : (s.pc h p).ptrs = []) (used : List Ptr)
include hptrs

theorem grantSlot_debug {column : Bool} {w : Wanted} {raw : Bool} (hmay : s.debugMay h p column = some (w, raw)) :
    s.grantSlot h p column used = (s.issueDebug h p w raw, used) := by
  simp only [State.grantSlot, hptrs, List.filter_nil, List.filterMap_nil, List.foldl_nil, hmay]

theorem grantSlot_none {column : Bool} (hmay : s.debugMay h p column = none) : s.grantSlot h p column used = (s, used) := by
  simp only [State.grantSlot, hptrs, List.filter_nil, List.filterMap_nil, List.foldl_nil, hmay]

/-- The injected command is the only one that takes a slot, and it takes its own. -/
theorem grantSlots_debug {w : Wanted} {raw : Bool} (hfull : s.retryFull h p = false) (hmay : s.debugMay h p w.e.column = some (w, raw)) :
    (if (s.grantSlot h p false []).1.retryFull h p then (s.grantSlot h p false []).1
      else ((s.grantSlot h p false []).1.grantSlot h p true (s.grantSlot h p false []).2).1) = s.issueDebug h p w raw := by
  cases hcol : w.e.column with
  | false =>
    rw [hcol] at hmay
    have hafter : ((s.issueDebug h p w raw).pc h p).ptrs = [] := by
      obtain ⟨-, -, hkept⟩ := issueDebug_grantKept s h p w raw
      exact hkept hptrs
    rw [grantSlot_debug hptrs [] hmay, grantSlot_none hafter [] (debugMay_of_no_command (issueDebug_dbg ..) true), ite_self]
  | true =>
    have hrow : s.debugMay h p false = none := debugMay_other_slot (debugMay_wanted hmay) (by rw [hcol]; decide)
    rw [hcol] at hmay
    rw [grantSlot_none hptrs [] hrow]
    dsimp only
    rw [if_neg (by rw [hfull]; decide), grantSlot_debug hptrs [] hmay]

end

/-! ## A CCLK begins (R165, R239) -/

/-- A pseudo-channel whose queue is empty, as the grant of its slots begins: it has no group, and its retry buffer is trimmed. -/
def PcSt.slotStart (x : PcSt) (now : Nat) (retry : List RetryEnt) (rows : List (Nat × Nat)) : PcSt :=
  { x with groups := [], retry := retry, retryOpen := rows, grantAt := now + 1 }

/-- The grant of the slots has begun on pseudo-channel h:p; every other is as it was. -/
def State.SlotStart (s t : State) (h p : Nat) : Prop :=
  ∃ P retry rows, t = { s with pcs := P } ∧ retry.length ≤ (s.pc h p).retry.length ∧
    ∀ g q, t.pc g q = if pcKey h p = pcKey g q then (s.pc h p).slotStart s.cyc retry rows else s.pc g q

/-- Marks of time, then the trim of the retry buffer. -/
def State.slotBegin (s : State) (h p : Nat) : State :=
  (s.setPc h p { (s.pc h p).refreshMarks s.timerCyc (s.ageCeil h p) with grantAt := s.cyc + 1 }).retryTrim h p

theorem refreshMarks_of_empty {x : PcSt} (hq : x.queue = []) (now ceil : Nat) : x.refreshMarks now ceil = { x with groups := [] } := by
  simp [PcSt.refreshMarks, hq, withOlder]

theorem retryTrim_parts (s : State) (h p : Nat) : s.retryTrim h p = s ∨
    ∃ retry rows, s.retryTrim h p = s.setPc h p { s.pc h p with retry := retry, retryOpen := rows } ∧ retry.length ≤ (s.pc h p).retry.length := by
  unfold State.retryTrim
  split
  · dsimp only
    split
    · exact .inl rfl
    · exact .inr ⟨_, _, rfl, List.length_filter_le ..⟩
  · exact .inl rfl

theorem slotBegin_slotStart {s : State} {h p : Nat} (hq : (s.pc h p).queue = []) : s.SlotStart (s.slotBegin h p) h p := by
  have hmarks : { (s.pc h p).refreshMarks s.timerCyc (s.ageCeil h p) with grantAt := s.cyc + 1 } =
      (s.pc h p).slotStart s.cyc (s.pc h p).retry (s.pc h p).retryOpen := by rw [refreshMarks_of_empty hq]; rfl
  unfold State.slotBegin
  rw [hmarks]
  rcases retryTrim_parts (s.setPc h p ((s.pc h p).slotStart s.cyc (s.pc h p).retry (s.pc h p).retryOpen)) h p with hkeep | ⟨retry, rows, htrim, hlen⟩
  · rw [hkeep]
    exact ⟨_, _, _, rfl, le_rfl, fun g q => pc_setPc ..⟩
  · rw [htrim]
    rw [pc_setPc_self] at hlen ⊢
    refine ⟨_, retry, rows, rfl, hlen, fun g q => (pc_setPc ..).trans ?_⟩
    split
    · rfl
    · next hne => exact (pc_setPc ..).trans (if_neg hne)

namespace State.SlotStart
variable {s t : State} {h p : Nat} (ht : s.SlotStart t h p)
include ht

theorem eq : t = { s with pcs := t.pcs } := by
  obtain ⟨P, retry, rows, rfl, -⟩ := ht
  rfl

theorem pc_self : ∃ retry rows, t.pc h p = (s.pc h p).slotStart s.cyc retry rows ∧ retry.length ≤ (s.pc h p).retry.length := by
  obtain ⟨P, retry, rows, -, hlen, hpc⟩ := ht
  exact ⟨retry, rows, (hpc h p).trans (if_pos rfl), hlen⟩

/-- What is read of a pseudo-channel, but for what the beginning of a grant sets, reads as before. -/
theorem ofPc {α : Type} (f : PcSt → α) (hf : ∀ x now retry rows, f (PcSt.slotStart x now retry rows) = f x) (g q : Nat) : f (t.pc g q) = f (s.pc g q) := by
  obtain ⟨P, retry, rows, -, -, hpc⟩ := ht
  rw [hpc]
  split
  · next e =>
    have hsame : s.pc h p = s.pc g q := congrArg (Tab.get PcSt.reset s.pcs) e
    rw [hf, hsame]
  · rfl

theorem hist (g q : Nat) : (t.pc g q).hist = (s.pc g q).hist := ht.ofPc (·.hist) (fun _ _ _ _ => rfl) g q
theorem ptrs : (t.pc h p).ptrs = (s.pc h p).ptrs := ht.ofPc (·.ptrs) (fun _ _ _ _ => rfl) h p
theorem cyc : t.cyc = s.cyc := (congrArg State.cyc ht.eq :)
theorem profileOf (g q : Nat) : t.profileOf g q = s.profileOf g q := (congrArg (State.profileOf · g q) ht.eq :)
theorem timingOf (g q n : Nat) : t.timingOf g q n = s.timingOf g q n := (congrArg (State.timingOf · g q n) ht.eq :)
theorem knowsClosed (d g st : Nat) : t.knowsClosed d g st = s.knowsClosed d g st := (congrArg (State.knowsClosed · d g st) ht.eq :)
theorem port (g st : Nat) : t.port g st = s.port g st := (congrArg (State.port · g st) ht.eq :)
theorem hinge : t.hinge = s.hinge := (congrArg State.hinge ht.eq :)

theorem inScope (bpg scope : Nat) (bank : Option Nat) : t.inScope h p bpg scope bank = s.inScope h p bpg scope bank := by
  unfold State.inScope
  simp only [ht.hist, ht.cyc]

theorem ruleHolds (bpg c : Nat) (bank : Option Nat) (r : TimingRule) : t.ruleHolds h p bpg c bank r = s.ruleHolds h p bpg c bank r := by
  simp only [State.ruleHolds, ht.inScope, ht.cyc]

theorem legal (c : Nat) (bank : Option Nat) : t.legal h p c bank = s.legal h p c bank := by
  have htset : (t.pc h p).tset = (s.pc h p).tset := ht.ofPc (·.tset) (fun _ _ _ _ => rfl) h p
  simp only [State.legal, State.turnOver, ht.hist, ht.cyc, ht.profileOf, ht.timingOf, htset, ht.ruleHolds]

theorem debugWanted : t.debugWanted h p = s.debugWanted h p := by
  have hdbg : (t.pc h p).dbg = (s.pc h p).dbg := ht.ofPc (·.dbg) (fun _ _ _ _ => rfl) h p
  simp only [State.debugWanted, hdbg, ht.profileOf]

theorem programs (b : Nat) : t.programs h p b = s.programs h p b := by simp only [State.programs, ht.port]

/-- The beginning of a grant does not sway whether the injected command may issue. -/
theorem debugMay (column : Bool) : t.debugMay h p column = s.debugMay h p column := by
  have hpc (f : PcSt → Bool) (hf : ∀ x now retry rows, f (PcSt.slotStart x now retry rows) = f x) : f (t.pc h p) = f (s.pc h p) := ht.ofPc f hf h p
  have hfree (now : Nat) : (t.pc h p).slotFree now column = (s.pc h p).slotFree now column := hpc (·.slotFree now column) fun _ _ _ _ => rfl
  have hreplay : (t.pc h p).replay.isNone = (s.pc h p).replay.isNone := hpc (·.replay.isNone) fun _ _ _ _ => rfl
  have hpause : (t.pc h p).pauseFrom.isNone = (s.pc h p).pauseFrom.isNone := hpc (·.pauseFrom.isNone) fun _ _ _ _ => rfl
  have htrn : (t.pc h p).trnHalted = (s.pc h p).trnHalted := hpc (·.trnHalted) fun _ _ _ _ => rfl
  have hhalt : (t.pc h p).halt = (s.pc h p).halt := hpc (·.halt) fun _ _ _ _ => rfl
  have hbarred (e : CmdEntry) (bank : Option Nat) : (t.pc h p).debugBarred e bank = (s.pc h p).debugBarred e bank := hpc (·.debugBarred e bank) fun _ _ _ _ => rfl
  have hqueue : (t.pc h p).queue.isEmpty = (s.pc h p).queue.isEmpty := hpc (·.queue.isEmpty) fun _ _ _ _ => rfl
  simp only [State.debugMay, ht.debugWanted, ht.cyc, ht.legal, ht.hinge, ht.knowsClosed, ht.programs, hfree, hreplay, hpause, htrn, hhalt, hbarred, hqueue]

theorem cmdWords (w : Wanted) : t.cmdWords h p w = s.cmdWords h p w := by simp only [State.cmdWords, ht.profileOf]

theorem retryFull (hroom : (s.pc h p).retry.length < 64) : t.retryFull h p = false := by
  obtain ⟨retry, rows, hpc, hlen⟩ := ht.pc_self
  unfold State.retryFull
  rw [hpc]
  exact decide_eq_false (Nat.not_le.mpr (Nat.lt_of_le_of_lt hlen hroom))

end State.SlotStart

/-! ## A halted pseudo-channel with nothing to go on (R167) -/

section
variable {s : State} {h p : Nat}

theorem wideProgress_of_none (hnext : (s.pc h p).wideNext = []) : s.wideProgress h p = s := by
  unfold State.wideProgress
  dsimp only
  rw [hnext]
  cases (s.pc h p).wide <;> rfl

theorem srProgress_of_awake (hsr : (s.pc h p).sr = .awake) : s.srProgress h p = s := if_neg (by rw [hsr]; simp)

theorem advanceAll_of_no_ptrs (hptrs : (s.pc h p).ptrs = []) : s.advanceAll h p = s := by rw [State.advanceAll, hptrs, List.foldl_nil]

theorem schedule_of_halted (hhalt : (s.pc h p).halt = true) : s.schedule h p = s := if_neg (by simp [PcSt.schedules, hhalt])

theorem slotGrant_of_not (hnot : (s.pc h p).grantAt = s.cyc + 1 ∨ s.clk.run = false) : s.slotGrant h p = s :=
  if_pos (hnot.elim .inl fun hrun => .inr (.inl hrun))

/-- The slots of a halted pseudo-channel with an empty queue, no pointer and no self-refresh go to the injected command. -/
theorem slotGrant_of_debug {w : Wanted} {raw : Bool} (hmay : s.debugMay h p w.e.column = some (w, raw)) (hhalt : (s.pc h p).halt = true)
    (hqueue : (s.pc h p).queue = []) (hptrs : (s.pc h p).ptrs = []) (hnext : (s.pc h p).wideNext = []) (hsr : (s.pc h p).sr = .awake)
    (hroom : (s.pc h p).retry.length < 64) (hgrant : (s.pc h p).grantAt ≠ s.cyc + 1) (hrun : s.clk.run = true) (hin : s.pcIn h p = true) :
    s.slotGrant h p = (s.slotBegin h p).issueDebug h p w raw := by
  have hstart := slotBegin_slotStart hqueue
  obtain ⟨retry, rows, hpc, -⟩ := hstart.pc_self
  have hguard : ¬((s.pc h p).grantAt = s.cyc + 1 ∨ s.clk.run = false ∨ s.pcIn h p = false) := by simp [hgrant, hrun, hin]
  have hwide : (s.slotBegin h p).wideProgress h p = s.slotBegin h p := wideProgress_of_none (by rw [hpc]; exact hnext)
  have hwake : (s.slotBegin h p).srProgress h p = s.slotBegin h p := srProgress_of_awake (by rw [hpc]; exact hsr)
  have hstay : (s.slotBegin h p).advanceAll h p = s.slotBegin h p := advanceAll_of_no_ptrs (hstart.ptrs.trans hptrs)
  have hidle : (s.slotBegin h p).schedule h p = s.slotBegin h p := schedule_of_halted (by rw [hpc]; exact hhalt)
  have hbegin : (s.setPc h p { (s.pc h p).refreshMarks s.timerCyc (s.ageCeil h p) with grantAt := s.cyc + 1 }).retryTrim h p = s.slotBegin h p := rfl
  have hfull := hstart.retryFull hroom
  have hslots := grantSlots_debug (hstart.ptrs.trans hptrs) hfull ((hstart.debugMay _).trans hmay)
  simp only [State.slotGrant, if_neg hguard, hbegin, hwide, hwake, hstay, hfull, hidle, ite_self, Bool.false_eq_true, if_false]
  exact hslots

end

end Sys2Proof.Machine
end

section
/-! SUPPORT. Debug: halts, injected commands and the slot that issues them (R167, R186). -/

namespace Sys2Proof.Machine

/-! ## The halt and its end (R167) -/

section
variable {s : State} (hi : s.Idle) {h : Hub} {p : Pc}
include hi

/-- A register write of a pseudo-channel that is not there is recorded as one of no register. -/
theorem gateWrite_absent {a : Access} (hin : s.pcIn h.val p.val = false) (r : WriteResult) : (s.gateWrite a (s.pcIn h.val p.val) r).done = s.accErr a true 1 := by
  rw [hin]
  exact (s.accErr_regsOnly ..).done hi

theorem gateWrite_refused {a : Access} (hin : s.pcIn h.val p.val = true) (n : Nat) : (s.gateWrite a (s.pcIn h.val p.val) (.inr n)).done = s.accErr a true n := by
  rw [hin]
  exact (s.accErr_regsOnly ..).done hi

theorem exec_pcDebugHalt (hin : s.pcIn h.val p.val = true) :
    exec (.pcDebugHalt h p) s = .next ((s.wr .PC_DEBUG_HALT h.val p.val 0 1).setPc h.val p.val { s.pc h.val p.val with halt := true }) := by
  have hgate : s.gateWrite (hubAccess h.val (0x100014 + 0x1000 * p.val) 4) (s.pcIn h.val p.val) (.inl (s.writeDebug h.val p.val true)) =
      (s.wr .PC_DEBUG_HALT h.val p.val 0 1).setPc h.val p.val { s.pc h.val p.val with halt := true } := if_pos hin
  exact (next_done_congr hgate).trans (congrArg Host.Outcome.next (done_of_eq hi rfl rfl rfl rfl rfl rfl rfl rfl))

theorem exec_haltClear (hin : s.pcIn h.val p.val = true) :
    exec (.haltClear h p) s = .next ((s.wr .PC_DEBUG_HALT h.val p.val 0 0).setPc h.val p.val { s.pc h.val p.val with halt := false, halted := false }) := by
  have hgate : s.gateWrite (hubAccess h.val (0x100014 + 0x1000 * p.val) 4) (s.pcIn h.val p.val) (.inl (s.writeDebug h.val p.val false)) =
      (s.wr .PC_DEBUG_HALT h.val p.val 0 0).setPc h.val p.val { s.pc h.val p.val with halt := false, halted := false } := if_pos hin
  exact (next_done_congr hgate).trans (congrArg Host.Outcome.next (done_of_eq hi rfl rfl rfl rfl rfl rfl rfl rfl))

theorem exec_halted_complete (hhalt : (s.pc h.val p.val).halt = true) (hflight : (s.pc h.val p.val).flight = []) :
    exec (.halted h p) s = .next (s.setPc h.val p.val { s.pc h.val p.val with halted := true }) := by
  have hset : s.debugHalted h.val p.val = s.setPc h.val p.val { s.pc h.val p.val with halted := true } := if_pos ⟨hhalt, hflight⟩
  exact (next_done_congr hset).trans (congrArg Host.Outcome.next (setPc_done hi ..))

theorem exec_halted_pending (hnot : (s.pc h.val p.val).halt = false ∨ (s.pc h.val p.val).flight ≠ []) : exec (.halted h p) s = .next s := by
  have hstay : s.debugHalted h.val p.val = s := if_neg fun ⟨hhalt, hflight⟩ => hnot.elim (fun hno => by simp [hno] at hhalt) fun hsome => hsome hflight
  exact (next_done_congr hstay).trans (congrArg Host.Outcome.next (done_of_idle hi))

/-! ## PC_DEBUG_CMD (R186) -/

theorem exec_pcDebugCmd_refused {v : Word} {n : Nat} (hin : s.pcIn h.val p.val = true) (hcheck : s.debugCmdCheck h.val p.val v = some n) :
    exec (.pcDebugCmd h p v) s = .next (s.accErr (hubAccess h.val (0x100018 + 0x1000 * p.val) 8) true n) := by
  have hwrite : s.writeDebugCmd h.val p.val v = .inr n := by rw [State.writeDebugCmd, hcheck]
  have hdone := gateWrite_refused hi (a := hubAccess h.val (0x100018 + 0x1000 * p.val) 8) hin n
  rw [← hwrite] at hdone
  exact congrArg Host.Outcome.next hdone

theorem exec_pcDebugCmd_taken {v : Word} (hin : s.pcIn h.val p.val = true) (hcheck : s.debugCmdCheck h.val p.val v = none) :
    exec (.pcDebugCmd h p v) s = .next (s.setPc h.val p.val { s.pc h.val p.val with dbg := some v, dbgOps := v }) := by
  have hwrite : s.writeDebugCmd h.val p.val v = .inl (s.debugCmd h.val p.val v) := by rw [State.writeDebugCmd, hcheck]
  have hgate : s.gateWrite (hubAccess h.val (0x100018 + 0x1000 * p.val) 8) (s.pcIn h.val p.val) (s.writeDebugCmd h.val p.val v) = s.debugCmd h.val p.val v := by
    rw [hwrite]
    exact if_pos hin
  exact (next_done_congr hgate).trans (congrArg Host.Outcome.next (setPc_done hi ..))

end

section
variable {s : State} {h p : Nat} {v : Word}

theorem debugCmdCheck_waiting (hdbg : (s.pc h p).dbg.isSome = true) : s.debugCmdCheck h p v = some 3 := if_pos hdbg

theorem debugCmdCheck_undefined (hdbg : (s.pc h p).dbg = none) (hcmd : ((s.profileOf h p).bind fun f => f.cmd (v.toNat % 32)) = none) :
    s.debugCmdCheck h p v = some 2 := by
  simp only [State.debugCmdCheck, hdbg, hcmd, Option.isSome_none, Bool.false_eq_true, if_false]

/-- A defined command is judged by its bank, which a RAW one does not name. -/
theorem debugCmdCheck_defined {e : CmdEntry} (hdbg : (s.pc h p).dbg = none) (hcmd : ((s.profileOf h p).bind fun f => f.cmd (v.toNat % 32)) = some e) :
    s.debugCmdCheck h p v = if v.getLsbD 5 = false ∧ s.banksOf h p ≤ v.toNat / 2 ^ 6 % 64 then some 2 else none := by
  simp [State.debugCmdCheck, hdbg, hcmd]

theorem debugCmdCheck_no_bank (hdbg : (s.pc h p).dbg = none) (hraw : v.getLsbD 5 = false) (hbank : s.banksOf h p ≤ v.toNat / 2 ^ 6 % 64) :
    s.debugCmdCheck h p v = some 2 := by
  cases hcmd : (s.profileOf h p).bind fun f => f.cmd (v.toNat % 32) with
  | none => exact debugCmdCheck_undefined hdbg hcmd
  | some e => exact (debugCmdCheck_defined hdbg hcmd).trans (if_pos ⟨hraw, hbank⟩)

theorem debugCmdCheck_accepts {f : ProfileCfg} {e : CmdEntry} (hdbg : (s.pc h p).dbg = none) (hprofile : s.profileOf h p = some f)
    (hcmd : f.cmd (v.toNat % 32) = some e) (hbank : v.getLsbD 5 = true ∨ v.toNat / 2 ^ 6 % 64 < s.banksOf h p) : s.debugCmdCheck h p v = none := by
  refine (debugCmdCheck_defined hdbg (by rw [hprofile]; exact hcmd)).trans (if_neg fun hbad => ?_)
  obtain ⟨hraw, hover⟩ := hbad
  rcases hbank with hset | hlow
  · exact absurd (hset.symm.trans hraw) (by decide)
  · omega

end

/-! ## SLOT_GRANT of the injected command (R165, R167, R183, R186) -/

section
variable {s : State} (hinge : s.hinge.step = 0) {h : Hub} {p : Pc}
include hinge

theorem exec_slotGrant_again (hnot : (s.pc h.val p.val).grantAt = s.cyc + 1 ∨ s.clk.run = false) : exec (.slotGrant h p) s = .next s.done :=
  next_done_congr ((congrArg State.hingeTick (slotGrant_of_not hnot)).trans (hingeTick_of_no_hinge hinge))

theorem exec_slotGrant_debug {w : Wanted} {raw : Bool} (hmay : s.debugMay h.val p.val w.e.column = some (w, raw)) (hhalt : (s.pc h.val p.val).halt = true)
    (hqueue : (s.pc h.val p.val).queue = []) (hptrs : (s.pc h.val p.val).ptrs = []) (hnext : (s.pc h.val p.val).wideNext = [])
    (hsr : (s.pc h.val p.val).sr = .awake) (hroom : (s.pc h.val p.val).retry.length < 64) (hgrant : (s.pc h.val p.val).grantAt ≠ s.cyc + 1)
    (hrun : s.clk.run = true) (hin : s.pcIn h.val p.val = true) :
    ∃ u : State, exec (.slotGrant h p) s = .next u.done ∧ u.out = s.out ++ [.stackCmd h.val p.val w.e.column (s.cmdWords h.val p.val w)] ∧
      (u.pc h.val p.val).dbg = none ∧ (u.pc h.val p.val).grantAt = s.cyc + 1 ∧ u.mem = s.mem ∧ u.fuse = s.fuse := by
  have hslots := slotGrant_of_debug hmay hhalt hqueue hptrs hnext hsr hroom hgrant hrun hin
  have hstart := slotBegin_slotStart hqueue
  obtain ⟨retry, rows, hpc, -⟩ := hstart.pc_self
  obtain ⟨⟨R, P, hissued⟩, hkept, -⟩ := issueDebug_grantKept (s.slotBegin h.val p.val) h.val p.val w raw
  have hemit : (s.slotBegin h.val p.val).emit (.stackCmd h.val p.val w.e.column ((s.slotBegin h.val p.val).cmdWords h.val p.val w)) =
      { s with pcs := (s.slotBegin h.val p.val).pcs, out := s.out ++ [.stackCmd h.val p.val w.e.column (s.cmdWords h.val p.val w)] } := by
    rw [hstart.cmdWords, hstart.eq]
    rfl
  rw [hemit] at hissued
  refine ⟨(s.slotBegin h.val p.val).issueDebug h.val p.val w raw, next_done_congr ?_, ?_, issueDebug_dbg .., ?_, ?_, ?_⟩
  · rw [hslots]
    exact hingeTick_of_no_hinge (by rw [hissued]; exact hinge)
  · rw [hissued]
  · exact hkept.trans ((congrArg PcSt.grantAt hpc :))
  · rw [hissued]
  · rw [hissued]

end

/-- Settles O36: a halt and an injected command follow their registers, and a halted pseudo-channel's slot goes to the injected command alone. -/
theorem debugHaltsAndInjects : Obligations.DebugHaltsAndInjects := by
  refine ⟨fun s h p hi => ⟨fun hin => ⟨exec_pcDebugHalt hi hin, exec_haltClear hi hin⟩, fun hin => ⟨?_, ?_, fun v => ?_⟩,
      fun hhalt hflight => exec_halted_complete hi hhalt hflight, fun hnot => exec_halted_pending hi hnot⟩,
    fun s h p v hi hin => ⟨fun hdbg hbad => ?_, fun hdbg => exec_pcDebugCmd_refused hi hin (debugCmdCheck_waiting hdbg),
      fun f e hdbg hprofile hcmd hbank => exec_pcDebugCmd_taken hi hin (debugCmdCheck_accepts hdbg hprofile hcmd hbank)⟩,
    fun s h p hinge => ⟨fun hnot => exec_slotGrant_again hinge hnot, fun w raw hmay hhalt hqueue hptrs hnext hsr hroom hgrant hrun hin =>
      exec_slotGrant_debug hinge hmay hhalt hqueue hptrs hnext hsr hroom hgrant hrun hin⟩⟩
  · exact congrArg Host.Outcome.next (gateWrite_absent hi hin _)
  · exact congrArg Host.Outcome.next (gateWrite_absent hi hin _)
  · exact congrArg Host.Outcome.next (gateWrite_absent hi hin _)
  · refine exec_pcDebugCmd_refused hi hin ?_
    rcases hbad with hcmd | ⟨hraw, hbank⟩
    · exact debugCmdCheck_undefined hdbg hcmd
    · exact debugCmdCheck_no_bank hdbg hraw hbank

end Sys2Proof.Machine
end

section
/-! SUPPORT. One bank of a pseudo-channel changes, or its wide pointer: what a step pointer that begins at a row command leaves (R163, R170, R173). -/

namespace Sys2Proof.Machine

/-! ## One pseudo-channel, one bank -/

theorem bank_setBank (x : PcSt) (b c : Nat) (y : BankSt) : (x.setBank b y).bank c = if b = c then y else x.bank c := Tab.get_put ..

theorem Tab.find_map {α β : Type} (f : α → β) (t : Tab α) (k : Nat) : Tab.find (t.map fun e => (e.1, f e.2)) k = (t.find k).map f := by
  induction t with
  | nil => rfl
  | cons e t ih =>
    simp only [List.map_cons, Tab.find, ih]
    split <;> rfl

/-- A change of every listed bank that leaves a bank's reset value is a change of every bank. -/
theorem bank_mapBanks {f : BankSt → BankSt} (hf : f BankSt.reset = BankSt.reset) (x : PcSt) (b : Nat) :
    ({ x with banks := x.banks.map fun z => (z.1, f z.2) } : PcSt).bank b = f (x.bank b) := by
  unfold PcSt.bank Tab.get
  rw [Tab.find_map]
  cases x.banks.find b with
  | none => exact hf.symm
  | some y => rfl

/-- Nothing but pseudo-channel h:p differs. -/
def State.PcOnly (s t : State) (h p : Nat) : Prop := (∃ P, t = { s with pcs := P }) ∧ s.OtherPcs t h p

/-- Bank b of pseudo-channel h:p is y; its other banks and every other pseudo-channel are as they were. -/
def State.BankNow (s t : State) (h p b : Nat) (y : BankSt) : Prop :=
  s.PcOnly t h p ∧ (t.pc h p).bank b = y ∧ ∀ c, c ≠ b → (t.pc h p).bank c = (s.pc h p).bank c

section
variable {s t u : State} {h p b : Nat} {y z : BankSt}

theorem State.PcOnly.trans (hst : s.PcOnly t h p) (htu : t.PcOnly u h p) : s.PcOnly u h p := by
  obtain ⟨⟨P, rfl⟩, hst⟩ := hst
  obtain ⟨⟨P', rfl⟩, htu⟩ := htu
  exact ⟨⟨P', rfl⟩, fun g q hq hne => (htu g q hq hne).trans (hst g q hq hne)⟩

theorem State.PcOnly.eq (hst : s.PcOnly t h p) : t = { s with pcs := t.pcs } := by
  obtain ⟨⟨P, rfl⟩, -⟩ := hst
  rfl

theorem State.PcOnly.done (hst : s.PcOnly t h p) (hi : s.Idle) : t.done = t := by
  obtain ⟨⟨P, rfl⟩, -⟩ := hst
  exact done_of_eq hi rfl rfl rfl rfl rfl rfl rfl rfl

theorem setPc_pcOnly (hp : p < 96) (x : PcSt) : s.PcOnly (s.setPc h p x) h p := ⟨⟨_, rfl⟩, setPc_otherPcs s hp x⟩

theorem State.BankNow.trans (hst : s.BankNow t h p b y) (htu : t.BankNow u h p b z) : s.BankNow u h p b z := by
  obtain ⟨hpcs, -, hothers⟩ := hst
  obtain ⟨hpcs', hbank, hothers'⟩ := htu
  exact ⟨hpcs.trans hpcs', hbank, fun c hc => (hothers' c hc).trans (hothers c hc)⟩

theorem setPc_bankNow (hp : p < 96) {x : PcSt} (hx : x.banks = ((s.pc h p).setBank b y).banks) : s.BankNow (s.setPc h p x) h p b y := by
  have hbank : ∀ c, x.bank c = if b = c then y else (s.pc h p).bank c := fun c =>
    (congrArg (fun B => Tab.get BankSt.reset B c) hx).trans (bank_setBank ..)
  refine ⟨setPc_pcOnly hp x, ?_, fun c hc => ?_⟩
  · rw [pc_setPc_self, hbank, if_pos rfl]
  · rw [pc_setPc_self, hbank, if_neg (Ne.symm hc)]

end

/-! ## A pointer at a row command (R170, R173) -/

theorem walk_at_row {tbl : List Step} {q : Ptr} {c a : Nat} (x : PcSt) (now fuel : Nat) (ev : List Nat) (hwait : q.waitTo = 0)
    (hstep : tbl[q.step]? = some (.row c a)) : walk tbl x now (fuel + 1) q ev = (some q, ev) := by
  simp only [walk, hwait, if_neg (Nat.not_lt_zero now), hstep]

/-- A pointer whose step is a row command stays there. -/
theorem advance_at_row {s : State} {h p st : Nat} {q : Ptr} (hbegins : s.beginsAt h p q.op st q.step) (hop : q.op ≠ opReopen) (hwait : q.waitTo = 0) :
    s.advance h p q = s.setPc h p ((s.pc h p).setPtr q) := by
  obtain ⟨tbl, c, a, htbl, -, hstep⟩ := hbegins
  have hfuel : walkFuel = 1049999 + 1 := rfl
  simp only [State.advance, State.advanceAt, if_neg hop, htbl, hfuel, walk_at_row _ _ _ _ hwait hstep]
  rfl

theorem beginsAt_entry {s : State} {h p op st i : Nat} (hbegins : s.beginsAt h p op st i) : ((s.stepsOf h p).bind fun t => t.entry op st) = some i := by
  obtain ⟨tbl, c, a, htbl, hentry, -⟩ := hbegins
  rw [htbl]
  exact hentry

/-- The operations of a bank's own refreshes: REF_PB, RFM and the activate of a neighbour (R171). -/
def bankRefresh (op : Nat) : Prop := op = 5 ∨ op = 7 ∨ op = 8

/-- A bank that has taken a pointer to the row command of its refresh keeps it there. -/
theorem State.BankNow.advance {s t : State} {h p b st op i row : Nat} {emerg : Bool} {y : BankSt} (hp : p < 96)
    (hst : s.BankNow t h p b { y with ptr := some (newPtr op i 0 b row emerg) }) (hop : bankRefresh op) (hbegins : s.beginsAt h p op st i) :
    s.BankNow (t.advance h p (newPtr op i 0 b row emerg)) h p b { y with ptr := some (newPtr op i 0 b row emerg) } := by
  obtain ⟨⟨⟨P, rfl⟩, -⟩, hbank, -⟩ := id hst
  have hreopen : op ≠ opReopen := by unfold bankRefresh at hop; unfold opReopen; omega
  have hwide : ¬(6 ≤ op ∧ op ≠ 7 ∧ op ≠ 8 ∧ op ≠ opReopen) := by unfold bankRefresh at hop; omega
  have hset : ∀ x : PcSt, x.setPtr (newPtr op i 0 b row emerg) = x.setBank b { x.bank b with ptr := some (newPtr op i 0 b row emerg) } := fun x => if_neg hwide
  rw [advance_at_row (st := st) (by exact hbegins) hreopen rfl, hset, hbank]
  exact hst.trans (setPc_bankNow hp rfl)

/-- A wide operation that begins at a row command: its pointer stands there. -/
theorem loadWide_of_begins {s : State} {h p op i : Nat} (hp : p < 96) (hop : op = 6 ∨ op = 10) (hbegins : s.beginsAt h p op 0 i) (emerg : Bool) :
    s.PcOnly (s.loadWide h p op emerg) h p ∧ (s.loadWide h p op emerg).pc h p = { s.pc h p with wide := some (newPtr op i 0 0 0 emerg) } := by
  have hreopen : op ≠ opReopen := by unfold opReopen; omega
  have hwide : 6 ≤ op ∧ op ≠ 7 ∧ op ≠ 8 ∧ op ≠ opReopen := by omega
  have hset : ∀ x : PcSt, x.setPtr (newPtr op i 0 0 0 emerg) = { x with wide := some (newPtr op i 0 0 0 emerg) } := fun x => if_pos hwide
  simp only [State.loadWide, beginsAt_entry hbegins]
  rw [advance_at_row (st := 0) (by exact hbegins) hreopen rfl, hset, pc_setPc_self, pc_setPc_self]
  exact ⟨(setPc_pcOnly hp _).trans (setPc_pcOnly hp _), rfl⟩

end Sys2Proof.Machine
end

section
/-! SUPPORT. Refreshes of one bank: dues and debts, the bank that REF_PB chooses, and the emergency refresh (R163, R188 to R191). -/

namespace Sys2Proof.Machine

/-! ## Dues and debts (R188, R189) -/

/-- The log's own fields. -/
def logFlds : List Fld := [.TRC_STATUS_LOST, .ECC_LOG_STATUS_DROPPED, .ECC_INT_STATUS_LOG_DROP]

theorem logPut_regsBut (s : State) (h e : Nat) (x : LogEnt) : s.RegsBut (s.logPut h e x) logFlds := by
  obtain ⟨-, htrace⟩ := pushTrace_traced ((s.setLog h e (some x)).note .ECC_LOG_LOC_VALID h e 0 1) h
    { time := s.time64, typ := 0x0C, die := h, cas := x.cas, unit := x.pc, payload := [x.kind, e] }
  exact fun f d i j hf => htrace f d i j fun hm => hf (List.mem_cons.mpr (.inl (List.mem_singleton.mp hm)))

theorem logDrop_regsBut (s : State) (h : Nat) : s.RegsBut (s.logDrop h) logFlds := ((State.RegsBut.refl s _).count (by decide)).flag (by decide)

theorem logEvent_regsBut (s : State) (h : Nat) (ev : LogEnt) : s.RegsBut (s.logEvent h ev) logFlds := by
  unfold State.logEvent
  dsimp only
  split
  · split
    · exact logPut_regsBut s h _ _
    · exact .refl s _
  · split
    · exact logPut_regsBut s h _ _
    · split
      · split
        · exact logDrop_regsBut s h
        · exact logPut_regsBut s h _ _
      · exact logDrop_regsBut s h

theorem overdue_eccNoted (s : State) (h p b : Nat) : s.EccNoted (s.overdue h p b) := (State.RegsOnly.refl s).flag.eccNoted.trans (logEvent_eccNoted ..)

theorem overdue_rd (s : State) (h p b : Nat) : (s.overdue h p b).rd .PC_REF_STATUS_OVERDUE h p 0 = 1 :=
  (logEvent_regsBut _ h _ _ h p 0 (by decide)).trans (State.rd_wr_self ..)

/-- OVERDUE on a package with nothing under way: the log takes an entry, and the step ends there. -/
theorem overdue_done {s : State} (hi : s.Idle) (h p b : Nat) : (s.overdue h p b).done = s.overdue h p b := by
  obtain ⟨R, L, V, T, hnoted⟩ := overdue_eccNoted s h p b
  rw [hnoted]
  exact done_of_eq hi rfl rfl rfl rfl rfl rfl rfl rfl

theorem overdue_pc (s : State) (h p b g q : Nat) : (s.overdue h p b).pc g q = s.pc g q := by
  obtain ⟨R, L, V, T, hnoted⟩ := overdue_eccNoted s h p b
  rw [hnoted]
  rfl

/-- A bank whose due has come at tick t. -/
def BankSt.dueAt (y : BankSt) (top t : Nat) : BankSt := { y.owe top with dueK := y.dueK + 1, dueLast := some t }

section
variable {s : State} {h p b t0 : Nat}

theorem due_early_or_resting (hall : (s.pc h p).allBank = false) (htick : s.dueTick h p b 1 = some t0)
    (hnot : s.now < t0 ∨ (s.pc h p).sr = .inSr ∨ (s.pc h p).sr = .exiting) : s.due h p b = s := by
  rcases hnot with hearly | hrest
  · simp [State.due, hall, htick, Nat.not_le.mpr hearly]
  · exact if_pos (or_assoc.mp (.inl hrest))

theorem due_at_tick (hall : (s.pc h p).allBank = false) (hin : s.pcIn h p = true) (hb : b < s.banksOf h p) (htick : s.dueTick h p b 1 = some t0)
    (hover : t0 ≤ s.now) (hsr : (s.pc h p).sr ≠ .inSr) (hexit : (s.pc h p).sr ≠ .exiting) :
    s.due h p b =
      let u := s.setPc h p ((s.pc h p).setBank b (((s.pc h p).bank b).dueAt (s.postponeMax h) t0))
      if s.postponeMax h ≤ ((s.pc h p).bank b).debt then u.overdue h p b else u := by
  unfold State.due
  dsimp only
  rw [if_neg (by simp [hsr, hexit, hin]), if_neg (by simp [hall]), if_pos hb, htick]
  exact if_pos hover

/-- A due of a bank at its tick: the debt rises up to POSTPONE_MAX, where the due is overdue. -/
theorem exec_due_at_tick {h : Hub} {p : Pc} {b : Bank} (hi : s.Idle) (hall : (s.pc h.val p.val).allBank = false) (hin : s.pcIn h.val p.val = true)
    (hb : b.val < s.banksOf h.val p.val) (htick : s.dueTick h.val p.val b.val 1 = some t0) (hover : t0 ≤ s.now)
    (hsr : (s.pc h.val p.val).sr ≠ .inSr) (hexit : (s.pc h.val p.val).sr ≠ .exiting) :
    ∃ t : State, exec (.due h p b) s = .next t ∧
      ((t.pc h.val p.val).bank b.val).debt = min (s.postponeMax h.val) (((s.pc h.val p.val).bank b.val).debt + 1) ∧
      ((t.pc h.val p.val).bank b.val).dueLast = some t0 ∧ (∀ c, c ≠ b.val → (t.pc h.val p.val).bank c = (s.pc h.val p.val).bank c) ∧
      (((s.pc h.val p.val).bank b.val).debt < s.postponeMax h.val → t = { s with pcs := t.pcs }) ∧
      (s.postponeMax h.val ≤ ((s.pc h.val p.val).bank b.val).debt → t.rd .PC_REF_STATUS_OVERDUE h.val p.val 0 = 1) ∧
      t.mem = s.mem ∧ t.fuse = s.fuse := by
  have hraised := setPc_bankNow (s := s) (h := h.val) (b := b.val) (y := ((s.pc h.val p.val).bank b.val).dueAt (s.postponeMax h.val) t0) p.isLt rfl
  have hdue := due_at_tick hall hin hb htick hover hsr hexit
  generalize s.setPc h.val p.val ((s.pc h.val p.val).setBank b.val _) = u at hraised hdue
  obtain ⟨honly, hbank, hothers⟩ := hraised
  obtain ⟨⟨P, rfl⟩, -⟩ := id honly
  have hui : State.Idle { s with pcs := P } := idle_of_eq hi rfl rfl rfl rfl rfl rfl rfl rfl
  by_cases hfull : s.postponeMax h.val ≤ ((s.pc h.val p.val).bank b.val).debt
  · have hexec : exec (.due h p b) s = .next (State.overdue { s with pcs := P } h.val p.val b.val) :=
      (next_done_congr (hdue.trans (if_pos hfull))).trans (congrArg Host.Outcome.next (overdue_done hui ..))
    refine ⟨_, hexec, ?_, ?_, fun c hc => ?_, fun hlow => absurd hlow (Nat.not_lt.mpr hfull), fun _ => overdue_rd .., State.overdue_mem .., State.overdue_fuse ..⟩
    · rw [overdue_pc, hbank]; rfl
    · rw [overdue_pc, hbank]; rfl
    · rw [overdue_pc]; exact hothers c hc
  · have hexec : exec (.due h p b) s = .next { s with pcs := P } :=
      (next_done_congr (hdue.trans (if_neg hfull))).trans (congrArg Host.Outcome.next (done_of_idle hui))
    refine ⟨_, hexec, ?_, ?_, hothers, fun _ => rfl, fun htop => absurd htop hfull, rfl, rfl⟩
    · rw [hbank]; rfl
    · rw [hbank]; rfl

end

/-! ## The bank that is refreshed (R190, R191) -/

theorem worstBank_succ (x : PcSt) (n : Nat) (ok : Nat → Bool) : worstBank x (n + 1) ok =
    if ok n && decide (1 ≤ (x.bank n).debt) then
      match worstBank x n ok with
      | none => some n
      | some c => if (x.bank c).debt < (x.bank n).debt then some n else some c
    else worstBank x n ok := by
  unfold worstBank
  rw [List.range_succ, List.foldl_append]
  generalize List.foldl _ none (List.range n) = best
  cases best <;> rfl

/-- The chosen bank is one that the test passes. -/
theorem worstBank_passes {x : PcSt} {n c : Nat} {ok : Nat → Bool} (hc : worstBank x n ok = some c) : c < n ∧ ok c = true := by
  induction n with
  | zero => exact absurd hc (by simp [worstBank])
  | succ n ih =>
    have hbelow : worstBank x n ok = some c → c < n + 1 ∧ ok c = true := fun e => ⟨Nat.lt_succ_of_lt (ih e).1, (ih e).2⟩
    rw [worstBank_succ] at hc
    split at hc
    · next hn =>
      have hself : n = c → c < n + 1 ∧ ok c = true := by
        rintro rfl
        exact ⟨Nat.lt_succ_self n, (Bool.and_eq_true_iff.mp hn).1⟩
      split at hc
      · exact hself (Option.some.inj hc)
      · next hd =>
        split at hc
        · exact hself (Option.some.inj hc)
        · exact hbelow (hd.trans hc)
    · exact hbelow hc

/-- The bank of highest debt that the test passes, lowest number first. -/
theorem worstBank_eq {x : PcSt} {n b : Nat} {ok : Nat → Bool} (hb : b < n) (hok : ok b = true) (hdebt : 1 ≤ (x.bank b).debt)
    (hworst : ∀ c < n, ok c = true → (x.bank c).debt ≤ (x.bank b).debt ∧ (c < b → (x.bank c).debt < (x.bank b).debt)) : worstBank x n ok = some b := by
  induction n with
  | zero => omega
  | succ n ih =>
    rw [worstBank_succ]
    by_cases hlast : b = n
    · subst hlast
      rw [if_pos (by simp [hok, hdebt])]
      cases hbest : worstBank x b ok with
      | none => rfl
      | some c =>
        obtain ⟨hc, hcok⟩ := worstBank_passes hbest
        exact if_pos ((hworst c (by omega) hcok).2 hc)
    · rw [ih (by omega) fun c hc => hworst c (by omega)]
      split
      · next hn => exact if_neg (Nat.not_lt.mpr (hworst n (by omega) (Bool.and_eq_true_iff.mp hn).1).1)
      · rfl

theorem emergBank_eq {s : State} {h p b : Nat} (hb : b < s.banksOf h p) (htop : ((s.pc h p).bank b).debt = s.postponeMax h)
    (hlow : ∀ c < b, ((s.pc h p).bank c).debt ≠ s.postponeMax h) : s.emergBank h p = some b :=
  List.find?_range_eq_some.mpr ⟨beq_iff_eq.mpr htop, List.mem_range.mpr hb, fun c hc => by simp [hlow c hc]⟩

/-! ## A refresh is loaded (R163, R190, R191) -/

/-- A bank with the pointer of a refresh, the sequence in its way set aside. -/
def BankSt.takes (y : BankSt) (q : Ptr) : BankSt := { y.setAside with ptr := some q }

theorem loadRefresh_bankNow {s : State} {h p b i : Nat} (hp : p < 96) (hbegins : s.beginsAt h p 5 (if ((s.pc h p).bank b).row.isSome then 2 else 1) i) (emerg : Bool) :
    s.BankNow (s.loadRefresh h p b emerg) h p b (((s.pc h p).bank b).takes (newPtr 5 i 0 b 0 emerg)) := by
  simp only [State.loadRefresh, beginsAt_entry hbegins]
  exact State.BankNow.advance hp (setPc_bankNow hp rfl) (.inl rfl) hbegins

/-- REF_PB where no pause is due: the idle bank of highest debt. -/
theorem refPb_of_worst {s : State} {h p b : Nat} (hin : s.pcIn h p = true) (hall : (s.pc h p).allBank = false) (href : (s.pc h p).refreshes = true)
    (hpause : (s.pc h p).pauseDue = false) (hnbr : (s.pc h p).nbrPending = false) (hhinge : s.hinge.step = 0) (hidle : (s.pc h p).idle b = true)
    (hworst : worstBank (s.pc h p) (s.banksOf h p) (s.pc h p).idle = some b) : s.refPb h p = s.loadRefresh h p b false := by
  simp [State.refPb, hin, hall, href, hpause, hnbr, hhinge, hworst, hidle]

/-- A sequence of a request in progress is set aside with the row it has open. -/
theorem setAside_saved {y : BankSt} {q : Ptr} (hq : y.ptr = some q) (hop : q.op ≤ 4) (hsaved : y.saved = none) : y.setAside.saved = some (q, y.row) := by
  simp [BankSt.setAside, hq, hop, hsaved]

/-! ## EMERGENCY_REFRESH (R191) -/

/-- An emergency refresh has been counted; a latch of its bank is marked preempted. -/
def State.urged (s : State) (h p b : Nat) : State :=
  let t := (s.setPc h p (s.pc h p).pastWait).count .PC_REF_CNT_EMERG top16 h p 0 1
  if ((s.pc h p).bank b).latch.isSome then t.flag .PC_RMW_PREEMPTED h p 0 else t

theorem urged_regsOnly (s : State) (h p b : Nat) : (s.setPc h p (s.pc h p).pastWait).RegsOnly (s.urged h p b) := by
  unfold State.urged
  dsimp only
  split
  · exact (State.RegsOnly.refl _).count.flag
  · exact (State.RegsOnly.refl _).count

theorem urged_parts (s : State) (h p b : Nat) : ∃ R P, s.urged h p b = { s with regs := R, pcs := P } := by
  obtain ⟨R, hR⟩ := urged_regsOnly s h p b
  exact ⟨R, _, hR⟩

theorem urged_bank (s : State) (h p b c : Nat) : ((s.urged h p b).pc h p).bank c = (s.pc h p).bank c := by
  obtain ⟨R, hR⟩ := urged_regsOnly s h p b
  have hpc : (s.urged h p b).pc h p = (s.pc h p).pastWait := by
    rw [hR]
    exact pc_setPc_self ..
  rw [hpc]
  rfl

theorem urged_regs (s : State) (h p b : Nat) : (s.urged h p b).rd .PC_REF_CNT_EMERG h p 0 = min 65535 (s.rd .PC_REF_CNT_EMERG h p 0 + 1) ∧
    (((s.pc h p).bank b).latch.isSome = true → (s.urged h p b).rd .PC_RMW_PREEMPTED h p 0 = 1) ∧
    s.RegsBut (s.urged h p b) [.PC_REF_CNT_EMERG, .PC_RMW_PREEMPTED] := by
  unfold State.urged
  dsimp only
  generalize hcounted : (s.setPc h p (s.pc h p).pastWait).count .PC_REF_CNT_EMERG top16 h p 0 1 = t
  have hemerg : t.rd .PC_REF_CNT_EMERG h p 0 = min 65535 (s.rd .PC_REF_CNT_EMERG h p 0 + 1) := by
    rw [← hcounted]
    exact count_rd ..
  have hkept : s.RegsBut t [.PC_REF_CNT_EMERG, .PC_RMW_PREEMPTED] := by
    rw [← hcounted]
    exact State.RegsBut.count (fun _ _ _ _ _ => rfl) (by decide)
  split
  · exact ⟨(State.rd_wr_fld _ (by decide)).trans hemerg, fun _ => State.rd_wr_self .., hkept.flag (by decide)⟩
  · next hlatch => exact ⟨hemerg, fun hl => absurd hl hlatch, hkept⟩

section
variable {s : State} {h p b i : Nat}

theorem emergency_of_urgent (hin : s.pcIn h p = true) (hall : (s.pc h p).allBank = false) (hsr : (s.pc h p).sr = .awake ∨ (s.pc h p).sr = .entering)
    (hpause : (s.pc h p).pauseFrom = none) (hreplay : (s.pc h p).replay = none) (hwide : (s.pc h p).wide = none) (hruns : (s.pc h p).emergRuns = false)
    (hbank : s.emergBank h p = some b) : s.emergency h p = (s.urged h p b).emergPb h p b := by
  have hopen : s.emergOpen h p = true := by rw [State.emergOpen, hreplay]; rfl
  have hnot : (!((s.pc h p).sr == .awake || (s.pc h p).sr == .entering) || (s.pc h p).pauseFrom.isSome || !s.pcIn h p || (s.pc h p).emergRuns ||
      !s.emergOpen h p || (s.pc h p).wide.any (fun q => q.op != 6)) = false := by
    rcases hsr with hsr | hsr <;> rw [hsr, hpause, hin, hruns, hopen, hwide] <;> rfl
  unfold State.emergency
  dsimp only
  rw [if_neg (Bool.eq_false_iff.mp hnot), hbank]
  simp only [hall, hwide]
  rfl

/-- A refresh of the bank that is loaded becomes the emergency one. -/
theorem emergPb_of_loaded {q : Ptr} (hp : p < 96) (hq : ((s.pc h p).bank b).ptr = some q) (hop : q.op = 5) :
    s.BankNow (s.emergPb h p b) h p b { (s.pc h p).bank b with ptr := some { q with emerg := true } } := by
  simp only [State.emergPb, hq, hop]
  exact setPc_bankNow hp rfl

theorem emergPb_of_unloaded (hp : p < 96) (hq : ∀ q, ((s.pc h p).bank b).ptr = some q → q.op ≠ 5)
    (hbegins : s.beginsAt h p 5 (if ((s.pc h p).bank b).row.isSome then 2 else 1) i) :
    s.BankNow (s.emergPb h p b) h p b (((s.pc h p).bank b).takes (newPtr 5 i 0 b 0 true)) := by
  have hload : s.emergPb h p b = s.loadRefresh h p b true := by
    unfold State.emergPb
    dsimp only
    split
    · next q hptr => exact if_neg (hq q hptr)
    · rfl
  rw [hload]
  exact loadRefresh_bankNow hp hbegins true

/-- What the emergency requester leaves in its bank. -/
theorem emergPb_bank (hp : p < 96) (hbegins : s.beginsAt h p 5 (if ((s.pc h p).bank b).row.isSome then 2 else 1) i) :
    ∃ y, s.BankNow (s.emergPb h p b) h p b y ∧
      (∀ q, ((s.pc h p).bank b).ptr = some q → q.op = 5 → y.ptr = some { q with emerg := true }) ∧
      ((∀ q, ((s.pc h p).bank b).ptr = some q → q.op ≠ 5) → y.ptr = some (newPtr 5 i 0 b 0 true)) ∧
      (∀ q, ((s.pc h p).bank b).ptr = some q → q.op ≤ 4 → ((s.pc h p).bank b).saved = none → y.saved = some (q, ((s.pc h p).bank b).row)) := by
  by_cases hloaded : ∃ q, ((s.pc h p).bank b).ptr = some q ∧ q.op = 5
  · obtain ⟨q, hq, hop⟩ := hloaded
    refine ⟨_, emergPb_of_loaded hp hq hop, fun r hr _ => ?_, fun hnone => absurd hop (hnone q hq), fun r hr hrop => ?_⟩
    · rw [Option.some.inj (hq.symm.trans hr)]
    · rw [← Option.some.inj (hq.symm.trans hr)] at hrop
      omega
  · have hnone : ∀ q, ((s.pc h p).bank b).ptr = some q → q.op ≠ 5 := fun q hq hop => hloaded ⟨q, hq, hop⟩
    exact ⟨_, emergPb_of_unloaded hp hnone hbegins, fun q hq hop => absurd hop (hnone q hq), fun _ => rfl, fun q hq hop hsaved => setAside_saved hq hop hsaved⟩

end

/-- Settles O38: a due raises one debt, REF_PB and the emergency requester each find their bank and load its pointer. -/
theorem bankRefreshes : Obligations.BankRefreshes := by
  refine ⟨fun s h p b t0 hi hall hin hb htick => ⟨fun hnot => ?_, fun hover hsr hexit => exec_due_at_tick hi hall hin hb htick hover hsr hexit⟩,
    fun s h p b i hi hin hall href hpause hnbr hhinge hb hidle hdebt hworst hbegins => ?_,
    fun s h p b i hi hin hall hsr hpause hreplay hwide hruns hb htop hlow hbegins => ?_⟩
  · exact (next_done_congr (due_early_or_resting hall htick hnot)).trans (congrArg Host.Outcome.next (done_of_idle hi))
  · have hload := loadRefresh_bankNow p.isLt hbegins false
    have hexec := next_done_congr (refPb_of_worst hin hall href hpause hnbr hhinge hidle (worstBank_eq hb hidle hdebt hworst))
    obtain ⟨honly, hbank, hothers⟩ := hload
    exact ⟨_, hexec.trans (congrArg Host.Outcome.next (honly.done hi)), honly.eq, by rw [hbank]; rfl, hothers⟩
  · have hexec := next_done_congr (emergency_of_urgent hin hall hsr hpause hreplay hwide hruns (emergBank_eq hb htop hlow))
    obtain ⟨hemerg, hpreempted, hregs⟩ := urged_regs s h.val p.val b
    have hsame := urged_bank s h.val p.val b
    obtain ⟨R, P, hparts⟩ := urged_parts s h.val p.val b
    generalize s.urged h.val p.val b = u at *
    subst hparts
    obtain ⟨y, ⟨honly, hbank, hothers⟩, hloaded, hfresh, hsaved⟩ :=
      emergPb_bank (s := { s with regs := R, pcs := P }) (h := h.val) (b := b) p.isLt (by rw [hsame]; exact hbegins)
    rw [hsame] at hloaded hfresh hsaved
    have hui : State.Idle { s with regs := R, pcs := P } := idle_of_eq hi rfl rfl rfl rfl rfl rfl rfl rfl
    have hrd : ∀ f d i j, (State.emergPb { s with regs := R, pcs := P } h.val p.val b).rd f d i j = State.rd { s with regs := R, pcs := P } f d i j := by
      obtain ⟨⟨P', hP'⟩, -⟩ := honly
      rw [hP']
      exact fun _ _ _ _ => rfl
    refine ⟨_, hexec.trans (congrArg Host.Outcome.next (honly.done hui)), ?_, ?_, ?_, ?_, fun c hc => (hothers c hc).trans (hsame c),
      (hrd ..).trans hemerg, fun hl => (hrd ..).trans (hpreempted hl), fun f d i j hf => (hrd ..).trans (hregs f d i j hf)⟩
    · obtain ⟨⟨P', hP'⟩, -⟩ := honly
      rw [hP']
    · rwa [hbank]
    · rwa [hbank]
    · rwa [hbank]

end Sys2Proof.Machine
end

section
/-! SUPPORT. Refreshes of a whole pseudo-channel, self-refresh, cleared tables and neighbour refreshes (R192, R193, R196, R199 to R201). -/

namespace Sys2Proof.Machine

/-! ## REF_AB (R192) -/

/-- Every bank's sequence is set aside. -/
def PcSt.setAsideAll (x : PcSt) : PcSt := { x with banks := x.banks.map fun z => (z.1, z.2.setAside) }

theorem setAsideAll_bank (x : PcSt) (b : Nat) : x.setAsideAll.bank b = (x.bank b).setAside := bank_mapBanks (f := BankSt.setAside) rfl x b

section
variable {s : State} {h p i : Nat}

theorem refAb_of_owed (hin : s.pcIn h p = true) (hall : (s.pc h p).allBank = true) (href : (s.pc h p).refreshes = true) (hhinge : s.hinge.step = 0)
    (hwhen : (s.pc h p).queue = [] ∨ ((s.pc h p).pauseDue = true ∧ s.pauseOpen h p = false))
    (hbanks : ∀ x ∈ (s.pc h p).banks, x.2.yields = true ∧ x.2.nbr = []) (howed : 1 ≤ (s.pc h p).maxDebt) :
    s.refAb h p = (s.setPc h p (s.pc h p).setAsideAll).loadWide h p 6 false := by
  have hyield : (s.pc h p).banks.all (fun b => b.2.yields && b.2.nbr.isEmpty) = true :=
    List.all_eq_true.mpr fun x hx => by simp [hbanks x hx]
  have hopen : ((s.pc h p).queue.isEmpty || ((s.pc h p).pauseDue && !s.pauseOpen h p)) = true := by
    rcases hwhen with hempty | ⟨hdue, hwaits⟩
    · simp [hempty]
    · simp [hdue, hwaits]
  exact if_pos (by rw [hin, hall, href, hhinge, hyield, hopen, decide_eq_true howed]; rfl)

theorem exec_refAb {h : Hub} {p : Pc} (hi : s.Idle)
    (href : s.refAb h.val p.val = (s.setPc h.val p.val (s.pc h.val p.val).setAsideAll).loadWide h.val p.val 6 false) (hbegins : s.beginsAt h.val p.val 6 0 i) :
    ∃ t : State, exec (.refAb h p) s = .next t ∧ t = { s with pcs := t.pcs } ∧ s.OtherPcs t h.val p.val ∧
      (t.pc h.val p.val).wide = some (newPtr 6 i 0 0 0 false) ∧ (t.pc h.val p.val).queue = (s.pc h.val p.val).queue ∧
      ∀ b, (t.pc h.val p.val).bank b = ((s.pc h.val p.val).bank b).setAside := by
  have haside := setPc_pcOnly (s := s) (h := h.val) p.isLt (s.pc h.val p.val).setAsideAll
  obtain ⟨honly, hpc⟩ := loadWide_of_begins (s := s.setPc h.val p.val (s.pc h.val p.val).setAsideAll) p.isLt (.inl rfl) (by exact hbegins) false
  have hload := haside.trans honly
  rw [pc_setPc_self] at hpc
  refine ⟨_, (next_done_congr href).trans (congrArg Host.Outcome.next (hload.done hi)), hload.eq, hload.2, ?_, ?_, fun b => ?_⟩
  · rw [hpc]
  · rw [hpc]; rfl
  · rw [hpc]; exact setAsideAll_bank ..

/-! ## Self-refresh by itself (R193, R196) -/

theorem refreshes_awake {x : PcSt} (href : x.refreshes = true) : x.sr = .awake := by
  unfold PcSt.refreshes at href
  simp only [Bool.and_eq_true] at href
  obtain ⟨⟨⟨hawake, -⟩, -⟩, -⟩ := href
  exact eq_of_beq hawake

theorem autoSr_of_idle (hin : s.pcIn h p = true) (hall : (s.pc h p).allBank = true) (href : (s.pc h p).refreshes = true) (hhinge : s.hinge.step = 0)
    (hempty : (s.pc h p).queue = []) (hnbr : (s.pc h p).nbrPending = false) (hdebt : (s.pc h p).maxDebt = 0) (hrun : s.clk.run = true)
    (hover : (s.pc h p).idleFrom + Config.usTicks (((s.refreshCfg h).map (·.srIdleUs)).getD 0) ≤ s.now) :
    s.autoSr h p = s.setPc h p { s.pc h p with sr := .entering, srAuto := true } := by
  have hgo : s.autoSr h p = s.enterSr h p true :=
    if_pos (by rw [hin, hall, href, hhinge, hempty, hnbr, hdebt, hrun, decide_eq_true hover]; rfl)
  exact hgo.trans (if_pos (refreshes_awake href))

theorem autoExit_of_admitted (hauto : (s.pc h p).srAuto = true) (hqueue : (s.pc h p).queue ≠ []) (hsr : (s.pc h p).sr = .inSr) (hwide : (s.pc h p).wide = none)
    (hrun : s.clk.run = true) : s.autoExit h p = s.loadWide h p 10 false := by
  have hgo : s.autoExit h p = s.exitSr h p := if_pos ⟨hauto, hqueue, hrun⟩
  exact hgo.trans (if_pos ⟨hsr, hwide⟩)

/-! ## ACT_TABLE_CLEAR (R199) -/

/-- A bank with an empty activation-counting table. -/
def BankSt.cleared (y : BankSt) : BankSt := { y with acts := List.replicate 32 none }

theorem clearActs_bank (x : PcSt) (at_ b : Nat) : (x.clearActs at_).bank b = (x.bank b).cleared := bank_mapBanks (f := BankSt.cleared) rfl x b

theorem clearTables_at_window {c : Nat} (hfrom : (s.pc h p).clearFrom = some c) (hover : c + s.window h p ≤ s.now) :
    s.clearTables h p = s.setPc h p ((s.pc h p).clearActs (c + s.window h p)) := by
  simp only [State.clearTables, hfrom]
  exact if_pos hover

theorem clearTables_early {c : Nat} (hfrom : (s.pc h p).clearFrom = some c) (hearly : s.now < c + s.window h p) : s.clearTables h p = s := by
  simp only [State.clearTables, hfrom]
  exact if_neg (Nat.not_le.mpr hearly)

end

/-! ## Neighbour refreshes (R200, R201) -/

/-- The bank state from which a step table begins (R173): 2 with a row open, 1 with none. -/
def BankSt.begins (y : BankSt) : Nat := if y.row.isSome then 2 else 1

/-- An operation of a neighbour refresh takes its bank's pointer. -/
def State.loadNbr (s : State) (h p b st op row : Nat) : State :=
  match (s.stepsOf h p).bind fun tb => tb.entry op st with
  | some i => (s.setPc h p { (s.pc h p).setBank b { ((s.pc h p).bank b).setAside with ptr := some (newPtr op i 0 b row false) } with nbrAt := (b, row) }).advance h p
      (newPtr op i 0 b row false)
  | none => s

theorem loadNbr_bankNow {s : State} {h p b st op i : Nat} (hp : p < 96) (hop : bankRefresh op) (hbegins : s.beginsAt h p op st i) (row : Nat) :
    s.BankNow (s.loadNbr h p b st op row) h p b (((s.pc h p).bank b).takes (newPtr op i 0 b row false)) := by
  simp only [State.loadNbr, beginsAt_entry hbegins]
  exact State.BankNow.advance hp (setPc_bankNow hp rfl) hop hbegins

/-- The neighbours of a row that are still to be activated have been listed. -/
def State.listNbrs (s : State) (h p b : Nat) (l : List Nat) : State := s.setPc h p ((s.pc h p).setBank b { (s.pc h p).bank b with nbrLeft := some l })

section
variable {s : State} {h p b row : Nat} {rows : List Nat} {d : DisturbCfg} (hnbr : ((s.pc h p).bank b).nbr = row :: rows) (hcfg : s.disturbCfg h = some d)
  (hmay : (s.pc h p).mitigates = true) (hmet : s.nbrMet h p b = false)
include hnbr hcfg hmay hmet

theorem neighbourRefresh_rfm (hd : d.method = 0) : s.neighbourRefresh h p b = s.loadNbr h p b ((s.pc h p).bank b).begins 7 row := by
  simp only [State.neighbourRefresh, hnbr, hcfg, hmay, hmet, hd]
  rfl

theorem neighbourRefresh_next {n : Nat} {ns : List Nat} (hd : d.method ≠ 0) (hleft : ((s.pc h p).bank b).nbrLeft = some (n :: ns)) :
    s.neighbourRefresh h p b = s.loadNbr h p b ((s.pc h p).bank b).begins 8 n := by
  simp only [State.neighbourRefresh, hnbr, hcfg, hmay, hmet, hleft, if_neg hd]
  rfl

variable {a : AdjacencyCfg} (hd : d.method ≠ 0) (hleft : ((s.pc h p).bank b).nbrLeft = none) (hadj : s.adjacencyOf h p = some a)
include hd hleft hadj

theorem neighbourRefresh_first {n : Nat} {ns : List Nat} (hns : a.neighbours row (s.rowsOf h p) d.radius = n :: ns) :
    s.neighbourRefresh h p b = (s.listNbrs h p b (n :: ns)).loadNbr h p b ((s.pc h p).bank b).begins 8 n := by
  simp only [State.neighbourRefresh, hnbr, hcfg, hmay, hmet, hleft, hadj, if_neg hd, Option.map_some, Option.getD_some, hns, State.listNbrs]
  rfl

theorem neighbourRefresh_none (hns : a.neighbours row (s.rowsOf h p) d.radius = []) : s.neighbourRefresh h p b = s.nbrDone h p b := by
  simp only [State.neighbourRefresh, hnbr, hcfg, hmay, hmet, hleft, hadj, if_neg hd, Option.map_some, Option.getD_some, hns]
  rfl

end

/-- NEIGHBOUR_REFRESH that loads an operation: its bank takes the pointer. -/
theorem exec_neighbourRefresh {s : State} {h : Hub} {p : Pc} {b : Bank} {op i row : Nat} {y : BankSt} {left : Option (List Nat)} (hi : s.Idle)
    (hnow : s.BankNow (s.neighbourRefresh h.val p.val b.val) h.val p.val b.val (y.takes (newPtr op i 0 b.val row false))) (hleft : y.setAside.nbrLeft = left) :
    ∃ t : State, exec (.neighbourRefresh h p b) s = .next t ∧ t = { s with pcs := t.pcs } ∧ s.OtherPcs t h.val p.val ∧
      (t.pc h.val p.val).bank b.val = { y.setAside with ptr := some (newPtr op i 0 b.val row false), nbrLeft := left } ∧
      (∀ c, c ≠ b.val → (t.pc h.val p.val).bank c = (s.pc h.val p.val).bank c) := by
  obtain ⟨honly, hbank, hothers⟩ := hnow
  exact ⟨_, congrArg Host.Outcome.next (honly.done hi), honly.eq, honly.2, by rw [hbank, ← hleft]; rfl, hothers⟩

theorem setAside_nbrLeft (y : BankSt) : y.setAside.nbrLeft = y.nbrLeft := by
  unfold BankSt.setAside
  split
  · split <;> rfl
  · rfl

/-- What waits of a neighbour refresh stands in the way of nothing that is set aside. -/
theorem setAside_with_nbrLeft (y : BankSt) (l : Option (List Nat)) : ({ y with nbrLeft := l } : BankSt).setAside = { y.setAside with nbrLeft := l } := by
  rcases y with ⟨_, ptr, _, _, _, _, _, _, _, _, _⟩
  cases ptr with
  | none => rfl
  | some q =>
    unfold BankSt.setAside
    dsimp only
    split <;> rfl

/-- A pending row has no neighbour left: it is done, and counted. -/
theorem nbrDone_row {s : State} {h p b row : Nat} {rows : List Nat} (hp : p < 96) (hnbr : ((s.pc h p).bank b).nbr = row :: rows)
    (hleft : ((s.pc h p).bank b).nbrLeft = none) :
    ∃ u R, s.BankNow u h p b { (s.pc h p).bank b with nbr := rows, nbrLeft := none } ∧ s.nbrDone h p b = { u with regs := R } ∧
      (s.nbrDone h p b).rd .PC_NBR_CNT_NBR h p 0 = min 65535 (s.rd .PC_NBR_CNT_NBR h p 0 + 1) ∧
      s.RegsBut (s.nbrDone h p b) [.PC_NBR_CNT_NBR, .CNT_VALUE_VALUE, .CNT_CFG_OVF] := by
  have hset := setPc_bankNow (s := s) (h := h) (b := b) (y := { (s.pc h p).bank b with nbr := rows, nbrLeft := none }) hp rfl
  have hdone : s.nbrDone h p b = ((s.setPc h p ((s.pc h p).setBank b { (s.pc h p).bank b with nbr := rows, nbrLeft := none })).count .PC_NBR_CNT_NBR top16 h p 0 1).tally
      h 0x0A (some p) [0, 2] none 1 := by
    simp only [State.nbrDone, hleft, hnbr, List.tail_cons]
  obtain ⟨R, hR⟩ := (State.RegsOnly.refl (s.setPc h p ((s.pc h p).setBank b { (s.pc h p).bank b with nbr := rows, nbrLeft := none }))).count
    (f := .PC_NBR_CNT_NBR) (top := top16) (d := h) (i := p) (j := 0) (n := 1) |>.trans (State.tally_regsOnly _ h 0x0A (some p) [0, 2] none 1)
  have htally := tally_regsBut ((s.setPc h p ((s.pc h p).setBank b { (s.pc h p).bank b with nbr := rows, nbrLeft := none })).count .PC_NBR_CNT_NBR top16 h p 0 1)
    h 0x0A (some p) [0, 2] none 1
  rw [hdone]
  refine ⟨_, R, hset, hR, (htally _ h p 0 (by decide)).trans (count_rd ..), fun f d i j hf => ?_⟩
  rw [htally f d i j fun hm => hf (List.mem_cons_of_mem _ hm)]
  exact State.rd_wr_fld _ fun e => hf (e ▸ List.mem_cons_self)

/-- Settles O39: each sequence is loaded where its condition holds, and begins at a row command; a table is cleared and a row without neighbours is done at once. -/
theorem wideRefreshAndDisturbance : Obligations.WideRefreshAndDisturbance := by
  refine ⟨fun s h p i hi hin hall href hhinge => ⟨fun hwhen hbanks howed hbegins => ?_, fun hempty hnbr hdebt hrun hover => ?_⟩,
    fun s h p i hi hauto hqueue hsr hwide hrun hbegins => ?_, fun s h p c hi hfrom => ⟨fun hover => ?_, fun hearly => ?_⟩,
    fun s h p b d row i rows hi hcfg hnbr hmay hmet => ⟨fun hd hbegins => ?_, fun hd => ⟨fun n ns hleft hbegins => ?_, fun a hleft hadj => ⟨fun n ns hns hbegins => ?_, fun hns => ?_⟩⟩⟩⟩
  · exact exec_refAb hi (refAb_of_owed hin hall href hhinge hwhen hbanks howed) hbegins
  · exact (next_done_congr (autoSr_of_idle hin hall href hhinge hempty hnbr hdebt hrun hover)).trans (congrArg Host.Outcome.next (setPc_done hi ..))
  · obtain ⟨honly, hpc⟩ := loadWide_of_begins p.isLt (.inr rfl) hbegins false
    exact ⟨_, (next_done_congr (autoExit_of_admitted hauto hqueue hsr hwide hrun)).trans (congrArg Host.Outcome.next (honly.done hi)), honly.eq, honly.2, hpc⟩
  · refine ⟨_, (next_done_congr (clearTables_at_window hfrom hover)).trans (congrArg Host.Outcome.next (setPc_done hi ..)), rfl, setPc_otherPcs s p.isLt _, ?_, fun k => ?_⟩
    · rw [pc_setPc_self]; rfl
    · rw [pc_setPc_self]; exact clearActs_bank ..
  · exact (next_done_congr (clearTables_early hfrom hearly)).trans (congrArg Host.Outcome.next (done_of_idle hi))
  · have hload := loadNbr_bankNow (b := b.val) p.isLt (.inr (.inl rfl)) hbegins row
    exact exec_neighbourRefresh hi ((neighbourRefresh_rfm hnbr hcfg hmay hmet hd).symm ▸ hload) (setAside_nbrLeft _)
  · have hload := loadNbr_bankNow (b := b.val) p.isLt (.inr (.inr rfl)) hbegins n
    exact exec_neighbourRefresh hi ((neighbourRefresh_next hnbr hcfg hmay hmet hd hleft).symm ▸ hload) ((setAside_nbrLeft _).trans hleft)
  · have hlist := setPc_bankNow (s := s) (h := h.val) (b := b.val) (y := { (s.pc h.val p.val).bank b.val with nbrLeft := some (n :: ns) }) p.isLt rfl
    have hload := loadNbr_bankNow (s := s.listNbrs h.val p.val b.val (n :: ns)) (b := b.val) p.isLt (.inr (.inr rfl)) (by exact hbegins) n
    obtain ⟨-, hlisted, -⟩ := id hlist
    rw [State.listNbrs, hlisted] at hload
    have hexec := exec_neighbourRefresh hi ((neighbourRefresh_first hnbr hcfg hmay hmet hd hleft hadj hns).symm ▸ hlist.trans hload) (setAside_nbrLeft _)
    rwa [setAside_with_nbrLeft] at hexec
  · obtain ⟨u, R, ⟨honly, hbank, hothers⟩, hdone, hrd, hregs⟩ := nbrDone_row p.isLt hnbr hleft
    obtain ⟨⟨P, rfl⟩, hpcs⟩ := honly
    have hexec := next_done_congr (neighbourRefresh_none hnbr hcfg hmay hmet hd hleft hadj hns)
    have hidle : (s.nbrDone h.val p.val b.val).done = s.nbrDone h.val p.val b.val := by
      rw [hdone]
      exact done_of_eq hi rfl rfl rfl rfl rfl rfl rfl rfl
    refine ⟨_, hexec.trans (congrArg Host.Outcome.next hidle), ?_, ?_, ?_, ?_, hrd, hregs⟩
    all_goals rw [hdone]
    · exact hpcs
    · exact hbank
    · exact hothers

end Sys2Proof.Machine
end

section
/-! SUPPORT. What a change of heat brings: events, closures, CAP, what is staged, the functions' events and notices; the sources and the marks of the refresh rate stand through all of it (R55, R276, R283, R287, R288). -/

namespace Sys2Proof.Machine

/-! ## What follows a change of heat -/

/-- Fields that a change of tier may write. -/
def heatFlds : List Fld := .TRC_STATUS_LOST :: .THM_INT_STATUS_CRITICAL :: .THM_INT_STATUS_TIER_UP :: .THM_INT_STATUS_TIER_DOWN :: .THM_CLOSED_CNT_COUNT ::
  .SVC_HINGE_STATUS_CAP :: .SVC_HINGE_STATUS_ERROR :: .RING_STALL_CNT_SENT :: (fnEventFlds ++ stagingFlds)

/-- The temperature sources stand, and of the registers only those that a change of tier writes differ. -/
def State.HeatKept (s t : State) : Prop := t.therm = s.therm ∧ s.RegsBut t heatFlds

theorem State.HeatKept.refl (s : State) : s.HeatKept s := ⟨rfl, .refl s _⟩

theorem State.HeatKept.trans {s t u : State} (h : s.HeatKept t) (g : t.HeatKept u) : s.HeatKept u := ⟨g.1.trans h.1, h.2.trans g.2⟩

/-- An update of anything but the sources and the registers. -/
theorem State.HeatKept.of_eq {s t : State} (ht : t.therm = s.therm) (hr : t.regs = s.regs) : s.HeatKept t :=
  ⟨ht, fun f d i j _ => by rw [State.rd, hr, State.rd]⟩

theorem State.HeatKept.foldl {α : Type} {F : State → α → State} (hF : ∀ (t : State) (x : α), t.HeatKept (F t x)) (xs : List α) (s : State) :
    s.HeatKept (xs.foldl F s) :=
  List.foldlRecOn _ _ (.refl s) fun t ht x _ => ht.trans (hF t x)

theorem State.HeatKept.wr {s t : State} (h : s.HeatKept t) {f : Fld} (hf : f ∈ heatFlds) {d i j v : Nat} : s.HeatKept (t.wr f d i j v) := ⟨h.1, h.2.wr hf⟩

theorem State.HeatKept.flag {s t : State} (h : s.HeatKept t) {f : Fld} (hf : f ∈ heatFlds) {d i j : Nat} : s.HeatKept (t.flag f d i j) := ⟨h.1, h.2.flag hf⟩

theorem State.HeatKept.count {s t : State} (h : s.HeatKept t) {f : Fld} (hf : f ∈ heatFlds) {top d i j n : Nat} : s.HeatKept (t.count f top d i j n) :=
  ⟨h.1, h.2.count hf⟩

theorem State.HeatKept.src {s t : State} (h : s.HeatKept t) (k : Nat) : t.src k = s.src k := congrArg (fun T => Tab.get ThermSt.reset T k) h.1

theorem State.Traced.heatKept {s t : State} (h : s.Traced t) : s.HeatKept t := by
  obtain ⟨⟨R, T, rfl⟩, hr⟩ := h
  exact ⟨rfl, hr.mono (by decide)⟩

theorem State.Told.heatKept {s t : State} (h : s.Told t) : s.HeatKept t := by
  obtain ⟨⟨R, M, O, rfl⟩, hr⟩ := h
  exact ⟨rfl, hr.mono (by decide)⟩

theorem State.Restaged.heatKept {s t : State} (h : s.Restaged t) : s.HeatKept t := by
  obtain ⟨⟨R, S, rfl⟩, hr⟩ := h
  exact ⟨rfl, hr.mono (by decide)⟩

theorem State.RequestsOnly.heatKept {s t : State} (h : s.RequestsOnly t) : s.HeatKept t := by
  obtain ⟨D, R, P, C, A, rfl⟩ := h
  exact .of_eq rfl rfl

theorem State.RequestEnds.heatKept {s t : State} (h : s.RequestEnds t) : s.HeatKept t := by
  obtain ⟨D, B, S, A, P, C, rfl⟩ := h
  exact .of_eq rfl rfl

theorem setPc_heatKept (s : State) (h p : Nat) (x : PcSt) : s.HeatKept (s.setPc h p x) := .of_eq rfl rfl

/-! ## A stack closes or opens (R283, R284) -/

theorem dropDoors_heatKept (s : State) (h : Nat) (gone : Req → Bool) (st : Status) : s.HeatKept (s.dropDoors h gone st) :=
  State.HeatKept.trans (.foldl (fun t d => (dropDoor_requestEnds t h d gone st).heatKept) _ _) (.foldl (fun t p => (endDeadLatch_requestEnds t h p).heatKept) _ _)

theorem dropRing_heatKept (s : State) (h : Nat) (gone : Req → Bool) (st : Status) : s.HeatKept (s.dropRing h gone st) :=
  .foldl (fun t _ => State.HeatKept.trans (t := t.setRing ..) (.of_eq rfl rfl) (.foldl (fun u r => (finish_requestsOnly u r st 0 0 0).heatKept) _ _)) _ _

theorem closeStack_heatKept (s : State) (h st : Nat) : s.HeatKept (s.closeStack h st) := by
  have hcount : ∀ n, s.HeatKept (s.closedCount h n) := fun n => (State.HeatKept.refl s).count (by decide)
  have hclosed : ∀ t : State, t.HeatKept { t with closed := Tab.put false t.closed (h * 12 + 3 * h + st) true } := fun t => .of_eq rfl rfl
  unfold State.closeStack
  exact ((hcount _).trans (.foldl (fun t g => (dropDoors_heatKept t g _ _).trans (dropRing_heatKept ..)) _ _)).trans (hclosed _)

theorem event_heatKept (s : State) (h p : Nat) (q : Ptr) (e : Nat) : s.HeatKept (s.event h p q e) := by
  unfold State.event
  split
  · unfold State.refDone
    dsimp only
    split <;> exact setPc_heatKept ..
  · exact (pushTrace_traced ..).heatKept
  · exact (pushTrace_traced ..).heatKept
  · exact .refl s

/-- SR_EXIT's pointer moves on, or its operation ends. -/
theorem advance_exit_heatKept (s : State) (h p : Nat) {q : Ptr} (hop : q.op = 10) : s.HeatKept (s.advance h p q) := by
  have hevents : ∀ (t : State) (r : Ptr) (l : List Nat), t.HeatKept (t.events h p r l) := fun t r l => .foldl (fun u e => event_heatKept u h p r e) l t
  have hend : ∀ t : State, t.HeatKept (t.endOp h p q) := fun t => by
    simp only [State.endOp, hop]
    exact setPc_heatKept ..
  unfold State.advance State.advanceAt
  split
  · exact .refl s
  · split
    · exact .refl s
    · split
      · exact (setPc_heatKept ..).trans (hevents ..)
      · exact (hevents ..).trans (hend _)

theorem exitSr_heatKept (s : State) (h p : Nat) : s.HeatKept (s.exitSr h p) := by
  unfold State.exitSr State.loadWide
  dsimp only
  split
  · split
    · exact (setPc_heatKept ..).trans (advance_exit_heatKept _ h p rfl)
    · exact .refl s
  · exact .refl s

theorem openStack_heatKept (s : State) (h st : Nat) : s.HeatKept (s.openStack h st) := by
  have hopened : s.HeatKept { s with closed := Tab.put false s.closed (h * 12 + 3 * h + st) false } := .of_eq rfl rfl
  refine hopened.trans (.foldl (fun t p => ?_) _ _)
  dsimp only
  split
  · exact .refl t
  · exact (setPc_heatKept ..).trans (exitSr_heatKept ..)

/-! ## Events, CAP, notices (R55, R283, R287, R288) -/

theorem tierEvents_heatKept (s old : State) (h : Nat) : s.HeatKept (s.tierEvents old h) := by
  refine State.HeatKept.trans (.foldl (fun t k => ?_) [12 + h, 3 * h, 3 * h + 1, 3 * h + 2] s) (.foldl (fun t st => ?_) _ _)
  · dsimp only
    have htrace : t.HeatKept (t.traceHub h 0x09 0 0 [k, (old.src k).tier, (s.src k).tier]) := (pushTrace_traced ..).heatKept
    split
    · exact .refl t
    · split
      · split
        · exact (htrace.flag (by decide)).flag (by decide)
        · exact htrace.flag (by decide)
      · split
        · exact htrace
        · exact htrace.flag (by decide)
  · split
    · exact closeStack_heatKept ..
    · split
      · exact openStack_heatKept ..
      · exact .refl t

theorem hingeRequest_heatKept (s : State) (n : Nat) : s.HeatKept (s.hingeRequest n) := by
  unfold State.hingeRequest
  split
  · exact (State.HeatKept.refl s).wr (by decide)
  · exact (State.HeatKept.refl s).wr (by decide)
  · exact State.HeatKept.wr (t := { s with hinge := { s.hinge with pend := some n } }) (.of_eq rfl rfl) (by decide)

theorem capFollow_heatKept (s : State) : s.HeatKept s.capFollow := by
  have hcap : s.HeatKept (s.wr .SVC_HINGE_STATUS_CAP 0 0 0 s.capNow) := (State.HeatKept.refl s).wr (by decide)
  unfold State.capFollow
  dsimp only
  split
  · exact hcap.trans (hingeRequest_heatKept ..)
  · exact hcap

theorem heatChanged_heatKept (s old : State) : s.HeatKept (s.heatChanged old) := by
  have hcap : s.HeatKept (s.hubs.foldl (fun t h => t.tierEvents old h) s).capFollow :=
    State.HeatKept.trans (.foldl (fun t h => tierEvents_heatKept t old h) _ _) (capFollow_heatKept _)
  unfold State.heatChanged
  dsimp only
  generalize (s.hubs.foldl (fun t h => t.tierEvents old h) s).capFollow = t at hcap
  have hstaged : s.HeatKept (if t.hubs.any fun h => decide (old.hubTier h < 3) && decide (t.hubTier h = 3) then t.abortStaged else t) := by
    split
    · exact hcap.trans (abortStaged_restaged t).heatKept
    · exact hcap
  generalize (if t.hubs.any fun h => decide (old.hubTier h < 3) && decide (t.hubTier h = 3) then t.abortStaged else t) = u at hstaged ⊢
  split
  · exact hstaged.trans (fnEventAll_told ..).heatKept
  · exact hstaged

theorem emitNotice_heatKept (s : State) (x : CollSt) (tier reason : Nat) : s.HeatKept (s.emitNotice x tier reason) := by
  have hsent : ∀ (t : State) (dest : Nat) (back : Bool), t.HeatKept (t.sendNotice x dest tier reason back) := fun t dest back => .of_eq rfl rfl
  unfold State.emitNotice
  split
  · split
    · exact .refl s
    · exact ((hsent s ..).trans (hsent ..)).count (by decide)
  · exact .refl s

theorem stallCheck_heatKept (s old : State) : s.HeatKept (s.stallCheck old) := by
  unfold State.stallCheck
  dsimp only
  split
  · exact .foldl (fun t x => emitNotice_heatKept t x _ _) _ _
  · exact .refl s

theorem shiftThrough_heatKept (s : State) (h st : Nat) (inp : List Byte) : s.HeatKept (s.shiftThrough h st inp) := by
  have hemit : s.HeatKept (s.emit (.shift h st (s.shiftBytes h))) := .of_eq rfl rfl
  unfold State.shiftThrough
  dsimp only
  generalize List.range 512 = bytes
  refine hemit.trans (.foldl (fun t k => ?_) _ _)
  exact .of_eq rfl rfl

theorem portNext_heatKept (s : State) (h st : Nat) (gap : Bool) : s.HeatKept (s.portNext h st gap) := by
  have hown : ∀ x, s.HeatKept (s.setPort h st x) := fun x => .of_eq rfl rfl
  unfold State.portNext
  dsimp only
  split
  · exact hown _
  · split
    · split
      · exact hown _
      · exact hown _
    · split
      · exact hown _
      · split
        · exact (hown _).trans (shiftThrough_heatKept ..)
        · exact hown _

end Sys2Proof.Machine
end

section
/-! SUPPORT. Readings, stale sources, announcements and the throttle (R197, R276 to R279, R283, R285). -/

namespace Sys2Proof.Machine

/-! ## The marks of the refresh rate (R197) -/

theorem testBit_sub_two_pow {n b : Nat} (hn : n.testBit b = true) : (n - 2 ^ b).testBit b = false := by
  have hodd : n / 2 ^ b % 2 = 1 := by simpa [Nat.testBit_eq_decide_div_mod_eq] using hn
  have hpred : (n - 2 ^ b) / 2 ^ b = n / 2 ^ b - 1 := by simpa using Nat.sub_mul_div n (2 ^ b) 1
  rw [Nat.testBit_eq_decide_div_mod_eq, hpred]
  exact decide_eq_false (by omega)

theorem clearBit_testBit (s : State) (f : Fld) (d i j b : Nat) : ((s.clearBit f d i j b).rd f d i j).testBit b = false := by
  rw [State.clearBit, State.rd_wr_self]
  split
  · next hset => exact testBit_sub_two_pow hset
  · next hclear => exact Bool.eq_false_iff.mpr hclear

/-- A stack's bit of a mark takes a value. -/
def State.mark (s : State) (f : Fld) (h st : Nat) (v : Bool) : State := if v then (s.clearBit f h 0 0 st).setBit f h 0 0 st else s.clearBit f h 0 0 st

theorem mark_testBit (s : State) (f : Fld) (h st : Nat) (v : Bool) : ((s.mark f h st v).rd f h 0 0).testBit st = v := by
  cases v with
  | false => exact clearBit_testBit ..
  | true => exact State.setBit_testBit ..

theorem mark_regsOnly (s : State) (f : Fld) (h st : Nat) (v : Bool) : s.RegsOnly (s.mark f h st v) := by
  cases v with
  | false => exact (State.RegsOnly.refl s).wr
  | true => exact (State.RegsOnly.refl s).wr.wr.note

theorem mark_regsBut (s : State) (f : Fld) (h st : Nat) (v : Bool) : s.RegsBut (s.mark f h st v) [f] := by
  have hclear : s.RegsBut (s.clearBit f h 0 0 st) [f] := (State.RegsBut.refl s _).wr List.mem_cons_self
  cases v with
  | false => exact hclear
  | true => exact hclear.setBit List.mem_cons_self

/-- The two marks of a stack, before later dues are placed anew. -/
def State.markRate (s : State) (h st : Nat) (hot stale : Bool) : State := (s.mark .HUB_REF_CFG_HOT h st hot).mark .HUB_REF_CFG_STALE h st stale

theorem markRate_regsOnly (s : State) (h st : Nat) (hot stale : Bool) : s.RegsOnly (s.markRate h st hot stale) := (mark_regsOnly ..).trans (mark_regsOnly ..)

theorem markRate_hot (s : State) (h st : Nat) (hot stale : Bool) : ((s.markRate h st hot stale).rd .HUB_REF_CFG_HOT h 0 0).testBit st = hot := by
  rw [State.markRate, mark_regsBut _ .HUB_REF_CFG_STALE h st stale _ h 0 0 (by decide), mark_testBit]

theorem markRate_stale (s : State) (h st : Nat) (hot stale : Bool) : ((s.markRate h st hot stale).rd .HUB_REF_CFG_STALE h 0 0).testBit st = stale := mark_testBit ..

theorem markRate_regsBut (s : State) (h st : Nat) (hot stale : Bool) : s.RegsBut (s.markRate h st hot stale) [.HUB_REF_CFG_HOT, .HUB_REF_CFG_STALE] :=
  ((mark_regsBut s .HUB_REF_CFG_HOT h st hot).mono (by decide)).trans ((mark_regsBut _ .HUB_REF_CFG_STALE h st stale).mono (by decide))

theorem setRate_heatKept (s : State) (h st : Nat) (hot stale : Bool) : (s.markRate h st hot stale).HeatKept (s.setRate h st hot stale) := by
  have hset : s.setRate h st hot stale = if (s.markRate h st hot stale).doubleRate h st = s.doubleRate h st then s.markRate h st hot stale
      else ((s.pcsOf h).filter fun p => stackOf p == st).foldl (fun t p => t.newRate h p) (s.markRate h st hot stale) := rfl
  rw [hset]
  split
  · exact .refl _
  · exact .foldl (fun t p => setPc_heatKept t h p _) _ _

theorem src_setSrc (s : State) (k n : Nat) (x : ThermSt) : (s.setSrc k x).src n = if k = n then x else s.src n := Tab.get_put ..

/-- A source takes a value, its stack's marks follow, and what the heat brings comes after. -/
theorem setSrc_setRate_reads {s t u : State} {h st k : Nat} {y : ThermSt} {hot stale : Bool} (ht : (s.setSrc k y).RegsOnly t)
    (hu : (t.setRate h st hot stale).HeatKept u) :
    u.src k = y ∧ (u.rd .HUB_REF_CFG_HOT h 0 0).testBit st = hot ∧ (u.rd .HUB_REF_CFG_STALE h 0 0).testBit st = stale := by
  have hkept := (setRate_heatKept t h st hot stale).trans hu
  have hsrc : (t.markRate h st hot stale).src k = y := by
    obtain ⟨R, hR⟩ := ht.trans (markRate_regsOnly t h st hot stale)
    rw [hR]
    exact (src_setSrc ..).trans (if_pos rfl)
  refine ⟨(hkept.src k).trans hsrc, ?_, ?_⟩
  · rw [hkept.2 _ h 0 0 (by decide), markRate_hot]
  · rw [hkept.2 _ h 0 0 (by decide), markRate_stale]

/-! ## TEMPERATURE_READOUT (R276, R277) -/

/-- The first reading of a source is its average. -/
theorem read_avg_first {y : ThermSt} (hfirst : y.at_ = none) (c : Option (List Nat × Nat × Nat)) (x : Int) (now : Nat) : (y.read c x now).avg = x := by
  simp only [ThermSt.read, hfirst]

theorem temperatureReadout_of_free {s : State} {h st : Nat} (hprog : (s.port h st).program = false) (hown : (s.port h st).owner ≤ 1) (hhinge : s.hinge.step = 0)
    (hstack : s.stackIn h st = true) (hhub : s.hubIn h = true) (x : Int) : s.temperatureReadout h st x = (s.readStack h st x).portNext h st false :=
  if_neg (by simp [hprog, hhinge, hstack, hhub, Nat.not_lt.mpr hown])

theorem exec_temperatureReadout {s : State} {h : Hub} {st : StackNo} {x : Int} (hread : s.temperatureReadout h.val st.val x = (s.readStack h.val st.val x).portNext h.val st.val false) :
    ∃ u : State, exec (.temperatureReadout h st x) s = .next u.done ∧
      (u.src (3 * h.val + st.val)).reading = x ∧ (u.src (3 * h.val + st.val)).at_ = some s.now ∧ (u.src (3 * h.val + st.val)).stale = false ∧
      ((s.src (3 * h.val + st.val)).at_ = none → (u.src (3 * h.val + st.val)).avg = x) ∧
      (u.rd .HUB_REF_CFG_HOT h.val 0 0).testBit st.val = (decide (85 < x) || ((s.rd .HUB_REF_CFG_HOT h.val 0 0).testBit st.val && decide (82 < x))) ∧
      (u.rd .HUB_REF_CFG_STALE h.val 0 0).testBit st.val = false ∧ u.mem = s.mem ∧ u.fuse = s.fuse := by
  have hkept := ((heatChanged_heatKept _ s).trans (portNext_heatKept (s.readStack h.val st.val x) h.val st.val false)).trans (stallCheck_heatKept _ s)
  obtain ⟨hsrc, hhot, hstale⟩ := setSrc_setRate_reads (State.RegsOnly.refl _) hkept
  refine ⟨(s.temperatureReadout h.val st.val x).stallCheck s, rfl, ?_, ?_, ?_, fun hfirst => ?_, ?_, ?_, by simp, by simp⟩
  all_goals rw [hread]
  · rw [hsrc]; rfl
  · rw [hsrc]; rfl
  · rw [hsrc]; rfl
  · rw [hsrc]; exact read_avg_first hfirst ..
  · exact hhot
  · exact hstale

/-! ## DIE_READING (R276, R279) -/

/-- A die's sensors out of range are marked. -/
def State.markSensors (s : State) (d : Nat) (bad : List Nat) : State :=
  if d < 4 && !bad.isEmpty then (bad.foldl (fun t n => t.setBit .THM_HUB_SENSOR_FAULT d 0 0 n) s).flag .THM_INT_STATUS_SENSOR d 0 0 else s

theorem badSensor_iff (x : Int) : badSensor x = true ↔ x < -40 ∨ 150 < x := by simp [badSensor]

/-- The highest element of a list that starts with z. -/
theorem foldl_max_of_greatest {z x : Int} {r : List Int} (hx : x ∈ z :: r) (hmax : ∀ y ∈ z :: r, y ≤ x) : r.foldl max z = x := by
  have hsome : (z :: r).max? = some x := List.max?_eq_some_iff.mpr ⟨hx, hmax⟩
  exact Option.some.inj (List.max?_cons'.symm.trans hsome)

section
variable {s : State} {d : Nat} {l : List Int} (hlen : l.length ≤ sensorsOf d)
include hlen

/-- No sensor counts: the source is stale. -/
theorem dieReading_none (hbad : ∀ x ∈ l, x < -40 ∨ 150 < x) :
    ∃ bad, s.dieReading d l = ((s.markSensors d bad).setSrc (12 + d) (s.src (12 + d)).goStale).heatChanged s := by
  have hok : l.filter (fun x => !badSensor x) = [] := List.filter_eq_nil_iff.mpr fun x hx => by simp [(badSensor_iff x).mpr (hbad x hx)]
  exact ⟨_, by simp only [State.dieReading, List.take_of_length_le hlen, hok]; rfl⟩

/-- The highest sensor that counts is read. -/
theorem dieReading_highest {x : Int} (hx : x ∈ l) (hlow : -40 ≤ x) (hhigh : x ≤ 150) (hmax : ∀ y ∈ l, y ≤ x ∨ 150 < y) :
    ∃ bad, s.dieReading d l = ((s.markSensors d bad).setSrc (12 + d) ((s.src (12 + d)).read (s.dieEntries d) x s.now)).heatChanged s := by
  have hmem : x ∈ l.filter fun x => !badSensor x := List.mem_filter.mpr ⟨hx, by simp [badSensor, hlow, hhigh]⟩
  have hgreatest : ∀ y ∈ l.filter fun x => !badSensor x, y ≤ x := by
    intro y hy
    obtain ⟨hyl, hgood⟩ := List.mem_filter.mp hy
    rcases hmax y hyl with hle | hover
    · exact hle
    · exact absurd ((badSensor_iff y).mpr (.inr hover)) (by simpa using hgood)
  unfold State.dieReading
  rw [List.take_of_length_le hlen]
  dsimp only
  cases hok : l.filter fun x => !badSensor x with
  | nil => exact absurd (hok ▸ hmem) (by simp)
  | cons z r =>
    rw [hok] at hmem hgreatest
    dsimp only
    rw [foldl_max_of_greatest hmem hgreatest]
    exact ⟨_, rfl⟩

end

theorem exec_dieReading {s : State} {d : DieNo} {l : List Int} (hlen : l.length ≤ sensorsOf d.val) :
    ∃ u : State, exec (.dieReading d l) s = .next u.done ∧ u.mem = s.mem ∧ u.fuse = s.fuse ∧
      ((∀ x ∈ l, x < -40 ∨ 150 < x) → (u.src (12 + d.val)).stale = true ∧ 2 ≤ (u.src (12 + d.val)).tier ∧ (u.src (12 + d.val)).reading = (s.src (12 + d.val)).reading) ∧
      (∀ x ∈ l, -40 ≤ x → x ≤ 150 → (∀ y ∈ l, y ≤ x ∨ 150 < y) → (u.src (12 + d.val)).reading = x ∧ (u.src (12 + d.val)).at_ = some s.now ∧ (u.src (12 + d.val)).stale = false) := by
  have hsrc : ∀ {bad y}, s.dieReading d.val l = ((s.markSensors d.val bad).setSrc (12 + d.val) y).heatChanged s → ((s.dieReading d.val l).stallCheck s).src (12 + d.val) = y := by
    intro bad y hread
    rw [(stallCheck_heatKept _ s).src, hread, (heatChanged_heatKept _ s).src, src_setSrc, if_pos rfl]
  refine ⟨(s.dieReading d.val l).stallCheck s, rfl, by simp, by simp, fun hbad => ?_, fun x hx hlow hhigh hmax => ?_⟩
  · obtain ⟨bad, hread⟩ := dieReading_none (s := s) hlen hbad
    rw [hsrc hread]
    exact ⟨rfl, Nat.le_max_left .., rfl⟩
  · obtain ⟨bad, hread⟩ := dieReading_highest (s := s) hlen hx hlow hhigh hmax
    rw [hsrc hread]
    exact ⟨rfl, rfl, rfl⟩

/-! ## STALE (R197, R279) -/

/-- Heat that has not changed brings no notice. -/
theorem stallCheck_self (s : State) : s.stallCheck s = s := by
  have hhot : (s.hubs.any fun h => decide (2 ≤ s.hubTier h) && decide (s.hubTier h < s.hubTier h)) = false := by simp
  have hstale : (s.hubs.any fun h => [0, 1, 2].any fun st => s.stackIn h st && (s.src (3 * h + st)).stale && !(s.src (3 * h + st)).stale) = false := by
    simp [Bool.and_assoc]
  unfold State.stallCheck
  dsimp only
  rw [hhot, hstale]
  rfl

section
variable {s : State}

theorem exec_stale_young {h : Hub} {st : StackNo} (hyoung : s.tooOld h.val st.val = false) : exec (.stale h st) s = .next s.done := by
  have hkeep : s.goStale h.val st.val = s := if_neg (by simp [hyoung])
  refine next_done_congr ?_
  rw [hkeep, stallCheck_self]

theorem exec_stale_old {h : Hub} {st : StackNo} (hstack : s.stackIn h.val st.val = true) (hhub : s.hubIn h.val = true) (hold : s.tooOld h.val st.val = true) :
    ∃ u : State, exec (.stale h st) s = .next u.done ∧ (u.src (3 * h.val + st.val)).stale = true ∧
      (u.src (3 * h.val + st.val)).tier = max 2 (s.src (3 * h.val + st.val)).tier ∧ u.rd .THM_INT_STATUS_STALE h.val 0 0 = 1 ∧
      (u.rd .HUB_REF_CFG_STALE h.val 0 0).testBit st.val = true ∧ u.mem = s.mem ∧ u.fuse = s.fuse := by
  have hgo : s.goStale h.val st.val = ((((s.setSrc (3 * h.val + st.val) (s.src (3 * h.val + st.val)).goStale).flag .THM_INT_STATUS_STALE h.val 0 0).setRate h.val st.val
      ((s.rd .HUB_REF_CFG_HOT h.val 0 0).testBit st.val) true).heatChanged s) := if_pos (by rw [hstack, hhub, hold]; rfl)
  have hkept := (heatChanged_heatKept (((s.setSrc (3 * h.val + st.val) (s.src (3 * h.val + st.val)).goStale).flag .THM_INT_STATUS_STALE h.val 0 0).setRate h.val st.val
    ((s.rd .HUB_REF_CFG_HOT h.val 0 0).testBit st.val) true) s).trans (stallCheck_heatKept _ s)
  obtain ⟨hsrc, -, hmark⟩ := setSrc_setRate_reads (State.RegsOnly.refl _).flag hkept
  rw [← hgo] at hsrc hmark hkept
  have hflag : ((s.goStale h.val st.val).stallCheck s).rd .THM_INT_STATUS_STALE h.val 0 0 = 1 := by
    rw [hkept.2 _ h.val 0 0 (by decide), (setRate_heatKept ..).2 _ h.val 0 0 (by decide), markRate_regsBut _ h.val st.val _ _ _ h.val 0 0 (by decide)]
    exact State.rd_wr_self ..
  exact ⟨(s.goStale h.val st.val).stallCheck s, rfl, by rw [hsrc]; rfl, by rw [hsrc]; rfl, hflag, hmark, by simp, by simp⟩

end

/-! ## Announcements and the throttle (R283, R285) -/

theorem exec_closureAnnouncement {s : State} (hi : s.Idle) (d : DieNo) (h : Hub) (st : StackNo) :
    ∃ t : State, exec (.closureAnnouncement d h st) s = .next t ∧ t = { s with closed := t.closed } ∧
      t.knowsClosed d.val h.val st.val = s.knowsClosed h.val h.val st.val ∧
      (∀ e g x, g < 4 → x < 3 → (e, g, x) ≠ (d.val, h.val, st.val) → t.knowsClosed e g x = s.knowsClosed e g x) := by
  have hdone : (s.announce d.val h.val st.val).done = s.announce d.val h.val st.val := done_of_eq hi rfl rfl rfl rfl rfl rfl rfl rfl
  refine ⟨s.announce d.val h.val st.val, congrArg Host.Outcome.next hdone, rfl, (Tab.get_put ..).trans (if_pos rfl), fun e g x hg hx hne => ?_⟩
  refine (Tab.get_put ..).trans (if_neg fun hkey => hne ?_)
  have hh := h.isLt
  have hst := st.isLt
  simp only [Prod.mk.injEq]
  omega

theorem setAksal_done {s : State} (hi : s.Idle) (d : Nat) (x : AksSt) : (s.setAksal d x).done = s.setAksal d x :=
  done_of_eq hi rfl rfl rfl rfl rfl rfl rfl rfl

section
variable {s : State} {d level : Nat}

theorem throttle_of_driven (hin : s.cdieIn d = true) (hl : level = s.throttleOut d) : s.throttle d level =
    if s.throttleHeld d (s.throttleWanted d level) then s.setAksal d { s.aksal d with hubLevel := level }
    else s.setAksal d { s.aksal d with level := s.throttleWanted d level, hubLevel := level, levelAt := s.clk.fclk } :=
  if_pos (by rw [hin, hl]; simp)

theorem throttle_of_not (hnot : s.cdieIn d = false ∨ level ≠ s.throttleOut d) : s.throttle d level = s :=
  if_neg (by rcases hnot with hout | hne <;> simp [*])

end

/-- Settles O48: readings and stale sources write their source and the marks of the refresh rate, which what follows leaves; an announcement and a throttle level are one update each. -/
theorem heatIsReadAndActedOn : Obligations.HeatIsReadAndActedOn := by
  refine ⟨fun s h st x hprog hown hhinge hstack hhub => exec_temperatureReadout (temperatureReadout_of_free hprog hown hhinge hstack hhub x),
    fun s d l hlen => exec_dieReading hlen, fun s h st hstack hhub => ⟨exec_stale_young, exec_stale_old hstack hhub⟩,
    fun s d h st hi => exec_closureAnnouncement hi d h st,
    fun s d l hi => ⟨fun hin hl => ⟨fun hfree => ?_, fun hheld => ?_⟩, fun hnot => ?_⟩⟩
  · exact (next_done_congr ((throttle_of_driven hin hl).trans (if_neg (Bool.eq_false_iff.mp hfree)))).trans (congrArg Host.Outcome.next (setAksal_done hi ..))
  · exact (next_done_congr ((throttle_of_driven hin hl).trans (if_pos hheld))).trans (congrArg Host.Outcome.next (setAksal_done hi ..))
  · exact (next_done_congr (throttle_of_not hnot)).trans (congrArg Host.Outcome.next (done_of_idle hi))

end Sys2Proof.Machine
end

section
/-! SUPPORT. A hinge is asked for, and starts (R208 to R210). -/

namespace Sys2Proof.Machine

/-! ## HINGE_REQUEST (R208) -/

def hingeCtrl : RegAt := { reg := .SVC_HINGE_CTRL, d := 0, i := 0, j := 0 }

theorem hingeCtrl_outOfRange (s : State) (n : Fin 8) : s.outOfRange hingeCtrl .whole (n.val + 2 ^ 8) = true ↔ 4 < n.val := by
  have hn : (n.val + 2 ^ 8) / 2 ^ 0 % 2 ^ 3 = n.val := by omega
  have hrange : s.outOfRange hingeCtrl .whole (n.val + 2 ^ 8) = ((!inRange 0 4 ((n.val + 2 ^ 8) / 2 ^ 0 % 2 ^ 3) || false) || false) := rfl
  rw [hrange, hn]
  simp [inRange]

/-- What stands of hinges once a hinge point has been asked for. -/
def State.hingeAsked (s : State) (n : Nat) : HingeSt :=
  if s.hpEnabled n = true ∧ ¬(s.hinge.step = 0 ∧ n = s.clk.hp) then { s.hinge with pend := some n } else s.hinge

theorem hingeRequest_eq (s : State) (n : Nat) :
    s.hingeRequest n = ({ s with hinge := s.hingeAsked n } : State).hingeError (if s.hpEnabled n then 0 else 1) := by
  unfold State.hingeRequest State.hingeAsked
  cases hon : s.hpEnabled n with
  | false => simp [hingeVerdict_refused hon]
  | true =>
    by_cases hn : s.hinge.step = 0 ∧ n = s.clk.hp
    · rw [hingeVerdict_atOnce hon hn.1 hn.2, if_neg fun h => h.2 hn]
      rfl
    · rw [hingeVerdict_pending hon hn, if_pos ⟨rfl, hn⟩]
      rfl

section
variable {s : State} {n : Fin 8}

theorem exec_hingeRequest_outOfRange (hi : s.Idle) (hn : 4 < n.val) : exec (.hingeRequest n) s = .next (s.accErr (svcAccess 0x3020 4) true 2) := by
  have hwrite : s.writeReg hingeCtrl .whole (n.val + 2 ^ 8) = .inr accRange := if_pos ((hingeCtrl_outOfRange s n).mpr hn)
  have hexec : exec (.hingeRequest n) s = .next (s.settleWrite (svcAccess 0x3020 4) (s.writeReg hingeCtrl .whole (n.val + 2 ^ 8))).done := rfl
  rw [hexec, hwrite]
  exact congrArg Host.Outcome.next ((s.accErr_regsOnly _ true accRange).done hi)

/-- A number in range is kept as the target and asked for. -/
theorem exec_hingeRequest_inRange (hn : n.val ≤ 4) : exec (.hingeRequest n) s = .next ((s.wr .SVC_HINGE_CTRL_TARGET 0 0 0 n.val).hingeRequest n.val).done := by
  have hexec : exec (.hingeRequest n) s = .next (s.settleWrite (svcAccess 0x3020 4) (s.writeReg hingeCtrl .whole (n.val + 2 ^ 8))).done := rfl
  have hgo : (n.val + 2 ^ 8).testBit 8 = true := by rw [Nat.testBit_eq_decide_div_mod_eq]; exact decide_eq_true (by omega)
  have htarget : (n.val + 2 ^ 8) / 2 ^ 0 % 2 ^ 3 = n.val ∧ (n.val + 2 ^ 8) % 8 = n.val := by omega
  have hwrite : s.writeReg hingeCtrl .whole (n.val + 2 ^ 8) = .inl (s.writeHingeCtrl hingeCtrl (n.val + 2 ^ 8)) :=
    if_neg fun hout => absurd ((hingeCtrl_outOfRange s n).mp hout) (Nat.not_lt.mpr hn)
  have hfields : s.setFields hingeCtrl .whole (n.val + 2 ^ 8) = s.wr .SVC_HINGE_CTRL_TARGET 0 0 0 ((n.val + 2 ^ 8) / 2 ^ 0 % 2 ^ 3) := rfl
  rw [hexec, hwrite, State.settleWrite, State.writeHingeCtrl, hfields, htarget.1, htarget.2, hgo]
  rfl

theorem hingeRequest_parts (hi : s.Idle) (hn : n.val ≤ 4) :
    ∃ t : State, exec (.hingeRequest n) s = .next t ∧ t = { s with regs := t.regs, hinge := t.hinge } ∧ t.rd .SVC_HINGE_CTRL_TARGET 0 0 0 = n.val ∧
      s.RegsBut t [.SVC_HINGE_CTRL_TARGET, .SVC_HINGE_STATUS_ERROR] ∧ t.rd .SVC_HINGE_STATUS_ERROR 0 0 0 = (if s.hpEnabled n.val then 0 else 1) ∧
      t.hinge = s.hingeAsked n.val := by
  have hregs : s.RegsBut (s.wr .SVC_HINGE_CTRL_TARGET 0 0 0 n.val) [.SVC_HINGE_CTRL_TARGET, .SVC_HINGE_STATUS_ERROR] := (State.RegsBut.refl s _).wr (by decide)
  have hon : (s.wr .SVC_HINGE_CTRL_TARGET 0 0 0 n.val).hpEnabled n.val = s.hpEnabled n.val := rfl
  rw [exec_hingeRequest_inRange hn, hingeRequest_eq, hon]
  refine ⟨_, congrArg Host.Outcome.next (done_of_eq hi rfl rfl rfl rfl rfl rfl rfl rfl), rfl, ?_, ?_, State.rd_wr_self .., rfl⟩
  · exact (State.rd_wr_fld _ (by decide)).trans (State.rd_wr_self ..)
  · exact fun f d i j hf => ((State.RegsBut.refl _ _).wr (by decide) f d i j hf).trans (hregs f d i j hf)

end

/-! ## HINGE_START (R209, R210) -/

section
variable {s : State} {n : Nat}

/-- With no command in any queue no HINGE command ends. -/
theorem endHinges_of_no_queues (hq : s.queues = []) (l : List QueueId) (st : Status) : s.endHinges l st = s := by
  refine List.foldlRecOn (motive := fun t => t = s) l _ rfl fun t ht q _ => ?_
  have hcmds : (s.queue q).cmds = [] := by rw [State.queue, hq]; rfl
  rw [ht, hcmds]
  rfl

/-- CLAMPED where the cap moves a target (R209). -/
def State.clampMarked (s : State) (n : Nat) : State := if s.clampHp n = n then s else s.flag .SVC_HINGE_STATUS_CLAMPED 0 0 0

theorem clampMarked_regsOnly (s : State) (n : Nat) : s.RegsOnly (s.clampMarked n) := by
  unfold State.clampMarked
  split
  · exact .refl s
  · exact (State.RegsOnly.refl s).flag

theorem clampMarked_regsBut (s : State) (n : Nat) : s.RegsBut (s.clampMarked n) [.SVC_HINGE_STATUS_CLAMPED] := by
  unfold State.clampMarked
  split
  · exact .refl s _
  · exact (State.RegsBut.refl s _).flag List.mem_cons_self

theorem clampMarked_clamped (hne : s.clampHp n ≠ n) : (s.clampMarked n).rd .SVC_HINGE_STATUS_CLAMPED 0 0 0 = 1 := by
  rw [State.clampMarked, if_neg hne]
  exact State.rd_wr_self ..

/-- The pending request is done with. -/
def State.hingeDropped (s : State) (n : Nat) : State := (s.clampMarked n).setHinge fun x => { x with pend := none, waiters := [] }

/-- The hinge's first step begins. -/
def State.hingeBegun (s : State) (n : Nat) : State :=
  (s.clampMarked n).setHinge fun x =>
    { x with pend := none, waiters := [], runners := x.waiters, was := s.clk.hp, target := s.clampHp n, startAt := s.now, step := 1 }

theorem hingeStart_of_not (hpend : s.hinge.pend = some n) (hmay : s.hingeMayStart = false) : s.hingeStart = s := by
  simp only [State.hingeStart, hpend, hmay, Bool.false_eq_true, if_false]

section
variable (hpend : s.hinge.pend = some n) (hmay : s.hingeMayStart = true)
include hpend hmay

theorem hingeStart_not_enabled (hq : s.queues = []) (hoff : s.hpEnabled (s.clampHp n) = false) : s.hingeStart = (s.hingeDropped n).hingeError 1 := by
  have hstart : s.hingeStart = ((s.hingeDropped n).hingeError 1).endHinges s.hinge.waiters .denied := by
    simp only [State.hingeStart, hpend, hmay, if_true, hoff]
    rfl
  obtain ⟨R, hR⟩ := clampMarked_regsOnly s n
  exact hstart.trans (endHinges_of_no_queues (by rw [State.hingeDropped, hR]; exact hq) ..)

theorem hingeStart_present (hq : s.queues = []) (hon : s.hpEnabled (s.clampHp n) = true) (hhere : s.clampHp n = s.clk.hp) :
    s.hingeStart = (s.hingeDropped n).hingeError 0 := by
  have hstart : s.hingeStart = ((s.hingeDropped n).hingeError 0).endHinges s.hinge.waiters .done := by
    simp only [State.hingeStart, hpend, hmay, if_true, hon, Bool.true_eq_false, if_false, if_pos hhere]
    rfl
  obtain ⟨R, hR⟩ := clampMarked_regsOnly s n
  exact hstart.trans (endHinges_of_no_queues (by rw [State.hingeDropped, hR]; exact hq) ..)

theorem hingeStart_begins (hon : s.hpEnabled (s.clampHp n) = true) (haway : s.clampHp n ≠ s.clk.hp) : s.hingeStart = (s.hingeBegun n).hingeRun := by
  simp only [State.hingeStart, hpend, hmay, if_true, hon, Bool.true_eq_false, if_false, if_neg haway]
  rfl

end

theorem hingeDropped_parts (hi : s.Idle) (hstart : s.hingeStart = (s.hingeDropped n).hingeError e) :
    ∃ t : State, exec .hingeStart s = .next t ∧ t.hinge = { s.hinge with pend := none, waiters := [] } ∧ t.rd .SVC_HINGE_STATUS_ERROR 0 0 0 = e ∧
      s.RegsBut t [.SVC_HINGE_STATUS_ERROR, .SVC_HINGE_STATUS_CLAMPED] ∧ t = { s with regs := t.regs, hinge := t.hinge } := by
  have hmarked := (clampMarked_regsBut s n).mono (k := [.SVC_HINGE_STATUS_ERROR, .SVC_HINGE_STATUS_CLAMPED]) (by decide)
  obtain ⟨R, hR⟩ := clampMarked_regsOnly s n
  have hdropped : s.hingeDropped n = { s with regs := R, hinge := { s.hinge with pend := none, waiters := [] } } := by rw [State.hingeDropped, hR]; rfl
  refine ⟨(s.hingeDropped n).hingeError e, (next_done_congr hstart).trans (congrArg Host.Outcome.next ?_), ?_, State.rd_wr_self .., ?_, ?_⟩
  · rw [hdropped]
    exact done_of_eq hi rfl rfl rfl rfl rfl rfl rfl rfl
  · rw [hdropped]; rfl
  · exact State.RegsBut.wr (t := s.hingeDropped n) hmarked (by decide)
  · rw [hdropped]; rfl

/-! ## The steps that are complete at once write no register (R210) -/

theorem setPc_regsBut (s : State) (h p : Nat) (x : PcSt) (l : List Fld) : s.RegsBut (s.setPc h p x) l := fun _ _ _ _ _ => rfl

theorem enterSr_regsBut (s : State) (h p : Nat) (auto : Bool) (l : List Fld) : s.RegsBut (s.enterSr h p auto) l := by
  unfold State.enterSr
  dsimp only
  split
  · exact setPc_regsBut s h p _ l
  · exact .refl s l

theorem hingeEnter_regsBut (s : State) (h p : Nat) (l : List Fld) : s.RegsBut (s.hingeEnter h p) l := by
  unfold State.hingeEnter
  dsimp only
  split
  · exact (setPc_regsBut s h p _ l).trans (enterSr_regsBut _ h p false l)
  · exact enterSr_regsBut s h p false l

theorem setHinge_regsBut (s : State) (f : HingeSt → HingeSt) (l : List Fld) : s.RegsBut (s.setHinge f) l := fun _ _ _ _ _ => rfl

theorem hingeProgress_regsBut (s : State) (l : List Fld) : s.RegsBut s.hingeProgress l := by
  have hentered : ∀ xs : List (Nat × Nat), s.RegsBut (xs.foldl (fun t q => t.hingeEnter q.1 q.2) s) l := fun xs =>
    List.foldlRecOn (motive := fun t => s.RegsBut t l) xs _ (.refl s l) fun t ht q _ => ht.trans (hingeEnter_regsBut t q.1 q.2 l)
  unfold State.hingeProgress
  split
  · split
    · exact setHinge_regsBut s _ l
    · exact .refl s l
  · split
    · exact (hentered s.allPcs).trans (setHinge_regsBut _ _ l)
    · exact .refl s l
  · split
    · exact setHinge_regsBut s _ l
    · exact .refl s l
  · split
    · exact setHinge_regsBut { s with clk := { s.clk with run := false } } _ l
    · exact .refl s l
  · exact .refl s l

theorem hingeRun_regsBut (s : State) (l : List Fld) : s.RegsBut s.hingeRun l :=
  (((hingeProgress_regsBut s l).trans (hingeProgress_regsBut _ l)).trans (hingeProgress_regsBut _ l)).trans (hingeProgress_regsBut _ l)

/-- While a flit is on the ring, step 1 goes on. -/
theorem hingeProgress_ring_busy (hstep : s.hinge.step = 1) (hring : s.ringClear = false) : s.hingeProgress = s := by
  simp only [State.hingeProgress, hstep, hring, Bool.false_eq_true, if_false]

theorem hingeRun_ring_busy (hstep : s.hinge.step = 1) (hring : s.ringClear = false) : s.hingeRun = s := by
  simp only [State.hingeRun, hingeProgress_ring_busy hstep hring]

theorem hingeBegun_parts (hi : s.Idle) (hstart : s.hingeStart = (s.hingeBegun n).hingeRun) (hring : s.ringClear = false) :
    ∃ t : State, exec .hingeStart s = .next t ∧
      t.hinge = { s.hinge with pend := none, waiters := [], runners := s.hinge.waiters, was := s.clk.hp, target := s.clampHp n, startAt := s.now, step := 1 } ∧
      s.RegsBut t [.SVC_HINGE_STATUS_CLAMPED] ∧ t = { s with regs := t.regs, hinge := t.hinge } := by
  obtain ⟨R, hR⟩ := clampMarked_regsOnly s n
  have hbegun : s.hingeBegun n = { s with
      regs := R, hinge := { s.hinge with pend := none, waiters := [], runners := s.hinge.waiters, was := s.clk.hp, target := s.clampHp n, startAt := s.now, step := 1 } } := by
    rw [State.hingeBegun, hR]; rfl
  have hrun : s.hingeStart = s.hingeBegun n := hstart.trans (hingeRun_ring_busy (by rw [hbegun]) (by rw [hbegun]; exact hring))
  refine ⟨s.hingeBegun n, (next_done_congr hrun).trans (congrArg Host.Outcome.next ?_), ?_, clampMarked_regsBut s n, ?_⟩
  · rw [hbegun]
    exact done_of_eq hi rfl rfl rfl rfl rfl rfl rfl rfl
  · rw [hbegun]
  · rw [hbegun]

/-- Whatever becomes of a request whose target the cap moves, CLAMPED tells it. -/
theorem hingeStart_clamped (hi : s.Idle) (hpend : s.hinge.pend = some n) (hmay : s.hingeMayStart = true) (hne : s.clampHp n ≠ n) :
    s.hingeStart.rd .SVC_HINGE_STATUS_CLAMPED 0 0 0 = 1 := by
  obtain ⟨-, hq, -⟩ := hi
  have hmark := clampMarked_clamped hne
  have hended : ∀ e, ((s.hingeDropped n).hingeError e).rd .SVC_HINGE_STATUS_CLAMPED 0 0 0 = 1 := fun e =>
    ((s.hingeDropped n).rd_wr_fld (by decide)).trans hmark
  cases hon : s.hpEnabled (s.clampHp n) with
  | false => rw [hingeStart_not_enabled hpend hmay hq hon, hended]
  | true =>
    by_cases hhere : s.clampHp n = s.clk.hp
    · rw [hingeStart_present hpend hmay hq hon hhere, hended]
    · rw [hingeStart_begins hpend hmay hon hhere]
      exact (hingeRun_regsBut (s.hingeBegun n) [] _ 0 0 0 (by decide)).trans hmark

end

end Sys2Proof.Machine
end

section
/-! SUPPORT. SWITCH_TICK: clocks and pseudo-channels at the new hinge point (R210 to R213). -/

namespace Sys2Proof.Machine

/-! ## What SR_EXIT leaves of a pseudo-channel (R196) -/

/-- The hinge stands, and every pseudo-channel keeps its timing set and its history. -/
def State.TimingKept (s t : State) : Prop :=
  t.hinge = s.hinge ∧ ∀ g q, (t.pc g q).tset = (s.pc g q).tset ∧ (t.pc g q).hist = (s.pc g q).hist

theorem State.TimingKept.refl (s : State) : s.TimingKept s := ⟨rfl, fun _ _ => ⟨rfl, rfl⟩⟩

theorem State.TimingKept.trans {s t u : State} (hst : s.TimingKept t) (htu : t.TimingKept u) : s.TimingKept u :=
  ⟨htu.1.trans hst.1, fun g q => ⟨(htu.2 g q).1.trans (hst.2 g q).1, (htu.2 g q).2.trans (hst.2 g q).2⟩⟩

theorem State.Traced.timingKept {s t : State} (h : s.Traced t) : s.TimingKept t := by
  rw [h.eq]
  exact .refl _

theorem setPc_timingKept {s : State} {h p : Nat} {x : PcSt} (hset : x.tset = (s.pc h p).tset) (hhist : x.hist = (s.pc h p).hist) : s.TimingKept (s.setPc h p x) := by
  refine ⟨rfl, fun g q => ?_⟩
  rw [pc_setPc]
  split
  · next hkey =>
    have hpc : s.pc g q = s.pc h p := congrArg (Tab.get PcSt.reset s.pcs) hkey.symm
    rw [hpc]
    exact ⟨hset, hhist⟩
  · exact ⟨rfl, rfl⟩

theorem event_timingKept (s : State) (h p : Nat) (q : Ptr) (e : Nat) : s.TimingKept (s.event h p q e) := by
  unfold State.event
  split
  · unfold State.refDone
    dsimp only
    split <;> exact setPc_timingKept rfl rfl
  · exact (pushTrace_traced ..).timingKept
  · exact (pushTrace_traced ..).timingKept
  · exact .refl s

theorem events_timingKept (s : State) (h p : Nat) (q : Ptr) (l : List Nat) : s.TimingKept (s.events h p q l) :=
  List.foldlRecOn l _ (.refl s) fun t ht e _ => ht.trans (event_timingKept t h p q e)

theorem setPtr_timing (x : PcSt) (q : Ptr) : (x.setPtr q).tset = x.tset ∧ (x.setPtr q).hist = x.hist := by
  unfold PcSt.setPtr
  split <;> exact ⟨rfl, rfl⟩

/-- The end of SR_EXIT (operation 10) leaves the timing set and the history. -/
theorem endOp_exit_timingKept (s : State) (h p : Nat) {q : Ptr} (hop : q.op = 10) : s.TimingKept (s.endOp h p q) := by
  simp only [State.endOp, hop]
  exact setPc_timingKept rfl rfl

theorem advance_exit_timingKept (s : State) (h p : Nat) {q : Ptr} (hop : q.op = 10) : s.TimingKept (s.advance h p q) := by
  unfold State.advance State.advanceAt
  split
  · exact .refl s
  · split
    · exact .refl s
    · split
      · next q' _ _ => exact (setPc_timingKept (setPtr_timing _ q').1 (setPtr_timing _ q').2).trans (events_timingKept ..)
      · exact (events_timingKept ..).trans (endOp_exit_timingKept _ h p hop)

theorem exitSr_timingKept (s : State) (h p : Nat) : s.TimingKept (s.exitSr h p) := by
  unfold State.exitSr State.loadWide
  dsimp only
  split
  · split
    · refine State.TimingKept.trans ?_ (advance_exit_timingKept _ h p rfl)
      exact setPc_timingKept rfl rfl
    · exact .refl s
  · exact .refl s

/-! ## Every pseudo-channel takes the new timing set (R211) -/

/-- A pseudo-channel runs by timing set n and has issued nothing under it. -/
def State.PcOnSet (s : State) (n h p : Nat) : Prop := (s.pc h p).tset = n ∧ (s.pc h p).hist = []

theorem State.TimingKept.onSet {s t : State} (hst : s.TimingKept t) {n h p : Nat} (hs : s.PcOnSet n h p) : t.PcOnSet n h p :=
  ⟨(hst.2 h p).1.trans hs.1, (hst.2 h p).2.trans hs.2⟩

theorem switchPc_takes (s : State) (h p : Nat) :
    ∃ y : PcSt, y.tset = s.hinge.target ∧ y.hist = [] ∧ ((s.useTrims h p s.hinge.target).setPc h p y).TimingKept (s.switchPc h p) := by
  unfold State.switchPc
  dsimp only
  split
  · exact ⟨_, rfl, rfl, .refl _⟩
  · exact ⟨_, rfl, rfl, exitSr_timingKept ..⟩

theorem switchPc_hinge (s : State) (h p : Nat) : (s.switchPc h p).hinge = s.hinge := by
  obtain ⟨y, -, -, hkept⟩ := switchPc_takes s h p
  exact hkept.1

/-- The pseudo-channel itself is on the new set, and one that is stays so. -/
theorem switchPc_onSet {s : State} {h p g q : Nat} (hq : (h, p) = (g, q) ∨ s.PcOnSet s.hinge.target g q) : (s.switchPc h p).PcOnSet s.hinge.target g q := by
  obtain ⟨y, hset, hhist, hkept⟩ := switchPc_takes s h p
  refine hkept.onSet ?_
  unfold State.PcOnSet
  rw [pc_setPc]
  split
  · exact ⟨hset, hhist⟩
  · next hkey =>
    rcases hq with heq | hon
    · exact absurd (by injection heq with hh hp; rw [hh, hp]) hkey
    · exact hon

theorem foldl_switchPc_onSet (l : List (Nat × Nat)) (s : State) (q : Nat × Nat) (hq : q ∈ l ∨ s.PcOnSet s.hinge.target q.1 q.2) :
    (l.foldl (fun v x => v.switchPc x.1 x.2) s).PcOnSet s.hinge.target q.1 q.2 := by
  induction l generalizing s with
  | nil => exact hq.resolve_left List.not_mem_nil
  | cons x l ih =>
    have hhinge := switchPc_hinge s x.1 x.2
    rw [← hhinge]
    refine ih (s.switchPc x.1 x.2) ?_
    rw [hhinge]
    rcases hq with hmem | hon
    · rcases List.mem_cons.mp hmem with rfl | hlater
      · exact .inr (switchPc_onSet (.inl rfl))
      · exact .inl hlater
    · exact .inr (switchPc_onSet (.inr hon))

/-! ## The tick itself (R210, R212) -/

/-- Clocks run at the new hinge point. -/
def State.reclocked (s : State) : State := { s with clk := { s.clk with hp := s.hinge.target, run := true, kPhase := 0, fPhase := 0, tPhase := 0 } }

def State.switchPcs (s : State) : State := s.allPcs.foldl (fun v q => v.switchPc q.1 q.2) s.reclocked

theorem switchPcs_hinge (s : State) : s.switchPcs.hinge = s.hinge :=
  List.foldlRecOn (motive := fun t => t.hinge = s.hinge) s.allPcs _ (b := s.reclocked) rfl fun t ht q _ => (switchPc_hinge t q.1 q.2).trans ht

theorem switchPcs_clk (s : State) : s.switchPcs.clk = s.reclocked.clk := foldl_clk _ _ _ fun q t => State.switchPc_clk t q.1 q.2

/-- Nothing but the slices of links differs. -/
def State.SlicesOnly (s t : State) : Prop := ∃ S, t = { s with slices := S }

theorem State.SlicesOnly.trans {s t u : State} (hst : s.SlicesOnly t) (htu : t.SlicesOnly u) : s.SlicesOnly u := by
  obtain ⟨S, rfl⟩ := hst
  obtain ⟨S', rfl⟩ := htu
  exact ⟨S', rfl⟩

theorem State.SlicesOnly.foldl {α : Type} {F : State → α → State} (hF : ∀ (t : State) (x : α), t.SlicesOnly (F t x)) (xs : List α) (s : State) :
    s.SlicesOnly (xs.foldl F s) :=
  List.foldlRecOn (motive := fun t => s.SlicesOnly t) xs F ⟨s.slices, rfl⟩ fun t ht x _ => ht.trans (hF t x)

theorem freshSlices_slicesOnly (s : State) (d : Nat) : s.SlicesOnly (s.freshSlices d) :=
  State.SlicesOnly.trans (.foldl (fun _ _ => ⟨_, rfl⟩) _ _) (.foldl (fun _ _ => ⟨_, rfl⟩) _ _)

/-- The phase step of the links (R404). -/
theorem phaseSteps_slicesOnly (s : State) : s.SlicesOnly s.phaseSteps := by
  refine .foldl (fun t d => ?_) _ _
  split
  · exact freshSlices_slicesOnly t d
  · exact ⟨t.slices, rfl⟩

section
variable {s : State} {t0 : Nat} (hat : s.hinge.switchAt = some t0) (hstep : s.hinge.step = 6)
include hat hstep

theorem switchTick_early (hearly : s.now < t0) : s.switchTick = s := by
  simp only [State.switchTick, hat, hstep, true_and, if_neg (Nat.not_le.mpr hearly)]

theorem switchTick_due (hdue : t0 ≤ s.now) : s.switchTick = s.switchPcs.setHinge fun x => { x with step := 8, switchAt := some s.now } := by
  simp only [State.switchTick, hat, hstep, true_and, if_pos hdue]
  rfl

theorem switchTick_hinge (hdue : t0 ≤ s.now) : s.switchTick.hinge = { s.hinge with step := 8, switchAt := some s.now } := by
  rw [switchTick_due hat hstep hdue, ← switchPcs_hinge s]
  rfl

theorem exec_switchTick_early (hearly : s.now < t0) : exec .switchTick s = .next s.done := by
  refine next_done_congr ?_
  rw [switchTick_early hat hstep hearly]
  exact if_neg fun h => absurd (hstep.symm.trans h.2) (by decide)

theorem exec_switchTick_due (hdue : t0 ≤ s.now) : ∃ u : State, exec .switchTick s = .next u.done ∧
    u.clk = { s.clk with hp := s.hinge.target, run := true, kPhase := 0, fPhase := 0, tPhase := 0 } ∧
    u.hinge.step = 8 ∧ u.hinge.target = s.hinge.target ∧ u.hinge.startAt = s.hinge.startAt ∧
    (∀ q ∈ s.allPcs, (u.pc q.1 q.2).tset = s.hinge.target ∧ (u.pc q.1 q.2).hist = []) ∧ u.mem = s.mem ∧ u.fuse = s.fuse := by
  have hhinge := switchTick_hinge hat hstep hdue
  have hstep8 : s.switchTick.hinge.step = 8 := by rw [hhinge]
  have htarget : s.switchTick.hinge.target = s.hinge.target := by rw [hhinge]
  have hstart : s.switchTick.hinge.startAt = s.hinge.startAt := by rw [hhinge]
  have hclk : s.switchTick.clk = s.reclocked.clk := by
    rw [switchTick_due hat hstep hdue]
    exact switchPcs_clk s
  have hpcs : ∀ q ∈ s.allPcs, s.switchTick.PcOnSet s.hinge.target q.1 q.2 := fun q hq => by
    rw [switchTick_due hat hstep hdue]
    exact foldl_switchPc_onSet s.allPcs s.reclocked q (.inl hq)
  have hphase : exec .switchTick s = .next s.switchTick.phaseSteps.done := next_done_congr (if_pos ⟨hstep, hstep8⟩)
  obtain ⟨S, hS⟩ := phaseSteps_slicesOnly s.switchTick
  rw [hS] at hphase
  exact ⟨_, hphase, hclk, hstep8, htarget, hstart, hpcs, s.switchTick_mem, s.switchTick_fuse⟩

end

end Sys2Proof.Machine
end

section
/-! SUPPORT. HINGE_RELEASE: step 9 (R210, R213 to R216). -/

namespace Sys2Proof.Machine

/-! ## What the pauses, the records and the notices of a release leave -/

/-- Fields that the end of a hinge writes besides those of the hinge. -/
def releaseFlds : List Fld :=
  .PC_RETRAIN_STATUS_COUNT :: .PC_RETRAIN_STATUS_LAST_FAIL :: .HUB_INT_STATUS_PC_HALT :: (counterFlds ++ logFlds ++ fnEventFlds)

/-- The hinge stands, and of the registers only those fields differ. -/
def State.HingeKept (s t : State) : Prop := t.hinge = s.hinge ∧ s.RegsBut t releaseFlds

theorem State.HingeKept.refl (s : State) : s.HingeKept s := ⟨rfl, .refl s _⟩

theorem State.HingeKept.trans {s t u : State} (h : s.HingeKept t) (g : t.HingeKept u) : s.HingeKept u := ⟨g.1.trans h.1, h.2.trans g.2⟩

theorem State.HingeKept.of_eq {s t : State} (hh : t.hinge = s.hinge) (hr : t.regs = s.regs) : s.HingeKept t :=
  ⟨hh, fun f d i j _ => by rw [State.rd, hr, State.rd]⟩

theorem State.HingeKept.foldl {α : Type} {F : State → α → State} (hF : ∀ (t : State) (x : α), t.HingeKept (F t x)) (xs : List α) (s : State) :
    s.HingeKept (xs.foldl F s) :=
  List.foldlRecOn _ _ (.refl s) fun t ht x _ => ht.trans (hF t x)

theorem State.RegsOnly.hingeKept {s t : State} (h : s.RegsOnly t) (hr : s.RegsBut t releaseFlds) : s.HingeKept t := by
  obtain ⟨R, rfl⟩ := h
  exact ⟨rfl, hr⟩

theorem State.Traced.hingeKept {s t : State} (h : s.Traced t) : s.HingeKept t := by
  obtain ⟨⟨R, T, rfl⟩, hr⟩ := h
  exact ⟨rfl, hr.mono (by decide)⟩

theorem State.Told.hingeKept {s t : State} (h : s.Told t) : s.HingeKept t := by
  obtain ⟨⟨R, M, O, rfl⟩, hr⟩ := h
  exact ⟨rfl, hr.mono (by decide)⟩

theorem setPc_hingeKept (s : State) (h p : Nat) (x : PcSt) : s.HingeKept (s.setPc h p x) := .of_eq rfl rfl

theorem logEvent_hingeKept (s : State) (h : Nat) (ev : LogEnt) : s.HingeKept (s.logEvent h ev) := by
  have hregs := (logEvent_regsBut s h ev).mono (k := releaseFlds) (by decide)
  obtain ⟨R, L, V, T, hnoted⟩ := logEvent_eccNoted s h ev
  exact ⟨by rw [hnoted], hregs⟩

/-! ## The pauses (R213, R235, R236) -/

theorem moveTrims_hingeKept (s : State) (h p : Nat) (moves : List LaneMove) : s.HingeKept (s.moveTrims h p moves) := by
  refine State.HingeKept.trans (.foldl (fun t lane => ?_) (List.range 36) s) (.of_eq rfl rfl)
  split
  · exact .of_eq rfl rfl
  · exact .refl t

theorem pauseRun_hingeKept (s : State) (h p : Nat) (moves : List LaneMove) (err : Bool) : s.HingeKept (s.pauseRun h p moves err).1 := by
  have htallyRegs := (tally_regsBut (s.moveTrims h p moves) h 0x0C (some p) [] none 1).mono (k := releaseFlds) (by decide)
  have htally := (State.tally_regsOnly (s.moveTrims h p moves) h 0x0C (some p) [] none 1).hingeKept htallyRegs
  exact ((moveTrims_hingeKept s h p moves).trans htally).trans ((State.RegsOnly.refl _).count.hingeKept ((State.RegsBut.refl _ _).count (by decide)))

theorem pauseFailed_hingeKept (s : State) (h p : Nat) : s.HingeKept (s.pauseFailed h p) :=
  State.HingeKept.trans ((State.RegsOnly.refl s).flag.hingeKept ((State.RegsBut.refl s _).flag (by decide))) (logEvent_hingeKept ..)

theorem haltPc_hingeKept (s : State) (h p : Nat) : s.HingeKept (s.haltPc h p) :=
  (setPc_hingeKept s h p _).trans ((State.RegsOnly.refl _).flag.hingeKept ((State.RegsBut.refl _ _).flag (by decide)))

theorem pauseResult_hingeKept (s : State) (h p start : Nat) (moves : List LaneMove) (err atOnce : Bool) :
    s.HingeKept (s.pauseResult h p start moves err atOnce) := by
  have hrun := pauseRun_hingeKept s h p moves err
  unfold State.pauseResult
  dsimp only
  split
  · split
    · exact ((hrun.trans (setPc_hingeKept ..)).trans (pauseFailed_hingeKept ..)).trans (haltPc_hingeKept ..)
    · exact (hrun.trans (setPc_hingeKept ..)).trans (pauseFailed_hingeKept ..)
  · exact hrun.trans (setPc_hingeKept ..)

theorem hingePause_hingeKept (s : State) (h p : Nat) (l : List PauseRes) : s.HingeKept (s.hingePause h p l) := by
  unfold State.hingePause
  split
  · exact .refl s
  · exact pauseResult_hingeKept ..

/-! ## The release -/

/-- The pauses of step 8 are judged, and cycle timers go on. -/
def State.pausesOver (s : State) (pauses : List PauseRes) : State :=
  (s.allPcs.foldl (fun t q => t.hingePause q.1 q.2 pauses) s).shiftTimers (s.cyc - s.hinge.holdFrom)

theorem pausesOver_hingeKept (s : State) (pauses : List PauseRes) : s.HingeKept (s.pausesOver pauses) := by
  have hpaused : s.HingeKept (s.allPcs.foldl (fun t q => t.hingePause q.1 q.2 pauses) s) :=
    List.foldlRecOn (motive := fun t => s.HingeKept t) s.allPcs _ (.refl s) fun t ht q _ => ht.trans (hingePause_hingeKept t q.1 q.2 pauses)
  exact hpaused.trans (.of_eq rfl rfl)

/-- Step 9 of a hinge at a tick, n ticks after its start: its state, its count, its length, its end. -/
def State.hingeOver (s : State) (now n : Nat) : State :=
  (((s.setHinge fun x => { x with step := 0, doneAt := some now, runners := [], switchAt := none }).count .SVC_HINGE_STATUS_COUNT top16 0 0 0 1).wr
    .SVC_HINGE_TIME_LAST_NS 0 0 0 (Nat.min 1048575 n)).hingeError 0

theorem hingeOver_rds (s : State) (now n : Nat) : (s.hingeOver now n).rd .SVC_HINGE_STATUS_COUNT 0 0 0 = min 65535 (s.rd .SVC_HINGE_STATUS_COUNT 0 0 0 + 1) ∧
    (s.hingeOver now n).rd .SVC_HINGE_TIME_LAST_NS 0 0 0 = min 1048575 n ∧ (s.hingeOver now n).rd .SVC_HINGE_STATUS_ERROR 0 0 0 = 0 := by
  refine ⟨?_, (State.rd_wr_fld _ (by decide)).trans (State.rd_wr_self ..), State.rd_wr_self ..⟩
  exact (State.rd_wr_fld _ (by decide)).trans ((State.rd_wr_fld _ (by decide)).trans (count_rd ..))

/-- The records and the event of a hinge's end (R222, R384). -/
def State.hingeTold (s : State) (payload : List Nat) : State := (s.hubs.foldl (fun t h => t.traceHub h 0x06 0 0 payload) s).fnEventAll .hinge

theorem hingeTold_hingeKept (s : State) (payload : List Nat) : s.HingeKept (s.hingeTold payload) :=
  State.HingeKept.trans (.foldl (fun _ _ => (pushTrace_traced ..).hingeKept) _ _) (fnEventAll_told ..).hingeKept

section
variable {s : State} (hstep : s.hinge.step = 8) (hexited : ∀ q ∈ s.allPcs, s.exitedPc q.1 q.2 = true) (hrunners : s.hinge.runners = [])
  (hpend : s.hinge.pend = none) (pauses : List PauseRes)
include hstep hexited hrunners hpend

/-- With no HINGE command to end and no request pending, a release is its pauses, step 9, and what tells of it. -/
theorem hingeRelease_of_exited : s.hingeRelease pauses =
    (((s.pausesOver pauses).hingeOver s.now (s.now - s.hinge.startAt)).hingeTold [s.hinge.was, s.clk.hp, s.now - s.hinge.startAt, 0]).moveTicks := by
  have hnone : (((s.pausesOver pauses).hingeOver s.now (s.now - s.hinge.startAt)).hingeTold [s.hinge.was, s.clk.hp, s.now - s.hinge.startAt, 0]).hinge.pend ≠
      some s.clk.hp := by
    rw [(hingeTold_hingeKept ..).1]
    exact fun h => absurd (((congrArg HingeSt.pend (pausesOver_hingeKept s pauses).1).trans hpend).symm.trans h) (by simp)
  unfold State.hingeRelease
  rw [if_pos ⟨hstep, List.all_eq_true.mpr hexited⟩, hrunners]
  exact congrArg State.moveTicks (if_neg hnone)

theorem hingeRelease_parts : (s.hingeRelease pauses).hinge.step = 0 ∧ (s.hingeRelease pauses).hinge.doneAt = some s.now ∧
    (s.hingeRelease pauses).hinge.pwrTo = s.hinge.pwrTo ∧
    (s.hingeRelease pauses).rd .SVC_HINGE_STATUS_COUNT 0 0 0 = min 65535 (s.rd .SVC_HINGE_STATUS_COUNT 0 0 0 + 1) ∧
    (s.hingeRelease pauses).rd .SVC_HINGE_TIME_LAST_NS 0 0 0 = min 1048575 (s.now - s.hinge.startAt) ∧
    (s.hingeRelease pauses).rd .SVC_HINGE_STATUS_ERROR 0 0 0 = 0 := by
  obtain ⟨hpaused, hpausedRegs⟩ := pausesOver_hingeKept s pauses
  obtain ⟨htold, htoldRegs⟩ := hingeTold_hingeKept ((s.pausesOver pauses).hingeOver s.now (s.now - s.hinge.startAt)) [s.hinge.was, s.clk.hp, s.now - s.hinge.startAt, 0]
  obtain ⟨hcount, hlast, herror⟩ := hingeOver_rds (s.pausesOver pauses) s.now (s.now - s.hinge.startAt)
  rw [hpausedRegs _ 0 0 0 (by decide)] at hcount
  rw [hingeRelease_of_exited hstep hexited hrunners hpend]
  refine ⟨congrArg HingeSt.step htold, congrArg HingeSt.doneAt htold, ?_, ?_, ?_, ?_⟩
  · have hover : ((s.pausesOver pauses).hingeOver s.now (s.now - s.hinge.startAt)).hinge.pwrTo = (s.pausesOver pauses).hinge.pwrTo := rfl
    exact (congrArg HingeSt.pwrTo htold).trans (hover.trans (congrArg HingeSt.pwrTo hpaused))
  · exact (htoldRegs _ 0 0 0 (by decide)).trans hcount
  · exact (htoldRegs _ 0 0 0 (by decide)).trans hlast
  · exact (htoldRegs _ 0 0 0 (by decide)).trans herror

end

/-- Where no change of power state goes on, nothing of it does. -/
theorem pwrProgress_of_none {s : State} (h : s.hinge.pwrTo = none) : s.pwrProgress = s := by simp only [State.pwrProgress, h]

/-- Settles O45: a request and its start are one update each of the hinge and its status; the switch puts every pseudo-channel on the new set, and what the release writes besides leaves the hinge. -/
theorem hingesRunTheirSteps : Obligations.HingesRunTheirSteps := by
  refine ⟨fun s n hi => ⟨exec_hingeRequest_outOfRange hi, fun hn => ?_⟩, fun s n hi hpend => ?_,
    fun s t0 hat hstep => ⟨exec_switchTick_early hat hstep, exec_switchTick_due hat hstep⟩,
    fun s moves failing hstep hexited hrunners _ hpend hpwr => ?_⟩
  · obtain ⟨t, ht, hshape, htarget, hregs, herror, hhinge⟩ := hingeRequest_parts hi hn
    refine ⟨t, ht, hshape, htarget, hregs, fun hoff => ?_, fun hon => ?_⟩
    · exact ⟨by rw [herror, hoff]; rfl, by rw [hhinge, State.hingeAsked, if_neg (by simp [hoff])]⟩
    · refine ⟨by rw [herror, hon]; rfl, ?_⟩
      rw [hhinge, State.hingeAsked]
      by_cases hn : s.hinge.step = 0 ∧ n.val = s.clk.hp <;> simp [hon, hn]
  · refine ⟨fun hmay => ?_, fun hmay hne => ⟨s.hingeStart, rfl, hingeStart_clamped hi hpend hmay hne⟩,
      fun hmay hoff => hingeDropped_parts hi (hingeStart_not_enabled hpend hmay hi.2.1 hoff),
      fun hmay hon hhere => hingeDropped_parts hi (hingeStart_present hpend hmay hi.2.1 hon hhere),
      fun hmay hon haway hring => hingeBegun_parts hi (hingeStart_begins hpend hmay hon haway) hring⟩
    exact (next_done_congr (hingeStart_of_not hpend hmay)).trans (congrArg Host.Outcome.next (done_of_idle hi))
  · obtain ⟨hstep0, hdone, hto, hcount, hlast, herror⟩ := hingeRelease_parts hstep hexited hrunners hpend (pauseResults moves failing)
    refine ⟨s.hingeRelease (pauseResults moves failing), next_done_congr ?_, hstep0, hdone, hcount, hlast, herror, State.hingeRelease_clk .., State.hingeRelease_mem ..,
      State.hingeRelease_fuse ..⟩
    exact (if_pos ⟨hstep, hstep0⟩).trans (pwrProgress_of_none (hto.trans hpwr))

end Sys2Proof.Machine
end

section
/-! SUPPORT. A cluster is gated and wakes (R217, R218). -/

namespace Sys2Proof.Machine

theorem cluster_setCluster (s : State) (d k g j : Nat) (x : ClusterSt) : (s.setCluster d k x).cluster g j = if 100 * d + k = 100 * g + j then x else s.cluster g j :=
  Tab.get_put ..

theorem cluster_setCluster_self (s : State) (d k : Nat) (x : ClusterSt) : (s.setCluster d k x).cluster d k = x := (cluster_setCluster ..).trans (if_pos rfl)

/-- Nothing but cluster k of die d and the trace of its die differs. -/
def State.ClusterOnly (s t : State) (d k : Nat) : Prop :=
  (∃ R C T, t = { s with regs := R, clusters := C, tracers := T }) ∧ s.RegsBut t [.TRC_STATUS_LOST] ∧
  ∀ g j, 100 * d + k ≠ 100 * g + j → t.cluster g j = s.cluster g j

section
variable {s t u : State} {d k : Nat}

theorem State.ClusterOnly.refl (s : State) (d k : Nat) : s.ClusterOnly s d k := ⟨⟨s.regs, s.clusters, s.tracers, rfl⟩, .refl s _, fun _ _ _ => rfl⟩

theorem State.ClusterOnly.trans (hst : s.ClusterOnly t d k) (htu : t.ClusterOnly u d k) : s.ClusterOnly u d k := by
  obtain ⟨⟨R, C, T, rfl⟩, hregs, hothers⟩ := hst
  obtain ⟨⟨R', C', T', rfl⟩, hregs', hothers'⟩ := htu
  exact ⟨⟨R', C', T', rfl⟩, hregs.trans hregs', fun g j hne => (hothers' g j hne).trans (hothers g j hne)⟩

theorem State.ClusterOnly.eq (hst : s.ClusterOnly t d k) : t = { s with clusters := t.clusters, tracers := t.tracers, regs := t.regs } := by
  obtain ⟨⟨R, C, T, rfl⟩, -⟩ := hst
  rfl

theorem State.ClusterOnly.hinge (hst : s.ClusterOnly t d k) : t.hinge = s.hinge := by rw [hst.eq]

theorem State.ClusterOnly.done (hst : s.ClusterOnly t d k) (hi : s.Idle) : t.done = t := by
  obtain ⟨⟨R, C, T, rfl⟩, -⟩ := hst
  exact done_of_eq hi rfl rfl rfl rfl rfl rfl rfl rfl

/-- Clusters of other numbers keep their state. -/
theorem State.ClusterOnly.others (hst : s.ClusterOnly t d k) (hk : k < 100) : ∀ g j, j < 100 → (g, j) ≠ (d, k) → t.cluster g j = s.cluster g j := by
  obtain ⟨-, -, hothers⟩ := hst
  exact fun g j hj hne => hothers g j fun hkey => hne (Prod.ext (by omega) (by omega))

theorem setCluster_clusterOnly (s : State) (d k : Nat) (x : ClusterSt) : s.ClusterOnly (s.setCluster d k x) d k :=
  ⟨⟨s.regs, _, s.tracers, rfl⟩, .refl s _, fun _ _ hne => (cluster_setCluster ..).trans (if_neg hne)⟩

theorem setTracer_clusterOnly (s : State) (h d k : Nat) (x : TracerSt) : s.ClusterOnly (s.setTracer h x) d k :=
  ⟨⟨s.regs, s.clusters, _, rfl⟩, .refl s _, fun _ _ _ => rfl⟩

theorem countLost_clusterOnly (s : State) (top h n d k : Nat) : s.ClusterOnly (s.count .TRC_STATUS_LOST top h 0 0 n) d k :=
  ⟨⟨_, s.clusters, s.tracers, rfl⟩, (State.RegsBut.refl s _).count List.mem_cons_self, fun _ _ _ => rfl⟩

/-! ## The trace of a cluster (R217, R419) -/

theorem pushCluster_clusterOnly (s : State) (d k : Nat) (r : TraceRec) : s.ClusterOnly (s.pushCluster d k r) d k := by
  unfold State.pushCluster
  dsimp only
  split
  · split
    · exact setCluster_clusterOnly ..
    · exact (setCluster_clusterOnly ..).trans (countLost_clusterOnly ..)
  · exact .refl ..

theorem pushCluster_tracers (s : State) (d k : Nat) (r : TraceRec) : (s.pushCluster d k r).tracers = s.tracers := by
  unfold State.pushCluster
  dsimp only
  split
  · split <;> rfl
  · rfl

/-- A record touches nothing of its cluster but the FIFO. -/
theorem pushCluster_cluster (s : State) (d k : Nat) (r : TraceRec) : ∃ F n, (s.pushCluster d k r).cluster d k = { s.cluster d k with fifo := F, lost := n } := by
  unfold State.pushCluster
  dsimp only
  split
  · refine ⟨(fifoPush 64 0 (s.cluster d k).fifo (s.cluster d k).lost r).1, (fifoPush 64 0 (s.cluster d k).fifo (s.cluster d k).lost r).2, ?_⟩
    split
    · exact cluster_setCluster_self ..
    · exact cluster_setCluster_self ..
  · exact ⟨_, _, rfl⟩

theorem drainCluster_clusterOnly (s : State) (d k : Nat) : s.ClusterOnly (s.drainCluster d k) d k := by
  unfold State.drainCluster
  dsimp only
  split
  · exact (setCluster_clusterOnly ..).trans (setTracer_clusterOnly ..)
  · exact ((setCluster_clusterOnly ..).trans (setTracer_clusterOnly ..)).trans (countLost_clusterOnly ..)

/-! ## CLUSTER_GATE and CLUSTER_UNGATE -/

section
variable (hi : s.Idle) (hpwr : s.hinge.pwrTo = none)
include hi hpwr

/-- Where no change of power state waits, a gate or a wake is all that its command does. -/
theorem State.ClusterOnly.exec_eq (hst : s.ClusterOnly t d k) : (Host.Outcome.next t.pwrProgress.done : Host.Outcome State Fault Refusal) = .next t := by
  rw [pwrProgress_of_none (by rw [hst.hinge, hpwr]), hst.done hi]

theorem exec_clusterGate {d : Cdie} {k : Fin 100} (hin : s.cdieIn d.val = true) (hrun : s.clk.run = true) (hkernel : (s.cluster d.val k.val).kernel = none)
    (hqueued : s.kernelQueued d.val k.val = false) (hgated : (s.cluster d.val k.val).gated = false) (hon : s.rd .CMP_GATE_CFG_ENABLE d.val 0 0 = 1)
    (hfall : s.fallHeld = false) :
    ∃ t : State, exec (.clusterGate d k) s = .next t ∧ (t.cluster d.val k.val).gated = true ∧
      (∀ g j, j < 100 → (g, j) ≠ (d.val, k.val) → t.cluster g j = s.cluster g j) ∧
      s.RegsBut t [.TRC_STATUS_LOST] ∧ t = { s with clusters := t.clusters, tracers := t.tracers, regs := t.regs } := by
  have hgate : ∃ x, x.gated = true ∧ s.clusterGate d.val k.val = ((s.pushCluster d.val k.val
      { time := s.time64, typ := 0x07, die := 4 + d.val, cas := 0, unit := k.val, payload := [0] }).drainCluster d.val k.val).setCluster d.val k.val x :=
    ⟨_, rfl, if_pos (by simp [hin, hrun, hkernel, hqueued, hgated, hon, hfall])⟩
  obtain ⟨x, hx, hgate⟩ := hgate
  have honly : s.ClusterOnly (s.clusterGate d.val k.val) d.val k.val := by
    rw [hgate]
    exact ((pushCluster_clusterOnly ..).trans (drainCluster_clusterOnly ..)).trans (setCluster_clusterOnly ..)
  refine ⟨s.clusterGate d.val k.val, honly.exec_eq hi hpwr, ?_, honly.others k.isLt, honly.2.1, honly.eq⟩
  rw [hgate, cluster_setCluster_self, hx]

theorem exec_clusterGate_disabled {d : Cdie} {k : Fin 100} (hoff : s.rd .CMP_GATE_CFG_ENABLE d.val 0 0 = 0) : exec (.clusterGate d k) s = .next s := by
  have hkeep : s.clusterGate d.val k.val = s := if_neg (by simp [hoff])
  have honly : s.ClusterOnly (s.clusterGate d.val k.val) d.val k.val := by rw [hkeep]; exact .refl ..
  exact (honly.exec_eq hi hpwr).trans (congrArg Host.Outcome.next hkeep)

theorem exec_clusterUngate {d : Cdie} {k : Fin 100} (hin : s.cdieIn d.val = true) (hrun : s.clk.run = true) (hgated : (s.cluster d.val k.val).gated = true)
    (hkernel : (s.cluster d.val k.val).kernel.isSome = true) (hrise : s.riseHeld = false) :
    ∃ t : State, exec (.clusterUngate d k) s = .next t ∧ (t.cluster d.val k.val).gated = false ∧
      (t.cluster d.val k.val).runAt = max (s.cluster d.val k.val).runAt (s.clk.kclk + 64) ∧
      (∀ g j, j < 100 → (g, j) ≠ (d.val, k.val) → t.cluster g j = s.cluster g j) ∧
      s.RegsBut t [.TRC_STATUS_LOST] ∧ t = { s with clusters := t.clusters, regs := t.regs } := by
  have hwake : ∃ x r, x.gated = false ∧ x.runAt = max (s.cluster d.val k.val).runAt (s.clk.kclk + 64) ∧
      s.clusterUngate d.val k.val = (s.setCluster d.val k.val x).pushCluster d.val k.val r :=
    ⟨_, _, rfl, rfl, if_pos (by simp [hin, hrun, hkernel, hgated, hrise])⟩
  obtain ⟨x, r, hx, hrunAt, hwake⟩ := hwake
  have honly : s.ClusterOnly (s.clusterUngate d.val k.val) d.val k.val := by
    rw [hwake]
    exact (setCluster_clusterOnly ..).trans (pushCluster_clusterOnly ..)
  have htracers : (s.clusterUngate d.val k.val).tracers = s.tracers := by rw [hwake, pushCluster_tracers]; rfl
  obtain ⟨F, n, hcluster⟩ := pushCluster_cluster (s.setCluster d.val k.val x) d.val k.val r
  rw [← hwake, cluster_setCluster_self] at hcluster
  refine ⟨s.clusterUngate d.val k.val, honly.exec_eq hi hpwr, by rw [hcluster, hx], by rw [hcluster, hrunAt], honly.others k.isLt, honly.2.1, ?_⟩
  exact honly.eq.trans (by rw [htracers])

end

end

end Sys2Proof.Machine
end

section
/-! SUPPORT. Package power states (R219 to R221). -/

namespace Sys2Proof.Machine

/-! ## SVC_PWR_CTRL with GO (R219) -/

def pwrCtrl : RegAt := { reg := .SVC_PWR_CTRL, d := 0, i := 0, j := 0 }

/-- STATE and RESUME_HP as they are written. -/
def State.pwrSet (s : State) (n : Nat) : State := (s.wr .SVC_PWR_CTRL_STATE 0 0 0 (n % 4)).wr .SVC_PWR_CTRL_RESUME_HP 0 0 0 (n / 4 % 8)

/-- GO leaves the other fields of the word as they are. -/
theorem pwrCtrl_go (v : BitVec 32) : (v ||| 0x100).toNat % 4 = v.toNat % 4 ∧ (v ||| 0x100).toNat / 4 % 8 = v.toNat / 4 % 8 ∧ (v ||| 0x100).toNat.testBit 8 = true := by
  have hor : (v ||| 0x100).toNat = v.toNat ||| 2 ^ 8 := BitVec.toNat_or ..
  have hlow : (v.toNat ||| 2 ^ 8) % 2 ^ 2 = v.toNat % 2 ^ 2 := by rw [Nat.or_mod_two_pow]; exact Nat.or_zero _
  have hmid : (v.toNat ||| 2 ^ 8) / 2 ^ 2 % 2 ^ 3 = v.toNat / 2 ^ 2 % 2 ^ 3 := by rw [Nat.or_div_two_pow, Nat.or_mod_two_pow]; exact Nat.or_zero _
  rw [hor]
  exact ⟨hlow, hmid, by rw [Nat.testBit_or, Nat.testBit_two_pow_self, Bool.or_true]⟩

theorem pwrCtrl_outOfRange (s : State) (n : Nat) : s.outOfRange pwrCtrl .whole n = true ↔ 2 < n % 4 ∨ 4 < n / 4 % 8 := by
  have hrange : s.outOfRange pwrCtrl .whole n = ((!inRange 0 2 (n / 2 ^ 0 % 2 ^ 2) || (!inRange 0 4 (n / 2 ^ 2 % 2 ^ 3) || (false || false))) || false) := rfl
  rw [hrange]
  simp [inRange]

section
variable {s : State} {v : BitVec 32}

theorem exec_powerStateRequest_outOfRange (hi : s.Idle) (hv : v.toNat % 4 = 3 ∨ 4 < v.toNat / 4 % 8) :
    exec (.powerStateRequest v) s = .next (s.accErr (svcAccess 0x3030 4) true 2) := by
  obtain ⟨hst, hhp, -⟩ := pwrCtrl_go v
  have hexec : exec (.powerStateRequest v) s = .next (s.settleWrite (svcAccess 0x3030 4) (s.writeReg pwrCtrl .whole (v ||| 0x100).toNat)).done := rfl
  have hwrite : s.writeReg pwrCtrl .whole (v ||| 0x100).toNat = .inr accRange := if_pos (by
    rw [pwrCtrl_outOfRange, hst, hhp]
    omega)
  rw [hexec, hwrite]
  exact congrArg Host.Outcome.next ((s.accErr_regsOnly _ true accRange).done hi)

theorem exec_powerStateRequest_inRange (hst : v.toNat % 4 ≤ 2) (hhp : v.toNat / 4 % 8 ≤ 4) :
    exec (.powerStateRequest v) s = .next ((s.pwrSet v.toNat).pwrRequest (v.toNat % 4)).done := by
  obtain ⟨hgoSt, hgoHp, hgo⟩ := pwrCtrl_go v
  have hexec : exec (.powerStateRequest v) s = .next (s.settleWrite (svcAccess 0x3030 4) (s.writeReg pwrCtrl .whole (v ||| 0x100).toNat)).done := rfl
  have hwrite : s.writeReg pwrCtrl .whole (v ||| 0x100).toNat = .inl (s.writePwrCtrl pwrCtrl (v ||| 0x100).toNat) := if_neg (by
    rw [pwrCtrl_outOfRange, hgoSt, hgoHp]
    omega)
  have hfields : s.setFields pwrCtrl .whole (v ||| 0x100).toNat =
      (s.wr .SVC_PWR_CTRL_STATE 0 0 0 ((v ||| 0x100).toNat / 2 ^ 0 % 2 ^ 2)).wr .SVC_PWR_CTRL_RESUME_HP 0 0 0 ((v ||| 0x100).toNat / 2 ^ 2 % 2 ^ 3) := rfl
  have hset : s.setFields pwrCtrl .whole (v ||| 0x100).toNat = s.pwrSet v.toNat := by
    rw [hfields, State.pwrSet, ← hgoSt, ← hgoHp, Nat.pow_zero, Nat.div_one]
    rfl
  rw [hexec, hwrite, State.settleWrite, State.writePwrCtrl, hset, hgo, hgoSt]
  rfl

end

/-- What is written to SVC_PWR_CTRL is no part of the status. -/
theorem pwrSet_regsBut (s : State) (n : Nat) : s.RegsBut (s.pwrSet n) [.SVC_PWR_CTRL_STATE, .SVC_PWR_CTRL_RESUME_HP] :=
  ((State.RegsBut.refl s _).wr (by decide)).wr (by decide)

theorem pwrSet_regsOnly (s : State) (n : Nat) : s.RegsOnly (s.pwrSet n) := (State.RegsOnly.refl s).wr.wr

/-! ## A request ends (R219) -/

def pwrStatusFlds : List Fld := [.SVC_PWR_STATUS_STATE, .SVC_PWR_STATUS_ERROR, .SVC_PWR_STATUS_BUSY]

theorem State.RegsOnly.pwrDone {s t : State} (h : s.RegsOnly t) (st err : Nat) :
    ∃ R, t.pwrDone st err = { s with regs := R, hinge := { s.hinge with pwrTo := none } } := by
  obtain ⟨Q, rfl⟩ := h
  have hwritten : (({ s with regs := Q } : State).setHinge fun x => { x with pwrTo := none }).RegsOnly (({ s with regs := Q } : State).pwrDone st err) :=
    (State.RegsOnly.refl _).wr.wr.wr
  exact hwritten

theorem pwrDone_regsBut (s : State) (st err : Nat) : s.RegsBut (s.pwrDone st err) pwrStatusFlds :=
  State.RegsBut.wr (State.RegsBut.wr (State.RegsBut.wr (t := s.setHinge fun x => { x with pwrTo := none }) (fun _ _ _ _ _ => rfl) (by decide)) (by decide)) (by decide)

theorem pwrDone_rds (s : State) (st err : Nat) : (s.pwrDone st err).rd .SVC_PWR_STATUS_STATE 0 0 0 = st ∧ (s.pwrDone st err).rd .SVC_PWR_STATUS_ERROR 0 0 0 = err ∧
    (s.pwrDone st err).rd .SVC_PWR_STATUS_BUSY 0 0 0 = 0 := by
  refine ⟨?_, (State.rd_wr_fld _ (by decide)).trans (State.rd_wr_self ..), State.rd_wr_self ..⟩
  exact (State.rd_wr_fld _ (by decide)).trans ((State.rd_wr_fld _ (by decide)).trans (State.rd_wr_self ..))

section
variable {s : State} {st : Nat}

/-- Without the lowest hinge point neither REST nor CMP_OFF is entered (R219). -/
theorem pwrRequest_without_hp (h1 : 1 ≤ st) (h2 : st ≤ 2) (hoff : s.hpEnabled 4 = false) : s.pwrRequest st = s.pwrDone (s.rd .SVC_PWR_STATUS_STATE 0 0 0) 1 :=
  if_pos ⟨by omega, .inl hoff⟩

/-- CMP_OFF needs its place in the package and the power bus (R220, R441). -/
theorem pwrRequest_without_cmpOff (hno : s.rd .SVC_PWR_CAP_CMP_OFF 0 0 0 = 0 ∨ s.pmbusLive = false) :
    s.pwrRequest 2 = s.pwrDone (s.rd .SVC_PWR_STATUS_STATE 0 0 0) 1 := by
  unfold State.pwrRequest
  dsimp only
  split
  · rfl
  · exact if_pos ⟨rfl, hno⟩

/-- A change of state that begins (R219): it is noted, BUSY is set, and it goes on as far as it can. -/
def State.pwrBegun (s : State) (st : Nat) : State :=
  ((s.setHinge fun x => { x with pwrTo := some st }).wr .SVC_PWR_STATUS_BUSY 0 0 0 1).wr .SVC_PWR_STATUS_ERROR 0 0 0 0

theorem State.RegsOnly.pwrBegun {s t : State} (h : s.RegsOnly t) (st : Nat) : ∃ R, t.pwrBegun st = { s with regs := R, hinge := { s.hinge with pwrTo := some st } } := by
  obtain ⟨Q, rfl⟩ := h
  have hwritten : (({ s with regs := Q } : State).setHinge fun x => { x with pwrTo := some st }).RegsOnly (({ s with regs := Q } : State).pwrBegun st) :=
    (State.RegsOnly.refl _).wr.wr
  exact hwritten

theorem pwrBegun_regsBut (s : State) (st : Nat) : s.RegsBut (s.pwrBegun st) pwrStatusFlds :=
  State.RegsBut.wr (State.RegsBut.wr (t := s.setHinge fun x => { x with pwrTo := some st }) (fun _ _ _ _ _ => rfl) (by decide)) (by decide)

section
variable (hon : s.hpEnabled 4 = true) (hcap : st = 2 → s.rd .SVC_PWR_CAP_CMP_OFF 0 0 0 ≠ 0 ∧ s.pmbusLive = true)
include hon hcap

/-- A state that the package provides: the request ends at once where it is the present one; otherwise, not in CMP_OFF, the change begins. -/
theorem pwrRequest_provided (hway : st = s.rd .SVC_PWR_STATUS_STATE 0 0 0 ∨ s.rd .SVC_PWR_STATUS_STATE 0 0 0 ≠ 2) :
    s.pwrRequest st = if st = s.rd .SVC_PWR_STATUS_STATE 0 0 0 then s.pwrDone (s.rd .SVC_PWR_STATUS_STATE 0 0 0) 0 else (s.pwrBegun st).pwrProgress := by
  have henabled : ¬((st = 1 ∨ st = 2) ∧ (s.hpEnabled 4 = false ∨ (s.rd .SVC_PWR_STATUS_STATE 0 0 0 = 2 ∧ st = 1))) := by
    rw [hon]
    rintro ⟨-, h | h⟩
    · exact absurd h (by decide)
    · omega
  have hprovided : ¬(st = 2 ∧ (s.rd .SVC_PWR_CAP_CMP_OFF 0 0 0 = 0 ∨ s.pmbusLive = false)) := by
    rintro ⟨h2, h | h⟩
    · exact (hcap h2).1 h
    · exact absurd ((hcap h2).2.symm.trans h) (by decide)
  refine (if_neg henabled).trans ((if_neg hprovided).trans ?_)
  split
  · rfl
  · have hrails : ¬(st = 0 ∧ s.rd .SVC_PWR_STATUS_STATE 0 0 0 = 2) := by omega
    exact congrArg State.pwrProgress (if_neg hrails)

end

/-- REST waits for the clusters to be gated (R219). -/
theorem pwrProgress_ungated (hgated : s.allGated = false) : (s.pwrBegun 1).pwrProgress = s.pwrBegun 1 := if_neg (by
  have hsame : (s.pwrBegun 1).allGated = s.allGated := rfl
  rw [hsame, hgated]
  exact Bool.false_ne_true)

theorem matrixOff_of_regsBut {t : State} {l : List Fld} (hregs : s.RegsBut t l) (hl : .QUEUE_CTRL_ENABLE ∉ l) (hfuse : t.fuse = s.fuse) : t.matrixOff = s.matrixOff := by
  have hrd : ∀ d k, t.rd .QUEUE_CTRL_ENABLE d k 0 = s.rd .QUEUE_CTRL_ENABLE d k 0 := fun d k => hregs _ d k 0 hl
  have hdies : t.cdies = s.cdies := congrArg (fun F : Fuses => allDies.filter fun d => F.cdieMask.testBit d) hfuse
  simp only [State.matrixOff, hrd, hdies]

end

/-! ## The compute rails go off (R220) -/

/-- A die without power: its fabric door is masked. -/
def State.DieIsOff (s : State) (d : Nat) : Prop := (s.door d 0).masked = true ∧ (s.aksal d).cdPwr = false

def AksSt.unpowered (x : AksSt) : AksSt := { x with cdPwr := false, cdRst := false, state := 0 }

def State.dieOff (s : State) (d : Nat) : State := (s.setAksal d (s.aksal d).unpowered).maskDoor d 0

theorem dieOff_isOff {s : State} {d e : Nat} (h : e = d ∨ s.DieIsOff e) : (s.dieOff d).DieIsOff e := by
  have hdoor : (s.dieOff d).door e 0 = if doorKey d 0 = doorKey e 0 then { s.door d 0 with masked := true } else s.door e 0 := Tab.get_put ..
  have haksal : (s.dieOff d).aksal e = if d = e then (s.aksal d).unpowered else s.aksal e :=
    Tab.get_put AksSt.reset s.aks d e (s.aksal d).unpowered
  unfold State.DieIsOff
  rw [hdoor, haksal]
  rcases h with rfl | ⟨hmasked, hpwr⟩
  · rw [if_pos rfl, if_pos rfl]
    exact ⟨rfl, rfl⟩
  · refine ⟨?_, ?_⟩
    · split
      · rfl
      · exact hmasked
    · split
      · rfl
      · exact hpwr

theorem foldl_dieOff_isOff (l : List Nat) (s : State) (e : Nat) (h : e ∈ l ∨ s.DieIsOff e) : (l.foldl State.dieOff s).DieIsOff e := by
  induction l generalizing s with
  | nil => exact h.resolve_left List.not_mem_nil
  | cons d l ih =>
    refine ih (s.dieOff d) ?_
    rcases h with hmem | hoff
    · rcases List.mem_cons.mp hmem with rfl | hlater
      · exact .inr (dieOff_isOff (.inl rfl))
      · exact .inl hlater
    · exact .inr (dieOff_isOff (.inr hoff))

theorem compOff_eq (s : State) : ∃ A D, s.compOff = { s with out := s.out ++ [.rails false], aks := A, doors := D } :=
  List.foldlRecOn (motive := fun t => ∃ A D, t = { s with out := s.out ++ [.rails false], aks := A, doors := D }) s.cdies State.dieOff ⟨s.aks, s.doors, rfl⟩
    fun t ⟨A, D, ht⟩ d _ => ⟨(t.dieOff d).aks, (t.dieOff d).doors, by subst ht; rfl⟩

theorem compOff_isOff (s : State) : ∀ d ∈ s.cdies, s.compOff.DieIsOff d := fun d hd => foldl_dieOff_isOff s.cdies (s.emit (.rails false)) d (.inl hd)

/-- CMP_OFF as it is entered (R220). -/
def State.cmpOffEntered (s : State) : State := (s.pwrBegun 2).compOff.pwrDone 2 0

theorem State.RegsOnly.cmpOffEntered {s t : State} (h : s.RegsOnly t) :
    ∃ R A D, t.cmpOffEntered = { s with regs := R, hinge := { s.hinge with pwrTo := none }, out := s.out ++ [.rails false], aks := A, doors := D } := by
  obtain ⟨Q, hbegun⟩ := h.pwrBegun 2
  obtain ⟨A, D, hoff⟩ := compOff_eq (t.pwrBegun 2)
  obtain ⟨R, hdone⟩ := (State.RegsOnly.refl (t.pwrBegun 2).compOff).pwrDone 2 0
  refine ⟨R, A, D, ?_⟩
  rw [State.cmpOffEntered, hdone, hoff, hbegun]

theorem cmpOffEntered_regsBut (s : State) : s.RegsBut s.cmpOffEntered pwrStatusFlds := by
  obtain ⟨A, D, hoff⟩ := compOff_eq (s.pwrBegun 2)
  have hrails : (s.pwrBegun 2).RegsBut (s.pwrBegun 2).compOff pwrStatusFlds := by
    rw [hoff]
    exact fun _ _ _ _ _ => rfl
  exact ((pwrBegun_regsBut s 2).trans hrails).trans (pwrDone_regsBut _ 2 0)

theorem cmpOffEntered_isOff (s : State) : ∀ d ∈ s.cdies, s.cmpOffEntered.DieIsOff d := by
  have hkept : ∀ (t : State) d, t.DieIsOff d → (t.pwrDone 2 0).DieIsOff d := fun _ _ => id
  exact fun d hd => hkept _ d (compOff_isOff (s.pwrBegun 2) d hd)

/-- From REST, with every MATRIX queue disabled, the compute rails go off (R220). -/
theorem pwrProgress_cmpOff {s : State} (hnow : s.rd .SVC_PWR_STATUS_STATE 0 0 0 = 1) (hoff : s.matrixOff = true) : (s.pwrBegun 2).pwrProgress = s.cmpOffEntered := by
  have hrest : (s.pwrBegun 2).rd .SVC_PWR_STATUS_STATE 0 0 0 = 1 := by
    rw [← hnow]
    exact (State.rd_wr_fld _ (by decide)).trans (State.rd_wr_fld _ (by decide))
  have hqueues : (s.pwrBegun 2).matrixOff = true := (matrixOff_of_regsBut (pwrBegun_regsBut s 2) (by decide) rfl).trans hoff
  exact (if_pos hrest).trans (if_pos hqueues)

/-! ## POWER_STATE_REQUEST -/

section
variable {s : State} {v : BitVec 32} (hi : s.Idle) (hst : v.toNat % 4 ≤ 2) (hhp : v.toNat / 4 % 8 ≤ 4)
include hi hst hhp

/-- A request that ends at once leaves the present state, its error, and nothing under way. -/
theorem exec_powerStateRequest_ended {err : Nat}
    (hend : (s.pwrSet v.toNat).pwrRequest (v.toNat % 4) = (s.pwrSet v.toNat).pwrDone (s.rd .SVC_PWR_STATUS_STATE 0 0 0) err) :
    ∃ t : State, exec (.powerStateRequest v) s = .next t ∧ t.rd .SVC_PWR_STATUS_STATE 0 0 0 = s.rd .SVC_PWR_STATUS_STATE 0 0 0 ∧
      t.rd .SVC_PWR_STATUS_ERROR 0 0 0 = err ∧ t.rd .SVC_PWR_STATUS_BUSY 0 0 0 = 0 ∧ t = { s with regs := t.regs, hinge := { s.hinge with pwrTo := none } } := by
  obtain ⟨hstate, herror, hbusy⟩ := pwrDone_rds (s.pwrSet v.toNat) (s.rd .SVC_PWR_STATUS_STATE 0 0 0) err
  obtain ⟨R, hshape⟩ := (pwrSet_regsOnly s v.toNat).pwrDone (s.rd .SVC_PWR_STATUS_STATE 0 0 0) err
  refine ⟨_, ((exec_powerStateRequest_inRange hst hhp).trans (next_done_congr hend)).trans (congrArg Host.Outcome.next ?_), hstate, herror, hbusy, ?_⟩
  · rw [hshape]
    exact done_of_eq hi rfl rfl rfl rfl rfl rfl rfl rfl
  · rw [hshape]

theorem exec_powerStateRequest_waits (h1 : v.toNat % 4 = 1) (hnow : s.rd .SVC_PWR_STATUS_STATE 0 0 0 = 0) (hon : s.hpEnabled 4 = true) (hgated : s.allGated = false) :
    ∃ t : State, exec (.powerStateRequest v) s = .next t ∧ t.rd .SVC_PWR_STATUS_BUSY 0 0 0 = 1 ∧ t.rd .SVC_PWR_STATUS_STATE 0 0 0 = 0 ∧
      t = { s with regs := t.regs, hinge := { s.hinge with pwrTo := some 1 } } := by
  have hnow' : (s.pwrSet v.toNat).rd .SVC_PWR_STATUS_STATE 0 0 0 = 0 := (pwrSet_regsBut s _ _ 0 0 0 (by decide)).trans hnow
  have hbegun : (s.pwrSet v.toNat).pwrRequest (v.toNat % 4) = (s.pwrSet v.toNat).pwrBegun 1 := by
    rw [h1, pwrRequest_provided (s := s.pwrSet v.toNat) hon (fun h => absurd h (by decide)) (by omega), hnow']
    exact pwrProgress_ungated (s := s.pwrSet v.toNat) hgated
  obtain ⟨R, hshape⟩ := (pwrSet_regsOnly s v.toNat).pwrBegun 1
  refine ⟨(s.pwrSet v.toNat).pwrBegun 1, ((exec_powerStateRequest_inRange hst hhp).trans (next_done_congr hbegun)).trans (congrArg Host.Outcome.next ?_), ?_, ?_, ?_⟩
  · rw [hshape]
    exact done_of_eq hi rfl rfl rfl rfl rfl rfl rfl rfl
  · exact (State.rd_wr_fld _ (by decide)).trans (State.rd_wr_self ..)
  · exact ((State.rd_wr_fld _ (by decide)).trans (State.rd_wr_fld _ (by decide))).trans hnow'
  · rw [hshape]

theorem exec_powerStateRequest_cmpOff (h2 : v.toNat % 4 = 2) (hnow : s.rd .SVC_PWR_STATUS_STATE 0 0 0 = 1) (hon : s.hpEnabled 4 = true)
    (hcap : s.rd .SVC_PWR_CAP_CMP_OFF 0 0 0 = 1) (hlive : s.pmbusLive = true) (hoff : s.matrixOff = true) :
    ∃ t : State, exec (.powerStateRequest v) s = .next t ∧ t.rd .SVC_PWR_STATUS_STATE 0 0 0 = 2 ∧ t.rd .SVC_PWR_STATUS_BUSY 0 0 0 = 0 ∧ t.out = s.out ++ [.rails false] ∧
      (∀ d ∈ s.cdies, (t.door d 0).masked = true ∧ (t.aksal d).cdPwr = false) ∧
      s.RegsBut t [.SVC_PWR_CTRL_STATE, .SVC_PWR_CTRL_RESUME_HP, .SVC_PWR_STATUS_STATE, .SVC_PWR_STATUS_ERROR, .SVC_PWR_STATUS_BUSY] := by
  have hset := pwrSet_regsBut s v.toNat
  have hnow' : (s.pwrSet v.toNat).rd .SVC_PWR_STATUS_STATE 0 0 0 = 1 := (hset _ 0 0 0 (by decide)).trans hnow
  have hcap' : (s.pwrSet v.toNat).rd .SVC_PWR_CAP_CMP_OFF 0 0 0 ≠ 0 := by rw [hset _ 0 0 0 (by decide), hcap]; decide
  have hoff' : (s.pwrSet v.toNat).matrixOff = true := (matrixOff_of_regsBut hset (by decide) rfl).trans hoff
  have hentered : (s.pwrSet v.toNat).pwrRequest (v.toNat % 4) = (s.pwrSet v.toNat).cmpOffEntered := by
    rw [h2, pwrRequest_provided (s := s.pwrSet v.toNat) hon (fun _ => ⟨hcap', hlive⟩) (by omega), hnow']
    exact pwrProgress_cmpOff hnow' hoff'
  obtain ⟨R, A, D, hshape⟩ := (pwrSet_regsOnly s v.toNat).cmpOffEntered
  have hdone : (s.pwrSet v.toNat).cmpOffEntered.done = (s.pwrSet v.toNat).cmpOffEntered := by
    rw [hshape]
    exact done_of_eq hi rfl rfl rfl rfl rfl rfl rfl rfl
  have hout : (s.pwrSet v.toNat).cmpOffEntered.out = s.out ++ [.rails false] := by rw [hshape]
  obtain ⟨hstate, -, hbusy⟩ := pwrDone_rds ((s.pwrSet v.toNat).pwrBegun 2).compOff 2 0
  refine ⟨(s.pwrSet v.toNat).cmpOffEntered, ?_, hstate, hbusy, hout, cmpOffEntered_isOff (s.pwrSet v.toNat), ?_⟩
  · exact ((exec_powerStateRequest_inRange hst hhp).trans (next_done_congr hentered)).trans (congrArg Host.Outcome.next hdone)
  · have hstatus := (cmpOffEntered_regsBut (s.pwrSet v.toNat)).mono (k := .SVC_PWR_CTRL_STATE :: .SVC_PWR_CTRL_RESUME_HP :: pwrStatusFlds) (by decide)
    exact (hset.mono (by decide)).trans hstatus

end

/-- Settles O46: a gate or a wake touches one cluster and its trace; a request for a power state ends at once, waits, or turns the compute rails off. -/
theorem gatesAndPowerStates : Obligations.GatesAndPowerStates := by
  refine ⟨fun s d k hi hpwr hin hrun => ⟨exec_clusterGate hi hpwr hin hrun, exec_clusterGate_disabled hi hpwr, exec_clusterUngate hi hpwr hin hrun⟩,
    fun s v hi hv => exec_powerStateRequest_outOfRange hi hv, fun s v hi hst hhp => ?_⟩
  have hset : (s.pwrSet v.toNat).rd .SVC_PWR_STATUS_STATE 0 0 0 = s.rd .SVC_PWR_STATUS_STATE 0 0 0 ∧
      (s.pwrSet v.toNat).rd .SVC_PWR_CAP_CMP_OFF 0 0 0 = s.rd .SVC_PWR_CAP_CMP_OFF 0 0 0 :=
    ⟨pwrSet_regsBut s _ _ 0 0 0 (by decide), pwrSet_regsBut s _ _ 0 0 0 (by decide)⟩
  obtain ⟨hnow, hcap⟩ := hset
  refine ⟨fun h1 hoff => ?_, fun hon => ⟨fun hpresent hprovided => ?_, fun h2 hno => ?_, fun h1 hactive hgated => ?_, fun h2 hrest hcmp hlive hoff => ?_⟩⟩
  · have hend := pwrRequest_without_hp (s := s.pwrSet v.toNat) h1 hst hoff
    rw [hnow] at hend
    obtain ⟨t, ht, hstate, herror, -, hshape⟩ := exec_powerStateRequest_ended hi hst hhp hend
    exact ⟨t, ht, hstate, herror, hshape⟩
  · have hend := pwrRequest_provided (s := s.pwrSet v.toNat) (st := v.toNat % 4) hon (fun h2 => by rw [hcap]; exact hprovided (hpresent.symm.trans h2))
      (.inl (hpresent.trans hnow.symm))
    rw [hnow, if_pos hpresent] at hend
    exact exec_powerStateRequest_ended hi hst hhp hend
  · have hend := pwrRequest_without_cmpOff (s := s.pwrSet v.toNat) (by rw [hcap]; exact hno)
    rw [hnow, ← h2] at hend
    obtain ⟨t, ht, hstate, herror, -, hshape⟩ := exec_powerStateRequest_ended hi hst hhp hend
    exact ⟨t, ht, hstate, herror, hshape⟩
  · exact exec_powerStateRequest_waits hi hst hhp h1 hactive hon hgated
  · exact exec_powerStateRequest_cmpOff hi hst hhp h2 hrest hon hcmp hlive hoff

end Sys2Proof.Machine
end

section
/-! SUPPORT. Training's pattern runs and the retrain pauses: what the compare helper marks, what a pause moves, and how it ends (R225, R226, R233 to R237). -/

namespace Sys2Proof.Machine

/-! ## Pseudo-channels and registers change -/

/-- Nothing but registers and pseudo-channels differs. -/
def State.PcsRegsOnly (s t : State) : Prop := ∃ R P, t = { s with regs := R, pcs := P }

/-- Nothing but registers and pseudo-channel h:p differs. -/
def State.PcRegsOnly (s t : State) (h p : Nat) : Prop := s.PcsRegsOnly t ∧ s.OtherPcs t h p

section
variable {s t u : State} {h p : Nat}

theorem State.PcsRegsOnly.trans (hst : s.PcsRegsOnly t) (htu : t.PcsRegsOnly u) : s.PcsRegsOnly u := by
  obtain ⟨R, P, rfl⟩ := hst
  obtain ⟨R', P', rfl⟩ := htu
  exact ⟨R', P', rfl⟩

theorem State.PcsRegsOnly.eq (hst : s.PcsRegsOnly t) : t = { s with regs := t.regs, pcs := t.pcs } := by
  obtain ⟨R, P, rfl⟩ := hst
  rfl

theorem State.PcsRegsOnly.done (hst : s.PcsRegsOnly t) (hi : s.Idle) : t.done = t := by
  obtain ⟨R, P, rfl⟩ := hst
  exact done_of_eq hi rfl rfl rfl rfl rfl rfl rfl rfl

theorem State.RegsOnly.pcRegsOnly (hst : s.RegsOnly t) : s.PcRegsOnly t h p := by
  obtain ⟨R, rfl⟩ := hst
  exact ⟨⟨_, _, rfl⟩, fun _ _ _ _ => rfl⟩

theorem State.PcOnly.pcRegsOnly (hst : s.PcOnly t h p) : s.PcRegsOnly t h p := by
  obtain ⟨⟨P, rfl⟩, hothers⟩ := hst
  exact ⟨⟨_, _, rfl⟩, hothers⟩

theorem State.PcRegsOnly.trans (hst : s.PcRegsOnly t h p) (htu : t.PcRegsOnly u h p) : s.PcRegsOnly u h p :=
  ⟨hst.1.trans htu.1, fun g q hq hne => (htu.2 g q hq hne).trans (hst.2 g q hq hne)⟩

/-- An effect on the registers alone leaves the pseudo-channels. -/
theorem State.RegsOnly.pc (hst : s.RegsOnly t) (g q : Nat) : t.pc g q = s.pc g q := by
  obtain ⟨R, rfl⟩ := hst
  rfl

end

/-! ## START (R226) -/

section
variable {s : State} {h : Hub} {p : Pc}

theorem exec_trnStart_present (hin : s.pcIn h.val p.val = true) : exec (.trnStart h p) s = .next (s.trnStart h.val p.val s.phase).done :=
  next_done_congr (if_pos hin)

theorem exec_trnStart_refused (hi : s.Idle) (hin : s.pcIn h.val p.val = true) (hno : s.trnAllowed h.val p.val s.phase = false) :
    exec (.trnStart h p) s = .next (s.flag .PC_TRN_CTRL_ERROR h.val p.val 0) := by
  have hflag : s.trnStart h.val p.val s.phase = s.flag .PC_TRN_CTRL_ERROR h.val p.val 0 := if_neg (by simp [hno])
  exact (exec_trnStart_present hin).trans ((next_done_congr hflag).trans (congrArg Host.Outcome.next ((State.RegsOnly.refl s).flag.done hi)))

end

/-! ## COMPARE_DONE (R225, R226) -/

/-- A lane's bit errors, at most n of them, are marked and counted. -/
def State.noteLane (s : State) (h p n : Nat) (e : Nat × Nat) : State :=
  (s.setBit .PC_TRN_ERR_MAP_LANES h p 0 e.1).count .PC_TRN_ERR_CNT_COUNT top32 h p 0 (min n e.2)

/-- The fields that mark and count bit errors. -/
def errorFlds : List Fld := [.PC_TRN_ERR_MAP_LANES, .PC_TRN_ERR_CNT_COUNT]

section
variable (s : State) (h p n : Nat) (l : List (Nat × Nat))

theorem noteLane_regsOnly (e : Nat × Nat) : s.RegsOnly (s.noteLane h p n e) := (State.RegsOnly.refl s).wr.note.count

theorem noteLane_regsBut (e : Nat × Nat) : s.RegsBut (s.noteLane h p n e) errorFlds := ((State.RegsBut.refl s _).setBit (by decide)).count (by decide)

theorem noteLane_map (e : Nat × Nat) :
    (s.noteLane h p n e).rd .PC_TRN_ERR_MAP_LANES h p 0 = s.rd .PC_TRN_ERR_MAP_LANES h p 0 ||| 2 ^ e.1 :=
  (State.rd_wr_fld _ (by decide)).trans (State.rd_orBits_self ..)

theorem noteLane_count (e : Nat × Nat) :
    (s.noteLane h p n e).rd .PC_TRN_ERR_CNT_COUNT h p 0 = min top32 (s.rd .PC_TRN_ERR_CNT_COUNT h p 0 + min n e.2) := by
  have hkept : (s.setBit .PC_TRN_ERR_MAP_LANES h p 0 e.1).rd .PC_TRN_ERR_CNT_COUNT h p 0 = s.rd .PC_TRN_ERR_CNT_COUNT h p 0 := State.rd_wr_fld _ (by decide)
  exact (count_rd ..).trans (by rw [hkept])

/-- The lanes marked are those that were and those listed. -/
theorem noteLanes_map (b : Nat) :
    ((l.foldl (fun t e => t.noteLane h p n e) s).rd .PC_TRN_ERR_MAP_LANES h p 0).testBit b = true ↔
      (s.rd .PC_TRN_ERR_MAP_LANES h p 0).testBit b = true ∨ ∃ e ∈ l, e.1 = b := by
  induction l generalizing s with
  | nil => simp
  | cons e l ih =>
    rw [List.foldl_cons, ih, noteLane_map, Nat.testBit_or, Nat.testBit_two_pow]
    simp [or_assoc]

/-- The bit errors of one lane or more are added, and the count saturates. -/
theorem noteLanes_count (hl : l ≠ []) :
    (l.foldl (fun t e => t.noteLane h p n e) s).rd .PC_TRN_ERR_CNT_COUNT h p 0 =
      min top32 (s.rd .PC_TRN_ERR_CNT_COUNT h p 0 + (l.map fun e => min n e.2).sum) := by
  induction l generalizing s with
  | nil => exact absurd rfl hl
  | cons e l ih =>
    rw [List.foldl_cons, List.map_cons, List.sum_cons]
    by_cases hlast : l = []
    · rw [hlast]
      exact noteLane_count ..
    · rw [ih _ hlast, noteLane_count]
      omega

end

/-- A pattern run's compare: the lanes with errors that the pseudo-channel has are noted, and the run is over. -/
theorem compareDone_of_run {s : State} {h p : Nat} {r : TrnRun} (hrun : (s.pc h p).trnGen = some r) (errs : List (Nat × Nat)) :
    s.compareDone h p errs = ((((errs.filter fun e => (trainedLanes p).contains e.1 && e.2 != 0).foldl (fun t e => t.noteLane h p (8 * r.bursts) e) s).setPc h p
      { s.pc h p with trnGen := none }).wr .PC_TRN_CTRL_BUSY h p 0 (if (s.pc h p).trnRun.isSome then 1 else 0)) := by
  have hnoted : s.RegsOnly (s.noteErrors h p (some (8 * r.bursts)) errs) := .foldl (fun t e => noteLane_regsOnly t h p (8 * r.bursts) e) _ s
  simp only [State.compareDone, hrun, hnoted.pc]
  rfl

theorem exec_compareDone_of_run {s : State} {h : Hub} {p : Pc} {r : TrnRun} (hi : s.Idle) (hrun : (s.pc h.val p.val).trnGen = some r) (c : CompareRes) :
    let bad := c.errs.filter fun e => (trainedLanes p.val).contains e.1 && e.2 != 0
    ∃ t : State, exec (.compareDone h p c) s = .next t ∧ t = { s with regs := t.regs, pcs := t.pcs } ∧ s.OtherPcs t h.val p.val ∧
      t.pc h.val p.val = { s.pc h.val p.val with trnGen := none } ∧
      t.rd .PC_TRN_CTRL_BUSY h.val p.val 0 = (if (s.pc h.val p.val).trnRun.isSome then 1 else 0) ∧
      s.RegsBut t [.PC_TRN_CTRL_BUSY, .PC_TRN_ERR_MAP_LANES, .PC_TRN_ERR_CNT_COUNT] ∧
      (∀ l, (t.rd .PC_TRN_ERR_MAP_LANES h.val p.val 0).testBit l = true ↔ (s.rd .PC_TRN_ERR_MAP_LANES h.val p.val 0).testBit l = true ∨ ∃ e ∈ bad, e.1 = l) ∧
      (bad ≠ [] → t.rd .PC_TRN_ERR_CNT_COUNT h.val p.val 0 =
        min 4294967295 (s.rd .PC_TRN_ERR_CNT_COUNT h.val p.val 0 + (bad.map fun e => min (8 * r.bursts) e.2).sum)) := by
  intro bad
  have hcompared := compareDone_of_run hrun c.errs
  have hregs : s.RegsOnly (bad.foldl (fun t e => t.noteLane h.val p.val (8 * r.bursts) e) s) := .foldl (fun t e => noteLane_regsOnly t _ _ _ e) bad s
  have hbut : s.RegsBut (bad.foldl (fun t e => t.noteLane h.val p.val (8 * r.bursts) e) s) errorFlds := .foldl (fun t e => noteLane_regsBut t _ _ _ e) bad s
  have hmap := noteLanes_map s h.val p.val (8 * r.bursts) bad
  have hcount := noteLanes_count s h.val p.val (8 * r.bursts) bad
  revert hcompared hregs hbut hmap hcount
  generalize bad.foldl (fun t e => t.noteLane h.val p.val (8 * r.bursts) e) s = v
  intro hcompared hregs hbut hmap hcount
  have honly : s.PcRegsOnly (s.compareDone h.val p.val c.errs) h.val p.val := by
    rw [hcompared]
    exact (hregs.pcRegsOnly.trans (setPc_pcOnly p.isLt _).pcRegsOnly).trans (State.RegsOnly.refl _).wr.pcRegsOnly
  refine ⟨_, (next_done_congr (if_pos (by rw [hrun]; rfl))).trans (congrArg Host.Outcome.next (honly.1.done hi)), honly.1.eq, honly.2, ?_, ?_, ?_, ?_, ?_⟩
  all_goals rw [hcompared]
  · exact pc_setPc_self ..
  · exact State.rd_wr_self ..
  · exact ((hbut.mono (by decide)).trans (fun _ _ _ _ _ => rfl)).wr (by decide)
  · intro l
    rw [State.rd_wr_fld _ (by decide)]
    exact hmap l
  · intro hsome
    rw [State.rd_wr_fld _ (by decide)]
    exact hcount hsome

/-! ## A pause begins (R233 to R235) -/

section
variable {s : State} {h p : Nat}

theorem retrainDue_at_tick (hsr : (s.pc h p).sr = .awake) (hstart : (s.pc h p).refStart ≠ none) (hhalt : (s.pc h p).trnHalted = false)
    (hover : s.pauseTick h p ≤ s.now) : s.retrainDue h p = s.setPc h p { s.pc h p with pauseDue := true } :=
  if_pos ⟨hsr, hstart, hhalt, hover⟩

theorem retrainDue_early (hearly : s.now < s.pauseTick h p) : s.retrainDue h p = s :=
  if_neg fun ⟨_, _, _, hover⟩ => absurd hover (Nat.not_le.mpr hearly)

/-- A pause has begun, its sequences set aside (R235). -/
def PcSt.pausing (x : PcSt) (now len : Nat) : PcSt :=
  { x.setAsideAll with pauseDue := false, pauseFrom := some now, pauseLen := len, wideNext := x.wideNext ++ [11, 13, 14] }

/-- A pause shorter than PC_RETRAIN.PAUSE sets CLIPPED (R234). -/
def State.clipped (s : State) (h p : Nat) : State :=
  if s.pauseFor h p < s.pauseTicks h p then s.flag .PC_RETRAIN_STATUS_CLIPPED h p 0 else s

theorem clipped_regsOnly (s : State) (h p : Nat) : s.RegsOnly (s.clipped h p) := by
  unfold State.clipped
  split
  · exact (State.RegsOnly.refl s).flag
  · exact .refl s

theorem clipped_regsBut (s : State) (h p : Nat) : s.RegsBut (s.clipped h p) [.PC_RETRAIN_STATUS_CLIPPED] := by
  unfold State.clipped
  split
  · exact (State.RegsBut.refl s _).flag (by decide)
  · exact .refl s _

theorem clipped_rd (hshort : s.pauseFor h p < s.pauseTicks h p) : (s.clipped h p).rd .PC_RETRAIN_STATUS_CLIPPED h p 0 = 1 := by
  rw [State.clipped, if_pos hshort]
  exact State.rd_wr_self ..

theorem retrainPause_of_wanted (hwant : s.pauseWanted h p = true) (href : (s.pc h p).refreshes = true) (hhalt : (s.pc h p).halt = false)
    (hnbr : (s.pc h p).nbrPending = false) (hyield : ∀ x ∈ (s.pc h p).banks, x.2.yields = true) :
    s.retrainPause h p = (s.clipped h p).setPc h p ((s.pc h p).pausing s.now (s.pauseFor h p)) := by
  have hall : (s.pc h p).banks.all (fun b => b.2.yields) = true := List.all_eq_true.mpr hyield
  exact if_pos (by rw [hwant, href, hhalt, hnbr, hall]; rfl)

end

theorem exec_retrainPause_of_wanted {s : State} {h : Hub} {p : Pc} (hi : s.Idle) (hwant : s.pauseWanted h.val p.val = true)
    (href : (s.pc h.val p.val).refreshes = true) (hhalt : (s.pc h.val p.val).halt = false) (hnbr : (s.pc h.val p.val).nbrPending = false)
    (hyield : ∀ x ∈ (s.pc h.val p.val).banks, x.2.yields = true) :
    ∃ t : State, exec (.retrainPause h p) s = .next t ∧ (t.pc h.val p.val).pauseFrom = some s.now ∧ (t.pc h.val p.val).pauseLen = s.pauseFor h.val p.val ∧
      (t.pc h.val p.val).pauseDue = false ∧ (t.pc h.val p.val).wideNext = (s.pc h.val p.val).wideNext ++ [11, 13, 14] ∧
      (∀ b, (t.pc h.val p.val).bank b = ((s.pc h.val p.val).bank b).setAside) ∧ (t.pc h.val p.val).queue = (s.pc h.val p.val).queue ∧
      (s.pauseFor h.val p.val < s.rd .PC_RETRAIN_PAUSE h.val p.val 0 → t.rd .PC_RETRAIN_STATUS_CLIPPED h.val p.val 0 = 1) ∧
      s.RegsBut t [.PC_RETRAIN_STATUS_CLIPPED] ∧ s.OtherPcs t h.val p.val ∧ t = { s with regs := t.regs, pcs := t.pcs } := by
  have hpause := retrainPause_of_wanted hwant href hhalt hnbr hyield
  have honly := (clipped_regsOnly s h.val p.val).pcRegsOnly.trans
    (setPc_pcOnly (s := s.clipped h.val p.val) (h := h.val) p.isLt ((s.pc h.val p.val).pausing s.now (s.pauseFor h.val p.val))).pcRegsOnly
  have hpc := pc_setPc_self (s.clipped h.val p.val) h.val p.val ((s.pc h.val p.val).pausing s.now (s.pauseFor h.val p.val))
  refine ⟨_, (next_done_congr hpause).trans (congrArg Host.Outcome.next (honly.1.done hi)), ?_, ?_, ?_, ?_, fun b => ?_, ?_,
    fun hshort => clipped_rd hshort, clipped_regsBut s h.val p.val, honly.2, honly.1.eq⟩
  all_goals rw [hpc]
  case refine_5 => exact setAsideAll_bank ..
  all_goals rfl

/-! ## A pause moves the delays (R235) -/

/-- A lane's record after a pause: each delay has moved by at most one code, where the pause found a way to move. -/
def TrimRec.moved (x : TrimRec) (moves : List LaneMove) (lane : Nat) : TrimRec :=
  match moves.find? fun m => m.lane == lane with
  | some m => { x with delay := moveDelay x.delay m.read, wdelay := moveDelay x.wdelay m.write }
  | none => x

/-- The move of one lane's record at a hinge point. -/
def State.moveLane (s : State) (h p hp : Nat) (moves : List LaneMove) (lane : Nat) : State :=
  match moves.find? fun m => m.lane == lane with
  | some m => s.setTrim h p lane hp { s.trim h p lane hp with delay := moveDelay (s.trim h p lane hp).delay m.read,
                                                              wdelay := moveDelay (s.trim h p lane hp).wdelay m.write }
  | none => s

/-- Nothing but trim records differs. -/
def State.TrimsOnly (s t : State) : Prop := ∃ T L, t = { s with trims := T, lanes := L }

theorem State.TrimsOnly.refl (s : State) : s.TrimsOnly s := ⟨_, _, rfl⟩

theorem State.TrimsOnly.trans {s t u : State} (hst : s.TrimsOnly t) (htu : t.TrimsOnly u) : s.TrimsOnly u := by
  obtain ⟨T, L, rfl⟩ := hst
  obtain ⟨T', L', rfl⟩ := htu
  exact ⟨T', L', rfl⟩

section
variable (s : State) (h p hp : Nat) (moves : List LaneMove)

theorem trim_setTrim (lane lane' : Nat) (x : TrimRec) :
    (s.setTrim h p lane hp x).trim h p lane' hp = if lane = lane' then x else s.trim h p lane' hp := by
  have hkey : trimKey lane hp = trimKey lane' hp ↔ lane = lane' := by unfold trimKey; omega
  simp only [State.trim, State.setTrim, Tab.get_put, if_true, hkey]

theorem moveLane_trimsOnly (lane : Nat) : s.TrimsOnly (s.moveLane h p hp moves lane) := by
  unfold State.moveLane
  split
  · exact ⟨_, _, rfl⟩
  · exact .refl s

theorem moveLane_trim (lane lane' : Nat) :
    (s.moveLane h p hp moves lane).trim h p lane' hp = if lane = lane' then (s.trim h p lane' hp).moved moves lane' else s.trim h p lane' hp := by
  unfold State.moveLane
  split
  case h_1 m hm =>
    rw [trim_setTrim]
    split
    · next heq => subst heq; rw [TrimRec.moved, hm]
    · rfl
  case h_2 hm =>
    split
    · next heq => subst heq; rw [TrimRec.moved, hm]
    · rfl

/-- Each listed lane moves once. -/
theorem moveLanes_trim {l : List Nat} (hl : l.Nodup) (lane : Nat) :
    (l.foldl (fun t lane => t.moveLane h p hp moves lane) s).trim h p lane hp =
      if lane ∈ l then (s.trim h p lane hp).moved moves lane else s.trim h p lane hp := by
  induction l generalizing s with
  | nil => rfl
  | cons k l ih =>
    obtain ⟨hk, hl⟩ := List.nodup_cons.mp hl
    rw [List.foldl_cons, ih _ hl, moveLane_trim]
    by_cases heq : k = lane
    · subst heq; simp [hk]
    · simp [heq, Ne.symm heq]

theorem moveTrims_trimsOnly : s.TrimsOnly (s.moveTrims h p moves) := by
  have hlanes : s.TrimsOnly ((List.range 36).foldl (fun t lane => t.moveLane h p s.clk.hp moves lane) s) :=
    List.foldlRecOn (List.range 36) _ (.refl s) fun t ht lane _ => ht.trans (moveLane_trimsOnly ..)
  exact hlanes.trans ⟨_, _, rfl⟩

theorem moveTrims_trim {lane : Nat} (hlane : lane < 36) :
    (s.moveTrims h p moves).trim h p lane s.clk.hp = (s.trim h p lane s.clk.hp).moved moves lane :=
  (moveLanes_trim s h p s.clk.hp moves List.nodup_range lane).trans (if_pos (List.mem_range.mpr hlane))

theorem moved_delay (x : TrimRec) (lane : Nat) :
    (x.moved moves lane).delay = match moves.find? fun m => m.lane == lane with
      | some m => moveDelay x.delay m.read
      | none => x.delay := by
  unfold TrimRec.moved
  cases moves.find? fun m => m.lane == lane <;> rfl

end

/-! ## A pause ends (R235, R236) -/

/-- The count of the pauses that have run, and the counters of their event. -/
def pauseFlds : List Fld := [.PC_RETRAIN_STATUS_COUNT, .CNT_VALUE_VALUE, .CNT_CFG_OVF]

section
variable (s : State) (h p : Nat) (moves : List LaneMove) (err : Bool)

theorem pauseRun_regsOnly : (s.moveTrims h p moves).RegsOnly (s.pauseRun h p moves err).1 := (State.tally_regsOnly ..).count

theorem pauseRun_parts : ∃ R T L, (s.pauseRun h p moves err).1 = { s with regs := R, trims := T, lanes := L } := by
  obtain ⟨T, L, hmoved⟩ := moveTrims_trimsOnly s h p moves
  obtain ⟨R, hR⟩ := pauseRun_regsOnly s h p moves err
  exact ⟨R, T, L, by rw [hR, hmoved]⟩

theorem pauseRun_trim {lane : Nat} (hlane : lane < 36) :
    (s.pauseRun h p moves err).1.trim h p lane s.clk.hp = (s.trim h p lane s.clk.hp).moved moves lane := by
  obtain ⟨R, hR⟩ := pauseRun_regsOnly s h p moves err
  rw [hR]
  exact moveTrims_trim s h p moves hlane

theorem pauseRun_failed : (s.pauseRun h p moves err).2 = (err || (s.moveTrims h p moves).drifted h p) := by
  obtain ⟨R, hR⟩ := pauseRun_regsOnly s h p moves err
  have hdrift : (s.pauseRun h p moves err).1.drifted h p = (s.moveTrims h p moves).drifted h p := by rw [hR]; rfl
  rw [← hdrift]
  rfl

theorem moveTrims_rd (f : Fld) (d i j : Nat) : (s.moveTrims h p moves).rd f d i j = s.rd f d i j := by
  obtain ⟨T, L, hmoved⟩ := moveTrims_trimsOnly s h p moves
  rw [hmoved]
  rfl

theorem pauseRun_regsBut : s.RegsBut (s.pauseRun h p moves err).1 pauseFlds := by
  have hmoved : s.RegsBut (s.moveTrims h p moves) pauseFlds := fun f d i j _ => moveTrims_rd s h p moves f d i j
  exact (hmoved.trans ((tally_regsBut (s.moveTrims h p moves) h 0x0C (some p) [] none 1).mono (by decide))).count (by decide)

theorem pauseRun_count :
    (s.pauseRun h p moves err).1.rd .PC_RETRAIN_STATUS_COUNT h p 0 = min 65535 (s.rd .PC_RETRAIN_STATUS_COUNT h p 0 + 1) := by
  have htally := tally_regsBut (s.moveTrims h p moves) h 0x0C (some p) [] none 1 .PC_RETRAIN_STATUS_COUNT h p 0 (by decide)
  exact (count_rd ..).trans (by rw [htally, moveTrims_rd]; rfl)

end

/-- A pseudo-channel after a pause that began at tick `start`: its next pause counts from there, unless it failed and is tried again (R233, R236). -/
def PcSt.paused (x : PcSt) (start intv : Nat) (retry : Option Nat) (fails : Nat) : PcSt :=
  { x with pauseFrom := none, pauseLast := start, pauseFirst := false, pauseRetryAt := retry, pauseDue := false, reopen := false, pauseIntv := intv,
           pauseFails := fails }

section
variable {s : State} {h p : Nat} {moves : List LaneMove} {err : Bool} (start : Nat)

theorem pauseResult_passed (hpass : (s.pauseRun h p moves err).2 = false) (atOnce : Bool) :
    s.pauseResult h p start moves err atOnce = (s.pauseRun h p moves err).1.setPc h p
      (((s.pauseRun h p moves err).1.pc h p).paused start ((s.pauseRun h p moves err).1.pauseIntv h p) none 0) := by
  unfold State.pauseResult
  dsimp only
  rw [hpass]
  rfl

theorem pauseFailed_eccNoted (s : State) (h p : Nat) : s.EccNoted (s.pauseFailed h p) := (State.RegsOnly.refl s).flag.eccNoted.trans (logEvent_eccNoted ..)

theorem pauseFailed_rd (s : State) (h p : Nat) : (s.pauseFailed h p).rd .PC_RETRAIN_STATUS_LAST_FAIL h p 0 = 1 :=
  (logEvent_regsBut _ h _ _ h p 0 (by decide)).trans (State.rd_wr_self ..)

theorem haltPc_pc (s : State) (h p : Nat) : (s.haltPc h p).pc h p = { s.pc h p with trnHalted := true } := pc_setPc_self ..

/-- A periodic pause with a centre error is marked and logged; the second in a row halts the pseudo-channel. -/
theorem pauseResult_failed_marked (s : State) (h p start : Nat) (moves : List LaneMove) :
    ∃ u : State, s.pauseResult h p start moves true false = (if 1 ≤ (s.pc h p).pauseFails then u.haltPc h p else u) ∧
      (∃ R P T L G V C, u = { s with regs := R, pcs := P, trims := T, lanes := L, logs := G, levels := V, tracers := C }) ∧
      u.pc h p = (s.pc h p).paused start ((s.pauseRun h p moves true).1.pauseIntv h p) (some (start + Config.msTicks 1)) ((s.pc h p).pauseFails + 1) ∧
      u.rd .PC_RETRAIN_STATUS_LAST_FAIL h p 0 = 1 := by
  have hparts := pauseRun_parts s h p moves true
  unfold State.pauseResult
  dsimp only
  rw [show (s.pauseRun h p moves true).2 = true from rfl]
  generalize (s.pauseRun h p moves true).1 = v at hparts ⊢
  have hpc : v.pc h p = s.pc h p := by
    obtain ⟨R, T, L, rfl⟩ := hparts
    rfl
  have hnoted := pauseFailed_eccNoted (v.setPc h p ((s.pc h p).paused start (v.pauseIntv h p) (some (start + Config.msTicks 1)) ((s.pc h p).pauseFails + 1))) h p
  have hagain : (2 ≤ (s.pc h p).pauseFails + 1) = (1 ≤ (s.pc h p).pauseFails) := propext (by omega)
  simp only [hpc, if_true, Bool.false_eq_true, false_or, hagain]
  refine ⟨_, rfl, ?_, ?_, pauseFailed_rd ..⟩
  · obtain ⟨R, T, L, rfl⟩ := hparts
    obtain ⟨R', G, V, C, hu⟩ := hnoted
    exact ⟨_, _, _, _, _, _, _, hu⟩
  · obtain ⟨R', G, V, C, hu⟩ := hnoted
    exact (congrArg (fun t : State => t.pc h p) hu).trans (pc_setPc_self ..)

theorem retrainPauseEnd_of_over {start : Nat} (hfrom : (s.pc h p).pauseFrom = some start) (hover : start + (s.pc h p).pauseLen ≤ s.now)
    (hwide : (s.pc h p).wide = none) (hnext : (s.pc h p).wideNext = []) :
    s.retrainPauseEnd h p moves err = s.pauseResult h p start moves err false := by
  simp only [State.retrainPauseEnd, hfrom]
  exact if_pos ⟨hover, hwide, hnext⟩

end

section
variable {s : State} {h : Hub} {p : Pc} {start : Nat} {moves : List LaneMove} (hi : s.Idle)
include hi

/-- A pause with no error and no drift: the lanes have moved, it counts, and the next pause counts from it. -/
theorem exec_retrainPauseEnd_passed (hend : s.retrainPauseEnd h.val p.val moves false = s.pauseResult h.val p.val start moves false false)
    (hdrift : (s.moveTrims h.val p.val moves).drifted h.val p.val = false) :
    ∃ t : State, exec (.retrainPauseEnd h p moves false) s = .next t ∧ (t.pc h.val p.val).pauseFrom = none ∧ (t.pc h.val p.val).pauseLast = start ∧
      (t.pc h.val p.val).pauseRetryAt = none ∧ (t.pc h.val p.val).pauseFails = 0 ∧
      t.rd .PC_RETRAIN_STATUS_COUNT h.val p.val 0 = min 65535 (s.rd .PC_RETRAIN_STATUS_COUNT h.val p.val 0 + 1) ∧
      (∀ lane < 36, (t.trim h.val p.val lane s.clk.hp) = (s.trim h.val p.val lane s.clk.hp).moved moves lane) ∧
      s.RegsBut t pauseFlds ∧ s.OtherPcs t h.val p.val ∧ t = { s with regs := t.regs, pcs := t.pcs, trims := t.trims, lanes := t.lanes } := by
  have hpassed := pauseResult_passed (s := s) (h := h.val) (p := p.val) (moves := moves) (err := false) start (by rw [pauseRun_failed, hdrift]; rfl) false
  have hcount := pauseRun_count s h.val p.val moves false
  have htrim := fun lane hlane => pauseRun_trim s h.val p.val moves false (lane := lane) hlane
  have hbut := pauseRun_regsBut s h.val p.val moves false
  have hparts := pauseRun_parts s h.val p.val moves false
  have hexec := next_done_congr (hend.trans hpassed)
  revert hexec hparts hbut htrim hcount
  generalize (s.pauseRun h.val p.val moves false).1 = v
  intro hcount htrim hbut ⟨R, T, L, hv⟩ hexec
  refine ⟨v.setPc h.val p.val ((v.pc h.val p.val).paused start (v.pauseIntv h.val p.val) none 0), hexec.trans (congrArg Host.Outcome.next ?_),
    ?_, ?_, ?_, ?_, hcount, htrim, hbut, ?_, ?_⟩
  · rw [hv]
    exact done_of_eq hi rfl rfl rfl rfl rfl rfl rfl rfl
  · rw [pc_setPc_self]; rfl
  · rw [pc_setPc_self]; rfl
  · rw [pc_setPc_self]; rfl
  · rw [pc_setPc_self]; rfl
  · have hpcs : ∀ g q, v.pc g q = s.pc g q := fun g q => by rw [hv]; rfl
    exact fun g q hq hne => (setPc_otherPcs v p.isLt _ g q hq hne).trans (hpcs g q)
  · rw [hv]
    rfl

/-- A pause with a centre error: it is tried again a millisecond after its start, and the second in a row halts the pseudo-channel. -/
theorem exec_retrainPauseEnd_failed (hend : s.retrainPauseEnd h.val p.val moves true = s.pauseResult h.val p.val start moves true false) :
    ∃ t : State, exec (.retrainPauseEnd h p moves true) s = .next t ∧ (t.pc h.val p.val).pauseFrom = none ∧
      (t.pc h.val p.val).pauseRetryAt = some (start + 100000) ∧ t.rd .PC_RETRAIN_STATUS_LAST_FAIL h.val p.val 0 = 1 ∧
      (t.pc h.val p.val).trnHalted = ((s.pc h.val p.val).trnHalted || decide (1 ≤ (s.pc h.val p.val).pauseFails)) ∧ t.mem = s.mem ∧ t.fuse = s.fuse := by
  obtain ⟨u, hfailed, hparts, hpc, hrd⟩ := pauseResult_failed_marked s h.val p.val start moves
  obtain ⟨R, P, T, L, G, V, C, hu⟩ := hparts
  by_cases hagain : 1 ≤ (s.pc h.val p.val).pauseFails
  · rw [if_pos hagain] at hfailed
    refine ⟨u.haltPc h.val p.val, (next_done_congr (hend.trans hfailed)).trans (congrArg Host.Outcome.next ?_), ?_, ?_, ?_, ?_, ?_, ?_⟩
    · rw [hu]
      exact done_of_eq hi rfl rfl rfl rfl rfl rfl rfl rfl
    · rw [haltPc_pc, hpc]; rfl
    · rw [haltPc_pc, hpc]; rfl
    · exact (State.rd_wr_fld _ (by decide)).trans hrd
    · rw [haltPc_pc, decide_eq_true hagain, Bool.or_true]
    · rw [hu]; rfl
    · rw [hu]; rfl
  · rw [if_neg hagain] at hfailed
    refine ⟨u, (next_done_congr (hend.trans hfailed)).trans (congrArg Host.Outcome.next ?_), ?_, ?_, hrd, ?_, ?_, ?_⟩
    · rw [hu]
      exact done_of_eq hi rfl rfl rfl rfl rfl rfl rfl rfl
    · rw [hpc]; rfl
    · rw [hpc]; rfl
    · rw [hpc, decide_eq_false hagain, Bool.or_false]; rfl
    · rw [hu]
    · rw [hu]

end

/-- Settles O40: a start, a compare and a pause are each one update of the pseudo-channel and of registers; a pause moves each data lane once. -/
theorem trainingAndPauses : Obligations.TrainingAndPauses := by
  refine ⟨fun s h p hi => ⟨fun hin => congrArg Host.Outcome.next (gateWrite_absent hi hin _), fun hin hmay => ?_, fun hin hno => ?_⟩,
    fun s h p c hi => ⟨fun r hrun => exec_compareDone_of_run hi hrun c, fun hgen hrun => ?_⟩,
    fun s h p hi hsr hstart hhalt => ⟨fun hover => ?_, fun hearly => ?_⟩,
    fun s h p hi hwant href hhalt hnbr hyield => ?_,
    fun s h p start moves hi hfrom hover hwide hnext => ⟨fun hdrift => ?_, ?_⟩⟩
  · have hstart : s.trnStart h.val p.val s.phase = _ := if_pos hmay
    exact (exec_trnStart_present hin).trans ((next_done_congr hstart).trans (congrArg Host.Outcome.next (done_of_eq hi rfl rfl rfl rfl rfl rfl rfl rfl)))
  · exact ⟨_, exec_trnStart_refused hi hin hno, State.rd_wr_self .., (State.RegsBut.refl s _).flag (by decide), rfl⟩
  · have hstay : (if (s.pc h.val p.val).trnGen.isSome then s.compareDone h.val p.val c.errs
        else if (s.pc h.val p.val).trnRun.isSome then (s.engineCompared h.val p.val c.errs).engineTrained h.val p.val c.eyes else s) = s := by
      rw [hgen, hrun]
      rfl
    exact (next_done_congr hstay).trans (congrArg Host.Outcome.next (done_of_idle hi))
  · exact (next_done_congr (retrainDue_at_tick hsr hstart hhalt hover)).trans (congrArg Host.Outcome.next (setPc_done hi ..))
  · exact (next_done_congr (retrainDue_early hearly)).trans (congrArg Host.Outcome.next (done_of_idle hi))
  · exact exec_retrainPause_of_wanted hi hwant href hhalt hnbr hyield
  · obtain ⟨t, hexec, hnone, hlast, hretry, hfails, hcount, htrim, hregs, hothers, hshape⟩ :=
      exec_retrainPauseEnd_passed hi (retrainPauseEnd_of_over hfrom hover hwide hnext) hdrift
    refine ⟨t, hexec, hnone, hlast, hretry, hfails, hcount, fun lane hlane _ => ?_, hregs, hothers, hshape⟩
    exact (congrArg TrimRec.delay (htrim lane hlane)).trans (moved_delay ..)
  · exact exec_retrainPauseEnd_failed hi (retrainPauseEnd_of_over hfrom hover hwide hnext)

end Sys2Proof.Machine
end

section
/-! SUPPORT. Command parity alerts and the replay: what an alert stops, one command of a replay, and its end (R239 to R243). -/

namespace Sys2Proof.Machine

/-! ## The retry buffer is trimmed (R239) -/

section
variable {s t : State} {h p : Nat}

theorem retryTrim_pcOnly (hp : p < 96) : s.PcOnly (s.retryTrim h p) h p := by
  rcases retryTrim_parts s h p with hkeep | ⟨retry, rows, htrim, -⟩
  · rw [hkeep]
    exact ⟨⟨_, rfl⟩, fun _ _ _ _ => rfl⟩
  · rw [htrim]
    exact setPc_pcOnly hp _

/-- The trim leaves all of a pseudo-channel but its retry buffer and the rows open before it. -/
theorem retryTrim_pc (s : State) (h p : Nat) : ∃ retry rows, (s.retryTrim h p).pc h p = { s.pc h p with retry := retry, retryOpen := rows } := by
  rcases retryTrim_parts s h p with hkeep | ⟨retry, rows, htrim, -⟩
  · rw [hkeep]
    exact ⟨_, _, rfl⟩
  · rw [htrim]
    exact ⟨retry, rows, pc_setPc_self ..⟩

/-- What is trimmed depends on the pseudo-channel itself, the configuration and the time. -/
theorem retryTrim_pc_congr (hst : s.PcsRegsOnly t) (hpc : t.pc h p = s.pc h p) : (t.retryTrim h p).pc h p = (s.retryTrim h p).pc h p := by
  obtain ⟨R, P, rfl⟩ := hst
  have hprofile : State.profileOf { s with regs := R, pcs := P } h p = s.profileOf h p := rfl
  have htiming (n : Nat) : State.timingOf { s with regs := R, pcs := P } h p n = s.timingOf h p n := rfl
  have hcyc : State.cyc { s with regs := R, pcs := P } = s.cyc := rfl
  unfold State.retryTrim
  rw [hprofile, hpc, htiming, hcyc]
  split
  · dsimp only
    split_ifs
    · exact hpc
    · exact (pc_setPc_self ..).trans (pc_setPc_self ..).symm
  · exact hpc

end

/-! ## PARITY_ALERT (R240, R242, R243) -/

section
variable (x : PcSt)

theorem cutPause_pauseFrom : x.cutPause.pauseFrom = none := by
  unfold PcSt.cutPause
  split
  · next hnone => exact Option.isNone_iff_eq_none.mp hnone
  · rfl

theorem cutPause_replay : x.cutPause.replay = x.replay := by
  unfold PcSt.cutPause
  split <;> rfl

theorem cutPause_retry : x.cutPause.retry = x.retry ∧ x.cutPause.retryOpen = x.retryOpen := by
  unfold PcSt.cutPause
  split <;> exact ⟨rfl, rfl⟩

theorem cutPause_queue : x.cutPause.queue = x.queue := by
  unfold PcSt.cutPause
  split <;> rfl

/-- A pseudo-channel with no replay under way after an alert: it waits to replay what its buffer holds. -/
def PcSt.alerted (x : PcSt) (now len : Nat) : PcSt := x.cutPause.beginReplay now now len x.retryOpen x.retry

end

section
variable {s : State} {h p len : Nat}

theorem alert_of_no_replay (hp : p < 96) (hnone : (s.pc h p).replay = none) :
    s.alert h p len = ((s.retryTrim h p).setPc h p (((s.retryTrim h p).pc h p).alerted s.cyc len)).wr .PC_REPLAY_STREAK h p 0 0 := by
  obtain ⟨retry, rows, hpc⟩ := retryTrim_pc s h p
  have hidle : ((s.retryTrim h p).pc h p).cutPause.replay = none := by rw [cutPause_replay, hpc, hnone]
  have hcyc : (s.retryTrim h p).cyc = s.cyc := by rw [(retryTrim_pcOnly hp).eq]; rfl
  obtain ⟨hretry, hrows⟩ := cutPause_retry ((s.retryTrim h p).pc h p)
  simp only [State.alert, hidle, hcyc, hretry, hrows]
  rfl

/-- An alert changes its pseudo-channel and STREAK, which a replay under way raises. -/
theorem alert_parts (hp : p < 96) : ∃ y n, s.alert h p len = ((s.retryTrim h p).setPc h p y).wr .PC_REPLAY_STREAK h p 0 n ∧
    ((s.pc h p).replay.isSome = true → n = min 7 (s.rd .PC_REPLAY_STREAK h p 0 + 1)) := by
  obtain ⟨retry, rows, hpc⟩ := retryTrim_pc s h p
  have hreplay : ((s.retryTrim h p).pc h p).cutPause.replay = (s.pc h p).replay := by rw [cutPause_replay, hpc]
  have hrd : (s.retryTrim h p).rd .PC_REPLAY_STREAK h p 0 = s.rd .PC_REPLAY_STREAK h p 0 := by rw [(retryTrim_pcOnly hp).eq]; rfl
  cases hr : (s.pc h p).replay with
  | none => exact ⟨_, 0, alert_of_no_replay hp hr, fun hsome => absurd hsome (by simp)⟩
  | some r =>
    rw [hr] at hreplay
    simp only [State.alert, hreplay, hrd]
    exact ⟨_, _, rfl, fun _ => rfl⟩

theorem alert_pcRegsOnly (hp : p < 96) : s.PcRegsOnly (s.alert h p len) h p := by
  obtain ⟨y, n, halert, -⟩ := alert_parts (s := s) (h := h) (len := len) hp
  rw [halert]
  exact ((retryTrim_pcOnly hp).trans (setPc_pcOnly hp y)).pcRegsOnly.trans (State.RegsOnly.refl _).wr.pcRegsOnly

theorem alert_rd (hp : p < 96) {f : Fld} {d i j : Nat} (hne : (⟨.PC_REPLAY_STREAK, h, p, 0⟩ : FKey) ≠ ⟨f, d, i, j⟩) :
    (s.alert h p len).rd f d i j = s.rd f d i j := by
  obtain ⟨y, n, halert, -⟩ := alert_parts (s := s) (h := h) (len := len) hp
  rw [halert, State.rd_wr_ne _ hne, (retryTrim_pcOnly hp).eq]
  rfl

theorem alert_regsBut (hp : p < 96) : s.RegsBut (s.alert h p len) [.PC_REPLAY_STREAK] :=
  fun _ _ _ _ hf => alert_rd hp fun hkey => hf (List.mem_singleton.mpr (congrArg FKey.f hkey).symm)

/-- The first alert: the replay waits, and no replay in succession has been ended. -/
theorem alert_pc_of_no_replay (hp : p < 96) (hnone : (s.pc h p).replay = none) :
    (s.alert h p len).pc h p = ((s.retryTrim h p).pc h p).alerted s.cyc len ∧ (s.alert h p len).rd .PC_REPLAY_STREAK h p 0 = 0 := by
  rw [alert_of_no_replay hp hnone]
  exact ⟨pc_setPc_self .., State.rd_wr_self ..⟩

/-- An alert during a replay ends one more in succession. -/
theorem alert_streak_of_replay (hp : p < 96) (hsome : (s.pc h p).replay.isSome = true) :
    (s.alert h p len).rd .PC_REPLAY_STREAK h p 0 = min 7 (s.rd .PC_REPLAY_STREAK h p 0 + 1) := by
  obtain ⟨y, n, halert, hn⟩ := alert_parts (s := s) (h := h) (len := len) hp
  rw [halert, State.rd_wr_self, hn hsome]

theorem haltReplay_pcRegsOnly (hp : p < 96) : s.PcRegsOnly (s.haltReplay h p) h p :=
  ((setPc_pcOnly hp _).trans (setPc_pcOnly hp _)).pcRegsOnly.trans (State.RegsOnly.refl _).flag.pcRegsOnly

theorem haltReplay_pc (s : State) (h p : Nat) : ((s.haltReplay h p).pc h p).replay = none ∧ ((s.haltReplay h p).pc h p).trnHalted = true := by
  have hpc := haltPc_pc (s.setPc h p { s.pc h p with replay := none }) h p
  rw [pc_setPc_self] at hpc
  unfold State.haltReplay
  rw [hpc]
  exact ⟨rfl, rfl⟩

theorem haltReplay_rd (s : State) (h p : Nat) : (s.haltReplay h p).rd .HUB_INT_STATUS_PC_HALT h 0 0 = 1 := State.rd_wr_self ..

end

/-- Both pseudo-channels of a channel after an alert (R240). -/
def State.alerted (s : State) (h n len : Nat) : State := (s.alert h (2 * n) len).alert h (2 * n + 1) len

section
variable {s : State} {h n len : Nat} {f : ProfileCfg}

theorem parityAlert_of_parity (hprofile : s.profileOf h (2 * n) = some f) (hparity : f.parity = true) :
    s.parityAlert h n len = if (s.alerted h n len).replaysFail h (2 * n) || (s.alerted h n len).replaysFail h (2 * n + 1) then
      ((s.alerted h n len).haltReplay h (2 * n)).haltReplay h (2 * n + 1) else s.alerted h n len := by
  have hon : ((s.profileOf h (2 * n)).map (·.parity)).getD false = true := by rw [hprofile]; exact hparity
  exact if_pos hon

theorem parityAlert_of_no_parity (hprofile : s.profileOf h (2 * n) = some f) (hparity : f.parity = false) : s.parityAlert h n len = s := by
  have hoff : ((s.profileOf h (2 * n)).map (·.parity)).getD false = false := by rw [hprofile]; exact hparity
  exact if_neg (by simp [hoff])

variable (hn : n < 48)
include hn

theorem alerted_pcsRegsOnly : s.PcsRegsOnly (s.alerted h n len) :=
  (alert_pcRegsOnly (by omega)).1.trans (alert_pcRegsOnly (by omega)).1

/-- Neither pseudo-channel replays: both hold the replay of what their own buffers hold. -/
theorem alerted_of_no_replay (heven : (s.pc h (2 * n)).replay = none) (hodd : (s.pc h (2 * n + 1)).replay = none) {p : Nat}
    (hp : p = 2 * n ∨ p = 2 * n + 1) :
    (s.alerted h n len).pc h p = ((s.retryTrim h p).pc h p).alerted s.cyc len ∧ (s.alerted h n len).rd .PC_REPLAY_STREAK h p 0 = 0 := by
  obtain ⟨hfirst, hothers⟩ := alert_pcRegsOnly (s := s) (h := h) (p := 2 * n) (len := len) (by omega)
  have hkept : (s.alert h (2 * n) len).pc h (2 * n + 1) = s.pc h (2 * n + 1) := hothers h (2 * n + 1) (by omega) (by simp)
  rcases hp with rfl | rfl
  · obtain ⟨hpc, hstreak⟩ := alert_pc_of_no_replay (len := len) (by omega) heven
    obtain ⟨-, hothers'⟩ := alert_pcRegsOnly (s := s.alert h (2 * n) len) (h := h) (p := 2 * n + 1) (len := len) (by omega)
    exact ⟨(hothers' h (2 * n) (by omega) (by simp)).trans hpc, (alert_rd (by omega) (by simp)).trans hstreak⟩
  · obtain ⟨hpc, hstreak⟩ := alert_pc_of_no_replay (s := s.alert h (2 * n) len) (p := 2 * n + 1) (len := len) (by omega) (by rw [hkept]; exact hodd)
    have hcyc : (s.alert h (2 * n) len).cyc = s.cyc := by rw [hfirst.eq]; rfl
    rw [retryTrim_pc_congr hfirst hkept, hcyc] at hpc
    exact ⟨hpc, hstreak⟩

end

section
variable {s : State} {h : Hub} {n : Chan} {len : Nat} {f : ProfileCfg} (hi : s.Idle) (hprofile : s.profileOf h.val (2 * n.val) = some f) (hparity : f.parity = true)
include hi hprofile hparity

theorem exec_parityAlert_first (heven : (s.pc h.val (2 * n.val)).replay = none) (hodd : (s.pc h.val (2 * n.val + 1)).replay = none) :
    exec (.parityAlert h { chan := n, cclk := len }) s = .next (s.alerted h.val n.val len) := by
  have hfew (p : Nat) (hp : p = 2 * n.val ∨ p = 2 * n.val + 1) : (s.alerted h.val n.val len).replaysFail h.val p = false := by
    obtain ⟨-, hstreak⟩ := alerted_of_no_replay (len := len) n.isLt heven hodd hp
    rw [State.replaysFail, hstreak]
    rfl
  have hgo := parityAlert_of_parity (len := len) hprofile hparity
  rw [hfew _ (.inl rfl), hfew _ (.inr rfl)] at hgo
  exact (next_done_congr hgo).trans (congrArg Host.Outcome.next ((alerted_pcsRegsOnly n.isLt).done hi))

/-- The fourth replay in succession that an alert ends: both pseudo-channels are halted (R242). -/
theorem exec_parityAlert_fourth (hsome : (s.pc h.val (2 * n.val)).replay.isSome = true) (hstreak : 3 ≤ s.rd .PC_REPLAY_STREAK h.val (2 * n.val) 0) :
    ∃ t : State, exec (.parityAlert h { chan := n, cclk := len }) s = .next t ∧ t.rd .HUB_INT_STATUS_PC_HALT h.val 0 0 = 1 ∧ t.mem = s.mem ∧ t.fuse = s.fuse ∧
      ∀ p, p = 2 * n.val ∨ p = 2 * n.val + 1 → (t.pc h.val p).replay = none ∧ (t.pc h.val p).trnHalted = true := by
  have hlt := n.isLt
  have hstreak' : (s.alerted h.val n.val len).rd .PC_REPLAY_STREAK h.val (2 * n.val) 0 = min 7 (s.rd .PC_REPLAY_STREAK h.val (2 * n.val) 0 + 1) :=
    (alert_rd (p := 2 * n.val + 1) (by omega) (by simp)).trans (alert_streak_of_replay (p := 2 * n.val) (by omega) hsome)
  have hfail : (s.alerted h.val n.val len).replaysFail h.val (2 * n.val) = true := by
    rw [State.replaysFail, hstreak']
    exact decide_eq_true (by omega)
  have hgo := parityAlert_of_parity (len := len) hprofile hparity
  rw [hfail, Bool.true_or, if_pos rfl] at hgo
  have hfirst := haltReplay_pcRegsOnly (s := s.alerted h.val n.val len) (h := h.val) (p := 2 * n.val) (by omega)
  have hsecond := haltReplay_pcRegsOnly (s := (s.alerted h.val n.val len).haltReplay h.val (2 * n.val)) (h := h.val) (p := 2 * n.val + 1) (by omega)
  have hshape := ((alerted_pcsRegsOnly (s := s) (h := h.val) (len := len) n.isLt).trans hfirst.1).trans hsecond.1
  refine ⟨_, (next_done_congr hgo).trans (congrArg Host.Outcome.next (hshape.done hi)), haltReplay_rd .., ?_, ?_, fun p hp => ?_⟩
  · rw [hshape.eq]
  · rw [hshape.eq]
  · rcases hp with rfl | rfl
    · rw [hsecond.2 h.val (2 * n.val) (by omega) (by simp)]
      exact haltReplay_pc ..
    · exact haltReplay_pc ..

end

/-! ## A command of a replay issues (R182, R240, R241) -/

/-- A pseudo-channel's replay stands as given. -/
def State.setReplay (s : State) (h p : Nat) (r : Option ReplaySt) : State := s.setPc h p { s.pc h p with replay := r }

/-- A command that serves no pointer: its issue sends its words and nothing else outside, and leaves the stacks. -/
theorem issue_grantKept (s : State) (h p : Nat) (w : Wanted) (who : Issuer) (raw : Bool) :
    (s.emit (.stackCmd h p w.e.column (s.cmdWords h p w))).GrantKept (s.issue h p w who none raw) h p := by
  unfold State.issue
  simp only [Option.bind_none]
  generalize hT : State.drive _ h p w.e _ = t
  have hdriven : (s.emit (.stackCmd h p w.e.column (s.cmdWords h p w))).GrantKept t h p := by
    rw [← hT]
    exact drive_grantKept ..
  refine hdriven.trans ?_
  split
  case h_1 =>
    have hcounted := countTally_grantKept t h p .PC_SEQ_CNT_ACTS top32 0x05 []
    split
    · refine hcounted.trans ?_
      generalize State.tally _ h 0x05 (some p) [] none 1 = v
      split
      · exact setRow_grantKept ..
      · exact (setRow_grantKept ..).trans (countAct_grantKept ..)
    · exact hcounted
  case h_2 =>
    split
    · exact setRow_grantKept ..
    · exact .refl ..
  case h_3 => exact setPc_grantKept rfl closeAll_ptrs_nil
  case h_6 => exact (State.RegsOnly.refl t).count.grantKept.trans (setPc_grantKept rfl id)
  case h_7 =>
    split
    · exact setPc_grantKept rfl fun hx => leaveSr_ptrs_nil hx _ _
    · exact setPc_grantKept rfl id
  case h_8 => exact countTally_grantKept t h p ..
  case h_9 => exact countTally_grantKept t h p ..
  all_goals exact .refl ..

/-- A held command is driven again with its own words (R241). -/
theorem drive_held_grantKept (s : State) (h p : Nat) (e : CmdEntry) (y : RetryEnt) :
    (s.emit (.stackCmd h p e.column y.words)).GrantKept (s.drive h p e { y with at_ := s.cyc }) h p := by
  refine ⟨⟨s.regs, _, rfl⟩, ?_⟩
  have hpc : (s.drive h p e { y with at_ := s.cyc }).pc h p =
      { s.pc h p with hist := { at_ := s.cyc, tclass := e.tclass, bank := y.bank } :: (s.pc h p).hist,
                      rowBusy := if e.column then (s.pc h p).rowBusy else s.cyc + e.words, colBusy := if e.column then s.cyc + e.words else (s.pc h p).colBusy,
                      lastCode := e.code, retry := (s.pc h p).retry ++ [{ y with at_ := s.cyc }] } := pc_setPc_self ..
  rw [hpc]
  exact ⟨rfl, id⟩

/-- The write's data goes to the stacks; every other held command changes registers and pseudo-channels alone. -/
theorem reissue_parts (s : State) (h p : Nat) (e : CmdEntry) (y : RetryEnt) :
    ∃ R P M, s.reissue h p e y = { s.emit (.stackCmd h p e.column y.words) with regs := R, pcs := P, mem := M } ∧
      (y.raw = true ∨ e.effect ≠ 5 → M = s.mem) := by
  have hdriven := drive_held_grantKept s h p e y
  have hkeeps {t : State} (ht : (s.drive h p e { y with at_ := s.cyc }).GrantKept t h p) :
      ∃ R P M, t = { s.emit (.stackCmd h p e.column y.words) with regs := R, pcs := P, mem := M } ∧ (y.raw = true ∨ e.effect ≠ 5 → M = s.mem) := by
    obtain ⟨⟨R, P, rfl⟩, -⟩ := hdriven.trans ht
    exact ⟨R, P, s.mem, rfl, fun _ => rfl⟩
  unfold State.reissue
  generalize s.drive h p e { y with at_ := s.cyc } = t at hdriven hkeeps ⊢
  dsimp only
  split
  case h_1 =>
    have hcounted := countTally_grantKept t h p .PC_SEQ_CNT_ACTS top32 0x05 []
    split
    · exact hkeeps (hcounted.trans (setRow_grantKept ..))
    · exact hkeeps ((hcounted.trans (setRow_grantKept ..)).trans (countAct_grantKept ..))
  case h_2 => exact hkeeps (setRow_grantKept ..)
  case h_3 => exact hkeeps (setPc_grantKept rfl closeAll_ptrs_nil)
  case h_4 =>
    split
    · exact hkeeps (setPc_grantKept rfl id)
    · exact hkeeps (.refl ..)
  case h_5 hwrite =>
    have hno : ¬(y.raw = true ∨ e.effect ≠ 5) := by
      rintro (hraw | heffect)
      · simp [hraw] at hwrite
      · split at hwrite
        · exact absurd hwrite (by decide)
        · exact heffect hwrite
    obtain ⟨⟨R, P, rfl⟩, -⟩ := hdriven
    split
    · exact ⟨R, P, _, rfl, fun hraw => absurd hraw hno⟩
    · exact ⟨R, P, _, rfl, fun hraw => absurd hraw hno⟩
  case h_6 => exact hkeeps (countTally_grantKept t h p ..)
  case h_7 => exact hkeeps (countTally_grantKept t h p ..)
  case h_8 => exact hkeeps (.refl ..)

/-! ## REPLAY (R240) -/

section
variable {u : State} {h p : Nat} {r : ReplaySt} {f : ProfileCfg} {e : CmdEntry} (hprofile : u.profileOf h p = some f)
include hprofile

theorem replayClose_issues (hcmd : f.cmdByEffect 3 = some e) (hwaited : u.replayWaited h p r = true) (hdue : u.emergBank h p = none)
    (hruns : (u.pc h p).emergRuns = false) (hfree : (u.pc h p).slotFree u.cyc e.column = true) (hlegal : u.legal h p e.tclass none = true) :
    u.replayClose h p r = (u.issue h p ⟨e, ⟨0, 0, 0, 0, 0⟩⟩ .replay none).setReplay h p (some { r with phase := 2, ready := true }) := by
  simp only [State.replayClose, hprofile, Option.bind_some, hcmd, hwaited, hdue, hruns, hfree, hlegal]
  rfl

theorem replayClose_waits (hcmd : f.cmdByEffect 3 = some e) (hnot : (u.pc h p).slotFree u.cyc e.column = false ∨ u.replayWaited h p r = false) :
    u.replayClose h p r = u := by
  simp only [State.replayClose, hprofile, Option.bind_some, hcmd]
  exact if_neg (by rcases hnot with hbusy | hearly <;> simp [*])

theorem replayRestore_issues {b row : Nat} {rest : List (Nat × Nat)} (hcmd : f.cmdByEffect 1 = some e)
    (hfree : (u.pc h p).slotFree u.cyc e.column = true) (hlegal : u.legal h p e.tclass (some b) = true) :
    u.replayRestore h p b row rest r = (u.issue h p ⟨e, ⟨b, row, 0, 0, 0⟩⟩ .replay none).setReplay h p (some { r with restore := rest }) := by
  simp only [State.replayRestore, hprofile, Option.bind_some, hcmd, hfree, hlegal]
  rfl

theorem replayRestore_waits {b row : Nat} {rest : List (Nat × Nat)} (hcmd : f.cmdByEffect 1 = some e) (hbusy : (u.pc h p).slotFree u.cyc e.column = false) :
    u.replayRestore h p b row rest r = u := by
  simp only [State.replayRestore, hprofile, Option.bind_some, hcmd]
  exact if_neg (by simp [hbusy])

theorem replayNext_issues {y : RetryEnt} {rest : List RetryEnt} (hcmd : f.cmd y.code = some e) (hfree : (u.pc h p).slotFree u.cyc e.column = true)
    (hlegal : u.legal h p e.tclass y.bank = true) :
    u.replayNext h p y rest r = (u.reissue h p e y).setReplay h p (some { r with held := rest }) := by
  simp only [State.replayNext, hprofile, Option.bind_some, hcmd, hfree, hlegal]
  rfl

theorem replayNext_waits {y : RetryEnt} {rest : List RetryEnt} (hcmd : f.cmd y.code = some e) (hbusy : (u.pc h p).slotFree u.cyc e.column = false) :
    u.replayNext h p y rest r = u := by
  simp only [State.replayNext, hprofile, Option.bind_some, hcmd]
  exact if_neg (by simp [hbusy])

end

theorem retryFull_of_room {s : State} {h p : Nat} (hroom : (s.pc h p).retry.length < 64) : s.retryFull h p = false :=
  decide_eq_false (Nat.not_le.mpr hroom)

section
variable {s : State} {h p : Nat} {r : ReplaySt} (hreplay : ((s.retryTrim h p).pc h p).replay = some r) (hroom : ((s.retryTrim h p).pc h p).retry.length < 64)
include hreplay hroom

theorem replayStep_close (hphase : r.phase = 0) : s.replayStep h p = (s.retryTrim h p).replayClose h p r := by
  simp only [State.replayStep, hreplay, retryFull_of_room hroom, Bool.false_eq_true, if_false, if_pos hphase]

theorem replayStep_restore (hphase : r.phase ≠ 0) {b row : Nat} {rest : List (Nat × Nat)} (hrestore : r.restore = (b, row) :: rest) :
    s.replayStep h p = (s.retryTrim h p).replayRestore h p b row rest r := by
  simp only [State.replayStep, hreplay, retryFull_of_room hroom, Bool.false_eq_true, if_false, if_neg hphase, hrestore]

theorem replayStep_next (hphase : r.phase ≠ 0) (hrestore : r.restore = []) {y : RetryEnt} {rest : List RetryEnt} (hheld : r.held = y :: rest) :
    s.replayStep h p = (s.retryTrim h p).replayNext h p y rest r := by
  simp only [State.replayStep, hreplay, retryFull_of_room hroom, Bool.false_eq_true, if_false, if_neg hphase, hrestore, hheld]

end

section
variable {s : State} {h : Hub} {p : Pc} (hi : s.Idle)
include hi

theorem exec_replay_waits (hstep : s.replayStep h.val p.val = s.retryTrim h.val p.val) : exec (.replay h p) s = .next (s.retryTrim h.val p.val) :=
  (next_done_congr hstep).trans (congrArg Host.Outcome.next ((retryTrim_pcOnly p.isLt).done hi))

/-- A REPLAY that drives a command: what it leaves, whatever the command does to registers, the pseudo-channel and the stacks. -/
theorem exec_replay_drives {t : State} {column : Bool} {words : BitVec 44} {r : Option ReplaySt} (hstep : s.replayStep h.val p.val = t.setReplay h.val p.val r)
    {M : List Host.Cell} (ht : ∃ R P, t = { (s.retryTrim h.val p.val).emit (.stackCmd h.val p.val column words) with regs := R, pcs := P, mem := M }) :
    exec (.replay h p) s = .next (t.setReplay h.val p.val r) ∧ ((t.setReplay h.val p.val r).pc h.val p.val).replay = r ∧
      (t.setReplay h.val p.val r).out = s.out ++ [.stackCmd h.val p.val column words] ∧ (t.setReplay h.val p.val r).mem = M ∧
      (t.setReplay h.val p.val r).fuse = s.fuse := by
  obtain ⟨R, P, rfl⟩ := ht
  have hpc := pc_setPc_self { (s.retryTrim h.val p.val).emit (.stackCmd h.val p.val column words) with regs := R, pcs := P, mem := M } h.val p.val
  obtain ⟨⟨Q, htrim⟩, -⟩ := retryTrim_pcOnly (s := s) (h := h.val) p.isLt
  refine ⟨(next_done_congr hstep).trans (congrArg Host.Outcome.next ?_), ?_, ?_, rfl, ?_⟩
  · rw [htrim]
    exact done_of_eq hi rfl rfl rfl rfl rfl rfl rfl rfl
  · rw [State.setReplay, hpc]
  · rw [htrim]
    rfl
  · rw [htrim]
    rfl

theorem exec_replay_issues {w : Wanted} {r : Option ReplaySt}
    (hstep : s.replayStep h.val p.val = ((s.retryTrim h.val p.val).issue h.val p.val w .replay none).setReplay h.val p.val r) :
    ∃ t : State, exec (.replay h p) s = .next t ∧ (t.pc h.val p.val).replay = r ∧
      t.out = s.out ++ [.stackCmd h.val p.val w.e.column ((s.retryTrim h.val p.val).cmdWords h.val p.val w)] ∧ t.mem = s.mem ∧ t.fuse = s.fuse := by
  obtain ⟨⟨R, P, hissued⟩, -⟩ := issue_grantKept (s.retryTrim h.val p.val) h.val p.val w .replay false
  obtain ⟨hexec, hr, hout, hmem, hfuse⟩ := exec_replay_drives hi hstep ⟨R, P, hissued⟩
  exact ⟨_, hexec, hr, hout, hmem.trans ((congrArg State.mem (retryTrim_pcOnly (s := s) (h := h.val) p.isLt).eq :)), hfuse⟩

theorem exec_replay_reissues {e : CmdEntry} {y : RetryEnt} {r : Option ReplaySt}
    (hstep : s.replayStep h.val p.val = ((s.retryTrim h.val p.val).reissue h.val p.val e y).setReplay h.val p.val r) :
    ∃ t : State, exec (.replay h p) s = .next t ∧ (t.pc h.val p.val).replay = r ∧
      t.out = s.out ++ [.stackCmd h.val p.val e.column y.words] ∧ (y.raw = true ∨ e.effect ≠ 5 → t.mem = s.mem) ∧ t.fuse = s.fuse := by
  obtain ⟨R, P, M, hissued, hM⟩ := reissue_parts (s.retryTrim h.val p.val) h.val p.val e y
  obtain ⟨hexec, hr, hout, hmem, hfuse⟩ := exec_replay_drives hi hstep ⟨R, P, hissued⟩
  refine ⟨_, hexec, hr, hout, fun hkeeps => ?_, hfuse⟩
  rw [hmem, hM hkeeps]
  exact (congrArg State.mem (retryTrim_pcOnly (s := s) (h := h.val) p.isLt).eq :)

end

/-! ## REPLAY_END (R242) -/

/-- A replay that began at CCLK `start` is over, and counted. -/
def State.replayOver (s : State) (h p start : Nat) : State :=
  (((s.setReplay h p none).count .PC_REPLAY_COUNT top16 h p 0 1).wr .PC_REPLAY_STREAK h p 0 0).wr .PC_REPLAY_LAST_CCLK h p 0 (min 4095 (s.cyc - start))

/-- The fields that the end of a replay writes. -/
def replayFlds : List Fld := [.PC_REPLAY_STREAK, .PC_REPLAY_COUNT, .PC_REPLAY_LAST_CCLK, .TRC_STATUS_LOST, .CNT_VALUE_VALUE, .CNT_CFG_OVF]

section
variable (s : State) (h p start : Nat)

theorem setReplay_regsBut (r : Option ReplaySt) (l : List Fld) : s.RegsBut (s.setReplay h p r) l := fun _ _ _ _ _ => rfl

theorem replayOver_regsOnly : (s.setReplay h p none).RegsOnly (s.replayOver h p start) := (State.RegsOnly.refl _).count.wr.wr

theorem replayOver_regsBut : s.RegsBut (s.replayOver h p start) replayFlds :=
  (((setReplay_regsBut s h p none _).count (by decide)).wr (by decide)).wr (by decide)

theorem replayOver_pc : (s.replayOver h p start).pc h p = { s.pc h p with replay := none } :=
  ((replayOver_regsOnly s h p start).pc h p).trans (pc_setPc_self ..)

theorem replayOver_rds : (s.replayOver h p start).rd .PC_REPLAY_STREAK h p 0 = 0 ∧
    (s.replayOver h p start).rd .PC_REPLAY_COUNT h p 0 = min 65535 (s.rd .PC_REPLAY_COUNT h p 0 + 1) ∧
    (s.replayOver h p start).rd .PC_REPLAY_LAST_CCLK h p 0 = min 4095 (s.cyc - start) := by
  refine ⟨(State.rd_wr_fld _ (by decide)).trans (State.rd_wr_self ..), ?_, State.rd_wr_self ..⟩
  exact (State.rd_wr_fld _ (by decide)).trans ((State.rd_wr_fld _ (by decide)).trans (count_rd ..))

/-- The record and the counters of an end leave the registers of the replay. -/
theorem replayTold_parts (n : Nat) :
    (∃ R T, (s.traceHub h 0x0B 0 p [n]).tally h 0x0D (some p) [] none 1 = { s with regs := R, tracers := T }) ∧
      s.RegsBut ((s.traceHub h 0x0B 0 p [n]).tally h 0x0D (some p) [] none 1) [.TRC_STATUS_LOST, .CNT_VALUE_VALUE, .CNT_CFG_OVF] := by
  obtain ⟨⟨R, T, htraced⟩, hregs⟩ := pushTrace_traced s h { time := s.time64, typ := 0x0B, die := h, cas := 0, unit := p, payload := [n] }
  obtain ⟨R', htally⟩ := State.tally_regsOnly (s.traceHub h 0x0B 0 p [n]) h 0x0D (some p) [] none 1
  refine ⟨⟨R', T, htally.trans ?_⟩, (hregs.mono (by decide)).trans ((tally_regsBut (s.traceHub h 0x0B 0 p [n]) h 0x0D (some p) [] none 1).mono (by decide))⟩
  exact (congrArg (fun t : State => { t with regs := R' }) htraced :)

end

theorem replayEnd_of_over {s : State} {h p : Nat} {r : ReplaySt} (hreplay : (s.pc h p).replay = some r) (hphase : r.phase = 2) (hrestore : r.restore = [])
    (hheld : r.held = []) : s.replayEnd h p = ((s.replayOver h p r.start).traceHub h 0x0B 0 p [s.cyc - r.start]).tally h 0x0D (some p) [] none 1 := by
  simp only [State.replayEnd, hreplay]
  exact if_pos ⟨hphase, hrestore, hheld⟩

theorem exec_replayEnd_of_over {s : State} {h : Hub} {p : Pc} {r : ReplaySt} (hi : s.Idle) (hhinge : s.hinge.step = 0)
    (hreplay : (s.pc h.val p.val).replay = some r) (hphase : r.phase = 2) (hrestore : r.restore = []) (hheld : r.held = []) :
    ∃ t : State, exec (.replayEnd h p) s = .next t ∧ (t.pc h.val p.val).replay = none ∧ t.rd .PC_REPLAY_STREAK h.val p.val 0 = 0 ∧
      t.rd .PC_REPLAY_COUNT h.val p.val 0 = min 65535 (s.rd .PC_REPLAY_COUNT h.val p.val 0 + 1) ∧
      t.rd .PC_REPLAY_LAST_CCLK h.val p.val 0 = min 4095 (s.cyc - r.start) ∧ s.RegsBut t replayFlds ∧
      t = { s with regs := t.regs, pcs := t.pcs, tracers := t.tracers } := by
  obtain ⟨hstreak, hcount, hlast⟩ := replayOver_rds s h.val p.val r.start
  obtain ⟨Q, hover⟩ := replayOver_regsOnly s h.val p.val r.start
  obtain ⟨⟨R, T, htold⟩, hregs⟩ := replayTold_parts (s.replayOver h.val p.val r.start) h.val p.val (s.cyc - r.start)
  rw [← replayEnd_of_over hreplay hphase hrestore hheld] at htold hregs
  have hend : s.replayEnd h.val p.val = { s with regs := R, pcs := (s.setReplay h.val p.val none).pcs, tracers := T } := by
    rw [htold, hover]
    rfl
  have hpc : (s.replayEnd h.val p.val).pc h.val p.val = (s.replayOver h.val p.val r.start).pc h.val p.val := by
    rw [htold]
    rfl
  have htick : (s.replayEnd h.val p.val).hingeTick = s.replayEnd h.val p.val := hingeTick_of_no_hinge (by rw [hend]; exact hhinge)
  refine ⟨s.replayEnd h.val p.val, (next_done_congr htick).trans (congrArg Host.Outcome.next ?_), ?_, (hregs _ _ _ _ (by decide)).trans hstreak,
    (hregs _ _ _ _ (by decide)).trans hcount, (hregs _ _ _ _ (by decide)).trans hlast, (replayOver_regsBut s h.val p.val r.start).trans (hregs.mono (by decide)), ?_⟩
  · rw [hend]
    exact done_of_eq hi rfl rfl rfl rfl rfl rfl rfl rfl
  · rw [hpc, replayOver_pc]
  · rw [hend]

/-- Settles O41: an alert replaces each pseudo-channel's replay; a replay drives one command of its step or waits; its end is one update of registers. -/
theorem parityAlertsReplay : Obligations.ParityAlertsReplay := by
  refine ⟨fun s h n len hi => ⟨fun f hprofile hparity heven hodd => ?_, fun f hprofile hparity hsome hstreak => exec_parityAlert_fourth hi hprofile hparity hsome hstreak,
      fun f hprofile hparity => (next_done_congr (parityAlert_of_no_parity hprofile hparity)).trans (congrArg Host.Outcome.next (done_of_idle hi))⟩,
    fun s h p f e r hi hprofile => ?_,
    fun s h p r hi hhinge hreplay hphase hrestore hheld => exec_replayEnd_of_over hi hhinge hreplay hphase hrestore hheld⟩
  · have hshape := alerted_pcsRegsOnly (s := s) (h := h.val) (len := len) n.isLt
    have hregs : s.RegsBut (s.alerted h.val n.val len) [.PC_REPLAY_STREAK] := (alert_regsBut (by omega)).trans (alert_regsBut (by omega))
    refine ⟨_, exec_parityAlert_first hi hprofile hparity heven hodd, hshape.eq, hregs, fun p hp => ?_⟩
    obtain ⟨hpc, hzero⟩ := alerted_of_no_replay (len := len) n.isLt heven hodd hp
    obtain ⟨retry, rows, htrim⟩ := retryTrim_pc s h.val p
    rw [hpc]
    exact ⟨rfl, rfl, cutPause_pauseFrom _, (cutPause_queue _).trans (by rw [htrim]), hzero⟩
  · intro u hreplay hroom
    have htrim := (retryTrim_pcOnly (s := s) (h := h.val) p.isLt).eq
    have hprofile' : u.profileOf h.val p.val = some f := ((congrArg (State.profileOf · h.val p.val) htrim :)).trans hprofile
    have hcyc : u.cyc = s.cyc := (congrArg State.cyc htrim :)
    rw [← hcyc]
    refine ⟨fun hphase hcmd => ⟨fun hwaited hdue hruns hfree hlegal => ?_, fun hnot => ?_⟩,
      fun b row rest hphase hrestore hcmd => ⟨fun hfree hlegal => ?_, fun hbusy => ?_⟩,
      fun y rest hphase hrestore hheld hcmd => ⟨fun hfree hlegal => ?_, fun hbusy => ?_⟩⟩
    · exact exec_replay_issues hi ((replayStep_close hreplay hroom hphase).trans (replayClose_issues hprofile' hcmd hwaited hdue hruns hfree hlegal))
    · exact exec_replay_waits hi ((replayStep_close hreplay hroom hphase).trans (replayClose_waits hprofile' hcmd hnot))
    · exact exec_replay_issues hi ((replayStep_restore hreplay hroom hphase hrestore).trans (replayRestore_issues hprofile' hcmd hfree hlegal))
    · exact exec_replay_waits hi ((replayStep_restore hreplay hroom hphase hrestore).trans (replayRestore_waits hprofile' hcmd hbusy))
    · exact exec_replay_reissues hi ((replayStep_next hreplay hroom hphase hrestore hheld).trans (replayNext_issues hprofile' hcmd hfree hlegal))
    · exact exec_replay_waits hi ((replayStep_next hreplay hroom hphase hrestore hheld).trans (replayNext_waits hprofile' hcmd hbusy))

end Sys2Proof.Machine
end
